-- ==== Sys2Proof/Word.lean ====
section
/-!
DEFINITION. The word types of the module: a byte, the 16-bit word of the engines and sample paths, the 32-bit word of the
Shale registers and the system space (00_scope.md, R6, R7).
-/

namespace Sys2Proof

/-- One byte. -/
abbrev Byte := BitVec 8

/-- A 16-bit half word: engine addresses, pairs of engine registers, sample words. -/
abbrev Half := BitVec 16

/-- A 32-bit word: a Shale register, a system address. -/
abbrev Word := BitVec 32

end Sys2Proof
end

