-- ==== Sys2Proof/Syntax.lean ====
section
/-!
DEFINITION. The commands of the module: one constructor for each row of spec/opcode_table.json, in the table's order, with the
row's operands: what a requester names and what the environment supplies (a measured value, a received frame, the outcome of
a pulse). The table gives no row any bits.
-/

namespace Sys2Proof

/-- A requester of the fabric: 0-11 engine E0-E11, 12 HOST (R124, OWNER.ID). -/
abbrev Requester := Fin 13

/-- The parameter block of a call of the ROM flash routine, octets 1-11 (R474). -/
structure RomCall where
  flags : Byte
  len   : Half
  addr  : Word
  buf   : Half
  rsv   : Half
  deriving DecidableEq, Repr

/-- What the array does at a program (R470, R485): the pulses beyond the first over all pages, the pulses of the last page,
the page (counted from the first page touched) that fails verify after 4 pulses, and how many spares fail in turn. -/
structure ProgramResult where
  retries    : Nat
  pulses     : Nat
  failPage   : Option Nat
  spareFails : Nat
  deriving DecidableEq, Repr

/-- What the array does at an erase (R470, R484, R485): the pulses taken, the sector of a block (or sector 0) that fails
verify after 40 pulses, and how many spares fail in turn. -/
structure EraseResult where
  pulses     : Nat
  failSector : Option (Fin 16)
  spareFails : Nat
  deriving DecidableEq, Repr

/-- The second operand of a byte instruction (R389): a G register or the immediate of the extension word. -/
inductive Src8 where
  | reg (g : BitVec 3)
  | imm (v : Byte)
  deriving DecidableEq, Repr

/-- The second operand of a word or pointer instruction (R389): a register of two index bits, or the immediate. -/
inductive Src16 where
  | reg (n : BitVec 2)
  | imm (v : Half)
  deriving DecidableEq, Repr

/-- The addressing modes of R390. -/
inductive Ea where
  | ind (p : BitVec 2)
  | inc (p : BitVec 2)
  | dec (p : BitVec 2)
  | disp (p : BitVec 2) (d : Half)
  | abs (a : Half)
  | spDisp (d : Half)
  deriving DecidableEq, Repr

/-- A jump's target (R389): the immediate or a pointer. -/
inductive Target where
  | imm (a : Half)
  | ptr (p : BitVec 2)
  deriving DecidableEq, Repr

/-- The source of MOVWP (R389): a pointer or SP. -/
inductive PtrSrc where
  | ptr (p : BitVec 2)
  | sp
  deriving DecidableEq, Repr

/-- The second operand of a byte compare-and-branch with its word offset (R399). -/
inductive CbSrc where
  | reg (g : BitVec 3) (rel : Half)
  | imm (v : Byte) (rel : Byte)
  deriving DecidableEq, Repr

/-- The three media (R254): RF-A, RF-B, PLC. -/
inductive Medium where
  | rfA | rfB | plc
  deriving DecidableEq, Repr

/-- One of the two RF chains. -/
inductive Chain where
  | a | b
  deriving DecidableEq, Repr

/-- What a chain finds as a transmission starts: whether it is still settling (R167), the synthesiser's lock (R172), COEX_GNT at its sample
point (R182), the energy of the CCA in dBm where one is made (R179), the return loss, 0.25 dB per count (R176), and VBAK, 25 mV per count
(R69). -/
structure TxSample where
  settling : Bool
  lock : Bool
  gnt  : Bool
  cca  : Byte
  rl   : Byte
  vbak : Byte
  deriving DecidableEq, Repr

/-- The results of a chain's calibration run, step by step (R168); none is a step that missed its pass limit (R172). -/
structure CalResult where
  /-- Die temperature of the run, signed °C. -/
  temp : Byte
  xo   : Option Byte
  vco  : Option Half
  filt : Option Byte
  img  : Option (BitVec 10 × BitVec 10)
  dc   : Option (Half × Half)
  deriving DecidableEq, Repr

/-- The sync IE (R252, R275). -/
structure SyncIe where
  asn    : BitVec 40
  locked : Bool
  outage : Bool
  sleepy : Bool
  /-- CORR, signed µs, in acknowledgements. -/
  corr   : Option Half
  deriving DecidableEq, Repr

/-- The mesh IE (R318). -/
structure MeshIe where
  origin : Half
  final  : Half
  hops   : BitVec 5
  sr     : Bool
  bc     : Bool
  /-- With BC: BSEQ. With SR: IDX. -/
  idx    : Byte
  route  : List Half
  deriving DecidableEq, Repr

/-- What an IEEE 802.15.4 frame is (R283, R299, R304, R324). -/
inductive FrameKind where
  | data
  /-- A command, by its identifier: 0x01 Association Request, 0x02 Association Response, 0x04 Data Request. -/
  | command (id : Byte)
  | beacon
  | ack
  deriving DecidableEq, Repr

/-- A received frame as its fields spell (R193, R275, R277): what the air or the line brings is the environment's. -/
structure AirFrame where
  version : BitVec 2
  kind    : FrameKind
  pan     : Half
  /-- Extended source address, where the frame carries one. -/
  ext     : Option (BitVec 64)
  /-- Short source address, 0xFFFE with an extended one. -/
  src     : Half
  /-- Short destination address, 0xFFFF for a broadcast. -/
  dst     : Half
  seq     : Byte
  /-- Security level, 0 unsecured. -/
  level   : BitVec 3
  keyIdx  : Byte
  counter : Word
  /-- The MIC holds under the key of that index. -/
  mic     : Bool
  /-- The FCS holds. -/
  fcs     : Bool
  pending : Bool
  sync    : Option SyncIe
  /-- Tone-map IE content (R236). -/
  tone    : Option (List Byte)
  mesh    : Option MeshIe
  /-- Join IE content, sub-type first (R299, R304). -/
  join    : List Byte
  /-- MAC payload after the IEs. -/
  payload : List Byte
  /-- PSDU length in octets, FCS included. -/
  len     : BitVec 11
  deriving DecidableEq, Repr

/-- What a receiver measured over a frame (R200, R224, R249). -/
structure RxInfo where
  /-- RSSI in dBm on RF, level in dBµV on PLC. -/
  rssi  : Byte
  snr   : Byte
  /-- The timing error against the expected instant (R249), signed µs. -/
  error : Half
  /-- Slots that have begun since the first slot of the frame's cell. -/
  past  : BitVec 6
  deriving DecidableEq, Repr

/-- The header of a received PPDU (R188-R192): the length field, the whitening bit, a 2-octet FCS as the header signals it, the mode-switch
bit of SUN FSK, the MCS of SUN OFDM, bits [15:12] of a YM2 PHR, and whether the header check of IEEE 802.15.4 holds in the modes that have
one. -/
structure Phr where
  len    : BitVec 11
  white  : Bool
  fcs16  : Bool
  switch : Bool
  mcs    : BitVec 3
  upper  : BitVec 4
  ok     : Bool
  deriving DecidableEq, Repr

/-- A cell of the schedule (R254); `state` tells a cell still to start (0), in force (1), or to go at the next boundary (2). -/
structure Cell where
  idx    : Nat
  sf     : Nat
  slot   : Nat
  choff  : Nat
  len    : Nat
  type   : Nat
  nbr    : Nat
  txoff  : Nat
  profA  : Nat
  profB  : Nat
  media  : Nat
  outage : Bool
  migrated : Bool
  state  : Nat
  deriving DecidableEq, Repr

/-- An accepted frame's record (R287). -/
structure DupRec where
  seq : Nat
  ctr : Nat
  key : Nat
  bc  : Bool
  /-- The frame-pending bit of its acknowledgement (R287). -/
  pend : Bool
  deriving DecidableEq, Repr

/-- A neighbour (R259, R265, R276, R286, R287, R296). -/
structure Nbr where
  idx    : Nat
  ext    : Nat
  short  : Nat
  /-- 0 LEAF, 1 ROUTER, 2 COORDINATOR. -/
  role   : Nat
  wake   : Nat
  rank   : Nat
  hops   : Nat
  child  : Bool
  ym1    : Bool
  verified : Bool
  /-- 0 NONE, 1 SYNC, 2 UNSYNC, 3 LOST. -/
  sync   : Nat
  locked : Bool
  outage : Bool
  /-- SLEEPY in its last sync IE or declared at association. -/
  sleepy : Bool
  miss   : Nat
  /-- Delivery estimates on RF-A, RF-B, PLC, and the ASN of each one's last update. -/
  p      : List Nat
  upd    : List Nat
  /-- Unicast frames since the last probe. -/
  probe  : Nat
  /-- SYS.OPSEC of the last contact. -/
  seen   : Nat
  guard  : Nat
  /-- Running mean of its timing errors, and the last one (R249, R251), signed µs. -/
  err    : Int
  last   : Int
  resyncs : Nat
  txseq  : Nat
  be     : Nat
  bo     : Nat
  /-- High-water marks, (key index, mark), at most two (R282). -/
  hwm    : List (Nat × Nat)
  recs   : List DupRec
  /-- The mode in which the bank last received a frame from it; 0 none (R206). -/
  mode   : Nat
  /-- Declared poll interval of a sleepy child, and SYS.OPSEC of its last poll. -/
  pollS  : Nat
  polled : Nat
  /-- Its PAN (R316); it declared SLEEPY at association (R325); the ASN at which the response period after its poll ends (R324). -/
  pan    : Nat
  decl   : Bool
  respTo : Nat
  deriving DecidableEq, Repr

/-- An entry of the association and route table (R309); PRELOADED 1, PENDING 2, JOINED 3, a released one 0. -/
structure Assoc where
  idx    : Nat
  ext    : Nat
  parent : Nat
  keyIdx : Nat
  hops   : Nat
  state  : Nat
  router : Bool
  sleepy : Bool
  ym1    : Bool
  unreach : Bool
  stale  : Bool
  hwm    : Nat
  seen   : Nat
  pollS  : Nat
  joins  : Nat
  caps   : Nat
  /-- The ROUTER to answer while PENDING, 0 this node (R308). -/
  relay  : Nat
  wake   : Nat
  deriving DecidableEq, Repr

/-- A peer record of E6 (R329). -/
structure Peer where
  short   : Nat
  txSess  : Nat
  nextId  : Nat
  blockEnd : Nat
  cur     : Nat
  prev    : Nat
  high    : Nat
  /-- The taken IDs HIGH - 63 to HIGH: bit i for HIGH - i. -/
  map     : Nat
  /-- SYS.OPSEC of its last use. -/
  used    : Nat
  deriving DecidableEq, Repr

/-- A message of the store-and-forward queue (R334-R345). -/
structure Msg where
  /-- The queue record's number, in order of submission. -/
  num    : Nat
  /-- Submitter: 12 the host, else an engine; and its TAG. -/
  who    : Nat
  tag    : Nat
  dest   : Nat
  cls    : Nat
  kind   : Nat
  ptype  : Nat
  body   : List Byte
  /-- For RSP and EACK, the MSGID answered. -/
  answers : Nat
  sess   : Nat
  /-- 0 until admitted (R331). -/
  msgid  : Nat
  /-- SYS.OPSEC at submission. -/
  born   : Nat
  attempts : Nat
  /-- 0 waiting for its MSGID, 1 attempt running, 2 between attempts, 3 parked. -/
  phase  : Nat
  /-- Why it is parked: 1 no route, 2 not joined, 3 OUTAGE. -/
  parked : Nat
  /-- Fragments of the attempt not yet acknowledged on the first link, by OFFSET. -/
  left   : List Nat
  /-- Cells in a row that its fragments did not fit (R339). -/
  nofit  : Nat
  /-- Completion held while the DONE FIFO is full (R346). -/
  done   : Option Nat
  deriving DecidableEq, Repr

/-- What a Basalt COPY or RECORD frame carries: the whole new value of one object (R362, R366). -/
inductive Mirror where
  | config (page off : Byte) (w : Word)
  /-- A link key, wrapped under the pair key (R356); none for an erased slot. -/
  | key (slot : Fin 16) (idx : Byte) (wrapped : Option (List Byte))
  /-- The last value of a frame-counter block. -/
  | blockEnd (slot : Fin 16) (last : Word)
  | seqNo (nbr : Byte) (seq : Byte)
  | nbr (n : Nbr)
  | cell (c : Cell)
  | noCell (idx : BitVec 11)
  | assoc (e : Assoc)
  | salt (lo hi : BitVec 64)
  | message (m : Msg)
  | completion (num : Nat) (status : BitVec 4)
  | idBlock (short : Half) (last : Word)
  | peer (p : Peer)
  | offer (short sess : Half) (msgid : Word)
  | take (short sess : Half) (msgid : Word)
  | netaddr (addr : BitVec 64) (pan : Half)
  deriving DecidableEq, Repr

/-- A HELLO's payload (R358). -/
structure Hello where
  primary  : Bool
  prefer   : Bool
  ext      : BitVec 64
  netaddr  : BitVec 64
  asn      : BitVec 40
  takeover : Bool
  config   : Word
  check    : BitVec 64
  deriving DecidableEq, Repr

/-- A HEARTBEAT's payload (R358); `sees` is the state of this module as the partner sees it. -/
structure Heartbeat where
  asn     : BitVec 40
  slotUs  : Half
  timing  : BitVec 2
  role    : BitVec 2
  sees    : BitVec 3
  lastSeq : Half
  resv    : Half
  deriving DecidableEq, Repr

/-- One metering window's quantities as the mains side computes them (R555, R556), in the units of the METER page: V and I, real,
reactive and apparent power, frequency, distortion, the energy in whole mWh (of the sign of P), the clip flags and
whether zero crossings gave the window's ends. -/
structure MeterWindow where
  vrms   : Half
  irms   : BitVec 24
  p      : Word
  q      : Word
  pf     : Half
  freq   : Half
  thdv   : Half
  thdi   : Half
  energy : Word
  ovri   : Bool
  ovrv   : Bool
  zx     : Bool
  deriving DecidableEq, Repr

/-- The common part of a tag request (R568): its flags and the UID it carries where it is addressed. -/
structure TagReq where
  flags : Byte
  uid   : BitVec 64
  deriving DecidableEq, Repr

/-- One slot of a reader's inventory round: empty, one answer of a tag, or a collision. -/
inductive ReaderSlot where
  | empty
  | tag (uid : BitVec 64) (dsfid : Byte)
  | collision
  deriving DecidableEq, Repr

/-- What the reader receives by the end of an exchange (R579-R581): a response, a response with a bad CRC, a collision, or the
rounds of an inventory. -/
inductive ReaderEnd where
  | response (bytes : List Byte)
  | crcError
  | collision
  | rounds (r : List (List ReaderSlot))
  deriving DecidableEq, Repr

/-- One half-cycle as the mains side measures it (R59): its length in µs, its peak and RMS in V. -/
structure HalfCycle where
  us   : Half
  peak : Half
  rms  : Half
  deriving DecidableEq, Repr

/-- How an SPI read transaction runs (R143, R144): every word answered in time; the target of the word of that index is late; or
HSPI_CS rose before STATUS was sent. -/
inductive ReadTiming where
  | inTime
  | late (word : Byte)
  | cutShort
  deriving DecidableEq, Repr

/-- The commands. -/
inductive Instr where
  /-- BRIDGE_FRAME_RECEIVED (R18): A frame crossing the isolation bridge arrives and is checked against its CRC-16; a bad frame is discarded. -/
  | bridgeFrameReceived (toMains crcOk : Bool)
  /-- MAINS_PAGE_ACCESS_COMPLETE (R19): The bridge returns the result of an access to a mains-side page and ends the requester's stall. -/
  | mainsPageAccessComplete
  /-- BRIDGE_SILENCE_TIMEOUT (R21): No valid bridge frame for 200 µs while mains is present records a BRIDGE fault and refuses mains-side accesses. -/
  | bridgeSilenceTimeout
  /-- MAINS_BRIDGE_HOLD (R21): The mains side detects bridge silence and enters bridge hold: relay undriven, DALI held, AOUT held, metering into the accumulator. -/
  | mainsBridgeHold
  /-- AOUT_HOLD_TIMEOUT (R21): After 2 s of bridge hold the 0–10 V / 1–10 V output floats. -/
  | aoutHoldTimeout
  /-- BRIDGE_RECOVERY (R21): The first valid frame after a silence ends bridge hold and the mains-side accumulator is added to the energy count. -/
  | bridgeRecovery
  /-- BRIDGE_RESTART (R97): Every 10 ms during a BRIDGE fault E0 restarts the bridge and repeats the mains-side configuration. -/
  | bridgeRestart
  /-- ZERO_CROSSING_TIMESTAMP (R240): A corrected zero-crossing timestamp reaches E4, which discards outliers and runs the mains PLL. -/
  | zeroCrossingTimestamp (rising : Bool) (slotUs : Half) (period : BitVec 24) (err : Half)
  /-- ZERO_CROSSING_MISS (R241): No crossing arrives inside the predicted window; the miss is counted and the loop coasts. -/
  | zeroCrossingMiss
  /-- MAINS_PRESENT (R59): Three qualifying half-cycles signal mains Present and drive the mode change that applies. -/
  | mainsPresent (h1 h2 h3 : HalfCycle)
  /-- MAINS_LOST (R59): A half-cycle with a low peak or a missing crossing signals loss to E0 and starts the loss handling of the current mode. -/
  | mainsLost (half : Option HalfCycle) (lastRms : Half)
  /-- LAST_GASP_COMPLETE (R87): After the acknowledgement or the last retry, E2, E3 and E9 are powered off and the node becomes sleepy. -/
  | lastGaspComplete
  /-- BROWNOUT_START (R117): Brown-out begins and the power manager limits loads to 4 W. -/
  | brownoutStart (rms : Half)
  /-- BROWNOUT_END (R117): Brown-out ends and the load limits are lifted. -/
  | brownoutEnd (rms : Half)
  /-- OVERVOLTAGE (R61): A half-cycle above 320 VAC stops the supply, disables the PLC driver and is handled as a mains loss. -/
  | overvoltage (rms lastRms : Half)
  /-- SUPPLY_FAULT (R64): The supply reaches its limit: SUPPLY fault recorded and the supply shut down for 1 s. -/
  | supplyFault
  /-- SUPPLY_RESTART (R64): After the 1 s shutdown the supply restarts and the module goes through BOOT. -/
  | supplyRestart
  /-- VBAK_USABLE (R68): VBAK rises above 2.2 V and becomes usable. -/
  | vbakUsable (volts : Byte)
  /-- VBAK_UNUSABLE (R68): The 1 ms average of VBAK falls below 2.0 V. -/
  | vbakUnusable (volts : Byte)
  /-- V3OUT_UNDERVOLTAGE (R73): V3_OUT below 3.0 V for 10 ms is turned off and a V3OUT fault recorded. -/
  | v3outUndervoltage
  /-- V3OUT_RETRY (R73): One second after a V3OUT fault the output is turned on again. -/
  | v3outRetry
  /-- RSTN_LOW (R77): RSTN falls: a RESET frame is sent across the bridge and the module is reset. -/
  | rstnLow
  /-- RESET_FRAME_RECEIVED (R77): The mains side receives a RESET frame and enters its reset state. -/
  | resetFrameReceived
  /-- FIELD_PRESENT (R78): A 13.56 MHz field appears on an unpowered module and the tag logic starts in FIELD. -/
  | fieldPresent
  /-- FIELD_REMOVED (R78): The field is removed in FIELD and the tag logic stops after any tear-safe step. -/
  | fieldRemoved
  /-- BOOT_RESET_RELEASE (R80): Reset is released to E0 and BOOT runs its ordered sequence. -/
  | bootResetRelease (compatSel : Bool) (erases : List EraseResult)
  /-- BOOT_COMPLETE (R81): BOOT ends, engines are released and E0 enters the mode chosen by the decision table. -/
  | bootComplete (ms : Half)
  /-- MODE_REQ_HOLD (R92): Host requests HOLD through SYS.MODE_REQ. -/
  | modeReqHold (who : Requester) (key : Half) (late : Bool)
  /-- MODE_REQ_COMMISSION (R92): Host requests COMMISSION through SYS.MODE_REQ. -/
  | modeReqCommission (who : Requester) (key : Half) (late : Bool)
  /-- MODE_REQ_SERVICE (R92): Host requests SERVICE, or exit from MAINTENANCE through BOOT, through SYS.MODE_REQ. -/
  | modeReqService (who : Requester) (key : Half) (late : Bool)
  /-- MODE_REQ_MAINTENANCE (R92): Host requests MAINTENANCE through SYS.MODE_REQ. -/
  | modeReqMaintenance (who : Requester) (key : Half) (late : Bool)
  /-- MAINTENANCE_WORK_COMPLETE (R78): Work in MAINTENANCE completes and the module is reset into BOOT. -/
  | maintenanceWorkComplete
  /-- OUTAGE_LIMIT_EXPIRY (R91): The OUTAGE limit is reached and the module enters HOLD. -/
  | outageLimitExpiry
  /-- HOLD_WAKE_EXPIRY (R78): The HOLD_WAKE timer started by a Mica wake expires and the module enters HOLD. -/
  | holdWakeExpiry
  /-- RET_COMMIT (R84): RET.COMMIT starts a commit of the retained-settings record. -/
  | retCommit (who : Requester)
  /-- RET_COMMIT_COMPLETE (R84): The flash write of a commit ends and BUSY clears. -/
  | retCommitComplete (ok : Bool)
  /-- OPSEC_SECOND (R601): Each operating second SYS.OPSEC advances and is written into the valid retention record. -/
  | opsecSecond
  /-- FAULT_CAPTURE (R93): A fault fills the primary or secondary FAULT slot and interrupts E0. -/
  | faultCapture (cause : Byte) (src : BitVec 4) (detail : Half) (addr : Word)
  /-- FAULT_DONE (R95): E0 writes DONE; a secondary fault moves to the primary slot or ACTIVE clears. -/
  | faultDone (who : Requester)
  /-- FAULT_HANDLER_TIMEOUT (R94): E0 fails to write DONE within WDOG_MS and the fault escalates as WDOG. -/
  | faultHandlerTimeout
  /-- XO_FAIL (R123): Loss of XO or of PLL lock beyond 1 µs resets the module as cause XO_FAIL. -/
  | xoFail
  /-- LF_STOP (R444): The LF clock stops; the RTC holds and GLITCH or OSF is set by the stop length. -/
  | lfStop (long : Bool)
  /-- LF_RETURN (R123): LF returns and domains may again enter RETENTION. -/
  | lfReturn
  /-- DOMCMD_OFF (R100): E0 commands a domain OFF through PWR.DOMCMD. -/
  | domcmdOff (who : Requester) (idx : BitVec 5) (nowake : Bool)
  /-- DOMCMD_RETENTION (R100): E0 commands a domain into RETENTION through PWR.DOMCMD. -/
  | domcmdRetention (who : Requester) (idx : BitVec 5) (nowake : Bool)
  /-- DOMCMD_ON (R100): E0 commands a domain ON through PWR.DOMCMD. -/
  | domcmdOn (who : Requester) (idx : BitVec 5) (nowake : Bool)
  /-- DOMCMD_AUTO (R100): E0 sets a domain to AUTO through PWR.DOMCMD. -/
  | domcmdAuto (who : Requester) (idx : BitVec 5) (nowake : Bool)
  /-- DOMAIN_IDLE_ENTRY (R111): An AUTO domain meets its idle condition and runs the entry steps into RETENTION. -/
  | domainIdleEntry (idx : BitVec 5) (abort : Option (Fin 5)) (hostWake : Bool)
  /-- DOMAIN_WAKE (R107): A wake event reaches a domain in RETENTION or OFF and starts its wake, stalling the cause. -/
  | domainWake (idx : BitVec 5) (src : BitVec 4)
  /-- DOMAIN_WAKE_READY (R98): A waking domain becomes ready after its wake time and serves the stalled access. -/
  | domainWakeReady (idx : BitVec 5)
  /-- PWR_HOSTREQ_WRITE (R104): Host asks for NFC, METER, LUM or PAIR to be held ON or AUTO; E0 applies or refuses it. -/
  | pwrHostreqWrite (who : Requester) (value : Word)
  /-- HOST_WAKE_RISE (R110): HOST_WAKE rises and raises one wake of HOSTIF, CORE and ENG0. -/
  | hostWakeRise (rested : Bool)
  /-- ASQ_PERIOD (R114): An autonomous sample sequence falls due, wakes its domain, samples and compares. -/
  | asqPeriod (n : Fin 8) (samples : List Half)
  /-- FAST_CLOCK_STOP (R119): The last clock request drops and XO and PLL stop at the next LF edge. -/
  | fastClockStop
  /-- FAST_CLOCK_READY (R120): The PLL reports lock and fast clocks are issued. -/
  | fastClockReady
  /-- CLK_HOSTREQ_WRITE (R119): Host holds or releases the XO and PLL through CLK.HOSTREQ. -/
  | clkHostreqWrite (who : Requester) (value : Word)
  /-- STITCH_UPDATE (R121): Once a minute E4 sets CLK.STITCH from CLK.LFMEAS. -/
  | stitchUpdate
  /-- PAGE_ENABLE (R127): EN = 1 on a DISABLED page starts the consistency check. -/
  | pageEnable (who : Requester) (page : Byte)
  /-- PAGE_CHECK_COMPLETE (R127): The enable check ends with ENABLED or with a refusal reason. -/
  | pageCheckComplete (page : Byte)
  /-- PAGE_DISABLE (R130): EN = 0 cancels a check or moves an ENABLED page to STOPPING. -/
  | pageDisable (who : Requester) (page : Byte)
  /-- PAGE_STOP_COMPLETE (R130): The block finishes its in-flight work and enters DISABLED. -/
  | pageStopComplete (page : Byte)
  /-- PAGE_SOFTRST (R131): SOFTRST returns a disabled, unlocked page to its Reset values. -/
  | pageSoftrst (who : Requester) (page : Byte)
  /-- PAGE_LOCK (R132): CTL.LOCK = 1 locks the page's RWL fields until module reset. -/
  | pageLock (who : Requester) (page : Byte)
  /-- REGISTER_WRITE (R129): A write to a field of a register that has no behaviour of its own, checked by access code and steps 5 and 6. -/
  | registerWrite (who : Requester) (page off : Byte) (value : Word)
  /-- OWNER_ASSIGN (R138): HOSTIF.ASSIGN moves a lamp or contactless page between HOST, E10 and E11. -/
  | ownerAssign (who : Requester) (value : Word)
  /-- SPI_RD1 (R140): Single-line read transaction. -/
  | spiRd1 (addr : Half) (words : Byte) (timing : ReadTiming)
  /-- SPI_WR1 (R140): Single-line write transaction whose words are posted to the write FIFO. -/
  | spiWr1 (addr : Half) (words : List Word)
  /-- SPI_RDQ (R140): Quad read transaction. -/
  | spiRdq (addr : Half) (words : Byte) (timing : ReadTiming)
  /-- SPI_WRQ (R140): Quad write transaction whose words are posted to the write FIFO. -/
  | spiWrq (addr : Half) (words : List Word)
  /-- SPI_RDSTAT (R140): Status-only transaction returning the status byte. -/
  | spiRdstat
  /-- SPI_ENQPI (R140): Enter QPI mode for later transactions. -/
  | spiEnqpi
  /-- SPI_EXQPI (R140): Leave QPI mode. -/
  | spiExqpi
  /-- SPI_RSTEN (R140): Arms the SPI target reset. -/
  | spiRsten
  /-- SPI_RSTIF (R140): After RSTEN, resets the SPI target only: QPI off, FIFO emptied, held read discarded. -/
  | spiRstif
  /-- HELD_READ_COMPLETE (R143): A read that returned RETRY completes in the background and its result is held. -/
  | heldReadComplete
  /-- POSTED_WRITE_DRAIN (R145): A posted word leaves the write FIFO and is carried out at its target. -/
  | postedWriteDrain
  /-- SITE_COMMIT (R151): S_CMT.GO validates the staged site profile and declares it or refuses it. -/
  | siteCommit (who : Requester)
  /-- UART_FRAME_GAP (R155): A gap above 2 ms inside a UART frame discards the frame. -/
  | uartFrameGap
  /-- COMPAT_PING (R158): YN4100 PING: reply echoes the payload. -/
  | compatPing (seq : Byte) (soon : Bool) (payload : List Byte)
  /-- COMPAT_GET_INFO (R158): YN4100 GET_INFO: part code, protocol version, address and versions. -/
  | compatGetInfo (seq : Byte) (soon : Bool) (payload : List Byte)
  /-- COMPAT_RESET (R158): YN4100 RESET: module reset after the reply. -/
  | compatReset (seq : Byte) (soon : Bool) (payload : List Byte)
  /-- COMPAT_SET_REGION (R158): YN4100 SET_REGION: S_RADIO written and committed. -/
  | compatSetRegion (seq : Byte) (soon : Bool) (payload : List Byte)
  /-- COMPAT_SET_ROLE (R158): YN4100 SET_ROLE: S_ROLE and HINTS committed. -/
  | compatSetRole (seq : Byte) (soon : Bool) (payload : List Byte)
  /-- COMPAT_JOIN (R158): YN4100 JOIN: position committed and association started. -/
  | compatJoin (seq : Byte) (soon : Bool) (payload : List Byte)
  /-- COMPAT_SEND (R158): YN4100 SEND: message queued on MSG. -/
  | compatSend (seq : Byte) (soon : Bool) (payload : List Byte)
  /-- COMPAT_LAMP_SET (R158): YN4100 LAMP_SET: level passed to E10. -/
  | compatLampSet (seq : Byte) (soon : Bool) (payload : List Byte)
  /-- COMPAT_LAMP_GET (R158): YN4100 LAMP_GET: level and relay state. -/
  | compatLampGet (seq : Byte) (soon : Bool) (payload : List Byte)
  /-- COMPAT_METER_GET (R158): YN4100 METER_GET: energy, voltage, current and power. -/
  | compatMeterGet (seq : Byte) (soon : Bool) (payload : List Byte)
  /-- COMPAT_TIME_SET (R158): YN4100 TIME_SET: RTC set by a count commit. -/
  | compatTimeSet (seq : Byte) (soon : Bool) (payload : List Byte)
  /-- COMPAT_TIME_GET (R158): YN4100 TIME_GET: RTC seconds. -/
  | compatTimeGet (seq : Byte) (soon : Bool) (payload : List Byte)
  /-- COMPAT_FW_BLOCK (R516): YN4100 FW_BLOCK chunk gathered into 4 KiB UPDATE blocks. -/
  | compatFwBlock (seq : Byte) (soon : Bool) (payload : List Byte)
  /-- COMPAT_REG_READ (R158): YN4100 REG_READ: words read from host-visible pages. -/
  | compatRegRead (seq : Byte) (soon : Bool) (payload : List Byte)
  /-- COMPAT_REG_WRITE (R158): YN4100 REG_WRITE: words written in order until the first refusal. -/
  | compatRegWrite (seq : Byte) (soon : Bool) (payload : List Byte)
  /-- COMPAT_ACK (R157): Host acknowledges an indication. -/
  | compatAck (seq : Byte) (soon : Bool) (payload : List Byte)
  /-- COMPAT_SET_BAUD (R158): YN4100 SET_BAUD: new rate from the byte after the reply. -/
  | compatSetBaud (seq : Byte) (soon : Bool) (payload : List Byte)
  /-- INDICATION_RESEND (R157): An unacknowledged indication is sent again after 100 ms, up to three times. -/
  | indicationResend
  /-- FW_BLOCK_DEFERRED_WRITE (R516): A completed block waiting in E9's buffer is written once UPDATE is no longer busy. -/
  | fwBlockDeferredWrite
  /-- CHAIN_CAL_COMPLETE (R168): A chain's full calibration set ends, results applied, and the chain enters IDLE. -/
  | chainCalComplete (c : Chain) (r : CalResult)
  /-- RFCAL_RUN (R168): RFCAL.CMD.GO runs a chain's full calibration set at its next gap. -/
  | rfcalRun (who : Requester) (value : Word)
  /-- TEMP_CHECK (R169): Once a second the chain engine reads the die temperature and starts the temperature set if due. -/
  | tempCheck (c : Chain) (temp : Byte) (gap : Bool)
  /-- TEMP_SET_COMPLETE (R170): A temperature calibration set ends or stops at a step boundary. -/
  | tempSetComplete (c : Chain) (steps : Fin 6) (r : CalResult)
  /-- CELL_ARM (R258): E4 wakes the chains and arms a cell's receive window or transmission ahead of its slot. -/
  | cellArm (m : Medium) (lock : Bool)
  /-- ENERGY_DETECT (R197): The averaged RSSI reaches the ED threshold and the qualifier starts. -/
  | energyDetect (c : Chain) (rssi : Byte)
  /-- QUALIFIER_TIMEOUT (R197): The qualifier score is not reached in time; FALSE_ED counted. -/
  | qualifierTimeout (c : Chain)
  /-- PREAMBLE_QUALIFIED (R197): The qualifier score reaches QUAL and the frame holds the chain. -/
  | preambleQualified (c : Chain) (score : Byte) (freq : Half)
  /-- LANE_DETECT (R205): A correlator lane reaches its threshold on a tick and wins or loses the bank. -/
  | laneDetect (hits : List (Fin 6 × Byte × Half))
  /-- SFD_DETECTED (R198): The SFD, sync word or LTF is found and the receive timestamp taken. -/
  | sfdDetected (c : Chain) (slotUs : Half)
  /-- SFD_TIMEOUT (R198): No SFD is found within the preamble length plus 16 symbols. -/
  | sfdTimeout (c : Chain)
  /-- PHR_RECEIVED (R199): The PHR is decoded; a PHR error stops reception, an overrun suppresses later cells. -/
  | phrReceived (c : Chain) (phr : Phr) (past : BitVec 6)
  /-- RF_FRAME_END (R199): The last symbol of a received RF frame arrives; FCS checked and frame passed to the link engine. -/
  | rfFrameEnd (c : Chain) (f : AirFrame) (rx : RxInfo)
  /-- RX_WINDOW_CLOSE (R163): A receive window closes with no detection and the chain returns to IDLE. -/
  | rxWindowClose (c : Chain)
  /-- RF_TX_START (R166): A chain begins a transmission or acknowledgement, ramp and first symbol. -/
  | rfTxStart (c : Chain) (x : TxSample)
  /-- RF_TX_END (R163): The last symbol of a transmission leaves; turnaround to RX or ramp down to IDLE. -/
  | rfTxEnd (c : Chain)
  /-- TX_DEFERRED_START (R167): A transmission deferred by a busy chain starts late and sets TXLATE. -/
  | txDeferredStart (c : Chain) (late : Half) (x : TxSample)
  /-- MICA_WAKE_MATCH (R185): Mica finds a wake call with matching ID and check, waking E0 or leaving HOLD. -/
  | micaWakeMatch (id : Word) (caller : Byte)
  /-- PLC_PREAMBLE_DETECT (R224): The P-symbol correlation reaches DETTHR. -/
  | plcPreambleDetect (score : Byte)
  /-- PLC_M_TIMEOUT (R224): No M symbol follows within four symbols; FALSE_DET counted. -/
  | plcMTimeout
  /-- PLC_FCH_DECODED (R225): The FCH is decoded; CRC or version errors end reception. -/
  | plcFchDecoded (bits : BitVec 40) (slotUs : Half)
  /-- PLC_FRAME_END (R225): A PLC frame ends; LDPC and FCS judged and the frame passed on. -/
  | plcFrameEnd (ldpc : Bool) (power : List Half) (f : AirFrame) (rx : RxInfo)
  /-- PLC_RX_WINDOW_CLOSE (R223): A PLC receive window closes and the PHY returns to IDLE. -/
  | plcRxWindowClose
  /-- PLC_TX_START (R223): The line driver is enabled and a PLC frame is sent. -/
  | plcTxStart (cut : BitVec 5)
  /-- PLC_TX_END (R223): A PLC transmission ends with turnaround to RX or driver off. -/
  | plcTxEnd (zline : Half)
  /-- PLC_TX_DEFERRED_START (R226): A PLC transmission deferred behind a reception starts or is abandoned with PLC_BUSY. -/
  | plcTxDeferredStart (late : Half) (cut : BitVec 5)
  /-- DRIVER_THERMAL_CHANGE (R210): The driver die crosses 125 °C or 110 °C and the thermal flag is set or cleared. -/
  | driverThermalChange (temp : Byte)
  /-- SOUNDING_RUN_COMPLETE (R228): A noise sounding run ends and replaces the bin noise result. -/
  | soundingRunComplete (bins : List (Byte × List Half))
  /-- TONEMAP_REGEN_ONE (R235): TONEMAP.REGEN.ONE regenerates the selected slot. -/
  | tonemapRegenOne (who : Requester)
  /-- TONEMAP_REGEN_ALL (R235): TONEMAP.REGEN.ALL regenerates every slot. -/
  | tonemapRegenAll (who : Requester)
  /-- PREV_VERSION_EXPIRY (R238): 256 half-cycles after issue the previous tone-map version is dropped. -/
  | prevVersionExpiry (slot : Fin 32)
  /-- SLOT_BOUNDARY (R260): E4 advances the ASN and the link engines choose media and reserve cells for the slot. -/
  | slotBoundary
  /-- SLOTFRAME_BOUNDARY (R253): An SF0 boundary applies staged configuration, migrations and parent evaluation. -/
  | slotframeBoundary
  /-- MEDIUM_LEAVES_SERVICE (R272): A medium leaves service and frames reserved on it return to their queues. -/
  | mediumLeavesService (m : Medium)
  /-- CELLCMD_ADD (R254): CELLCMD ADD enters a cell from CELLD0–CELLD2. -/
  | cellcmdAdd (who : Requester)
  /-- CELLCMD_DEL (R254): CELLCMD DEL removes a cell. -/
  | cellcmdDel (who : Requester) (idx : BitVec 11)
  /-- CELLCMD_READ (R254): CELLCMD READ copies a cell into CELLD0–CELLD3. -/
  | cellcmdRead (who : Requester) (idx : BitVec 11)
  /-- CELLCMD_DELETE_SF (R254): CELLCMD deletes every cell of a slotframe. -/
  | cellcmdDeleteSf (who : Requester)
  /-- SCHED_TIME0_READ (R246): A read of SCHED.TIME0 latches TIME1 for that requester. -/
  | schedTime0Read (who : Requester) (slotUs : Half)
  /-- ACK_MISSED (R284): No valid acknowledgement is qualified in time and the attempt fails. -/
  | ackMissed (m : Medium)
  /-- KEEPALIVE_DUE (R268): Contact age reaches KA_S and a keep-alive is queued to the time source. -/
  | keepaliveDue
  /-- RESYNC_EXPIRY (R269): Widened windows for an UNSYNC neighbour end without contact: wake call or LOST. -/
  | resyncExpiry (nbr : Byte) (x : TxSample)
  /-- POLL_DUE (R270): POLL_S elapses and a sleepy node sends a poll to its parent. -/
  | pollDue
  /-- POLL_RESPONSE_END (R270): The response period after a poll ends and the node sleeps. -/
  | pollResponseEnd
  /-- CHILD_POLL_TIMEOUT (R271): Three poll intervals without a poll mark a sleepy child UNSYNC. -/
  | childPollTimeout (nbr : Byte)
  /-- LINKSEC_KEY_LOAD (R279): KEYCMD LOAD puts the staged key and index into the selected slot. -/
  | linksecKeyLoad (who : Requester)
  /-- LINKSEC_KEY_ERASE (R279): KEYCMD ERASE empties the selected key slot. -/
  | linksecKeyErase (who : Requester)
  /-- MESH_SCAN (R301): MESH.CMD SCAN starts a scan for beacons. -/
  | meshScan (who : Requester)
  /-- MESH_JOIN (R302): MESH.CMD JOIN starts association with a chosen result. -/
  | meshJoin (who : Requester) (idx : BitVec 4)
  /-- MESH_JOIN_BEST (R302): MESH.CMD JOIN_BEST starts association with the best ADMIT result. -/
  | meshJoinBest (who : Requester)
  /-- MESH_ABORT (R302): MESH.CMD ABORT ends a scan. -/
  | meshAbort (who : Requester)
  /-- SCAN_TIMEOUT (R302): TIME_S elapses and the scan ends with SCAN_DONE. -/
  | scanTimeout
  /-- JOIN_WAIT_EXPIRY (R302): No response within WAIT_S: the request is resent or the join fails. -/
  | joinWaitExpiry
  /-- MESHCMD_JOIN_RELAY (R323): The COORDINATOR takes a relayed join request. -/
  | meshcmdJoinRelay
  /-- MESHCMD_JOIN_ANSWER (R323): A ROUTER takes the COORDINATOR's answer and queues the response. -/
  | meshcmdJoinAnswer
  /-- MESHCMD_PARENT_UPDATE (R323): The COORDINATOR sets PARENT and child counts. -/
  | meshcmdParentUpdate
  /-- MESHCMD_LEAVE (R323): A LEAVE erases a node's identity or frees its entry. -/
  | meshcmdLeave
  /-- MESHCMD_ROUTE_ERR (R321): The COORDINATOR sets UNREACH for the reported next hop. -/
  | meshcmdRouteErr
  /-- ASSOC_LOOKUP (R310): ASSOC LOOKUP finds an entry by extended address. -/
  | assocLookup (who : Requester)
  /-- ASSOC_PRELOAD (R308): ASSOC PRELOAD reserves an entry for an extended address. -/
  | assocPreload (who : Requester)
  /-- ASSOC_APPROVE (R308): ASSOC APPROVE admits a PENDING entry. -/
  | assocApprove (who : Requester) (idx : BitVec 14)
  /-- ASSOC_DENY (R308): ASSOC DENY refuses a PENDING entry. -/
  | assocDeny (who : Requester) (idx : BitVec 14)
  /-- ASSOC_DELETE (R308): ASSOC DELETE frees an entry, sending LEAVE if JOINED. -/
  | assocDelete (who : Requester) (idx : BitVec 14)
  /-- ASSOC_NEXT_PENDING (R308): ASSOC NEXT_PENDING finds the next PENDING entry. -/
  | assocNextPending (who : Requester) (idx : BitVec 14)
  /-- ASSOC_REHASH (R311): ASSOC REHASH draws a new salt and rebuilds the index. -/
  | assocRehash (who : Requester)
  /-- REHASH_COMPLETE (R311): The index rebuild ends and lookups resume. -/
  | rehashComplete
  /-- APPROVE_TIMEOUT (R308): APPROVE_S elapses on a PENDING entry and it is denied. -/
  | approveTimeout (idx : BitVec 14)
  /-- ENTRY_STALE (R309): An entry's SEEN falls AGE_D days behind OPSEC and it becomes STALE. -/
  | entryStale (idx : BitVec 14)
  /-- SNAPSTOT_APPEND (R314): Every PERIOD_S changed entries are appended to the snapshot log. -/
  | snapstotAppend
  /-- TABLE_RESTORE_COMPLETE (R313): E5 finishes restoring the association table and admission resumes. -/
  | tableRestoreComplete
  /-- MSG_SEND (R334): MSG.TXCMD SEND submits a message. -/
  | msgSend (who : Requester)
  /-- MSG_CANCEL (R352): MSG.TXCMD CANCEL withdraws an unresolved message. -/
  | msgCancel (who : Requester)
  /-- MSG_SEND_COMPLETE (R334): The queue record reaches flash and the MSGID is reported in TXRES. -/
  | msgSendComplete
  /-- MBOX_MSG_SEND (R415): An engine's SEND message to E6 submits a message. -/
  | mboxMsgSend (e : Fin 12) (tag : Half) (txd0 txd1 txd2 txd3 : Word)
  /-- MBOX_MSG_CANCEL (R415): An engine's CANCEL message to E6 withdraws a message. -/
  | mboxMsgCancel (e : Fin 12) (tag : Half) (msgid : Word)
  /-- MESSAGE_ADMITTED (R331): A waiting message gets its MSGID and first attempt once in-flight room allows. -/
  | messageAdmitted (rec : Word)
  /-- REASSEMBLY_TIMEOUT (R341): A context not complete within REASM_S is freed. -/
  | reassemblyTimeout (peer : Half) (msgid : Word)
  /-- RXTAIL_WRITE (R342): Host advances RXTAIL, taking the ring entries it passes. -/
  | rxtailWrite (who : Requester) (value : Word)
  /-- ATTEMPT_TIMEOUT (R344): TIMEOUT_S after the last fragment's link acknowledgement the attempt ends. -/
  | attemptTimeout (rec : Word)
  /-- ATTEMPT_START (R344): 1 s plus a random delay after an attempt ends, the next attempt starts. -/
  | attemptStart (rec : Word)
  /-- MESSAGE_EXPIRED (R345): LIFE_MIN elapses and the message completes with EXPIRED. -/
  | messageExpired (rec : Word)
  /-- MSG_DONE_POP (R346): A read of DONE1 pops a completion from the DONE FIFO. -/
  | msgDonePop (who : Requester)
  /-- BASALT_HELLO (R361): A HELLO is checked and roles are arbitrated. -/
  | basaltHello (h : Hello) (ack : Half)
  /-- BASALT_HEARTBEAT (R365): A HEARTBEAT updates partner state, standby timebase and reserve report. -/
  | basaltHeartbeat (h : Heartbeat) (ack : Half)
  /-- BASALT_ACK (R358): An ACK frame acknowledges sequenced frames. -/
  | basaltAck (ack : Half)
  /-- BASALT_COPY (R366): A bulk-copy frame is applied by the STANDBY. -/
  | basaltCopy (seq ack : Half) (objs : List Mirror)
  /-- BASALT_RECORD (R362): An incremental record is applied to the mirror. -/
  | basaltRecord (seq ack : Half) (objs : List Mirror)
  /-- BASALT_HANDOVER (R374): A HANDOVER frame makes the STANDBY take over. -/
  | basaltHandover (seq ack time : Half)
  /-- HEARTBEAT_SEND (R358): Every 1,000 µs a module sends a HEARTBEAT. -/
  | heartbeatSend (slotUs : Half)
  /-- HELLO_SEND (R360): Every 100 ms while linking or mismatched a HELLO is sent. -/
  | helloSend
  /-- BASALT_RETX_TIMEOUT (R358): A sequenced frame unacknowledged for 200 µs is resent with later frames. -/
  | basaltRetxTimeout
  /-- PARTNER_SILENCE (R360): No valid partner frame for TAKEOVER_MS. -/
  | partnerSilence (time : Half)
  /-- PAIR_PRES_CHANGE (R360): PAIR_PRES changes level and the pair state reacts. -/
  | pairPresChange (low : Bool)
  /-- ONAIR_CHECK_END (R371): The on-air check ends with SOLO or DETACHED. -/
  | onairCheckEnd (time : Half)
  /-- GATED_ACK_TIMEOUT (R364): No ACK for a gated record within 2 ms; partner marked ABSENT. -/
  | gatedAckTimeout
  /-- RESERVE_REPORT_TIMEOUT (R367): No reserve commit report within 1,000 ms; the PRIMARY opens the block. -/
  | reserveReportTimeout
  /-- BULK_COPY_COMPLETE (R366): The bulk copy ends and the STANDBY moves toward IN_SYNC. -/
  | bulkCopyComplete
  /-- PAIR_HANDOVER (R374): PAIR.CMD HANDOVER hands the PRIMARY role to an IN_SYNC partner. -/
  | pairHandover (who : Requester) (key : Half)
  /-- PAIR_RESYNC (R360): PAIR.CMD RESYNC makes a STANDBY discard its mirror. -/
  | pairResync (who : Requester) (key : Half)
  /-- MOV (R389): Gd takes a register or immediate. -/
  | mov (e : Fin 12) (cond : BitVec 3) (d : BitVec 3) (src : Src8)
  /-- ADD (R389): Byte add. -/
  | add (e : Fin 12) (cond : BitVec 3) (d : BitVec 3) (src : Src8)
  /-- ADC (R389): Byte add with carry. -/
  | adc (e : Fin 12) (cond : BitVec 3) (d : BitVec 3) (src : Src8)
  /-- SUB (R389): Byte subtract. -/
  | sub (e : Fin 12) (cond : BitVec 3) (d : BitVec 3) (src : Src8)
  /-- SBC (R389): Byte subtract with borrow. -/
  | sbc (e : Fin 12) (cond : BitVec 3) (d : BitVec 3) (src : Src8)
  /-- AND (R389): Byte AND. -/
  | and (e : Fin 12) (cond : BitVec 3) (d : BitVec 3) (src : Src8)
  /-- OR (R389): Byte OR. -/
  | or (e : Fin 12) (cond : BitVec 3) (d : BitVec 3) (src : Src8)
  /-- XOR (R389): Byte XOR. -/
  | xor (e : Fin 12) (cond : BitVec 3) (d : BitVec 3) (src : Src8)
  /-- CMP (R389): Flags of a byte subtraction. -/
  | cmp (e : Fin 12) (cond : BitVec 3) (d : BitVec 3) (src : Src8)
  /-- TST (R389): Flags of a byte AND. -/
  | tst (e : Fin 12) (cond : BitVec 3) (d : BitVec 3) (src : Src8)
  /-- INC (R391): Unary increment. -/
  | inc (e : Fin 12) (cond : BitVec 3) (d : BitVec 3)
  /-- DEC (R391): Unary decrement. -/
  | dec (e : Fin 12) (cond : BitVec 3) (d : BitVec 3)
  /-- NOT (R391): Unary complement. -/
  | not (e : Fin 12) (cond : BitVec 3) (d : BitVec 3)
  /-- NEG (R391): Unary negate. -/
  | neg (e : Fin 12) (cond : BitVec 3) (d : BitVec 3)
  /-- SHL (R391): Shift left. -/
  | shl (e : Fin 12) (cond : BitVec 3) (d : BitVec 3)
  /-- SHR (R391): Logical shift right. -/
  | shr (e : Fin 12) (cond : BitVec 3) (d : BitVec 3)
  /-- ASR (R391): Arithmetic shift right. -/
  | asr (e : Fin 12) (cond : BitVec 3) (d : BitVec 3)
  /-- ROL (R391): Rotate left through C. -/
  | rol (e : Fin 12) (cond : BitVec 3) (d : BitVec 3)
  /-- ROR (R391): Rotate right through C. -/
  | ror (e : Fin 12) (cond : BitVec 3) (d : BitVec 3)
  /-- SWAP (R391): Exchange nibbles. -/
  | swap (e : Fin 12) (cond : BitVec 3) (d : BitVec 3)
  /-- CLR (R391): Clear a register. -/
  | clr (e : Fin 12) (cond : BitVec 3) (d : BitVec 3)
  /-- ADDW (R389): Word add. -/
  | addw (e : Fin 12) (cond : BitVec 3) (d : BitVec 2) (src : Src16)
  /-- SUBW (R389): Word subtract. -/
  | subw (e : Fin 12) (cond : BitVec 3) (d : BitVec 2) (src : Src16)
  /-- CMPW (R389): Flags of a word subtraction. -/
  | cmpw (e : Fin 12) (cond : BitVec 3) (d : BitVec 2) (src : Src16)
  /-- MOVW (R389): Word move. -/
  | movw (e : Fin 12) (cond : BitVec 3) (d : BitVec 2) (src : Src16)
  /-- MOVP (R389): Pointer move. -/
  | movp (e : Fin 12) (cond : BitVec 3) (d : BitVec 2) (src : Src16)
  /-- ADDP (R389): Pointer add modulo 2^16. -/
  | addp (e : Fin 12) (cond : BitVec 3) (d : BitVec 2) (src : Src16)
  /-- MOVPW (R389): Pointer takes a word register. -/
  | movpw (e : Fin 12) (cond : BitVec 3) (d : BitVec 2) (w : BitVec 2)
  /-- MOVWP (R389): Word register takes a pointer or SP. -/
  | movwp (e : Fin 12) (cond : BitVec 3) (d : BitVec 2) (src : PtrSrc)
  /-- LD (R390): Byte load through an addressing mode. -/
  | ld (e : Fin 12) (cond : BitVec 3) (d : BitVec 3) (ea : Ea)
  /-- ST (R390): Byte store through an addressing mode. -/
  | st (e : Fin 12) (cond : BitVec 3) (d : BitVec 3) (ea : Ea)
  /-- LDW (R390): Word load. -/
  | ldw (e : Fin 12) (cond : BitVec 3) (d : BitVec 2) (ea : Ea)
  /-- STW (R390): Word store. -/
  | stw (e : Fin 12) (cond : BitVec 3) (d : BitVec 2) (ea : Ea)
  /-- PUSH (R384): Push a byte register. -/
  | push (e : Fin 12) (cond : BitVec 3) (d : BitVec 3)
  /-- POP (R384): Pop a byte register. -/
  | pop (e : Fin 12) (cond : BitVec 3) (d : BitVec 3)
  /-- PUSHP (R384): Push a pointer. -/
  | pushp (e : Fin 12) (cond : BitVec 3) (d : BitVec 2)
  /-- POPP (R384): Pop a pointer. -/
  | popp (e : Fin 12) (cond : BitVec 3) (d : BitVec 2)
  /-- PUSHW (R384): Push a word register. -/
  | pushw (e : Fin 12) (cond : BitVec 3) (d : BitVec 2)
  /-- POPW (R384): Pop a word register. -/
  | popw (e : Fin 12) (cond : BitVec 3) (d : BitVec 2)
  /-- BR (R393): E-format conditional branch by an 8-bit offset. -/
  | br (e : Fin 12) (cond : BitVec 3) (off : BitVec 8)
  /-- BRA (R398): K-format unconditional branch by an 11-bit offset. -/
  | bra (e : Fin 12) (off : BitVec 11)
  /-- JMP (R389): Jump to an immediate or pointer address. -/
  | jmp (e : Fin 12) (cond : BitVec 3) (tgt : Target)
  /-- CALL (R394): Push the return address and jump. -/
  | call (e : Fin 12) (cond : BitVec 3) (tgt : Target)
  /-- RET (R394): Pop PC. -/
  | ret (e : Fin 12) (cond : BitVec 3)
  /-- DJNZ (R389): Decrement and branch if not zero. -/
  | djnz (e : Fin 12) (cond : BitVec 3) (d : BitVec 3) (rel : Half)
  /-- NOP (R389): No operation. -/
  | nop (e : Fin 12) (cond : BitVec 3)
  /-- WAIT (R395): Stop until a wake condition holds. -/
  | wait (e : Fin 12) (cond : BitVec 3)
  /-- WAIT_WAKE (R395): An event, mailbox message or COLLECT response ends a WAIT. -/
  | waitWake (e : Fin 12)
  /-- PUSHF (R389): Push FLAGS. -/
  | pushf (e : Fin 12) (cond : BitVec 3)
  /-- POPF (R389): Pop FLAGS. -/
  | popf (e : Fin 12) (cond : BitVec 3)
  /-- MOVSP (R389): SP takes a pointer. -/
  | movsp (e : Fin 12) (cond : BitVec 3) (p : BitVec 2)
  /-- BRK (R419): Debug halt when debug is open, else ILLEGAL. -/
  | brk (e : Fin 12) (cond : BitVec 3)
  /-- CLC (R389): Clear C. -/
  | clc (e : Fin 12) (cond : BitVec 3)
  /-- SEC (R389): Set C. -/
  | sec (e : Fin 12) (cond : BitVec 3)
  /-- CLV (R389): Clear V. -/
  | clv (e : Fin 12) (cond : BitVec 3)
  /-- BTST (R389): Test a bit. -/
  | btst (e : Fin 12) (cond : BitVec 3) (d : BitVec 3) (b : BitVec 3)
  /-- BSET (R389): Set a bit. -/
  | bset (e : Fin 12) (cond : BitVec 3) (d : BitVec 3) (b : BitVec 3)
  /-- BCLR (R389): Clear a bit. -/
  | bclr (e : Fin 12) (cond : BitVec 3) (d : BitVec 3) (b : BitVec 3)
  /-- BTGL (R389): Toggle a bit. -/
  | btgl (e : Fin 12) (cond : BitVec 3) (d : BitVec 3) (b : BitVec 3)
  /-- MULU (R389): Unsigned multiply into W0. -/
  | mulu (e : Fin 12) (cond : BitVec 3) (d : BitVec 3) (g : BitVec 3)
  /-- CBEQ (R399): K-format compare bytes and branch if equal. -/
  | cbeq (e : Fin 12) (d : BitVec 3) (src : CbSrc)
  /-- CBNE (R399): K-format compare bytes and branch if not equal. -/
  | cbne (e : Fin 12) (d : BitVec 3) (src : CbSrc)
  /-- CBLT (R399): K-format compare bytes and branch if unsigned lower. -/
  | cblt (e : Fin 12) (d : BitVec 3) (src : CbSrc)
  /-- CBGE (R399): K-format compare bytes and branch if unsigned higher or same. -/
  | cbge (e : Fin 12) (d : BitVec 3) (src : CbSrc)
  /-- CBEQW (R399): K-format compare words and branch if equal. -/
  | cbeqw (e : Fin 12) (d : BitVec 2) (w : BitVec 2) (rel : Half)
  /-- CBNEW (R399): K-format compare words and branch if not equal. -/
  | cbnew (e : Fin 12) (d : BitVec 2) (w : BitVec 2) (rel : Half)
  /-- CBLTW (R399): K-format compare words and branch if unsigned lower. -/
  | cbltw (e : Fin 12) (d : BitVec 2) (w : BitVec 2) (rel : Half)
  /-- CBGEW (R399): K-format compare words and branch if unsigned higher or same. -/
  | cbgew (e : Fin 12) (d : BitVec 2) (w : BitVec 2) (rel : Half)
  /-- CUSTOM_INSTRUCTION (R408): A customer opcode runs its decode entry's microcode with shadowed commit. -/
  | customInstruction (e : Fin 12) (cond : BitVec 3) (n : BitVec 4) (x : BitVec 5) (ext : Half)
  /-- MCODE_OPEN (R409): MCODE OPEN clears an engine's table and enters LOADING. -/
  | mcodeOpen (who : Requester)
  /-- MCODE_COMMIT (R409): MCODE COMMIT checks, hashes and measures the loaded microcode. -/
  | mcodeCommit (who : Requester)
  /-- MCODE_DATA_ACCESS (R403): A DATA access reads or writes a micro-word and advances ADDR. -/
  | mcodeDataAccess (who : Requester) (write : Option Word)
  /-- MCODE_SCRUB (R410): Once a second an engine's microcode is rehashed and a mismatch raises MCODE. -/
  | mcodeScrub (e : Fin 12) (upset : Bool)
  /-- MAILBOX_SEND (R413): A write to TXDEST sends the built message or reads FULL. -/
  | mailboxSend (e : Fin 12) (dest : BitVec 8)
  /-- MAILBOX_POP (R414): A write to RXPOP removes the head message. -/
  | mailboxPop (e : Fin 12)
  /-- ENGINE_RELEASE (R416): ENG CTL.EN = 1 releases an engine with a verified image. -/
  | engineRelease (who : Requester) (e : Fin 12)
  /-- ENGINE_STOP (R416): ENG CTL.EN = 0 resets the engine at the next instruction boundary. -/
  | engineStop (who : Requester) (e : Fin 12)
  /-- ENGINE_WDOG_EXPIRY (R417): An engine's watchdog expires: WDOG fault, or E0 reset and module reset on repeat. -/
  | engineWdogExpiry (e : Fin 12)
  /-- DEBUG_HALT (R419): DBGCMD HALT halts an engine. -/
  | debugHalt (who : Requester) (e : Fin 12)
  /-- DEBUG_RESUME (R419): DBGCMD RESUME restarts a halted engine. -/
  | debugResume (who : Requester) (e : Fin 12)
  /-- DEBUG_STEP (R419): DBGCMD STEP executes one instruction and halts. -/
  | debugStep (who : Requester) (e : Fin 12)
  /-- BREAKPOINT_MATCH (R419): PC reaches an enabled breakpoint and the engine halts. -/
  | breakpointMatch (e : Fin 12)
  /-- DBG_RD1 (R418): Debug-port read transaction. -/
  | dbgRd1 (addr : BitVec 16) (n : Fin 64)
  /-- DBG_WR1 (R418): Debug-port write transaction. -/
  | dbgWr1 (addr : BitVec 16) (words : List Word)
  /-- DBG_RDSTAT (R418): Debug-port status transaction. -/
  | dbgRdstat
  /-- COLLECT_POST (R420): An engine posts a completion to the COLLECT FIFO or stalls. -/
  | collectPost (e : Fin 12) (code : Half) (resp : Bool) (value : Word)
  /-- COLLECT_POP (R421): COLLECT.POP removes the head entry. -/
  | collectPop (who : Requester)
  /-- COLLECT_RESPONSE (R422): RESP1 delivers RESP0 to an engine. -/
  | collectResponse (who : Requester) (target : BitVec 4)
  /-- COLLECT_RESP_READ (R420): Reading 0xF40F takes the response and clears the pending bit. -/
  | collectRespRead (e : Fin 12)
  /-- E10_LAMP_SET (R538): E10's reference image takes LAMP_SET and drives DALI, AOUT and relay. -/
  | e10LampSet
  /-- E10_LAMP_GET (R415): E10 answers LAMP_GET with level and relay state. -/
  | e10LampGet
  /-- LAMP_GET_TIMEOUT (R415): No LAMP_GET answer within 10 ms; E9 replies BUSY. -/
  | lampGetTimeout
  /-- QUARTZ_EVENT_DELIVERY (R424): A latched QUARTZ event is delivered at the first fabric clock after CORE is ON. -/
  | quartzEventDelivery (refired : List (Fin 96))
  /-- SWEV_SIGNAL (R428): An engine's SIG write raises its SWEV producer. -/
  | swevSignal (e : Fin 12)
  /-- HOST_SIGNAL (R423): EVT2.HOSTSIG.GO raises producer 28. -/
  | hostSignal (who : Requester)
  /-- EVENT_PEND_CLEAR (R428): An engine clears PEND or OVR of its event inputs, taking the held event. -/
  | eventPendClear (e : Fin 12) (pend : BitVec 3) (ovr : BitVec 3)
  /-- SELECTOR_WRITE (R430): A consumer selector's SRC is changed from the next fabric clock. -/
  | selectorWrite (who : Requester) (n : Fin 64) (value : Word)
  /-- TAP_WRITE (R425): An interrupt tap's page, bit or enable is set. -/
  | tapWrite (who : Requester) (k : Fin 32) (value : Word)
  /-- TIMER_GO (R433): TIMCTL.GO starts the selected stopped timers. -/
  | timerGo (who : Requester)
  /-- TIMER_RESET (R433): TIMRST stops a timer and restores its Reset values. -/
  | timerReset (who : Requester) (timers : BitVec 16)
  /-- TIM_CMP_WRITE (R435): A CMPj write arms the compare. -/
  | timCmpWrite (who : Requester) (i : Fin 16) (j : Fin 4) (value : Word)
  /-- TIM_CFG_WRITE (R435): A timer CFG write; CMPEN 0 to 1 arms a compare. -/
  | timCfgWrite (who : Requester) (i : Fin 16) (value : Word)
  /-- COMPARE_MATCH (R436): A compare matches or fires late and may auto-add its interval. -/
  | compareMatch (i : Fin 16) (count : Word)
  /-- CAP_READ (R440): A read of CAP clears CAPFULL. -/
  | capRead (who : Requester) (i : Fin 16)
  /-- RTC_SECOND (R455): Entry into a new RTC second judges alarms and the activation schedule. -/
  | rtcSecond (sameEdge : Bool)
  /-- RTC_CNT_READ (R447): A read of CNT_LO loads the requester's RTC latch. -/
  | rtcCntRead (who : Fin 14) (edges : BitVec 15)
  /-- RTC_COMMIT_COUNT (R448): CAL_COMMIT OP COUNT validates a staged count. -/
  | rtcCommitCount (who : Requester) (edges : BitVec 15)
  /-- RTC_COMMIT_CALENDAR (R448): CAL_COMMIT OP CALENDAR validates a staged calendar time. -/
  | rtcCommitCalendar (who : Requester) (edges : BitVec 15)
  /-- RTC_COMMIT_LAND (R450): At the next LF edge the accepted commit sets the count. -/
  | rtcCommitLand (sameEdge : Bool) (stop : Bool)
  /-- RTC_SHIFT (R452): A SHIFT write starts a sub-second shift. -/
  | rtcShift (who : Requester) (ticks : BitVec 16) (edges : BitVec 15)
  /-- RTC_SHIFT_DONE (R452): After 32,768 LF edges the shift ends. -/
  | rtcShiftDone
  /-- ALARM_CTL_WRITE (R456): An ALMn_CTL write enables or disables an alarm. -/
  | alarmCtlWrite (who : Requester) (n : Fin 2) (value : Word)
  /-- CHARGER_DONE (R458): VBAK reaches VEND and the charger stops. -/
  | chargerDone
  /-- CHARGER_RESTART (R458): VBAK falls 50 mV below VEND and charging restarts. -/
  | chargerRestart
  /-- CHG_WRITE (R459): A CHG write applies now or is stored while suspended. -/
  | chgWrite (who : Requester) (value : Word)
  /-- DMA_RUN_SET (R466): RUN = 1 makes a channel fetch its descriptor. -/
  | dmaRunSet (who : Requester) (c : Fin 16)
  /-- DMA_RUN_CLEAR (R466): RUN = 0 stops a channel after its descriptor. -/
  | dmaRunClear (who : Requester) (c : Fin 16)
  /-- DMA_POKE (R466): POKE makes an idle channel fetch again. -/
  | dmaPoke (who : Requester) (c : Fin 16)
  /-- DMA_TRIGGER (R466): A trigger event starts or is held for a channel. -/
  | dmaTrigger (c : Fin 12)
  /-- DMA_DESCRIPTOR_COMPLETE (R465): A descriptor's last write completes; write-back, events and next fetch. -/
  | dmaDescriptorComplete (c : Fin 16)
  /-- DMA_BUS_ERROR (R468): A bus error halts every channel. -/
  | dmaBusError (addr : Word) (parity : Bool) (progress : List (Fin 16 × Nat))
  /-- DMA_CLEAR (R469): CMD.CLEAR ends a bus-error halt. -/
  | dmaClear (who : Requester)
  /-- FLASH_READ (R474): ROM routine READ. -/
  | flashRead (e8 : Bool) (call : RomCall)
  /-- FLASH_PROGRAM (R474): ROM routine PROGRAM with verify. -/
  | flashProgram (e8 : Bool) (call : RomCall) (r : ProgramResult)
  /-- FLASH_ERASE_S (R474): ROM routine sector erase, journaled. -/
  | flashEraseS (e8 : Bool) (call : RomCall) (r : EraseResult)
  /-- FLASH_ERASE_B (R474): ROM routine block erase, journaled. -/
  | flashEraseB (e8 : Bool) (call : RomCall) (r : EraseResult)
  /-- FLASH_POLL (R474): ROM routine POLL of an outstanding erase. -/
  | flashPoll (e8 : Bool) (call : RomCall)
  /-- FLASH_SUSPEND (R476): ROM routine SUSPEND of an erase. -/
  | flashSuspend (e8 : Bool) (call : RomCall) (early : Bool)
  /-- FLASH_RESUME (R476): ROM routine RESUME of an erase. -/
  | flashResume (e8 : Bool) (call : RomCall)
  /-- FLASH_SWAP (R481): ROM routine SWAP writes the next selector word. -/
  | flashSwap (e8 : Bool) (call : RomCall)
  /-- FLASH_JOPEN (R474): ROM routine JOPEN records an activation copy. -/
  | flashJopen (e8 : Bool) (call : RomCall)
  /-- FLASH_JCLOSE (R474): ROM routine JCLOSE closes the copy entry. -/
  | flashJclose (e8 : Bool) (call : RomCall)
  /-- FLASH_ERASE_COMPLETE (R476): An asynchronous erase completes and its journal entry is set DONE. -/
  | flashEraseComplete (r : EraseResult)
  /-- STORE_READ (R489): STORE CMD READ from the customer partition. -/
  | storeRead (who : Requester)
  /-- STORE_PROGRAM (R489): STORE CMD PROGRAM into the host region. -/
  | storeProgram (who : Requester)
  /-- STORE_ERASE (R489): STORE CMD ERASE of a sector or block in the host region. -/
  | storeErase (who : Requester) (block : Bool)
  /-- STORE_COMMAND_COMPLETE (R489): A STORE command ends with the routine's status. -/
  | storeCommandComplete (p : ProgramResult) (e : EraseResult)
  /-- MBOX_STORE_READ (R489): E10 or E11 mailbox READ of the customer partition. -/
  | mboxStoreRead (e11 : Bool) (tag : Half) (off : Word) (len : BitVec 13) (buf : Word)
  /-- MBOX_STORE_PROGRAM (R489): E10 or E11 mailbox PROGRAM of its region. -/
  | mboxStoreProgram (e11 : Bool) (tag : Half) (off : Word) (len : BitVec 13) (buf : Word)
  /-- MBOX_STORE_ERASE (R489): E10 or E11 mailbox ERASE of its region. -/
  | mboxStoreErase (e11 : Bool) (tag : Half) (off : Word) (len : BitVec 13) (block : Bool)
  /-- MBOX_AES_BLOCK (R490): E7 performs a raw AES block for E10 or E11. -/
  | mboxAesBlock (e11 : Bool) (tag : Half) (slot : Fin 8) (decrypt : Bool) (input : Word) (output : Word)
  /-- MBOX_HASH (R490): E7 hashes a buffer for E10 or E11. -/
  | mboxHash (e11 : Bool) (tag : Half) (buf : Word) (len : Word) (digest : Word)
  /-- MBOX_VERIFY (R490): E7 verifies a signature for E10 or E11. -/
  | mboxVerify (e11 : Bool) (tag : Half) (param : Word)
  /-- MBOX_EXTEND7 (R490): E7 extends MSLOT7 for E10 or E11. -/
  | mboxExtend7 (e11 : Bool) (tag : Half) (addr : Word)
  /-- DRBG_RESEED (R491): Once a second the DRBG is reseeded from a conditioned seed. -/
  | drbgReseed
  /-- HEALTH_TEST_FAIL (R492): A health-test failure discards the seed and restarts the source. -/
  | healthTestFail
  /-- CIPHER_KEY_LOAD (R495): CIPHER KEYCMD LOAD stores a key in a slot. -/
  | cipherKeyLoad (who : Requester)
  /-- CIPHER_KEY_ERASE (R495): CIPHER KEYCMD ERASE empties a slot. -/
  | cipherKeyErase (who : Requester)
  /-- CIPHER_GO (R495): CIPHER CMD GO queues a block operation. -/
  | cipherGo (who : Requester) (decrypt : Bool) (slot : Fin 8)
  /-- AES_COMPLETE (R493): A block operation ends and OUT0–OUT3 hold the result. -/
  | aesComplete
  /-- HASH_INIT (R497): HASH INIT opens the HOST context. -/
  | hashInit (who : Requester)
  /-- HASH_DATA_WRITE (R496): A DATA word enters the HOST context FIFO. -/
  | hashDataWrite (who : Requester) (word : Word)
  /-- HASH_FINAL (R497): HASH FINAL pads and completes the digest. -/
  | hashFinal (who : Requester) (tail : BitVec 3)
  /-- HASH_FINAL_COMPLETE (R497): The digest becomes valid. -/
  | hashFinalComplete
  /-- HASH_EXTEND7 (R505): HASH EXTEND7 extends MSLOT7 with the digest. -/
  | hashExtend7 (who : Requester)
  /-- PKE_VERIFY (R498): PKE VERIFY checks a signature. -/
  | pkeVerify (who : Requester)
  /-- PKE_SIGN (R499): PKE SIGN signs a digest under the identity key. -/
  | pkeSign (who : Requester)
  /-- PKE_QUOTE (R507): PKE QUOTE produces a signed quote. -/
  | pkeQuote (who : Requester)
  /-- PKE_CERT (R500): PKE CERT returns a certificate. -/
  | pkeCert (who : Requester)
  /-- PKE_RANDOM (R491): PKE RANDOM returns DRBG output. -/
  | pkeRandom (who : Requester)
  /-- PKE_CHALLENGE (R510): PKE CHALLENGE draws and holds a debug challenge. -/
  | pkeChallenge (who : Requester)
  /-- PKE_DEBUG_OPEN (R510): PKE DEBUG_OPEN checks a token and opens debug access. -/
  | pkeDebugOpen (who : Requester)
  /-- PKE_CKEY_PROG (R501): PKE CKEY_PROG programs a customer key slot. -/
  | pkeCkeyProg (who : Requester) (key : Half)
  /-- PKE_CKEY_REVOKE (R501): PKE CKEY_REVOKE blows CK0's revoke fuse. -/
  | pkeCkeyRevoke (who : Requester) (key : Half)
  /-- PKE_COMPLETE (R498): A PKE operation ends and DONE is set. -/
  | pkeComplete
  /-- ATTEST_REQUEST (R509): E7 takes a quote request and answers with an RSP. -/
  | attestRequest
  /-- DEBUG_ACCESS_EXPIRY (R510): A debug token's validity elapses and access closes. -/
  | debugAccessExpiry
  /-- UPDATE_OPEN (R514): UPDATE OPEN starts a new staging session. -/
  | updateOpen (who : Requester)
  /-- UPDATE_WRITE (R515): UPDATE WRITE stores a 4 KiB staging block. -/
  | updateWrite (who : Requester)
  /-- UPDATE_WRITE_COMPLETE (R515): The staging block is programmed and verified. -/
  | updateWriteComplete (p : ProgramResult) (e : EraseResult)
  /-- UPDATE_VERIFY (R517): UPDATE VERIFY starts the checks of the staged set. -/
  | updateVerify (who : Requester)
  /-- UPDATE_VERIFY_COMPLETE (R517): Verification ends with VERIFIED or FAILED. -/
  | updateVerifyComplete
  /-- UPDATE_SCHEDULE (R518): UPDATE SCHEDULE records the activation second. -/
  | updateSchedule (who : Requester)
  /-- UPDATE_CANCEL (R514): UPDATE CANCEL unschedules or ends the session. -/
  | updateCancel (who : Requester)
  /-- ACTIVATION_START (R520): A due activation is taken: commit, MAINTENANCE and the loader's copy. -/
  | activationStart
  /-- ACTIVATION_COMPLETE (R520): The copy ends: counters advanced, SWAP, JCLOSE and reset. -/
  | activationComplete (copyFail : Bool)
  /-- STRATA_WRITE (R532): STRATA CMD WRITE submits a host record. -/
  | strataWrite (who : Requester)
  /-- STRATA_READ (R533): STRATA CMD READ copies records to bank 3. -/
  | strataRead (who : Requester)
  /-- STRATA_CHALLENGE (R535): STRATA CMD CHALLENGE draws a clear challenge. -/
  | strataChallenge (who : Requester)
  /-- STRATA_CLEAR (R536): STRATA CMD CLEAR verifies a token and clears the recorder. -/
  | strataClear (who : Requester)
  /-- STRATA_FLUSH (R527): STRATA CMD FLUSH closes the open record. -/
  | strataFlush (who : Requester)
  /-- MBOX_STRATA_RECORD (R532): An engine submits a Strata occurrence by mailbox. -/
  | mboxStrataRecord (e : Fin 12) (tag : Half) (type : Byte) (blen : Byte) (addr : Word)
  /-- MBOX_STRATA_READ (R533): E10 or E11 reads Strata records by mailbox. -/
  | mboxStrataRead (e11 : Bool) (tag : Half) (rseq : Word) (rlen : Word) (buf : Word)
  /-- STRATA_CLOSE_TIMEOUT (R527): The open record reaches CLOSE_S and is programmed. -/
  | strataCloseTimeout
  /-- STRATA_RESTART_WALK (R530): At restart E8 walks the partition and resumes recording. -/
  | strataRestartWalk
  /-- STRATA_CLEAR_COMPLETE (R536): The clear's erase of old sectors ends. -/
  | strataClearComplete (results : List EraseResult)
  /-- DALI_GO (R541): TXCMD.GO queues a forward frame. -/
  | daliGo (who : Requester) (len24 : Bool) (prio : BitVec 3) (twice answer : Bool) (tag : Half)
  /-- DALI_FRAME_START (R541): After the bus settling time the head frame is sent. -/
  | daliFrameStart
  /-- DALI_COLLISION (R541): A collision ends the attempt and schedules a retry. -/
  | daliCollision
  /-- DALI_FRAME_SENT (R541): A forward frame ends; result SENT or the answer window opens. -/
  | daliFrameSent
  /-- DALI_BACKWARD_FRAME (R541): A backward frame is received as ANSWER or FRAMING. -/
  | daliBackwardFrame (data : Option Byte)
  /-- DALI_ANSWER_TIMEOUT (R541): The answer window ends with NO_ANSWER. -/
  | daliAnswerTimeout
  /-- DALI_FOREIGN_FRAME (R539): A frame from another controller is reported in FOREIGN. -/
  | daliForeignFrame (bits : BitVec 24) (len : BitVec 6)
  /-- DALI_SYSTEM_FAILURE (R543): Bus low for 500 ms: SYSFAIL and all frames end with BUS_FAIL. -/
  | daliSystemFailure
  /-- DALI_BUS_RECOVERY (R543): Bus high for 100 ms clears SYSFAIL. -/
  | daliBusRecovery
  /-- DALI_RESULT_POP (R541): A read of RES pops a result. -/
  | daliResultPop (who : Requester)
  /-- DALI_GEAR_CLEAR (R542): A GEARk write returns its editions to unknown. -/
  | daliGearClear (who : Requester) (k : Fin 4)
  /-- DALI_BUSCFG_WRITE (R540): BUSCFG turns the bus supply request on or off. -/
  | daliBuscfgWrite (who : Requester) (value : Word)
  /-- DALI_BUS_MEASURE_DONE (R540): After 20 ms the bus supply enters ON, EXT or REVERSED. -/
  | daliBusMeasureDone (volts : Half) (bus current : Byte)
  /-- DALI_BUS_OVERLOAD (R540): Supply at its limit for 100 ms enters OVERLOAD. -/
  | daliBusOverload (bus current : Byte)
  /-- DALI_OVERLOAD_END (R540): Current below the limit for 100 ms returns to ON. -/
  | daliOverloadEnd (bus current : Byte)
  /-- DALI_BUS_REMEASURE (R540): A REVERSED or EXT condition gone for 1 s is measured again. -/
  | daliBusRemeasure
  /-- AOUT_VSET_WRITE (R546): A VSET write starts a fade to the new level. -/
  | aoutVsetWrite (who : Requester) (value : Word) (reached : BitVec 10)
  /-- AOUT_FADE_END (R546): A fade reaches its target. -/
  | aoutFadeEnd
  /-- AOUT_OVERLOAD (R547): Overcurrent for 10 ms limits the output. -/
  | aoutOverload (volts : BitVec 10)
  /-- AOUT_OVERLOAD_END (R547): Current in range for 10 ms lifts the limit. -/
  | aoutOverloadEnd
  /-- RELAY_SET (R548): RLYCMD SET requests a set pulse. -/
  | relaySet (who : Requester)
  /-- RELAY_CLR (R548): RLYCMD CLR requests a clear pulse. -/
  | relayClr (who : Requester)
  /-- RELAY_PULSE_START (R550): A relay pulse starts, synchronised to a crossing if ZXSYNC. -/
  | relayPulseStart (predicted : Bool)
  /-- RELAY_PULSE_END (R548): A pulse ends and STATE is updated. -/
  | relayPulseEnd
  /-- PHOTOCELL_SECOND (R553): Each second the photocell mean is judged against DARK and LIGHT. -/
  | photocellSecond (mean : Half)
  /-- METER_WINDOW_END (R555): A metering window ends, quantities published and energy added. -/
  | meterWindowEnd (q : MeterWindow)
  /-- METER_NOZX_TIMEOUT (R555): No crossing for 25 ms switches to fixed 200 ms windows. -/
  | meterNozxTimeout
  /-- METER_SNAP_READ (R557): A SNAP read latches one window's quantities. -/
  | meterSnapRead (who : Requester)
  /-- ENERGY_LO_READ (R558): A read of ENERGY_LO latches ENERGY_HI. -/
  | energyLoRead (who : Requester)
  /-- METER_CLR_ENERGY (R560): CMD CLR_ENERGY zeroes ENERGY and REVWH. -/
  | meterClrEnergy (who : Requester) (key : Half)
  /-- ENERGY_CHECKPOINT (R559): Every CKPT_MIN minutes E0 commits the record. -/
  | energyCheckpoint
  /-- DIN_FILTERED_CHANGE (R561): A DIN input holds a new level for FILT_MS and changes its filtered level. -/
  | dinFilteredChange (n : Fin 4) (high : Bool) (recent : Byte)
  /-- DIN_CHATTER_QUIET (R563): No transition for CHAT_WIN clears CHATTER. -/
  | dinChatterQuiet (n : Fin 4)
  /-- DIN_STUCK (R562): An input active for STUCK TIME sets STUCK. -/
  | dinStuck (n : Fin 4)
  /-- TAG_POWER_UP (R576): The tag logic powers up and completes any torn write. -/
  | tagPowerUp
  /-- TAG_FIELD_ON (R571): A field session starts in OPEN. -/
  | tagFieldOn
  /-- TAG_FIELD_OFF (R571): The field session ends and SECURED returns to OPEN. -/
  | tagFieldOff
  /-- TAG_INVENTORY (R569): ISO 15693 Inventory. -/
  | tagInventory (flags afi : Byte) (maskLen : BitVec 7) (mask : BitVec 64)
  /-- TAG_STAY_QUIET (R569): ISO 15693 Stay Quiet. -/
  | tagStayQuiet (req : TagReq)
  /-- TAG_READ_SINGLE (R569): Read Single Block. -/
  | tagReadSingle (req : TagReq) (block : Byte)
  /-- TAG_READ_MULTIPLE (R569): Read Multiple Blocks. -/
  | tagReadMultiple (req : TagReq) (first count : Byte)
  /-- TAG_WRITE_SINGLE (R569): Write Single Block, tear-safe. -/
  | tagWriteSingle (req : TagReq) (block : Byte) (data : Word) (cut : Option (Fin 6))
  /-- TAG_SELECT (R569): Select. -/
  | tagSelect (req : TagReq)
  /-- TAG_RESET_TO_READY (R569): Reset to Ready. -/
  | tagResetToReady (req : TagReq)
  /-- TAG_GET_SYSTEM_INFO (R569): Get System Info. -/
  | tagGetSystemInfo (req : TagReq)
  /-- TAG_EXT_READ_SINGLE (R569): Extended Read Single Block. -/
  | tagExtReadSingle (req : TagReq) (block : Half)
  /-- TAG_EXT_READ_MULTIPLE (R569): Extended Read Multiple Blocks. -/
  | tagExtReadMultiple (req : TagReq) (first count : Half)
  /-- TAG_EXT_WRITE_SINGLE (R569): Extended Write Single Block, tear-safe. -/
  | tagExtWriteSingle (req : TagReq) (block : Half) (data : Word) (cut : Option (Fin 6))
  /-- TAG_EXT_GET_SYSTEM_INFO (R569): Extended Get System Info. -/
  | tagExtGetSystemInfo (req : TagReq)
  /-- TAG_AUTHENTICATE_MAM1 (R574): Authenticate step MAM1. -/
  | tagAuthenticateMam1 (req : TagReq) (keyId : Byte)
  /-- TAG_AUTHENTICATE_MAM2 (R574): Authenticate step MAM2, which may enter SECURED. -/
  | tagAuthenticateMam2 (req : TagReq) (ok : Bool) (cut : Option (Fin 6))
  /-- TAG_PRESENT_PWD (R572): PRESENT_PWD compares the password. -/
  | tagPresentPwd (req : TagReq) (pwd : BitVec 64) (cut : Option (Fin 6))
  /-- TAG_WRITE_PWD (R569): WRITE_PWD writes a new password in SECURED. -/
  | tagWritePwd (req : TagReq) (pwd : BitVec 64) (cut : Option (Fin 6))
  /-- TAG_UNSUPPORTED_COMMAND (R569): Other command codes get error 0x01 or no answer. -/
  | tagUnsupportedCommand (req : TagReq)
  /-- TAG_LOCKOUT_EXPIRY (R572): The 2 s lockout after a failure ends. -/
  | tagLockoutExpiry
  /-- TAG_OWNER_READ (R567): TCMD READ copies a block into TDATA. -/
  | tagOwnerRead (who : Requester)
  /-- TAG_OWNER_WRITE (R575): TCMD WRITE writes TDATA tear-safely. -/
  | tagOwnerWrite (who : Requester) (cut : Option (Fin 6))
  /-- TAG_LOAD_PWD (R572): SECCMD LOAD_PWD stores the password. -/
  | tagLoadPwd (who : Requester) (key : Half)
  /-- TAG_LOAD_KEY (R572): SECCMD LOAD_KEY stores the AES key. -/
  | tagLoadKey (who : Requester) (key : Half)
  /-- TAG_CLR_FAIL (R572): SECCMD CLR_FAIL resets FAILCNT. -/
  | tagClrFail (who : Requester) (key : Half)
  /-- TAG_WRCNT_READ (R571): Reading WRCNT clears it. -/
  | tagWrcntRead (who : Requester)
  /-- READER_FIELD_ON (R578): Reader FIELD_ON checks for an external field and enters GUARD. -/
  | readerFieldOn (who : Requester) (ext : Bool)
  /-- READER_FIELD_OFF (R578): Reader FIELD_OFF turns the field off. -/
  | readerFieldOff (who : Requester)
  /-- READER_XFER (R580): Reader XFER sends one request and takes one response. -/
  | readerXfer (who : Requester) (ext : Bool)
  /-- READER_INVENTORY (R581): Reader INVENTORY runs the anticollision search. -/
  | readerInventory (who : Requester) (ext : Bool)
  /-- READER_ABORT (R578): Reader ABORT cuts the exchange in progress. -/
  | readerAbort (who : Requester)
  /-- READER_GUARD_ELAPSED (R579): GUARD_US elapses and a held command starts. -/
  | readerGuardElapsed
  /-- READER_EXCHANGE_END (R580): An exchange ends with its result written. -/
  | readerExchangeEnd (xfer : ReaderEnd)
  /-- READER_RESPONSE_TIMEOUT (R580): No response within RXWAIT_US; result TIMEOUT. -/
  | readerResponseTimeout
  /-- READER_IDLE_TIMEOUT (R578): 10 ms without a command turns the field off. -/
  | readerIdleTimeout
  /-- CSENSE_SAMPLE (R582): The electrode is measured and approach or release declared. -/
  | csenseSample (count : Half)
  /-- CSENSE_PING (R582): A detuning ping measures the loop amplitude. -/
  | csensePing (change : Half) (ext : Bool)
  /-- CSENSE_HOLD_EXPIRY (R583): NEAR lasting HOLD_S recalibrates BASE. -/
  | csenseHoldExpiry
  /-- NFC_HOLD_EXPIRY (R583): 10 s after release E0 stops holding NFC ON. -/
  | nfcHoldExpiry
  /-- OFFLINE_SUPPLY_UP (R71): The offline supply's output comes up on the first half-cycles of mains and V3_OUT turns on, before mains is Present and before BOOT. -/
  | offlineSupplyUp
  /-- SUPPLY_HOLD_UP_END (R88): After mains loss without usable VBAK, the energy stored in the supply runs out and the module becomes unpowered. -/
  | supplyHoldUpEnd
  /-- WAKE_CALL_END (R269): RF-A finishes sending a Mica wake call for CALLMS ms, and E4 repeats the widened resync window once. -/
  | wakeCallEnd
  /-- WAKE_CALL_CHECK_FAILURE (R185): Mica receives a wake call whose CRC-8 check fails, increments COUNT.CRCERR and wakes nothing. -/
  | wakeCallCheckFailure
  /-- BASALT_FRAME_DISCARD (R357): A Basalt frame with a bad CRC, a code violation or a LEN above 1,024 is discarded and counted in CNT0.CRCERR. -/
  | basaltFrameDiscard (violation : Bool) (octets : List Byte)
  /-- UART_FRAME_DISCARD (R155): A YN4100 UART frame with a bad CRC or a LEN above 248 is discarded without reply. -/
  | uartFrameDiscard (bytes : List Byte) (soon : Bool)
  /-- COMPAT_UNKNOWN_COMMAND (R156): A valid UART frame with a CMD code not in the YN4100 set is answered with RESULT BAD_CMD. -/
  | compatUnknownCommand (seq cmd : Byte) (soon : Bool) (payload : List Byte)
  /-- SPI_UNKNOWN_COMMAND (R140): An SPI transaction with an unknown code, or EXQPI outside QPI, is ignored until HSPI_CS rises and breaks an RSTEN–RSTIF pair. -/
  | spiUnknownCommand (code : Byte)
  /-- TAG_REQUEST_CRC_FAILURE (R569): A tag request whose CRC fails gets no answer and increments NFCTAG.CNT.CRCERR. -/
  | tagRequestCrcFailure
  /-- RESERVED_OPCODE (R388): An engine fetches a reserved opcode, an opcode of the other format or an undefined selector value, and raises ILLEGAL. -/
  | reservedOpcode (e : Fin 12) (word ext : Half)
  /-- MSG_RESTORE_COMPLETE (R342): After a restart, E6 finishes rebuilding its windows and queue from flash, clears MSG.STAT.RESTORING and accepts SEND again. -/
  | msgRestoreComplete
  /-- KEPT_RSP_EXPIRY (R348): A kept RSP reaches the lifetime of its REQ's class and its entry is released, so later copies of the REQ get RSP_LOST. -/
  | keptRspExpiry (peer : Half) (msgid : Word)
  /-- LF_MEASUREMENT_UPDATE (R121): Every 32,768 LF ticks while the XO runs, CLK.LFMEAS is updated with the XO cycles counted. -/
  | lfMeasurementUpdate (count : Word)
  deriving DecidableEq, Repr

end Sys2Proof
end

