-- ==== Sys2Proof/Decode.lean ====
section
/-!
DEFINITION. The command that a word spells by the bits of the opcode table. The table of this block gives no row any bits
(log entry 2): a command reaches the module as a register access, a frame, an edge on a pin or an instruction of an engine,
and each constructor of Instr names it with its operands.
-/

namespace Sys2Proof

/-- No row of the table has bits, so no word spells a command. -/
def decodeTableWord (_nbits _w : Nat) : Option Instr := none

end Sys2Proof
end

