-- ==== Sys2Proof/Config.lean ====
section
/-!
DEFINITION. What one module has been given at manufacture, and the values the spec leaves open. Every constant here is
without a body: nothing can evaluate it, so a claim about the machine holds whatever it is.
-/

namespace Sys2Proof.Config

/-- The n-th value the spec leaves open: a draw of the DRBG (R491) or a content the spec does not state. State.freeCount
numbers the draws. -/
opaque freeByte : Nat → Byte

/-- The extended address of the module, 8 octets as a number (R308, R500). -/
opaque extAddr : BitVec 64

/-- The IC manufacturer code registered to Waltraus, octet 6 of the tag UID (R569). -/
opaque icCode : Byte

/-- The format version of the retained-settings record that the running images expect (R83). -/
opaque formatVersion : Nat

/-- FLASH.NOM: nominal pulses of a sector erase and of a block erase, measured at manufacture (R484). -/
opaque nomErase : BitVec 8
opaque nomBlock : BitVec 8

/-- The identity scalar in OTP (R499). -/
opaque identityScalar : BitVec 384

/-- SHA-384 of the Waltraus image-signing key, in OTP (R501). -/
opaque waltrausKeyHash : List Byte

/-- The Waltraus image-signing public key itself, X ‖ Y, which verifies tokens of SIGNER 0 (R510, R535). -/
opaque waltrausKey : List Byte

/-- The customer public keys whose hashes OTP holds, as the manifest names them (R502). -/
opaque customerKey : Nat → List Byte

/-- The two X.509 certificates in DER (R500): 0 device, 1 CA. -/
opaque certificate : Nat → List Byte

/-- SHA-384 of the boot ROM (R505). -/
opaque romDigest : List Byte

/-- The boot ROM, byte by byte (R380). -/
opaque romByte : Nat → Byte

/-- The MCS that the link engine chooses in a SUN OFDM mode (R189 refers to a chapter that states no choice), the airtime of a frame, in
ns, by mode code, MCS and PSDU octets, and that of its preamble (R189 leaves both to IEEE 802.15.4-2020). -/
opaque ofdmMcs : Nat → Nat
opaque ofdmAirtime : Nat → Nat → Nat → Nat
opaque ofdmPre : Nat → Nat

/-- The power in half dBm that the link to a neighbour requests (R173 names it; no rule states it). -/
opaque linkPower : Nat → Int

/-- The parity bits of a codeword of IEEE 802.11-2020, of 1,296 bits less the information bits, by rate (R218). -/
opaque ldpcParity : Nat → List Bool → List Bool

/-- The ramp table that the calibration tables of a manifest give a chain (R174): by the tables' bytes, chain and entry register, two
entries of 10 bits. The format of a table is not stated. -/
opaque rampTable : List Byte → Nat → Nat → BitVec 32

/-- A chain's factory calibration results (R172), by chain and field (0, 1 image gain and phase, 2 filter, 3, 4 DC, 5 VCO), and
the factory tuner states by sub-band (R176). -/
opaque factoryCal : Nat → Nat → BitVec 16
opaque factoryTuner : Nat → BitVec 6

/-- The running mean of a neighbour's timing errors after one more error (R249 gives it no formula): of the mean before and the
error. -/
opaque meanError : Int → Int → Int

/-- The configuration CRC-32 of a HELLO over the values that R359 lists in order; the spec does not say in how many octets each
stands. -/
opaque pairConfig : List Nat → BitVec 32

/-- The security version of a boot block's image region that passes the boot ROM's check, none where it fails (R80, R480 name the
check and not the form that the ROM checks). -/
opaque bootBlock : List Byte → Option Nat

end Sys2Proof.Config
end

