-- ==== Sys2Proof/Machine/Crypto.lean ====
section
/-!
DEFINITION. The checksums, the cipher, the hash and the signature check that the spec names by standard: CRC-16 and
CRC-8 (R155, R482, R524), AES of FIPS 197 (R493), SHA-384 of FIPS 180-4 (R496) and ECDSA over brainpoolP384r1 (R498).
-/

namespace Sys2Proof.Machine

/-! ### Byte order -/

/-- Little-endian bytes of a number (R6). -/
def leBytes : Nat → Nat → List Byte
  | 0, _ => []
  | n + 1, v => BitVec.ofNat 8 (v % 256) :: leBytes n (v / 256)

/-- The number that little-endian bytes spell. -/
def ofLe : List Byte → Nat
  | [] => 0
  | b :: bs => b.toNat + 256 * ofLe bs

/-- Big-endian bytes of a number (R498). -/
def beBytes (n v : Nat) : List Byte := (leBytes n v).reverse

/-- The number that big-endian bytes spell. -/
def ofBe (bs : List Byte) : Nat := ofLe bs.reverse

/-- `n` bytes of zero. -/
def zeros (n : Nat) : List Byte := List.replicate n 0

/-- The first `n` bytes from offset `o`, zeros past the end. -/
def slice (bs : List Byte) (o n : Nat) : List Byte := ((bs ++ zeros (o + n)).drop o).take n

/-- The bytes of a text of ASCII characters. -/
def ascii (t : String) : List Byte := t.toList.map (fun c => BitVec.ofNat 8 c.toNat)

/-! ### Checksums -/

/-- One bit of the CRC-16 with polynomial 0x1021. -/
def crc16Bit (c : BitVec 16) : BitVec 16 :=
  bif c.msb then (c <<< 1) ^^^ 0x1021#16 else c <<< 1

/-- Iterate a function. -/
def iter {α : Type} (f : α → α) : Nat → α → α
  | 0, a => a
  | n + 1, a => iter f n (f a)

/-- CRC-16, polynomial 0x1021, initial value 0xFFFF (R155, R524). -/
def crc16 (bs : List Byte) : BitVec 16 :=
  bs.foldl (fun c b => iter crc16Bit 8 (c ^^^ (BitVec.shiftLeft (b.setWidth 16) 8))) 0xFFFF#16

/-- One bit of the CRC-8 with polynomial 0x07. -/
def crc8Bit (c : BitVec 8) : BitVec 8 :=
  bif c.msb then (c <<< 1) ^^^ 0x07#8 else c <<< 1

/-- CRC-8, polynomial 0x07, initial value 0 (R184, R309, R482). -/
def crc8 (bs : List Byte) : BitVec 8 := bs.foldl (fun c b => iter crc8Bit 8 (c ^^^ b)) 0#8

/-! ### AES (FIPS 197) -/

/-- Multiplication by x in GF(2^8). -/
def xtime (b : Byte) : Byte := bif b.msb then (b <<< 1) ^^^ 0x1B#8 else b <<< 1

/-- Multiplication in GF(2^8). -/
def gfMul (a b : Byte) : Byte :=
  ((List.range 8).foldl (fun (acc : Byte × Byte) i =>
    (bif b.getLsbD i then acc.1 ^^^ acc.2 else acc.1, xtime acc.2)) (0#8, a)).1

/-- The S-box of FIPS 197, one number for each row of its table: the row of high digit x, its column y at 256^y. -/
def sRows : List Nat :=
  [0x76ABD7FE2B670130C56F6BF27B777C63, 0xC072A49CAFA2D4ADF04759FA7DC982CA, 0x1531D871F1E5A534CCF73F362693FDB7,
   0x75B227EBE28012079A059618C323C704, 0x842FE329B3D63B52A05A6E1B1A2C8309, 0xCF584C4A39BECB6A5BB1FC20ED00D153,
   0xA89F3C507F02F94585334D43FBAAEFD0, 0xD2F3FF1021DAB6BCF5389D928F40A351, 0x73195D643D7EA7C41744975FEC130CCD,
   0xDB0B5EDE14B8EE4688902A22DC4F8160, 0x79E4959162ACD3C25C2406490A3A32E0, 0x08AE7A65EAF4566CA94ED58D6D37C8E7,
   0x8A8BBD4B1F74DDE8C6B4A61C2E2578BA, 0x9E1DC186B95735610EF6034866B53E70, 0xDF2855CEE9871E9B948ED9691198F8E1,
   0x16BB54B00F2D99416842E6BF0D89A18C]

/-- The inverse S-box, the same way. -/
def sInvRows : List Nat :=
  [0xFBD7F3819EA340BF38A53630D56A0952, 0xCBE9DEC444438E3487FF2F9B8239E37C, 0x4EC3FA420B954CEE3D23C2A632947B54,
   0x25D18B6D49A25B76B224D92866A12E08, 0x92B6655DCC5CA4D41698688664F6F872, 0x849D8DA75746155EDAB9EDFD5048706C,
   0x0645B3B80558E4F70AD3BC8C00ABD890, 0x6B8A130103BDAFC1020F3FCA8F1E2CD0, 0x73E6B4F0CECFF297EADC674F4111913A,
   0x6EDF751CE837F9E28535ADE72274AC96, 0x1BBE18AA0E62B76F89C5291D711AF147, 0xF45ACD78FEC0DB9A2079D2C64B3E56FC,
   0x5FEC8027591012B131C7078833A8DD1F, 0xEF9CC9939F7AE52D0D4AB519A97F5160, 0x619953833CBBEBC8B0F52AAE4D3BE0A0,
   0x7D0C2155631469E126D677BA7E042B17]

/-- The entry of a table at a byte. -/
def sAt (rows : List Nat) (b : Byte) : Byte := BitVec.ofNat 8 (rows.getD (b.toNat / 16) 0 / 256 ^ (b.toNat % 16))

/-- SubBytes on one byte. -/
def sBox (b : Byte) : Byte := sAt sRows b

/-- InvSubBytes on one byte. -/
def sBoxInv (b : Byte) : Byte := sAt sInvRows b

/-- Byte `i` of a list, 0 past its end. -/
def byteAt (bs : List Byte) (i : Nat) : Byte := bs.getD i 0

/-- Bytewise exclusive or. -/
def xorBytes (a b : List Byte) : List Byte := List.zipWith (· ^^^ ·) a b

/-- Words of the key schedule, newest first: `nk` words of key, then word `i` from words `i-1` and `i-nk`. -/
def keyExpand (nk : Nat) : Nat → List (List Byte) → Byte → List (List Byte)
  | 0, ws, _ => ws
  | n + 1, ws, rcon =>
    let i := ws.length
    let prev := ws.headD (zeros 4)
    let back := ws.getD (nk - 1) (zeros 4)
    let rot := (prev.drop 1 ++ prev.take 1).map sBox
    let t := bif i % nk == 0 then xorBytes rot [rcon, 0, 0, 0]
      else bif nk == 8 && i % nk == 4 then prev.map sBox else prev
    keyExpand nk n (xorBytes back t :: ws) (bif i % nk == 0 then xtime rcon else rcon)

/-- The round keys of a 16- or 32-byte key, first to last, 16 bytes each, as one list. -/
def roundKeys (key : List Byte) (nk nr : Nat) : List Byte :=
  let ws := (List.range nk).map (fun i => slice key (4 * i) 4)
  ((keyExpand nk (4 * (nr + 1) - nk) ws.reverse 1#8).reverse).flatten

/-- ShiftRows: byte r + 4c comes from column c + r. -/
def shiftRows (st : List Byte) : List Byte :=
  (List.range 16).map (fun i => byteAt st (i % 4 + 4 * ((i / 4 + i % 4) % 4)))

/-- InvShiftRows. -/
def invShiftRows (st : List Byte) : List Byte :=
  (List.range 16).map (fun i => byteAt st (i % 4 + 4 * ((i / 4 + 4 - i % 4) % 4)))

/-- A column mix with the first matrix row `m`. -/
def mixWith (m : List Byte) (st : List Byte) : List Byte :=
  (List.range 16).map (fun i =>
    (List.range 4).foldl (fun acc j =>
      acc ^^^ gfMul (byteAt m ((j + 4 - i % 4) % 4)) (byteAt st (4 * (i / 4) + j))) 0#8)

def mixColumns : List Byte → List Byte := mixWith [2, 3, 1, 1]
def invMixColumns : List Byte → List Byte := mixWith [0x0E, 0x0B, 0x0D, 0x09]

/-- The cipher of FIPS 197. -/
def aesEncrypt (key : List Byte) (len256 : Bool) (block : List Byte) : List Byte :=
  let nk := bif len256 then 8 else 4
  let nr := bif len256 then 14 else 10
  let rk := roundKeys key nk nr
  let rkAt (i : Nat) := slice rk (16 * i) 16
  let st0 := xorBytes (slice block 0 16) (rkAt 0)
  let st := (List.range (nr - 1)).foldl (fun st i =>
    xorBytes (mixColumns (shiftRows (st.map sBox))) (rkAt (i + 1))) st0
  xorBytes (shiftRows (st.map sBox)) (rkAt nr)

/-- The inverse cipher of FIPS 197. -/
def aesDecrypt (key : List Byte) (len256 : Bool) (block : List Byte) : List Byte :=
  let nk := bif len256 then 8 else 4
  let nr := bif len256 then 14 else 10
  let rk := roundKeys key nk nr
  let rkAt (i : Nat) := slice rk (16 * i) 16
  let st0 := xorBytes (slice block 0 16) (rkAt nr)
  let st := (List.range (nr - 1)).foldl (fun st i =>
    invMixColumns (xorBytes ((invShiftRows st).map sBoxInv) (rkAt (nr - 1 - i)))) st0
  xorBytes ((invShiftRows st).map sBoxInv) (rkAt 0)

/-! ### SHA-384 (FIPS 180-4) -/

def sha512K : List (BitVec 64) :=
  [0x428a2f98d728ae22#64, 0x7137449123ef65cd#64, 0xb5c0fbcfec4d3b2f#64, 0xe9b5dba58189dbbc#64,
   0x3956c25bf348b538#64, 0x59f111f1b605d019#64, 0x923f82a4af194f9b#64, 0xab1c5ed5da6d8118#64,
   0xd807aa98a3030242#64, 0x12835b0145706fbe#64, 0x243185be4ee4b28c#64, 0x550c7dc3d5ffb4e2#64,
   0x72be5d74f27b896f#64, 0x80deb1fe3b1696b1#64, 0x9bdc06a725c71235#64, 0xc19bf174cf692694#64,
   0xe49b69c19ef14ad2#64, 0xefbe4786384f25e3#64, 0x0fc19dc68b8cd5b5#64, 0x240ca1cc77ac9c65#64] ++
  [0x2de92c6f592b0275#64, 0x4a7484aa6ea6e483#64, 0x5cb0a9dcbd41fbd4#64, 0x76f988da831153b5#64,
   0x983e5152ee66dfab#64, 0xa831c66d2db43210#64, 0xb00327c898fb213f#64, 0xbf597fc7beef0ee4#64,
   0xc6e00bf33da88fc2#64, 0xd5a79147930aa725#64, 0x06ca6351e003826f#64, 0x142929670a0e6e70#64,
   0x27b70a8546d22ffc#64, 0x2e1b21385c26c926#64, 0x4d2c6dfc5ac42aed#64, 0x53380d139d95b3df#64,
   0x650a73548baf63de#64, 0x766a0abb3c77b2a8#64, 0x81c2c92e47edaee6#64, 0x92722c851482353b#64] ++
  [0xa2bfe8a14cf10364#64, 0xa81a664bbc423001#64, 0xc24b8b70d0f89791#64, 0xc76c51a30654be30#64,
   0xd192e819d6ef5218#64, 0xd69906245565a910#64, 0xf40e35855771202a#64, 0x106aa07032bbd1b8#64,
   0x19a4c116b8d2d0c8#64, 0x1e376c085141ab53#64, 0x2748774cdf8eeb99#64, 0x34b0bcb5e19b48a8#64,
   0x391c0cb3c5c95a63#64, 0x4ed8aa4ae3418acb#64, 0x5b9cca4f7763e373#64, 0x682e6ff3d6b2b8a3#64,
   0x748f82ee5defb2fc#64, 0x78a5636f43172f60#64, 0x84c87814a1f0ab72#64, 0x8cc702081a6439ec#64] ++
  [0x90befffa23631e28#64, 0xa4506cebde82bde9#64, 0xbef9a3f7b2c67915#64, 0xc67178f2e372532b#64,
   0xca273eceea26619c#64, 0xd186b8c721c0c207#64, 0xeada7dd6cde0eb1e#64, 0xf57d4f7fee6ed178#64,
   0x06f067aa72176fba#64, 0x0a637dc5a2c898a6#64, 0x113f9804bef90dae#64, 0x1b710b35131c471b#64,
   0x28db77f523047d84#64, 0x32caab7b40c72493#64, 0x3c9ebe0a15c9bebc#64, 0x431d67c49c100d4c#64,
   0x4cc5d4becb3e42b6#64, 0x597f299cfc657e2a#64, 0x5fcb6fab3ad6faec#64, 0x6c44198c4a475817#64]

/-- The initial hash value of SHA-384. -/
def sha384H0 : List (BitVec 64) :=
  [0xcbbb9d5dc1059ed8#64, 0x629a292a367cd507#64, 0x9159015a3070dd17#64, 0x152fecd8f70e5939#64,
   0x67332667ffc00b31#64, 0x8eb44a8768581511#64, 0xdb0c2e0d64f98fa7#64, 0x47b5481dbefa4fa4#64]

def rotr64 (x : BitVec 64) (n : Nat) : BitVec 64 := x.rotateRight n

/-- Word `i` of a list of 64-bit words, 0 past its end. -/
def wordAt (ws : List (BitVec 64)) (i : Nat) : BitVec 64 := ws.getD i 0

/-- The message schedule, newest first: 64 more words after the block's 16. -/
def shaSchedule : Nat → List (BitVec 64) → List (BitVec 64)
  | 0, ws => ws
  | n + 1, ws =>
    let a := wordAt ws 14
    let b := wordAt ws 1
    let s0 := rotr64 a 1 ^^^ rotr64 a 8 ^^^ (a >>> 7)
    let s1 := rotr64 b 19 ^^^ rotr64 b 61 ^^^ (b >>> 6)
    shaSchedule n ((wordAt ws 15 + s0 + wordAt ws 6 + s1) :: ws)

/-- One round on the eight working words. -/
def shaRound (h : List (BitVec 64)) (kw : BitVec 64) : List (BitVec 64) :=
  let a := wordAt h 0
  let e := wordAt h 4
  let ch := (e &&& wordAt h 5) ^^^ (~~~e &&& wordAt h 6)
  let maj := (a &&& wordAt h 1) ^^^ (a &&& wordAt h 2) ^^^ (wordAt h 1 &&& wordAt h 2)
  let t1 := wordAt h 7 + (rotr64 e 14 ^^^ rotr64 e 18 ^^^ rotr64 e 41) + ch + kw
  let t2 := (rotr64 a 28 ^^^ rotr64 a 34 ^^^ rotr64 a 39) + maj
  [t1 + t2, a, wordAt h 1, wordAt h 2, wordAt h 3 + t1, e, wordAt h 5, wordAt h 6]

/-- One compression of a 128-byte block. -/
def shaCompress (h : List (BitVec 64)) (block : List Byte) : List (BitVec 64) :=
  let w0 := (List.range 16).map (fun i => BitVec.ofNat 64 (ofBe (slice block (8 * i) 8)))
  let ws := (shaSchedule 64 w0.reverse).reverse
  let h' := (List.zipWith (· + ·) sha512K ws).foldl shaRound h
  List.zipWith (· + ·) h h'

/-- A message with its padding: 0x80, zeros and the 128-bit length in bits. -/
def shaPad (m : List Byte) : List Byte :=
  m ++ 0x80#8 :: zeros ((239 - m.length % 128) % 128) ++ beBytes 16 (8 * m.length)

/-- SHA-384. -/
def sha384 (m : List Byte) : List Byte :=
  let p := shaPad m
  let h := (List.range (p.length / 128)).foldl (fun h i => shaCompress h (slice p (128 * i) 128)) sha384H0
  (h.take 6).flatMap (fun w => beBytes 8 w.toNat)

/-! ### ECDSA over brainpoolP384r1 (RFC 5639, ANSI X9.62) -/

def bpP : Nat := 0x8CB91E82A3386D280F5D6F7E50E641DF152F7109ED5456B412B1DA197FB71123ACD3A729901D1A71874700133107EC53
def bpA : Nat := 0x7BC382C63D8C150C3C72080ACE05AFA0C2BEA28E4FB22787139165EFBA91F90F8AA5814A503AD4EB04A8C7DD22CE2826
def bpB : Nat := 0x04A8C7DD22CE28268B39B55416F0447C2FB77DE107DCD2A62E880EA53EEB62D57CB4390295DBC9943AB78696FA504C11
def bpX : Nat := 0x1D1C64F068CF45FFA2A63A81B7C13F6B8847A3E77EF14FE3DB7FCAFE0CBD10E8E826E03436D646AAEF87B2E247D4AF1E
def bpY : Nat := 0x8ABE1D7520F9C2A45CB1EB8E95CFD55262B70B29FEEC5864E19C054FF99129280E4646217791811142820341263C5315
def bpQ : Nat := 0x8CB91E82A3386D280F5D6F7E50E641DF152F7109ED5456B31F166E6CAC0425A7CF3AB6AF6B7FC3103B883202E9046565

/-- Powers modulo `m` by squaring, `fuel` bits of the exponent. -/
def powMod (m : Nat) : Nat → Nat → Nat → Nat
  | 0, _, _ => 1 % m
  | fuel + 1, b, e =>
    let r := powMod m fuel (b * b % m) (e / 2)
    bif e % 2 == 1 then r * b % m else r

/-- The inverse modulo a prime of 384 bits. -/
def invMod (m a : Nat) : Nat := powMod m 384 (a % m) (m - 2)

/-- A point of the curve in affine form; none is the point at infinity. -/
abbrev EcPoint := Option (Nat × Nat)

/-- Point addition. -/
def ecAdd : EcPoint → EcPoint → EcPoint
  | none, q => q
  | p, none => p
  | some (x1, y1), some (x2, y2) =>
    bif x1 == x2 && (y1 + y2) % bpP == 0 then none
    else
      let l := bif x1 == x2 then (3 * x1 * x1 + bpA) * invMod bpP (2 * y1) % bpP
        else (y2 + bpP - y1) * invMod bpP (x2 + bpP - x1) % bpP
      let x3 := (l * l + 2 * bpP - x1 - x2) % bpP
      some (x3, (l * (x1 + bpP - x3) + bpP - y1) % bpP)

/-- Scalar multiplication, `fuel` bits of the scalar. -/
def ecMul : Nat → Nat → EcPoint → EcPoint
  | 0, _, _ => none
  | fuel + 1, k, p =>
    let r := ecMul fuel (k / 2) (ecAdd p p)
    bif k % 2 == 1 then ecAdd r p else r

/-- A public key that is a point on the curve (R498). -/
def onCurve (x y : Nat) : Bool :=
  Nat.blt x bpP && Nat.blt y bpP && (y * y) % bpP == (x * x * x + bpA * x + bpB) % bpP

/-- The key X ‖ Y names a point on the curve. -/
def keyOk (key : List Byte) : Bool :=
  key.length == 96 && onCurve (ofBe (key.take 48)) (ofBe (key.drop 48))

/-- ECDSA verification of the digest `d` under the key X ‖ Y with the signature r ‖ s. -/
def ecdsaVerify (key d sig : List Byte) : Bool :=
  let r := ofBe (slice sig 0 48)
  let s := ofBe (slice sig 48 48)
  let w := invMod bpQ s
  let u1 := ofBe d * w % bpQ
  let u2 := r * w % bpQ
  let pt := ecAdd (ecMul 384 u1 (some (bpX, bpY)))
    (ecMul 384 u2 (some (ofBe (slice key 0 48), ofBe (slice key 48 48))))
  keyOk key && Nat.blt 0 r && Nat.blt r bpQ && Nat.blt 0 s && Nat.blt s bpQ &&
    (match pt with | none => false | some (x, _) => x % bpQ == r)

/-- ECDSA signature of the digest `d` with the private scalar and the nonce `k`: r ‖ s. -/
def ecdsaSign (scalar k : Nat) (d : List Byte) : List Byte :=
  let r := match ecMul 384 k (some (bpX, bpY)) with | none => 0 | some (x, _) => x % bpQ
  beBytes 48 r ++ beBytes 48 (invMod bpQ k * (ofBe d + r * scalar) % bpQ)

end Sys2Proof.Machine
end

