-- ==== Sys2Proof/Machine/Regs.lean ====
section
/-!
DEFINITION. Every register field of the Shale pages by name (the register tables of spec/03 to spec/24 and the common
page header, R124): its page, its offset in the page, its lowest bit and its width. A field whose register is indexed
takes its index. The names are the spec's: page, then register and field.
-/

namespace Sys2Proof.Machine

/-- A register field: where it lies in the register space (page, byte offset of its word, lowest bit) and how wide
it is. -/
structure Fld where
  page  : Nat
  off   : Nat
  lsb   : Nat
  width : Nat
  deriving DecidableEq, Repr

/-- The address of a field's lowest bit: one number per bit of the register space, rising with page, offset, bit. -/
def Fld.key (f : Fld) : Nat := (f.page * 256 + f.off) * 32 + f.lsb

/-- The field's bits in a whole word of its register. -/
def Fld.of (f : Fld) (w : Nat) : Nat := w / 2 ^ f.lsb % 2 ^ f.width

namespace R

namespace HDR
/-- CTL.EN of page `p` (R124, R127). -/
abbrev EN (p : Nat) : Fld := ⟨p, 0x04, 0, 1⟩
/-- CTL.LOCK of page `p` (R10, R132). -/
abbrev LOCK (p : Nat) : Fld := ⟨p, 0x04, 2, 1⟩
/-- STATE.ST of page `p` (R124): 0 DISABLED, 1 CHECKING, 2 ENABLED, 3 STOPPING, 4 FAILED. -/
abbrev ST (p : Nat) : Fld := ⟨p, 0x08, 0, 4⟩
/-- STATE.REASON of page `p` (R135). -/
abbrev REASON (p : Nat) : Fld := ⟨p, 0x08, 8, 8⟩
/-- STATE.BLK of page `p` (R124). -/
abbrev BLK (p : Nat) : Fld := ⟨p, 0x08, 16, 16⟩
/-- IRQ_STAT bit `b` of page `p` (R124, R9). -/
abbrev IRQ (p b : Nat) : Fld := ⟨p, 0x0C, b, 1⟩
/-- IRQ_MASK of page `p` (R124, R149). -/
abbrev MASK (p : Nat) : Fld := ⟨p, 0x10, 0, 32⟩
/-- OWNER.ID of page `p` (R136, R137). -/
abbrev OWNER (p : Nat) : Fld := ⟨p, 0x14, 0, 4⟩
/-- OWNER.SEC of page `p` (R136). -/
abbrev SEC (p : Nat) : Fld := ⟨p, 0x14, 8, 1⟩
/-- ERRINFO of page `p` (R124). -/
abbrev ERRINFO (p : Nat) : Fld := ⟨p, 0x18, 0, 32⟩
end HDR

/-! Page SYS: 03_modes_startup_faults.md -/
namespace SYS
abbrev MODE_CUR : Fld := ⟨0x0, 0x20, 0, 4⟩
abbrev MODE_PREV : Fld := ⟨0x0, 0x20, 4, 4⟩
abbrev MODE_CAUSE : Fld := ⟨0x0, 0x20, 8, 8⟩
abbrev MODE_REQ_TARGET : Fld := ⟨0x0, 0x24, 0, 4⟩
abbrev MODE_REQ_KEY : Fld := ⟨0x0, 0x24, 16, 16⟩
abbrev OUTAGE_LIMIT_MIN : Fld := ⟨0x0, 0x28, 0, 16⟩
abbrev HOLD_WAKE_MIN : Fld := ⟨0x0, 0x2c, 0, 16⟩
abbrev RESTORE_SRC_SRC : Fld := ⟨0x0, 0x30, 0, 2⟩
abbrev RESTORE_SRC_Q_FAIL : Fld := ⟨0x0, 0x30, 4, 1⟩
abbrev RESTORE_SRC_A_FAIL : Fld := ⟨0x0, 0x30, 5, 1⟩
abbrev RESTORE_SRC_B_FAIL : Fld := ⟨0x0, 0x30, 6, 1⟩
abbrev RESET_CAUSE_POR : Fld := ⟨0x0, 0x34, 0, 1⟩
abbrev RESET_CAUSE_PIN : Fld := ⟨0x0, 0x34, 1, 1⟩
abbrev RESET_CAUSE_WDOG : Fld := ⟨0x0, 0x34, 2, 1⟩
abbrev RESET_CAUSE_ESCALATE : Fld := ⟨0x0, 0x34, 3, 1⟩
abbrev RESET_CAUSE_SUPPLY : Fld := ⟨0x0, 0x34, 4, 1⟩
abbrev RESET_CAUSE_MAINT : Fld := ⟨0x0, 0x34, 5, 1⟩
abbrev RESET_CAUSE_XO_FAIL : Fld := ⟨0x0, 0x34, 6, 1⟩
abbrev BOOT_STAT_CUST_FAIL : Fld := ⟨0x0, 0x38, 0, 1⟩
abbrev BOOT_STAT_RECOVERED : Fld := ⟨0x0, 0x38, 1, 1⟩
abbrev BOOT_STAT_MS : Fld := ⟨0x0, 0x38, 8, 8⟩
abbrev PWRCYC_COUNT : Fld := ⟨0x0, 0x3c, 0, 24⟩
abbrev OPSEC_SEC : Fld := ⟨0x0, 0x40, 0, 32⟩
end SYS

/-! Page HOSTIF: 05_shale_pages_host_interface.md -/
namespace HOSTIF
abbrev CFG_QPI : Fld := ⟨0x1, 0x20, 0, 1⟩
abbrev CFG_WAIT : Fld := ⟨0x1, 0x20, 8, 8⟩
abbrev STAT_HOLD_DROP : Fld := ⟨0x1, 0x24, 1, 1⟩
abbrev STAT_WDROP : Fld := ⟨0x1, 0x24, 2, 1⟩
abbrev STAT_BURST_ERR : Fld := ⟨0x1, 0x24, 3, 1⟩
abbrev STAT_HELD : Fld := ⟨0x1, 0x24, 4, 1⟩
abbrev STAT_WFREE : Fld := ⟨0x1, 0x24, 8, 7⟩
abbrev LASTREF_REASON : Fld := ⟨0x1, 0x28, 0, 8⟩
abbrev LASTREF_ADDR : Fld := ⟨0x1, 0x28, 8, 16⟩
abbrev LASTREF_WR : Fld := ⟨0x1, 0x28, 24, 1⟩
abbrev REFCNT_COUNT : Fld := ⟨0x1, 0x2c, 0, 24⟩
abbrev WDROPCNT_COUNT : Fld := ⟨0x1, 0x30, 0, 16⟩
abbrev ASSIGN_PAGE : Fld := ⟨0x1, 0x34, 0, 8⟩
abbrev ASSIGN_OWNER : Fld := ⟨0x1, 0x34, 8, 4⟩
abbrev IRQSUM_PAGES (k : Nat) : Fld := ⟨0x1, 0x40 + 4 * k, 0, 32⟩
abbrev WIN_ADV (n : Nat) : Fld := ⟨0x1, 0x50 + 4 * n, 0, 1⟩
abbrev WIN_BASE (n : Nat) : Fld := ⟨0x1, 0x50 + 4 * n, 8, 24⟩
abbrev S_RADIO_REGION : Fld := ⟨0x1, 0xa0, 0, 8⟩
abbrev S_RADIO_BANDPLAN : Fld := ⟨0x1, 0xa0, 8, 8⟩
abbrev S_MAINS_HZ : Fld := ⟨0x1, 0xa4, 0, 2⟩
abbrev S_MAINS_PHASE : Fld := ⟨0x1, 0xa4, 2, 2⟩
abbrev S_MAINS_PLCBAND : Fld := ⟨0x1, 0xa4, 4, 2⟩
abbrev S_LAT_LAT : Fld := ⟨0x1, 0xa8, 0, 32⟩
abbrev S_LON_LON : Fld := ⟨0x1, 0xac, 0, 32⟩
abbrev S_ROLE_ROLE : Fld := ⟨0x1, 0xb0, 0, 2⟩
abbrev S_ROLE_PAIR_EN : Fld := ⟨0x1, 0xb0, 2, 1⟩
abbrev S_HINT_COUNT : Fld := ⟨0x1, 0xb4, 0, 3⟩
abbrev S_PAN (j : Nat) : Fld := ⟨0x1, 0xB8 + 4 * (j / 2), 16 * (j % 2), 16⟩
abbrev S_CMT_GO : Fld := ⟨0x1, 0xc0, 0, 1⟩
abbrev S_VALID_FACTS : Fld := ⟨0x1, 0xc4, 0, 8⟩
end HOSTIF

/-! Page PWR: 04_power_domains_clocks.md -/
namespace PWR
abbrev DOMSTAT (k : Nat) : Fld := ⟨0x2, 0x20 + 4 * (k / 16), 2 * (k % 16), 2⟩
abbrev DOMCMD_IDX : Fld := ⟨0x2, 0x28, 0, 5⟩
abbrev DOMCMD_TARGET : Fld := ⟨0x2, 0x28, 8, 2⟩
abbrev DOMCMD_NOWAKE : Fld := ⟨0x2, 0x28, 12, 1⟩
abbrev NOWAKE_MAP : Fld := ⟨0x2, 0x2c, 0, 27⟩
abbrev HOSTREQ_NFC : Fld := ⟨0x2, 0x30, 0, 2⟩
abbrev HOSTREQ_METER : Fld := ⟨0x2, 0x30, 2, 2⟩
abbrev HOSTREQ_LUM : Fld := ⟨0x2, 0x30, 4, 2⟩
abbrev HOSTREQ_PAIR : Fld := ⟨0x2, 0x30, 6, 2⟩
abbrev ABORTS_COUNT : Fld := ⟨0x2, 0x34, 0, 24⟩
abbrev ABORTS_LASTPT : Fld := ⟨0x2, 0x34, 24, 3⟩
abbrev ABORTS_LASTIDX : Fld := ⟨0x2, 0x34, 27, 5⟩
abbrev WAKESRC_SRC : Fld := ⟨0x2, 0x38, 0, 4⟩
abbrev WAKESRC_IDX : Fld := ⟨0x2, 0x38, 4, 5⟩
abbrev SUPPLY_MAINS : Fld := ⟨0x2, 0x3c, 0, 1⟩
abbrev SUPPLY_BROWNOUT : Fld := ⟨0x2, 0x3c, 1, 1⟩
abbrev SUPPLY_OVERVOLT : Fld := ⟨0x2, 0x3c, 2, 1⟩
abbrev SUPPLY_VBAK_OK : Fld := ⟨0x2, 0x3c, 3, 1⟩
abbrev SUPPLY_VBAK : Fld := ⟨0x2, 0x3c, 8, 8⟩
abbrev V3OUT_OUTAGE_EN : Fld := ⟨0x2, 0x40, 0, 1⟩
abbrev BO_STAT_RLY_DEFER : Fld := ⟨0x2, 0x44, 0, 1⟩
abbrev BO_STAT_TXLIM : Fld := ⟨0x2, 0x44, 1, 1⟩
abbrev ASQ_STAT_MATCH : Fld := ⟨0x2, 0x48, 0, 8⟩
abbrev ASQ_STAT_SKIP : Fld := ⟨0x2, 0x48, 8, 8⟩
abbrev ASQ_CFG_EN (n : Nat) : Fld := ⟨0x2, 0x60 + 8 * n, 0, 1⟩
abbrev ASQ_CFG_UNIT (n : Nat) : Fld := ⟨0x2, 0x60 + 8 * n, 1, 1⟩
abbrev ASQ_CFG_SRC (n : Nat) : Fld := ⟨0x2, 0x60 + 8 * n, 2, 3⟩
abbrev ASQ_CFG_CMP (n : Nat) : Fld := ⟨0x2, 0x60 + 8 * n, 5, 2⟩
abbrev ASQ_CFG_ACTION (n : Nat) : Fld := ⟨0x2, 0x60 + 8 * n, 7, 3⟩
abbrev ASQ_CFG_SAMPLES (n : Nat) : Fld := ⟨0x2, 0x60 + 8 * n, 12, 4⟩
abbrev ASQ_CFG_PERIOD (n : Nat) : Fld := ⟨0x2, 0x60 + 8 * n, 16, 16⟩
abbrev ASQ_THR_LO (n : Nat) : Fld := ⟨0x2, 0x64 + 8 * n, 0, 16⟩
abbrev ASQ_THR_HI (n : Nat) : Fld := ⟨0x2, 0x64 + 8 * n, 16, 16⟩
end PWR

/-! Page CLK: 04_power_domains_clocks.md -/
namespace CLK
abbrev STAT_XO_ON : Fld := ⟨0x3, 0x20, 0, 1⟩
abbrev STAT_XO_OK : Fld := ⟨0x3, 0x20, 1, 1⟩
abbrev STAT_PLL_LOCK : Fld := ⟨0x3, 0x20, 2, 1⟩
abbrev STAT_LF_OK : Fld := ⟨0x3, 0x20, 3, 1⟩
abbrev STAT_STITCHING : Fld := ⟨0x3, 0x20, 4, 1⟩
abbrev HOSTREQ_XO : Fld := ⟨0x3, 0x24, 0, 1⟩
abbrev HOSTREQ_PLL : Fld := ⟨0x3, 0x24, 1, 1⟩
abbrev ENGDIV (k : Nat) : Fld := ⟨0x3, 0x28, 2 * k, 2⟩
abbrev STITCH_INC : Fld := ⟨0x3, 0x2c, 0, 32⟩
abbrev LFMEAS_COUNT : Fld := ⟨0x3, 0x30, 0, 32⟩
abbrev STARTS_COUNT : Fld := ⟨0x3, 0x34, 0, 32⟩
end CLK

/-! Page FAULT: 03_modes_startup_faults.md -/
namespace FAULT
abbrev STATUS_ACTIVE : Fld := ⟨0x4, 0x20, 0, 1⟩
abbrev STATUS_SVALID : Fld := ⟨0x4, 0x20, 1, 1⟩
abbrev STATUS_ESCALATED : Fld := ⟨0x4, 0x20, 2, 1⟩
abbrev STATUS_NEST : Fld := ⟨0x4, 0x20, 4, 1⟩
abbrev STATUS_ESC_WIN : Fld := ⟨0x4, 0x20, 8, 4⟩
abbrev P_INFO_CAUSE : Fld := ⟨0x4, 0x24, 0, 8⟩
abbrev P_INFO_SRC : Fld := ⟨0x4, 0x24, 8, 4⟩
abbrev P_INFO_DETAIL : Fld := ⟨0x4, 0x24, 16, 16⟩
abbrev P_ADDR_ADDR : Fld := ⟨0x4, 0x28, 0, 32⟩
abbrev P_TIME_SEC : Fld := ⟨0x4, 0x2c, 0, 32⟩
abbrev S_INFO_CAUSE : Fld := ⟨0x4, 0x30, 0, 8⟩
abbrev S_INFO_SRC : Fld := ⟨0x4, 0x30, 8, 4⟩
abbrev S_INFO_DETAIL : Fld := ⟨0x4, 0x30, 16, 16⟩
abbrev S_ADDR_ADDR : Fld := ⟨0x4, 0x34, 0, 32⟩
abbrev S_TIME_SEC : Fld := ⟨0x4, 0x38, 0, 32⟩
abbrev DONE_DONE : Fld := ⟨0x4, 0x3c, 0, 1⟩
abbrev COUNT_TOTAL : Fld := ⟨0x4, 0x40, 0, 32⟩
abbrev WDOG_WDOG_MS : Fld := ⟨0x4, 0x44, 0, 8⟩
end FAULT

/-! Page RET: 03_modes_startup_faults.md -/
namespace RET
abbrev COMMIT_GO : Fld := ⟨0x5, 0x20, 0, 1⟩
abbrev STAT_BUSY : Fld := ⟨0x5, 0x24, 0, 1⟩
abbrev STAT_FLASH_ERR : Fld := ⟨0x5, 0x24, 1, 1⟩
abbrev STAT_SEQ : Fld := ⟨0x5, 0x24, 8, 24⟩
abbrev LEN_BYTES : Fld := ⟨0x5, 0x28, 0, 13⟩
end RET

/-! Page ENG: 15_flint_microcode_cluster.md -/
namespace ENG
abbrev KFMT (e : Nat) : Fld := ⟨0x10 + e, 0x04, 8, 1⟩
abbrev STAT_RUN (e : Nat) : Fld := ⟨0x10 + e, 0x20, 0, 2⟩
abbrev STAT_STALLED (e : Nat) : Fld := ⟨0x10 + e, 0x20, 2, 1⟩
abbrev STAT_KFMT_ON (e : Nat) : Fld := ⟨0x10 + e, 0x20, 3, 1⟩
abbrev STAT_MC_OK (e : Nat) : Fld := ⟨0x10 + e, 0x20, 4, 1⟩
abbrev STAT_GEN (e : Nat) : Fld := ⟨0x10 + e, 0x20, 8, 8⟩
abbrev STAT_WDEXP (e : Nat) : Fld := ⟨0x10 + e, 0x20, 16, 8⟩
abbrev PC_PC (e : Nat) : Fld := ⟨0x10 + e, 0x24, 0, 16⟩
abbrev DBGCMD_HALT (e : Nat) : Fld := ⟨0x10 + e, 0x28, 0, 1⟩
abbrev DBGCMD_RESUME (e : Nat) : Fld := ⟨0x10 + e, 0x28, 1, 1⟩
abbrev DBGCMD_STEP (e : Nat) : Fld := ⟨0x10 + e, 0x28, 2, 1⟩
abbrev BRKPT_ADDR (e : Nat) : Fld := ⟨0x10 + e, 0x2c, 0, 16⟩
abbrev BRKPT_EN (e : Nat) : Fld := ⟨0x10 + e, 0x2c, 16, 1⟩
abbrev WDOG_MS (e : Nat) : Fld := ⟨0x10 + e, 0x30, 0, 8⟩
abbrev LASTREF_REASON (e : Nat) : Fld := ⟨0x10 + e, 0x34, 0, 8⟩
abbrev LASTREF_ADDR (e : Nat) : Fld := ⟨0x10 + e, 0x34, 8, 16⟩
abbrev LASTREF_WR (e : Nat) : Fld := ⟨0x10 + e, 0x34, 24, 1⟩
abbrev REFCNT_COUNT (e : Nat) : Fld := ⟨0x10 + e, 0x38, 0, 24⟩
abbrev DBGSEL_REG (e : Nat) : Fld := ⟨0x10 + e, 0x3c, 0, 4⟩
abbrev DBGDATA_VALUE (e : Nat) : Fld := ⟨0x10 + e, 0x40, 0, 32⟩
end ENG

/-! Page MCODE: 15_flint_microcode_cluster.md -/
namespace MCODE
abbrev SEL_ENG : Fld := ⟨0x1c, 0x20, 0, 4⟩
abbrev ADDR_UADDR : Fld := ⟨0x1c, 0x24, 0, 8⟩
abbrev DATA_WORD : Fld := ⟨0x1c, 0x28, 0, 32⟩
abbrev CMD_OP : Fld := ⟨0x1c, 0x2c, 0, 2⟩
abbrev STAT_ST : Fld := ⟨0x1c, 0x30, 0, 2⟩
abbrev STAT_SCRUB_ERR : Fld := ⟨0x1c, 0x30, 4, 1⟩
abbrev STAT_FAILADDR : Fld := ⟨0x1c, 0x30, 16, 9⟩
abbrev DEC_ENTRY (n : Nat) : Fld := ⟨0x1c, 0x40 + 4 * n, 0, 32⟩
end MCODE

/-! Page COLLECT: 15_flint_microcode_cluster.md -/
namespace COLLECT
abbrev HEAD0_SRC : Fld := ⟨0x1d, 0x20, 0, 4⟩
abbrev HEAD0_RESP : Fld := ⟨0x1d, 0x20, 4, 1⟩
abbrev HEAD0_GEN : Fld := ⟨0x1d, 0x20, 8, 4⟩
abbrev HEAD0_CODE : Fld := ⟨0x1d, 0x20, 16, 16⟩
abbrev HEAD1_VALUE : Fld := ⟨0x1d, 0x24, 0, 32⟩
abbrev POP_GO : Fld := ⟨0x1d, 0x28, 0, 1⟩
abbrev STAT_COUNT : Fld := ⟨0x1d, 0x2c, 0, 5⟩
abbrev STAT_STALLMAP : Fld := ⟨0x1d, 0x2c, 16, 12⟩
abbrev RESP0_VALUE : Fld := ⟨0x1d, 0x30, 0, 32⟩
abbrev RESP1_ENG : Fld := ⟨0x1d, 0x34, 0, 4⟩
abbrev CNT_POSTS : Fld := ⟨0x1d, 0x38, 0, 16⟩
abbrev CNT_STALLS : Fld := ⟨0x1d, 0x38, 16, 16⟩
end COLLECT

/-! Page EVT: 16_event_fabric_timers.md -/
namespace EVT
abbrev SEL_SRC (n : Nat) : Fld := ⟨0x20 + n / 32, 0x20 + 4 * (n % 32), 0, 7⟩
abbrev SEL_OWNER (n : Nat) : Fld := ⟨0x20 + n / 32, 0x20 + 4 * (n % 32), 8, 4⟩
abbrev SEL_SEC (n : Nat) : Fld := ⟨0x20 + n / 32, 0x20 + 4 * (n % 32), 12, 1⟩
abbrev SEL_PEND (n : Nat) : Fld := ⟨0x20 + n / 32, 0x20 + 4 * (n % 32), 16, 1⟩
abbrev SEL_OVR (n : Nat) : Fld := ⟨0x20 + n / 32, 0x20 + 4 * (n % 32), 17, 1⟩
abbrev SEL_FIXED (n : Nat) : Fld := ⟨0x20 + n / 32, 0x20 + 4 * (n % 32), 18, 1⟩
abbrev TAP_PAGE (k : Nat) : Fld := ⟨0x22, 0x20 + 4 * k, 0, 8⟩
abbrev TAP_BIT (k : Nat) : Fld := ⟨0x22, 0x20 + 4 * k, 8, 5⟩
abbrev TAP_EN (k : Nat) : Fld := ⟨0x22, 0x20 + 4 * k, 16, 1⟩
abbrev TAP_OWNER (k : Nat) : Fld := ⟨0x22, 0x20 + 4 * k, 20, 4⟩
abbrev TAP_SEC (k : Nat) : Fld := ⟨0x22, 0x20 + 4 * k, 24, 1⟩
abbrev HOSTSIG_GO : Fld := ⟨0x22, 0xA0, 0, 1⟩
abbrev QLOST_MAP : Fld := ⟨0x22, 0xA4, 0, 32⟩
end EVT

/-! Page TIM: 16_event_fabric_timers.md -/
namespace TIM
abbrev CFG_DIV (i : Nat) : Fld := ⟨0x24 + i / 4, 0x20 + 0x30 * (i % 4) + 0x0, 0, 4⟩
abbrev CFG_GOSEL (i : Nat) : Fld := ⟨0x24 + i / 4, 0x20 + 0x30 * (i % 4) + 0x0, 4, 1⟩
abbrev CFG_CMPEN (i : Nat) : Fld := ⟨0x24 + i / 4, 0x20 + 0x30 * (i % 4) + 0x0, 8, 4⟩
abbrev CFG_LATEFIRE (i : Nat) : Fld := ⟨0x24 + i / 4, 0x20 + 0x30 * (i % 4) + 0x0, 12, 4⟩
abbrev CFG_OWNER (i : Nat) : Fld := ⟨0x24 + i / 4, 0x20 + 0x30 * (i % 4) + 0x0, 24, 4⟩
abbrev CNT_COUNT (i : Nat) : Fld := ⟨0x24 + i / 4, 0x20 + 0x30 * (i % 4) + 0x4, 0, 32⟩
abbrev CMP_VALUE (i : Nat) (j : Nat) : Fld := ⟨0x24 + i / 4, 0x20 + 0x30 * (i % 4) + 0x08 + 4 * j, 0, 32⟩
abbrev INT_INTERVAL (i : Nat) (j : Nat) : Fld := ⟨0x24 + i / 4, 0x20 + 0x30 * (i % 4) + 0x18 + 4 * j, 0, 32⟩
abbrev CAP_VALUE (i : Nat) : Fld := ⟨0x24 + i / 4, 0x20 + 0x30 * (i % 4) + 0x28, 0, 32⟩
abbrev STAT_MATCH (i : Nat) : Fld := ⟨0x24 + i / 4, 0x20 + 0x30 * (i % 4) + 0x2c, 0, 4⟩
abbrev STAT_LATE (i : Nat) : Fld := ⟨0x24 + i / 4, 0x20 + 0x30 * (i % 4) + 0x2c, 4, 4⟩
abbrev STAT_CAPFULL (i : Nat) : Fld := ⟨0x24 + i / 4, 0x20 + 0x30 * (i % 4) + 0x2c, 8, 1⟩
abbrev STAT_CAPOVR (i : Nat) : Fld := ⟨0x24 + i / 4, 0x20 + 0x30 * (i % 4) + 0x2c, 9, 1⟩
abbrev STAT_CAPLF (i : Nat) : Fld := ⟨0x24 + i / 4, 0x20 + 0x30 * (i % 4) + 0x2c, 10, 1⟩
abbrev STAT_RUN (i : Nat) : Fld := ⟨0x24 + i / 4, 0x20 + 0x30 * (i % 4) + 0x2c, 12, 1⟩
abbrev TIMCTL_GO : Fld := ⟨0x24, 0xE0, 0, 1⟩
abbrev TIMRST_TIMER : Fld := ⟨0x24, 0xE4, 0, 16⟩
abbrev RUNMAP_RUN : Fld := ⟨0x24, 0xE8, 0, 16⟩
end TIM

/-! Page RTC: 17_rtc_calendar.md -/
namespace RTC
abbrev CNT_LO_SUB : Fld := ⟨0x28, 0x20, 0, 15⟩
abbrev CNT_LO_SEC_L : Fld := ⟨0x28, 0x20, 15, 17⟩
abbrev CNT_HI_SEC_H : Fld := ⟨0x28, 0x24, 0, 16⟩
abbrev CAL0_SEC : Fld := ⟨0x28, 0x28, 0, 6⟩
abbrev CAL0_MIN : Fld := ⟨0x28, 0x28, 8, 6⟩
abbrev CAL0_HOUR : Fld := ⟨0x28, 0x28, 16, 5⟩
abbrev CAL0_WDAY : Fld := ⟨0x28, 0x28, 24, 3⟩
abbrev CAL1_DAY : Fld := ⟨0x28, 0x2c, 0, 5⟩
abbrev CAL1_MONTH : Fld := ⟨0x28, 0x2c, 8, 4⟩
abbrev CAL1_YEAR : Fld := ⟨0x28, 0x2c, 16, 12⟩
abbrev SCNT_SUB : Fld := ⟨0x28, 0x30, 0, 15⟩
abbrev SCNT_SEC_L : Fld := ⟨0x28, 0x30, 15, 17⟩
abbrev SCNT_SEC_H : Fld := ⟨0x28, 0x34, 0, 16⟩
abbrev SCAL_SEC : Fld := ⟨0x28, 0x38, 0, 6⟩
abbrev SCAL_MIN : Fld := ⟨0x28, 0x38, 8, 6⟩
abbrev SCAL_HOUR : Fld := ⟨0x28, 0x38, 16, 5⟩
abbrev SCAL_WDAY : Fld := ⟨0x28, 0x38, 24, 3⟩
abbrev SCAL_DAY : Fld := ⟨0x28, 0x3c, 0, 5⟩
abbrev SCAL_MONTH : Fld := ⟨0x28, 0x3c, 8, 4⟩
abbrev SCAL_YEAR : Fld := ⟨0x28, 0x3c, 16, 12⟩
abbrev CAL_COMMIT_OP : Fld := ⟨0x28, 0x40, 0, 2⟩
abbrev SHIFT_TICKS : Fld := ⟨0x28, 0x44, 0, 16⟩
abbrev SHIFT_BUSY : Fld := ⟨0x28, 0x44, 16, 1⟩
abbrev STAT_OSF : Fld := ⟨0x28, 0x48, 0, 1⟩
abbrev STAT_PENDING : Fld := ⟨0x28, 0x48, 1, 1⟩
abbrev STAT_RANGE : Fld := ⟨0x28, 0x48, 2, 1⟩
abbrev STAT_GLITCH : Fld := ⟨0x28, 0x48, 3, 1⟩
abbrev STAT_SHIFT_CXL : Fld := ⟨0x28, 0x48, 4, 1⟩
abbrev STAT_CHG_ST : Fld := ⟨0x28, 0x48, 8, 2⟩
abbrev CHG_ILIM : Fld := ⟨0x28, 0x4c, 0, 2⟩
abbrev CHG_VEND : Fld := ⟨0x28, 0x4c, 4, 2⟩
abbrev ALM_SEC (n : Nat) : Fld := ⟨0x28, 0x50 + 12 * n, 0, 6⟩
abbrev ALM_MIN (n : Nat) : Fld := ⟨0x28, 0x50 + 12 * n, 8, 6⟩
abbrev ALM_HOUR (n : Nat) : Fld := ⟨0x28, 0x50 + 12 * n, 16, 5⟩
abbrev ALM_WDAY (n : Nat) : Fld := ⟨0x28, 0x50 + 12 * n, 24, 3⟩
abbrev ALM_DAY (n : Nat) : Fld := ⟨0x28, 0x54 + 12 * n, 0, 5⟩
abbrev ALM_MONTH (n : Nat) : Fld := ⟨0x28, 0x54 + 12 * n, 8, 4⟩
abbrev ALM_YEAR (n : Nat) : Fld := ⟨0x28, 0x54 + 12 * n, 16, 12⟩
abbrev ALM_CTL_MASK (n : Nat) : Fld := ⟨0x28, 0x58 + 12 * n, 0, 7⟩
abbrev ALM_CTL_EN (n : Nat) : Fld := ⟨0x28, 0x58 + 12 * n, 8, 1⟩
abbrev ALM_CTL_ONESHOT (n : Nat) : Fld := ⟨0x28, 0x58 + 12 * n, 9, 1⟩
end RTC

/-! Page DMA: 18_dma.md -/
namespace DMA
abbrev BUSADDR_ADDR : Fld := ⟨0x2a, 0x20, 0, 32⟩
abbrev CMD_CLEAR : Fld := ⟨0x2a, 0x24, 0, 1⟩
abbrev REFADDR_ADDR : Fld := ⟨0x2a, 0x28, 0, 32⟩
abbrev CNT_REFCNT : Fld := ⟨0x2a, 0x2c, 0, 16⟩
abbrev CNT_BUSERRCNT : Fld := ⟨0x2a, 0x2c, 16, 16⟩
abbrev CFG_ENTRIES (c : Nat) : Fld := ⟨0x2a + c / 8, 0x40 + 0x10 * (c % 8) + 0x0, 0, 9⟩
abbrev CFG_OWNER (c : Nat) : Fld := ⟨0x2a + c / 8, 0x40 + 0x10 * (c % 8) + 0x0, 24, 4⟩
abbrev RING_BASE (c : Nat) : Fld := ⟨0x2a + c / 8, 0x40 + 0x10 * (c % 8) + 0x4, 4, 28⟩
abbrev CTL_RUN (c : Nat) : Fld := ⟨0x2a + c / 8, 0x40 + 0x10 * (c % 8) + 0x8, 0, 1⟩
abbrev CTL_POKE (c : Nat) : Fld := ⟨0x2a + c / 8, 0x40 + 0x10 * (c % 8) + 0x8, 1, 1⟩
abbrev STAT_ST (c : Nat) : Fld := ⟨0x2a + c / 8, 0x40 + 0x10 * (c % 8) + 0xc, 0, 3⟩
abbrev STAT_IDX (c : Nat) : Fld := ⟨0x2a + c / 8, 0x40 + 0x10 * (c % 8) + 0xc, 8, 8⟩
abbrev STAT_REASON (c : Nat) : Fld := ⟨0x2a + c / 8, 0x40 + 0x10 * (c % 8) + 0xc, 16, 8⟩
end DMA

/-! Page RF: 06_rf_front_end.md -/
namespace RF
abbrev CFG_MAXPWR (c : Nat) : Fld := ⟨0x30 + c, 0x20, 0, 8⟩
abbrev CFG_ANTGAIN (c : Nat) : Fld := ⟨0x30 + c, 0x20, 8, 8⟩
abbrev STAT_CH_ST (c : Nat) : Fld := ⟨0x30 + c, 0x24, 0, 4⟩
abbrev STAT_LOCK (c : Nat) : Fld := ⟨0x30 + c, 0x24, 4, 1⟩
abbrev STAT_CHAN (c : Nat) : Fld := ⟨0x30 + c, 0x24, 8, 8⟩
abbrev PWRLIM_CEIL (c : Nat) : Fld := ⟨0x30 + c, 0x28, 0, 8⟩
abbrev PWRLIM_CAUSE (c : Nat) : Fld := ⟨0x30 + c, 0x28, 8, 4⟩
abbrev DUTY_USED (c : Nat) : Fld := ⟨0x30 + c, 0x2c, 0, 16⟩
abbrev DUTY_LIMIT (c : Nat) : Fld := ⟨0x30 + c, 0x2c, 16, 16⟩
abbrev RSSI_LAST (c : Nat) : Fld := ⟨0x30 + c, 0x30, 0, 8⟩
abbrev RSSI_FLOOR (c : Nat) : Fld := ⟨0x30 + c, 0x30, 8, 8⟩
abbrev TXABN0_SYNTH (c : Nat) : Fld := ⟨0x30 + c, 0x34, 0, 8⟩
abbrev TXABN0_DUTY (c : Nat) : Fld := ⟨0x30 + c, 0x34, 8, 8⟩
abbrev TXABN0_COEX (c : Nat) : Fld := ⟨0x30 + c, 0x34, 16, 8⟩
abbrev TXABN0_CCA (c : Nat) : Fld := ⟨0x30 + c, 0x34, 24, 8⟩
abbrev TXABN1_SPACING (c : Nat) : Fld := ⟨0x30 + c, 0x38, 0, 8⟩
abbrev TXABN1_CAL (c : Nat) : Fld := ⟨0x30 + c, 0x38, 8, 8⟩
abbrev TXABN1_SUPPLY (c : Nat) : Fld := ⟨0x30 + c, 0x38, 16, 8⟩
end RF

/-! Page RFCAL: 06_rf_front_end.md -/
namespace RFCAL
abbrev CMD_CHAIN : Fld := ⟨0x32, 0x20, 0, 1⟩
abbrev CMD_GO : Fld := ⟨0x32, 0x20, 1, 1⟩
abbrev STAT_BUSY_A : Fld := ⟨0x32, 0x24, 0, 1⟩
abbrev STAT_BUSY_B : Fld := ⟨0x32, 0x24, 1, 1⟩
abbrev STAT_FAIL_A : Fld := ⟨0x32, 0x24, 2, 1⟩
abbrev STAT_FAIL_B : Fld := ⟨0x32, 0x24, 3, 1⟩
abbrev STAT_RAMP_DEF_A : Fld := ⟨0x32, 0x24, 4, 1⟩
abbrev STAT_RAMP_DEF_B : Fld := ⟨0x32, 0x24, 5, 1⟩
abbrev STAT_FAILRUN_A : Fld := ⟨0x32, 0x24, 6, 2⟩
abbrev STAT_FAILRUN_B : Fld := ⟨0x32, 0x24, 8, 2⟩
abbrev STAT_TEMP_CAL_A : Fld := ⟨0x32, 0x24, 16, 8⟩
abbrev STAT_TEMP_CAL_B : Fld := ⟨0x32, 0x24, 24, 8⟩
abbrev PREEMPT_A : Fld := ⟨0x32, 0x28, 0, 16⟩
abbrev PREEMPT_B : Fld := ⟨0x32, 0x28, 16, 16⟩
abbrev XOTRIM_CODE : Fld := ⟨0x32, 0x2c, 0, 8⟩
abbrev XOTRIM_TEMP : Fld := ⟨0x32, 0x2c, 8, 8⟩
abbrev IMG_GAIN (c : Nat) : Fld := ⟨0x32, 0x30 + 16 * c, 0, 10⟩
abbrev IMG_PHASE (c : Nat) : Fld := ⟨0x32, 0x30 + 16 * c, 16, 10⟩
abbrev FILT_BW (c : Nat) : Fld := ⟨0x32, 0x34 + 16 * c, 0, 8⟩
abbrev DC_I (c : Nat) : Fld := ⟨0x32, 0x38 + 16 * c, 0, 16⟩
abbrev DC_Q (c : Nat) : Fld := ⟨0x32, 0x38 + 16 * c, 16, 16⟩
abbrev SYN_VCO (c : Nat) : Fld := ⟨0x32, 0x3c + 16 * c, 0, 16⟩
abbrev SYN_CALCNT (c : Nat) : Fld := ⟨0x32, 0x3c + 16 * c, 16, 16⟩
abbrev RAMP_E2J (c : Nat) (j : Nat) : Fld := ⟨0x32, 0x80 + 64 * c + 4 * j, 0, 10⟩
abbrev RAMP_E2J1 (c : Nat) (j : Nat) : Fld := ⟨0x32, 0x80 + 64 * c + 4 * j, 16, 10⟩
end RFCAL

/-! Page TUNER: 06_rf_front_end.md -/
namespace TUNER
abbrev STAT_STATE : Fld := ⟨0x33, 0x20, 0, 6⟩
abbrev STAT_MISMATCH : Fld := ⟨0x33, 0x20, 8, 1⟩
abbrev STAT_RL : Fld := ⟨0x33, 0x20, 16, 8⟩
abbrev MMCNT_COUNT : Fld := ⟨0x33, 0x24, 0, 16⟩
abbrev TABLE (s : Nat) : Fld := ⟨0x33, 0x40 + 4 * (s / 4), 8 * (s % 4), 6⟩
end TUNER

/-! Page MICA: 06_rf_front_end.md -/
namespace MICA
abbrev CFG_FREQ : Fld := ⟨0x34, 0x20, 0, 20⟩
abbrev CFG_CALLMS : Fld := ⟨0x34, 0x20, 20, 12⟩
abbrev ID0_ID : Fld := ⟨0x34, 0x24, 0, 32⟩
abbrev ID1_ID : Fld := ⟨0x34, 0x28, 0, 32⟩
abbrev THR_DBM : Fld := ⟨0x34, 0x2c, 0, 8⟩
abbrev STAT_SWITCH : Fld := ⟨0x34, 0x30, 0, 1⟩
abbrev STAT_LISTEN : Fld := ⟨0x34, 0x30, 1, 1⟩
abbrev COUNT_MATCH : Fld := ⟨0x34, 0x34, 0, 16⟩
abbrev COUNT_CRCERR : Fld := ⟨0x34, 0x34, 16, 16⟩
abbrev LAST_ID : Fld := ⟨0x34, 0x38, 0, 32⟩
end MICA

/-! Page COEX: 06_rf_front_end.md -/
namespace COEX
abbrev CFG_RXREQ : Fld := ⟨0x35, 0x20, 0, 1⟩
abbrev CFG_PRI_FORCE : Fld := ⟨0x35, 0x20, 1, 1⟩
abbrev CFG_GNT_POL : Fld := ⟨0x35, 0x20, 2, 1⟩
abbrev CFG_ACKPRI : Fld := ⟨0x35, 0x20, 3, 1⟩
abbrev CFG_LEAD_US : Fld := ⟨0x35, 0x20, 8, 8⟩
abbrev STAT_REQ : Fld := ⟨0x35, 0x24, 0, 1⟩
abbrev STAT_GNT : Fld := ⟨0x35, 0x24, 1, 1⟩
abbrev STAT_PRI : Fld := ⟨0x35, 0x24, 2, 1⟩
abbrev DENYCNT_COUNT : Fld := ⟨0x35, 0x28, 0, 16⟩
abbrev OVRCNT_COUNT : Fld := ⟨0x35, 0x2c, 0, 16⟩
end COEX

/-! Page PHYRF: 07_rf_phy.md -/
namespace PHYRF
abbrev CFG_OVR_A : Fld := ⟨0x38, 0x20, 0, 6⟩
abbrev CFG_OVR_B : Fld := ⟨0x38, 0x20, 8, 6⟩
abbrev CFG_FB_A : Fld := ⟨0x38, 0x20, 16, 4⟩
abbrev CFG_FB_B : Fld := ⟨0x38, 0x20, 20, 4⟩
abbrev CFG_ILV : Fld := ⟨0x38, 0x20, 24, 1⟩
abbrev SRCH_LANES : Fld := ⟨0x38, 0x24, 0, 6⟩
abbrev SRCH_Q100 : Fld := ⟨0x38, 0x24, 8, 1⟩
abbrev SRCH_Q150 : Fld := ⟨0x38, 0x24, 9, 1⟩
abbrev PRIO_ORDER : Fld := ⟨0x38, 0x28, 0, 18⟩
abbrev SCORE_T (l : Nat) : Fld := ⟨0x38, 0x2c + 4 * (l / 4), 8 * (l % 4), 8⟩
abbrev STAT_CONF : Fld := ⟨0x38, 0x34, 0, 1⟩
abbrev STAT_BANKCH : Fld := ⟨0x38, 0x34, 1, 2⟩
abbrev STAT_HOLD : Fld := ⟨0x38, 0x34, 4, 3⟩
abbrev CNT_FALSE_ED (c : Nat) : Fld := ⟨0x38, 0x38 + 4 * c, 0, 8⟩
abbrev CNT_SFD_TO (c : Nat) : Fld := ⟨0x38, 0x38 + 4 * c, 8, 8⟩
abbrev CNT_PHR_ERR (c : Nat) : Fld := ⟨0x38, 0x38 + 4 * c, 16, 8⟩
abbrev CNT_FCS_ERR (c : Nat) : Fld := ⟨0x38, 0x38 + 4 * c, 24, 8⟩
abbrev SRCHCNT_DET : Fld := ⟨0x38, 0x40, 0, 16⟩
abbrev SRCHCNT_TIE : Fld := ⟨0x38, 0x40, 16, 8⟩
abbrev SRCHCNT_LOSTDET : Fld := ⟨0x38, 0x40, 24, 8⟩
abbrev OVRCNT_A : Fld := ⟨0x38, 0x44, 0, 16⟩
abbrev OVRCNT_B : Fld := ⟨0x38, 0x44, 16, 16⟩
abbrev NOFIT_A : Fld := ⟨0x38, 0x48, 0, 16⟩
abbrev NOFIT_B : Fld := ⟨0x38, 0x48, 16, 16⟩
abbrev PROF_CFG_MODE (k : Nat) : Fld := ⟨0x38, 0x80 + 8 * k, 0, 4⟩
abbrev PROF_CFG_FCS16 (k : Nat) : Fld := ⟨0x38, 0x80 + 8 * k, 4, 1⟩
abbrev PROF_CFG_DW (k : Nat) : Fld := ⟨0x38, 0x80 + 8 * k, 5, 1⟩
abbrev PROF_CFG_PREAMBLE (k : Nat) : Fld := ⟨0x38, 0x80 + 8 * k, 8, 8⟩
abbrev PROF_THR_ED (k : Nat) : Fld := ⟨0x38, 0x84 + 8 * k, 0, 8⟩
abbrev PROF_THR_QUAL (k : Nat) : Fld := ⟨0x38, 0x84 + 8 * k, 8, 8⟩
end PHYRF

/-! Page PLCAFE: 08_plc_phy.md -/
namespace PLCAFE
abbrev CFG_TXATT : Fld := ⟨0x3a, 0x20, 0, 5⟩
abbrev CFG_OUTLIER : Fld := ⟨0x3a, 0x20, 8, 8⟩
abbrev STAT_DRV_ON : Fld := ⟨0x3a, 0x24, 0, 1⟩
abbrev STAT_LOWZ : Fld := ⟨0x3a, 0x24, 1, 1⟩
abbrev STAT_THERM : Fld := ⟨0x3a, 0x24, 2, 1⟩
abbrev STAT_HZERR : Fld := ⟨0x3a, 0x24, 3, 1⟩
abbrev STAT_ATT : Fld := ⟨0x3a, 0x24, 8, 5⟩
abbrev STAT_ZLINE : Fld := ⟨0x3a, 0x24, 16, 16⟩
abbrev ZXLAST_SLOT_US : Fld := ⟨0x3a, 0x28, 0, 16⟩
abbrev ZXLAST_ASN : Fld := ⟨0x3a, 0x28, 16, 16⟩
abbrev ZXPER_PERIOD : Fld := ⟨0x3a, 0x2c, 0, 24⟩
abbrev ZXCNT_OUTLIER : Fld := ⟨0x3a, 0x30, 0, 16⟩
abbrev ZXCNT_MISS : Fld := ⟨0x3a, 0x30, 16, 16⟩
end PLCAFE

/-! Page PLCPHY: 08_plc_phy.md -/
namespace PLCPHY
abbrev CFG_DETTHR : Fld := ⟨0x3b, 0x20, 0, 8⟩
abbrev CFG_ROBUST_ONLY : Fld := ⟨0x3b, 0x20, 8, 1⟩
abbrev STAT_ST : Fld := ⟨0x3b, 0x24, 0, 3⟩
abbrev STAT_LOCKED : Fld := ⟨0x3b, 0x24, 8, 1⟩
abbrev SOUND_NSOUND : Fld := ⟨0x3b, 0x28, 0, 10⟩
abbrev SOUND_MERGE_DB : Fld := ⟨0x3b, 0x28, 16, 4⟩
abbrev SOUND_AUTO : Fld := ⟨0x3b, 0x28, 24, 1⟩
abbrev ZMAP (b : Nat) : Fld := ⟨0x3b, 0x2C + 4 * (b / 8), 3 * (b % 8), 3⟩
abbrev SNDSTAT_RUNS : Fld := ⟨0x3b, 0x34, 0, 16⟩
abbrev SNDSTAT_HC : Fld := ⟨0x3b, 0x34, 16, 10⟩
abbrev CNT_FALSE_DET : Fld := ⟨0x3b, 0x38, 0, 8⟩
abbrev CNT_FCH_ERR : Fld := ⟨0x3b, 0x38, 8, 8⟩
abbrev CNT_LDPC_FAIL : Fld := ⟨0x3b, 0x38, 16, 8⟩
abbrev CNT_FCS_ERR : Fld := ⟨0x3b, 0x38, 24, 8⟩
abbrev CNT2_VERMISS : Fld := ⟨0x3b, 0x3c, 0, 8⟩
abbrev CNT2_NOFIT : Fld := ⟨0x3b, 0x3c, 8, 8⟩
abbrev CNT2_BUSY : Fld := ⟨0x3b, 0x3c, 16, 8⟩
abbrev CNT2_ABORT : Fld := ⟨0x3b, 0x3c, 24, 8⟩
abbrev NOTCH_MASK (k : Nat) : Fld := ⟨0x3b, 0x40 + 4 * k, 0, 32⟩
abbrev NOISE_MEAN (b : Nat) : Fld := ⟨0x3b, 0x60 + 4 * b, 0, 16⟩
abbrev NOISE_MAX (b : Nat) : Fld := ⟨0x3b, 0x60 + 4 * b, 16, 16⟩
end PLCPHY

/-! Page TONEMAP: 08_plc_phy.md -/
namespace TONEMAP
abbrev CFG_MARGIN : Fld := ⟨0x3c, 0x20, 0, 4⟩
abbrev CFG_CHANGE_PCT : Fld := ⟨0x3c, 0x20, 8, 8⟩
abbrev CFG_FREEZE : Fld := ⟨0x3c, 0x20, 16, 1⟩
abbrev THR (r : Nat) (j : Nat) : Fld := ⟨0x3c, 0x24 + 4 * r, 6 * j, 6⟩
abbrev STAT_LINKS : Fld := ⟨0x3c, 0x30, 0, 6⟩
abbrev STAT_GEN : Fld := ⟨0x3c, 0x30, 8, 1⟩
abbrev SEL_SLOT : Fld := ⟨0x3c, 0x34, 0, 5⟩
abbrev SEL_REGION : Fld := ⟨0x3c, 0x34, 8, 3⟩
abbrev SEL_DIR : Fld := ⟨0x3c, 0x34, 12, 1⟩
abbrev LINK_SHORT : Fld := ⟨0x3c, 0x38, 0, 16⟩
abbrev LINK_RXVER : Fld := ⟨0x3c, 0x38, 16, 4⟩
abbrev LINK_RXPREV : Fld := ⟨0x3c, 0x38, 20, 4⟩
abbrev LINK_RXPREV_OK : Fld := ⟨0x3c, 0x38, 24, 1⟩
abbrev LINK_TXVER : Fld := ⟨0x3c, 0x38, 25, 4⟩
abbrev LINK_TX_OK : Fld := ⟨0x3c, 0x38, 29, 1⟩
abbrev LINK_FALLBACK : Fld := ⟨0x3c, 0x38, 30, 1⟩
abbrev HDR_ROBUST : Fld := ⟨0x3c, 0x3c, 0, 1⟩
abbrev HDR_PRESENT : Fld := ⟨0x3c, 0x3c, 1, 1⟩
abbrev HDR_BITS : Fld := ⟨0x3c, 0x3c, 2, 11⟩
abbrev HDR_RATE : Fld := ⟨0x3c, 0x3c, 16, 2⟩
abbrev LOAD_CODE (n : Nat) : Fld := ⟨0x3c, 0x40 + 4 * (n / 10), 3 * (n % 10), 3⟩
abbrev REGEN_ONE : Fld := ⟨0x3c, 0xa0, 0, 1⟩
abbrev REGEN_ALL : Fld := ⟨0x3c, 0xa0, 1, 1⟩
abbrev EVENTS_EVICT : Fld := ⟨0x3c, 0xa4, 0, 8⟩
abbrev EVENTS_FALLBACK : Fld := ⟨0x3c, 0xa4, 8, 8⟩
abbrev EVENTS_ISSUED : Fld := ⟨0x3c, 0xa4, 16, 8⟩
end TONEMAP

/-! Page SCHED: 09_link_schedule.md -/
namespace SCHED
abbrev CFG_DRIFT_PPM : Fld := ⟨0x40, 0x20, 0, 8⟩
abbrev CFG_DUAL : Fld := ⟨0x40, 0x20, 8, 1⟩
abbrev CFG_BEACON_N : Fld := ⟨0x40, 0x20, 12, 4⟩
abbrev CFG_KA_S : Fld := ⟨0x40, 0x20, 16, 8⟩
abbrev GUARD_BASE_US : Fld := ⟨0x40, 0x24, 0, 16⟩
abbrev GUARD_CAP_US : Fld := ⟨0x40, 0x24, 16, 16⟩
abbrev STAT_TIMING : Fld := ⟨0x40, 0x28, 0, 2⟩
abbrev STAT_PLL_LOCK : Fld := ⟨0x40, 0x28, 2, 1⟩
abbrev STAT_LOCK_HELD : Fld := ⟨0x40, 0x28, 3, 1⟩
abbrev STAT_PHASE_MM : Fld := ⟨0x40, 0x28, 4, 1⟩
abbrev STAT_SLEWING : Fld := ⟨0x40, 0x28, 5, 1⟩
abbrev STAT_INSVC : Fld := ⟨0x40, 0x28, 8, 3⟩
abbrev STAT_SOURCE : Fld := ⟨0x40, 0x28, 16, 8⟩
abbrev TIME0_SLOT_US : Fld := ⟨0x40, 0x2c, 0, 16⟩
abbrev TIME0_ASN_L : Fld := ⟨0x40, 0x2c, 16, 16⟩
abbrev TIME1_ASN_H : Fld := ⟨0x40, 0x30, 0, 24⟩
abbrev LQE_WEIGHT : Fld := ⟨0x40, 0x34, 0, 3⟩
abbrev LQE_MINQ : Fld := ⟨0x40, 0x34, 8, 8⟩
abbrev LQE_PROBE_N : Fld := ⟨0x40, 0x34, 16, 8⟩
abbrev POLL_POLL_S : Fld := ⟨0x40, 0x38, 0, 8⟩
abbrev POLL_RESP_SLOTS : Fld := ⟨0x40, 0x38, 8, 8⟩
abbrev ALARM_CHOFF : Fld := ⟨0x40, 0x3c, 0, 8⟩
abbrev ALARM_PROF_A : Fld := ⟨0x40, 0x3c, 8, 4⟩
abbrev ALARM_PROF_B : Fld := ⟨0x40, 0x3c, 12, 4⟩
abbrev ALARM_LISTEN : Fld := ⟨0x40, 0x3c, 16, 1⟩
abbrev ALMOFF_TXOFF : Fld := ⟨0x40, 0x40, 0, 14⟩
abbrev HOP_SEED : Fld := ⟨0x40, 0x44, 0, 16⟩
abbrev HOPMASK_MASK (k : Nat) : Fld := ⟨0x40, 0x48 + 4 * k, 0, 32⟩
abbrev SF_LEN (k : Nat) : Fld := ⟨0x40, 0x60 + 4 * k, 0, 13⟩
abbrev SF_EN (k : Nat) : Fld := ⟨0x40, 0x60 + 4 * k, 16, 1⟩
abbrev CELLCMD_INDEX : Fld := ⟨0x40, 0x80, 0, 11⟩
abbrev CELLCMD_OP : Fld := ⟨0x40, 0x80, 12, 4⟩
abbrev CELLD0_SF : Fld := ⟨0x40, 0x84, 0, 3⟩
abbrev CELLD0_SLOT : Fld := ⟨0x40, 0x84, 4, 12⟩
abbrev CELLD0_CHOFF : Fld := ⟨0x40, 0x84, 16, 8⟩
abbrev CELLD0_LEN : Fld := ⟨0x40, 0x84, 24, 4⟩
abbrev CELLD1_TYPE : Fld := ⟨0x40, 0x88, 0, 3⟩
abbrev CELLD1_MEDIA : Fld := ⟨0x40, 0x88, 4, 3⟩
abbrev CELLD1_NBR : Fld := ⟨0x40, 0x88, 8, 8⟩
abbrev CELLD1_TXOFF : Fld := ⟨0x40, 0x88, 16, 16⟩
abbrev CELLD2_PROF_A : Fld := ⟨0x40, 0x8c, 0, 4⟩
abbrev CELLD2_PROF_B : Fld := ⟨0x40, 0x8c, 4, 4⟩
abbrev CELLD2_OUTAGE : Fld := ⟨0x40, 0x8c, 8, 1⟩
abbrev CELLD3_INDEX : Fld := ⟨0x40, 0x90, 0, 11⟩
abbrev CELLD3_MIGRATED : Fld := ⟨0x40, 0x90, 16, 1⟩
abbrev CELLD3_VALID : Fld := ⟨0x40, 0x90, 17, 1⟩
abbrev CELLS_USED : Fld := ⟨0x40, 0x94, 0, 12⟩
abbrev NBRSEL_INDEX : Fld := ⟨0x40, 0x98, 0, 8⟩
abbrev NBR0_SYNC : Fld := ⟨0x40, 0x9c, 0, 2⟩
abbrev NBR0_LOCKED : Fld := ⟨0x40, 0x9c, 2, 1⟩
abbrev NBR0_OUTAGE : Fld := ⟨0x40, 0x9c, 3, 1⟩
abbrev NBR0_SLEEPY : Fld := ⟨0x40, 0x9c, 4, 1⟩
abbrev NBR0_MISS : Fld := ⟨0x40, 0x9c, 5, 2⟩
abbrev NBR0_GUARD_US : Fld := ⟨0x40, 0x9c, 16, 16⟩
abbrev NBR1_P_A : Fld := ⟨0x40, 0xa0, 0, 8⟩
abbrev NBR1_P_B : Fld := ⟨0x40, 0xa0, 8, 8⟩
abbrev NBR1_P_PLC : Fld := ⟨0x40, 0xa0, 16, 8⟩
abbrev NBR1_PROBE : Fld := ⟨0x40, 0xa0, 24, 8⟩
abbrev NBR2_AGE : Fld := ⟨0x40, 0xa4, 0, 24⟩
abbrev NBR3_ERR : Fld := ⟨0x40, 0xa8, 0, 16⟩
abbrev NBR3_RESYNCS : Fld := ⟨0x40, 0xa8, 16, 16⟩
abbrev CNT_UNSYNC : Fld := ⟨0x40, 0xac, 0, 8⟩
abbrev CNT_RESYNC : Fld := ⟨0x40, 0xac, 8, 8⟩
abbrev CNT_WAKECALL : Fld := ⟨0x40, 0xac, 16, 8⟩
abbrev CNT_LOST : Fld := ⟨0x40, 0xac, 24, 8⟩
abbrev CNT2_SKIP : Fld := ⟨0x40, 0xb0, 0, 16⟩
abbrev CNT2_MIGRATE : Fld := ⟨0x40, 0xb0, 16, 8⟩
abbrev CNT2_ALM_RX : Fld := ⟨0x40, 0xb0, 24, 8⟩
end SCHED

/-! Page LINK: 10_link_security_acks.md -/
namespace LINK
abbrev CFG_ACKSEC : Fld := ⟨0x41, 0x20, 0, 1⟩
abbrev CFG_MINBE : Fld := ⟨0x41, 0x20, 8, 3⟩
abbrev CFG_MAXBE : Fld := ⟨0x41, 0x20, 12, 3⟩
abbrev RETRY_ALARM : Fld := ⟨0x41, 0x24, 0, 4⟩
abbrev RETRY_CONTROL : Fld := ⟨0x41, 0x24, 4, 4⟩
abbrev RETRY_TELEMETRY : Fld := ⟨0x41, 0x24, 8, 4⟩
abbrev RETRY_BULK : Fld := ⟨0x41, 0x24, 12, 4⟩
abbrev TXLATE_LATE : Fld := ⟨0x41, 0x28, 0, 1⟩
abbrev TXLATE_LAST_US : Fld := ⟨0x41, 0x28, 8, 8⟩
abbrev TXLATE_MEDIUM : Fld := ⟨0x41, 0x28, 16, 2⟩
abbrev NBRSEL_INDEX : Fld := ⟨0x41, 0x2c, 0, 8⟩
abbrev NBRSEQ_TXSEQ : Fld := ⟨0x41, 0x30, 0, 8⟩
abbrev NBRSEQ_RXSEQ : Fld := ⟨0x41, 0x30, 8, 8⟩
abbrev NBRSEQ_BE : Fld := ⟨0x41, 0x30, 16, 3⟩
abbrev NBRSEQ_BO : Fld := ⟨0x41, 0x30, 24, 7⟩
abbrev CNT0_ACKED : Fld := ⟨0x41, 0x34, 0, 16⟩
abbrev CNT0_NOACK : Fld := ⟨0x41, 0x34, 16, 8⟩
abbrev CNT0_DROP : Fld := ⟨0x41, 0x34, 24, 8⟩
abbrev CNT1_RX_NEW : Fld := ⟨0x41, 0x38, 0, 16⟩
abbrev CNT1_DUP : Fld := ⟨0x41, 0x38, 16, 8⟩
abbrev CNT1_BADVER : Fld := ⟨0x41, 0x38, 24, 8⟩
abbrev CNT2_LATE : Fld := ⟨0x41, 0x3c, 0, 8⟩
abbrev CNT2_UNKNOWN_SRC : Fld := ⟨0x41, 0x3c, 8, 8⟩
end LINK

/-! Page LINKSEC: 10_link_security_acks.md -/
namespace LINKSEC
abbrev CFG_SECLVL : Fld := ⟨0x42, 0x20, 0, 3⟩
abbrev KEYSEL_SLOT : Fld := ⟨0x42, 0x24, 0, 4⟩
abbrev KEYCTL_IDX : Fld := ⟨0x42, 0x28, 0, 8⟩
abbrev KEYCTL_VALID : Fld := ⟨0x42, 0x28, 31, 1⟩
abbrev KEY_BITS (k : Nat) : Fld := ⟨0x42, 0x2C + 4 * k, 0, 32⟩
abbrev KEYCMD_OP : Fld := ⟨0x42, 0x3c, 0, 2⟩
abbrev TXKEY_NET : Fld := ⟨0x42, 0x40, 0, 4⟩
abbrev KSW0_ASN_L : Fld := ⟨0x42, 0x44, 0, 32⟩
abbrev KSW1_ASN_H : Fld := ⟨0x42, 0x48, 0, 8⟩
abbrev KSW1_NEXT : Fld := ⟨0x42, 0x48, 8, 4⟩
abbrev KSW1_ARM : Fld := ⟨0x42, 0x48, 16, 1⟩
abbrev FCNT_VALUE : Fld := ⟨0x42, 0x4c, 0, 32⟩
abbrev FCRES_END : Fld := ⟨0x42, 0x50, 0, 32⟩
abbrev CNT_MIC_FAIL : Fld := ⟨0x42, 0x54, 0, 8⟩
abbrev CNT_STALE : Fld := ⟨0x42, 0x54, 8, 8⟩
abbrev CNT_NOSEC : Fld := ⟨0x42, 0x54, 16, 8⟩
abbrev CNT_KEYWAIT : Fld := ⟨0x42, 0x54, 24, 8⟩
abbrev CNT2_UNKNOWN_KEY : Fld := ⟨0x42, 0x58, 0, 8⟩
end LINKSEC

/-! Page MESH: 11_mesh_association.md -/
namespace MESH
abbrev CFG_MAXCHILD : Fld := ⟨0x44, 0x20, 0, 7⟩
abbrev CFG_JOINSF : Fld := ⟨0x44, 0x20, 8, 3⟩
abbrev CFG_JCHOFF : Fld := ⟨0x44, 0x20, 16, 8⟩
abbrev CFG_HYST : Fld := ⟨0x44, 0x20, 24, 8⟩
abbrev STAT_JOIN_ST : Fld := ⟨0x44, 0x24, 0, 3⟩
abbrev STAT_PARENTS : Fld := ⟨0x44, 0x24, 8, 3⟩
abbrev STAT_RESULTS : Fld := ⟨0x44, 0x24, 16, 5⟩
abbrev STAT_CHILDREN : Fld := ⟨0x44, 0x24, 24, 7⟩
abbrev ID0_SHORT : Fld := ⟨0x44, 0x28, 0, 16⟩
abbrev ID0_PAN : Fld := ⟨0x44, 0x28, 16, 16⟩
abbrev ID1_RANK : Fld := ⟨0x44, 0x2c, 0, 16⟩
abbrev ID1_HOPS : Fld := ⟨0x44, 0x2c, 16, 5⟩
abbrev SCAN_TIME_S : Fld := ⟨0x44, 0x30, 0, 8⟩
abbrev SCAN_MEDIA : Fld := ⟨0x44, 0x30, 8, 3⟩
abbrev SCAN_CHAN : Fld := ⟨0x44, 0x30, 16, 8⟩
abbrev CMD_OP : Fld := ⟨0x44, 0x34, 0, 4⟩
abbrev CMD_IDX : Fld := ⟨0x44, 0x34, 8, 4⟩
abbrev JOINWAIT_WAIT_S : Fld := ⟨0x44, 0x38, 0, 8⟩
abbrev JOINWAIT_TRIES : Fld := ⟨0x44, 0x38, 8, 4⟩
abbrev RESSEL_INDEX : Fld := ⟨0x44, 0x3c, 0, 4⟩
abbrev RES0_PAN : Fld := ⟨0x44, 0x40, 0, 16⟩
abbrev RES0_SHORT : Fld := ⟨0x44, 0x40, 16, 16⟩
abbrev RES1_RANK : Fld := ⟨0x44, 0x44, 0, 16⟩
abbrev RES1_HOPS : Fld := ⟨0x44, 0x44, 16, 5⟩
abbrev RES1_MEDIA : Fld := ⟨0x44, 0x44, 24, 3⟩
abbrev RES1_ADMIT : Fld := ⟨0x44, 0x44, 27, 1⟩
abbrev RES1_HINT : Fld := ⟨0x44, 0x44, 28, 3⟩
abbrev RES2_RSSI_A : Fld := ⟨0x44, 0x48, 0, 8⟩
abbrev RES2_RSSI_B : Fld := ⟨0x44, 0x48, 8, 8⟩
abbrev RES2_SNR_PLC : Fld := ⟨0x44, 0x48, 16, 8⟩
abbrev PSET_SHORT (k : Nat) : Fld := ⟨0x44, 0x4C + 4 * k, 0, 16⟩
abbrev PSET_NBR (k : Nat) : Fld := ⟨0x44, 0x4C + 4 * k, 16, 8⟩
abbrev PSET_COST (k : Nat) : Fld := ⟨0x44, 0x4C + 4 * k, 24, 8⟩
abbrev BUFCFG_PERCHILD : Fld := ⟨0x44, 0x5c, 0, 7⟩
abbrev BUF_USED : Fld := ⟨0x44, 0x60, 0, 11⟩
abbrev CNT0_FWD : Fld := ⟨0x44, 0x64, 0, 16⟩
abbrev CNT0_BCDUP : Fld := ⟨0x44, 0x64, 16, 8⟩
abbrev CNT1_TTL : Fld := ⟨0x44, 0x68, 0, 8⟩
abbrev CNT1_LOOP : Fld := ⟨0x44, 0x68, 8, 8⟩
abbrev CNT1_BADROUTE : Fld := ⟨0x44, 0x68, 16, 8⟩
abbrev CNT1_PCHG : Fld := ⟨0x44, 0x68, 24, 8⟩
abbrev CNT2_BUF_FULL : Fld := ⟨0x44, 0x6c, 0, 8⟩
abbrev CNT2_BUF_EXPIRE : Fld := ⟨0x44, 0x6c, 8, 8⟩
abbrev CNT2_NBR_FULL : Fld := ⟨0x44, 0x6c, 16, 8⟩
abbrev CNT2_JOINKEY : Fld := ⟨0x44, 0x6c, 24, 8⟩
end MESH

/-! Page ASSOC: 11_mesh_association.md -/
namespace ASSOC
abbrev CFG_ASK : Fld := ⟨0x45, 0x20, 0, 1⟩
abbrev CFG_APPROVE_S : Fld := ⟨0x45, 0x20, 8, 8⟩
abbrev CFG_MAXPEND : Fld := ⟨0x45, 0x20, 16, 8⟩
abbrev CFG_AGE_D : Fld := ⟨0x45, 0x20, 24, 8⟩
abbrev STAT_USED : Fld := ⟨0x45, 0x24, 0, 15⟩
abbrev STAT_PEND : Fld := ⟨0x45, 0x24, 16, 8⟩
abbrev STAT_RESTORING : Fld := ⟨0x45, 0x24, 24, 1⟩
abbrev CMD_OP : Fld := ⟨0x45, 0x28, 0, 4⟩
abbrev CMD_INDEX : Fld := ⟨0x45, 0x28, 16, 14⟩
abbrev EXT_ADDR (k : Nat) : Fld := ⟨0x45, 0x2C + 4 * k, 0, 32⟩
abbrev RES_INDEX : Fld := ⟨0x45, 0x34, 0, 14⟩
abbrev RES_FOUND : Fld := ⟨0x45, 0x34, 16, 1⟩
abbrev RES_DONE : Fld := ⟨0x45, 0x34, 17, 1⟩
abbrev SNAP_PERIOD_S : Fld := ⟨0x45, 0x38, 0, 16⟩
abbrev SNAPSTAT_SRC : Fld := ⟨0x45, 0x3c, 0, 2⟩
abbrev SNAPSTAT_SEQ : Fld := ⟨0x45, 0x3c, 8, 24⟩
abbrev CNT0_ADMIT : Fld := ⟨0x45, 0x40, 0, 8⟩
abbrev CNT0_DENY : Fld := ⟨0x45, 0x40, 8, 8⟩
abbrev CNT0_TIMEOUT : Fld := ⟨0x45, 0x40, 16, 8⟩
abbrev CNT0_HASHFAIL : Fld := ⟨0x45, 0x40, 24, 8⟩
abbrev CNT1_NOROUTE : Fld := ⟨0x45, 0x44, 0, 8⟩
abbrev CNT1_STALE : Fld := ⟨0x45, 0x44, 8, 8⟩
abbrev CNT1_REJOIN : Fld := ⟨0x45, 0x44, 16, 8⟩
end ASSOC

/-! Page MSG: 12_message_service.md -/
namespace MSG
abbrev CFG_FRAGBODY : Fld := ⟨0x48, 0x20, 0, 10⟩
abbrev CFG_INFLIGHT : Fld := ⟨0x48, 0x20, 16, 5⟩
abbrev CFG_REASM_S : Fld := ⟨0x48, 0x20, 24, 8⟩
abbrev CLS_TIMEOUT_S (k : Nat) : Fld := ⟨0x48, 0x24 + 4 * k, 0, 8⟩
abbrev CLS_ATTEMPTS (k : Nat) : Fld := ⟨0x48, 0x24 + 4 * k, 8, 4⟩
abbrev CLS_LIFE_MIN (k : Nat) : Fld := ⟨0x48, 0x24 + 4 * k, 16, 13⟩
abbrev STAT_QUEUED : Fld := ⟨0x48, 0x34, 0, 17⟩
abbrev STAT_USED_MIB : Fld := ⟨0x48, 0x34, 17, 6⟩
abbrev STAT_LG_NOFIT : Fld := ⟨0x48, 0x34, 24, 1⟩
abbrev STAT_RESTORING : Fld := ⟨0x48, 0x34, 25, 1⟩
abbrev TXD0_DEST : Fld := ⟨0x48, 0x38, 0, 16⟩
abbrev TXD0_CLASS : Fld := ⟨0x48, 0x38, 16, 2⟩
abbrev TXD0_KIND : Fld := ⟨0x48, 0x38, 18, 3⟩
abbrev TXD0_PTYPE : Fld := ⟨0x48, 0x38, 24, 8⟩
abbrev TXD1_ADDR : Fld := ⟨0x48, 0x3c, 0, 32⟩
abbrev TXD2_LEN : Fld := ⟨0x48, 0x40, 0, 12⟩
abbrev TXD3_MSGID : Fld := ⟨0x48, 0x44, 0, 32⟩
abbrev TXCMD_OP : Fld := ⟨0x48, 0x48, 0, 2⟩
abbrev TXRES_MSGID : Fld := ⟨0x48, 0x4c, 0, 32⟩
abbrev RXBASE_ADDR : Fld := ⟨0x48, 0x50, 0, 32⟩
abbrev RXSIZE_BYTES : Fld := ⟨0x48, 0x54, 0, 18⟩
abbrev RXHEAD_OFFSET : Fld := ⟨0x48, 0x58, 0, 18⟩
abbrev RXTAIL_OFFSET : Fld := ⟨0x48, 0x5c, 0, 18⟩
abbrev DONE0_MSGID : Fld := ⟨0x48, 0x60, 0, 32⟩
abbrev DONE1_STATUS : Fld := ⟨0x48, 0x64, 0, 4⟩
abbrev DONE1_CLASS : Fld := ⟨0x48, 0x64, 4, 2⟩
abbrev DONE1_VALID : Fld := ⟨0x48, 0x64, 8, 1⟩
abbrev CNT0_RX_TAKEN : Fld := ⟨0x48, 0x68, 0, 16⟩
abbrev CNT0_TX_DONE : Fld := ⟨0x48, 0x68, 16, 16⟩
abbrev CNT1_BADHDR : Fld := ⟨0x48, 0x6c, 0, 4⟩
abbrev CNT1_NOPEER : Fld := ⟨0x48, 0x6c, 4, 4⟩
abbrev CNT1_DUP : Fld := ⟨0x48, 0x6c, 8, 8⟩
abbrev CNT1_NEWSESS : Fld := ⟨0x48, 0x6c, 16, 4⟩
abbrev CNT1_LATE : Fld := ⟨0x48, 0x6c, 20, 4⟩
abbrev CNT1_REASM_DROP : Fld := ⟨0x48, 0x6c, 24, 8⟩
abbrev CNT2_FAILED : Fld := ⟨0x48, 0x70, 0, 8⟩
abbrev CNT2_EXPIRED : Fld := ⟨0x48, 0x70, 8, 8⟩
abbrev CNT2_EVICTED : Fld := ⟨0x48, 0x70, 16, 8⟩
abbrev CNT2_FWD_LOST : Fld := ⟨0x48, 0x70, 24, 8⟩
end MSG

/-! Page PAIR: 13_redundant_pair.md -/
namespace PAIR
abbrev CFG_TAKEOVER_MS : Fld := ⟨0x4c, 0x20, 0, 6⟩
abbrev CFG_PREFER : Fld := ⟨0x4c, 0x20, 8, 1⟩
abbrev CFG_CHECK_SF : Fld := ⟨0x4c, 0x20, 9, 3⟩
abbrev STAT_PST : Fld := ⟨0x4c, 0x24, 0, 4⟩
abbrev STAT_ROLE : Fld := ⟨0x4c, 0x24, 4, 2⟩
abbrev STAT_PARTNER : Fld := ⟨0x4c, 0x24, 8, 3⟩
abbrev STAT_PRES : Fld := ⟨0x4c, 0x24, 12, 1⟩
abbrev STAT_LINK_UP : Fld := ⟨0x4c, 0x24, 13, 1⟩
abbrev STAT_QUALIFIED : Fld := ⟨0x4c, 0x24, 14, 1⟩
abbrev STAT_BULK_PCT : Fld := ⟨0x4c, 0x24, 16, 8⟩
abbrev STAT_MMCAUSE : Fld := ⟨0x4c, 0x24, 24, 4⟩
abbrev CMD_OP : Fld := ⟨0x4c, 0x28, 0, 4⟩
abbrev CMD_KEY : Fld := ⟨0x4c, 0x28, 16, 16⟩
abbrev NETADDR_ADDR (k : Nat) : Fld := ⟨0x4c, 0x2C + 4 * k, 0, 32⟩
abbrev LAG_FRAMES : Fld := ⟨0x4c, 0x34, 0, 16⟩
abbrev LAG_AGE_US : Fld := ⟨0x4c, 0x34, 16, 16⟩
abbrev RSEL_SLOT : Fld := ⟨0x4c, 0x38, 0, 4⟩
abbrev RESV_END : Fld := ⟨0x4c, 0x3c, 0, 32⟩
abbrev CNT0_TAKEOVER : Fld := ⟨0x4c, 0x40, 0, 8⟩
abbrev CNT0_CRCERR : Fld := ⟨0x4c, 0x40, 8, 8⟩
abbrev CNT0_RETX : Fld := ⟨0x4c, 0x40, 16, 8⟩
abbrev CNT0_HANDOVER : Fld := ⟨0x4c, 0x40, 24, 8⟩
abbrev CNT1_BULK : Fld := ⟨0x4c, 0x44, 0, 8⟩
abbrev CNT1_MISMATCH : Fld := ⟨0x4c, 0x44, 8, 8⟩
abbrev CNT1_DUALPRI : Fld := ⟨0x4c, 0x44, 16, 8⟩
abbrev CNT1_DOUBT : Fld := ⟨0x4c, 0x44, 24, 8⟩
abbrev LASTTO_ASN : Fld := ⟨0x4c, 0x48, 0, 32⟩
abbrev LASTINFO_CAUSE : Fld := ⟨0x4c, 0x4c, 0, 3⟩
abbrev LASTINFO_TIME : Fld := ⟨0x4c, 0x4c, 16, 16⟩
end PAIR

/-! Page CIPHER: 20_garnet_security.md -/
namespace CIPHER
abbrev KEYSEL_SLOT : Fld := ⟨0x50, 0x20, 0, 3⟩
abbrev KEYCTL_LEN256 : Fld := ⟨0x50, 0x24, 0, 1⟩
abbrev KEYCTL_VALID : Fld := ⟨0x50, 0x24, 31, 1⟩
abbrev KEY_BITS (k : Nat) : Fld := ⟨0x50, 0x28 + 4 * k, 0, 32⟩
abbrev KEYCMD_OP : Fld := ⟨0x50, 0x48, 0, 2⟩
abbrev CMD_GO : Fld := ⟨0x50, 0x4c, 0, 1⟩
abbrev CMD_DIR : Fld := ⟨0x50, 0x4c, 1, 1⟩
abbrev CMD_SLOT : Fld := ⟨0x50, 0x4c, 4, 3⟩
abbrev STAT_BUSY : Fld := ⟨0x50, 0x50, 0, 1⟩
abbrev IN_DATA (k : Nat) : Fld := ⟨0x50, 0x60 + 4 * k, 0, 32⟩
abbrev OUT_DATA (k : Nat) : Fld := ⟨0x50, 0x70 + 4 * k, 0, 32⟩
end CIPHER

/-! Page HASH: 20_garnet_security.md -/
namespace HASH
abbrev CMD_OP : Fld := ⟨0x51, 0x20, 0, 2⟩
abbrev CMD_TAIL : Fld := ⟨0x51, 0x20, 8, 3⟩
abbrev STAT_OPEN : Fld := ⟨0x51, 0x24, 0, 1⟩
abbrev STAT_BUSY : Fld := ⟨0x51, 0x24, 1, 1⟩
abbrev STAT_DONE : Fld := ⟨0x51, 0x24, 2, 1⟩
abbrev STAT_FREE : Fld := ⟨0x51, 0x24, 8, 7⟩
abbrev LEN_BYTES : Fld := ⟨0x51, 0x2c, 0, 32⟩
abbrev DIGEST_BYTES (k : Nat) : Fld := ⟨0x51, 0x40 + 4 * k, 0, 32⟩
end HASH

/-! Page PKE: 20_garnet_security.md -/
namespace PKE
abbrev CMD_OP : Fld := ⟨0x52, 0x20, 0, 4⟩
abbrev CMD_KEY : Fld := ⟨0x52, 0x20, 16, 16⟩
abbrev PARAM_ADDR : Fld := ⟨0x52, 0x24, 4, 28⟩
abbrev STAT_BUSY : Fld := ⟨0x52, 0x28, 0, 1⟩
abbrev STAT_RESULT : Fld := ⟨0x52, 0x28, 2, 2⟩
abbrev STAT_CK0 : Fld := ⟨0x52, 0x28, 8, 1⟩
abbrev STAT_CK1 : Fld := ⟨0x52, 0x28, 9, 1⟩
abbrev STAT_CK0_REV : Fld := ⟨0x52, 0x28, 10, 1⟩
abbrev STAT_DBG : Fld := ⟨0x52, 0x28, 16, 1⟩
abbrev STAT_SCOPE : Fld := ⟨0x52, 0x28, 17, 2⟩
abbrev RESLEN_BYTES : Fld := ⟨0x52, 0x2c, 0, 12⟩
end PKE

/-! Page MEASURE: 20_garnet_security.md -/
namespace MEASURE
abbrev SEL_SLOT : Fld := ⟨0x53, 0x20, 0, 3⟩
abbrev INFO_EXTCNT : Fld := ⟨0x53, 0x24, 0, 16⟩
abbrev INFO_LOGUSED : Fld := ⟨0x53, 0x24, 16, 8⟩
abbrev INFO_LOGFULL : Fld := ⟨0x53, 0x24, 24, 1⟩
abbrev LOGBASE_ADDR : Fld := ⟨0x53, 0x28, 0, 32⟩
abbrev RB (k : Nat) : Fld := ⟨0x53, 0x2C + 4 * (k / 4), 8 * (k % 4), 8⟩
abbrev VAL_BYTES (k : Nat) : Fld := ⟨0x53, 0x40 + 4 * k, 0, 32⟩
end MEASURE

/-! Page UPDATE: 21_firmware_update.md -/
namespace UPDATE
abbrev CMD_OP : Fld := ⟨0x54, 0x20, 0, 3⟩
abbrev OFFSET_OFFSET : Fld := ⟨0x54, 0x24, 0, 23⟩
abbrev BUF_ADDR : Fld := ⟨0x54, 0x28, 0, 32⟩
abbrev AT_LO_SEC_L : Fld := ⟨0x54, 0x2c, 0, 32⟩
abbrev AT_HI_SEC_H : Fld := ⟨0x54, 0x30, 0, 1⟩
abbrev STAT_ST : Fld := ⟨0x54, 0x34, 0, 3⟩
abbrev STAT_BUSY : Fld := ⟨0x54, 0x34, 3, 1⟩
abbrev STAT_LAST : Fld := ⟨0x54, 0x34, 4, 2⟩
abbrev STAT_LATE : Fld := ⟨0x54, 0x34, 6, 1⟩
abbrev STAT_FAILPART : Fld := ⟨0x54, 0x34, 8, 8⟩
abbrev STAT_BLOCKS : Fld := ⟨0x54, 0x34, 16, 16⟩
abbrev RELEASE_VALUE : Fld := ⟨0x54, 0x38, 0, 32⟩
abbrev STAGED_VALUE : Fld := ⟨0x54, 0x3c, 0, 32⟩
abbrev CNT_VFAIL : Fld := ⟨0x54, 0x40, 0, 8⟩
abbrev CNT_DONE : Fld := ⟨0x54, 0x40, 8, 8⟩
abbrev CNT_ABORTED : Fld := ⟨0x54, 0x40, 16, 8⟩
end UPDATE

/-! Page FLASH: 19_flash_storage.md -/
namespace FLASH
abbrev CMD_OP : Fld := ⟨0x58, 0x20, 0, 4⟩
abbrev CMD_CONT : Fld := ⟨0x58, 0x20, 8, 1⟩
abbrev ADDR_ADDR : Fld := ⟨0x58, 0x24, 0, 27⟩
abbrev LEN_LEN : Fld := ⟨0x58, 0x28, 0, 7⟩
abbrev STAT_BUSY : Fld := ⟨0x58, 0x2c, 0, 1⟩
abbrev STAT_SUSP : Fld := ⟨0x58, 0x2c, 1, 1⟩
abbrev STAT_CREAD : Fld := ⟨0x58, 0x2c, 2, 1⟩
abbrev STAT_VFAIL : Fld := ⟨0x58, 0x2c, 3, 1⟩
abbrev STAT_EFAIL : Fld := ⟨0x58, 0x2c, 4, 1⟩
abbrev STAT_PULSES : Fld := ⟨0x58, 0x2c, 8, 8⟩
abbrev NOM_ERASE : Fld := ⟨0x58, 0x30, 0, 8⟩
abbrev NOM_BLOCK : Fld := ⟨0x58, 0x30, 8, 8⟩
abbrev BUF_DATA (k : Nat) : Fld := ⟨0x58, 0x80 + 4 * k, 0, 32⟩
end FLASH

/-! Page STORE: 19_flash_storage.md -/
namespace STORE
abbrev CMD_OP : Fld := ⟨0x59, 0x20, 0, 2⟩
abbrev CMD_BLOCK : Fld := ⟨0x59, 0x20, 4, 1⟩
abbrev ADDR_OFFSET : Fld := ⟨0x59, 0x24, 0, 26⟩
abbrev LEN_LEN : Fld := ⟨0x59, 0x28, 0, 13⟩
abbrev BUF_ADDR : Fld := ⟨0x59, 0x2c, 0, 32⟩
abbrev STAT_BUSY : Fld := ⟨0x59, 0x30, 0, 1⟩
abbrev STAT_RESULT : Fld := ⟨0x59, 0x30, 8, 8⟩
abbrev SPLIT_E10_START : Fld := ⟨0x59, 0x34, 0, 11⟩
abbrev SPLIT_E11_START : Fld := ⟨0x59, 0x34, 16, 11⟩
abbrev WEAR_WARN_ACTIVE : Fld := ⟨0x59, 0x38, 0, 1⟩
abbrev WEAR_WARN_SECTOR : Fld := ⟨0x59, 0x38, 8, 15⟩
abbrev PULSE_NOM : Fld := ⟨0x59, 0x3c, 0, 8⟩
abbrev PULSE_LAST : Fld := ⟨0x59, 0x3c, 8, 8⟩
abbrev PULSE_MAX : Fld := ⟨0x59, 0x3c, 16, 8⟩
abbrev RETIRE_USED : Fld := ⟨0x59, 0x40, 0, 11⟩
abbrev PARTSEL_INDEX : Fld := ⟨0x59, 0x44, 0, 4⟩
abbrev PARTINFO_BASE : Fld := ⟨0x59, 0x48, 0, 11⟩
abbrev PARTINFO_SIZE : Fld := ⟨0x59, 0x48, 16, 11⟩
abbrev CNT0_ERASES : Fld := ⟨0x59, 0x4c, 0, 16⟩
abbrev CNT0_PVRETRY : Fld := ⟨0x59, 0x4c, 16, 16⟩
abbrev CNT1_RECOVER : Fld := ⟨0x59, 0x50, 0, 8⟩
abbrev CNT1_REFUSED : Fld := ⟨0x59, 0x50, 8, 8⟩
end STORE

/-! Page STRATA: 22_strata_recorder.md -/
namespace STRATA
abbrev CFG_CLOSE_S : Fld := ⟨0x5c, 0x20, 0, 16⟩
abbrev STAT_FULL : Fld := ⟨0x5c, 0x24, 0, 1⟩
abbrev STAT_CLEARING : Fld := ⟨0x5c, 0x24, 1, 1⟩
abbrev STAT_OPEN : Fld := ⟨0x5c, 0x24, 2, 1⟩
abbrev STAT_BUSY : Fld := ⟨0x5c, 0x24, 3, 1⟩
abbrev STAT_SECTORS : Fld := ⟨0x5c, 0x24, 16, 10⟩
abbrev NEXT_SEQ : Fld := ⟨0x5c, 0x28, 0, 32⟩
abbrev FIRST_SEQ : Fld := ⟨0x5c, 0x2c, 0, 32⟩
abbrev WSEQ_COUNT : Fld := ⟨0x5c, 0x30, 0, 32⟩
abbrev LOST_COUNT : Fld := ⟨0x5c, 0x34, 0, 32⟩
abbrev CMD_OP : Fld := ⟨0x5c, 0x38, 0, 3⟩
abbrev WDESC_TYPE : Fld := ⟨0x5c, 0x3c, 0, 8⟩
abbrev WDESC_BLEN : Fld := ⟨0x5c, 0x3c, 8, 8⟩
abbrev BUF_ADDR : Fld := ⟨0x5c, 0x40, 0, 32⟩
abbrev RSEQ_SEQ : Fld := ⟨0x5c, 0x44, 0, 32⟩
abbrev RLEN_BYTES : Fld := ⟨0x5c, 0x48, 0, 17⟩
abbrev RRES_BYTES : Fld := ⟨0x5c, 0x4c, 0, 17⟩
abbrev RRES_RECORDS : Fld := ⟨0x5c, 0x4c, 20, 12⟩
abbrev CNT_RECORDS : Fld := ⟨0x5c, 0x50, 0, 16⟩
abbrev CNT_REPEATS : Fld := ⟨0x5c, 0x50, 16, 16⟩
end STRATA

/-! Page DALI: 23_luminaire_metering.md -/
namespace DALI
abbrev BUSCFG_ON : Fld := ⟨0x60, 0x20, 0, 1⟩
abbrev BUSCFG_LIM : Fld := ⟨0x60, 0x20, 1, 1⟩
abbrev BUSCFG_SHARE : Fld := ⟨0x60, 0x20, 2, 1⟩
abbrev BUSSTAT_ST : Fld := ⟨0x60, 0x24, 0, 3⟩
abbrev BUSSTAT_SYSFAIL : Fld := ⟨0x60, 0x24, 3, 1⟩
abbrev BUSSTAT_VBUS : Fld := ⟨0x60, 0x24, 8, 8⟩
abbrev BUSSTAT_IBUS : Fld := ⟨0x60, 0x24, 16, 8⟩
abbrev TXD_FRAME : Fld := ⟨0x60, 0x28, 0, 24⟩
abbrev TXCMD_GO : Fld := ⟨0x60, 0x2c, 0, 1⟩
abbrev TXCMD_LEN24 : Fld := ⟨0x60, 0x2c, 1, 1⟩
abbrev TXCMD_PRIO : Fld := ⟨0x60, 0x2c, 4, 3⟩
abbrev TXCMD_TWICE : Fld := ⟨0x60, 0x2c, 8, 1⟩
abbrev TXCMD_ANSWER : Fld := ⟨0x60, 0x2c, 9, 1⟩
abbrev TXCMD_TAG : Fld := ⟨0x60, 0x2c, 16, 16⟩
abbrev TXSTAT_QUEUED : Fld := ⟨0x60, 0x30, 0, 4⟩
abbrev TXSTAT_RESULTS : Fld := ⟨0x60, 0x30, 4, 4⟩
abbrev RES_DATA : Fld := ⟨0x60, 0x34, 0, 8⟩
abbrev RES_STATUS : Fld := ⟨0x60, 0x34, 8, 4⟩
abbrev RES_VALID : Fld := ⟨0x60, 0x34, 12, 1⟩
abbrev RES_TAG : Fld := ⟨0x60, 0x34, 16, 16⟩
abbrev FOREIGN_FRAME : Fld := ⟨0x60, 0x38, 0, 24⟩
abbrev FOREIGN_LEN : Fld := ⟨0x60, 0x38, 24, 6⟩
abbrev GEAR_ED (i : Nat) : Fld := ⟨0x60, 0x40 + 4 * (i / 16), 2 * (i % 16), 2⟩
abbrev GEAR_CLR (k : Nat) : Fld := ⟨0x60, 0x40 + 4 * k, 0, 32⟩
abbrev CNT_COLL : Fld := ⟨0x60, 0x50, 0, 8⟩
abbrev CNT_FRAMING : Fld := ⟨0x60, 0x50, 8, 8⟩
abbrev CNT_SYSFAIL : Fld := ⟨0x60, 0x50, 16, 8⟩
end DALI

/-! Page AOUT: 23_luminaire_metering.md -/
namespace AOUT
abbrev CFG_MODE : Fld := ⟨0x61, 0x20, 0, 2⟩
abbrev CFG_FADE_MS : Fld := ⟨0x61, 0x20, 16, 16⟩
abbrev VSET_LEVEL : Fld := ⟨0x61, 0x24, 0, 10⟩
abbrev STAT_VOUT : Fld := ⟨0x61, 0x28, 0, 10⟩
abbrev STAT_CLAMP : Fld := ⟨0x61, 0x28, 12, 1⟩
abbrev STAT_FADING : Fld := ⟨0x61, 0x28, 13, 1⟩
abbrev STAT_FLOAT : Fld := ⟨0x61, 0x28, 14, 1⟩
abbrev STAT_OVERLOAD : Fld := ⟨0x61, 0x28, 15, 1⟩
abbrev RLYCFG_PULSE_MS : Fld := ⟨0x61, 0x2c, 0, 6⟩
abbrev RLYCFG_ZXSYNC : Fld := ⟨0x61, 0x2c, 8, 1⟩
abbrev RLYCFG_OPTIME : Fld := ⟨0x61, 0x2c, 16, 8⟩
abbrev RLYCMD_OP : Fld := ⟨0x61, 0x30, 0, 2⟩
abbrev RLYSTAT_STATE : Fld := ⟨0x61, 0x34, 0, 2⟩
abbrev RLYSTAT_BUSY : Fld := ⟨0x61, 0x34, 2, 1⟩
abbrev RLYSTAT_PEND : Fld := ⟨0x61, 0x34, 3, 1⟩
abbrev RLYSTAT_DEFER : Fld := ⟨0x61, 0x34, 4, 1⟩
abbrev RLYSTAT_MISMATCH : Fld := ⟨0x61, 0x34, 5, 1⟩
abbrev RLYSTAT_ZXMISS : Fld := ⟨0x61, 0x34, 6, 1⟩
abbrev OPS_COUNT : Fld := ⟨0x61, 0x38, 0, 32⟩
end AOUT

/-! Page METER: 23_luminaire_metering.md -/
namespace METER
abbrev CFG_SHUNT_UOHM : Fld := ⟨0x62, 0x20, 0, 16⟩
abbrev CFG_PHCOMP : Fld := ⟨0x62, 0x20, 16, 8⟩
abbrev CFG_CKPT_MIN : Fld := ⟨0x62, 0x20, 24, 8⟩
abbrev SNAP_WSEQ : Fld := ⟨0x62, 0x24, 0, 16⟩
abbrev VRMS_V : Fld := ⟨0x62, 0x28, 0, 16⟩
abbrev IRMS_I : Fld := ⟨0x62, 0x2c, 0, 24⟩
abbrev P_MW : Fld := ⟨0x62, 0x30, 0, 32⟩
abbrev Q_MVAR : Fld := ⟨0x62, 0x34, 0, 32⟩
abbrev PF_PF : Fld := ⟨0x62, 0x38, 0, 16⟩
abbrev PF_FREQ : Fld := ⟨0x62, 0x38, 16, 16⟩
abbrev THD_V : Fld := ⟨0x62, 0x3c, 0, 16⟩
abbrev THD_I : Fld := ⟨0x62, 0x3c, 16, 16⟩
abbrev ENERGY_LO_COUNT : Fld := ⟨0x62, 0x40, 0, 32⟩
abbrev ENERGY_HI_COUNT : Fld := ⟨0x62, 0x44, 0, 32⟩
abbrev REVWH_COUNT : Fld := ⟨0x62, 0x48, 0, 32⟩
abbrev STAT_OVRI : Fld := ⟨0x62, 0x4c, 0, 1⟩
abbrev STAT_OVRV : Fld := ⟨0x62, 0x4c, 1, 1⟩
abbrev STAT_REV : Fld := ⟨0x62, 0x4c, 2, 1⟩
abbrev STAT_NOZX : Fld := ⟨0x62, 0x4c, 3, 1⟩
abbrev STAT_EGAP : Fld := ⟨0x62, 0x4c, 4, 1⟩
abbrev STAT_PH_OPEN : Fld := ⟨0x62, 0x4c, 5, 1⟩
abbrev STAT_PH_SHORT : Fld := ⟨0x62, 0x4c, 6, 1⟩
abbrev CMD_OP : Fld := ⟨0x62, 0x50, 0, 2⟩
abbrev CMD_KEY : Fld := ⟨0x62, 0x50, 16, 16⟩
abbrev PHOTO_MEAN : Fld := ⟨0x62, 0x54, 0, 16⟩
abbrev PHOTO_STATE : Fld := ⟨0x62, 0x54, 16, 1⟩
abbrev PHCFG_DARK : Fld := ⟨0x62, 0x58, 0, 16⟩
abbrev PHCFG_LIGHT : Fld := ⟨0x62, 0x58, 16, 16⟩
abbrev PHDLY_DELAY_S : Fld := ⟨0x62, 0x5c, 0, 8⟩
end METER

/-! Page DIN: 23_luminaire_metering.md -/
namespace DIN
abbrev CFG_POL (n : Nat) : Fld := ⟨0x63, 0x20 + 4 * n, 0, 1⟩
abbrev CFG_EDGE (n : Nat) : Fld := ⟨0x63, 0x20 + 4 * n, 1, 2⟩
abbrev CFG_FILT_MS (n : Nat) : Fld := ⟨0x63, 0x20 + 4 * n, 8, 8⟩
abbrev CFG_CHAT_N (n : Nat) : Fld := ⟨0x63, 0x20 + 4 * n, 16, 4⟩
abbrev CFG_CHAT_WIN (n : Nat) : Fld := ⟨0x63, 0x20 + 4 * n, 24, 8⟩
abbrev STUCK_TIME (n : Nat) : Fld := ⟨0x63, 0x30 + 4 * n, 0, 10⟩
abbrev STAT_LEVEL : Fld := ⟨0x63, 0x40, 0, 4⟩
abbrev STAT_STUCK : Fld := ⟨0x63, 0x40, 4, 4⟩
abbrev STAT_CHATTER : Fld := ⟨0x63, 0x40, 8, 4⟩
abbrev STAT_RAW : Fld := ⟨0x63, 0x40, 12, 4⟩
abbrev CNT_TRANS (n : Nat) : Fld := ⟨0x63, 0x44, 8 * n, 8⟩
end DIN

/-! Page NFCRD: 24_contactless.md -/
namespace NFCRD
abbrev CFG_GUARD_US : Fld := ⟨0x68, 0x20, 0, 14⟩
abbrev CFG_RXWAIT_US : Fld := ⟨0x68, 0x20, 16, 16⟩
abbrev CMD_OP : Fld := ⟨0x68, 0x24, 0, 3⟩
abbrev STAT_ST : Fld := ⟨0x68, 0x28, 0, 2⟩
abbrev STAT_EXTFIELD : Fld := ⟨0x68, 0x28, 4, 1⟩
abbrev TXLEN_LEN : Fld := ⟨0x68, 0x2c, 0, 7⟩
abbrev XRES_RESULT : Fld := ⟨0x68, 0x30, 0, 3⟩
abbrev XRES_RXLEN : Fld := ⟨0x68, 0x30, 8, 7⟩
abbrev XRES_ERRFLAG : Fld := ⟨0x68, 0x30, 16, 1⟩
abbrev INV_ADDR : Fld := ⟨0x68, 0x34, 4, 28⟩
abbrev INVCFG_MAX : Fld := ⟨0x68, 0x38, 0, 7⟩
abbrev INVCFG_AFI : Fld := ⟨0x68, 0x38, 8, 8⟩
abbrev INVCFG_AFIEN : Fld := ⟨0x68, 0x38, 16, 1⟩
abbrev INVRES_FOUND : Fld := ⟨0x68, 0x3c, 0, 7⟩
abbrev INVRES_ROUNDS : Fld := ⟨0x68, 0x3c, 8, 16⟩
abbrev INVRES_DUP : Fld := ⟨0x68, 0x3c, 24, 1⟩
abbrev INVRES_TRUNC : Fld := ⟨0x68, 0x3c, 25, 1⟩
abbrev CNT_TIMEOUT : Fld := ⟨0x68, 0x40, 0, 8⟩
abbrev CNT_CRCERR : Fld := ⟨0x68, 0x40, 8, 8⟩
abbrev CNT_COLL : Fld := ⟨0x68, 0x40, 16, 8⟩
abbrev CNT_EXTF : Fld := ⟨0x68, 0x40, 24, 8⟩
abbrev BUF_DATA (k : Nat) : Fld := ⟨0x68, 0x80 + 4 * k, 0, 32⟩
end NFCRD

/-! Page NFCTAG: 24_contactless.md -/
namespace NFCTAG
abbrev CFG_NDEF_WR : Fld := ⟨0x69, 0x20, 0, 1⟩
abbrev CFG_PWD_EN : Fld := ⟨0x69, 0x20, 1, 1⟩
abbrev CFG_AES_EN : Fld := ⟨0x69, 0x20, 2, 1⟩
abbrev CFG_AFI : Fld := ⟨0x69, 0x20, 8, 8⟩
abbrev CFG_DSFID : Fld := ⟨0x69, 0x20, 16, 8⟩
abbrev STAT_SEC : Fld := ⟨0x69, 0x24, 0, 1⟩
abbrev STAT_FIELD : Fld := ⟨0x69, 0x24, 1, 1⟩
abbrev STAT_SESSION : Fld := ⟨0x69, 0x24, 2, 1⟩
abbrev STAT_LOCKOUT : Fld := ⟨0x69, 0x24, 3, 1⟩
abbrev STAT_FAILCNT : Fld := ⟨0x69, 0x24, 4, 4⟩
abbrev STAT_ISOST : Fld := ⟨0x69, 0x24, 8, 2⟩
abbrev UID_UID (k : Nat) : Fld := ⟨0x69, 0x28 + 4 * k, 0, 32⟩
abbrev TADDR_BLOCK : Fld := ⟨0x69, 0x30, 0, 11⟩
abbrev TDATA_DATA : Fld := ⟨0x69, 0x34, 0, 32⟩
abbrev TCMD_OP : Fld := ⟨0x69, 0x38, 0, 2⟩
abbrev SECCMD_OP : Fld := ⟨0x69, 0x3c, 0, 2⟩
abbrev SECCMD_KEY : Fld := ⟨0x69, 0x3c, 16, 16⟩
abbrev PWD_BITS (k : Nat) : Fld := ⟨0x69, 0x40 + 4 * k, 0, 32⟩
abbrev KEY_BITS (k : Nat) : Fld := ⟨0x69, 0x48 + 4 * k, 0, 32⟩
abbrev LASTWR_BLOCK : Fld := ⟨0x69, 0x58, 0, 11⟩
abbrev LASTWR_FIELDONLY : Fld := ⟨0x69, 0x58, 16, 1⟩
abbrev WRCNT_COUNT : Fld := ⟨0x69, 0x5c, 0, 16⟩
abbrev CNT_SESSIONS : Fld := ⟨0x69, 0x60, 0, 8⟩
abbrev CNT_AUTHFAIL : Fld := ⟨0x69, 0x60, 8, 8⟩
abbrev CNT_CRCERR : Fld := ⟨0x69, 0x60, 16, 8⟩
abbrev CNT_TEARFIX : Fld := ⟨0x69, 0x60, 24, 8⟩
end NFCTAG

/-! Page CSENSE: 24_contactless.md -/
namespace CSENSE
abbrev CFG_METHOD : Fld := ⟨0x6a, 0x20, 0, 2⟩
abbrev CFG_PERIOD : Fld := ⟨0x6a, 0x20, 8, 8⟩
abbrev CFG_N : Fld := ⟨0x6a, 0x20, 16, 4⟩
abbrev CFG_HOLD_S : Fld := ⟨0x6a, 0x20, 24, 8⟩
abbrev THR_DELTA : Fld := ⟨0x6a, 0x24, 0, 16⟩
abbrev THR_PINGDB : Fld := ⟨0x6a, 0x24, 16, 16⟩
abbrev STAT_NEAR : Fld := ⟨0x6a, 0x28, 0, 1⟩
abbrev STAT_RECAL : Fld := ⟨0x6a, 0x28, 1, 1⟩
abbrev COUNT_RAW : Fld := ⟨0x6a, 0x2c, 0, 16⟩
abbrev COUNT_BASE : Fld := ⟨0x6a, 0x2c, 16, 16⟩
abbrev CNT_APPROACH : Fld := ⟨0x6a, 0x30, 0, 16⟩
abbrev CNT_RECAL : Fld := ⟨0x6a, 0x30, 16, 16⟩
end CSENSE

end R

end Sys2Proof.Machine
end

