-- ==== Sys2Proof/Machine/State.lean ====
section
/-!
DEFINITION. The state of the module as plain data: the register fields as one sparse table (Regs.lean names them), everything
the spec gives the machine beside them, the queue of waiting commands, and the machine right after reset.
-/

namespace Sys2Proof.Machine

/-- The register fields as one sparse table: (address of the field's lowest bit, value), addresses strictly rising, no
value zero; an unlisted field reads 0. -/
abbrev Regs := List (Nat × Nat)

/-- A byte memory: (address, byte), addresses strictly rising, no byte equal to what an unlisted address reads as. -/
abbrev Memory := List Host.Cell

/-- Where the module stands in the mode table of R78: the six modes of R41, the BOOT phase and the unpowered state. -/
inductive Mode where
  | unpowered | field | hold | outage | commission | service | maintenance | boot
  deriving DecidableEq, Repr

/-- A register access on its way over the isolation bridge (R19). -/
structure BusReq where
  /-- Who asks: 0-11 engine, 12 host. -/
  who  : Nat
  /-- The page and offset, R7. -/
  addr : Nat
  /-- The word written, or none for a read. -/
  data : Option Nat
  deriving DecidableEq, Repr

/-- The isolation bridge and the mains side's own state (R18-R21, R77). -/
structure Bridge where
  /-- The SELV side has declared the bridge silent and no valid frame has come since (R21). -/
  silent    : Bool
  /-- The mains side is in bridge hold (R21). -/
  hold      : Bool
  /-- The mains side is in reset state (R77). -/
  inReset   : Bool
  /-- A RESET frame was sent and has not arrived: the mains side passes through reset state at recovery (R77). -/
  resetDue  : Bool
  /-- E0's configuration of the mains side is still to take effect (R77, R90). -/
  cfgDue    : Bool
  /-- A frame towards the mains side failed its CRC and is to be sent again (R18). -/
  resendToMains : Bool
  /-- A frame towards the SELV side failed its CRC and is to be sent again (R18). -/
  resendToSelv  : Bool
  /-- The 64-bit energy accumulator of the mains side (R21), in the METER energy unit. -/
  accum     : Nat
  /-- Accesses in flight over the bridge, oldest first (R19). -/
  inflight  : List BusReq
  /-- The value the last access over the bridge returned to its requester (R19). -/
  result    : Nat
  deriving DecidableEq, Repr

/-- The offline supply, V3_OUT and the strap and reset pads (R58-R77). -/
structure Supply where
  /-- The offline supply delivers (R58, R61, R64). -/
  up         : Bool
  /-- The supply is in its 1 s shutdown after a SUPPLY fault (R64). -/
  shutdown   : Bool
  /-- V3_OUT is on (R71-R73). -/
  v3on       : Bool
  /-- V3_OUT is limited to 20 mA, in OUTAGE (R72). -/
  v3lim      : Bool
  /-- V3_OUT was turned off for under-voltage and waits for its retry (R73). -/
  v3wait     : Bool
  /-- RSTN is held low (R80, R75). -/
  rstnLow    : Bool
  /-- COMPAT_SEL as sampled at the release of reset (R51). -/
  compatSel  : Bool
  /-- A 13.56 MHz field is present at NFC_LA and NFC_LB (R78). -/
  fieldPresent : Bool
  /-- The level of PAIR_PRES is low: a partner is fitted (R54). -/
  pairPresLow : Bool
  /-- The level of HOST_WAKE (R110). -/
  hostWakeHigh : Bool
  deriving DecidableEq, Repr

/-- The network identity that the retained settings hold with the RET fields (R83). -/
structure Identity where
  pan   : Nat
  short : Nat
  deriving DecidableEq, Repr

/-- One link key slot of R280, R281: the key, and its counters as ch. 10 uses them. -/
structure KeySlot where
  idx     : Nat
  valid   : Bool
  key     : List Byte
  /-- The next transmit frame counter (LINKSEC.FCNT). -/
  counter : Nat
  /-- The end of the reservation block in use (LINKSEC.FCRES). -/
  blockEnd : Nat
  /-- The end of the next block, once its commit was requested; the block opens when it is committed (R281). -/
  nextEnd : Nat
  deriving DecidableEq, Repr

/-- The declared site profile, as the S_ registers' fields when the last accepted commit made them declared (R151). -/
structure Profile where
  region   : Nat
  bandplan : Nat
  hz       : Nat
  phase    : Nat
  plcband  : Nat
  lat      : Nat
  lon      : Nat
  role     : Nat
  pairEn   : Nat
  hints    : Nat
  pan0     : Nat
  pan1     : Nat
  pan2     : Nat
  pan3     : Nat
  /-- S_VALID: bit n set declares fact n. -/
  facts    : Nat
  deriving DecidableEq, Repr

/-- One retained-settings record: in Quartz retention RAM or one of the two flash copies (R83, R84). -/
structure RetRecord where
  /-- The record's CRC-32 holds. -/
  valid    : Bool
  /-- Its format version. -/
  version  : Nat
  seq      : Nat
  /-- The RET fields. -/
  regs     : Regs
  identity : Option Identity
  keys     : List KeySlot
  profile  : Profile
  /-- Retained page assignments (page, owner), R138. -/
  assign   : List (Nat × Nat)
  /-- PAIR.RESV by key slot, one past (R367). -/
  reserve  : Regs
  /-- The lamp level of the reference image (R538). -/
  level    : Nat
  deriving DecidableEq, Repr

/-- The retained settings and their commit (R83-R86, R601), and the escalation history (R97). -/
structure Retained where
  /-- The record in Quartz retention RAM. -/
  quartz   : RetRecord
  copyA    : RetRecord
  copyB    : RetRecord
  /-- The flash write of the commit in progress goes to copy B (else to copy A). -/
  toB      : Bool
  /-- The record that the commit in progress is writing to flash. -/
  writing  : RetRecord
  /-- Another commit fell due while one was in progress (R84). -/
  again    : Bool
  /-- SYS.OPSEC of the escalations of the last 600 s (R97). -/
  escTimes : List Nat
  /-- SYS.OPSEC of the last escalation reset, in the 128-byte area of retention RAM (R97). -/
  escReset : Option Nat
  /-- That time as copied to flash at a commit. -/
  escResetFlash : Option Nat
  /-- The reset that led to this BOOT was a second escalation reset within 3,600 s (R81). -/
  escLoop  : Bool
  /-- Network identity in force. -/
  identity : Option Identity
  /-- Page assignments in force, R138. -/
  assign   : List (Nat × Nat)
  /-- The declared site profile in force, R151. -/
  profile  : Profile
  deriving DecidableEq, Repr

/-- What the mode machine keeps beside SYS.MODE (R78-R92). -/
structure ModeSt where
  /-- The last gasp has been ordered and is not yet acknowledged or given up (R87). -/
  lastGasp   : Bool
  /-- Mains became Present while the last gasp was in progress: the warm return follows it (R89). -/
  warmDue    : Bool
  /-- OUTAGE was entered by a Mica wake call from HOLD (R78): the HOLD_WAKE timer runs. -/
  micaWake   : Bool
  /-- The OUTAGE limit timer runs (R90, R91). -/
  limitOn    : Bool
  /-- An image or the manifest failed verification in BOOT (R81). -/
  bootVerifyFail : Bool
  /-- Engines whose image failed verification stay in reset (R23). -/
  failedImages : List Nat
  /-- SYS.OPSEC at the last loss of mains (R350). -/
  lostAt     : Nat
  /-- MAINTENANCE runs a production test (R105, R519). No command of the table starts one. -/
  prodTest   : Bool
  /-- SESSION and MSGID that the composed last gasp holds in SERVICE (R351). -/
  gaspId     : Option (Nat × Nat)
  deriving DecidableEq, Repr

/-- Power domains and clocks beyond PWR and CLK (R98-R123). -/
structure Domains where
  /-- Domains E0 has set to AUTO (R105). -/
  auto     : List Nat
  /-- Domains that wake from OFF: a bank among them is cleared before its first access (R102). -/
  fromOff  : List Nat
  /-- Entries in progress: (domain, target 0 OFF or 1 RETENTION). -/
  entering : List (Nat × Nat)
  /-- HOST_WAKE has been low for two LF periods since its last wake (R110). -/
  wakeArmed : Bool
  /-- The stitch fraction register, in 2⁻¹⁶ timer counts (R121). -/
  stitchFrac : Nat
  /-- LF loss holds the fast clocks on and allows no domain into RETENTION (R123). -/
  lfHold   : Bool
  /-- LF ticks left of the run in progress of each sample sequence, unlisted 0 (R116). -/
  asqLeft  : Regs
  deriving DecidableEq, Repr

/-- A word of the write FIFO (R145). -/
structure Posted where
  /-- Its page and offset, R7. -/
  addr : Nat
  word : Nat
  /-- Windows whose burst passes offset 0xFC after this word (R148). -/
  pass : List Nat
  deriving DecidableEq, Repr

/-- The quad SPI target (R140-R146). -/
structure Spi where
  /-- RSTEN was the previous transaction (R140). -/
  rstEn  : Bool
  /-- The write FIFO, oldest first, at most 64 words (R145). -/
  wfifo  : List Posted
  /-- The read whose answer is held or under way: (page:offset, the value once it has come) (R143). -/
  held   : Option (Nat × Option Nat)
  /-- An access has been refused since the last read of LASTREF (status bit ERR, R142). -/
  err    : Bool
  /-- The status byte and the data words that the last transaction sent to the host. -/
  status : Nat
  data   : List Nat
  deriving DecidableEq, Repr

/-- A reply or indication on the UART (R155-R157). -/
structure UartFrame where
  seq     : Nat
  cmd     : Nat
  payload : List Byte
  deriving DecidableEq, Repr

/-- The previous command of the YN4100 protocol and its reply, none while that is still to come (R156). -/
structure UartPrev where
  seq   : Nat
  cmd   : Nat
  reply : Option UartFrame
  deriving DecidableEq, Repr

/-- The YN4100 compatibility service of E9 (R154-R159). -/
structure Compat where
  /-- SET_BAUD code in force: 3 is 115,200 baud. -/
  baud     : Nat
  /-- The previous command (R156). -/
  last     : Option UartPrev
  /-- The reply of the last command, and the bytes that went over UART_TX for it (R155). -/
  reply    : Option UartFrame
  line     : List Byte
  /-- The indication queue, head first, at most 16 (R157). -/
  queue    : List UartFrame
  /-- Times the head has been sent again (R157). -/
  resends  : Nat
  /-- SEQ of the next indication. -/
  nextSeq  : Nat
  /-- Indications that wait in their source queues while the queue is full (R157). -/
  waiting  : List UartFrame
  /-- A LAMP_GET awaits E10's answer: its SEQ (R415). -/
  lampWait : Option Nat
  /-- A JOIN command has started an association that E9 carries on when the scan ends (R158). -/
  joining  : Bool
  deriving DecidableEq, Repr

/-- A transmission that a cell carries (R260): the link frame by its number, and the cell's parameters. -/
structure Attempt where
  frame  : Nat
  /-- Neighbour index; 300 broadcast, 301 an extended address. -/
  nbr    : Nat
  chan   : Nat
  prof   : Nat
  txoff  : Nat
  /-- Cell length in slots. -/
  len    : Nat
  shared : Bool
  /-- It runs in the alarm cell (R263). -/
  alarm  : Bool
  deriving DecidableEq, Repr

/-- What E4 has armed on a medium for the slot (R258, R260). -/
inductive Activity where
  | idle
  | tx (a : Attempt)
  /-- Listen to neighbour `nbr` (255 any) on a channel with a profile. -/
  | rx (nbr chan prof : Nat)
  deriving DecidableEq, Repr

/-- Where reception stands (R197-R199, R224): nothing, energy seen, qualified, SFD found, PHR read. -/
inductive Detect where
  | none | energy | qualified | sfd | phr
  deriving DecidableEq, Repr

/-- An acknowledgement that is due on a medium (R283, R284). -/
structure AckDue where
  nbr     : Nat
  seq     : Nat
  pending : Bool
  corr    : Int
  deriving DecidableEq, Repr

/-- One medium's engine: an RF chain, or the PLC PHY (R163, R223). -/
structure Air where
  armed    : Activity
  /-- The receive window in use is open. -/
  winOpen  : Bool
  det      : Detect
  /-- The correlator bank found the frame (R203); on PLC, the frame uses the current version of its tone-map slot (R238). -/
  bank     : Bool
  /-- The profile of the window or of the transmission. -/
  prof     : Nat
  /-- A TX found its medium busy and is deferred (R167, R226). -/
  deferred : Bool
  /-- The transmission running. -/
  sending  : Option Attempt
  /-- The transmission running is an acknowledgement. -/
  acking   : Bool
  /-- The attempt whose acknowledgement is awaited. -/
  await    : Option Attempt
  ackDue   : Option AckDue
  /-- The last ASN of the cell that the medium serves, and of an overrun past it (R195); both one past, 0 for none. -/
  spanTo   : Nat
  overTo   : Nat
  /-- First slot of the attempt or window in use. -/
  since    : Nat
  /-- The window in use is the alarm cell's (R264). -/
  alarmRx  : Bool
  /-- Transmit time by second of operation, (second, µs), and by channel, (channel, second, µs) (R179). -/
  duty     : List (Nat × Nat)
  dwell    : List (Nat × Nat × Nat)
  /-- The medium is in service as the last slotframe boundary found it (R272-R274). -/
  inSvc    : Bool
  /-- The PHY mode of the frame being received or sent, or whose acknowledgement is awaited (R186); on PLC the FCH MODE (R221). -/
  mode     : Nat
  /-- Power of the transmission, signed half dBm (R173). -/
  pwr      : Int
  /-- AFC of the frame being received, signed, 10 Hz per count, frozen at the SFD (R196), and its qualifier or correlator score. -/
  afc      : Int
  score    : Nat
  /-- The receive timestamp: SLOT_US and ASN (R201, R224). -/
  stampUs  : Nat
  stampAsn : Nat
  /-- The PHR of the frame being received (R188-R192), and the FCH word of a PLC frame received or sent (R217). -/
  phr      : Option Phr
  fch      : Nat
  /-- The bank 2 receive buffer: the four metadata words and the frame (R199, R200, R224). -/
  rxMeta   : List Nat
  rxFrame  : Option AirFrame
  /-- The last frame sent and its octets, as they went over the air or the line (R252, R275, R277, R283). -/
  out      : Option AirFrame
  psdu     : List Byte
  deriving DecidableEq, Repr

/-- What an RF chain keeps beside its page (R168-R172, R176). -/
structure ChainSt where
  /-- Results have been applied once since BOOT. -/
  hasCal   : Bool
  /-- A full set is requested at the next gap (RFCAL.CMD.GO). -/
  calDue   : Bool
  /-- The run in progress is a temperature set. -/
  tempRun  : Bool
  /-- A temperature set is needed; checks that found no gap; the step at which it goes on. -/
  tempNeed : Bool
  tempWait : Nat
  tempStep : Nat
  /-- The first step that failed in the parts of that set already run. -/
  tempBad  : Option Nat
  lockFails : Nat
  /-- Transmissions per sub-band (R176), and the last return loss measured with the kept state, one past. -/
  subTx    : Regs
  lastLoss : Regs
  deriving DecidableEq, Repr

/-- A Mica wake call on air (R184): the neighbour, the wake ID, the octets of one call, the carrier in kHz, the milliseconds for which it is
repeated, and the power. -/
structure WakeCall where
  nbr    : Nat
  id     : Nat
  octets : List Byte
  kHz    : Nat
  ms     : Nat
  pwr    : Int
  deriving DecidableEq, Repr

/-- The RF front end and the Mica receiver. -/
structure Radio where
  airA   : Air
  airB   : Air
  airP   : Air
  chA    : ChainSt
  chB    : ChainSt
  /-- Values in force of the registers that take effect at a slotframe boundary (PHYRF, PLCPHY, SCHED, LINK, LINKSEC, MESH). -/
  inForce : Regs
  /-- XO trim code and its temperature, to take effect at the next slot boundary (R171). -/
  xoDue  : Option (Nat × Nat)
  /-- The wake call that RF-A is sending (R184, R269). -/
  calling : Option WakeCall
  deriving DecidableEq, Repr

/-- A tone-map set (R234, R236): version, rate, the region of each bin, and each region's loading codes, none where ROBUST. -/
structure ToneSet where
  ver     : Nat
  rate    : Nat
  regions : List Nat
  /-- (region, loading codes or ROBUST) of the regions held. -/
  loads   : List (Nat × Option (List Nat))
  deriving DecidableEq, Repr

/-- One tone-map slot (R234). -/
structure ToneSlot where
  nbr      : Nat
  /-- Issued set and the version before it. -/
  cur      : Option ToneSet
  prev     : Option ToneSet
  /-- ASN at which the current version was issued (R238). -/
  issued   : Nat
  /-- The neighbour has used the current version. -/
  adopted  : Bool
  curVer   : Nat
  prevVer  : Nat
  /-- Set that the neighbour issued: its TMID, the parts held, and whether it is usable. -/
  tmid     : Nat
  received : Option ToneSet
  /-- Parts of a newer set (R237). -/
  parts    : Option ToneSet
  usable   : Bool
  fallback : Bool
  unacked  : Nat
  /-- A new version was issued since the last run. -/
  sinceRun : Bool
  /-- Regions of the newest set that frames have carried (R275). -/
  carried  : List Nat
  /-- ASN of the last PLC reception. -/
  lastRx   : Nat
  /-- Signal power per subcarrier of the last 8 frames, dB (R231). -/
  power    : List (List Int)
  deriving DecidableEq, Repr

/-- The PLC PHY and the mains PLL (R207-R243). -/
structure Plc where
  /-- Tone-map slots: (slot, contents). -/
  slots   : List (Nat × ToneSlot)
  /-- PLC frames received from neighbours without a slot (R234). -/
  heard   : Regs
  /-- Mean noise per bin and subcarrier, dBµV × 10 (R228). -/
  noise   : List (List Int)
  /-- Region of each bin as generated (R229). -/
  regions : List Nat
  /-- Cycles in a row within ±20 µs, beyond 200 µs, and crossings missed in a row (R242). -/
  inRun   : Nat
  outRun  : Nat
  missRun : Nat
  /-- The last rising crossing that counted, in µs from the slot boundary in force (R37, R250). -/
  cross   : Int
  /-- dB that the low-impedance cut puts on the frame in progress (R210). -/
  cut     : Nat
  deriving DecidableEq, Repr

/-- A frame in a link queue (R276, R285). -/
structure LinkFrame where
  /-- The model's own number of the frame. -/
  num    : Nat
  /-- Neighbour index; 300 broadcast; 301 an extended address outside the table. -/
  dest   : Nat
  ext    : Nat
  /-- 0 ALARM, 1 CONTROL, 2 TELEMETRY, 3 BULK. -/
  cls    : Nat
  kind   : FrameKind
  mesh   : Option MeshIe
  join   : List Byte
  payload : List Byte
  /-- Secured under the join key (R304). -/
  joinKey : Bool
  seq    : Option Nat
  /-- Key slot of its first attempt (R279), and the counter that the copies of an ALARM pair share (R280). -/
  key    : Option Nat
  ctr    : Option Nat
  tries  : Nat
  /-- Waiting for a counter block (R281). -/
  waits  : Bool
  /-- First ASN at which it may use the alarm cell or a join cell again (R263, R303). -/
  due    : Nat
  /-- The queue record and OFFSET of the fragment it carries for E6; 0 when it carries none. -/
  msg    : Nat
  frag   : Nat
  deriving DecidableEq, Repr

/-- A resynchronisation (R269): the ASN at which its windows end, and whether the wake call has been made. -/
structure Resync where
  nbr    : Nat
  until_ : Nat
  called : Bool
  deriving DecidableEq, Repr

/-- E4's and the link engines' state (R244-R291). -/
structure Sched where
  asn    : Nat
  /-- SLOT_US at the last read or event that gave it. -/
  slotUs : Nat
  /-- TIME1 latches by requester: (who, value + 1), present until read (R246). -/
  latches : Regs
  hop    : List Nat
  cells  : List Cell
  nbrs   : List Nbr
  queue  : List LinkFrame
  nextNum : Nat
  /-- Move of the next boundary, signed µs (R249), and the distance still to slew (R250). -/
  move   : Int
  slew   : Int
  resyncs : List Resync
  /-- SYS.OPSEC of this node's last poll, a poll waiting for its cell, and one past the last ASN of the response period
  (R270). -/
  polled : Nat
  pollDue : Bool
  respTo : Nat
  /-- A response is awaited after the poll (R267). -/
  respDue : Bool
  /-- BC_TX rotation: the medium used last; BC_TX cells since the last beacon (R262). -/
  bcLast : Nat
  bcCells : Nat
  /-- Next broadcast sequence number of the link (R276). -/
  bcSeq  : Nat
  /-- The last gasp's link frame, until it is acknowledged or has used its attempts (R87, R263). -/
  gasp   : Option Nat
  /-- The ASN origin is to be set at the first slot boundary (R247). -/
  origin : Bool
  /-- The feeder phase that E4 applies (R37, R151), and cells stopped for good by EN = 0 (R248). -/
  phase  : Nat
  halted : Bool
  /-- Staged link key words (R279). -/
  stagedKey : Regs
  /-- Scores of the lanes of the bank that detected in the tick that won it (R205): (lane, score). -/
  bank   : Regs
  deriving DecidableEq, Repr
/-- A scan result (R301); RSSI and SNR as registers show them, 0x80 not heard. -/
structure ScanRes where
  pan    : Nat
  short  : Nat
  ext    : Nat
  rank   : Nat
  hops   : Nat
  admits  : Bool
  coord  : Bool
  media  : Nat
  hint   : Nat
  rssiA  : Byte
  rssiB  : Byte
  snr    : Byte
  wake   : Nat
  joinSf : Nat
  joinLen : Nat
  jchoff : Nat
  /-- ASN of the sync IE. -/
  asn    : Nat
  /-- The COORDINATOR's extended address, and that it is a redundant pair (R299). -/
  root   : Nat
  pair   : Bool
  deriving DecidableEq, Repr

/-- A JOIN_RELAY outstanding at a ROUTER (R307): the joiner and what its request carried. At a COORDINATOR, a direct request that waits for a
rebuild of the index (R311). -/
structure Relay where
  ext    : Nat
  ym1    : Bool
  caps   : Nat
  pollS  : Nat
  wake   : Nat
  deriving DecidableEq, Repr

/-- What E5 keeps on every node (R296-R325). -/
structure Mesh where
  /-- Neighbour indices of the parent set, preferred first (R316). -/
  pset    : List Nat
  results : List ScanRes
  /-- The chosen sender of the join in progress (R302), the requests sent, and a response awaited. -/
  target  : Option ScanRes
  tries   : Nat
  wait    : Bool
  /-- The slotframe that E4 enabled for the join (R306). -/
  sfOn    : Option Nat
  /-- HWM archive: (extended address, key index, HWM), newest first (R298). -/
  archive : List (Nat × Nat × Nat)
  /-- JOIN_RELAYs outstanding (R307). -/
  relays  : List Relay
  /-- MESH.CNT1.BADADDR of R293, for which the page gives no bits. -/
  badAddr : Nat
  /-- The COORDINATOR's extended address and pair flag, as the last beacon of this PAN gave them (R299). -/
  root    : Nat
  pair    : Bool
  /-- The last 32 (ORIGIN, BSEQ) pairs, newest first, and this node's next BSEQ (R322). -/
  bcasts  : List (Nat × Nat)
  bseq    : Nat
  /-- The sleepy-child downlink buffer (R325), oldest first. -/
  buffer  : List LinkFrame
  /-- An ORPHAN's own scan runs (R302). -/
  scanning : Bool
  deriving DecidableEq, Repr

/-- A base copy of the table snapshot (R313, R314). -/
structure SnapBase where
  seq   : Nat
  salt  : BitVec 64 × BitVec 64
  table : List Assoc
  deriving DecidableEq, Repr

/-- The association and route table, its search unit and its snapshots (R308-R314). -/
structure AssocSt where
  /-- Entries used once or more, by rising index. -/
  table  : List Assoc
  salt   : Option (BitVec 64 × BitVec 64)
  /-- The search unit's index: (2 * bucket + slot, entry index) (R310). -/
  index  : List (Nat × Nat)
  /-- A REHASH runs (R311). -/
  busy   : Bool
  /-- The table stands in bank 0 with a valid header (R313). -/
  live   : Bool
  snapA  : Option SnapBase
  snapB  : Option SnapBase
  /-- Log records after the newest base, in order (R314). -/
  snapLog : List Assoc
  /-- Entries changed since the last append. -/
  dirty  : List Nat
  deriving DecidableEq, Repr
/-- A reassembly context (R341): the peer, the ID, and the data taken so far by position. -/
structure Context where
  peer   : Nat
  sess   : Nat
  msgid  : Nat
  kind   : Nat
  cls    : Nat
  ptype  : Nat
  total  : Nat
  parts  : Memory
  have_  : List (Nat × Nat)
  deriving DecidableEq, Repr

/-- A complete message in its consumer's queue (R342): 12 the host's ring, else an engine. -/
structure Offer where
  who    : Nat
  peer   : Nat
  sess   : Nat
  msgid  : Nat
  kind   : Nat
  cls    : Nat
  ptype  : Nat
  body   : List Byte
  /-- One past its entry in the receive ring. -/
  ends   : Nat
  /-- It completes this node's own REQ, so its take sends nothing (R347). -/
  rsp    : Bool
  deriving DecidableEq, Repr

/-- A kept RSP (R348): the requester, the REQ's MSGID, its class and the RSP's body, until it is released. -/
structure KeptRsp where
  peer   : Nat
  msgid  : Nat
  cls    : Nat
  ptype  : Nat
  body   : List Byte
  deriving DecidableEq, Repr

/-- A completion in the DONE FIFO (R346). -/
structure Done where
  msgid  : Nat
  status : Nat
  cls    : Nat
  deriving DecidableEq, Repr

/-- What E6 keeps (R327-R353). -/
structure MsgSt where
  /-- The store-and-forward queue, in order of submission. -/
  queue   : List Msg
  nextNum : Nat
  peers   : List Peer
  contexts : List Context
  /-- Complete messages awaiting their consumer. -/
  offers  : List Offer
  /-- REQs taken and not yet answered: (peer, MSGID). -/
  open_   : List (Nat × Nat)
  rsps    : List KeptRsp
  fifo    : List Done
  /-- The SEND in progress: its queue record waits for flash (R334). -/
  cmd     : Option Msg
  /-- MSGID block ends in the partition: (peer, last ID) (R332). -/
  blocks  : Regs
  /-- Take records in the partition, (peer, session, MSGID), newest first (R342). -/
  takes   : List (Nat × Nat × Nat)
  deriving DecidableEq, Repr
/-- A gated record waiting for its ACK, and what follows it (R362, R364); a take record keeps the offer taken. -/
structure Gated where
  seq   : Nat
  obj   : Mirror
  offer : Option Offer
  deriving DecidableEq, Repr

/-- The redundant pair beyond the PAIR page (R354-R374). -/
structure Pair where
  /-- SEQ of the last sequenced frame sent, and of the last one received in order. -/
  txSeq   : Nat
  rxSeq   : Nat
  /-- Sequenced frames sent and not acknowledged, oldest first; a HANDOVER frame carries no object. -/
  unacked : List (Nat × Option Mirror)
  /-- The TAKEOVER flag (R360, R361). -/
  takeover : Bool
  /-- This PRIMARY heard NETADDR from another sender (R372). -/
  dual    : Bool
  /-- ASN at which this module became PRIMARY. -/
  primaryAsn : Nat
  /-- Objects of the bulk copy still to be sent, and how many there were (R366). -/
  copy    : List Mirror
  copyAll : Nat
  gated   : List Gated
  /-- STANDBY: offers mirrored whose take record has not come: peer, session, message ID (R373). -/
  offered : List (Nat × Nat × Nat)
  /-- STANDBY: records that refer to objects not yet copied (R366). -/
  held    : List Mirror
  /-- STANDBY: the bulk copy has ended. -/
  copied  : Bool
  /-- SEQ that the partner's last HEARTBEAT named, and whether it showed this module IN_SYNC. -/
  hbSeq   : Nat
  hbIn    : Bool
  /-- The partner's last HELLO, and the last HELLO and HEARTBEAT sent (R358). -/
  hello   : Option Hello
  helloOut : Option Hello
  beatOut : Option Heartbeat
  /-- RESV (R367), one past, by key slot: a STANDBY's reserve end; a PRIMARY's last block end reported committed. -/
  reserve : Regs
  /-- STANDBY: block-end records received, newest first: SEQ, slot, reserve end one past. -/
  resvWait : List (Nat × Nat × Nat)
  /-- PRIMARY: block-end records sent, (SEQ, slot, end one past), awaiting their report. -/
  blockSeqs : List (Nat × Nat × Nat)
  /-- STANDBY: completions mirrored, with the HEARTBEATs received since, which are 1 ms apart (R369). -/
  recent  : List (Msg × Nat × Nat)
  /-- Offers in doubt after a takeover (R373). -/
  doubt   : List (Nat × Nat × Nat)
  /-- The neighbour table as last mirrored (R362). -/
  nbrsSent : List Nbr
  /-- A handover is under way (R374). -/
  handover : Bool
  /-- The last frame sent, from TYPE to CRC (R357). -/
  line    : List Byte
  deriving DecidableEq, Repr

/-- The eight general registers G0-G7 of a Flint engine (R376). -/
structure GRegs where
  g0 : Byte
  g1 : Byte
  g2 : Byte
  g3 : Byte
  g4 : Byte
  g5 : Byte
  g6 : Byte
  g7 : Byte
  deriving DecidableEq, Repr

/-- The four pointers P0-P3 (R376). -/
structure PRegs where
  p0 : Half
  p1 : Half
  p2 : Half
  p3 : Half
  deriving DecidableEq, Repr

/-- FLAGS: bits [3:0]; bits [7:4] read 0 (R376). -/
structure CpuFlags where
  c : Bool
  z : Bool
  n : Bool
  v : Bool
  deriving DecidableEq, Repr

/-- ENGx.STAT.RUN. -/
inductive Run where
  | reset | running | waiting | halted
  deriving DecidableEq, Repr

/-- The MCODE state of an engine (R409). -/
inductive McState where
  | empty | loading | measured | failed
  deriving DecidableEq, Repr

/-- The three staged bytes 0-2 of a four-byte write (R379, R381, R440). -/
structure Stage where
  b0 : Option Byte
  b1 : Option Byte
  b2 : Option Byte
  deriving DecidableEq, Repr

/-- A mailbox message: five words (R413). -/
structure Mail where
  w0 : Word
  w1 : Word
  w2 : Word
  w3 : Word
  w4 : Word
  deriving DecidableEq, Repr

/-- A posting to the collector (R420). -/
structure Post where
  src   : Nat
  resp  : Bool
  gen   : Nat
  code  : Nat
  value : Word
  deriving DecidableEq, Repr

/-- One Flint engine: its registers (R376), window (R379), latches (R381, R441), local SRAM, format in force (R400),
microcode (R403-R409), mailbox (R413), event port (R428) and collector port (R420). -/
structure Engine where
  g       : GRegs
  p       : PRegs
  sp      : Half
  pc      : Half
  flags   : CpuFlags
  run     : Run
  /-- HALTED while in WAIT, to which RESUME returns (R419). -/
  heldWait : Bool
  /-- Stopped at a faulting instruction until reset (R401). -/
  faulted : Bool
  /-- The image this engine would run has been verified (R23, R416). -/
  image   : Bool
  /-- That image is a customer image listed in the manifest (R24). -/
  customer : Bool
  /-- Its CIMAGE entry carries the OUTAGE flag (R42, R512). -/
  outageFlag : Bool
  winbase : Word
  winStage : Stage
  /-- The Shale read latch: (page:offset of the register, the word), R381. -/
  readLatch : Option (Nat × Word)
  /-- The Shale write latch: (page:offset, staged bytes), R381. -/
  writeLatch : Option (Nat × Stage)
  /-- The timer latch: (timer, register 0 COUNT or 1 CAP, word), R441. -/
  timerLatch : Option (Nat × Nat × Word)
  /-- The staging latch for CMP0: (timer, staged bytes), R440. -/
  cmpStage : Option (Nat × Stage)
  /-- K-format is in force (R400). -/
  kfmt    : Bool
  /-- A change of E0's own format waits for its next JMP, CALL or RET (R400). -/
  kfmtDue : Bool
  sram    : Memory
  /-- The decode table: (entry, word), unlisted entries 0 (R404). -/
  decode  : Regs
  /-- The microcode store: (micro-address, word), unlisted words 0 (R403). -/
  micro   : Regs
  mc      : McState
  /-- The digest recorded at the last passing load check (R409). -/
  mcDigest : List Byte
  /-- The digest recorded at BOOT (R409). -/
  mcBoot  : Option (List Byte)
  mcFailAddr : Nat
  mcScrubErr : Bool
  /-- The inbound mailbox, oldest first, at most 8 (R413). -/
  mailbox : List Mail
  /-- The outbound message being built (R413). -/
  outbound : Mail
  /-- TXST: 0 SENT, 1 FULL, 2 NO_ENGINE. -/
  txst    : Nat
  /-- WAKEEN of IN0-IN2 (R428). -/
  wakeEn  : BitVec 3
  postCode : Half
  postResp : Bool
  postValue : Word
  /-- The last post was refused (E0 only, R420). -/
  postRefused : Bool
  /-- A post waiting for a free collector entry (R420, R421). -/
  stalled : Option Post
  /-- A post withdrawn by a debug halt, repeated on resume (R419). -/
  withdrawn : Option Post
  /-- The pending COLLECT response (R422). -/
  response : Option Word
  deriving DecidableEq, Repr

/-- The twelve engines. -/
structure Engines where
  e0  : Engine
  e1  : Engine
  e2  : Engine
  e3  : Engine
  e4  : Engine
  e5  : Engine
  e6  : Engine
  e7  : Engine
  e8  : Engine
  e9  : Engine
  e10 : Engine
  e11 : Engine
  deriving DecidableEq, Repr

/-- What the supervisor path keeps beside the engines: the collector FIFO (R420) and debug access (R418). -/
structure Cluster where
  /-- The COLLECT FIFO, head first, at most 16 entries. -/
  fifo   : List Post
  /-- SYS.OPSEC of E0's last watchdog expiry (R417). -/
  e0Expired : Option Nat
  /-- A single step is to halt the engine again after one instruction (R419). -/
  stepping : List Nat
  /-- The status byte and the data words that the last debug-port transaction sent (R418). -/
  dbgStatus : Nat
  dbgData  : List Nat
  deriving DecidableEq, Repr

/-- A QUARTZ event latched while CORE is not ON, with the stitched timer counts of its LF edge (R424, R439). -/
structure Latched where
  producer : Nat
  counts   : List Nat
  deriving DecidableEq, Repr

/-- Where a compare stands (R435, R437). -/
inductive CmpState where
  | idle | arming | ahead | late | spent
  deriving DecidableEq, Repr

/-- The event fabric and timers beyond EVT and TIM. -/
structure Fabric where
  /-- Latched QUARTZ events, oldest first (R424). -/
  latched : List Latched
  /-- Compare states that are not idle: (4 * timer + compare, state). -/
  cmps    : List (Nat × CmpState)
  /-- Prescaler phases that are not 0: (timer, phase) (R433). -/
  phases  : Regs
  deriving DecidableEq, Repr

/-- A requester's latch of CNT_HI, CAL0 and CAL1: each present until it is read once (R447). -/
structure RtcLatch where
  who   : Nat
  cntHi : Option Nat
  cal0  : Option Nat
  cal1  : Option Nat
  deriving DecidableEq, Repr

/-- The real-time clock (R442-R457). -/
structure Rtc where
  /-- The 48-bit count: SEC * 32768 + SUB. -/
  count   : Nat
  latches : List RtcLatch
  /-- The staged count of an accepted commit and its requester, landing at the next LF edge (R450, R454). -/
  staged  : Option (Nat × Nat)
  /-- Alarms whose EN was written since the last LF edge, with EN as it stood before (R456). -/
  almDue  : List (Nat × Bool)
  /-- The sub-second shift running: T, 0 for none, and the LF edges of it that have passed (R452). -/
  shift   : Int
  shiftEdges : Nat
  /-- LF is stopped: the count holds (R444). -/
  stopped : Bool
  deriving DecidableEq, Repr

/-- A DMA descriptor as fetched (R462). -/
structure Desc where
  src : Nat
  dst : Nat
  len : Nat
  /-- Word 3. -/
  ctl : Nat
  deriving DecidableEq, Repr

/-- One DMA channel beyond its registers (R466). -/
structure Channel where
  desc     : Option Desc
  /-- Bytes already copied of the descriptor in progress. -/
  done     : Nat
  /-- A refused access was met: REF at write-back (R461). -/
  refSeen  : Bool
  /-- A trigger is held (R426). -/
  trig     : Bool
  /-- RUN was cleared while a descriptor is in progress (R466). -/
  stopping : Bool
  deriving DecidableEq, Repr

/-- One op-journal entry (R482). KIND: 1 ERASE_S, 2 ERASE_B, 3 COPY, 4 RETIRE. -/
structure JEntry where
  seq  : Nat
  kind : Nat
  /-- For RETIRE, the spare index k. -/
  k    : Nat
  addr : Nat
  done : Bool
  deriving DecidableEq, Repr

/-- The one outstanding erase of the module (R476). -/
structure Erase where
  /-- Logical address of the sector or block. -/
  addr  : Nat
  block : Bool
  seq   : Nat
  suspended : Bool
  /-- Suspended by an explicit SUSPEND call, so that only RESUME resumes it. -/
  held  : Bool
  /-- Who started it: engine 0 or 8. -/
  who   : Nat
  deriving DecidableEq, Repr

/-- A storage command that E8 serves: from the host's STORE page or from a mailbox (R489). -/
structure StoreReq where
  /-- 12 HOST, 10, 11. -/
  who   : Nat
  /-- 1 READ, 2 PROGRAM, 3 ERASE. -/
  op    : Nat
  block : Bool
  off   : Nat
  len   : Nat
  /-- System address of the buffer. -/
  buf   : Nat
  tag   : Nat
  deriving DecidableEq, Repr

/-- The NOR array and the state of the ROM routine's controller (R470-R488). -/
structure Flash where
  /-- The array by physical byte address; unlisted bytes are erased, 0xFF. -/
  cells   : Memory
  /-- Remap entry k: the logical sector moved to spare k (R487). -/
  remap   : List Nat
  /-- The op journal: entries of the journal sector in use, in order, and of the other one (R482). -/
  journal : List JEntry
  jOther  : List JEntry
  /-- The boot block whose sector 60 is the journal sector in use. -/
  jHalf   : Nat
  nextSeq : Nat
  /-- The words programmed in sector 63 of BB0 and of BB1, and which of the two is in use (R480, R481). -/
  sel0    : List Nat
  sel1    : List Nat
  selHalf : Nat
  erase   : Option Erase
  /-- The address at which a continuous read goes on (R478). -/
  contAddr : Nat
  /-- Storage commands waiting for E8, in order of service; the head is running (R489). -/
  reqs    : List StoreReq
  /-- Strata records to be written by E8 after release, for recovered journal entries (R483). -/
  recovered : List JEntry
  deriving DecidableEq, Repr

/-- A cipher key slot that holds a key (R494). -/
structure CipherSlot where
  slot   : Nat
  /-- 12 HOST; for E7's slots the engine that the key is for (R490). -/
  owner  : Nat
  len256 : Bool
  key    : List Byte
  deriving DecidableEq, Repr

/-- A queued AES block operation (R31, R495). Slots 0-7 are the host's, 8-15 are E7's. -/
structure AesOp where
  who     : Nat
  slot    : Nat
  decrypt : Bool
  input   : List Byte
  /-- For a mailbox request, the output address and the tag. -/
  out     : Nat
  tag     : Nat
  deriving DecidableEq, Repr

/-- A remote party's request for a quote (R509). -/
structure QuoteReq where
  peer  : Nat
  msgid : Nat
  cls   : Nat
  nonce : List Byte
  mask  : Nat
  deriving DecidableEq, Repr

/-- A queued ECDSA-unit operation: PKE's OP code and its parameter block, for the host (12) or an engine (R490). -/
structure PkeOp where
  who   : Nat
  op    : Nat
  param : Nat
  tag   : Nat
  /-- The signed octets of a quote, taken at its grant (R508). -/
  taken : List Byte
  /-- The request that E7 answers with this quote. -/
  quote : Option QuoteReq
  deriving DecidableEq, Repr

/-- One event-log entry (R505). -/
structure LogEntry where
  slot   : Nat
  event  : Nat
  object : Nat
  digest : List Byte
  deriving DecidableEq, Repr

/-- Garnet (R490-R510). -/
structure Garnet where
  slots     : List CipherSlot
  /-- Staged KEY0-KEY7 of CIPHER. -/
  stagedKey : Regs
  /-- AES operations, head running (R31). -/
  aes       : List AesOp
  /-- The message bytes of the HOST hash context, while it is open or its FINAL runs (R497). -/
  hashCtx   : Option (List Byte)
  /-- PKE operations, head running (R31). -/
  pke       : List PkeOp
  /-- MSLOT0-MSLOT7, 48 bytes each (R505). -/
  mslots    : List (List Byte)
  extCnt    : List Nat
  log       : List LogEntry
  /-- OTP: the hashes in CK0 and CK1 and CK0's revoke fuse (R501). -/
  ck0       : Option (List Byte)
  ck1       : Option (List Byte)
  ck0Revoked : Bool
  /-- OTP: the anti-rollback counters RB0-RB7 (R503). -/
  rb        : List Nat
  /-- The debug challenge held (R510). -/
  challenge : Option (List Byte)
  /-- SYS.OPSEC at which debug access closes (R510). -/
  debugEnd  : Nat
  /-- Requests served since the last reseed, and whether the source failed its health test (R492). -/
  sinceSeed : Nat
  healthFail : Bool
  /-- MEASURE.SEL of each requester, unlisted 0. -/
  measureSel : Regs
  deriving DecidableEq, Repr

/-- The update session beyond the UPDATE page, and E9's two gather buffers (R514-R523). -/
structure Update where
  /-- AT of the schedule in force (R518). -/
  schedAt  : Nat
  /-- The activation is due and waits for its decision point (R519). -/
  due      : Bool
  /-- The activation resumes an open COPY entry (R521). -/
  resumed  : Bool
  /-- The COPY journal entry's SEQ (R520). -/
  copySeq  : Nat
  /-- The activation that this reset ends was completed: BOOT sets IRQ ACTIVATED. -/
  activated : Bool
  /-- The offset and the buffer of the WRITE running (R515). -/
  writing  : Option (Nat × List Byte)
  /-- E9's gather buffer: the block's staging offset and the chunks held, by index (R516). -/
  gather   : Option (Nat × List (Nat × List Byte))
  /-- E9's completed block waiting for its WRITE (R516). -/
  waiting  : Option (Nat × List Byte)
  /-- A waiting WRITE that UPDATE refused: reason and offset, reported with the next chunk (R516). -/
  refused  : Option (Nat × Nat)
  deriving DecidableEq, Repr

/-- A Strata record (R524). -/
structure StrataRec where
  seq    : Nat
  type   : Nat
  reps   : Nat
  opsec  : Nat
  pwrcyc : Nat
  src    : Nat
  body   : List Byte
  /-- The sector of the partition it occupies. -/
  sector : Nat
  /-- For a REPEAT record: the type, source and key of the record it names (R528). -/
  names  : Option (Nat × Nat × List Byte)
  deriving DecidableEq, Repr

/-- A submission to the recorder. -/
structure Submission where
  src  : Nat
  type : Nat
  body : List Byte
  /-- The engine and the tag that a mailbox answer goes to (R532). -/
  reply : Option (Nat × Nat)
  deriving DecidableEq, Repr

/-- One of the 32 keys of R528: type, source, key, SEQ. -/
structure StrataKey where
  type : Nat
  src  : Nat
  key  : List Byte
  seq  : Nat
  deriving DecidableEq, Repr

/-- The Strata recorder (R524-R536). -/
structure Strata where
  /-- Programmed records, oldest first. -/
  records : List StrataRec
  opened  : Option StrataRec
  /-- Most recently closed first, at most 32 (R528). -/
  recent  : List StrataKey
  /-- The start sector (R530). -/
  start   : Nat
  /-- The sector and the offset at which the next record goes (R530). -/
  sector  : Nat
  offset  : Nat
  /-- Submissions waiting for the restart walk or a clear, at most 32 (R531). -/
  queue   : List Submission
  walking : Bool
  /-- Sectors still to be erased by the clear in progress, in order (R536). -/
  toErase : List Nat
  challenge : Option (List Byte)
  deriving DecidableEq, Repr

/-- A DALI frame of the queue (R541): its place in order of arrival, its attempts that ended in a collision, and whether the first copy of
a TWICE frame is sent. -/
structure DaliEntry where
  num    : Nat
  frame  : Nat
  len24  : Bool
  prio   : Nat
  twice  : Bool
  answer : Bool
  tag    : Nat
  tries  : Nat
  copied : Bool
  deriving DecidableEq, Repr

/-- A result of the FIFO (R541). -/
structure DaliRes where
  data   : Nat
  status : Nat
  tag    : Nat
  deriving DecidableEq, Repr

/-- Lamp side: DALI, AOUT, relay, metering, digital inputs, and the reference image (ch. 23). -/
structure Lamp where
  /-- Entries that wait, by priority and arrival. -/
  queue   : List DaliEntry
  nextNum : Nat
  /-- The entry being sent: 0 waits for its second copy, 1 on the bus, 2 its answer is awaited. -/
  cur     : Option (DaliEntry × Nat)
  results : List DaliRes
  /-- The bus voltage is being measured (R540). -/
  measuring : Bool
  /-- Relay pulse in progress, and queued command: 1 SET, 2 CLR (R549). -/
  pulse   : Option Nat
  pend    : Option Nat
  /-- STATE has been OPEN since the metering window began (R552). -/
  openAll : Bool
  /-- Energy fed back during a bridge hold or reset state (R21, R558). -/
  accumRev : Nat
  /-- Seconds in a row at or above DARK, and at or below LIGHT (R553). -/
  darkRun : Nat
  lightRun : Nat
  /-- Latches of METER by requester (R557, R558): registers VRMS to THD, and ENERGY_HI one past. -/
  snaps   : List (Nat × List Nat)
  energy  : Regs
  /-- The last level of each input that an event reported: active (R563). -/
  said    : List Bool
  /-- Level of the reference image, and what it still has to do (R538): start once the DALI page is ENABLED, open the relay after the
  result of an entry. -/
  level   : Nat
  startDue : Bool
  openOn  : Option Nat
  deriving DecidableEq, Repr
/-- What a tear-safe write is for (R575): a store block, or the password. -/
inductive TagItem where
  | block (n : Nat)
  | password
  deriving DecidableEq, Repr

/-- The tear shadow: the item, its bytes and their CRC-8. -/
structure Shadow where
  item  : TagItem
  bytes : List Byte
  crc   : Byte
  deriving DecidableEq, Repr

/-- Reader, tag and proximity (ch. 24). -/
structure Nfc where
  /-- The tag store by byte; unlisted bytes are 0. -/
  fram    : Memory
  pwd     : List Byte
  key     : List Byte
  /-- Staged PWD and KEY words. -/
  staged  : Regs
  shadow  : Option Shadow
  marker  : Bool
  /-- The marker has been read since the tag logic was last powered (R576). -/
  checked : Bool
  /-- MAM1 was answered in this session (R574). -/
  mam     : Bool
  /-- The 2 s lockout runs (R572). -/
  locked  : Bool
  /-- The reply to the last request: slot and octets, CRC apart; none where there was no answer. -/
  reply   : Option (Nat × List Byte)
  /-- The reader's XFER (3) or INVENTORY (4) held in GUARD or in progress. -/
  op      : Nat
  /-- The electrode base in 1/256 counts, and samples or pings in a row that call for a change (R582). -/
  base    : Nat
  run     : Nat
  /-- E0 holds NFC ON after an approach (R583). -/
  held    : Bool
  deriving DecidableEq, Repr
/-- The machine: every register field, everything the spec gives it beside its registers, and the commands waiting. -/
structure State where
  /-- The stored register fields of all pages. -/
  regs    : Regs
  /-- Where the module stands in the mode table (R41, R78); SYS.MODE.CUR is its code. -/
  mode    : Mode
  modes   : ModeSt
  bridge  : Bridge
  supply  : Supply
  ret     : Retained
  doms    : Domains
  spi     : Spi
  compat  : Compat
  engines : Engines
  cluster : Cluster
  fabric  : Fabric
  rtc     : Rtc
  /-- DMA channels 0-15. -/
  dma     : List Channel
  flash   : Flash
  garnet  : Garnet
  update  : Update
  strata  : Strata
  /-- Shared SRAM by system address (R28); unlisted bytes read 0. -/
  mem     : Memory
  /-- The RF front end and the link engines' media (ch. 06, 07). -/
  radio   : Radio
  /-- The power-line PHY (ch. 08). -/
  plc     : Plc
  /-- The schedule, the neighbour table and the link queues (ch. 09, 10). -/
  sched   : Sched
  /-- Joining, routing and the sleepy children's buffer (ch. 11). -/
  mesh    : Mesh
  /-- The association and route table (ch. 11). -/
  assoc   : AssocSt
  /-- Messages and transactions (ch. 12). -/
  msg     : MsgSt
  /-- The redundant pair (ch. 13). -/
  pair    : Pair
  /-- The sixteen link key slots (R280, R281). -/
  keys    : List KeySlot
  /-- The value that the last read command returned to its requester. -/
  lastRead : Nat
  /-- The lamp side (ch. 23). -/
  lamp    : Lamp
  /-- The contactless reader and tag, and proximity (ch. 24). -/
  nfc     : Nfc
  /-- The model's own: how many free values have been drawn (log entry 9). -/
  freeCount : Nat
  /-- Commands waiting, first in, first out. -/
  pending : List Instr
  deriving DecidableEq, Repr

/-! ### The machine right after reset -/

/-- A bridge at rest: no silence, the mains side in reset state until E0 configures it (R77). -/
def Bridge.reset : Bridge :=
  { silent := false, hold := false, inReset := true, resetDue := false, cfgDue := false, resendToMains := false,
    resendToSelv := false, accum := 0, inflight := [], result := 0 }

/-- The supply as BOOT finds it: up, V3_OUT on (R71). -/
def Supply.reset : Supply :=
  { up := true, shutdown := false, v3on := true, v3lim := false, v3wait := false, rstnLow := false, compatSel := false,
    fieldPresent := false, pairPresLow := false, hostWakeHigh := false }

/-- Nothing declared (R2). -/
def Profile.none : Profile :=
  { region := 0, bandplan := 0, hz := 0, phase := 0, plcband := 0, lat := 0, lon := 0, role := 0, pairEn := 0, hints := 0,
    pan0 := 0, pan1 := 0, pan2 := 0, pan3 := 0, facts := 0 }

/-- A record that no commit has written: invalid (R83: modules leave the factory so). -/
def RetRecord.blank : RetRecord :=
  { valid := false, version := 0, seq := 0, regs := [], identity := Option.none, keys := [], profile := Profile.none,
    assign := [], reserve := [], level := 0 }

def Retained.reset : Retained :=
  { quartz := RetRecord.blank, copyA := RetRecord.blank, copyB := RetRecord.blank, toB := false,
    writing := RetRecord.blank, again := false, escTimes := [], escReset := Option.none, escResetFlash := Option.none,
    escLoop := false, identity := Option.none, assign := [], profile := Profile.none }

def ModeSt.reset : ModeSt :=
  { lastGasp := false, warmDue := false, micaWake := false, limitOn := false,
    bootVerifyFail := false, failedImages := [], lostAt := 0, prodTest := false, gaspId := none }

def Domains.reset : Domains :=
  { auto := [], fromOff := [], entering := [], wakeArmed := true, stitchFrac := 0, lfHold := false, asqLeft := [] }

def Spi.reset : Spi := { rstEn := false, wfifo := [], held := Option.none, err := false, status := 0, data := [] }

def Compat.reset : Compat :=
  { baud := 3, last := Option.none, reply := Option.none, line := [], queue := [], resends := 0, nextSeq := 0, waiting := [],
    lampWait := Option.none, joining := false }

def Stage.none : Stage := { b0 := Option.none, b1 := Option.none, b2 := Option.none }

def Mail.zero : Mail := ⟨0, 0, 0, 0, 0⟩

/-- An engine in reset (R376): E0 runs K-format from 0x8000 with its window on the ROM, the others start at 0. -/
def Engine.reset (k : Nat) : Engine :=
  { g := ⟨0, 0, 0, 0, 0, 0, 0, 0⟩, p := ⟨0, 0, 0, 0⟩, sp := 0x8000,
    pc := bif Nat.beq k 0 then 0x8000 else 0, flags := ⟨false, false, false, false⟩, run := .reset, heldWait := false,
    faulted := false,
    image := false, customer := false, outageFlag := false,
    winbase := bif Nat.beq k 0 then 0 else 0x20000000, winStage := Stage.none, readLatch := Option.none,
    writeLatch := Option.none, timerLatch := Option.none, cmpStage := Option.none,
    kfmt := Nat.beq k 0, kfmtDue := false, sram := [], decode := [], micro := [], mc := .empty, mcDigest := [],
    mcBoot := Option.none, mcFailAddr := 0, mcScrubErr := false, mailbox := [], outbound := Mail.zero, txst := 0,
    wakeEn := bif Nat.beq k 0 then 0b011 else 0, postCode := 0, postResp := false, postValue := 0,
    postRefused := false, stalled := Option.none, withdrawn := Option.none, response := Option.none }

def Engines.reset : Engines :=
  ⟨Engine.reset 0, Engine.reset 1, Engine.reset 2, Engine.reset 3, Engine.reset 4, Engine.reset 5, Engine.reset 6,
   Engine.reset 7, Engine.reset 8, Engine.reset 9, Engine.reset 10, Engine.reset 11⟩

def Cluster.reset : Cluster := { fifo := [], e0Expired := Option.none, stepping := [], dbgStatus := 0, dbgData := [] }

def Fabric.reset : Fabric := { latched := [], cmps := [], phases := [] }

def Rtc.reset : Rtc :=
  { count := 0, latches := [], staged := Option.none, almDue := [],
    shift := 0, shiftEdges := 0, stopped := false }

/-- A channel with nothing in progress. -/
def Channel.idle : Channel :=
  { desc := Option.none, done := 0, refSeen := false, trig := false, stopping := false }

def Flash.reset : Flash :=
  { cells := [], remap := [], journal := [], jOther := [], jHalf := 0, nextSeq := 1, sel0 := [0xFFFD0002], sel1 := [],
    selHalf := 0, erase := Option.none, contAddr := 0, reqs := [], recovered := [] }

def Garnet.reset : Garnet :=
  { slots := [], stagedKey := [], aes := [], hashCtx := Option.none, pke := [],
    mslots := List.replicate 8 (List.replicate 48 0), extCnt := List.replicate 8 0, log := [], ck0 := Option.none,
    ck1 := Option.none, ck0Revoked := false, rb := List.replicate 8 0, challenge := Option.none, debugEnd := 0,
    sinceSeed := 0, healthFail := false, measureSel := [] }

def Update.reset : Update :=
  { schedAt := 0, due := false, resumed := false, copySeq := 0, activated := false, writing := Option.none,
    gather := Option.none, waiting := Option.none, refused := Option.none }

/-- Modules leave the factory with a CLEARED record of SEQ 1, SIGNER 0xFF, at the start of sector 0 (R531). -/
def Strata.reset : Strata :=
  { records := [⟨1, 0x01, 1, 0, 0, 8, [0, 0, 0, 0, 0xFF, 0, 0, 0, 0, 0, 0, 0, 0, 0, 0, 0], 0, Option.none⟩],
    opened := Option.none, recent := [], start := 0, sector := 0, offset := 40, queue := [], walking := false,
    toErase := [], challenge := Option.none }


/-- A medium at rest. -/
def Air.reset : Air :=
  { armed := .idle, winOpen := false, det := .none, bank := false, prof := 0, deferred := false, sending := Option.none,
    acking := false, await := Option.none, ackDue := Option.none, spanTo := 0, overTo := 0, since := 0, alarmRx := false, duty := [], dwell := [], inSvc := false,
    mode := 0, pwr := 0, afc := 0, score := 0, stampUs := 0, stampAsn := 0, phr := Option.none, fch := 0, rxMeta := [],
    rxFrame := Option.none, out := Option.none, psdu := [] }

def ChainSt.reset : ChainSt :=
  { hasCal := false, calDue := false, tempRun := false, tempNeed := false, tempWait := 0, tempStep := 0, tempBad := Option.none,
    lockFails := 0, subTx := [], lastLoss := [] }

def Radio.reset : Radio :=
  { airA := Air.reset, airB := Air.reset, airP := Air.reset, chA := ChainSt.reset, chB := ChainSt.reset, inForce := [],
    xoDue := Option.none, calling := Option.none }

def Plc.reset : Plc :=
  { slots := [], heard := [], noise := [], regions := List.replicate 16 0, inRun := 0, outRun := 0, missRun := 0, cross := 0,
    cut := 0 }

def Sched.reset : Sched :=
  { asn := 0, slotUs := 0, latches := [], hop := [], cells := [], nbrs := [], queue := [], nextNum := 1, move := 0,
    slew := 0, resyncs := [], polled := 0, pollDue := false, respTo := 0, respDue := false, bcLast := 2, bcCells := 0, bcSeq := 0,
    gasp := Option.none, origin := false, phase := 0, halted := false, stagedKey := [], bank := [] }

def Mesh.reset : Mesh :=
  { pset := [], results := [], target := Option.none, tries := 0, wait := false, sfOn := Option.none, archive := [],
    relays := [], badAddr := 0, root := 0, pair := false, bcasts := [], bseq := 0, buffer := [], scanning := false }

def AssocSt.reset : AssocSt :=
  { table := [], salt := Option.none, index := [], busy := false, live := false, snapA := Option.none, snapB := Option.none,
    snapLog := [], dirty := [] }

def MsgSt.reset : MsgSt :=
  { queue := [], nextNum := 1, peers := [], contexts := [], offers := [], open_ := [], rsps := [], fifo := [], cmd := Option.none,
    blocks := [], takes := [] }

def Pair.reset : Pair :=
  { txSeq := 0, rxSeq := 0, unacked := [], takeover := false, dual := false, primaryAsn := 0, copy := [], copyAll := 0,
    gated := [], offered := [], held := [], copied := false, hbSeq := 0, hbIn := false, hello := Option.none,
    helloOut := Option.none, beatOut := Option.none, reserve := [], resvWait := [], blockSeqs := [], recent := [],
    doubt := [], nbrsSent := [], handover := false, line := [] }


def Lamp.reset : Lamp :=
  { queue := [], nextNum := 1, cur := Option.none, results := [], measuring := false, pulse := Option.none,
    pend := Option.none, openAll := false, accumRev := 0, darkRun := 0, lightRun := 0, snaps := [], energy := [],
    said := [false, false, false, false], level := 0, startDue := false, openOn := Option.none }

def Nfc.reset : Nfc :=
  { fram := [], pwd := List.replicate 8 0, key := List.replicate 16 0, staged := [], shadow := Option.none, marker := false,
    checked := false, mam := false, locked := false, reply := Option.none, op := 0, base := 0, run := 0, held := false }


/-- A key slot that holds no key. -/
def KeySlot.empty : KeySlot := { idx := 0, valid := false, key := [], counter := 0, blockEnd := 0, nextEnd := 0 }
/-- Every stored field at its Reset value (the register tables of ch. 03 to 24, the header of R124, the owners of R139):
the fields whose Reset value is not 0, by address. -/
def Regs.reset : Regs :=
  [(128, 1), (256, 2), (512, 4294967280), (640, 12), (1280, 4320), (1408, 10), (1664, 1), (8320, 1), (8448, 2),
   (8704, 4294967295), (8832, 12), (9224, 8), (16512, 1), (16640, 2), (16896, 4294967295), (17024, 12), (24704, 1),
   (24832, 2), (25088, 4294967295), (25216, 12), (25984, 96000000), (32896, 1), (33024, 2), (33280, 4294967293),
   (34944, 10), (41088, 1), (41216, 2), (41472, 4294967295), (41600, 12), (131208, 1), (131584, 4294967295),
   (132608, 100), (139776, 4294967295), (140800, 100), (147968, 4294967295), (148992, 100), (156160, 4294967295),
   (157184, 100), (164352, 4294967295), (165376, 100)] ++
  [(172544, 4294967295), (173568, 100), (180736, 4294967295), (181760, 100), (188928, 4294967295), (189952, 100),
   (197120, 4294967295), (198144, 100), (205312, 4294967295), (206336, 100), (213504, 4294967295), (214528, 100),
   (221696, 4294967295), (222720, 100), (229888, 4294967295), (230024, 1), (237696, 1), (237824, 2),
   (238080, 4294967295), (238216, 1), (262272, 1), (262400, 2), (262656, 4294967295), (263168, 126), (263180, 1),
   (263186, 1), (263296, 126), (263308, 1), (263314, 1), (263424, 127), (263436, 1), (263552, 127), (263560, 1),
   (263564, 1), (263680, 127), (263688, 1), (263692, 1), (263808, 127), (263816, 1), (263820, 1)] ++
  [(263936, 127), (263944, 2), (263948, 1), (264064, 127), (264072, 2), (264076, 1), (264192, 127), (264200, 2),
   (264204, 1), (264320, 127), (264328, 3), (264332, 1), (264448, 127), (264456, 3), (264460, 1), (264576, 127),
   (264584, 3), (264588, 1), (264704, 127), (264712, 4), (264716, 1), (264832, 127), (264840, 4), (264844, 1),
   (264960, 127), (264968, 4), (264972, 1), (265088, 127), (265096, 5), (265100, 1), (265216, 127), (265224, 5),
   (265228, 1), (265344, 127), (265352, 5), (265356, 1), (265472, 127), (265480, 6), (265484, 1), (265600, 127)] ++
  [(265608, 6), (265612, 1), (265728, 127), (265736, 6), (265740, 1), (265856, 127), (265864, 7), (265868, 1),
   (265984, 127), (265992, 7), (265996, 1), (266112, 127), (266120, 7), (266124, 1), (266240, 127), (266248, 8),
   (266252, 1), (266368, 127), (266376, 8), (266380, 1), (266496, 127), (266504, 8), (266508, 1), (266624, 127),
   (266632, 9), (266636, 1), (266752, 127), (266760, 9), (266764, 1), (266880, 127), (266888, 9), (266892, 1),
   (267008, 127), (267016, 10), (267136, 127), (267144, 10), (270464, 1), (270592, 2), (270848, 4294967295),
   (271360, 127)] ++
  [(271368, 10), (271488, 127), (271496, 11), (271616, 127), (271624, 11), (271744, 127), (271752, 11), (271872, 127),
   (271880, 4), (271884, 1), (272000, 127), (272008, 4), (272012, 1), (272128, 127), (272136, 4), (272140, 1),
   (272256, 127), (272264, 4), (272268, 1), (272384, 127), (272392, 1), (272396, 1), (272512, 127), (272520, 2),
   (272524, 1), (272640, 127), (272648, 3), (272652, 1), (272768, 127), (272780, 1), (272896, 127), (272904, 12),
   (273024, 127), (273032, 12), (273152, 127), (273160, 12), (273280, 127), (273288, 12), (273408, 127), (273416, 10)] ++
  [(273536, 127), (273544, 10), (273664, 127), (273672, 11), (273792, 127), (273800, 11), (273920, 127), (273928, 6),
   (273932, 1), (274048, 127), (274056, 6), (274060, 1), (274176, 127), (274184, 8), (274188, 1), (274304, 127),
   (274312, 8), (274316, 1), (274432, 127), (274440, 9), (274444, 1), (274560, 127), (274568, 5), (274572, 1),
   (274688, 127), (274696, 12), (274816, 127), (274824, 12), (274944, 127), (274952, 12), (275072, 127), (275080, 12),
   (275200, 127), (275208, 10), (275328, 127), (275336, 11), (278656, 1), (278784, 2), (279040, 4294967295),
   (279572, 12)] ++
  [(279700, 12), (279828, 12), (279956, 12), (280084, 12), (280212, 12), (280340, 12), (280468, 12), (280596, 12),
   (280724, 12), (280852, 12), (280980, 12), (281108, 12), (281236, 12), (281364, 12), (281492, 12), (281620, 10),
   (281748, 10), (281876, 10), (282004, 10), (282132, 10), (282260, 10), (282388, 10), (282516, 10), (282644, 11),
   (282772, 11), (282900, 11), (283028, 11), (295040, 1), (295168, 2), (295424, 4294967295), (295960, 4), (297496, 4),
   (299032, 4), (300568, 4), (303232, 1), (303360, 2), (303616, 4294967295), (304152, 1), (305688, 2), (307224, 3)] ++
  [(311424, 1), (311552, 2), (311808, 4294967295), (312344, 12), (313880, 12), (315416, 12), (316952, 12), (319616, 1),
   (319744, 2), (320000, 4294967295), (320536, 10), (322072, 10), (323608, 11), (325144, 11), (327808, 1), (327936, 2),
   (328192, 4294967295), (328320, 12), (329984, 1), (344576, 4294967295), (346112, 1), (346136, 6), (346244, 33652736),
   (346624, 1), (346648, 6), (346756, 33652736), (347136, 1), (347160, 8), (347268, 33652736), (347648, 1),
   (347672, 8), (347780, 33652736), (348160, 1), (348184, 9), (348292, 33652736), (348672, 1), (348696, 5),
   (348804, 33652736), (349184, 1), (349208, 12)] ++
  [(349316, 33652736), (349696, 1), (349720, 12), (349828, 33652736), (352768, 4294967295), (354304, 1), (354328, 12),
   (354436, 33652736), (354816, 1), (354840, 12), (354948, 33652736), (355328, 1), (355352, 10), (355460, 33652736),
   (355840, 1), (355864, 11), (355972, 33652736), (356352, 1), (356376, 12), (356484, 33652736), (356864, 1),
   (356888, 12), (356996, 33652736), (357376, 1), (357400, 12), (357508, 33652736), (357888, 1), (357912, 12),
   (358020, 33652736), (393728, 4294967295), (393856, 12), (394240, 60), (394248, 128), (394752, 128), (394760, 128),
   (401920, 4294967295), (402048, 12), (402432, 40), (402440, 128), (402944, 128)] ++
  [(402952, 128), (410112, 4294967295), (418304, 4294967295), (418432, 1), (426496, 4294967295), (426624, 12),
   (427028, 1100), (427392, 171), (434688, 4294967295), (434816, 12), (435201, 1), (435202, 1), (435208, 25),
   (459264, 4294967295), (459392, 12), (459904, 63), (460032, 5475), (460160, 144), (460168, 144), (460176, 144),
   (460184, 144), (460288, 144), (460296, 144), (460416, 1), (460420, 7), (462848, 4), (462853, 1), (462856, 8),
   (462976, 128), (462984, 128), (463109, 1), (463112, 8), (463232, 128), (463240, 128), (463365, 1), (463368, 8),
   (463488, 128), (463496, 128), (463621, 1), (463624, 8)] ++
  [(463744, 128), (463752, 128), (463877, 1), (463880, 8), (464000, 128), (464008, 128), (464133, 1), (464136, 8),
   (464256, 128), (464264, 128), (464389, 1), (464392, 8), (464512, 128), (464520, 128), (464645, 1), (464648, 8),
   (464768, 128), (464776, 128), (464901, 1), (464904, 8), (465024, 128), (465032, 128), (465157, 1), (465160, 8),
   (465280, 128), (465288, 128), (465413, 1), (465416, 8), (465536, 128), (465544, 128), (465669, 1), (465672, 8),
   (465792, 128), (465800, 128), (465925, 1), (465928, 8), (466048, 128), (466056, 128), (466181, 1), (466184, 8)] ++
  [(466304, 128), (466312, 128), (466437, 1), (466440, 8), (466560, 128), (466568, 128), (466693, 1), (466696, 8),
   (466816, 128), (466824, 128), (475648, 4294967295), (475776, 12), (476168, 50), (483840, 4294967295), (483968, 12),
   (484352, 144), (484608, 256), (484624, 3), (484632, 1), (492032, 4294967295), (492160, 12), (492544, 3),
   (492552, 10), (492672, 2), (492678, 5), (492684, 9), (492690, 11), (492696, 17), (492800, 4), (492806, 7),
   (492812, 11), (492818, 13), (492824, 19), (492928, 6), (492934, 9), (492940, 13), (492946, 15), (492952, 21),
   (524800, 4294967295), (524928, 12)] ++
  [(525312, 30), (525320, 1), (525324, 1), (525328, 20), (525440, 400), (525456, 4000), (525584, 255), (525952, 3),
   (525960, 13), (525968, 32), (526080, 30), (526088, 8), (526224, 1), (526336, 1000), (526464, 1), (527360, 100),
   (527376, 1), (528536, 1), (528644, 7), (528648, 255), (528656, 1000), (532992, 4294967295), (533120, 12),
   (533512, 1), (533516, 5), (533632, 8), (533636, 6), (533640, 4), (533644, 3), (541184, 4294967295), (541312, 12),
   (541320, 1), (541696, 5), (557568, 4294967295), (557696, 12), (558080, 32), (558088, 1), (558104, 192),
   (558464, 65535), (558592, 60)] ++
  [(558600, 7), (558848, 60), (558856, 3), (560000, 16), (565760, 4294967295), (565888, 12), (566272, 1), (566280, 30),
   (566288, 64), (566296, 7), (567040, 60), (590336, 4294967295), (590464, 12), (590848, 400), (590864, 8),
   (590872, 30), (590976, 10), (590984, 8), (590992, 4320), (591104, 20), (591112, 4), (591120, 60), (591232, 60),
   (591240, 3), (591248, 1440), (591360, 120), (591368, 3), (591376, 1440), (591616, 65534), (623104, 4294967295),
   (623232, 12), (623616, 20), (623625, 2), (655872, 4294967295), (656000, 12), (656008, 1), (664064, 4294967295),
   (664192, 12), (664200, 1), (664712, 64)] ++
  [(672256, 4294967295), (672384, 12), (672392, 1), (680064, 1), (680192, 2), (680448, 4294967295),
   (688640, 4294967295), (688768, 12), (688776, 1), (721024, 1), (721152, 2), (721408, 4294967295), (721544, 1),
   (729216, 1), (729344, 2), (729600, 4294967295), (729728, 12), (730752, 1024), (730768, 1024), (753792, 1),
   (753920, 2), (754176, 4294967295), (754304, 12), (754688, 3600), (755584, 192), (755592, 7), (755968, 65536),
   (786944, 4294967295), (787072, 10), (787456, 1), (787457, 1), (795136, 4294967295), (795264, 10), (795648, 1),
   (795776, 1000), (795918, 1), (796032, 30), (796040, 1), (796048, 60), (796288, 2)] ++
  [(803328, 4294967295), (803456, 10), (803840, 2000), (803864, 60), (805632, 49152), (805648, 32768), (805760, 10),
   (811520, 4294967295), (811648, 10), (812033, 3), (812040, 20), (812048, 8), (812056, 10), (812161, 3), (812168, 20),
   (812176, 8), (812184, 10), (812289, 3), (812296, 20), (812304, 8), (812312, 10), (812417, 3), (812424, 20),
   (812432, 8), (812440, 10), (852480, 4294967295), (852608, 11), (852992, 1000), (853008, 1000), (853760, 16),
   (860672, 4294967295), (860800, 11), (861184, 1), (861186, 1), (868864, 4294967295), (868992, 11), (869376, 1),
   (869384, 10), (869392, 3), (869400, 60)] ++
  [(869504, 200), (869520, 20), (1040512, 1), (1040640, 2), (1040896, 4294967295), (1041024, 9)]

/-- Fault reasons: the hardware reports every fault of its own in its registers and goes on, so no command of the block
stops the model. -/
inductive Fault where
  /-- Raised by no command: kept so that the outcome type is inhabited. Safe: a stop proves nothing. -/
  | unreachable
  deriving DecidableEq, Repr

/-- Refusal reasons. -/
inductive Refusal where
  /-- A command whose meaning is not modelled, by its mnemonic. Safe. -/
  | notModelled (mnemonic : String)
  deriving DecidableEq, Repr

/-- The machine right after reset: in BOOT with POR set, every register at its Reset value, memory with nothing listed. -/
def State.reset : State :=
  { regs := Regs.reset, mode := .boot, modes := ModeSt.reset, bridge := Bridge.reset, supply := Supply.reset,
    ret := Retained.reset, doms := Domains.reset, spi := Spi.reset, compat := Compat.reset, engines := Engines.reset,
    cluster := Cluster.reset, fabric := Fabric.reset, rtc := Rtc.reset, dma := List.replicate 16 Channel.idle,
    flash := Flash.reset, garnet := Garnet.reset, update := Update.reset, strata := Strata.reset, mem := [],
    radio := Radio.reset, plc := Plc.reset, sched := Sched.reset,
    mesh := Mesh.reset, assoc := AssocSt.reset, msg := MsgSt.reset, pair := Pair.reset,
    keys := List.replicate 16 KeySlot.empty, lastRead := 0,
    lamp := Lamp.reset, nfc := Nfc.reset,
    freeCount := 0, pending := [] }

end Sys2Proof.Machine
end

