-- ==== Sys2Proof/Machine/RegOps.lean ====
section
/-!
DEFINITION. Reading and writing register fields: the one place where the field table of State is searched or changed.
-/

namespace Sys2Proof.Machine

/-- The value listed at a key; 0 where nothing is listed. -/
def Regs.look : Regs → Nat → Nat
  | [], _ => 0
  | (k, v) :: rest, key => bif Nat.beq k key then v else Regs.look rest key

/-- List a value at a key, before the first greater key. -/
def Regs.list (key v : Nat) : Regs → Regs
  | [] => [(key, v)]
  | (k, w) :: rest =>
    bif Nat.blt key k then (key, v) :: (k, w) :: rest
    else bif Nat.beq k key then (key, v) :: rest
    else (k, w) :: Regs.list key v rest

/-- Give a key a value, keeping keys rising; the value 0 is not listed. -/
def Regs.put (r : Regs) (key v : Nat) : Regs :=
  bif Nat.beq v 0 then r.filter (fun kv => !Nat.beq kv.1 key) else Regs.list key v r

/-- Keys strictly rising above `lo`, no value 0. -/
def Regs.wfFrom : Nat → Regs → Bool
  | _, [] => true
  | lo, (k, v) :: rest => Nat.ble lo k && !Nat.beq v 0 && Regs.wfFrom (k + 1) rest

/-- The canonical form of a field table. -/
def Regs.wf (r : Regs) : Bool := Regs.wfFrom 0 r

/-- A field's value. -/
def State.get (s : State) (f : Fld) : Nat := s.regs.look f.key

/-- A field's value as a flag. -/
def State.bit (s : State) (f : Fld) : Bool := !Nat.beq (s.get f) 0

/-- Write a field; the value is cut to the field's width. -/
def State.set (s : State) (f : Fld) (v : Nat) : State :=
  { s with regs := s.regs.put f.key (v % 2 ^ f.width) }

/-- Write a one-bit field. -/
def State.setBit (s : State) (f : Fld) (b : Bool) : State := s.set f (bif b then 1 else 0)

/-- Write several fields, first to last. -/
def State.setAll (s : State) : List (Fld × Nat) → State
  | [] => s
  | (f, v) :: rest => (s.set f v).setAll rest

/-- Count up, saturating at the field's largest value. -/
def State.bump (s : State) (f : Fld) (n : Nat := 1) : State :=
  s.set f (min (s.get f + n) (2 ^ f.width - 1))

/-- Count up, wrapping. -/
def State.bumpWrap (s : State) (f : Fld) (n : Nat := 1) : State := s.set f (s.get f + n)

/-- An update made only where a condition holds. -/
def State.onlyIf (s : State) (b : Bool) (f : State → State) : State := bif b then f s else s

/-- A list of updates made one after another. -/
def State.each {α : Type} (s : State) (l : List α) (f : α → State → State) : State :=
  l.foldl (fun t a => f a t) s

/-- The next free value: an uninterpreted value, the counter that numbers it advanced. -/
def State.fresh (s : State) : State := { s with freeCount := s.freeCount + 1 }

end Sys2Proof.Machine
end

