-- ==== Sys2Proof/Machine/Ops.lean ====
section
/-!
DEFINITION. The named operations every family shares: engines by index, domain states, the event fabric (R423-R431),
interrupt flags and their taps (R9, R125, R425), refusals (R135) and byte access to the memories (R28, R29).
-/

namespace Sys2Proof.Machine

/-! ### Common reason codes (R134) -/

namespace RC

abbrev NOT_OWNER : Nat := 0x01
abbrev SECURE_DENY : Nat := 0x02
abbrev LOCKED : Nat := 0x03
abbrev BOOTING : Nat := 0x04
abbrev NO_SITE : Nat := 0x05
abbrev DOMAIN_OFF : Nat := 0x06
abbrev BAD_VALUE : Nat := 0x07
abbrev CONFLICT : Nat := 0x08
abbrev NO_RESOURCE : Nat := 0x09
abbrev DEP_DISABLED : Nat := 0x0A
abbrev DEP_ENABLED : Nat := 0x0B
abbrev MODE : Nat := 0x0C
abbrev BUSY : Nat := 0x0D
abbrev UNMAPPED : Nat := 0x0E
abbrev WIN_RO : Nat := 0x0F
abbrev WIN_UNMAPPED : Nat := 0x10
abbrev BAD_SITE : Nat := 0x11
abbrev NOT_SUPPORTED : Nat := 0x12
abbrev BURST : Nat := 0x13
abbrev WFIFO_FULL : Nat := 0x14
abbrev NOT_ASSIGNABLE : Nat := 0x15
abbrev NO_IMAGE : Nat := 0x16

end RC

/-! ### Engines by index -/

/-- Engine `k` of the twelve (R22); an index above 11 names E11. -/
def Engines.get (es : Engines) : Nat → Engine
  | 0 => es.e0 | 1 => es.e1 | 2 => es.e2 | 3 => es.e3 | 4 => es.e4 | 5 => es.e5
  | 6 => es.e6 | 7 => es.e7 | 8 => es.e8 | 9 => es.e9 | 10 => es.e10 | _ => es.e11

/-- Replace engine `k`; an index above 11 replaces E11. -/
def Engines.put (es : Engines) (k : Nat) (e : Engine) : Engines :=
  match k with
  | 0 => { es with e0 := e } | 1 => { es with e1 := e } | 2 => { es with e2 := e }
  | 3 => { es with e3 := e } | 4 => { es with e4 := e } | 5 => { es with e5 := e }
  | 6 => { es with e6 := e } | 7 => { es with e7 := e } | 8 => { es with e8 := e }
  | 9 => { es with e9 := e } | 10 => { es with e10 := e } | _ => { es with e11 := e }

/-- Engine `k` in a state. -/
def State.eng (s : State) (k : Nat) : Engine := s.engines.get k

/-- Replace engine `k` in a state. -/
def State.setEng (s : State) (k : Nat) (e : Engine) : State := { s with engines := s.engines.put k e }

/-- Change engine `k` in a state. -/
def State.modEng (s : State) (k : Nat) (f : Engine → Engine) : State := s.setEng k (f (s.eng k))

/-! ### Domains -/

/-- PWR.DOMSTAT code of domain `k`: 0 OFF, 1 RETENTION, 2 ON, 3 IN_TRANSITION. -/
def State.dom (s : State) (k : Nat) : Nat := s.get (R.PWR.DOMSTAT k)

/-- Domain `k` is ON. -/
def State.domOn (s : State) (k : Nat) : Bool := Nat.beq (s.dom k) 2

/-- Domain `k` refuses to wake from OFF on an access, by E0's NOWAKE (R101). -/
def State.noWake (s : State) (k : Nat) : Bool := (s.get R.PWR.NOWAKE_MAP).testBit k

/-- Domain `k` is on its way into RETENTION or OFF by a command (R111). -/
def State.entered (s : State) (k : Nat) : Bool := s.doms.entering.any (fun e => Nat.beq e.1 k)

/-- The XO starts when a wake or a request finds it stopped (R108, R119). -/
def State.startXo (s : State) : State :=
  bif s.bit R.CLK.STAT_XO_ON then s else (s.set R.CLK.STAT_XO_ON 1).bump R.CLK.STARTS_COUNT

/-- The fast clocks start when a wake finds them stopped (R108, R119, R120): the XO, then the PLL; stitched counting ends (R121). -/
def State.startClocks (s : State) : State :=
  bif s.bit R.CLK.STAT_PLL_LOCK then s
  else s.startXo.setAll [(R.CLK.STAT_XO_OK, 1), (R.CLK.STAT_PLL_LOCK, 1), (R.CLK.STAT_STITCHING, 0)]

/-- An abandoned entry is counted (R113). -/
def State.abortCount (s : State) (k pt : Nat) : State :=
  (s.bump R.PWR.ABORTS_COUNT).setAll [(R.PWR.ABORTS_LASTPT, pt), (R.PWR.ABORTS_LASTIDX, k)]

/-- Domain `k` is in no entry any more. -/
def State.endEntry (s : State) (k : Nat) : State :=
  { s with doms := { s.doms with entering := s.doms.entering.filter (fun e => !Nat.beq e.1 k) } }

/-- A wake event meets domain `k` in its entry and abandons it at point `pt`: the domain is ON as if the entry had never started
(R111, R113). -/
def State.abandonEntry (s : State) (k pt : Nat) : State := ((s.endEntry k).abortCount k pt).set (R.PWR.DOMSTAT k) 2

/-- A wake event reaches domain `k` (R107, R108, R111): from RETENTION, or from a wake under way, it is ON with the fast clocks running;
an entry is abandoned at P1. From OFF this wakes nothing. -/
def State.wakeDomain (s : State) (k src : Nat) : State :=
  bif Nat.beq (s.dom k) 1 then
    s.startClocks.setAll [(R.PWR.DOMSTAT k, 2), (R.PWR.WAKESRC_SRC, src), (R.PWR.WAKESRC_IDX, k)]
  else bif Nat.beq (s.dom k) 3 then
    bif s.entered k then s.abandonEntry k 1 else s.startClocks.set (R.PWR.DOMSTAT k) 2
  else s

/-! ### Byte memories -/

/-- A byte of a memory whose unlisted addresses read as `dflt`. -/
def Memory.look (dflt : Byte) : Memory → Nat → Byte
  | [], _ => dflt
  | (k, v) :: rest, a => bif Nat.beq k a then v else Memory.look dflt rest a

/-- List a byte at an address, before the first greater address. -/
def Memory.list (a : Nat) (v : Byte) : Memory → Memory
  | [] => [(a, v)]
  | (k, w) :: rest =>
    bif Nat.blt a k then (a, v) :: (k, w) :: rest
    else bif Nat.beq k a then (a, v) :: rest
    else (k, w) :: Memory.list a v rest

/-- Store a byte, keeping addresses rising and listing no byte equal to `dflt`. -/
def Memory.store (dflt : Byte) (m : Memory) (a : Nat) (v : Byte) : Memory :=
  bif v == dflt then m.filter (fun c => !Nat.beq c.1 a) else Memory.list a v m

/-- Addresses strictly rising from `lo`, no byte equal to `dflt`. -/
def Memory.wfFrom (dflt : Byte) : Nat → Memory → Bool
  | _, [] => true
  | lo, (k, v) :: rest => Nat.ble lo k && !(v == dflt) && Memory.wfFrom dflt (k + 1) rest

/-- The canonical form of a memory. -/
def Memory.wf (dflt : Byte) (m : Memory) : Bool := Memory.wfFrom dflt 0 m

/-- Store bytes at rising addresses. -/
def Memory.storeList (dflt : Byte) (m : Memory) (a : Nat) : List Byte → Memory
  | [] => m
  | b :: bs => Memory.storeList dflt (Memory.store dflt m a b) (a + 1) bs

/-- `n` bytes from an address. -/
def Memory.lookList (dflt : Byte) (m : Memory) (a n : Nat) : List Byte :=
  (List.range n).map (fun i => Memory.look dflt m (a + i))

/-- Drop every cell of an address range: its bytes read as the unlisted value. -/
def Memory.clearRange (m : Memory) (lo hi : Nat) : Memory := m.filter (fun c => Nat.blt c.1 lo || Nat.ble hi c.1)

/-- A byte of shared SRAM (system address); unlisted bytes read 0. -/
def State.sram (s : State) (a : Nat) : Byte := s.mem.look 0 a

/-- `n` bytes of shared SRAM. -/
def State.sramList (s : State) (a n : Nat) : List Byte := s.mem.lookList 0 a n

/-- Store bytes in shared SRAM. -/
def State.sramStore (s : State) (a : Nat) (bs : List Byte) : State :=
  { s with mem := s.mem.storeList 0 a bs }

/-- Shared SRAM bank of domain 1-4: its first address (R29). -/
def bankBase (k : Nat) : Nat := 0x20000000 + 0x80000 * (k - 1)

/-- The domain of the bank that holds an address of shared SRAM. -/
def bankOf (a : Nat) : Nat := 1 + (a - 0x20000000) / 0x80000

/-- An access wakes the bank of domain `k` (R101, R102, R107, R111): from RETENTION or its entry it keeps its contents, from OFF it is
cleared first, unless it is held OFF. Answers whether it serves the access. -/
def State.wakeBank (s : State) (k src : Nat) : State × Bool :=
  let cold := Nat.beq (s.dom k) 0 || s.doms.fromOff.any (Nat.beq k)
  bif s.domOn k then (s, true)
  else bif Nat.beq (s.dom k) 0 && s.noWake k then (s, false)
  else bif cold then
    ({ s.startClocks with mem := s.mem.clearRange (bankBase k) (bankBase k + 0x80000),
                          doms := { s.doms with fromOff := s.doms.fromOff.filter (fun j => !Nat.beq j k) } }.setAll
      [(R.PWR.DOMSTAT k, 2), (R.PWR.WAKESRC_SRC, src), (R.PWR.WAKESRC_IDX, k)], true)
  else (s.wakeDomain k src, true)

/-- The address range lies in bank 3, the host-writable bank (R29). -/
def inBank3 (a n : Nat) : Bool := Nat.ble 0x20180000 a && Nat.ble (a + n) 0x20200000

/-- The address range lies in engine `k`'s slice of shared SRAM (R378). -/
def inSlice (k a n : Nat) : Bool :=
  Nat.ble (0x200DC000 + 0x3000 * k) a && Nat.ble (a + n) (0x200DC000 + 0x3000 * k + 0x3000)

/-! ### DMA descriptors (R462-R466) -/

/-- Bytes of an access of width code `w`: 8, 16, 32, 64 bits. -/
def widthBytes (w : Nat) : Nat := 2 ^ w

/-- A little-endian word of shared SRAM. -/
def State.sramWord (s : State) (a : Nat) : Nat :=
  (s.sram a).toNat + 2 ^ 8 * (s.sram (a + 1)).toNat + 2 ^ 16 * (s.sram (a + 2)).toNat + 2 ^ 24 * (s.sram (a + 3)).toNat

/-- The address lies in shared SRAM, or in the Shale space (R28, R6). -/
def inSram (a : Nat) : Bool := Nat.ble 0x20000000 a && Nat.blt a 0x20200000
def inShale (a : Nat) : Bool := Nat.ble 0x40000000 a && Nat.blt a 0x40010000

def Desc.sw (d : Desc) : Nat := d.ctl / 2 % 4
def Desc.dw (d : Desc) : Nat := d.ctl / 8 % 4
def Desc.sinc (d : Desc) : Bool := d.ctl.testBit 5
def Desc.dinc (d : Desc) : Bool := d.ctl.testBit 6
def Desc.trig (d : Desc) : Bool := d.ctl.testBit 7

/-- The widths that an address allows (R463): 32 bits in the Shale space, 64 bits in shared SRAM only. -/
def widthOk (a w : Nat) : Bool := (!inShale a || Nat.beq w 2) && (!Nat.beq w 3 || inSram a)

/-- The checks of a descriptor in order (R463): 0 when all pass, else the reason. LEN is 24 bits of its word; the rest is reserved. -/
def Desc.check (d : Desc) : Nat :=
  let big := widthBytes (max d.sw d.dw)
  let len := d.len % 2 ^ 24
  bif Nat.beq len 0 || !Nat.beq (len % big) 0 then 0x40
  else bif !Nat.beq (d.src % widthBytes d.sw) 0 || !Nat.beq (d.dst % widthBytes d.dw) 0 then 0x41
  else bif !widthOk d.src d.sw || !widthOk d.dst d.dw then 0x42
  else bif !Nat.beq (d.ctl / 2 ^ 17) 0 || !Nat.beq (d.ctl / 2 ^ 11 % 32) 0 || !Nat.beq (d.len / 2 ^ 24) 0 then 0x42
  else 0

/-- A refused access is noted for its requester (R135, R142): in HOSTIF.LASTREF and the status bit ERR for the host (12), on the ENG page
for an engine. -/
def State.noteRefusal (s : State) (who reason addr : Nat) (wr : Bool) : State :=
  let w := bif wr then 1 else 0
  bif Nat.beq who 12 then
    { (s.setAll [(R.HOSTIF.LASTREF_REASON, reason), (R.HOSTIF.LASTREF_ADDR, addr), (R.HOSTIF.LASTREF_WR, w)]).bump R.HOSTIF.REFCNT_COUNT
      with spi := { s.spi with err := true } }
  else
    (s.setAll [(R.ENG.LASTREF_REASON who, reason), (R.ENG.LASTREF_ADDR who, addr), (R.ENG.LASTREF_WR who, w)]).bump
      (R.ENG.REFCNT_COUNT who)

/-- The flag of a noted refusal. -/
def refusalFlag (who : Nat) : Nat × Nat := bif Nat.beq who 12 then (0x01, 0) else (0x10 + who, 2)

/-- An access by `who` to a bank that is held OFF is noted (R101): the flags it sets are those of the requester and PWR's OFFACC. -/
def State.noteBankOff (s : State) (who sys : Nat) (wr : Bool) : State × List (Nat × Nat) :=
  ((s.noteRefusal who 0x06 (sys % 65536) wr).set (R.HDR.ERRINFO 0x02) sys, [refusalFlag who, (0x02, 0)])

/-- The address of the descriptor that channel `c` stands at (R462). -/
def State.descAddr (s : State) (c : Nat) : Nat := 16 * s.get (R.DMA.RING_BASE c) + 16 * s.get (R.DMA.STAT_IDX c)

/-- Channel `c` fetches the descriptor at its index (R463, R466), which wakes the ring's bank (R107); from a bank held OFF it reads 0
(R101). Answers the IRQ_STAT bits that it sets: DERR, or REF and PWR's OFFACC. -/
def State.dmaFetch (s : State) (c : Nat) : State × List (Nat × Nat) :=
  let a := s.descAddr c
  let b := s.wakeBank (bankOf a) 0
  let s := b.1
  let d : Desc := ⟨s.sramWord a, s.sramWord (a + 4), s.sramWord (a + 8), s.sramWord (a + 12)⟩
  let bad := d.check
  let held := (s.dma.getD c Channel.idle).trig
  bif !b.2 then
    let r := s.noteBankOff (s.get (R.DMA.CFG_OWNER c)) a false
    ((r.1.setAll [(R.DMA.STAT_ST c, 1), (R.DMA.REFADDR_ADDR, a)]).bump R.DMA.CNT_REFCNT, (0x2A, 17) :: r.2)
  else bif !d.ctl.testBit 0 then (s.set (R.DMA.STAT_ST c) 1, [])
  else bif !Nat.beq bad 0 then
    ((s.set (R.DMA.STAT_ST c) 4).set (R.DMA.STAT_REASON c) bad, [(0x2A + c / 8, 8 + c % 8)])
  else
    let starts := !d.trig || held
    let s := { s with dma := s.dma.modify c (fun ch =>
      { ch with desc := some d, done := 0, refSeen := false, trig := ch.trig && !d.trig }) }
    (s.set (R.DMA.STAT_ST c) (bif starts then 3 else 2), [])

/-- A trigger reaches channel `c` (R426, R466): held, and taken at once by a channel that waits for it; an idle channel
fetches again. The first list is empty when the trigger finds one already held. -/
def State.dmaTrigger (s : State) (c : Nat) : State × List (Nat × Nat) × Bool :=
  bif (s.dma.getD c Channel.idle).trig then (s, [], true)
  else
    let t := { s with dma := s.dma.modify c (fun ch => { ch with trig := true }) }
    let st := s.get (R.DMA.STAT_ST c)
    bif Nat.beq (s.get (R.HDR.BLK 0x2A)) 1 then (t, [], false)
    else bif Nat.beq st 2 then
      ({ t with dma := t.dma.modify c (fun ch => { ch with trig := false }) }.set (R.DMA.STAT_ST c) 3, [], false)
    else bif Nat.beq st 1 then
      let r := t.dmaFetch c
      (r.1, r.2, false)
    else (t, [], false)

/-! ### Events (R423-R431) -/

/-- IRQ_STAT bits of the event pages that mirror OVR: EVT0 for inputs 0-31, EVT1 for 32-63. -/
def ovrPage (n : Nat) : Nat := 0x20 + n / 32

/-- An engine event port takes an event: its domain wakes (R107), PEND is set, and an enabled pending input ends WAIT (R395, R428). -/
def State.pendInput (s : State) (n : Nat) : State :=
  let k := n / 3
  let s := (s.wakeDomain (5 + k) 1).set (R.EVT.SEL_PEND n) 1
  let e := s.eng k
  bif decide (e.run = .waiting) && e.wakeEn.getLsbD (n % 3) then s.setEng k { e with run := .running } else s

/-- The timer of a capture input takes the count (R438). -/
def State.capture (s : State) (i count : Nat) (lf : Bool) : State :=
  ((s.set (R.TIM.CAP_VALUE i) count).set (R.TIM.STAT_CAPFULL i) 1).setBit (R.TIM.STAT_CAPLF i) lf

/-- IRQ_STAT bits set one after another, without their taps. -/
def State.flags (s : State) : List (Nat × Nat) → State
  | [] => s
  | (p, b) :: rest => (s.set (R.HDR.IRQ p b) 1).flags rest

/-- An event reaches input `n` (R426, R427, R438); `cap` gives the count a capture takes and whether it is of LF
resolution. Answers the IRQ_STAT bits that the event sets: OVR of the input, CAP and CAPOVR of the timer, DERR of the channel. -/
def State.deliver (s : State) (n : Nat) (cap : Nat → Nat × Bool) : State × List (Nat × Nat) :=
  let ovr := (ovrPage n, n % 32)
  bif Nat.blt n 2 then (s, [])
  else bif Nat.blt n 36 then
    bif s.bit (R.EVT.SEL_PEND n) then (s.set (R.EVT.SEL_OVR n) 1, [ovr]) else (s.pendInput n, [])
  else bif Nat.blt n 52 then
    let i := n - 36
    let t := 8 * (i % 4)
    let full := s.bit (R.TIM.STAT_CAPFULL i)
    let s := s.capture i (cap i).1 (cap i).2
    bif full then ((s.set (R.TIM.STAT_CAPOVR i) 1).set (R.EVT.SEL_OVR n) 1, [ovr, (0x24 + i / 4, t + 1), (0x24 + i / 4, t + 2)])
    else (s, [(0x24 + i / 4, t + 1)])
  else
    let c := n - 52
    let r := s.dmaTrigger c
    bif r.2.2 then (s.set (R.EVT.SEL_OVR n) 1, [ovr]) else (r.1, r.2.1)

/-- The taps that watch bit `b` of page `p` (R425), as their producers' codes. -/
def State.tapsOf (s : State) (p b : Nat) : List Nat :=
  ((List.range 32).filter (fun k =>
    s.bit (R.EVT.TAP_EN k) && Nat.beq (s.get (R.EVT.TAP_PAGE k)) p && Nat.beq (s.get (R.EVT.TAP_BIT k)) b)).map (64 + ·)

/-- The inputs that select producer `p`. -/
def State.inputsOf (s : State) (p : Nat) : List Nat :=
  (List.range 64).filter (fun n => Nat.beq (s.get (R.EVT.SEL_SRC n)) p)

/-- Pulse producers one after another. The IRQ_STAT bits that an event sets may be tapped (R125), so a pulse may cause
further pulses; `fuel` bounds that cascade. -/
def State.pulse (cap : Nat → Nat × Bool) : Nat → List Nat → State → State
  | 0, _, s => s
  | _, [], s => s
  | fuel + 1, p :: ps, s =>
    let r := (s.inputsOf p).foldl (fun (acc : State × List (Nat × Nat)) n =>
      let d := acc.1.deliver n cap
      (d.1, acc.2 ++ d.2)) (s, [])
    let t := r.1.flags r.2
    State.pulse cap fuel (ps ++ r.2.flatMap (fun pb => t.tapsOf pb.1 pb.2)) t

/-- The counts the timers hold now. -/
def State.counts (s : State) : List Nat := (List.range 16).map (fun i => s.get (R.TIM.CNT_COUNT i))

/-- A producer fires while CORE is ON (R423). -/
def State.fireNow (s : State) (p : Nat) : State :=
  State.pulse (fun i => (s.get (R.TIM.CNT_COUNT i), false)) 16 [p] s

/-- A wake of CORE and ENG0 (R107). CORE is OFF in HOLD only, and there nothing but the table of R78 wakes it. -/
def State.wakeCore (s : State) (src : Nat) : State :=
  bif Nat.beq (s.dom 0) 0 then s else (s.wakeDomain 5 src).wakeDomain 0 src

/-- A QUARTZ producer fires while CORE is not ON (R424): it is latched with the counts of its LF edge and wakes CORE; firing again before
delivery adds nothing, and sets the bit of QLOST that producers 32-63 have. -/
def State.latchEvent (s : State) (p : Nat) : State :=
  bif s.fabric.latched.any (fun l => Nat.beq l.producer p) then
    bif Nat.ble 32 p && Nat.blt p 64 then s.set R.EVT.QLOST_MAP (s.get R.EVT.QLOST_MAP ||| 2 ^ (p - 32)) else s
  else ({ s with fabric := { s.fabric with latched := s.fabric.latched ++ [⟨p, s.counts⟩] } } : State).wakeDomain 0 1

/-- A producer fires (R423, R424). A Quartz producer (32-50) that fires while CORE is not ON is latched. A producer that comes over the
bridge (31, 51-53) wakes CORE and is raised when CORE is ON. A CORE producer fires only while CORE is ON. -/
def State.fire (s : State) (p : Nat) : State :=
  bif s.domOn 0 then s.fireNow p
  else bif Nat.ble 32 p && Nat.ble p 50 then s.latchEvent p
  else bif (Nat.beq p 31 || (Nat.ble 51 p && Nat.ble p 53)) && !Nat.beq (s.dom 0) 0 then (s.wakeDomain 0 1).fireNow p
  else s

/-- Pages whose flags QUARTZ raises (R98): PWR, RTC, MICA, DIN and CSENSE. -/
def quartzPage (p : Nat) : Bool :=
  Nat.beq p 0x02 || Nat.beq p 0x28 || Nat.beq p 0x34 || Nat.beq p 0x63 || Nat.beq p 0x6A

/-- Hardware or a serving engine sets an IRQ_STAT bit; its taps fire even when the bit is already 1 (R125, R425). While CORE is not ON
its event outputs are clamped (R98): a tap of a QUARTZ page is latched as a QUARTZ producer is, another fires nothing (R424). -/
def State.raise (s : State) (p b : Nat) : State :=
  let s := s.set (R.HDR.IRQ p b) 1
  bif s.domOn 0 then State.pulse (fun i => (s.get (R.TIM.CNT_COUNT i), false)) 16 (s.tapsOf p b) s
  else bif quartzPage p then s.each (s.tapsOf p b) (fun t u => u.latchEvent t)
  else s

/-- Raise only where a condition holds. -/
def State.raiseIf (s : State) (c : Bool) (p b : Nat) : State := bif c then s.raise p b else s

/-! ### Refusals -/

/-- A refusal of an operation that the requester is entitled to attempt: STATE.REASON and ERRINFO of the page (R135). -/
def State.refuse (s : State) (p reason info : Nat) : State :=
  (s.set (R.HDR.REASON p) reason).set (R.HDR.ERRINFO p) info

/-- A refusal of the access itself: recorded in HOSTIF.LASTREF for the host (requester 12) and on the ENG page for an
engine (R135, R142). -/
def State.refuseAccess (s : State) (who reason addr : Nat) (wr : Bool) : State :=
  (s.noteRefusal who reason addr wr).raise (refusalFlag who).1 (refusalFlag who).2

/-- `n` fresh free bytes: random draws (R491) and contents that the spec does not state. -/
def State.freeBytes (s : State) (n : Nat) : List Byte :=
  (List.range n).map (fun i => Config.freeByte (s.freeCount + i))

/-- The free bytes of `freeBytes n` are spent. -/
def State.spend (s : State) (n : Nat) : State := { s with freeCount := s.freeCount + n }

/-! ### Wake conditions of an engine (R395) -/

/-- A waiting engine goes on, and its domain leaves RETENTION, with CORE, whose fabric it needs (R106, R107, R395). -/
def State.wakeEngine (s : State) (k : Nat) : State :=
  let s := s.modEng k (fun e => bif decide (e.run = .waiting) then { e with run := .running } else e)
  (s.wakeDomain 0 1).wakeDomain (5 + k) 1

/-! ### Mailbox messages (R413, R414) -/

/-- Word 0 with the sender's own index in SRC. -/
def Mail.from (m : Mail) (k : Nat) : Mail := { m with w0 := (m.w0 &&& 0xFFFFFFF0#32) ||| BitVec.ofNat 32 (k % 16) }

/-- SRC, TYPE and TAG of word 0. -/
def Mail.src (m : Mail) : Nat := m.w0.toNat % 16
def Mail.type (m : Mail) : Nat := m.w0.toNat / 256 % 256
def Mail.tag (m : Mail) : Nat := m.w0.toNat / 65536

/-- A message enters an inbound mailbox, unless the destination is none, or full (R413). Answers TXST: 0 SENT, 1 FULL,
2 NO_ENGINE. -/
def State.deliverMail (s : State) (dest : Nat) (m : Mail) : State × Nat :=
  bif Nat.blt 11 dest || !((s.eng dest).image || Nat.beq dest 0) then (s, 2)
  else bif Nat.ble 8 (s.eng dest).mailbox.length then (s, 1)
  else ((s.modEng dest (fun e => { e with mailbox := e.mailbox ++ [m] })).wakeEngine dest, 0)

/-- A message of type `t`, tag `tag` and data words. -/
def Mail.mk4 (src t tag w1 w2 w3 w4 : Nat) : Mail :=
  ⟨BitVec.ofNat 32 (src % 16 + 256 * (t % 256) + 65536 * (tag % 65536)), BitVec.ofNat 32 w1, BitVec.ofNat 32 w2,
   BitVec.ofNat 32 w3, BitVec.ofNat 32 w4⟩

/-- A serving engine answers a requester by mailbox. -/
def State.answer (s : State) (src dest t tag w1 w2 w3 w4 : Nat) : State :=
  (s.deliverMail dest (Mail.mk4 src t tag w1 w2 w3 w4)).1

/-! ### YN4100 indications (R157, R158) -/

/-- SYS.MODE's code of a mode. -/
def Mode.code : Mode → Nat
  | .hold => 1 | .outage => 2 | .commission => 3 | .service => 4 | .maintenance => 5 | .boot => 0xF
  | .unpowered => 0 | .field => 0

/-- The word of SYS.MODE. -/
def State.modeWord (s : State) : Nat := s.mode.code + 16 * s.get R.SYS.MODE_PREV + 256 * s.get R.SYS.MODE_CAUSE

/-- Waiting indications enter the queue of 16 as it has room, each with the next SEQ. -/
def Compat.fill (c : Compat) : Compat :=
  c.waiting.foldl (fun c f =>
    bif Nat.blt c.queue.length 16 then
      { c with queue := c.queue ++ [{ f with seq := c.nextSeq }], nextSeq := (c.nextSeq + 1) % 256, waiting := c.waiting.drop 1 }
    else c) c

/-- An indication of E9 in compatibility mode. -/
def State.indicate (s : State) (cmd : Nat) (payload : List Byte) : State :=
  bif s.supply.compatSel then
    { s with compat := ({ s.compat with waiting := s.compat.waiting ++ [⟨0, cmd, payload⟩] } : Compat).fill }
  else s

/-- The ALARM indication: mains loss, mains return or fault escalation; its cause codes are not stated. -/
def State.indicateAlarm (s : State) : State := bif s.supply.compatSel then (s.indicate 0xC1 (s.freeBytes 1)).spend 1 else s

end Sys2Proof.Machine
end

