-- ==== Sys2Proof/Machine/Recorder.lean ====
section
/-!
DEFINITION. The Strata recorder's shared operation: taking one submission (R524-R531), which faults, verification,
storage and the host all use.
-/

namespace Sys2Proof.Machine

/-- Octets 0-7 of a body: the record's key (R525). -/
def strataKey (body : List Byte) : List Byte := slice body 0 8

/-- The stored form of a record: header, body, CRC-16, padding to 8 bytes (R524). -/
def StrataRec.bytes (r : StrataRec) : List Byte :=
  let hb := leBytes 4 r.seq ++ leBytes 1 r.type ++ leBytes 1 (r.body.length - 1) ++ leBytes 2 r.reps ++
    leBytes 4 r.opsec ++ leBytes 3 r.pwrcyc ++ leBytes 1 r.src ++ r.body
  let all := hb ++ leBytes 2 (crc16 hb).toNat
  all ++ List.replicate ((8 - all.length % 8) % 8) 0xFF

/-- Bytes a record with a body of `n` bytes occupies: 16 + n + 2, rounded up to 8 (R524). -/
def strataSize (n : Nat) : Nat := (18 + n + 7) / 8 * 8

/-- Close the open record: it is programmed, and its key joins the 32 most recent (R527, R528). -/
def State.strataClose (s : State) : State :=
  match s.strata.opened with
  | none => s
  | some r =>
    let keys : List StrataKey := match r.names with
      | some _ => s.strata.recent
      | none => (⟨r.type, r.src, strataKey r.body, r.seq⟩ :: s.strata.recent).take 32
    (({ s with strata := { s.strata with opened := none, records := s.strata.records ++ [r], recent := keys } }.bump
      R.STRATA.CNT_RECORDS).bumpWrap R.STRATA.WSEQ_COUNT).set R.STRATA.STAT_OPEN 0

/-- Bank 1 loses power: the open record and the key table are lost (R529). -/
def State.strataLoss (s : State) : State := { s with strata := { s.strata with opened := none, recent := [] } }

/-- A submission is refused for want of room: LOST counts it (R531). -/
def State.strataLose (s : State) : State :=
  ((s.bump R.STRATA.LOST_COUNT).refuse 0x5C 0x40 0).raise 0x5C 1

/-- Nothing but a clear ends a full partition; a record of `size` bytes fills it that would need the reserved sector before the start
sector, or a SEQ of 0xFFFF_FFFF (R530, R531). -/
def State.strataFull (s : State) (size : Nat) : Bool :=
  s.bit R.STRATA.STAT_FULL || Nat.ble 0xFFFFFFFF (s.get R.STRATA.NEXT_SEQ) ||
    (Nat.blt 4096 (s.strata.offset + size) &&
      Nat.beq ((s.strata.sector + 1) % 1024) ((s.strata.start + 1023) % 1024))

/-- Open a record, closing the open one: it takes the next SEQ and its place after the last one (R527, R530). The second
answer is its SEQ, 0 when the recorder is full. -/
def State.strataOpen (s : State) (sub : Submission) (names : Option (Nat × Nat × List Byte)) : State × Nat :=
  let size := strataSize sub.body.length
  bif s.strataFull size then (((s.set R.STRATA.STAT_FULL 1).raise 0x5C 0).strataLose, 0)
  else
    let s := s.strataClose
    let moves := Nat.blt 4096 (s.strata.offset + size)
    let sector := bif moves then (s.strata.sector + 1) % 1024 else s.strata.sector
    let offset := bif moves then 0 else s.strata.offset
    let seq := s.get R.STRATA.NEXT_SEQ
    let r : StrataRec := ⟨seq, sub.type, 1, s.get R.SYS.OPSEC_SEC, s.get R.SYS.PWRCYC_COUNT,
      sub.src, sub.body, sector, names⟩
    ((({ s with strata := { s.strata with opened := some r, sector := sector, offset := offset + size } }.setAll
      [(R.STRATA.STAT_OPEN, 1), (R.STRATA.NEXT_SEQ, seq + 1)]).bumpWrap R.STRATA.WSEQ_COUNT).onlyIf
      moves (·.bump R.STRATA.STAT_SECTORS), seq)

/-- The occurrence is the same event as the open record, or as the record that an open REPEAT record names (R525,
R527, R528). -/
def StrataRec.counts (r : StrataRec) (sub : Submission) : Bool :=
  match r.names with
  | some (t, c, k) => Nat.beq t sub.type && Nat.beq c sub.src && k == strataKey sub.body
  | none => Nat.beq r.type sub.type && Nat.beq r.src sub.src && strataKey r.body == strataKey sub.body

/-- The recorder takes one submission (R527, R528); the second answer is the SEQ of the record that counts it, or 0. -/
def State.strataTake (s : State) (sub : Submission) : State × Nat :=
  let fresh (s : State) : State × Nat :=
    match s.strata.recent.find? (fun k => Nat.beq k.type sub.type && Nat.beq k.src sub.src && k.key == strataKey sub.body) with
    | some k => s.strataOpen ⟨8, 0x02, leBytes 4 k.seq ++ leBytes 1 k.type ++ leBytes 1 k.src ++ zeros 2, none⟩
        (some (sub.type, sub.src, strataKey sub.body))
    | none => s.strataOpen sub none
  match s.strata.opened with
  | none => fresh s
  | some r =>
    bif r.counts sub then
      let r' := { r with reps := r.reps + 1 }
      let s := (({ s with strata := { s.strata with opened := some r' } }.bump R.STRATA.CNT_REPEATS).bumpWrap
        R.STRATA.WSEQ_COUNT)
      (bif Nat.ble 0xFFFF r'.reps then s.strataClose else s, r.seq)
    else fresh s

/-- A submission is taken and a mailbox sender answered: 0xA5 with the SEQ, or 0 and the reason FULL (R532). -/
def State.strataServe (s : State) (sub : Submission) : State :=
  let r := s.strataTake sub
  match sub.reply with
  | none => r.1
  | some a => r.1.answer 8 a.1 0xA5 a.2 r.2 (bif Nat.beq r.2 0 then 0x40 else 0) 0 0

/-- A submission reaches E8: it waits while the restart walk or a clear runs, in a queue of 32 (R531). -/
def State.submit (s : State) (sub : Submission) : State :=
  bif s.strata.walking || s.bit R.STRATA.STAT_CLEARING then
    bif Nat.blt s.strata.queue.length 32 then
      { s with strata := { s.strata with queue := s.strata.queue ++ [sub] } }
    else
      match sub.reply with
      | none => s.strataLose
      | some a => s.strataLose.answer 8 a.1 0xA5 a.2 0 0x40 0 0
  else s.strataServe sub

/-- A Waltraus engine's own record. -/
def State.record (s : State) (src type : Nat) (body : List Byte) : State := s.submit ⟨src, type, body, none⟩

/-- The submissions that waited are taken in order (R529, R531). -/
def State.strataDrain (s : State) : State :=
  { s with strata := { s.strata with queue := [] } }.each s.strata.queue (fun sub t => t.strataServe sub)

end Sys2Proof.Machine
end

