-- ==== Sys2Proof/Machine/FlashBase.lean ====
section
/-!
DEFINITION. The NOR array below the ROM routine: partitions (R471), the remap table (R487), reading, programming and
erasing cells (R470), the op journal (R482) and retirement (R486).
-/

namespace Sys2Proof.Machine

/-- Partition `i`: first address and size in bytes (R471). -/
def partition : Nat → Nat × Nat
  | 0 => (0x00000000, 0x00080000) | 1 => (0x00080000, 0x00800000) | 2 => (0x00880000, 0x00800000)
  | 3 => (0x01080000, 0x00400000) | 4 => (0x01480000, 0x02000000) | 5 => (0x03480000, 0x00400000)
  | 6 => (0x03880000, 0x00100000) | 7 => (0x03980000, 0x04000000) | 8 => (0x07980000, 0x00680000)
  | _ => (0, 0)

/-- The partition that a flash address lies in; 9 above the array. -/
def partitionOf (a : Nat) : Nat :=
  ((List.range 9).find? (fun i => Nat.ble (partition i).1 a && Nat.blt a ((partition i).1 + (partition i).2))).getD 9

/-- The highest remap entry of a logical sector, counting entries from `k` (R487). -/
def remapOf (sector : Nat) : List Nat → Nat → Option Nat
  | [], _ => none
  | l :: ls, k =>
    match remapOf sector ls (k + 1) with
    | some j => some j
    | none => bif Nat.beq l sector then some k else none

/-- The physical address of a logical one: the governing remap entry moves its sector to a spare (R487). -/
def Flash.phys (f : Flash) (a : Nat) : Nat :=
  match remapOf (a / 4096) f.remap 0 with
  | some k => 0x07980000 + 4096 * k + a % 4096
  | none => a

/-- An op-journal entry's 16 bytes (R482). -/
def JEntry.bytes (e : JEntry) : List Byte :=
  let retire := Nat.beq e.kind 4
  let head := leBytes 4 e.seq ++ leBytes 1 e.kind ++ leBytes 1 (bif retire then e.k % 256 else 0xFF) ++
    leBytes 1 (bif retire then e.k / 256 else 0xFF)
  head ++ leBytes 1 (bif e.done then 0x3F else 0x7F) ++ leBytes 4 e.addr ++ [crc8 (head ++ leBytes 4 e.addr)] ++
    List.replicate 3 0xFF

/-- Byte `o` of a list of little-endian words; erased past its end. -/
def wordByte (ws : List Nat) (o : Nat) : Byte :=
  match ws[o / 4]? with
  | some w => (leBytes 4 w).getD (o % 4) 0xFF
  | none => 0xFF

/-- A 16-bit value with its complement in [31:16], as a selector word (R480) and a remap entry (R487) hold it. -/
def withComplement (v : Nat) : Nat := v + 65536 * (65535 - v)

/-- A byte of a boot block's control area, `bb` 0 or 1, from its sector 60 on (R479). -/
def Flash.control (f : Flash) (bb o : Nat) : Byte :=
  bif Nat.blt o 4096 then
    match (bif Nat.beq bb f.jHalf then f.journal else f.jOther)[o / 16]? with
    | some e => e.bytes.getD (o % 16) 0xFF
    | none => 0xFF
  else bif Nat.blt o 12288 then wordByte (f.remap.map withComplement) (o - 4096)
  else wordByte (bif Nat.beq bb 0 then f.sel0 else f.sel1) (o - 12288)

/-- The address lies in a control area (R479). -/
def inControl (a : Nat) : Bool := Nat.blt a 0x80000 && Nat.ble 60 (a / 4096 % 64)

/-- A byte of the array by logical address; erased bytes read 0xFF. -/
def Flash.byte (f : Flash) (a : Nat) : Byte :=
  bif inControl a then f.control (a / 0x40000) (a % 0x40000 - 60 * 4096) else f.cells.look 0xFF (f.phys a)

/-- `n` bytes of the array by logical address. -/
def Flash.bytes (f : Flash) (a n : Nat) : List Byte := (List.range n).map (fun i => f.byte (a + i))

/-- Programming only changes bits from 1 to 0 (R470). -/
def Flash.program (f : Flash) (a : Nat) : List Byte → Flash
  | [] => f
  | b :: bs => Flash.program { f with cells := f.cells.store 0xFF (f.phys a) (f.byte a &&& b) } (a + 1) bs

/-- Programming the bytes would need a bit to go from 0 to 1 (R475 NOT_ERASED). -/
def Flash.needsErase (f : Flash) (a : Nat) : List Byte → Bool
  | [] => false
  | b :: bs => !(f.byte a &&& b == b) || f.needsErase (a + 1) bs

/-- Every bit of a sector is set to 1, wherever the sector is mapped (R470, R487). -/
def Flash.eraseSector (f : Flash) (sector : Nat) : Flash :=
  let p := f.phys (4096 * sector)
  bif inControl (4096 * sector) then f else { f with cells := f.cells.clearRange p (p + 4096) }

/-- Every bit of a block is set to 1, remapped sectors included (R487). -/
def Flash.eraseBlock (f : Flash) (block : Nat) : Flash :=
  (List.range 16).foldl (fun f i => f.eraseSector (16 * block + i)) f

/-- The extent of an erase: its first logical address and its length. -/
def eraseLen (block : Bool) : Nat := bif block then 65536 else 4096

/-- Erase a sector or a block. -/
def Flash.eraseAt (f : Flash) (a : Nat) (block : Bool) : Flash :=
  bif block then f.eraseBlock (a / 65536) else f.eraseSector (a / 4096)

/-! ### The op journal (R482) -/

/-- The first address of the journal sector of boot block `bb`. -/
def journalSector (bb : Nat) : Nat := 0x40000 * bb + 60 * 4096

/-- The journal moves to its other sector when 8 free entries are left and no erase is outstanding: an ERASE_S entry for
the other sector, its erase, then every entry still OPEN is copied there (R482). -/
def Flash.rollover (f : Flash) : Flash :=
  bif Nat.ble 248 f.journal.length && f.erase.isNone then
    let other := 1 - f.jHalf
    let here := f.journal ++ [⟨f.nextSeq, 1, 0, journalSector other, true⟩]
    { f with journal := f.journal.filter (fun e => !e.done), jOther := here, jHalf := other, nextSeq := f.nextSeq + 1 }
  else f

/-- Write an OPEN entry before its operation starts. -/
def Flash.jopen (f : Flash) (kind k addr : Nat) : Flash × Nat :=
  let f := f.rollover
  ({ f with journal := f.journal ++ [⟨f.nextSeq, kind, k, addr, false⟩], nextSeq := f.nextSeq + 1 }, f.nextSeq)

/-- Program an entry's STATE to DONE. -/
def Flash.jdone (f : Flash) (seq : Nat) : Flash :=
  { f with journal := f.journal.map (fun e => bif Nat.beq e.seq seq then { e with done := true } else e) }

/-- The OPEN entries of the journal, an entry present in both sectors counted once (R482). -/
def Flash.opens (f : Flash) : List JEntry :=
  (f.journal.filter (fun e => !e.done)) ++
    f.jOther.filter (fun e => !e.done && !f.journal.any (fun g => Nat.beq g.seq e.seq))

/-- An erase from its journal entry to DONE, at one go. -/
def Flash.erased (f : Flash) (a : Nat) (block : Bool) : Flash :=
  let r := f.jopen (bif block then 2 else 1) 0xFF a
  (r.1.eraseAt a block).jdone r.2

/-- The outstanding erase is resumed and completes before FLASH goes OFF (R477). -/
def Flash.finishErase (f : Flash) : Flash :=
  match f.erase with
  | none => f
  | some e => ({ f with erase := none }.eraseAt e.addr e.block).jdone e.seq

/-- Some open journal entry is an activation copy (R483). -/
def Flash.openCopy (f : Flash) : Option JEntry := f.opens.find? (fun e => Nat.beq e.kind 3)

/-! ### The selector word (R480, R481) -/

/-- S of a valid selector word. -/
def selectorOf (w : Nat) : Option Nat :=
  bif Nat.beq (w / 65536) (65535 - w % 65536) then some (w % 65536) else none

/-- The valid selector word with the highest GEN: its S = GEN * 2 + BB. -/
def Flash.selector (f : Flash) : Option Nat :=
  (f.sel0 ++ f.sel1).foldl (fun best w =>
    match selectorOf w, best with
    | some v, some b => bif Nat.blt (b / 2) (v / 2) then some v else some b
    | some v, none => some v
    | none, b => b) none

/-- The generation in force, and the boot block to run: BB0 when no word is valid. -/
def Flash.selGen (f : Flash) : Nat := (f.selector.getD 0) / 2
def Flash.selBb (f : Flash) : Nat := (f.selector.getD 0) % 2

/-- SWAP (R481): the next word of the sector in use, or of the other one after its journaled erase. None when the generation
is at its limit. -/
def Flash.swap (f : Flash) (bb : Nat) : Option Flash :=
  bif Nat.ble 0x7FFF f.selGen then none
  else
    let w := withComplement ((f.selGen + 1) * 2 + bb % 2)
    let used := bif Nat.beq f.selHalf 0 then f.sel0 else f.sel1
    bif Nat.blt used.length 1024 then
      some (bif Nat.beq f.selHalf 0 then { f with sel0 := f.sel0 ++ [w] } else { f with sel1 := f.sel1 ++ [w] })
    else
      let other := 1 - f.selHalf
      let r := f.jopen 1 0xFF (0x40000 * other + 63 * 4096)
      let g := r.1.jdone r.2
      some (bif Nat.beq other 0 then { g with sel0 := [w], selHalf := 0 } else { g with sel1 := [w], selHalf := 1 })

/-! ### Retirement (R486) -/

/-- Sector X moves to spare k, k the number of remap entries: RETIRE entry, a spare found blank or erased under an entry of its own, the pages copied with `patch`
merged at `at_`, the remap entry, DONE. None when no spare is left. -/
def Flash.retire (f : Flash) (sector at_ : Nat) (patch : List Byte) : Option Flash :=
  let k := f.remap.length
  bif Nat.ble 1664 k then none
  else
    let r := f.jopen 4 k (4096 * sector)
    let spare := 0x07980000 + 4096 * k
    let old := r.1.bytes (4096 * sector) 4096
    let clear := r.1.cells.clearRange spare (spare + 4096)
    let blank := bif decide (clear = r.1.cells) then r.1
      else let j := r.1.jopen 1 0xFF spare; { j.1 with cells := clear }.jdone j.2
    let copied := { blank with cells := (blank.cells.storeList 0xFF spare old) }
    let moved := { copied with remap := copied.remap ++ [sector] }
    some ((moved.program at_ patch).jdone r.2)

/-- The recorder's and the page's side of a retirement (R486): STORE.RETIRE.USED, IRQ RETIRED and a Strata record. -/
def State.noteRetire (s : State) (sector status : Nat) : State :=
  ((s.set R.STORE.RETIRE_USED s.flash.remap.length).raise 0x59 2).record 8 0x24
    (leBytes 4 sector ++ leBytes 2 (s.flash.remap.length - 1) ++ leBytes 1 status ++ zeros 1)

/-- Retire a sector: RETIRED (0x01), or NO_SPARE (0x16) with its flag and record (R486). -/
def State.retireSector (s : State) (sector at_ : Nat) (patch : List Byte) : State × Nat :=
  match s.flash.retire sector at_ patch with
  | some f => (({ s with flash := f }).noteRetire sector 0x01, 0x01)
  | none => ((s.raise 0x59 3).record 8 0x24 (leBytes 4 sector ++ leBytes 2 1664 ++ leBytes 1 0x16 ++ zeros 1), 0x16)

end Sys2Proof.Machine
end

