-- ==== Sys2Proof/Machine/Manifest.lean ====
section
/-!
DEFINITION. The firmware manifest (R511-R513) as it lies in the staging or the active images partition.
-/

namespace Sys2Proof.Machine

/-- One 176-byte manifest entry (R512). -/
structure Part where
  type    : Nat
  id      : Nat
  rb      : Nat
  flags   : Nat
  version : Nat
  svn     : Nat
  length  : Nat
  srcOff  : Nat
  dstOff  : Nat
  digest  : List Byte
  csig    : List Byte
  /-- Octets 0-71, which the signatures cover. -/
  head    : List Byte
  /-- Octets 10-11 and 168-175 are 0. -/
  clean   : Bool
  deriving DecidableEq, Repr

/-- A manifest (R511). -/
structure Manifest where
  magicOk : Bool
  nparts  : Nat
  mlen    : Nat
  release : Nat
  flags   : Nat
  wkey    : List Byte
  ckey    : List Byte
  parts   : List Part
  wsig    : List Byte
  /-- Octets 0-23, which WSIG covers. -/
  head    : List Byte
  /-- Octets 17-23 and 216-255 are 0. -/
  clean   : Bool
  deriving DecidableEq, Repr

/-- An entry from its 176 bytes. -/
def partOf (b : List Byte) : Part :=
  { type := ofLe (slice b 0 1), id := ofLe (slice b 1 1), rb := ofLe (slice b 2 1), flags := ofLe (slice b 3 1),
    version := ofLe (slice b 4 4), svn := ofLe (slice b 8 2), length := ofLe (slice b 12 4),
    srcOff := ofLe (slice b 16 4), dstOff := ofLe (slice b 20 4), digest := slice b 24 48, csig := slice b 72 96,
    head := slice b 0 72, clean := slice b 10 2 == zeros 2 && slice b 168 8 == zeros 8 }

/-- The manifest at a flash address; without its magic and version it lists no parts. -/
def Flash.manifest (f : Flash) (base : Nat) : Manifest :=
  let h := f.bytes base 256
  let n := ofLe (slice h 6 2)
  let m := ofLe (slice h 8 4)
  let ok := slice h 0 4 == ascii "YNM1" && ofLe (slice h 4 2) == 1
  { magicOk := ok, nparts := n, mlen := m,
    release := ofLe (slice h 12 4), flags := ofLe (slice h 16 1), wkey := slice h 24 96, ckey := slice h 120 96,
    parts := bif ok then (List.range (min n 41)).map (fun i => partOf (f.bytes (base + 256 + 176 * i) 176)) else [],
    wsig := f.bytes (base + m - 96) 96, head := slice h 0 24,
    clean := slice h 17 7 == zeros 7 && slice h 216 40 == zeros 40 }

/-- The manifest of the active images partition and that of staging (R471, R511). -/
def Flash.active (f : Flash) : Manifest := f.manifest 0x00080000
def Flash.staged (f : Flash) : Manifest := f.manifest 0x00880000

/-- The part of a type and ID. -/
def Manifest.part? (m : Manifest) (type id : Nat) : Option Part :=
  m.parts.find? (fun p => Nat.beq p.type type && Nat.beq p.id id)

/-- The manifest lists a customer image for engine `k` (R24). -/
def Manifest.listsCustomer (m : Manifest) (k : Nat) : Bool := (m.part? 5 k).isSome

/-- The digest of the image that engine `k` runs under the manifest (R24, R513). -/
def Manifest.imageDigest (m : Manifest) (k : Nat) : List Byte :=
  match m.part? 5 k with
  | some p => p.digest
  | none => match m.part? 2 k with | some p => p.digest | none => zeros 48

/-- The digest of engine `k`'s microcode part. -/
def Manifest.mcodeDigest (m : Manifest) (k : Nat) : List Byte :=
  match m.part? (bif Nat.blt k 10 then 3 else 6) k with
  | some p => p.digest
  | none => zeros 48

/-- The part of the image that engine `k` runs (R24). -/
def Manifest.imagePart (m : Manifest) (k : Nat) : Option Part :=
  match m.part? 5 k with
  | some p => some p
  | none => m.part? 2 k

/-- A part's bytes in the active images partition (R471, R513). -/
def Flash.partBytes (f : Flash) (p : Part) : List Byte := f.bytes (0x00080000 + p.dstOff) p.length

/-- The image region of a boot block: the resident loader and the boot image (R479). -/
def Flash.bootRegion (f : Flash) (bb : Nat) : List Byte := f.bytes (0x40000 * bb) 0x3C000

end Sys2Proof.Machine
end

