-- ==== Sys2Proof/Machine/Media.lean ====
section
/-!
DEFINITION. The three media and the state of their PHYs (R163, R223): what E1, E2 and E3 hold of a medium, and its return to rest.
-/

namespace Sys2Proof.Machine

open Sys2Proof

/-! ### Media -/

def medIdx : Medium → Nat
  | .rfA => 0 | .rfB => 1 | .plc => 2

/-- The page of a medium's PHY: RFA, RFB, PLCPHY. -/
def medPage : Medium → Nat
  | .rfA => 0x30 | .rfB => 0x31 | .plc => 0x3B

def chainMed : Chain → Medium
  | .a => .rfA | .b => .rfB

def chainIdx : Chain → Nat
  | .a => 0 | .b => 1

def isPlc : Medium → Bool
  | .plc => true | .rfA => false | .rfB => false

def media3 : List Medium := [.rfA, .rfB, .plc]

/-- The medium's engine: E1, E2, E3. -/
def State.air (s : State) : Medium → Air
  | .rfA => s.radio.airA | .rfB => s.radio.airB | .plc => s.radio.airP

def State.setAir (s : State) (m : Medium) (a : Air) : State :=
  match m with
  | .rfA => { s with radio := { s.radio with airA := a } }
  | .rfB => { s with radio := { s.radio with airB := a } }
  | .plc => { s with radio := { s.radio with airP := a } }

def State.modAir (s : State) (m : Medium) (f : Air → Air) : State := s.setAir m (f (s.air m))

def State.chain (s : State) : Chain → ChainSt
  | .a => s.radio.chA | .b => s.radio.chB

def State.setChain (s : State) (c : Chain) (x : ChainSt) : State :=
  match c with
  | .a => { s with radio := { s.radio with chA := x } }
  | .b => { s with radio := { s.radio with chB := x } }

def State.modChain (s : State) (c : Chain) (f : ChainSt → ChainSt) : State := s.setChain c (f (s.chain c))

/-! ### PHY states -/

/-- The state of a medium's PHY, by the codes of RFA.STAT.CH_ST (R163): 0 OFF, 1 CAL, 2 IDLE, 3 RX, 4 RXFRAME, 5 TX. PLC has no CAL
(R223). -/
def State.phy (s : State) (m : Medium) : Nat :=
  bif isPlc m then (let k := s.get R.PLCPHY.STAT_ST; bif Nat.beq k 0 then 0 else k + 1) else s.get (R.RF.STAT_CH_ST (medIdx m))

def State.setPhy (s : State) (m : Medium) (k : Nat) : State :=
  bif isPlc m then s.set R.PLCPHY.STAT_ST (bif Nat.beq k 0 then 0 else k - 1) else s.set (R.RF.STAT_CH_ST (medIdx m)) k

/-- The medium's domain: RFA, RFB, PLC. -/
def medDomain : Medium → Nat
  | .rfA => 17 | .rfB => 18 | .plc => 19

/-- The medium that holds the correlator bank, as BANKCH shows it (R204). -/
def State.bankCh (s : State) : Nat := s.get R.PHYRF.STAT_BANKCH

/-- The bank is given back. -/
def State.freeBank (s : State) (m : Medium) : State :=
  bif !isPlc m && Nat.beq s.bankCh (medIdx m + 1) then s.setAll [(R.PHYRF.STAT_BANKCH, 0), (R.PHYRF.STAT_HOLD, 7)] else s

/-- The medium's activity is over: IDLE, and nothing runs past its cell any more (R195). -/
def State.rest (s : State) (m : Medium) : State :=
  let s := (s.modAir m (fun a => { a with armed := .idle, winOpen := false, det := .none, bank := false, deferred := false,
                                          sending := none, acking := false, ackDue := none, overTo := 0, phr := none })).freeBank m
  bif Nat.ble 2 (s.phy m) then s.setPhy m 2 else s

/-- The medium carries the frame, or awaits its acknowledgement. -/
def Air.carries (a : Air) (num : Nat) : Bool :=
  (match a.sending with | some x => Nat.beq x.frame num | none => false) || (match a.await with | some x => Nat.beq x.frame num | none => false)

/-- The attempt that a medium has begun is given up: its frame stays queued with its sequence number, and its next transmission takes a new
counter value, unless another medium still carries it (R280). -/
def State.dropSent (s : State) (m : Medium) : State :=
  let a := s.air m
  let gone (num : Nat) : Bool := a.carries num && !media3.any (fun k => !decide (k = m) && (s.air k).carries num)
  let s := { s with sched := { s.sched with queue := s.sched.queue.map (fun (f : LinkFrame) => bif gone f.num then { f with ctr := none } else f) } }
  s.modAir m (fun a => { a with sending := none, await := none })

/-- What a medium has reserved goes back to the queues (R272): nothing is armed on it and no acknowledgement awaited, and on RF-A no wake call
runs. -/
def State.quiet (s : State) (m : Medium) : State :=
  let s := bif decide (m = .rfA) then { s with radio := { s.radio with calling := none } } else s
  ((s.dropSent m).rest m).modAir m (fun a => { a with spanTo := 0, overTo := 0 })

/-- The medium that an engine serves: E1 RF-A, E2 RF-B, E3 PLC (R22). -/
def engMedium (k : Nat) : Option Medium :=
  match k with | 1 => some .rfA | 2 => some .rfB | 3 => some .plc | _ => none

end Sys2Proof.Machine
end

