-- ==== Sys2Proof/Machine/Cores.lean ====
section
/-!
DEFINITION. Resetting, releasing and measuring the engines: the operations that the fault path, the domain commands, BOOT
and the ENG pages share (R96, R376, R409, R416, R431, R505).
-/

namespace Sys2Proof.Machine

/-- Extend a measurement slot with an event digest and append the event log (R505). -/
def State.extend (s : State) (slot event object : Nat) (d : List Byte) : State :=
  let g := s.garnet
  let full := Nat.ble 128 g.log.length
  let g' := { g with mslots := g.mslots.modify slot (fun v => sha384 (v ++ d)),
                     extCnt := g.extCnt.modify slot (fun n => min (n + 1) 0xFFFF),
                     log := bif full then g.log else g.log ++ [⟨slot, event, object, d⟩] }
  let s := { s with garnet := g' }
  let entry := leBytes 1 slot ++ leBytes 1 event ++ leBytes 2 object ++ d
  let s := bif full then s.set R.MEASURE.INFO_LOGFULL 1
    else (s.sramStore (s.get R.MEASURE.LOGBASE_ADDR + 52 * g.log.length) entry).set R.MEASURE.INFO_LOGUSED (g.log.length + 1)
  s.raise 0x53 0

/-! ### Microcode tables (R403-R410) -/

/-- UOP, FN, the source selectors and the other fields of a micro-word (R405). -/
def uop (w : Nat) : Nat := w / 2 ^ 28 % 16
def uDst (w : Nat) : Nat := w / 2 ^ 24 % 16
def uSrcA (w : Nat) : Nat := w / 2 ^ 20 % 16
def uSrcB (w : Nat) : Nat := w / 2 ^ 16 % 16
def uFn (w : Nat) : Nat := w / 2 ^ 12 % 16
def uFl (w : Nat) : Bool := w.testBit 11
def uEnd (w : Nat) : Bool := w.testBit 10
def uPred (w : Nat) : Nat := w / 2 ^ 8 % 4
def uImm (w : Nat) : Nat := w % 256

/-- A valid UOP and FN, and 0 in the fields that the UOP does not use (R405, R409 check 1). -/
def microOk (w : Nat) : Bool :=
  let noFn := Nat.beq (uFn w) 0 && !uFl w
  match uop w with
  | 0 => Nat.beq (uDst w) 0 && Nat.beq (uSrcA w) 0 && Nat.beq (uSrcB w) 0 && noFn && Nat.beq (uImm w) 0
  | 1 => Nat.blt (uFn w) 12
  | 2 => Nat.blt (uFn w) 12
  | 3 => Nat.beq (uSrcB w) 0 && noFn
  | 4 => Nat.beq (uDst w) 0 && noFn
  | 5 => Nat.beq (uDst w) 0 && Nat.beq (uSrcA w) 0 && Nat.beq (uSrcB w) 0 && noFn
  | _ => false

/-- Micro-word `a` and decode entry `n` of an engine. -/
def Engine.microWord (e : Engine) (a : Nat) : Nat := e.micro.look a
def Engine.entry (e : Engine) (n : Nat) : Nat := e.decode.look n

/-- A VALID decode entry has a valid XUSE (R404, R409 check 2). -/
def entryOk (d : Nat) : Bool := !d.testBit 16 || Nat.ble (d / 2 ^ 9 % 8) 4

/-- The first item that fails the load check, in the order of the checks (R409). A START and a BR target of 8 bits are
always below 256. -/
def Engine.loadFail (e : Engine) : Option Nat :=
  match (List.range 256).find? (fun a => !microOk (e.microWord a)) with
  | some a => some a
  | none => ((List.range 16).find? (fun n => !entryOk (e.entry n))).map (· + 0x100)

/-- SHA-384 of the 16 entries, then the 256 micro-words, as little-endian words (R409). -/
def Engine.tableDigest (e : Engine) : List Byte :=
  sha384 (((List.range 16).flatMap (fun n => leBytes 4 (e.entry n))) ++
    ((List.range 256).flatMap (fun a => leBytes 4 (e.microWord a))))

/-- `n` little-endian words from word `lo` of a part's bytes. -/
def wordsOf (bs : List Byte) (lo n : Nat) : Regs :=
  (List.range n).foldl (fun (r : Regs) i => r.put i (ofLe (slice bs (4 * (lo + i)) 4))) []

/-- A microcode part is loaded and checked: 16 decode entries, then 256 micro-words (R409, R513). -/
def State.loadTable (s : State) (k : Nat) (p : Part) : State :=
  let bs := s.flash.partBytes p
  s.modEng k (fun e => { e with decode := wordsOf bs 0 16, micro := wordsOf bs 16 256, mc := .loading })

/-- The verdict on the table just loaded: MEASURED, with the digest that later commits are compared with, or FAILED. -/
def State.tableVerdict (s : State) (k : Nat) (ok : Bool) : State :=
  let d := (s.eng k).tableDigest
  let at_ := (s.eng k).loadFail
  let s := s.modEng k (fun e => bif ok then { e with mc := .measured, mcDigest := d, mcBoot := some d }
    else { e with mc := .failed, mcFailAddr := at_.getD e.mcFailAddr })
  s.setBit (R.ENG.STAT_MC_OK k) ok

/-! ### Reset and release -/

/-- The registers of an engine return to their reset values (R376); its image, memories, microcode and mailbox stay
(R96, R414). -/
def Engine.restart (e : Engine) (k : Nat) : Engine :=
  { Engine.reset k with
    image := e.image, customer := e.customer, outageFlag := e.outageFlag, kfmt := e.kfmt, sram := e.sram,
    decode := e.decode, micro := e.micro, mc := e.mc, mcDigest := e.mcDigest, mcBoot := e.mcBoot,
    mcFailAddr := e.mcFailAddr, mcScrubErr := e.mcScrubErr, mailbox := e.mailbox }

/-- Reset engine `k`: it stays in reset; GEN counts the reset, its PEND bits clear (R416, R431). What E1, E2 or E3 had armed, was sending
or awaited is given up: its frames stand in the link queue with their sequence numbers (R96). -/
def State.engReset (s : State) (k : Nat) : State :=
  let s := match engMedium k with | some m => s.quiet m | none => s
  let s := s.setEng k ((s.eng k).restart k)
  let s := { s with cluster := { s.cluster with stepping := s.cluster.stepping.filter (fun j => !Nat.beq j k) } }
  ((s.bumpWrap (R.ENG.STAT_GEN k)).setAll
    [(R.EVT.SEL_PEND (3 * k), 0), (R.EVT.SEL_PEND (3 * k + 1), 0), (R.EVT.SEL_PEND (3 * k + 2), 0),
     (R.ENG.STAT_STALLED k, 0)])

/-- The reference image of E10 starts (R24, R538): it enables its lamp pages and then sets the lamp. -/
def State.referenceStart (s : State) : State :=
  bif s.bit R.PWR.SUPPLY_MAINS then
    ({ s with lamp := { s.lamp with startDue := true } }.each [0x60, 0x61, 0x62] (fun p t =>
      bif Nat.beq (t.get (R.HDR.OWNER p)) 10 && Nat.beq (t.get (R.HDR.ST p)) 0 then t.setAll [(R.HDR.EN p, 1), (R.HDR.ST p, 1)] else t))
  else s

/-- Release engine `k` from reset in the format that CTL.KFMT asks for (R400, R416). -/
def State.engRelease (s : State) (k : Nat) : State :=
  let kf := s.bit (R.ENG.KFMT k)
  let s := s.onlyIf (Nat.beq k 10 && (s.eng 10).image && !(s.eng 10).customer) State.referenceStart
  ((s.modEng k (fun e => { e with run := .running, kfmt := kf, faulted := false })).setAll
    [(R.HDR.EN (0x10 + k), 1), (R.HDR.ST (0x10 + k), 2), (R.ENG.STAT_MC_OK k, bif decide ((s.eng k).mc = .measured) then 1 else 0)]).setBit
      (R.ENG.STAT_KFMT_ON k) kf

/-- A boot block passes the boot ROM's check, and its security version is not below RB0 (R480, R504). -/
def State.bootOk (s : State) (bb : Nat) : Bool :=
  match Config.bootBlock (s.flash.bootRegion bb) with
  | some v => Nat.ble (s.garnet.rb.getD 0 0) v
  | none => false

/-- The boot block that runs: the selected one, else the other one, else none (R480). -/
def State.runningBb (s : State) : Option Nat :=
  bif s.bootOk s.flash.selBb then some s.flash.selBb
  else bif s.bootOk (1 - s.flash.selBb) then some (1 - s.flash.selBb)
  else none

/-- An image is loaded into engine `k`'s local SRAM, from address 0. -/
def State.loadImage (s : State) (k : Nat) (bs : List Byte) : State :=
  s.modEng k (fun e => { e with sram := e.sram.storeList 0 0 bs })

/-- An engine that does not start: it stays in reset with its page DISABLED (R23). -/
def State.engStays (s : State) (k : Nat) : State := s.setAll [(R.HDR.EN (0x10 + k), 0), (R.HDR.ST (0x10 + k), 0)]

/-- A table that BOOT measured, and that failed since or was lost with its domain, is reloaded from the active image before the engine is
released; the MSLOT6 event holds the digest it then has, and a table that is not the one of BOOT fails (R409, R410). -/
def State.reloadTable (s : State) (k : Nat) : State :=
  let e := s.eng k
  bif e.mcBoot.isNone || decide (e.mc = .measured) then s
  else match s.flash.active.part? (bif Nat.blt k 10 then 3 else 6) k with
    | none => s
    | some p =>
      let s := s.loadTable k p
      let d := (s.eng k).tableDigest
      (s.extend 6 0x09 k d).tableVerdict k ((s.eng k).loadFail.isNone && decide (e.mcBoot = some d))

/-- An engine whose table failed does not start (R409). -/
def State.engStarts (s : State) (k : Nat) : State :=
  let s := s.reloadTable k
  bif decide ((s.eng k).mc = .failed) then s.engStays k else s.engRelease k

/-- Engine `k` is reset and restarts from its image, reloaded and measured in MSLOT6 as RELOAD, and checked against the manifest's digest:
a mismatch keeps it in reset, as does one of its microcode (R96, R410, R506). An engine without a verified image stays in reset (R23). -/
def State.engRestart (s : State) (k : Nat) : State :=
  let s := s.engReset k
  bif Nat.beq k 0 then (s.extend 6 0x08 0 (sha384 (s.flash.bootRegion (s.runningBb.getD s.flash.selBb)))).reloadTable 0 |>.engRelease 0
  else bif !(s.eng k).image then s.engStays k
  else match s.flash.active.imagePart k with
    | none => s.engStays k
    | some p =>
      let bs := s.flash.partBytes p
      let t := s.extend 6 0x08 k (sha384 bs)
      bif sha384 bs == p.digest then (t.loadImage k bs).engStarts k else t.engStays k

/-- The level inputs of E0: IN0 is pending while FAULT.STATUS.ACTIVE = 1, IN1 while the COLLECT FIFO is not empty (R426).
A pending input wakes ENG0 (R107), and ends WAIT where its WAKEEN bit is set. -/
def State.levels (s : State) : State :=
  let act := s.bit R.FAULT.STATUS_ACTIVE
  let ne := !s.cluster.fifo.isEmpty
  let s := ((s.setBit (R.EVT.SEL_PEND 0) act).setBit (R.EVT.SEL_PEND 1) ne).onlyIf (act || ne) (·.wakeCore 1)
  let e := s.engines.e0
  bif decide (e.run = .waiting) && ((act && e.wakeEn.getLsbD 0) || (ne && e.wakeEn.getLsbD 1)) then
    { s with engines := { s.engines with e0 := { e with run := .running } } }
  else s

end Sys2Proof.Machine
end

