-- ==== Sys2Proof/Machine/RegTable.lean ====
section
/-!
DEFINITION. The register tables of the Shale pages as data: for every stored field its access code (R8), its Reset value
and whether it is a RET field (R83). A field whose value is a view of other state (a queue count, a latched time) has
no row here: Bus.lean computes it when the register is read. A write-only command field holds no state.
-/

namespace Sys2Proof.Machine

/-- The access codes of R8. -/
inductive Acc where
  | rw | ro | w1c | rwl | rc
  deriving DecidableEq, Repr

/-- What keeps a field's value across a power loss of its domain: nothing, the retained settings (RET, R83), the tag's
FRAM (R580) or the factory. -/
inductive Kept where
  | none | ret | fram | factory | otp
  deriving DecidableEq, Repr

/-- One row of a page's register table. -/
structure Row where
  fld  : Fld
  acc  : Acc
  rst  : Nat
  kept : Kept
  deriving DecidableEq, Repr

/-- The stored fields of the SYS table (03_modes_startup_faults.md). -/
def rowsSYS : List Row :=
  [⟨R.SYS.MODE_PREV, .ro, 0, .none⟩,
   ⟨R.SYS.MODE_CAUSE, .ro, 0, .none⟩,
   ⟨R.SYS.OUTAGE_LIMIT_MIN, .rw, 4320, .ret⟩,
   ⟨R.SYS.HOLD_WAKE_MIN, .rw, 10, .ret⟩,
   ⟨R.SYS.RESTORE_SRC_SRC, .ro, 0, .ret⟩,
   ⟨R.SYS.RESTORE_SRC_Q_FAIL, .ro, 0, .none⟩,
   ⟨R.SYS.RESTORE_SRC_A_FAIL, .ro, 0, .none⟩,
   ⟨R.SYS.RESTORE_SRC_B_FAIL, .ro, 0, .none⟩,
   ⟨R.SYS.RESET_CAUSE_POR, .w1c, 1, .none⟩,
   ⟨R.SYS.RESET_CAUSE_PIN, .w1c, 0, .none⟩,
   ⟨R.SYS.RESET_CAUSE_WDOG, .w1c, 0, .none⟩,
   ⟨R.SYS.RESET_CAUSE_ESCALATE, .w1c, 0, .none⟩,
   ⟨R.SYS.RESET_CAUSE_SUPPLY, .w1c, 0, .none⟩,
   ⟨R.SYS.RESET_CAUSE_MAINT, .w1c, 0, .none⟩,
   ⟨R.SYS.RESET_CAUSE_XO_FAIL, .w1c, 0, .none⟩,
   ⟨R.SYS.BOOT_STAT_CUST_FAIL, .ro, 0, .none⟩,
   ⟨R.SYS.BOOT_STAT_RECOVERED, .ro, 0, .none⟩,
   ⟨R.SYS.BOOT_STAT_MS, .ro, 0, .none⟩,
   ⟨R.SYS.PWRCYC_COUNT, .ro, 0, .ret⟩,
   ⟨R.SYS.OPSEC_SEC, .ro, 0, .ret⟩]

/-- The stored fields of the HOSTIF table (05_shale_pages_host_interface.md). -/
def rowsHOSTIF : List Row :=
  [⟨R.HOSTIF.CFG_QPI, .ro, 0, .none⟩,
   ⟨R.HOSTIF.CFG_WAIT, .rw, 8, .none⟩,
   ⟨R.HOSTIF.STAT_HOLD_DROP, .w1c, 0, .none⟩,
   ⟨R.HOSTIF.STAT_WDROP, .w1c, 0, .none⟩,
   ⟨R.HOSTIF.STAT_BURST_ERR, .w1c, 0, .none⟩,
   ⟨R.HOSTIF.LASTREF_REASON, .rc, 0, .none⟩,
   ⟨R.HOSTIF.LASTREF_ADDR, .rc, 0, .none⟩,
   ⟨R.HOSTIF.LASTREF_WR, .rc, 0, .none⟩,
   ⟨R.HOSTIF.REFCNT_COUNT, .rc, 0, .none⟩,
   ⟨R.HOSTIF.WDROPCNT_COUNT, .rc, 0, .none⟩,
   ⟨R.HOSTIF.S_RADIO_REGION, .rwl, 0, .ret⟩,
   ⟨R.HOSTIF.S_RADIO_BANDPLAN, .rwl, 0, .ret⟩,
   ⟨R.HOSTIF.S_MAINS_HZ, .rwl, 0, .ret⟩,
   ⟨R.HOSTIF.S_MAINS_PHASE, .rw, 0, .ret⟩,
   ⟨R.HOSTIF.S_MAINS_PLCBAND, .rwl, 0, .ret⟩,
   ⟨R.HOSTIF.S_LAT_LAT, .rwl, 0, .ret⟩,
   ⟨R.HOSTIF.S_LON_LON, .rwl, 0, .ret⟩,
   ⟨R.HOSTIF.S_ROLE_ROLE, .rwl, 0, .ret⟩,
   ⟨R.HOSTIF.S_ROLE_PAIR_EN, .rwl, 0, .ret⟩,
   ⟨R.HOSTIF.S_HINT_COUNT, .rwl, 0, .ret⟩,
   ⟨R.HOSTIF.S_VALID_FACTS, .ro, 0, .ret⟩] ++
  (List.range 15).map (fun n => ⟨R.HOSTIF.WIN_ADV n, .rw, 0, .none⟩) ++
  (List.range 15).map (fun n => ⟨R.HOSTIF.WIN_BASE n, .rw, 0, .none⟩) ++
  (List.range 4).map (fun j => ⟨R.HOSTIF.S_PAN j, .rwl, 0, .ret⟩)

/-- The stored fields of the PWR table (04_power_domains_clocks.md). -/
def rowsPWR : List Row :=
  [⟨R.PWR.NOWAKE_MAP, .ro, 0, .none⟩,
   ⟨R.PWR.HOSTREQ_NFC, .rw, 0, .none⟩,
   ⟨R.PWR.HOSTREQ_METER, .rw, 0, .none⟩,
   ⟨R.PWR.HOSTREQ_LUM, .rw, 0, .none⟩,
   ⟨R.PWR.HOSTREQ_PAIR, .rw, 0, .none⟩,
   ⟨R.PWR.ABORTS_COUNT, .rc, 0, .none⟩,
   ⟨R.PWR.ABORTS_LASTPT, .rc, 0, .none⟩,
   ⟨R.PWR.ABORTS_LASTIDX, .rc, 0, .none⟩,
   ⟨R.PWR.WAKESRC_SRC, .ro, 0, .none⟩,
   ⟨R.PWR.WAKESRC_IDX, .ro, 0, .none⟩,
   ⟨R.PWR.SUPPLY_MAINS, .ro, 0, .none⟩,
   ⟨R.PWR.SUPPLY_BROWNOUT, .ro, 0, .none⟩,
   ⟨R.PWR.SUPPLY_OVERVOLT, .ro, 0, .none⟩,
   ⟨R.PWR.SUPPLY_VBAK_OK, .ro, 0, .none⟩,
   ⟨R.PWR.SUPPLY_VBAK, .ro, 0, .none⟩,
   ⟨R.PWR.V3OUT_OUTAGE_EN, .rw, 0, .ret⟩,
   ⟨R.PWR.BO_STAT_RLY_DEFER, .w1c, 0, .none⟩,
   ⟨R.PWR.BO_STAT_TXLIM, .w1c, 0, .none⟩,
   ⟨R.PWR.ASQ_STAT_MATCH, .w1c, 0, .none⟩,
   ⟨R.PWR.ASQ_STAT_SKIP, .w1c, 0, .none⟩] ++
  (List.range 27).map (fun k => ⟨R.PWR.DOMSTAT k, .ro, 0, .none⟩) ++
  (List.range 8).map (fun n => ⟨R.PWR.ASQ_CFG_EN n, .rw, 0, .ret⟩) ++
  (List.range 8).map (fun n => ⟨R.PWR.ASQ_CFG_UNIT n, .rw, 0, .ret⟩) ++
  (List.range 8).map (fun n => ⟨R.PWR.ASQ_CFG_SRC n, .rw, 0, .ret⟩) ++
  (List.range 8).map (fun n => ⟨R.PWR.ASQ_CFG_CMP n, .rw, 0, .ret⟩) ++
  (List.range 8).map (fun n => ⟨R.PWR.ASQ_CFG_ACTION n, .rw, 0, .ret⟩) ++
  (List.range 8).map (fun n => ⟨R.PWR.ASQ_CFG_SAMPLES n, .rw, 0, .ret⟩) ++
  (List.range 8).map (fun n => ⟨R.PWR.ASQ_CFG_PERIOD n, .rw, 0, .ret⟩) ++
  (List.range 8).map (fun n => ⟨R.PWR.ASQ_THR_LO n, .rw, 0, .ret⟩) ++
  (List.range 8).map (fun n => ⟨R.PWR.ASQ_THR_HI n, .rw, 0, .ret⟩)

/-- The stored fields of the CLK table (04_power_domains_clocks.md). -/
def rowsCLK : List Row :=
  [⟨R.CLK.STAT_XO_ON, .ro, 0, .none⟩,
   ⟨R.CLK.STAT_XO_OK, .ro, 0, .none⟩,
   ⟨R.CLK.STAT_PLL_LOCK, .ro, 0, .none⟩,
   ⟨R.CLK.STAT_LF_OK, .ro, 0, .none⟩,
   ⟨R.CLK.STAT_STITCHING, .ro, 0, .none⟩,
   ⟨R.CLK.HOSTREQ_XO, .rw, 0, .none⟩,
   ⟨R.CLK.HOSTREQ_PLL, .rw, 0, .none⟩,
   ⟨R.CLK.STITCH_INC, .rw, 96000000, .none⟩,
   ⟨R.CLK.LFMEAS_COUNT, .ro, 0, .none⟩,
   ⟨R.CLK.STARTS_COUNT, .ro, 0, .none⟩] ++
  (List.range 12).map (fun k => ⟨R.CLK.ENGDIV k, .rwl, 0, .none⟩)

/-- The stored fields of the FAULT table (03_modes_startup_faults.md). -/
def rowsFAULT : List Row :=
  [⟨R.FAULT.STATUS_ACTIVE, .ro, 0, .none⟩,
   ⟨R.FAULT.STATUS_SVALID, .ro, 0, .none⟩,
   ⟨R.FAULT.STATUS_ESCALATED, .w1c, 0, .none⟩,
   ⟨R.FAULT.STATUS_NEST, .ro, 0, .none⟩,
   ⟨R.FAULT.STATUS_ESC_WIN, .ro, 0, .none⟩,
   ⟨R.FAULT.P_INFO_CAUSE, .ro, 0, .none⟩,
   ⟨R.FAULT.P_INFO_SRC, .ro, 0, .none⟩,
   ⟨R.FAULT.P_INFO_DETAIL, .ro, 0, .none⟩,
   ⟨R.FAULT.P_ADDR_ADDR, .ro, 0, .none⟩,
   ⟨R.FAULT.P_TIME_SEC, .ro, 0, .none⟩,
   ⟨R.FAULT.S_INFO_CAUSE, .ro, 0, .none⟩,
   ⟨R.FAULT.S_INFO_SRC, .ro, 0, .none⟩,
   ⟨R.FAULT.S_INFO_DETAIL, .ro, 0, .none⟩,
   ⟨R.FAULT.S_ADDR_ADDR, .ro, 0, .none⟩,
   ⟨R.FAULT.S_TIME_SEC, .ro, 0, .none⟩,
   ⟨R.FAULT.COUNT_TOTAL, .ro, 0, .ret⟩,
   ⟨R.FAULT.WDOG_WDOG_MS, .rwl, 10, .none⟩]

/-- The stored fields of the RET table (03_modes_startup_faults.md). -/
def rowsRET : List Row :=
  [⟨R.RET.STAT_BUSY, .ro, 0, .none⟩,
   ⟨R.RET.STAT_FLASH_ERR, .ro, 0, .none⟩,
   ⟨R.RET.STAT_SEQ, .ro, 0, .ret⟩,
   ⟨R.RET.LEN_BYTES, .ro, 0, .ret⟩]

/-- The stored fields of the ENG table (15_flint_microcode_cluster.md). -/
def rowsENG : List Row :=
  (List.range 12).map (fun e => ⟨R.ENG.KFMT e, .rw, ([1, 0, 0, 0, 0, 0, 0, 0, 0, 0, 0, 0] : List Nat).getD e 0, .none⟩) ++
  (List.range 12).map (fun e => ⟨R.ENG.STAT_STALLED e, .ro, 0, .none⟩) ++
  (List.range 12).map (fun e => ⟨R.ENG.STAT_KFMT_ON e, .ro, 0, .none⟩) ++
  (List.range 12).map (fun e => ⟨R.ENG.STAT_MC_OK e, .ro, 0, .none⟩) ++
  (List.range 12).map (fun e => ⟨R.ENG.STAT_GEN e, .ro, 0, .none⟩) ++
  (List.range 12).map (fun e => ⟨R.ENG.STAT_WDEXP e, .ro, 0, .none⟩) ++
  (List.range 12).map (fun e => ⟨R.ENG.BRKPT_ADDR e, .rw, 0, .none⟩) ++
  (List.range 12).map (fun e => ⟨R.ENG.BRKPT_EN e, .rw, 0, .none⟩) ++
  (List.range 12).map (fun e => ⟨R.ENG.WDOG_MS e, .rw, 100, .none⟩) ++
  (List.range 12).map (fun e => ⟨R.ENG.LASTREF_REASON e, .rc, 0, .none⟩) ++
  (List.range 12).map (fun e => ⟨R.ENG.LASTREF_ADDR e, .rc, 0, .none⟩) ++
  (List.range 12).map (fun e => ⟨R.ENG.LASTREF_WR e, .rc, 0, .none⟩) ++
  (List.range 12).map (fun e => ⟨R.ENG.REFCNT_COUNT e, .rc, 0, .none⟩) ++
  (List.range 12).map (fun e => ⟨R.ENG.DBGSEL_REG e, .rw, 0, .none⟩)

/-- The stored fields of the MCODE table (15_flint_microcode_cluster.md). -/
def rowsMCODE : List Row :=
  [⟨R.MCODE.SEL_ENG, .rw, 0, .none⟩,
   ⟨R.MCODE.ADDR_UADDR, .rw, 0, .none⟩,
   ⟨R.MCODE.STAT_SCRUB_ERR, .ro, 0, .none⟩,
   ⟨R.MCODE.STAT_FAILADDR, .ro, 0, .none⟩]

/-- The stored fields of the COLLECT table (15_flint_microcode_cluster.md). -/
def rowsCOLLECT : List Row :=
  [⟨R.COLLECT.RESP0_VALUE, .rw, 0, .none⟩,
   ⟨R.COLLECT.CNT_POSTS, .rc, 0, .none⟩,
   ⟨R.COLLECT.CNT_STALLS, .rc, 0, .none⟩]

/-- The stored fields of the EVT table (16_event_fabric_timers.md). -/
def rowsEVT : List Row :=
  [⟨R.EVT.QLOST_MAP, .rc, 0, .none⟩] ++
  (List.range 64).map (fun n => ⟨R.EVT.SEL_SRC n, .rw, ([126, 126, 127, 127, 127, 127, 127, 127, 127, 127, 127, 127, 127, 127, 127, 127, 127, 127, 127, 127, 127, 127, 127, 127, 127, 127, 127, 127, 127, 127, 127, 127, 127, 127, 127, 127, 127, 127, 127, 127, 127, 127, 127, 127, 127, 127, 127, 127, 127, 127, 127, 127, 127, 127, 127, 127, 127, 127, 127, 127, 127, 127, 127, 127] : List Nat).getD n 0, .none⟩) ++
  (List.range 64).map (fun n => ⟨R.EVT.SEL_OWNER n, .rw, ([0, 0, 0, 1, 1, 1, 2, 2, 2, 3, 3, 3, 4, 4, 4, 5, 5, 5, 6, 6, 6, 7, 7, 7, 8, 8, 8, 9, 9, 9, 10, 10, 10, 11, 11, 11, 4, 4, 4, 4, 1, 2, 3, 0, 12, 12, 12, 12, 10, 10, 11, 11, 6, 6, 8, 8, 9, 5, 12, 12, 12, 12, 10, 11] : List Nat).getD n 0, .none⟩) ++
  (List.range 64).map (fun n => ⟨R.EVT.SEL_SEC n, .ro, ([1, 1, 1, 1, 1, 1, 1, 1, 1, 1, 1, 1, 1, 1, 1, 1, 1, 1, 1, 1, 1, 1, 1, 1, 1, 1, 1, 1, 1, 1, 0, 0, 0, 0, 0, 0, 1, 1, 1, 1, 1, 1, 1, 1, 0, 0, 0, 0, 0, 0, 0, 0, 1, 1, 1, 1, 1, 1, 0, 0, 0, 0, 0, 0] : List Nat).getD n 0, .none⟩) ++
  (List.range 64).map (fun n => ⟨R.EVT.SEL_PEND n, .ro, 0, .none⟩) ++
  (List.range 64).map (fun n => ⟨R.EVT.SEL_OVR n, .w1c, 0, .none⟩) ++
  (List.range 64).map (fun n => ⟨R.EVT.SEL_FIXED n, .ro, ([1, 1, 0, 0, 0, 0, 0, 0, 0, 0, 0, 0, 0, 0, 0, 0, 0, 0, 0, 0, 0, 0, 0, 0, 0, 0, 0, 0, 0, 0, 0, 0, 0, 0, 0, 0, 0, 0, 0, 0, 0, 0, 0, 0, 0, 0, 0, 0, 0, 0, 0, 0, 0, 0, 0, 0, 0, 0, 0, 0, 0, 0, 0, 0] : List Nat).getD n 0, .none⟩) ++
  (List.range 32).map (fun k => ⟨R.EVT.TAP_PAGE k, .rw, 0, .none⟩) ++
  (List.range 32).map (fun k => ⟨R.EVT.TAP_BIT k, .rw, 0, .none⟩) ++
  (List.range 32).map (fun k => ⟨R.EVT.TAP_EN k, .rw, 0, .none⟩) ++
  (List.range 32).map (fun k => ⟨R.EVT.TAP_OWNER k, .rw, ([12, 12, 12, 12, 12, 12, 12, 12, 12, 12, 12, 12, 12, 12, 12, 12, 10, 10, 10, 10, 10, 10, 10, 10, 11, 11, 11, 11, 0, 0, 0, 0] : List Nat).getD k 0, .none⟩) ++
  (List.range 32).map (fun k => ⟨R.EVT.TAP_SEC k, .ro, 0, .none⟩)

/-- The stored fields of the TIM table (16_event_fabric_timers.md). -/
def rowsTIM : List Row :=
  (List.range 16).map (fun i => ⟨R.TIM.CFG_DIV i, .rw, 0, .none⟩) ++
  (List.range 16).map (fun i => ⟨R.TIM.CFG_GOSEL i, .rw, 0, .none⟩) ++
  (List.range 16).map (fun i => ⟨R.TIM.CFG_CMPEN i, .rw, 0, .none⟩) ++
  (List.range 16).map (fun i => ⟨R.TIM.CFG_LATEFIRE i, .rw, 0, .none⟩) ++
  (List.range 16).map (fun i => ⟨R.TIM.CFG_OWNER i, .rw, ([4, 4, 4, 4, 1, 2, 3, 0, 12, 12, 12, 12, 10, 10, 11, 11] : List Nat).getD i 0, .none⟩) ++
  (List.range 16).map (fun i => ⟨R.TIM.CNT_COUNT i, .rw, 0, .none⟩) ++
  (List.range 16).flatMap (fun i => (List.range 4).map (fun j => ⟨R.TIM.CMP_VALUE i j, .rw, 0, .none⟩)) ++
  (List.range 16).flatMap (fun i => (List.range 4).map (fun j => ⟨R.TIM.INT_INTERVAL i j, .rw, 0, .none⟩)) ++
  (List.range 16).map (fun i => ⟨R.TIM.CAP_VALUE i, .ro, 0, .none⟩) ++
  (List.range 16).map (fun i => ⟨R.TIM.STAT_MATCH i, .w1c, 0, .none⟩) ++
  (List.range 16).map (fun i => ⟨R.TIM.STAT_LATE i, .w1c, 0, .none⟩) ++
  (List.range 16).map (fun i => ⟨R.TIM.STAT_CAPFULL i, .ro, 0, .none⟩) ++
  (List.range 16).map (fun i => ⟨R.TIM.STAT_CAPOVR i, .w1c, 0, .none⟩) ++
  (List.range 16).map (fun i => ⟨R.TIM.STAT_CAPLF i, .ro, 0, .none⟩) ++
  (List.range 16).map (fun i => ⟨R.TIM.STAT_RUN i, .ro, 0, .none⟩)

/-- The stored fields of the RTC table (17_rtc_calendar.md). -/
def rowsRTC : List Row :=
  [⟨R.RTC.SCNT_SUB, .rw, 0, .none⟩,
   ⟨R.RTC.SCNT_SEC_L, .rw, 0, .none⟩,
   ⟨R.RTC.SCNT_SEC_H, .rw, 0, .none⟩,
   ⟨R.RTC.SCAL_SEC, .rw, 0, .none⟩,
   ⟨R.RTC.SCAL_MIN, .rw, 0, .none⟩,
   ⟨R.RTC.SCAL_HOUR, .rw, 0, .none⟩,
   ⟨R.RTC.SCAL_WDAY, .rw, 0, .none⟩,
   ⟨R.RTC.SCAL_DAY, .rw, 0, .none⟩,
   ⟨R.RTC.SCAL_MONTH, .rw, 0, .none⟩,
   ⟨R.RTC.SCAL_YEAR, .rw, 0, .none⟩,
   ⟨R.RTC.SHIFT_TICKS, .rw, 0, .none⟩,
   ⟨R.RTC.SHIFT_BUSY, .ro, 0, .none⟩,
   ⟨R.RTC.STAT_OSF, .ro, 1, .none⟩,
   ⟨R.RTC.STAT_PENDING, .ro, 0, .none⟩,
   ⟨R.RTC.STAT_RANGE, .ro, 0, .none⟩,
   ⟨R.RTC.STAT_GLITCH, .w1c, 0, .none⟩,
   ⟨R.RTC.STAT_SHIFT_CXL, .w1c, 0, .none⟩,
   ⟨R.RTC.STAT_CHG_ST, .ro, 0, .none⟩,
   ⟨R.RTC.CHG_ILIM, .rw, 0, .ret⟩,
   ⟨R.RTC.CHG_VEND, .rw, 0, .ret⟩] ++
  (List.range 2).map (fun n => ⟨R.RTC.ALM_SEC n, .rw, 0, .none⟩) ++
  (List.range 2).map (fun n => ⟨R.RTC.ALM_MIN n, .rw, 0, .none⟩) ++
  (List.range 2).map (fun n => ⟨R.RTC.ALM_HOUR n, .rw, 0, .none⟩) ++
  (List.range 2).map (fun n => ⟨R.RTC.ALM_WDAY n, .rw, 0, .none⟩) ++
  (List.range 2).map (fun n => ⟨R.RTC.ALM_DAY n, .rw, 0, .none⟩) ++
  (List.range 2).map (fun n => ⟨R.RTC.ALM_MONTH n, .rw, 0, .none⟩) ++
  (List.range 2).map (fun n => ⟨R.RTC.ALM_YEAR n, .rw, 0, .none⟩) ++
  (List.range 2).map (fun n => ⟨R.RTC.ALM_CTL_MASK n, .rw, 0, .none⟩) ++
  (List.range 2).map (fun n => ⟨R.RTC.ALM_CTL_EN n, .rw, 0, .none⟩) ++
  (List.range 2).map (fun n => ⟨R.RTC.ALM_CTL_ONESHOT n, .rw, 0, .none⟩)

/-- The stored fields of the DMA table (18_dma.md). -/
def rowsDMA : List Row :=
  [⟨R.DMA.BUSADDR_ADDR, .ro, 0, .none⟩,
   ⟨R.DMA.REFADDR_ADDR, .ro, 0, .none⟩,
   ⟨R.DMA.CNT_REFCNT, .rc, 0, .none⟩,
   ⟨R.DMA.CNT_BUSERRCNT, .rc, 0, .none⟩] ++
  (List.range 16).map (fun c => ⟨R.DMA.CFG_ENTRIES c, .rw, 1, .none⟩) ++
  (List.range 16).map (fun c => ⟨R.DMA.CFG_OWNER c, .rw, ([6, 6, 8, 8, 9, 5, 12, 12, 12, 12, 10, 11, 12, 12, 12, 12] : List Nat).getD c 0, .none⟩) ++
  (List.range 16).map (fun c => ⟨R.DMA.RING_BASE c, .rw, 33652736, .none⟩) ++
  (List.range 16).map (fun c => ⟨R.DMA.CTL_RUN c, .rw, 0, .none⟩) ++
  (List.range 16).map (fun c => ⟨R.DMA.STAT_ST c, .ro, 0, .none⟩) ++
  (List.range 16).map (fun c => ⟨R.DMA.STAT_IDX c, .rw, 0, .none⟩) ++
  (List.range 16).map (fun c => ⟨R.DMA.STAT_REASON c, .ro, 0, .none⟩)

/-- The stored fields of the RF table (06_rf_front_end.md). -/
def rowsRF : List Row :=
  (List.range 2).map (fun c => ⟨R.RF.CFG_MAXPWR c, .rw, ([60, 40] : List Nat).getD c 0, .ret⟩) ++
  (List.range 2).map (fun c => ⟨R.RF.CFG_ANTGAIN c, .rwl, 128, .ret⟩) ++
  (List.range 2).map (fun c => ⟨R.RF.STAT_CH_ST c, .ro, 0, .none⟩) ++
  (List.range 2).map (fun c => ⟨R.RF.STAT_LOCK c, .ro, 0, .none⟩) ++
  (List.range 2).map (fun c => ⟨R.RF.STAT_CHAN c, .ro, 0, .none⟩) ++
  (List.range 2).map (fun c => ⟨R.RF.RSSI_LAST c, .ro, 128, .none⟩) ++
  (List.range 2).map (fun c => ⟨R.RF.RSSI_FLOOR c, .ro, 128, .none⟩) ++
  (List.range 2).map (fun c => ⟨R.RF.TXABN0_SYNTH c, .rc, 0, .none⟩) ++
  (List.range 2).map (fun c => ⟨R.RF.TXABN0_DUTY c, .rc, 0, .none⟩) ++
  (List.range 2).map (fun c => ⟨R.RF.TXABN0_COEX c, .rc, 0, .none⟩) ++
  (List.range 2).map (fun c => ⟨R.RF.TXABN0_CCA c, .rc, 0, .none⟩) ++
  (List.range 2).map (fun c => ⟨R.RF.TXABN1_SPACING c, .rc, 0, .none⟩) ++
  (List.range 2).map (fun c => ⟨R.RF.TXABN1_CAL c, .rc, 0, .none⟩) ++
  (List.range 2).map (fun c => ⟨R.RF.TXABN1_SUPPLY c, .rc, 0, .none⟩)

/-- The stored fields of the RFCAL table (06_rf_front_end.md). -/
def rowsRFCAL : List Row :=
  [⟨R.RFCAL.STAT_BUSY_A, .ro, 0, .none⟩,
   ⟨R.RFCAL.STAT_BUSY_B, .ro, 0, .none⟩,
   ⟨R.RFCAL.STAT_FAIL_A, .ro, 0, .none⟩,
   ⟨R.RFCAL.STAT_FAIL_B, .ro, 0, .none⟩,
   ⟨R.RFCAL.STAT_RAMP_DEF_A, .ro, 0, .none⟩,
   ⟨R.RFCAL.STAT_RAMP_DEF_B, .ro, 0, .none⟩,
   ⟨R.RFCAL.STAT_FAILRUN_A, .ro, 0, .none⟩,
   ⟨R.RFCAL.STAT_FAILRUN_B, .ro, 0, .none⟩,
   ⟨R.RFCAL.STAT_TEMP_CAL_A, .ro, 0, .none⟩,
   ⟨R.RFCAL.STAT_TEMP_CAL_B, .ro, 0, .none⟩,
   ⟨R.RFCAL.PREEMPT_A, .rc, 0, .none⟩,
   ⟨R.RFCAL.PREEMPT_B, .rc, 0, .none⟩,
   ⟨R.RFCAL.XOTRIM_CODE, .ro, 0, .none⟩,
   ⟨R.RFCAL.XOTRIM_TEMP, .ro, 0, .none⟩] ++
  (List.range 2).map (fun c => ⟨R.RFCAL.IMG_GAIN c, .ro, 0, .none⟩) ++
  (List.range 2).map (fun c => ⟨R.RFCAL.IMG_PHASE c, .ro, 0, .none⟩) ++
  (List.range 2).map (fun c => ⟨R.RFCAL.FILT_BW c, .ro, 0, .none⟩) ++
  (List.range 2).map (fun c => ⟨R.RFCAL.DC_I c, .ro, 0, .none⟩) ++
  (List.range 2).map (fun c => ⟨R.RFCAL.DC_Q c, .ro, 0, .none⟩) ++
  (List.range 2).map (fun c => ⟨R.RFCAL.SYN_VCO c, .ro, 0, .none⟩) ++
  (List.range 2).map (fun c => ⟨R.RFCAL.SYN_CALCNT c, .ro, 0, .none⟩) ++
  (List.range 2).flatMap (fun c => (List.range 16).map (fun j => ⟨R.RFCAL.RAMP_E2J c j, .ro, 0, .factory⟩)) ++
  (List.range 2).flatMap (fun c => (List.range 16).map (fun j => ⟨R.RFCAL.RAMP_E2J1 c j, .ro, 0, .factory⟩))

/-- The stored fields of the TUNER table (06_rf_front_end.md). -/
def rowsTUNER : List Row :=
  [⟨R.TUNER.STAT_STATE, .ro, 0, .none⟩,
   ⟨R.TUNER.STAT_MISMATCH, .ro, 0, .none⟩,
   ⟨R.TUNER.STAT_RL, .ro, 0, .none⟩,
   ⟨R.TUNER.MMCNT_COUNT, .rc, 0, .none⟩] ++
  (List.range 46).map (fun s => ⟨R.TUNER.TABLE s, .ro, 0, .ret⟩)

/-- The stored fields of the MICA table (06_rf_front_end.md). -/
def rowsMICA : List Row :=
  [⟨R.MICA.CFG_FREQ, .rw, 0, .ret⟩,
   ⟨R.MICA.CFG_CALLMS, .rw, 1100, .ret⟩,
   ⟨R.MICA.ID0_ID, .rw, 0, .ret⟩,
   ⟨R.MICA.ID1_ID, .rw, 0, .ret⟩,
   ⟨R.MICA.THR_DBM, .rw, 171, .ret⟩,
   ⟨R.MICA.STAT_LISTEN, .ro, 0, .none⟩,
   ⟨R.MICA.COUNT_MATCH, .rc, 0, .none⟩,
   ⟨R.MICA.COUNT_CRCERR, .rc, 0, .none⟩,
   ⟨R.MICA.LAST_ID, .ro, 0, .none⟩]

/-- The stored fields of the COEX table (06_rf_front_end.md). -/
def rowsCOEX : List Row :=
  [⟨R.COEX.CFG_RXREQ, .rw, 0, .ret⟩,
   ⟨R.COEX.CFG_PRI_FORCE, .rw, 1, .ret⟩,
   ⟨R.COEX.CFG_GNT_POL, .rw, 1, .ret⟩,
   ⟨R.COEX.CFG_ACKPRI, .rw, 0, .ret⟩,
   ⟨R.COEX.CFG_LEAD_US, .rw, 25, .ret⟩,
   ⟨R.COEX.STAT_GNT, .ro, 0, .none⟩,
   ⟨R.COEX.DENYCNT_COUNT, .rc, 0, .none⟩,
   ⟨R.COEX.OVRCNT_COUNT, .rc, 0, .none⟩]

/-- The stored fields of the PHYRF table (07_rf_phy.md). -/
def rowsPHYRF : List Row :=
  [⟨R.PHYRF.CFG_OVR_A, .rw, 0, .ret⟩,
   ⟨R.PHYRF.CFG_OVR_B, .rw, 0, .ret⟩,
   ⟨R.PHYRF.CFG_FB_A, .rw, 0, .ret⟩,
   ⟨R.PHYRF.CFG_FB_B, .rw, 0, .ret⟩,
   ⟨R.PHYRF.CFG_ILV, .rw, 0, .ret⟩,
   ⟨R.PHYRF.SRCH_LANES, .rw, 63, .ret⟩,
   ⟨R.PHYRF.SRCH_Q100, .rw, 0, .ret⟩,
   ⟨R.PHYRF.SRCH_Q150, .rw, 0, .ret⟩,
   ⟨R.PHYRF.PRIO_ORDER, .rw, 5475, .ret⟩,
   ⟨R.PHYRF.STAT_CONF, .ro, 1, .none⟩,
   ⟨R.PHYRF.STAT_BANKCH, .ro, 0, .none⟩,
   ⟨R.PHYRF.STAT_HOLD, .ro, 7, .none⟩,
   ⟨R.PHYRF.SRCHCNT_DET, .rc, 0, .none⟩,
   ⟨R.PHYRF.SRCHCNT_TIE, .rc, 0, .none⟩,
   ⟨R.PHYRF.SRCHCNT_LOSTDET, .rc, 0, .none⟩,
   ⟨R.PHYRF.OVRCNT_A, .rc, 0, .none⟩,
   ⟨R.PHYRF.OVRCNT_B, .rc, 0, .none⟩,
   ⟨R.PHYRF.NOFIT_A, .rc, 0, .none⟩,
   ⟨R.PHYRF.NOFIT_B, .rc, 0, .none⟩] ++
  (List.range 6).map (fun l => ⟨R.PHYRF.SCORE_T l, .rw, 144, .ret⟩) ++
  (List.range 2).map (fun c => ⟨R.PHYRF.CNT_FALSE_ED c, .rc, 0, .none⟩) ++
  (List.range 2).map (fun c => ⟨R.PHYRF.CNT_SFD_TO c, .rc, 0, .none⟩) ++
  (List.range 2).map (fun c => ⟨R.PHYRF.CNT_PHR_ERR c, .rc, 0, .none⟩) ++
  (List.range 2).map (fun c => ⟨R.PHYRF.CNT_FCS_ERR c, .rc, 0, .none⟩) ++
  (List.range 16).map (fun k => ⟨R.PHYRF.PROF_CFG_MODE k, .rw, ([4, 0, 0, 0, 0, 0, 0, 0, 0, 0, 0, 0, 0, 0, 0, 0] : List Nat).getD k 0, .ret⟩) ++
  (List.range 16).map (fun k => ⟨R.PHYRF.PROF_CFG_FCS16 k, .rw, 0, .ret⟩) ++
  (List.range 16).map (fun k => ⟨R.PHYRF.PROF_CFG_DW k, .rw, 1, .ret⟩) ++
  (List.range 16).map (fun k => ⟨R.PHYRF.PROF_CFG_PREAMBLE k, .rw, 8, .ret⟩) ++
  (List.range 16).map (fun k => ⟨R.PHYRF.PROF_THR_ED k, .rw, 128, .ret⟩) ++
  (List.range 16).map (fun k => ⟨R.PHYRF.PROF_THR_QUAL k, .rw, 128, .ret⟩)

/-- The stored fields of the PLCAFE table (08_plc_phy.md). -/
def rowsPLCAFE : List Row :=
  [⟨R.PLCAFE.CFG_TXATT, .rw, 0, .ret⟩,
   ⟨R.PLCAFE.CFG_OUTLIER, .rw, 50, .ret⟩,
   ⟨R.PLCAFE.STAT_DRV_ON, .ro, 0, .none⟩,
   ⟨R.PLCAFE.STAT_LOWZ, .ro, 0, .none⟩,
   ⟨R.PLCAFE.STAT_THERM, .ro, 0, .none⟩,
   ⟨R.PLCAFE.STAT_HZERR, .ro, 0, .none⟩,
   ⟨R.PLCAFE.STAT_ATT, .ro, 0, .none⟩,
   ⟨R.PLCAFE.STAT_ZLINE, .ro, 0, .none⟩,
   ⟨R.PLCAFE.ZXLAST_SLOT_US, .ro, 0, .none⟩,
   ⟨R.PLCAFE.ZXLAST_ASN, .ro, 0, .none⟩,
   ⟨R.PLCAFE.ZXPER_PERIOD, .ro, 0, .none⟩,
   ⟨R.PLCAFE.ZXCNT_OUTLIER, .rc, 0, .none⟩,
   ⟨R.PLCAFE.ZXCNT_MISS, .rc, 0, .none⟩]

/-- The stored fields of the PLCPHY table (08_plc_phy.md). -/
def rowsPLCPHY : List Row :=
  [⟨R.PLCPHY.CFG_DETTHR, .rw, 144, .ret⟩,
   ⟨R.PLCPHY.CFG_ROBUST_ONLY, .rw, 0, .ret⟩,
   ⟨R.PLCPHY.STAT_ST, .ro, 0, .none⟩,
   ⟨R.PLCPHY.SOUND_NSOUND, .rw, 256, .ret⟩,
   ⟨R.PLCPHY.SOUND_MERGE_DB, .rw, 3, .ret⟩,
   ⟨R.PLCPHY.SOUND_AUTO, .rw, 1, .ret⟩,
   ⟨R.PLCPHY.SNDSTAT_RUNS, .ro, 0, .none⟩,
   ⟨R.PLCPHY.SNDSTAT_HC, .ro, 0, .none⟩,
   ⟨R.PLCPHY.CNT_FALSE_DET, .rc, 0, .none⟩,
   ⟨R.PLCPHY.CNT_FCH_ERR, .rc, 0, .none⟩,
   ⟨R.PLCPHY.CNT_LDPC_FAIL, .rc, 0, .none⟩,
   ⟨R.PLCPHY.CNT_FCS_ERR, .rc, 0, .none⟩,
   ⟨R.PLCPHY.CNT2_VERMISS, .rc, 0, .none⟩,
   ⟨R.PLCPHY.CNT2_NOFIT, .rc, 0, .none⟩,
   ⟨R.PLCPHY.CNT2_BUSY, .rc, 0, .none⟩,
   ⟨R.PLCPHY.CNT2_ABORT, .rc, 0, .none⟩] ++
  (List.range 16).map (fun b => ⟨R.PLCPHY.ZMAP b, .rw, 0, .ret⟩) ++
  (List.range 7).map (fun k => ⟨R.PLCPHY.NOTCH_MASK k, .rwl, 0, .ret⟩) ++
  (List.range 16).map (fun b => ⟨R.PLCPHY.NOISE_MEAN b, .ro, 0, .none⟩) ++
  (List.range 16).map (fun b => ⟨R.PLCPHY.NOISE_MAX b, .ro, 0, .none⟩)

/-- The stored fields of the TONEMAP table (08_plc_phy.md). -/
def rowsTONEMAP : List Row :=
  [⟨R.TONEMAP.CFG_MARGIN, .rw, 3, .ret⟩,
   ⟨R.TONEMAP.CFG_CHANGE_PCT, .rw, 10, .ret⟩,
   ⟨R.TONEMAP.CFG_FREEZE, .rw, 0, .ret⟩,
   ⟨R.TONEMAP.STAT_GEN, .ro, 0, .none⟩,
   ⟨R.TONEMAP.SEL_SLOT, .rw, 0, .none⟩,
   ⟨R.TONEMAP.SEL_REGION, .rw, 0, .none⟩,
   ⟨R.TONEMAP.SEL_DIR, .rw, 0, .none⟩,
   ⟨R.TONEMAP.EVENTS_EVICT, .rc, 0, .none⟩,
   ⟨R.TONEMAP.EVENTS_FALLBACK, .rc, 0, .none⟩,
   ⟨R.TONEMAP.EVENTS_ISSUED, .rc, 0, .none⟩] ++
  (List.range 3).flatMap (fun r => (List.range 5).map (fun j => ⟨R.TONEMAP.THR r j, .rw, (([[2, 5, 9, 11, 17], [4, 7, 11, 13, 19], [6, 9, 13, 15, 21]] : List (List Nat)).getD r []).getD j 0, .ret⟩))

/-- The stored fields of the SCHED table (09_link_schedule.md). -/
def rowsSCHED : List Row :=
  [⟨R.SCHED.CFG_DRIFT_PPM, .rw, 30, .ret⟩,
   ⟨R.SCHED.CFG_DUAL, .rw, 1, .ret⟩,
   ⟨R.SCHED.CFG_BEACON_N, .rw, 1, .ret⟩,
   ⟨R.SCHED.CFG_KA_S, .rw, 20, .ret⟩,
   ⟨R.SCHED.GUARD_BASE_US, .ro, 400, .none⟩,
   ⟨R.SCHED.GUARD_CAP_US, .rw, 4000, .ret⟩,
   ⟨R.SCHED.STAT_TIMING, .ro, 0, .none⟩,
   ⟨R.SCHED.STAT_PLL_LOCK, .ro, 0, .none⟩,
   ⟨R.SCHED.STAT_LOCK_HELD, .ro, 0, .none⟩,
   ⟨R.SCHED.STAT_PHASE_MM, .ro, 0, .none⟩,
   ⟨R.SCHED.STAT_SLEWING, .ro, 0, .none⟩,
   ⟨R.SCHED.STAT_SOURCE, .ro, 255, .none⟩,
   ⟨R.SCHED.LQE_WEIGHT, .rw, 3, .ret⟩,
   ⟨R.SCHED.LQE_MINQ, .rw, 13, .ret⟩,
   ⟨R.SCHED.LQE_PROBE_N, .rw, 32, .ret⟩,
   ⟨R.SCHED.POLL_POLL_S, .rw, 30, .ret⟩,
   ⟨R.SCHED.POLL_RESP_SLOTS, .rw, 8, .ret⟩,
   ⟨R.SCHED.ALARM_CHOFF, .rw, 0, .ret⟩,
   ⟨R.SCHED.ALARM_PROF_A, .rw, 0, .ret⟩,
   ⟨R.SCHED.ALARM_PROF_B, .rw, 0, .ret⟩,
   ⟨R.SCHED.ALARM_LISTEN, .rw, 1, .ret⟩,
   ⟨R.SCHED.ALMOFF_TXOFF, .rw, 1000, .ret⟩,
   ⟨R.SCHED.HOP_SEED, .rw, 1, .ret⟩,
   ⟨R.SCHED.CELLD0_SF, .rw, 0, .none⟩,
   ⟨R.SCHED.CELLD0_SLOT, .rw, 0, .none⟩,
   ⟨R.SCHED.CELLD0_CHOFF, .rw, 0, .none⟩,
   ⟨R.SCHED.CELLD0_LEN, .rw, 1, .none⟩,
   ⟨R.SCHED.CELLD1_TYPE, .rw, 0, .none⟩,
   ⟨R.SCHED.CELLD1_MEDIA, .rw, 7, .none⟩,
   ⟨R.SCHED.CELLD1_NBR, .rw, 255, .none⟩] ++
  [⟨R.SCHED.CELLD1_TXOFF, .rw, 1000, .none⟩,
   ⟨R.SCHED.CELLD2_PROF_A, .rw, 0, .none⟩,
   ⟨R.SCHED.CELLD2_PROF_B, .rw, 0, .none⟩,
   ⟨R.SCHED.CELLD2_OUTAGE, .rw, 0, .none⟩,
   ⟨R.SCHED.CELLD3_INDEX, .ro, 0, .none⟩,
   ⟨R.SCHED.CELLD3_MIGRATED, .ro, 0, .none⟩,
   ⟨R.SCHED.CELLD3_VALID, .ro, 0, .none⟩,
   ⟨R.SCHED.NBRSEL_INDEX, .rw, 0, .none⟩,
   ⟨R.SCHED.CNT_UNSYNC, .rc, 0, .none⟩,
   ⟨R.SCHED.CNT_RESYNC, .rc, 0, .none⟩,
   ⟨R.SCHED.CNT_WAKECALL, .rc, 0, .none⟩,
   ⟨R.SCHED.CNT_LOST, .rc, 0, .none⟩,
   ⟨R.SCHED.CNT2_SKIP, .rc, 0, .none⟩,
   ⟨R.SCHED.CNT2_MIGRATE, .rc, 0, .none⟩,
   ⟨R.SCHED.CNT2_ALM_RX, .rc, 0, .none⟩] ++
  (List.range 5).map (fun k => ⟨R.SCHED.HOPMASK_MASK k, .rw, 0, .ret⟩) ++
  (List.range 8).map (fun k => ⟨R.SCHED.SF_LEN k, .rw, ([100, 0, 0, 0, 0, 0, 0, 0] : List Nat).getD k 0, .ret⟩) ++
  (List.range 8).map (fun k => ⟨R.SCHED.SF_EN k, .rw, ([1, 0, 0, 0, 0, 0, 0, 0] : List Nat).getD k 0, .ret⟩)

/-- The stored fields of the LINK table (10_link_security_acks.md). -/
def rowsLINK : List Row :=
  [⟨R.LINK.CFG_ACKSEC, .rw, 0, .ret⟩,
   ⟨R.LINK.CFG_MINBE, .rw, 1, .ret⟩,
   ⟨R.LINK.CFG_MAXBE, .rw, 5, .ret⟩,
   ⟨R.LINK.RETRY_ALARM, .rw, 8, .ret⟩,
   ⟨R.LINK.RETRY_CONTROL, .rw, 6, .ret⟩,
   ⟨R.LINK.RETRY_TELEMETRY, .rw, 4, .ret⟩,
   ⟨R.LINK.RETRY_BULK, .rw, 3, .ret⟩,
   ⟨R.LINK.TXLATE_LATE, .w1c, 0, .none⟩,
   ⟨R.LINK.TXLATE_LAST_US, .ro, 0, .none⟩,
   ⟨R.LINK.TXLATE_MEDIUM, .ro, 0, .none⟩,
   ⟨R.LINK.NBRSEL_INDEX, .rw, 0, .none⟩,
   ⟨R.LINK.CNT0_ACKED, .rc, 0, .none⟩,
   ⟨R.LINK.CNT0_NOACK, .rc, 0, .none⟩,
   ⟨R.LINK.CNT0_DROP, .rc, 0, .none⟩,
   ⟨R.LINK.CNT1_RX_NEW, .rc, 0, .none⟩,
   ⟨R.LINK.CNT1_DUP, .rc, 0, .none⟩,
   ⟨R.LINK.CNT1_BADVER, .rc, 0, .none⟩,
   ⟨R.LINK.CNT2_LATE, .rc, 0, .none⟩,
   ⟨R.LINK.CNT2_UNKNOWN_SRC, .rc, 0, .none⟩]

/-- The stored fields of the LINKSEC table (10_link_security_acks.md). -/
def rowsLINKSEC : List Row :=
  [⟨R.LINKSEC.CFG_SECLVL, .rw, 5, .ret⟩,
   ⟨R.LINKSEC.KEYSEL_SLOT, .rw, 0, .none⟩,
   ⟨R.LINKSEC.TXKEY_NET, .rw, 0, .ret⟩,
   ⟨R.LINKSEC.KSW0_ASN_L, .rw, 0, .none⟩,
   ⟨R.LINKSEC.KSW1_ASN_H, .rw, 0, .none⟩,
   ⟨R.LINKSEC.KSW1_NEXT, .rw, 0, .none⟩,
   ⟨R.LINKSEC.KSW1_ARM, .rw, 0, .none⟩,
   ⟨R.LINKSEC.CNT_MIC_FAIL, .rc, 0, .none⟩,
   ⟨R.LINKSEC.CNT_STALE, .rc, 0, .none⟩,
   ⟨R.LINKSEC.CNT_NOSEC, .rc, 0, .none⟩,
   ⟨R.LINKSEC.CNT_KEYWAIT, .rc, 0, .none⟩,
   ⟨R.LINKSEC.CNT2_UNKNOWN_KEY, .rc, 0, .none⟩]

/-- The stored fields of the MESH table (11_mesh_association.md). -/
def rowsMESH : List Row :=
  [⟨R.MESH.CFG_MAXCHILD, .rw, 32, .ret⟩,
   ⟨R.MESH.CFG_JOINSF, .rw, 1, .ret⟩,
   ⟨R.MESH.CFG_JCHOFF, .rw, 0, .ret⟩,
   ⟨R.MESH.CFG_HYST, .rw, 192, .ret⟩,
   ⟨R.MESH.STAT_JOIN_ST, .ro, 0, .ret⟩,
   ⟨R.MESH.ID0_SHORT, .ro, 0, .ret⟩,
   ⟨R.MESH.ID0_PAN, .ro, 0, .ret⟩,
   ⟨R.MESH.ID1_RANK, .ro, 65535, .none⟩,
   ⟨R.MESH.ID1_HOPS, .ro, 0, .none⟩,
   ⟨R.MESH.SCAN_TIME_S, .rw, 60, .ret⟩,
   ⟨R.MESH.SCAN_MEDIA, .rw, 7, .ret⟩,
   ⟨R.MESH.SCAN_CHAN, .rw, 0, .ret⟩,
   ⟨R.MESH.JOINWAIT_WAIT_S, .rw, 60, .ret⟩,
   ⟨R.MESH.JOINWAIT_TRIES, .rw, 3, .ret⟩,
   ⟨R.MESH.RESSEL_INDEX, .rw, 0, .none⟩,
   ⟨R.MESH.BUFCFG_PERCHILD, .rw, 16, .ret⟩,
   ⟨R.MESH.CNT0_FWD, .rc, 0, .none⟩,
   ⟨R.MESH.CNT0_BCDUP, .rc, 0, .none⟩,
   ⟨R.MESH.CNT1_TTL, .rc, 0, .none⟩,
   ⟨R.MESH.CNT1_LOOP, .rc, 0, .none⟩,
   ⟨R.MESH.CNT1_BADROUTE, .rc, 0, .none⟩,
   ⟨R.MESH.CNT1_PCHG, .rc, 0, .none⟩,
   ⟨R.MESH.CNT2_BUF_FULL, .rc, 0, .none⟩,
   ⟨R.MESH.CNT2_BUF_EXPIRE, .rc, 0, .none⟩,
   ⟨R.MESH.CNT2_NBR_FULL, .rc, 0, .none⟩,
   ⟨R.MESH.CNT2_JOINKEY, .rc, 0, .none⟩]

/-- The stored fields of the ASSOC table (11_mesh_association.md). -/
def rowsASSOC : List Row :=
  [⟨R.ASSOC.CFG_ASK, .rw, 1, .ret⟩,
   ⟨R.ASSOC.CFG_APPROVE_S, .rw, 30, .ret⟩,
   ⟨R.ASSOC.CFG_MAXPEND, .rw, 64, .ret⟩,
   ⟨R.ASSOC.CFG_AGE_D, .rw, 7, .ret⟩,
   ⟨R.ASSOC.STAT_RESTORING, .ro, 0, .none⟩,
   ⟨R.ASSOC.RES_INDEX, .ro, 0, .none⟩,
   ⟨R.ASSOC.RES_FOUND, .ro, 0, .none⟩,
   ⟨R.ASSOC.RES_DONE, .ro, 0, .none⟩,
   ⟨R.ASSOC.SNAP_PERIOD_S, .rw, 60, .ret⟩,
   ⟨R.ASSOC.SNAPSTAT_SRC, .ro, 0, .none⟩,
   ⟨R.ASSOC.SNAPSTAT_SEQ, .ro, 0, .none⟩,
   ⟨R.ASSOC.CNT0_ADMIT, .rc, 0, .none⟩,
   ⟨R.ASSOC.CNT0_DENY, .rc, 0, .none⟩,
   ⟨R.ASSOC.CNT0_TIMEOUT, .rc, 0, .none⟩,
   ⟨R.ASSOC.CNT0_HASHFAIL, .rc, 0, .none⟩,
   ⟨R.ASSOC.CNT1_NOROUTE, .rc, 0, .none⟩,
   ⟨R.ASSOC.CNT1_STALE, .rc, 0, .none⟩,
   ⟨R.ASSOC.CNT1_REJOIN, .rc, 0, .none⟩] ++
  (List.range 2).map (fun k => ⟨R.ASSOC.EXT_ADDR k, .rw, 0, .none⟩)

/-- The stored fields of the MSG table (12_message_service.md). -/
def rowsMSG : List Row :=
  [⟨R.MSG.CFG_FRAGBODY, .rw, 400, .ret⟩,
   ⟨R.MSG.CFG_INFLIGHT, .rw, 8, .ret⟩,
   ⟨R.MSG.CFG_REASM_S, .rw, 30, .ret⟩,
   ⟨R.MSG.STAT_USED_MIB, .ro, 0, .ret⟩,
   ⟨R.MSG.STAT_LG_NOFIT, .ro, 0, .none⟩,
   ⟨R.MSG.STAT_RESTORING, .ro, 0, .none⟩,
   ⟨R.MSG.TXD0_DEST, .rw, 65534, .none⟩,
   ⟨R.MSG.TXD0_CLASS, .rw, 0, .none⟩,
   ⟨R.MSG.TXD0_KIND, .rw, 0, .none⟩,
   ⟨R.MSG.TXD0_PTYPE, .rw, 0, .none⟩,
   ⟨R.MSG.TXD1_ADDR, .rw, 0, .none⟩,
   ⟨R.MSG.TXD2_LEN, .rw, 0, .none⟩,
   ⟨R.MSG.TXD3_MSGID, .rw, 0, .none⟩,
   ⟨R.MSG.TXRES_MSGID, .ro, 0, .none⟩,
   ⟨R.MSG.RXBASE_ADDR, .rw, 0, .ret⟩,
   ⟨R.MSG.RXSIZE_BYTES, .rw, 0, .ret⟩,
   ⟨R.MSG.RXHEAD_OFFSET, .ro, 0, .none⟩,
   ⟨R.MSG.RXTAIL_OFFSET, .rw, 0, .none⟩,
   ⟨R.MSG.CNT0_RX_TAKEN, .rc, 0, .none⟩,
   ⟨R.MSG.CNT0_TX_DONE, .rc, 0, .none⟩,
   ⟨R.MSG.CNT1_BADHDR, .rc, 0, .none⟩,
   ⟨R.MSG.CNT1_NOPEER, .rc, 0, .none⟩,
   ⟨R.MSG.CNT1_DUP, .rc, 0, .none⟩,
   ⟨R.MSG.CNT1_NEWSESS, .rc, 0, .none⟩,
   ⟨R.MSG.CNT1_LATE, .rc, 0, .none⟩,
   ⟨R.MSG.CNT1_REASM_DROP, .rc, 0, .none⟩,
   ⟨R.MSG.CNT2_FAILED, .rc, 0, .none⟩,
   ⟨R.MSG.CNT2_EXPIRED, .rc, 0, .none⟩,
   ⟨R.MSG.CNT2_EVICTED, .rc, 0, .none⟩,
   ⟨R.MSG.CNT2_FWD_LOST, .rc, 0, .none⟩] ++
  (List.range 4).map (fun k => ⟨R.MSG.CLS_TIMEOUT_S k, .rw, ([10, 20, 60, 120] : List Nat).getD k 0, .ret⟩) ++
  (List.range 4).map (fun k => ⟨R.MSG.CLS_ATTEMPTS k, .rw, ([8, 4, 3, 3] : List Nat).getD k 0, .ret⟩) ++
  (List.range 4).map (fun k => ⟨R.MSG.CLS_LIFE_MIN k, .rw, ([4320, 60, 1440, 1440] : List Nat).getD k 0, .ret⟩)

/-- The stored fields of the PAIR table (13_redundant_pair.md). -/
def rowsPAIR : List Row :=
  [⟨R.PAIR.CFG_TAKEOVER_MS, .rw, 20, .ret⟩,
   ⟨R.PAIR.CFG_PREFER, .rw, 0, .ret⟩,
   ⟨R.PAIR.CFG_CHECK_SF, .rw, 2, .ret⟩,
   ⟨R.PAIR.STAT_PST, .ro, 0, .none⟩,
   ⟨R.PAIR.STAT_ROLE, .ro, 0, .none⟩,
   ⟨R.PAIR.STAT_PARTNER, .ro, 0, .none⟩,
   ⟨R.PAIR.STAT_LINK_UP, .ro, 0, .none⟩,
   ⟨R.PAIR.STAT_BULK_PCT, .ro, 0, .none⟩,
   ⟨R.PAIR.STAT_MMCAUSE, .ro, 0, .none⟩,
   ⟨R.PAIR.RSEL_SLOT, .rw, 0, .none⟩,
   ⟨R.PAIR.CNT0_TAKEOVER, .rc, 0, .none⟩,
   ⟨R.PAIR.CNT0_CRCERR, .rc, 0, .none⟩,
   ⟨R.PAIR.CNT0_RETX, .rc, 0, .none⟩,
   ⟨R.PAIR.CNT0_HANDOVER, .rc, 0, .none⟩,
   ⟨R.PAIR.CNT1_BULK, .rc, 0, .none⟩,
   ⟨R.PAIR.CNT1_MISMATCH, .rc, 0, .none⟩,
   ⟨R.PAIR.CNT1_DUALPRI, .rc, 0, .none⟩,
   ⟨R.PAIR.CNT1_DOUBT, .rc, 0, .none⟩,
   ⟨R.PAIR.LASTTO_ASN, .ro, 0, .ret⟩,
   ⟨R.PAIR.LASTINFO_CAUSE, .ro, 0, .ret⟩,
   ⟨R.PAIR.LASTINFO_TIME, .ro, 0, .ret⟩] ++
  (List.range 2).map (fun k => ⟨R.PAIR.NETADDR_ADDR k, .ro, 0, .ret⟩)

/-- The stored fields of the CIPHER table (20_garnet_security.md). -/
def rowsCIPHER : List Row :=
  [⟨R.CIPHER.KEYSEL_SLOT, .rw, 0, .none⟩,
   ⟨R.CIPHER.KEYCTL_LEN256, .rw, 0, .none⟩,
   ⟨R.CIPHER.STAT_BUSY, .ro, 0, .none⟩] ++
  (List.range 4).map (fun k => ⟨R.CIPHER.IN_DATA k, .rw, 0, .none⟩) ++
  (List.range 4).map (fun k => ⟨R.CIPHER.OUT_DATA k, .ro, 0, .none⟩)

/-- The stored fields of the HASH table (20_garnet_security.md). -/
def rowsHASH : List Row :=
  [⟨R.HASH.STAT_OPEN, .ro, 0, .none⟩,
   ⟨R.HASH.STAT_BUSY, .ro, 0, .none⟩,
   ⟨R.HASH.STAT_DONE, .ro, 0, .none⟩,
   ⟨R.HASH.STAT_FREE, .ro, 64, .none⟩,
   ⟨R.HASH.LEN_BYTES, .ro, 0, .none⟩] ++
  (List.range 12).map (fun k => ⟨R.HASH.DIGEST_BYTES k, .ro, 0, .none⟩)

/-- The stored fields of the PKE table (20_garnet_security.md). -/
def rowsPKE : List Row :=
  [⟨R.PKE.PARAM_ADDR, .rw, 0, .none⟩,
   ⟨R.PKE.STAT_BUSY, .ro, 0, .none⟩,
   ⟨R.PKE.STAT_RESULT, .ro, 0, .none⟩,
   ⟨R.PKE.STAT_DBG, .ro, 0, .none⟩,
   ⟨R.PKE.STAT_SCOPE, .ro, 0, .none⟩,
   ⟨R.PKE.RESLEN_BYTES, .ro, 0, .none⟩]

/-- The stored fields of the MEASURE table (20_garnet_security.md). -/
def rowsMEASURE : List Row :=
  [⟨R.MEASURE.INFO_EXTCNT, .ro, 0, .none⟩,
   ⟨R.MEASURE.INFO_LOGUSED, .ro, 0, .none⟩,
   ⟨R.MEASURE.INFO_LOGFULL, .ro, 0, .none⟩,
   ⟨R.MEASURE.LOGBASE_ADDR, .ro, 0, .none⟩]

/-- The stored fields of the UPDATE table (21_firmware_update.md). -/
def rowsUPDATE : List Row :=
  [⟨R.UPDATE.OFFSET_OFFSET, .rw, 0, .none⟩,
   ⟨R.UPDATE.BUF_ADDR, .rw, 0, .none⟩,
   ⟨R.UPDATE.AT_LO_SEC_L, .rw, 0, .ret⟩,
   ⟨R.UPDATE.AT_HI_SEC_H, .rw, 0, .ret⟩,
   ⟨R.UPDATE.STAT_ST, .ro, 0, .ret⟩,
   ⟨R.UPDATE.STAT_BUSY, .ro, 0, .none⟩,
   ⟨R.UPDATE.STAT_LAST, .ro, 0, .ret⟩,
   ⟨R.UPDATE.STAT_LATE, .ro, 0, .ret⟩,
   ⟨R.UPDATE.STAT_FAILPART, .ro, 0, .ret⟩,
   ⟨R.UPDATE.STAT_BLOCKS, .ro, 0, .none⟩,
   ⟨R.UPDATE.RELEASE_VALUE, .ro, 0, .none⟩,
   ⟨R.UPDATE.STAGED_VALUE, .ro, 0, .none⟩,
   ⟨R.UPDATE.CNT_VFAIL, .rc, 0, .none⟩,
   ⟨R.UPDATE.CNT_DONE, .rc, 0, .none⟩,
   ⟨R.UPDATE.CNT_ABORTED, .rc, 0, .none⟩]

/-- The stored fields of the FLASH table (19_flash_storage.md). -/
def rowsFLASH : List Row :=
  [⟨R.FLASH.ADDR_ADDR, .rw, 0, .none⟩,
   ⟨R.FLASH.LEN_LEN, .rw, 0, .none⟩,
   ⟨R.FLASH.STAT_BUSY, .ro, 0, .none⟩,
   ⟨R.FLASH.STAT_SUSP, .ro, 0, .none⟩,
   ⟨R.FLASH.STAT_CREAD, .ro, 0, .none⟩,
   ⟨R.FLASH.STAT_VFAIL, .ro, 0, .none⟩,
   ⟨R.FLASH.STAT_EFAIL, .ro, 0, .none⟩,
   ⟨R.FLASH.STAT_PULSES, .ro, 0, .none⟩] ++
  (List.range 32).map (fun k => ⟨R.FLASH.BUF_DATA k, .rw, 0, .none⟩)

/-- The stored fields of the STORE table (19_flash_storage.md). -/
def rowsSTORE : List Row :=
  [⟨R.STORE.ADDR_OFFSET, .rw, 0, .none⟩,
   ⟨R.STORE.LEN_LEN, .rw, 0, .none⟩,
   ⟨R.STORE.BUF_ADDR, .rw, 0, .none⟩,
   ⟨R.STORE.STAT_BUSY, .ro, 0, .none⟩,
   ⟨R.STORE.STAT_RESULT, .ro, 0, .none⟩,
   ⟨R.STORE.SPLIT_E10_START, .rwl, 1024, .ret⟩,
   ⟨R.STORE.SPLIT_E11_START, .rwl, 1024, .ret⟩,
   ⟨R.STORE.WEAR_WARN_ACTIVE, .w1c, 0, .ret⟩,
   ⟨R.STORE.WEAR_WARN_SECTOR, .ro, 0, .ret⟩,
   ⟨R.STORE.PULSE_LAST, .ro, 0, .none⟩,
   ⟨R.STORE.PULSE_MAX, .ro, 0, .ret⟩,
   ⟨R.STORE.RETIRE_USED, .ro, 0, .ret⟩,
   ⟨R.STORE.PARTSEL_INDEX, .rw, 0, .none⟩,
   ⟨R.STORE.CNT0_ERASES, .rc, 0, .none⟩,
   ⟨R.STORE.CNT0_PVRETRY, .rc, 0, .none⟩,
   ⟨R.STORE.CNT1_RECOVER, .rc, 0, .none⟩,
   ⟨R.STORE.CNT1_REFUSED, .rc, 0, .none⟩]

/-- The stored fields of the STRATA table (22_strata_recorder.md). -/
def rowsSTRATA : List Row :=
  [⟨R.STRATA.CFG_CLOSE_S, .rw, 3600, .ret⟩,
   ⟨R.STRATA.STAT_FULL, .ro, 0, .ret⟩,
   ⟨R.STRATA.STAT_CLEARING, .ro, 0, .ret⟩,
   ⟨R.STRATA.STAT_OPEN, .ro, 0, .none⟩,
   ⟨R.STRATA.STAT_BUSY, .ro, 0, .none⟩,
   ⟨R.STRATA.STAT_SECTORS, .ro, 0, .ret⟩,
   ⟨R.STRATA.NEXT_SEQ, .ro, 0, .ret⟩,
   ⟨R.STRATA.FIRST_SEQ, .ro, 0, .ret⟩,
   ⟨R.STRATA.WSEQ_COUNT, .ro, 0, .none⟩,
   ⟨R.STRATA.LOST_COUNT, .ro, 0, .ret⟩,
   ⟨R.STRATA.WDESC_TYPE, .rw, 192, .none⟩,
   ⟨R.STRATA.WDESC_BLEN, .rw, 7, .none⟩,
   ⟨R.STRATA.BUF_ADDR, .rw, 0, .none⟩,
   ⟨R.STRATA.RSEQ_SEQ, .rw, 0, .none⟩,
   ⟨R.STRATA.RLEN_BYTES, .rw, 65536, .none⟩,
   ⟨R.STRATA.RRES_BYTES, .ro, 0, .none⟩,
   ⟨R.STRATA.RRES_RECORDS, .ro, 0, .none⟩,
   ⟨R.STRATA.CNT_RECORDS, .rc, 0, .none⟩,
   ⟨R.STRATA.CNT_REPEATS, .rc, 0, .none⟩]

/-- The stored fields of the DALI table (23_luminaire_metering.md). -/
def rowsDALI : List Row :=
  [⟨R.DALI.BUSCFG_ON, .rw, 1, .ret⟩,
   ⟨R.DALI.BUSCFG_LIM, .rw, 1, .ret⟩,
   ⟨R.DALI.BUSCFG_SHARE, .rw, 0, .ret⟩,
   ⟨R.DALI.BUSSTAT_ST, .ro, 0, .none⟩,
   ⟨R.DALI.BUSSTAT_SYSFAIL, .ro, 0, .none⟩,
   ⟨R.DALI.BUSSTAT_VBUS, .ro, 0, .none⟩,
   ⟨R.DALI.BUSSTAT_IBUS, .ro, 0, .none⟩,
   ⟨R.DALI.TXD_FRAME, .rw, 0, .none⟩,
   ⟨R.DALI.FOREIGN_FRAME, .ro, 0, .none⟩,
   ⟨R.DALI.FOREIGN_LEN, .ro, 0, .none⟩,
   ⟨R.DALI.CNT_COLL, .rc, 0, .none⟩,
   ⟨R.DALI.CNT_FRAMING, .rc, 0, .none⟩,
   ⟨R.DALI.CNT_SYSFAIL, .rc, 0, .none⟩] ++
  (List.range 64).map (fun i => ⟨R.DALI.GEAR_ED i, .ro, 0, .none⟩)

/-- The stored fields of the AOUT table (23_luminaire_metering.md). -/
def rowsAOUT : List Row :=
  [⟨R.AOUT.CFG_MODE, .rw, 1, .ret⟩,
   ⟨R.AOUT.CFG_FADE_MS, .rw, 0, .ret⟩,
   ⟨R.AOUT.VSET_LEVEL, .rw, 1000, .ret⟩,
   ⟨R.AOUT.STAT_VOUT, .ro, 0, .none⟩,
   ⟨R.AOUT.STAT_CLAMP, .ro, 0, .none⟩,
   ⟨R.AOUT.STAT_FADING, .ro, 0, .none⟩,
   ⟨R.AOUT.STAT_FLOAT, .ro, 1, .none⟩,
   ⟨R.AOUT.STAT_OVERLOAD, .ro, 0, .none⟩,
   ⟨R.AOUT.RLYCFG_PULSE_MS, .rw, 30, .ret⟩,
   ⟨R.AOUT.RLYCFG_ZXSYNC, .rw, 1, .ret⟩,
   ⟨R.AOUT.RLYCFG_OPTIME, .rw, 60, .ret⟩,
   ⟨R.AOUT.RLYSTAT_STATE, .ro, 2, .ret⟩,
   ⟨R.AOUT.RLYSTAT_BUSY, .ro, 0, .none⟩,
   ⟨R.AOUT.RLYSTAT_PEND, .ro, 0, .none⟩,
   ⟨R.AOUT.RLYSTAT_DEFER, .ro, 0, .none⟩,
   ⟨R.AOUT.RLYSTAT_MISMATCH, .ro, 0, .none⟩,
   ⟨R.AOUT.RLYSTAT_ZXMISS, .ro, 0, .none⟩,
   ⟨R.AOUT.OPS_COUNT, .ro, 0, .ret⟩]

/-- The stored fields of the METER table (23_luminaire_metering.md). -/
def rowsMETER : List Row :=
  [⟨R.METER.CFG_SHUNT_UOHM, .rwl, 2000, .ret⟩,
   ⟨R.METER.CFG_PHCOMP, .rw, 0, .ret⟩,
   ⟨R.METER.CFG_CKPT_MIN, .rw, 60, .ret⟩,
   ⟨R.METER.SNAP_WSEQ, .ro, 0, .none⟩,
   ⟨R.METER.VRMS_V, .ro, 0, .none⟩,
   ⟨R.METER.IRMS_I, .ro, 0, .none⟩,
   ⟨R.METER.P_MW, .ro, 0, .none⟩,
   ⟨R.METER.Q_MVAR, .ro, 0, .none⟩,
   ⟨R.METER.PF_PF, .ro, 0, .none⟩,
   ⟨R.METER.PF_FREQ, .ro, 0, .none⟩,
   ⟨R.METER.THD_V, .ro, 0, .none⟩,
   ⟨R.METER.THD_I, .ro, 0, .none⟩,
   ⟨R.METER.ENERGY_LO_COUNT, .ro, 0, .ret⟩,
   ⟨R.METER.ENERGY_HI_COUNT, .ro, 0, .ret⟩,
   ⟨R.METER.REVWH_COUNT, .ro, 0, .ret⟩,
   ⟨R.METER.STAT_OVRI, .ro, 0, .none⟩,
   ⟨R.METER.STAT_OVRV, .ro, 0, .none⟩,
   ⟨R.METER.STAT_REV, .ro, 0, .none⟩,
   ⟨R.METER.STAT_NOZX, .ro, 0, .none⟩,
   ⟨R.METER.STAT_EGAP, .ro, 0, .ret⟩,
   ⟨R.METER.STAT_PH_OPEN, .ro, 0, .none⟩,
   ⟨R.METER.STAT_PH_SHORT, .ro, 0, .none⟩,
   ⟨R.METER.PHOTO_MEAN, .ro, 0, .none⟩,
   ⟨R.METER.PHOTO_STATE, .ro, 0, .none⟩,
   ⟨R.METER.PHCFG_DARK, .rw, 49152, .ret⟩,
   ⟨R.METER.PHCFG_LIGHT, .rw, 32768, .ret⟩,
   ⟨R.METER.PHDLY_DELAY_S, .rw, 10, .ret⟩]

/-- The stored fields of the DIN table (23_luminaire_metering.md). -/
def rowsDIN : List Row :=
  [⟨R.DIN.STAT_LEVEL, .ro, 0, .none⟩,
   ⟨R.DIN.STAT_STUCK, .ro, 0, .none⟩,
   ⟨R.DIN.STAT_CHATTER, .ro, 0, .none⟩,
   ⟨R.DIN.STAT_RAW, .ro, 0, .none⟩] ++
  (List.range 4).map (fun n => ⟨R.DIN.CFG_POL n, .rw, 0, .ret⟩) ++
  (List.range 4).map (fun n => ⟨R.DIN.CFG_EDGE n, .rw, 3, .ret⟩) ++
  (List.range 4).map (fun n => ⟨R.DIN.CFG_FILT_MS n, .rw, 20, .ret⟩) ++
  (List.range 4).map (fun n => ⟨R.DIN.CFG_CHAT_N n, .rw, 8, .ret⟩) ++
  (List.range 4).map (fun n => ⟨R.DIN.CFG_CHAT_WIN n, .rw, 10, .ret⟩) ++
  (List.range 4).map (fun n => ⟨R.DIN.STUCK_TIME n, .rw, 0, .ret⟩) ++
  (List.range 4).map (fun n => ⟨R.DIN.CNT_TRANS n, .rc, 0, .none⟩)

/-- The stored fields of the NFCRD table (24_contactless.md). -/
def rowsNFCRD : List Row :=
  [⟨R.NFCRD.CFG_GUARD_US, .rw, 1000, .ret⟩,
   ⟨R.NFCRD.CFG_RXWAIT_US, .rw, 1000, .ret⟩,
   ⟨R.NFCRD.STAT_ST, .ro, 0, .none⟩,
   ⟨R.NFCRD.STAT_EXTFIELD, .ro, 0, .none⟩,
   ⟨R.NFCRD.TXLEN_LEN, .rw, 0, .none⟩,
   ⟨R.NFCRD.XRES_RESULT, .ro, 0, .none⟩,
   ⟨R.NFCRD.XRES_RXLEN, .ro, 0, .none⟩,
   ⟨R.NFCRD.XRES_ERRFLAG, .ro, 0, .none⟩,
   ⟨R.NFCRD.INV_ADDR, .rw, 0, .none⟩,
   ⟨R.NFCRD.INVCFG_MAX, .rw, 16, .none⟩,
   ⟨R.NFCRD.INVCFG_AFI, .rw, 0, .none⟩,
   ⟨R.NFCRD.INVCFG_AFIEN, .rw, 0, .none⟩,
   ⟨R.NFCRD.INVRES_FOUND, .ro, 0, .none⟩,
   ⟨R.NFCRD.INVRES_ROUNDS, .ro, 0, .none⟩,
   ⟨R.NFCRD.INVRES_DUP, .ro, 0, .none⟩,
   ⟨R.NFCRD.INVRES_TRUNC, .ro, 0, .none⟩,
   ⟨R.NFCRD.CNT_TIMEOUT, .rc, 0, .none⟩,
   ⟨R.NFCRD.CNT_CRCERR, .rc, 0, .none⟩,
   ⟨R.NFCRD.CNT_COLL, .rc, 0, .none⟩,
   ⟨R.NFCRD.CNT_EXTF, .rc, 0, .none⟩] ++
  (List.range 16).map (fun k => ⟨R.NFCRD.BUF_DATA k, .rw, 0, .none⟩)

/-- The stored fields of the NFCTAG table (24_contactless.md). -/
def rowsNFCTAG : List Row :=
  [⟨R.NFCTAG.CFG_NDEF_WR, .rw, 1, .fram⟩,
   ⟨R.NFCTAG.CFG_PWD_EN, .rw, 0, .fram⟩,
   ⟨R.NFCTAG.CFG_AES_EN, .rw, 1, .fram⟩,
   ⟨R.NFCTAG.CFG_AFI, .rw, 0, .fram⟩,
   ⟨R.NFCTAG.CFG_DSFID, .rw, 0, .fram⟩,
   ⟨R.NFCTAG.STAT_SEC, .ro, 0, .none⟩,
   ⟨R.NFCTAG.STAT_FIELD, .ro, 0, .none⟩,
   ⟨R.NFCTAG.STAT_SESSION, .ro, 0, .none⟩,
   ⟨R.NFCTAG.STAT_LOCKOUT, .ro, 0, .none⟩,
   ⟨R.NFCTAG.STAT_FAILCNT, .ro, 0, .fram⟩,
   ⟨R.NFCTAG.STAT_ISOST, .ro, 0, .none⟩,
   ⟨R.NFCTAG.TADDR_BLOCK, .rw, 0, .none⟩,
   ⟨R.NFCTAG.TDATA_DATA, .rw, 0, .none⟩,
   ⟨R.NFCTAG.LASTWR_BLOCK, .ro, 0, .fram⟩,
   ⟨R.NFCTAG.LASTWR_FIELDONLY, .ro, 0, .fram⟩,
   ⟨R.NFCTAG.WRCNT_COUNT, .rc, 0, .fram⟩,
   ⟨R.NFCTAG.CNT_SESSIONS, .rc, 0, .none⟩,
   ⟨R.NFCTAG.CNT_AUTHFAIL, .rc, 0, .none⟩,
   ⟨R.NFCTAG.CNT_CRCERR, .rc, 0, .none⟩,
   ⟨R.NFCTAG.CNT_TEARFIX, .rc, 0, .none⟩]

/-- The stored fields of the CSENSE table (24_contactless.md). -/
def rowsCSENSE : List Row :=
  [⟨R.CSENSE.CFG_METHOD, .rw, 1, .ret⟩,
   ⟨R.CSENSE.CFG_PERIOD, .rw, 10, .ret⟩,
   ⟨R.CSENSE.CFG_N, .rw, 3, .ret⟩,
   ⟨R.CSENSE.CFG_HOLD_S, .rw, 60, .ret⟩,
   ⟨R.CSENSE.THR_DELTA, .rw, 200, .ret⟩,
   ⟨R.CSENSE.THR_PINGDB, .rw, 20, .ret⟩,
   ⟨R.CSENSE.STAT_NEAR, .ro, 0, .none⟩,
   ⟨R.CSENSE.STAT_RECAL, .ro, 0, .none⟩,
   ⟨R.CSENSE.COUNT_RAW, .ro, 0, .none⟩,
   ⟨R.CSENSE.COUNT_BASE, .ro, 0, .none⟩,
   ⟨R.CSENSE.CNT_APPROACH, .rc, 0, .none⟩,
   ⟨R.CSENSE.CNT_RECAL, .rc, 0, .none⟩]

/-- The stored fields of page `p`, by the page map (R139). -/
def pageRows (p : Nat) : List Row :=
  match p with
  | 0x00 => rowsSYS | 0x01 => rowsHOSTIF | 0x02 => rowsPWR | 0x03 => rowsCLK | 0x04 => rowsFAULT | 0x05 => rowsRET
  | 0x1C => rowsMCODE | 0x1D => rowsCOLLECT
  | 0x28 => rowsRTC | 0x32 => rowsRFCAL | 0x33 => rowsTUNER | 0x34 => rowsMICA | 0x35 => rowsCOEX
  | 0x38 => rowsPHYRF | 0x3A => rowsPLCAFE | 0x3B => rowsPLCPHY | 0x3C => rowsTONEMAP
  | 0x40 => rowsSCHED | 0x41 => rowsLINK | 0x42 => rowsLINKSEC | 0x44 => rowsMESH | 0x45 => rowsASSOC
  | 0x48 => rowsMSG | 0x4C => rowsPAIR | 0x50 => rowsCIPHER | 0x51 => rowsHASH | 0x52 => rowsPKE
  | 0x53 => rowsMEASURE | 0x54 => rowsUPDATE | 0x58 => rowsFLASH | 0x59 => rowsSTORE | 0x5C => rowsSTRATA
  | 0x60 => rowsDALI | 0x61 => rowsAOUT | 0x62 => rowsMETER | 0x63 => rowsDIN
  | 0x68 => rowsNFCRD | 0x69 => rowsNFCTAG | 0x6A => rowsCSENSE
  | p =>
    bif Nat.ble 0x10 p && Nat.ble p 0x1B then rowsENG.filter (fun r => Nat.beq r.fld.page p)
    else bif Nat.ble 0x20 p && Nat.ble p 0x22 then rowsEVT.filter (fun r => Nat.beq r.fld.page p)
    else bif Nat.ble 0x24 p && Nat.ble p 0x27 then rowsTIM.filter (fun r => Nat.beq r.fld.page p)
    else bif Nat.ble 0x2A p && Nat.ble p 0x2B then rowsDMA.filter (fun r => Nat.beq r.fld.page p)
    else bif Nat.ble 0x30 p && Nat.ble p 0x31 then rowsRF.filter (fun r => Nat.beq r.fld.page p)
    else []

/-- The pages of R139 that have a header. -/
def mappedPages : List Nat :=
  [0x00, 0x01, 0x02, 0x03, 0x04, 0x05, 0x10, 0x11, 0x12, 0x13, 0x14, 0x15, 0x16, 0x17, 0x18, 0x19, 0x1A, 0x1B, 0x1C,
   0x1D, 0x20, 0x21, 0x22, 0x24, 0x25, 0x26, 0x27, 0x28, 0x2A, 0x2B, 0x30, 0x31, 0x32, 0x33, 0x34, 0x35, 0x38, 0x3A,
   0x3B, 0x3C, 0x40, 0x41, 0x42, 0x44, 0x45, 0x48, 0x4C, 0x50, 0x51, 0x52, 0x53, 0x54, 0x58, 0x59, 0x5C, 0x60, 0x61,
   0x62, 0x63, 0x68, 0x69, 0x6A, 0x7F]

/-- Page `p` is in the page map (R139). -/
def mapped (p : Nat) : Bool := mappedPages.any (Nat.beq p)

/-- Pages marked A: always enabled (R126, R139). -/
def alwaysOn (p : Nat) : Bool :=
  Nat.ble p 0x05 || Nat.beq p 0x1D || (Nat.ble 0x20 p && Nat.ble p 0x28) || Nat.beq p 0x53 || Nat.beq p 0x58 ||
    Nat.beq p 0x59 || Nat.beq p 0x5C || Nat.beq p 0x7F

/-- The owner that the page map gives a page at BOOT (R139). -/
def mapOwner (p : Nat) : Nat :=
  bif [0x04, 0x1C, 0x1D, 0x20, 0x21, 0x22, 0x24, 0x25, 0x26, 0x27, 0x2A, 0x2B, 0x32, 0x53, 0x58].any (Nat.beq p) ||
    (Nat.ble 0x10 p && Nat.ble p 0x1B) then 0
  else bif Nat.beq p 0x33 then 1
  else bif Nat.ble 0x60 p && Nat.ble p 0x63 then 10
  else bif Nat.ble 0x68 p && Nat.ble p 0x6A then 11
  else bif Nat.beq p 0x7F then 9
  else 12

/-- The engines that serve a page (R139). -/
def serving (p who : Nat) : Bool :=
  bif Nat.beq p 0x30 || Nat.beq p 0x33 || Nat.beq p 0x35 then Nat.beq who 1
  else bif Nat.beq p 0x31 then Nat.beq who 2
  else bif Nat.beq p 0x32 || Nat.beq p 0x38 then Nat.beq who 1 || Nat.beq who 2
  else bif Nat.ble 0x3A p && Nat.ble p 0x3C then Nat.beq who 3
  else bif Nat.beq p 0x40 || (Nat.ble 0x24 p && Nat.ble p 0x27) then Nat.beq who 4
  else bif Nat.beq p 0x41 then Nat.beq who 1 || Nat.beq who 2 || Nat.beq who 3
  else bif Nat.beq p 0x42 || (Nat.ble 0x50 p && Nat.ble p 0x52) then Nat.beq who 7
  else bif Nat.beq p 0x44 || Nat.beq p 0x45 then Nat.beq who 5
  else bif Nat.beq p 0x48 then Nat.beq who 6
  else bif Nat.beq p 0x4C || Nat.beq p 0x7F then Nat.beq who 9
  else bif Nat.beq p 0x54 || Nat.beq p 0x58 || Nat.beq p 0x59 || Nat.beq p 0x5C then Nat.beq who 8
  else bif Nat.ble 0x60 p && Nat.ble p 0x6A then false
  else Nat.beq who 0

/-- Pages on the mains side of the bridge (R139). -/
def mainsPage (p : Nat) : Bool := Nat.beq p 0x3A || Nat.beq p 0x60 || Nat.beq p 0x61 || Nat.beq p 0x62

/-- The power domain that a page's block lies in (R98); the others lie in CORE. -/
def pageDomain (p : Nat) : Nat :=
  bif Nat.ble 0x10 p && Nat.ble p 0x1B then p - 0x10 + 5
  else bif Nat.beq p 0x30 || Nat.beq p 0x33 then 17
  else bif Nat.beq p 0x31 then 18
  else bif Nat.beq p 0x3A || Nat.beq p 0x3B then 19
  else bif Nat.beq p 0x62 then 20
  else bif Nat.beq p 0x60 || Nat.beq p 0x61 then 21
  else bif Nat.beq p 0x68 || Nat.beq p 0x69 then 22
  else bif Nat.ble 0x50 p && Nat.ble p 0x52 then 23
  else bif Nat.beq p 0x58 then 24
  else bif Nat.beq p 0x01 then 25
  else bif Nat.beq p 0x4C then 26
  else 0

end Sys2Proof.Machine
end

