-- ==== Sys2Proof/Machine/Retention.lean ====
section
/-!
DEFINITION. Retained settings (R83-R86, R601), the reset of a page's registers (R99, R131) and the module reset (R77, R78).
-/

namespace Sys2Proof.Machine

/-- The first key of page `p`. -/
def pageKey (p : Nat) : Nat := p * 8192

/-- The fields of the update session, which E8's session record in flash holds over every reset (R514). -/
def sessionKey (k : Nat) : Bool :=
  [R.UPDATE.STAT_ST, R.UPDATE.STAT_LAST, R.UPDATE.STAT_LATE, R.UPDATE.STAT_FAILPART].any (fun f => Nat.beq f.key k)

/-- The keys of the RET fields (R83), the staged site profile apart: the record holds the declared profile (R151). -/
def retKeys : List Nat :=
  (mappedPages.flatMap (fun p => (pageRows p).filter (fun r => decide (r.kept = .ret)))).map (·.fld.key) |>.filter
    (fun k => !(Nat.ble ((0x01 * 256 + 0xA0) * 32) k && Nat.blt k ((0x01 * 256 + 0xC8) * 32)) && !sessionKey k)

/-- A key is that of a RET field. -/
def isRet (k : Nat) : Bool := retKeys.any (Nat.beq k)

/-- List every pair of `l` in the table. -/
def Regs.putAll (r : Regs) (l : List (Nat × Nat)) : Regs := l.foldl (fun r kv => r.put kv.1 kv.2) r

/-- The staged and valid registers of the site profile show the profile (R151). -/
def State.showProfile (s : State) (p : Profile) : State :=
  s.setAll [(R.HOSTIF.S_RADIO_REGION, p.region), (R.HOSTIF.S_RADIO_BANDPLAN, p.bandplan), (R.HOSTIF.S_MAINS_HZ, p.hz),
    (R.HOSTIF.S_MAINS_PHASE, p.phase), (R.HOSTIF.S_MAINS_PLCBAND, p.plcband), (R.HOSTIF.S_LAT_LAT, p.lat),
    (R.HOSTIF.S_LON_LON, p.lon), (R.HOSTIF.S_ROLE_ROLE, p.role), (R.HOSTIF.S_ROLE_PAIR_EN, p.pairEn),
    (R.HOSTIF.S_HINT_COUNT, p.hints), (R.HOSTIF.S_PAN 0, p.pan0), (R.HOSTIF.S_PAN 1, p.pan1),
    (R.HOSTIF.S_PAN 2, p.pan2), (R.HOSTIF.S_PAN 3, p.pan3), (R.HOSTIF.S_VALID_FACTS, p.facts)]

/-- The profile that the staged registers spell. -/
def State.stagedProfile (s : State) : Profile :=
  { region := s.get R.HOSTIF.S_RADIO_REGION, bandplan := s.get R.HOSTIF.S_RADIO_BANDPLAN,
    hz := s.get R.HOSTIF.S_MAINS_HZ, phase := s.get R.HOSTIF.S_MAINS_PHASE, plcband := s.get R.HOSTIF.S_MAINS_PLCBAND,
    lat := s.get R.HOSTIF.S_LAT_LAT, lon := s.get R.HOSTIF.S_LON_LON, role := s.get R.HOSTIF.S_ROLE_ROLE,
    pairEn := s.get R.HOSTIF.S_ROLE_PAIR_EN, hints := s.get R.HOSTIF.S_HINT_COUNT, pan0 := s.get (R.HOSTIF.S_PAN 0),
    pan1 := s.get (R.HOSTIF.S_PAN 1), pan2 := s.get (R.HOSTIF.S_PAN 2), pan3 := s.get (R.HOSTIF.S_PAN 3), facts := 0 }

/-- The record of the values in force (R83-R85). -/
def State.snapshot (s : State) (seq : Nat) : RetRecord :=
  { valid := true, version := Config.formatVersion, seq := seq, regs := s.regs.filter (fun kv => isRet kv.1),
    identity := s.ret.identity,
    keys := s.keys.map (fun (k : KeySlot) => { k with blockEnd := max k.blockEnd k.nextEnd }), profile := s.ret.profile, assign := s.ret.assign,
    reserve := s.pair.reserve, level := s.lamp.level }

/-- The record may serve a restore: CRC and format version hold (R83). -/
def RetRecord.usable (r : RetRecord) : Bool := r.valid && Nat.beq r.version Config.formatVersion

/-- The sequence number of the newest flash copy. -/
def Retained.newest (r : Retained) : Nat :=
  max (bif r.copyA.valid then r.copyA.seq else 0) (bif r.copyB.valid then r.copyB.seq else 0)

/-- The copy with the lower sequence number, an invalid one first, is B (R84). -/
def Retained.lowerIsB (r : Retained) : Bool :=
  bif !r.copyA.valid then false else bif !r.copyB.valid then true else Nat.blt r.copyB.seq r.copyA.seq

/-- Start a commit: retention RAM first, then one flash copy (R84). A commit that falls due while one is in progress is
made when that one ends. -/
def State.commit (s : State) : State :=
  bif s.bit R.RET.STAT_BUSY then { s with ret := { s.ret with again := true } }
  else
    let r := s.snapshot (s.ret.newest + 1)
    ({ s with ret := { s.ret with quartz := r, writing := r, toB := s.ret.lowerIsB } }).set R.RET.STAT_BUSY 1

/-- The flash write of the commit in progress ends: verified or failed (R84). Where it fails, or a reset cuts it short, the copy that was being
written stays as it was before: the model's choice, R84 says only that the other copy stays valid (log entry 95). -/
def State.commitEnd (s : State) (ok : Bool) : State :=
  let r := s.ret
  let r' := bif !ok then r
    else bif r.toB then { r with copyB := r.writing, escResetFlash := r.escReset }
    else { r with copyA := r.writing, escResetFlash := r.escReset }
  ({ s with ret := { r' with again := false } }.setAll
    [(R.RET.STAT_BUSY, 0), (R.RET.STAT_FLASH_ERR, bif ok then 0 else 1),
     (R.RET.STAT_SEQ, bif ok then r.writing.seq else s.get R.RET.STAT_SEQ)]).onlyIf r.again State.commit

/-- A commit carried through at once, as on HOLD entry (R84). -/
def State.commitNow (s : State) : State :=
  let s := (s.onlyIf (s.bit R.RET.STAT_BUSY) (·.commitEnd true))
  (s.onlyIf (!s.bit R.RET.STAT_BUSY) State.commit).commitEnd true

/-- The three running values go to the retention record while it is valid (R601). -/
def State.runningValue (s : State) (f : Fld) : State :=
  bif s.ret.quartz.usable then
    { s with ret := { s.ret with quartz := { s.ret.quartz with regs := s.ret.quartz.regs.put f.key (s.get f) } } }
  else s

/-- The first valid source of R83, none for factory defaults, and RESTORE_SRC's code of it. -/
def Retained.source (r : Retained) : Option RetRecord × Nat :=
  let a := r.copyA.usable
  let newerB := r.copyB.usable && (!a || Nat.blt r.copyA.seq r.copyB.seq)
  bif r.quartz.usable then (some r.quartz, 0) else bif newerB then (some r.copyB, 2) else bif a then (some r.copyA, 1) else (none, 3)

/-- Every RET field takes exactly the value that `l` lists for it, 0 where it lists none. -/
def State.putRet (s : State) (l : Regs) : State :=
  { s with regs := Regs.putAll (s.regs.filter (fun kv => !isRet kv.1)) (l.filter (fun kv => isRet kv.1)) }

/-- Take a record's values: RET fields, identity, link keys with their counters at the recorded block ends (R85), profile,
assignments. -/
def State.takeRecord (s : State) (r : RetRecord) : State :=
  let s := { s.putRet r.regs with
    keys := r.keys.map (fun (k : KeySlot) => { k with counter := k.blockEnd, nextEnd := k.blockEnd }),
    ret := { s.ret with identity := r.identity, profile := r.profile, assign := r.assign },
    pair := { s.pair with reserve := r.reserve },
    lamp := { s.lamp with level := r.level } }
  s.showProfile r.profile

/-- The factory defaults of R83: RET fields at their Reset values, no identity, no key, nothing declared, the lamp level 0. -/
def State.takeDefaults (s : State) : State :=
  let s := { s.putRet Regs.reset with
    keys := List.replicate 16 KeySlot.empty,
    ret := { s.ret with identity := none, profile := Profile.none, assign := [] },
    pair := { s.pair with reserve := [] },
    lamp := { s.lamp with level := 0 } }
  s.showProfile Profile.none

/-- The restore of R83: the first valid source of retention RAM, the newer flash copy, factory defaults. -/
def State.restore (s : State) : State :=
  let r := s.ret
  let q := r.quartz.usable
  let a := r.copyA.usable
  let b := r.copyB.usable
  let src := r.source.2
  let s := match r.source.1 with | some rec => s.takeRecord rec | none => s.takeDefaults
  let s := s.setAll [(R.SYS.RESTORE_SRC_SRC, src), (R.SYS.RESTORE_SRC_Q_FAIL, bif q then 0 else 1),
    (R.SYS.RESTORE_SRC_A_FAIL, bif a then 0 else 1), (R.SYS.RESTORE_SRC_B_FAIL, bif b then 0 else 1),
    (R.RET.STAT_SEQ, r.newest)]
  let s := s.onlyIf (Nat.beq src 1 || Nat.beq src 2) (fun s => s.set R.METER.STAT_EGAP 1)
  bif Nat.beq src 3 then
    (s.raise 0x00 3).record 8 0x21 (leBytes 1 (3 + 16 * (bif q then 0 else 1) + 32 * (bif a then 0 else 1) +
      64 * (bif b then 0 else 1)) ++ zeros 7)
  else s

/-! ### Registers back to Reset values -/

/-- The fields of page `p` in a table. -/
def Regs.page (r : Regs) (p : Nat) : Regs :=
  r.filter (fun kv => Nat.ble (pageKey p) kv.1 && Nat.blt kv.1 (pageKey (p + 1)))

/-- A key is one of OWNER's (which only E0 writes, R137) or one of the update session's. -/
def keepsKey (p k : Nat) : Bool := sessionKey k || Nat.ble ((p * 256 + 0x14) * 32) k && Nat.blt k ((p * 256 + 0x18) * 32)

/-- The registers of page `p` at their Reset values, RET fields at their restored values: those of the source that R83 selects (R99, R131).
OWNER is unchanged. -/
def State.pageReset (s : State) (p : Nat) : State :=
  let kept := (s.regs.page p).filter (fun kv => keepsKey p kv.1)
  let rst := (Regs.reset.page p).filter (fun kv => !keepsKey p kv.1 && !isRet kv.1)
  let ret := ((match s.ret.source.1 with | some rec => rec.regs | none => Regs.reset).page p).filter (fun kv => isRet kv.1 && !keepsKey p kv.1)
  let others := s.regs.filter (fun kv => !(Nat.ble (pageKey p) kv.1 && Nat.blt kv.1 (pageKey (p + 1))))
  { s with regs := Regs.putAll (Regs.putAll (Regs.putAll others rst) kept) ret }

/-! ### Module reset -/

/-- Keys that a module reset leaves: the update session, the MICA page but for its LOCK and OWNER, ASQ_STAT and PWR's ASQ flag, the RTC page but for its LOCK (R443, R10), RESET_CAUSE and MODE.PREV in QUARTZ, the state and flags of the DIN
filters and of CSENSE (R98, R564, R583), the tag's own and its FRAM fields. -/
def quartzKey (k : Nat) : Bool :=
  sessionKey k ||
  (Nat.ble (pageKey 0x34) k && Nat.blt k (pageKey 0x35) && !Nat.beq k (R.HDR.LOCK 0x34).key && !keepsKey 0x34 k) ||
  (Nat.ble ((0x02 * 256 + 0x48) * 32) k && Nat.blt k ((0x02 * 256 + 0x4C) * 32)) ||
  (Nat.ble (pageKey 0x28) k && Nat.blt k (pageKey 0x29) && !Nat.beq k R.RTC.CHG_ILIM.key && !Nat.beq k R.RTC.CHG_VEND.key &&
    !Nat.beq k (R.HDR.LOCK 0x28).key) ||
  Nat.beq k (R.HDR.IRQ 0x02 2).key || Nat.beq k R.SYS.MODE_PREV.key ||
  (Nat.ble R.SYS.RESET_CAUSE_POR.key k && Nat.ble k R.SYS.RESET_CAUSE_XO_FAIL.key) ||
  [R.NFCTAG.CFG_NDEF_WR, R.NFCTAG.CFG_PWD_EN, R.NFCTAG.CFG_AES_EN, R.NFCTAG.CFG_AFI, R.NFCTAG.CFG_DSFID,
   R.NFCTAG.STAT_FAILCNT, R.NFCTAG.LASTWR_BLOCK, R.NFCTAG.LASTWR_FIELDONLY, R.NFCTAG.WRCNT_COUNT].any (fun f => Nat.beq f.key k) ||
  (Nat.ble ((0x63 * 256 + 0x40) * 32) k && Nat.blt k ((0x63 * 256 + 0x48) * 32)) ||
  (Nat.ble ((0x63 * 256 + 0x0C) * 32) k && Nat.blt k ((0x63 * 256 + 0x10) * 32)) ||
  (Nat.ble ((0x6A * 256 + 0x28) * 32) k && Nat.blt k ((0x6A * 256 + 0x34) * 32)) ||
  (Nat.ble ((0x6A * 256 + 0x0C) * 32) k && Nat.blt k ((0x6A * 256 + 0x10) * 32)) ||
  (Nat.ble ((0x69 * 256 + 0x24) * 32) k && Nat.blt k ((0x69 * 256 + 0x28) * 32)) ||
  Nat.beq k R.PWR.SUPPLY_MAINS.key || Nat.beq k R.PWR.SUPPLY_BROWNOUT.key || Nat.beq k R.PWR.SUPPLY_OVERVOLT.key ||
  Nat.beq k R.PWR.SUPPLY_VBAK_OK.key || Nat.beq k R.PWR.SUPPLY_VBAK.key

/-- The mode left last, BOOT not counted (SYS.MODE.PREV). -/
def State.leftMode (s : State) : Nat :=
  match s.mode with
  | .boot => s.get R.SYS.MODE_PREV
  | .unpowered => 0
  | .field => 0
  | m => m.code

/-- What a reset of every domain but QUARTZ leaves (R77, R443, R494, R529, R580): the registers return to their Reset
values, a RESET frame is on its way to the mains side; QUARTZ, the arrays, the FRAM, OTP, shared SRAM and
the open Strata record stay, and so does what E5 and E6 keep in flash. -/
def State.resetCore (s : State) : State :=
  let base := State.reset
  { base with
    regs := Regs.putAll (Regs.reset.filter (fun kv => !quartzKey kv.1)) (s.regs.filter (fun kv => quartzKey kv.1)),
    bridge := { s.bridge with resetDue := s.bit R.PWR.SUPPLY_MAINS, cfgDue := false, inflight := [] },
    supply := s.supply,
    ret := { s.ret with again := false },
    doms := { base.doms with wakeArmed := s.doms.wakeArmed, lfHold := s.doms.lfHold },
    fabric := { base.fabric with latched := s.fabric.latched },
    rtc := s.rtc, flash := { s.flash with erase := none, reqs := [] },
    garnet := { base.garnet with ck0 := s.garnet.ck0, ck1 := s.garnet.ck1, ck0Revoked := s.garnet.ck0Revoked,
                                 rb := s.garnet.rb },
    update := { base.update with schedAt := s.update.schedAt, due := s.update.due, activated := s.update.activated },
    strata := s.strata, mem := s.mem, lamp := s.lamp,
    nfc := { s.nfc with staged := [], op := 0, held := false },
    assoc := { s.assoc with busy := false, dirty := [] },
    msg := { base.msg with queue := s.msg.queue, nextNum := s.msg.nextNum, peers := s.msg.peers, blocks := s.msg.blocks,
                           takes := s.msg.takes },
    freeCount := s.freeCount, pending := s.pending }

/-- HOLD, FIELD or the unpowered state ends: reset is released to E0 in BOOT (R78). -/
def State.toBoot (s : State) : State :=
  let prev := s.get R.SYS.MODE_PREV
  let left := bif decide (s.mode = .hold) then 1 else prev
  let regs := Regs.putAll (Regs.reset.filter (fun kv => !quartzKey kv.1)) (s.regs.filter (fun kv => quartzKey kv.1))
  { { s with mode := .boot, regs := regs }.set R.SYS.MODE_PREV left with supply := { s.supply with v3on := true, v3lim := false } }

/-- The PWR page's sample sequences, which QUARTZ holds (R98). -/
def asqKey (k : Nat) : Bool := Nat.ble ((0x02 * 256 + 0x60) * 32) k && Nat.blt k ((0x02 * 256 + 0xA0) * 32)

/-- The RET fields that QUARTZ works with after a reset in OUTAGE: its sequences go on as they are, the others stand as the record in
retention RAM has them (R78, R601). -/
def State.holdRet (s t : State) : State :=
  let rec_ := bif s.ret.quartz.usable then s.ret.quartz.regs else Regs.reset
  t.putRet (Regs.putAll (rec_.filter (fun kv => !asqKey kv.1)) (s.regs.filter (fun kv => asqKey kv.1)))

/-- The open record is closed before a reset that E0 orders; RSTN leaves it to the restart walk (R527, R529). -/
def State.strataOrdered (s : State) (cause : Fld) : State := bif decide (cause = R.SYS.RESET_CAUSE_PIN) then s else s.strataClose

/-- A module reset (R78): the cause's bit is set in RESET_CAUSE; from OUTAGE it leads to HOLD, with V3_OUT off, and on to BOOT where
mains is *Present* already; from HOLD nothing changes but the bit, else to BOOT. -/
def State.moduleReset (s : State) (cause : Fld) : State :=
  match s.mode with
  | .unpowered => s
  | .field => s
  | .hold => s.set cause 1
  | .outage =>
    let t := s.holdRet ((s.strataOrdered cause).strataLoss).resetCore
    let t := { t with mode := .hold, mem := [], ret := { t.ret with escLoop := false }, supply := { t.supply with v3on := false, v3lim := false, v3wait := false } }
    let t := (t.set cause 1).set R.SYS.MODE_PREV s.leftMode
    t.onlyIf (s.bit R.PWR.SUPPLY_MAINS) State.toBoot
  | _ =>
    let t := (s.strataOrdered cause).resetCore
    ({ t with mode := .boot, ret := { t.ret with escLoop := false } }.set cause 1).set R.SYS.MODE_PREV s.leftMode

end Sys2Proof.Machine
end

