-- ==== Sys2Proof/Machine/FaultOps.lean ====
section
/-!
DEFINITION. The fault path: capture into the two slots (R93), escalation (R94, R97) and the handler's DONE (R95).
-/

namespace Sys2Proof.Machine

/-- A fault's P_INFO word: cause, source, detail. -/
def faultInfo (cause src detail : Nat) : Nat := cause + 256 * src + 65536 * detail

/-- The word in P_INFO or S_INFO. -/
def State.pInfo (s : State) : Nat :=
  faultInfo (s.get R.FAULT.P_INFO_CAUSE) (s.get R.FAULT.P_INFO_SRC) (s.get R.FAULT.P_INFO_DETAIL)
def State.sInfo (s : State) : Nat :=
  faultInfo (s.get R.FAULT.S_INFO_CAUSE) (s.get R.FAULT.S_INFO_SRC) (s.get R.FAULT.S_INFO_DETAIL)

/-- Empty both slots (R94 step 4). -/
def State.clearSlots (s : State) : State :=
  s.setAll [(R.FAULT.STATUS_ACTIVE, 0), (R.FAULT.STATUS_SVALID, 0), (R.FAULT.STATUS_NEST, 0),
    (R.FAULT.P_INFO_CAUSE, 0), (R.FAULT.P_INFO_SRC, 0), (R.FAULT.P_INFO_DETAIL, 0), (R.FAULT.P_ADDR_ADDR, 0),
    (R.FAULT.P_TIME_SEC, 0), (R.FAULT.S_INFO_CAUSE, 0), (R.FAULT.S_INFO_SRC, 0), (R.FAULT.S_INFO_DETAIL, 0),
    (R.FAULT.S_ADDR_ADDR, 0), (R.FAULT.S_TIME_SEC, 0)]

/-- E0's watchdog expires: E0 alone is reset, and a second expiry within 1 s of that reset resets the module (R417). -/
def State.e0Expire (s : State) : State :=
  let s := (s.bump (R.ENG.STAT_WDEXP 0)).raise 0x10 1
  match s.cluster.e0Expired with
  | some t =>
    bif Nat.ble (s.get R.SYS.OPSEC_SEC) (t + 1) then s.moduleReset R.SYS.RESET_CAUSE_WDOG
    else { s with cluster := { s.cluster with e0Expired := some (s.get R.SYS.OPSEC_SEC) } }.engRestart 0
  | none => { s with cluster := { s.cluster with e0Expired := some (s.get R.SYS.OPSEC_SEC) } }.engRestart 0

/-- FAULT.STATUS.ESC_WIN counts the escalations of the last 600 s of operating time (R97). -/
def State.escWindow (s : State) : State :=
  let recent := s.ret.escTimes.filter (fun t => Nat.ble (s.get R.SYS.OPSEC_SEC) (t + 600))
  ({ s with ret := { s.ret with escTimes := recent } }).set R.FAULT.STATUS_ESC_WIN recent.length

/-- An escalation is counted; one that finds two others in the window resets the module, and the BOOT after a second such reset within
3,600 s knows it (R81, R97). -/
def State.countEscalation (s : State) : State :=
  let now := s.get R.SYS.OPSEC_SEC
  let s := s.escWindow
  let n := s.ret.escTimes.length
  let s := ({ s with ret := { s.ret with escTimes := s.ret.escTimes ++ [now] } }).set R.FAULT.STATUS_ESC_WIN (n + 1)
  bif Nat.ble 2 n then
    let loop := match s.ret.escReset with | some t => Nat.ble now (t + 3600) | none => false
    let t := s.moduleReset R.SYS.RESET_CAUSE_ESCALATE
    { t with ret := { t.ret with escReset := some now, escLoop := loop } }
  else s

/-- Escalation (R94): the engines concerned are reset, ESCALATED is set, slots and cause go to Strata, the slots are
cleared. -/
def State.escalate (s : State) (cause src detail addr : Nat) : State :=
  let held := (bif s.bit R.FAULT.STATUS_ACTIVE then [s.get R.FAULT.P_INFO_SRC] else []) ++
    (bif s.bit R.FAULT.STATUS_SVALID then [s.get R.FAULT.S_INFO_SRC] else [])
  let all := src :: held
  let body := leBytes 4 s.pInfo ++ leBytes 4 s.sInfo ++ leBytes 4 (faultInfo cause src detail) ++
    leBytes 4 (s.get R.FAULT.P_ADDR_ADDR) ++ leBytes 4 (s.get R.FAULT.S_ADDR_ADDR) ++ leBytes 4 addr ++
    leBytes 4 (s.get R.FAULT.P_TIME_SEC) ++ leBytes 4 (s.get R.FAULT.S_TIME_SEC)
  let e0 := all.any (Nat.beq 0) || Nat.beq src 0xF
  let engs := (List.range 12).filter (fun k => !Nat.beq k 0 && all.any (Nat.beq k))
  let s := s.each engs (fun k t => t.engRestart k)
  let s := (s.set R.FAULT.STATUS_ESCALATED 1).raise 0x04 1
  let s := ((s.record 0 0x10 body).clearSlots).levels.indicateAlarm
  (s.onlyIf e0 State.e0Expire).countEscalation

/-- The engine that faulted stops at its instruction (R401). -/
def State.stopEngine (s : State) (src : Nat) : State :=
  bif Nat.blt src 12 then s.modEng src (fun e => { e with faulted := true }) else s

/-- A fault arrives: it fills the primary or the secondary slot, or escalates (R93, R94). -/
def State.capFault (s : State) (cause src detail addr : Nat) : State :=
  let s := (s.bump R.FAULT.COUNT_TOTAL).stopEngine src
  let now := s.get R.SYS.OPSEC_SEC
  bif !s.bit R.FAULT.STATUS_ACTIVE then
    (((s.setAll [(R.FAULT.P_INFO_CAUSE, cause), (R.FAULT.P_INFO_SRC, src), (R.FAULT.P_INFO_DETAIL, detail),
      (R.FAULT.P_ADDR_ADDR, addr), (R.FAULT.P_TIME_SEC, now), (R.FAULT.STATUS_ACTIVE, 1)]).raise 0x04 0).fire 62).levels
  else bif Nat.beq src 0 || s.bit R.FAULT.STATUS_SVALID then s.escalate cause src detail addr
  else
    ((s.setAll [(R.FAULT.S_INFO_CAUSE, cause), (R.FAULT.S_INFO_SRC, src), (R.FAULT.S_INFO_DETAIL, detail),
      (R.FAULT.S_ADDR_ADDR, addr), (R.FAULT.S_TIME_SEC, now), (R.FAULT.STATUS_SVALID, 1),
      (R.FAULT.STATUS_NEST, 1)]).raise 0x04 0).fire 62

/-- E0 writes DONE: a held secondary fault moves to the primary slot, else ACTIVE clears (R95). -/
def State.faultDone (s : State) : State :=
  bif s.bit R.FAULT.STATUS_SVALID then
    ((s.setAll [(R.FAULT.P_INFO_CAUSE, s.get R.FAULT.S_INFO_CAUSE), (R.FAULT.P_INFO_SRC, s.get R.FAULT.S_INFO_SRC),
      (R.FAULT.P_INFO_DETAIL, s.get R.FAULT.S_INFO_DETAIL), (R.FAULT.P_ADDR_ADDR, s.get R.FAULT.S_ADDR_ADDR),
      (R.FAULT.P_TIME_SEC, s.get R.FAULT.S_TIME_SEC), (R.FAULT.STATUS_SVALID, 0), (R.FAULT.STATUS_NEST, 0),
      (R.FAULT.S_INFO_CAUSE, 0), (R.FAULT.S_INFO_SRC, 0), (R.FAULT.S_INFO_DETAIL, 0), (R.FAULT.S_ADDR_ADDR, 0),
      (R.FAULT.S_TIME_SEC, 0)])).levels
  else
    (s.set R.FAULT.STATUS_ACTIVE 0).levels

end Sys2Proof.Machine
end

