-- ==== Sys2Proof/Machine/Access.lean ====
section
/-!
DEFINITION. Who may reach what: domain wakes and losses (R98-R102, R107), the rights of R136 and the refusals of an access
(R82, R100, R101, R139). Every register access and every command written to a register passes `guard`.
-/

namespace Sys2Proof.Machine

/-- The host's requester code; engines are 0-11 (R124, OWNER.ID). -/
abbrev HOST : Nat := 12

/-! ### Domains waking -/

/-- Domains unpowered whenever mains is absent (R100, R105): PLC, METER, LUM. -/
def mainsDomain (k : Nat) : Bool := Nat.beq k 19 || Nat.beq k 20 || Nat.beq k 21

/-- Domain `k` can be powered now: a mains-side domain needs mains Present (R100). -/
def State.powered (s : State) (k : Nat) : Bool := !mainsDomain k || s.bit R.PWR.SUPPLY_MAINS

/-- Domain `k` is OFF (R99): in no entry, not AUTO; a bank holds nothing. -/
def State.domDown (s : State) (k : Nat) : State :=
  let s := s.onlyIf (Nat.ble 1 k && Nat.ble k 4) (fun s => { s with mem := s.mem.clearRange (bankBase k) (bankBase k + 0x80000) })
  ({ s with doms := { s.doms with auto := s.doms.auto.filter (fun j => !Nat.beq j k),
                                  entering := s.doms.entering.filter (fun x => !Nat.beq x.1 k) } } : State).set (R.PWR.DOMSTAT k) 0

/-- Domains that wake on access from OFF (R98): all but CORE and the engines. -/
def wakesFromOff (k : Nat) : Bool := !Nat.beq k 0 && !(Nat.ble 5 k && Nat.ble k 16)

/-- The pages that lie in domain `k` (R98), the engines' apart. -/
def domainPages (k : Nat) : List Nat := bif Nat.ble 5 k && Nat.ble k 16 then [] else mappedPages.filter (fun p => Nat.beq (pageDomain p) k)

/-- The registers of page `p` after a wake of its domain from OFF (R99): Reset values and restored RET fields; LOCK stays (R10), and the
tag logic's own fields do not lie in the domain (R566). A radio or PLC page is ENABLED as it was, since its chain calibrates again on
every wake from OFF and its medium returns to service by itself (R90, R168, R274). The PAIR page is E9's: its state goes on while the
Basalt transceivers are OFF (R360). -/
def State.coldPage (s : State) (p : Nat) : State :=
  let tag := s.regs.filter (fun kv => Nat.beq p 0x69 &&
    ((Nat.ble ((0x69 * 256 + 0x20) * 32) kv.1 && Nat.blt kv.1 ((0x69 * 256 + 0x28) * 32)) ||
     (Nat.ble ((0x69 * 256 + 0x58) * 32) kv.1 && Nat.blt kv.1 ((0x69 * 256 + 0x60) * 32))))
  bif Nat.beq p 0x4C then s
  else
    let t := (s.pageReset p).set (R.HDR.LOCK p) (s.get (R.HDR.LOCK p))
    let t := { t with regs := Regs.putAll t.regs tag }
    t.onlyIf (Nat.ble 0x30 p && Nat.ble p 0x3C) (fun t =>
      t.setAll [(R.HDR.EN p, s.get (R.HDR.EN p)), (R.HDR.ST p, s.get (R.HDR.ST p))])

/-- An enabled chain woken from OFF starts its full calibration set (R168); the PLC PHY of an enabled page is IDLE (R223). -/
def State.coldChain (s : State) (k : Nat) : State :=
  let on (p : Nat) : Bool := Nat.beq (s.get (R.HDR.ST p)) 2
  bif Nat.beq k 17 && on 0x30 then s.setAll [(R.RF.STAT_CH_ST 0, 1), (R.RFCAL.STAT_BUSY_A, 1)]
  else bif Nat.beq k 18 && on 0x31 then s.setAll [(R.RF.STAT_CH_ST 1, 1), (R.RFCAL.STAT_BUSY_B, 1)]
  else bif Nat.beq k 19 && on 0x3B then s.set R.PLCPHY.STAT_ST 1
  else s

/-- A waking domain becomes ON; from OFF a bank is cleared first (R102) and registers hold Reset values (R99). NFC reaching ON reports
over-air writes (R571). -/
def State.wakeReady (s : State) (k : Nat) : State :=
  let cold := s.doms.fromOff.any (Nat.beq k)
  let s := { s with doms := { s.doms with fromOff := s.doms.fromOff.filter (fun j => !Nat.beq j k) } }
  let s := s.onlyIf (cold && Nat.ble 1 k && Nat.ble k 4) (fun s =>
    { s with mem := s.mem.clearRange (bankBase k) (bankBase k + 0x80000) })
  let s := s.onlyIf (cold && !Nat.beq k 0 && !decide (s.mode = .boot)) (fun s => s.each (domainPages k) (fun p t => t.coldPage p))
  let s := s.onlyIf (cold && !decide (s.mode = .boot)) (·.coldChain k)
  (s.set (R.PWR.DOMSTAT k) 2).raiseIf (Nat.beq k 22 && s.bit R.NFCTAG.WRCNT_COUNT) 0x69 2

/-- A wake event reaches domain `k` and it starts to wake (R107): IN_TRANSITION until ready. -/
def State.wakeStart (s : State) (k src : Nat) : State :=
  let d := s.dom k
  bif Nat.beq d 2 || Nat.beq d 3 then s
  else
    ({ s with doms := { s.doms with fromOff := bif Nat.beq d 0 then k :: s.doms.fromOff else s.doms.fromOff } }.setAll
      [(R.PWR.DOMSTAT k, 3), (R.PWR.WAKESRC_SRC, src), (R.PWR.WAKESRC_IDX, k)])

/-- An access wakes its target domain where R98 and R101 let it, and then completes as if the domain had been ON
throughout (R107); it abandons an entry (R111). Answers whether the domain serves the access. -/
def State.wakeFor (s : State) (k src : Nat) : State × Bool :=
  bif s.domOn k then (s, true)
  else bif !s.powered k then (s, false)
  else bif Nat.ble 1 k && Nat.ble k 4 then s.wakeBank k src
  else bif Nat.beq (s.dom k) 0 && (!wakesFromOff k || s.noWake k) then (s, false)
  else bif s.entered k then (s.abandonEntry k 1, true)
  else (((s.startClocks).wakeStart k src).wakeReady k, true)

/-! ### Rights (R136) -/

/-- The owner that governs a register: its selector, tap, timer or channel where it has one, else its page (R429, R432,
R460). -/
def State.ownerOf (s : State) (p off : Nat) : Nat :=
  bif (Nat.beq p 0x20 || Nat.beq p 0x21) && Nat.ble 0x20 off && Nat.blt off 0xA0 then
    s.get (R.EVT.SEL_OWNER (32 * (p - 0x20) + (off - 0x20) / 4))
  else bif Nat.beq p 0x22 && Nat.ble 0x20 off && Nat.blt off 0xA0 then s.get (R.EVT.TAP_OWNER ((off - 0x20) / 4))
  else bif Nat.ble 0x24 p && Nat.ble p 0x27 && Nat.ble 0x20 off && Nat.blt off 0xE0 then
    s.get (R.TIM.CFG_OWNER (4 * (p - 0x24) + (off - 0x20) / 0x30))
  else bif Nat.ble 0x2A p && Nat.ble p 0x2B && Nat.ble 0x40 off && Nat.blt off 0xC0 then
    s.get (R.DMA.CFG_OWNER (8 * (p - 0x2A) + (off - 0x40) / 0x10))
  else s.get (R.HDR.OWNER p)

/-- The register is SECURE: its page's SEC, or a selector or tap owned by one of E0-E9 (R429). -/
def State.secureAt (s : State) (p off : Nat) : Bool :=
  bif Nat.ble 0x20 p && Nat.ble p 0x22 && Nat.ble 0x20 off && Nat.blt off 0xA0 then Nat.blt (s.ownerOf p off) 10
  else s.bit (R.HDR.SEC p)

/-- Registers that any requester may write: TIMCTL, TIMRST (R433), MEASURE.SEL (R505), HOSTSIG (R423), DMA CMD (R469), DOMCMD, whose
writes by others than E0 are ignored (R100). -/
def openRegister (p off : Nat) : Bool :=
  (Nat.beq p 0x24 && (Nat.beq off 0xE0 || Nat.beq off 0xE4)) || (Nat.beq p 0x53 && Nat.beq off 0x20) ||
    (Nat.beq p 0x22 && Nat.beq off 0xA0) || (Nat.beq p 0x2A && Nat.beq off 0x24) || (Nat.beq p 0x02 && Nat.beq off 0x28) ||
    (Nat.beq p 0x03 && (Nat.beq off 0x28 || Nat.beq off 0x2C))

/-- FAULT registers that host software may write (R136). -/
def faultHostWrite (p off : Nat) : Bool :=
  Nat.beq p 0x04 && (Nat.beq off 0x20 || Nat.beq off 0x0C || Nat.beq off 0x10)

/-- The reason code that refuses an access by its rights, 0 for none (R136). E0 and the owner have every right; a serving
engine reads and writes the page it serves; others read OPEN pages only. -/
def State.rights (s : State) (who p off : Nat) (wr : Bool) : Nat :=
  bif Nat.beq p 0x58 then 0x02
  else bif Nat.beq who 0 || Nat.beq who (s.ownerOf p off) || serving p who then 0
  else bif openRegister p off then 0
  else bif s.secureAt p off then 0x02
  else bif !wr then 0
  else bif Nat.beq who HOST && faultHostWrite p off then 0
  else 0x01

/-- A refusal for want of a powered or waking domain: the address goes to PWR.ERRINFO and OFFACC is set (R100, R101). -/
def State.domainOff (s : State) (who addr : Nat) (wr : Bool) : State :=
  ((s.refuseAccess who 0x06 addr wr).set (R.HDR.ERRINFO 0x02) (0x40000000 + addr)).raise 0x02 0

/-- An access to a bank that is held OFF (R101): DOMAIN_OFF, the address in PWR.ERRINFO, OFFACC. -/
def State.bankOff (s : State) (who sys : Nat) (wr : Bool) : State :=
  let r := s.noteBankOff who sys wr
  r.1.each r.2 (fun f t => t.raise f.1 f.2)

/-- A register that lies across the bridge: the mains-side pages but for ENERGY_LO, ENERGY_HI and REVWH, which the SELV side
serves (R19, R558). -/
def mainsReg (p off : Nat) : Bool := mainsPage p && !(Nat.beq p 0x62 && Nat.ble 0x40 off && Nat.ble off 0x48)

/-- The power domain that serves a register. -/
def regDomain (p off : Nat) : Nat := bif mainsPage p && !mainsReg p off then 0 else pageDomain p

/-- Reset is held, by RSTN low or by the shutdown of R64: no SELV domain but QUARTZ runs (R75). -/
def State.resetHeld (s : State) : Bool := s.supply.rstnLow || s.supply.shutdown

/-- In HOLD, FIELD and the unpowered state no requester runs: CORE and the engines are off (R105), as they are while reset is held. -/
def State.alive (s : State) : Bool :=
  !decide (s.mode = .hold) && !decide (s.mode = .field) && !decide (s.mode = .unpowered) && !s.resetHeld

/-- An access to page:offset by `who` (0-11 engine, 12 host): refused and recorded, or let through with CORE, whose fabric carries it, and
its domain awake. The flag says that it goes through. -/
def State.guard (s : State) (who p off : Nat) (wr : Bool) : State × Bool :=
  let addr := p * 256 + off
  bif !s.alive then (s, false)
  else
    let s := s.wakeDomain 0 0
    bif decide (s.mode = .boot) && Nat.beq who HOST && !Nat.beq p 0x00 then (s.refuseAccess who 0x04 addr wr, false)
    else bif !mapped p then (s.refuseAccess who 0x0E addr wr, false)
    else
      let r := s.rights who p off wr
      bif !Nat.beq r 0 then (s.refuseAccess who r addr wr, false)
      else bif mainsReg p off && (!s.bit R.PWR.SUPPLY_MAINS || s.bridge.silent) then (s.domainOff who addr wr, false)
      else bif Nat.beq (regDomain p off) 0 then (s, true)
      else
        let w := s.wakeFor (regDomain p off) 0
        bif w.2 then (w.1, true) else (w.1.domainOff who addr wr, false)

/-- `who` serves the page and is not E0: its writes of 1 set W1C bits and it writes the RO fields it maintains (R8, R136). -/
def servesPage (who p : Nat) : Bool := !Nat.beq who 0 && serving p who

/-- `who` serves the page and has no other right to the register: it writes RO fields and raises W1C bits only (R136). -/
def State.servesOnly (s : State) (who p off : Nat) : Bool :=
  !Nat.beq who 0 && !Nat.beq who (s.ownerOf p off) && serving p who && !openRegister p off

/-- A block-specific field of a page whose enable is being checked: writes to it are refused with BUSY (R128). A GO of TXCMD has an answer
of its own (R541). -/
def State.checking (s : State) (p off : Nat) : Bool :=
  Nat.ble 0x20 off && !alwaysOn p && !(Nat.ble 0x10 p && Nat.ble p 0x1B) && !(Nat.beq p 0x60 && Nat.beq off 0x2C) &&
    Nat.beq (s.get (R.HDR.ST p)) 1

/-- A write command to page:offset: the effect takes place only when the access is let through, and not for an engine that merely
serves the page. -/
def State.guarded (s : State) (who p off : Nat) (f : State → State) : State :=
  let g := s.guard who p off true
  bif g.2 && !s.servesOnly who p off then
    (bif g.1.checking p off then g.1.refuse p RC.BUSY off else f g.1)
  else g.1

/-- An operation of page `p`: it acts on an ENABLED page only. A page that is CHECKING or STOPPING answers BUSY (R128); the
spec names no code for a command on a DISABLED page, DEP_DISABLED is the model's (log entry 10). -/
def State.ready (s : State) (p off : Nat) (f : State → State) : State :=
  let st := s.get (R.HDR.ST p)
  bif alwaysOn p || Nat.beq st 2 then f s
  else s.refuse p (bif Nat.beq st 1 || Nat.beq st 3 then RC.BUSY else RC.DEP_DISABLED) off

/-- A command written to page:offset by `who`: let through, and on an ENABLED page. -/
def State.operate (s : State) (who p off : Nat) (f : State → State) : State :=
  s.guarded who p off (fun s => s.ready p off f)

/-- The guarded effect as a command's outcome. -/
def State.writeCmd (s : State) (who p off : Nat) (f : State → State) : Host.Outcome State Fault Refusal :=
  .next (s.guarded who p off f)

/-- A command of an ENABLED page as an outcome. -/
def State.command (s : State) (who p off : Nat) (f : State → State) : Host.Outcome State Fault Refusal :=
  .next (s.operate who p off f)

end Sys2Proof.Machine
end

