-- ==== Sys2Proof/Machine/Dma.lean ====
section
/-!
DEFINITION. DMA channels: starting, stopping and poking them, triggers, and the bus-error halt (R460, R466-R469). The copy
itself is in DmaCopy.lean.
-/

namespace Sys2Proof.Machine

open Sys2Proof

/-- IRQ_STAT bits that a step sets, each with its taps (R125). -/
def State.raises (s : State) (l : List (Nat × Nat)) : State := s.each l (fun pb t => t.raise pb.1 pb.2)

/-- The engine is halted by a bus error (R468). -/
def State.dmaHalted (s : State) : Bool := Nat.beq (s.get (R.HDR.BLK 0x2A)) 1

/-- The page of channel `c`, and the offset of its CTL. -/
def dmaPage (c : Nat) : Nat := 0x2A + c / 8
def dmaCtlOff (c : Nat) : Nat := 0x48 + 0x10 * (c % 8)

/-- The channel fetches its descriptor (R466). -/
def State.dmaStart (s : State) (c : Nat) : State :=
  let r := s.dmaFetch c
  r.1.raises r.2

/-- RUN written 1 (R466, R469). -/
def State.dmaRun (s : State) (c : Nat) : State :=
  let st := s.get (R.DMA.STAT_ST c)
  bif s.dmaHalted then s.refuse (dmaPage c) 0x43 (dmaCtlOff c)
  else bif Nat.beq st 0 || Nat.beq st 4 then (s.set (R.DMA.CTL_RUN c) 1).dmaStart c
  else s

/-- The channel stands STOPPED. -/
def State.dmaStopped (s : State) (c : Nat) : State :=
  ({ s with dma := s.dma.modify c (fun ch => { ch with desc := none, done := 0, refSeen := false, stopping := false }) }.set
    (R.DMA.CTL_RUN c) 0).set (R.DMA.STAT_ST c) 0

/-- RUN written 0: a descriptor in progress is completed first (R466). -/
def State.dmaStop (s : State) (c : Nat) : State :=
  let st := s.get (R.DMA.STAT_ST c)
  bif Nat.beq st 0 then s
  else bif Nat.beq st 3 then { s with dma := s.dma.modify c (fun ch => { ch with stopping := true }) }
  else s.dmaStopped c

/-- POKE makes an idle channel fetch again (R466, R469). -/
def State.dmaPoke (s : State) (c : Nat) : State :=
  bif s.dmaHalted then s.refuse (dmaPage c) 0x43 (dmaCtlOff c)
  else bif Nat.beq (s.get (R.DMA.STAT_ST c)) 1 then s.dmaStart c
  else s

/-- A write of CTLc: RUN as it changes, then POKE. -/
def State.dmaCtl (s : State) (c w : Nat) : State :=
  let run := w.testBit 0
  let on := s.bit (R.DMA.CTL_RUN c)
  let st := s.get (R.DMA.STAT_ST c)
  let s := bif run then (bif !on || Nat.beq st 4 then s.dmaRun c else s) else (bif on then s.dmaStop c else s)
  s.onlyIf (w.testBit 1) (·.dmaPoke c)

/-- DMA_RUN_SET (R466). -/
def execDmaRunSet (who : Requester) (c : Fin 16) (s : State) : Host.Outcome State Fault Refusal :=
  s.command who (dmaPage c) (dmaCtlOff c) (fun s => s.dmaRun c)

/-- DMA_RUN_CLEAR (R466). -/
def execDmaRunClear (who : Requester) (c : Fin 16) (s : State) : Host.Outcome State Fault Refusal :=
  s.command who (dmaPage c) (dmaCtlOff c) (fun s => s.dmaStop c)

/-- DMA_POKE (R466). -/
def execDmaPoke (who : Requester) (c : Fin 16) (s : State) : Host.Outcome State Fault Refusal :=
  s.command who (dmaPage c) (dmaCtlOff c) (fun s => s.dmaPoke c)

/-- DMA_TRIGGER (R426, R427, R466): a trigger event reaches the channel's input, while CORE is ON (R98, R424). -/
def execDmaTrigger (c : Fin 12) (s : State) : Host.Outcome State Fault Refusal :=
  let r := s.deliver (52 + c) (fun i => (s.get (R.TIM.CNT_COUNT i), false))
  .next (bif s.alive && s.domOn 0 then r.1.raises r.2 else s)

/-- The halt of every channel by a bus error at `addr` (R468); once halted, further errors are only counted (R469). -/
def State.dmaBusError (s : State) (addr : Nat) : State :=
  let s := s.bump R.DMA.CNT_BUSERRCNT
  bif s.dmaHalted then s
  else
    (((s.set (R.HDR.BLK 0x2A) 1).set R.DMA.BUSADDR_ADDR addr).fire 61).raise 0x2A 16

/-- CMD.CLEAR by E0 or the page owner: every channel STOPPED, its index unchanged (R469). -/
def State.dmaClear (s : State) (who : Nat) : State :=
  bif (Nat.beq who 0 || Nat.beq who (s.get (R.HDR.OWNER 0x2A))) && s.dmaHalted then
    (s.set (R.HDR.BLK 0x2A) 0).each (List.range 16) (fun c s => s.dmaStopped c)
  else s

/-- DMA_CLEAR (R469). -/
def execDmaClear (who : Requester) (s : State) : Host.Outcome State Fault Refusal :=
  s.command who 0x2A 0x24 (fun s => s.dmaClear who)

end Sys2Proof.Machine
end

