-- ==== Sys2Proof/Machine/EngineCtl.lean ====
section
/-!
DEFINITION. Engine control (ch. 15): the MCODE page (R403-R410), mailboxes (R413, R414), release, stop and watchdog (R416,
R417), debug halts (R419) and the collector (R420-R422).
-/

namespace Sys2Proof.Machine

open Sys2Proof

/-- Memory word of an engine's local SRAM at an even address (R377). -/
def Engine.localWord (e : Engine) (a : Nat) : Nat :=
  (e.sram.look 0 a).toNat + 256 * (e.sram.look 0 ((a + 1) % 65536)).toNat

/-! ### Microcode (R403-R410) -/

/-- The engine that MCODE.SEL names. -/
def State.mcSel (s : State) : Nat := s.get R.MCODE.SEL_ENG

/-- OPEN clears the table and the store and enters LOADING (R409). -/
def State.mcodeOpen (s : State) : State :=
  let k := s.mcSel
  bif !decide ((s.eng k).run = .reset) then s.refuse 0x1C 0x40 0x2C
  else (s.modEng k (fun e => { e with decode := [], micro := [], mc := .loading })).set (R.ENG.STAT_MC_OK k) 0

/-- COMMIT runs the load check and measures a table that passes; a digest other than the one recorded at BOOT, or than the
manifest's during BOOT, fails with MC_INVALID (R409). -/
def State.mcodeCommit (s : State) : State :=
  let k := s.mcSel
  let e := s.eng k
  let boot := decide (s.mode = .boot)
  let fail (s : State) (addr : Nat) : State :=
    ((s.modEng k (fun e => { e with mc := .failed, mcFailAddr := addr })).setAll
      [(R.MCODE.STAT_FAILADDR, addr), (R.ENG.STAT_MC_OK k, 0)]).refuse 0x1C 0x41 0x2C
  bif !decide (e.run = .reset) then s.refuse 0x1C 0x40 0x2C
  else
    let s := match e.loadFail with
    | some a => fail s a
    | none =>
      let d := e.tableDigest
      let want := bif boot then some (s.flash.active.mcodeDigest k) else e.mcBoot
      bif decide (want = some d) then
        let first := bif boot then some d else e.mcBoot
        let s := (s.modEng k (fun e => { e with mc := .measured, mcDigest := d, mcBoot := first })).set (R.ENG.STAT_MC_OK k) 1
        bif boot then s.extend (bif Nat.ble 10 k then k - 6 else 3) 0x05 k d else s.extend 6 0x09 k d
      else fail s e.mcFailAddr
    s.raise 0x1C 0

/-- MCODE_OPEN (R409). -/
def execMcodeOpen (who : Requester) (s : State) : Host.Outcome State Fault Refusal :=
  s.command who 0x1C 0x2C State.mcodeOpen

/-- MCODE_COMMIT (R409). -/
def execMcodeCommit (who : Requester) (s : State) : Host.Outcome State Fault Refusal :=
  s.command who 0x1C 0x2C State.mcodeCommit

/-- ADDR counts up, wrapping, after each DATA access. -/
def State.mcodeNext (s : State) : State := s.bumpWrap R.MCODE.ADDR_UADDR

/-- A write of DATA: in LOADING only, otherwise MODE. -/
def State.mcodeWrite (s : State) (w : Nat) : State :=
  let k := s.mcSel
  bif decide ((s.eng k).mc = .loading) then
    (s.modEng k (fun e => { e with micro := e.micro.put (s.get R.MCODE.ADDR_UADDR) w })).mcodeNext
  else s.refuse 0x1C RC.MODE 0x28

/-- A read of DATA: the micro-word in LOADING, else 0. -/
def State.mcodeRead (s : State) : State × Nat :=
  let e := s.eng s.mcSel
  (s.mcodeNext, bif decide (e.mc = .loading) then e.microWord (s.get R.MCODE.ADDR_UADDR) else 0)

/-- A write of DECn: in LOADING only, otherwise MODE. -/
def State.mcodeEntry (s : State) (n w : Nat) : State :=
  let k := s.mcSel
  bif decide ((s.eng k).mc = .loading) then s.modEng k (fun e => { e with decode := e.decode.put n w })
  else s.refuse 0x1C RC.MODE (0x40 + 4 * n)

/-- MCODE_DATA_ACCESS (R403): a write of the word given, or a read. -/
def execMcodeDataAccess (who : Requester) (write : Option Word) (s : State) : Host.Outcome State Fault Refusal :=
  match write with
  | some w => s.command who 0x1C 0x28 (fun s => s.mcodeWrite w.toNat)
  | none =>
    let g := s.guard who 0x1C 0x28 false
    .next (bif g.2 then
      let r := g.1.mcodeRead
      { r.1 with lastRead := r.2 }
    else { g.1 with lastRead := 0 })

/-- The word of the instruction at PC, as FAULT.DETAIL shows it; 0 outside local SRAM. -/
def Engine.wordAtPc (e : Engine) : Nat := bif Nat.blt e.pc.toNat 0x8000 then e.localWord e.pc.toNat else 0

/-- MCODE_SCRUB (R410): the table and store of an engine whose domain is ON are rehashed; a mismatch, or an upset of a stored
bit, raises MCODE. -/
def execMcodeScrub (e : Fin 12) (upset : Bool) (s : State) : Host.Outcome State Fault Refusal :=
  let en := s.eng e
  bif s.domOn (5 + e) && decide (en.mc = .measured) then
    bif upset || !decide (en.tableDigest = en.mcDigest) then
      .next ((((s.modEng e (fun x => { x with mcScrubErr := true, mc := .failed })).setAll
        [(R.MCODE.STAT_SCRUB_ERR, 1), (R.ENG.STAT_MC_OK e, 0)]).raise 0x1C 1).capFault 0x05 e en.wordAtPc en.pc.toNat)
    else .next ((s.modEng e (fun x => { x with mcScrubErr := false })).set R.MCODE.STAT_SCRUB_ERR 0)
  else .next s

/-! ### Mailboxes (R413, R414) -/

/-- The engine sends the message it has built (R413). -/
def State.mailSend (s : State) (e dest : Nat) : State :=
  let r := s.deliverMail dest ((s.eng e).outbound.from e)
  r.1.modEng e (fun x => { x with txst := r.2 })

/-- MAILBOX_SEND (R413): the write of TXDEST. -/
def execMailboxSend (e : Fin 12) (dest : BitVec 8) (s : State) : Host.Outcome State Fault Refusal :=
  .next (s.mailSend e dest.toNat)

/-! ### Release, stop, watchdog (R416, R417) -/

/-- CTL.EN = 1 on an ENG page: the engine needs a verified image and no failed table (R409, R411, R416). -/
def State.engineRelease (s : State) (k : Nat) : State :=
  let p := 0x10 + k
  bif s.bit (R.HDR.LOCK p) then s.refuse p RC.LOCKED 0x04
  else bif !decide ((s.eng k).run = .reset) then s
  else bif !((s.eng k).image || Nat.beq k 0) || decide ((s.eng k).mc = .failed) then s.refuse p RC.NO_IMAGE 0
  else (s.engRelease k).refuse p 0 0

/-- CTL.EN = 0: the engine is reset, a stalled post withdrawn; ENG0 cannot be disabled (R416). -/
def State.engineStop (s : State) (k : Nat) : State :=
  let p := 0x10 + k
  bif Nat.beq k 0 then s.refuse p RC.NOT_SUPPORTED 0x04
  else bif s.bit (R.HDR.LOCK p) then s.refuse p RC.LOCKED 0x04
  else bif Nat.beq (s.get (R.HDR.ST p)) 0 then s
  else (s.engReset k).setAll [(R.HDR.EN p, 0), (R.HDR.ST p, 0)]

/-- ENGINE_RELEASE (R416). -/
def execEngineRelease (who : Requester) (e : Fin 12) (s : State) : Host.Outcome State Fault Refusal :=
  s.writeCmd who (0x10 + e) 0x04 (fun s => s.engineRelease e)

/-- ENGINE_STOP (R416). -/
def execEngineStop (who : Requester) (e : Fin 12) (s : State) : Host.Outcome State Fault Refusal :=
  s.writeCmd who (0x10 + e) 0x04 (fun s => s.engineStop e)

/-- ENGINE_WDOG_EXPIRY (R417): only while the engine executes: not in WAIT, HALTED, stalled or stopped by a fault; E0's does
not run in BOOT, and MS = 0 disables E1-E11's. -/
def execEngineWdogExpiry (e : Fin 12) (s : State) : Host.Outcome State Fault Refusal :=
  let en := s.eng e
  bif decide (en.run = .running) && !en.faulted && en.stalled.isNone && !Nat.beq (s.get (R.ENG.WDOG_MS e)) 0 then
    bif Nat.beq e 0 then .next (bif decide (s.mode = .boot) then s else s.e0Expire)
    else .next (((s.bump (R.ENG.STAT_WDEXP e)).raise (0x10 + e) 1).capFault 0x01 e en.wordAtPc en.pc.toNat)
  else .next s

/-! ### The collector (R420-R422) -/

/-- An entry enters the FIFO: COLLECT_POST fires, ENG0 wakes; FULL is flagged at the 15 entries that E1-E11 see as full
(log entry 11). -/
def State.collectEnter (s : State) (p : Post) : State :=
  let s := { s with cluster := { s.cluster with fifo := s.cluster.fifo ++ [p] } }.bump R.COLLECT.CNT_POSTS
  let s := ((s.raise 0x1D 0).raiseIf (Nat.ble 15 s.cluster.fifo.length) 0x1D 1).fire 63
  s.levels

/-- The post that an engine's port holds. -/
def State.postOf (s : State) (k : Nat) : Post :=
  let e := s.eng k
  ⟨k, e.postResp, s.get (R.ENG.STAT_GEN k) % 16, e.postCode.toNat, e.postValue⟩

/-- Engine `k` posts `p`: it enters, stalls the poster, or, for E0, is refused (R420). -/
def State.collectOffer (s : State) (k : Nat) (p : Post) : State :=
  let n := s.cluster.fifo.length
  bif Nat.beq k 0 then
    bif Nat.ble 16 n then s.modEng 0 (fun e => { e with postRefused := true })
    else (s.modEng 0 (fun e => { e with postRefused := false })).collectEnter p
  else bif Nat.ble 15 n then
    ((s.modEng k (fun e => { e with stalled := some p })).set (R.ENG.STAT_STALLED k) 1).bump R.COLLECT.CNT_STALLS
  else s.collectEnter p

/-- The write of 0xF407: the engine posts what its port holds. -/
def State.collectPost (s : State) (k : Nat) : State := s.collectOffer k (s.postOf k)

/-- COLLECT_POST (R420). -/
def execCollectPost (e : Fin 12) (code : Half) (resp : Bool) (value : Word) (s : State) : Host.Outcome State Fault Refusal :=
  .next ((s.modEng e (fun x => { x with postCode := code, postResp := resp, postValue := value })).collectPost e)

/-- The lowest stalled engine enters as long as E1-E11 do not see the FIFO full (R421). -/
def State.collectAdmit (s : State) : State :=
  bif Nat.ble 15 s.cluster.fifo.length then s
  else
    match (List.range 12).find? (fun k => (s.eng k).stalled.isSome) with
    | none => s
    | some k =>
      match (s.eng k).stalled with
      | none => s
      | some p => ((s.modEng k (fun e => { e with stalled := none })).set (R.ENG.STAT_STALLED k) 0).collectEnter p

/-- POP.GO removes the head; the freed entry admits a stalled post (R421). -/
def State.collectPop (s : State) : State :=
  match s.cluster.fifo with
  | [] => s
  | _ :: rest => ({ s with cluster := { s.cluster with fifo := rest } }.levels).collectAdmit

/-- COLLECT_POP (R421). -/
def execCollectPop (who : Requester) (s : State) : Host.Outcome State Fault Refusal :=
  s.command who 0x1D 0x28 State.collectPop

/-- RESP1 delivers RESP0 to engine 1-11, unless it has one pending (R422). -/
def State.collectRespond (s : State) (k : Nat) : State :=
  bif Nat.beq k 0 || Nat.blt 11 k then s.refuse 0x1D RC.BAD_VALUE 0x34
  else bif (s.eng k).response.isSome then s.refuse 0x1D RC.BUSY 0x34
  else (s.modEng k (fun e => { e with response := some (BitVec.ofNat 32 (s.get R.COLLECT.RESP0_VALUE)) })).wakeEngine k

/-- COLLECT_RESPONSE (R422). -/
def execCollectResponse (who : Requester) (target : BitVec 4) (s : State) : Host.Outcome State Fault Refusal :=
  s.command who 0x1D 0x34 (fun s => s.collectRespond target.toNat)

/-- COLLECT_RESP_READ (R420): the engine reads 0xF40F and the response is taken. -/
def execCollectRespRead (e : Fin 12) (s : State) : Host.Outcome State Fault Refusal :=
  let v := (s.eng e).response.getD 0
  .next { s.modEng e (fun x => { x with response := none }) with lastRead := v.toNat }

/-! ### Debug halts (R419) -/

/-- The engine halts before the instruction at PC; a stalled post is withdrawn. -/
def State.debugHalt (s : State) (k : Nat) : State :=
  let e := s.eng k
  match e.run with
  | .reset => s
  | .halted => s
  | r =>
    let back := bif e.stalled.isSome then e.stalled else e.withdrawn
    ((s.setEng k { e with run := .halted, heldWait := decide (r = .waiting), stalled := none, withdrawn := back }).set (R.ENG.STAT_STALLED k) 0).raise (0x10 + k) 0

/-- RESUME: refused unless HALTED; a withdrawn post is repeated. -/
def State.debugResume (s : State) (k : Nat) : State :=
  let e := s.eng k
  bif !decide (e.run = .halted) then s.refuse (0x10 + k) 0x40 0x28
  else
    let s := s.setEng k { e with run := bif e.heldWait then .waiting else .running, heldWait := false, withdrawn := none }
    match e.withdrawn with
    | some p => s.collectOffer k p
    | none => s

/-- DEBUG_HALT (R419). -/
def execDebugHalt (who : Requester) (e : Fin 12) (s : State) : Host.Outcome State Fault Refusal :=
  s.writeCmd who (0x10 + e) 0x28 (fun s => s.debugHalt e)

/-- DEBUG_RESUME (R419). -/
def execDebugResume (who : Requester) (e : Fin 12) (s : State) : Host.Outcome State Fault Refusal :=
  s.writeCmd who (0x10 + e) 0x28 (fun s => s.debugResume e)

/-- BREAKPOINT_MATCH (R419): PC stands at the enabled breakpoint of a running engine. -/
def execBreakpointMatch (e : Fin 12) (s : State) : Host.Outcome State Fault Refusal :=
  bif s.bit (R.ENG.BRKPT_EN e) && Nat.beq (s.get (R.ENG.BRKPT_ADDR e)) (s.eng e).pc.toNat &&
      decide ((s.eng e).run = .running) && !(s.eng e).faulted then .next (s.debugHalt e)
  else .next s

end Sys2Proof.Machine
end

