-- ==== Sys2Proof/Machine/Flash.lean ====
section
/-!
DEFINITION. The ROM flash routine (R472-R487), and the STORE page with E8's service of the customer partition (R488, R489).
-/

namespace Sys2Proof.Machine

open Sys2Proof

/-! ### Engine memory that needs no fabric rights: local SRAM and the slice (R378) -/

/-- System address of byte `a` of engine `k`'s slice. -/
def sliceAddr (k a : Nat) : Nat := 0x200DC000 + 0x3000 * k + (a - 0xC000)

/-- The range lies in local SRAM or in the slice. -/
def inOwn (a n : Nat) : Bool := Nat.ble (a + n) 0x8000 || (Nat.ble 0xC000 a && Nat.ble (a + n) 0xF000)

/-- A byte of local SRAM or of the slice. -/
def State.ownByte (s : State) (k a : Nat) : Byte :=
  bif Nat.blt a 0x8000 then (s.eng k).sram.look 0 a else s.sram (sliceAddr k a)

/-- `n` bytes from an address of local SRAM or of the slice. -/
def State.ownBytes (s : State) (k a n : Nat) : List Byte := (List.range n).map (fun i => s.ownByte k (a + i))

/-- Store bytes in local SRAM or in the slice. -/
def State.ownStore (s : State) (k a : Nat) (bs : List Byte) : State :=
  bif Nat.blt a 0x8000 then s.modEng k (fun e => { e with sram := e.sram.storeList 0 a bs })
  else s.sramStore (sliceAddr k a) bs

/-! ### The controller (R473, R476-R478) -/

/-- The controller's registers after a transfer: ADDR and LEN of the last piece of at most 128 bytes, and its data. -/
def State.transfer (s : State) (a : Nat) (bs : List Byte) : State :=
  let n := bs.length
  let last := (n - 1) / 128 * 128
  let piece := bs.drop last
  (s.setAll [(R.FLASH.ADDR_ADDR, s.flash.phys (a + last)), (R.FLASH.LEN_LEN, piece.length - 1)]).each
    (List.range 32) (fun k s => bif Nat.blt (4 * k) piece.length then s.set (R.FLASH.BUF_DATA k) (ofLe (slice piece (4 * k) 4)) else s)

/-- Continuous read ends (R478). -/
def State.endCread (s : State) : State := s.set R.FLASH.STAT_CREAD 0

/-- The two status bits of the outstanding erase. -/
def State.showErase (s : State) : State :=
  (s.setBit R.FLASH.STAT_BUSY (match s.flash.erase with | some e => !e.suspended | none => false)).setBit R.FLASH.STAT_SUSP
    (match s.flash.erase with | some e => e.suspended | none => false)

/-- The range touches the sector or block of the outstanding erase (R475 IN_ERASE). -/
def Flash.inErase (f : Flash) (a n : Nat) : Bool :=
  match f.erase with
  | some e => Nat.blt a (e.addr + eraseLen e.block) && Nat.blt e.addr (a + n)
  | none => false

/-- The offset of record `r` in its sector, records packed from the sector's start (R530). -/
def Strata.offsetOf (st : Strata) (r : StrataRec) : Nat :=
  ((st.records.filter (fun q => Nat.beq q.sector r.sector && Nat.blt q.seq r.seq)).map (fun q => strataSize q.body.length)).sum

/-- A byte of the Strata partition as the programmed records leave it (R524, R530). -/
def Strata.byte (st : Strata) (o : Nat) : Byte :=
  match st.records.find? (fun r => Nat.beq r.sector (o / 4096) && Nat.ble (st.offsetOf r) (o % 4096) &&
      Nat.blt (o % 4096) (st.offsetOf r + strataSize r.body.length)) with
  | some r => r.bytes.getD (o % 4096 - st.offsetOf r) 0xFF
  | none => 0xFF

/-- A byte of the array as the routine reads it: the Strata partition holds the recorder's records. -/
def State.flashByte (s : State) (a : Nat) : Byte :=
  bif Nat.ble 0x01080000 a && Nat.blt a 0x01480000 then s.flash.byte a &&& s.strata.byte (a - 0x01080000) else s.flash.byte a

/-- `n` bytes as the routine reads them. -/
def State.flashBytes (s : State) (a n : Nat) : List Byte := (List.range n).map (fun i => s.flashByte (a + i))

/-! ### Permissions (R472) -/

/-- Engine `k` may program and erase the address in the mode. -/
def State.mayWrite (s : State) (k a : Nat) : Bool :=
  let p := partitionOf a
  let maint := decide (s.mode = .maintenance)
  bif inControl a then false
  else bif Nat.beq p 0 || Nat.beq p 1 then Nat.beq k 0 && maint
  else bif Nat.beq p 6 then Nat.beq k 0
  else bif Nat.beq p 8 || Nat.beq p 9 then false
  else Nat.beq k 8

/-! ### Wear and counters (R484, R485) -/

/-- The counts and the wear judgement of an erase of `pulses` pulses. -/
def State.erasePulses (s : State) (a : Nat) (block : Bool) (pulses : Nat) : State :=
  let nom := (bif block then Config.nomBlock else Config.nomErase).toNat
  let s := (s.bump R.STORE.CNT0_ERASES).set R.FLASH.STAT_PULSES (min pulses 255)
  let s := s.onlyIf (!block) (fun s =>
    (s.set R.STORE.PULSE_LAST (min pulses 255)).set R.STORE.PULSE_MAX (max (s.get R.STORE.PULSE_MAX) (min pulses 255)))
  bif Nat.blt (2 * nom) pulses then
    ((s.setAll [(R.STORE.WEAR_WARN_ACTIVE, 1), (R.STORE.WEAR_WARN_SECTOR, a / 4096)]).raise 0x59 1).record 8 0x23
      (leBytes 4 (a / 4096) ++ zeros 4 ++ leBytes 1 pulses ++ leBytes 1 nom ++ zeros 6)
  else s

/-- Retirement with `fails` spares that fail in turn: each failing spare takes a remap entry of its own (R486). -/
def State.retireThrough (s : State) (sector at_ : Nat) (patch : List Byte) : Nat → State × Nat
  | 0 => s.retireSector sector at_ patch
  | n + 1 =>
    let r := s.retireSector sector at_ patch
    bif Nat.beq r.2 0x01 then r.1.retireThrough sector at_ patch n else r

/-- An erase is carried out: cells set, journal entry DONE, counters, and the retirement of a sector that fails (R482-R486).
A boot-block sector is not retired: NO_SPARE (R485). -/
def State.eraseDone (s : State) (a : Nat) (block : Bool) (seq : Nat) (r : EraseResult) : State × Nat :=
  let s := { s with flash := (s.flash.eraseAt a block).jdone seq }
  let s := s.erasePulses a block r.pulses
  match r.failSector with
  | none => (s.set R.FLASH.STAT_EFAIL 0, 0x00)
  | some k =>
    let s := s.set R.FLASH.STAT_EFAIL 1
    let sector := a / 4096 + (bif block then k.val else 0)
    bif Nat.blt a 0x80000 then (s, 0x16) else s.retireThrough sector (4096 * sector) [] r.spareFails

/-! ### The routine's calls (R474, R475) -/

/-- The octets 1-11 of a call are in order: no reserved bit, LEN in its range, BUF where it must lie. -/
def romSound (c : RomCall) (k : Nat) (hasData : Bool) : Bool :=
  Nat.blt c.flags.toNat 4 && Nat.beq c.rsv.toNat 0 &&
    bif hasData then Nat.ble 1 c.len.toNat && Nat.ble c.len.toNat 4096 && inOwn c.buf.toNat c.len.toNat &&
      Nat.ble (c.addr.toNat + c.len.toNat) 0x08000000 && Nat.blt k 12
    else Nat.beq c.len.toNat 0

/-- READ: the data, or the status that refuses it. A running erase is suspended and resumed for the call, which ends continuous read (R476,
R478). -/
def State.romRead (s : State) (k : Nat) (c : RomCall) : State × Nat :=
  let a := c.addr.toNat
  let n := c.len.toNat
  bif !romSound c k true then (s.endCread, 0x10)
  else bif s.flash.inErase a n then (s.endCread, 0x14)
  else
    let bs := s.flashBytes a n
    let s := (s.transfer a bs).ownStore k c.buf.toNat bs
    let s := { s with flash := { s.flash with contAddr := a + n } }
    (s.setBit R.FLASH.STAT_CREAD (c.flags.getLsbD 0 && !s.bit R.FLASH.STAT_BUSY), 0x00)

/-- A program of the array by logical address with the array's result: whole, retired (R486) or without a spare. -/
def State.programAt (s : State) (a : Nat) (bs : List Byte) (r : ProgramResult) : State × Nat :=
  let s := (s.bump R.STORE.CNT0_PVRETRY r.retries).set R.FLASH.STAT_PULSES (min r.pulses 255)
  match r.failPage with
  | none => ({ s with flash := s.flash.program a bs }.set R.FLASH.STAT_VFAIL 0, 0x00)
  | some p =>
    let start := bif Nat.beq p 0 then a else (a / 256 + p) * 256
    let before := bs.take (start - a)
    let s := { s with flash := s.flash.program a before }.set R.FLASH.STAT_VFAIL 1
    s.retireThrough (a / 4096) start (bs.drop (start - a)) r.spareFails

/-- PROGRAM with its checks (R472, R475). -/
def State.romProgram (s : State) (k : Nat) (c : RomCall) (r : ProgramResult) : State × Nat :=
  let s := s.endCread
  let a := c.addr.toNat
  let n := c.len.toNat
  let bs := s.ownBytes k c.buf.toNat n
  bif !romSound c k true then (s, 0x10)
  else bif !Nat.beq (a / 4096) ((a + n - 1) / 4096) then (s, 0x11)
  else bif !s.mayWrite k a then (s, 0x12)
  else bif s.flash.inErase a n then (s, 0x14)
  else bif s.flash.needsErase a bs then (s, 0x13)
  else (s.transfer a bs).programAt a bs r

/-- ERASE_S and ERASE_B with their checks; with ASYNC the erase stays outstanding (R476). -/
def State.romErase (s : State) (k : Nat) (block : Bool) (c : RomCall) (r : EraseResult) : State × Nat :=
  let s := s.endCread
  let a := c.addr.toNat
  bif !romSound c k false || Nat.ble 0x08000000 a then (s, 0x10)
  else bif !Nat.beq (a % eraseLen block) 0 then (s, 0x11)
  else bif !s.mayWrite k a || !s.mayWrite k (a + eraseLen block - 1) then (s, 0x12)
  else bif s.flash.inErase a (eraseLen block) then (s, 0x14)
  else bif s.flash.erase.isSome then (s, 0x15)
  else
    let j := s.flash.jopen (bif block then 2 else 1) 0xFF a
    let s := { s with flash := j.1 }.set R.FLASH.ADDR_ADDR (s.flash.phys a)
    bif c.flags.getLsbD 1 then
      ({ s with flash := { s.flash with erase := some ⟨a, block, j.2, false, false, k⟩ } }.showErase, 0x00)
    else s.eraseDone a block j.2 r

/-- SUSPEND: refused within 1 ms of the last RESUME (R475, R476); with no erase to suspend there is nothing to do. -/
def State.romSuspend (s : State) (k : Nat) (c : RomCall) (early : Bool) : State × Nat :=
  let s := s.endCread
  bif !romSound c k false then (s, 0x10)
  else
    match s.flash.erase with
    | none => (s, 0x00)
    | some e =>
      bif e.suspended then (s, 0x00)
      else bif early then (s, 0x15)
      else ({ s with flash := { s.flash with erase := some { e with suspended := true, held := true } } }.showErase, 0x00)

/-- RESUME of a suspended erase. -/
def State.romResume (s : State) (k : Nat) (c : RomCall) : State × Nat :=
  let s := s.endCread
  bif !romSound c k false then (s, 0x10)
  else
    match s.flash.erase with
    | none => (s, 0x17)
    | some e =>
      bif e.suspended then
        ({ s with flash := { s.flash with erase := some { e with suspended := false, held := false } } }.showErase, 0x00)
      else (s, 0x17)

/-- SWAP, JOPEN and JCLOSE are for E0 in MAINTENANCE (R474; SWAP: log entry 12). -/
def State.mayActivate (s : State) (k : Nat) : Bool := Nat.beq k 0 && decide (s.mode = .maintenance)

/-- SWAP (R481). -/
def State.romSwap (s : State) (k : Nat) (c : RomCall) : State × Nat :=
  let s := s.endCread
  bif !romSound c k false || Nat.blt 1 c.addr.toNat then (s, 0x10)
  else bif !s.mayActivate k then (s, 0x12)
  else
    match s.flash.swap c.addr.toNat with
    | some f => ({ s with flash := f }, 0x00)
    | none => (s, 0x18)

/-- JOPEN (R474, R482): answers the SEQ as well. -/
def State.romJopen (s : State) (k : Nat) (c : RomCall) : State × Nat × Nat :=
  let s := s.endCread
  bif !romSound c k false then (s, 0x10, 0)
  else bif !s.mayActivate k then (s, 0x12, 0)
  else
    let j := s.flash.jopen 3 0xFF c.addr.toNat
    ({ s with flash := j.1 }, 0x00, j.2)

/-- JCLOSE of the SEQ that JOPEN returned. -/
def State.romJclose (s : State) (k : Nat) (c : RomCall) : State × Nat :=
  let s := s.endCread
  bif !romSound c k false then (s, 0x10)
  else bif !s.mayActivate k then (s, 0x12)
  else bif s.flash.openCopy.isSome then ({ s with flash := s.flash.jdone c.addr.toNat }, 0x00)
  else (s, 0x10)

/-- The routine returns: status in G0 and in octet 12 of the block at P0, detail in octet 13, Z for OK and RETIRED; it may
change G1-G3 and the other flags, whose values the spec does not state (R474). -/
def State.romReturn (s : State) (k status detail : Nat) : State :=
  let f := s.freeBytes 4
  let b (i : Nat) : Byte := f.getD i 0
  let s := s.spend 4
  let s := s.modEng k (fun e =>
    { e with g := { e.g with g0 := BitVec.ofNat 8 status, g1 := b 0, g2 := b 1, g3 := b 2 },
             flags := ⟨(b 3).getLsbD 0, Nat.ble status 1, (b 3).getLsbD 2, (b 3).getLsbD 3⟩ })
  let p := (s.eng k).p.p0.toNat
  bif inOwn p 16 then s.ownStore k (p + 12) [BitVec.ofNat 8 status, BitVec.ofNat 8 detail] else s

/-- The calling engine: E0 or E8 (R472). -/
def caller (e8 : Bool) : Nat := bif e8 then 8 else 0

/-- A call's outcome. -/
def romOut (k detail : Nat) (r : State × Nat) : Host.Outcome State Fault Refusal := .next (r.1.romReturn k r.2 detail)

/-- FLASH_READ (R474, R478). -/
def execFlashRead (e8 : Bool) (call : RomCall) (s : State) : Host.Outcome State Fault Refusal :=
  romOut (caller e8) 0 (s.romRead (caller e8) call)

/-- FLASH_PROGRAM (R474, R485, R486). -/
def execFlashProgram (e8 : Bool) (call : RomCall) (r : ProgramResult) (s : State) : Host.Outcome State Fault Refusal :=
  romOut (caller e8) r.pulses (s.romProgram (caller e8) call r)

/-- FLASH_ERASE_S (R474, R482, R484). -/
def execFlashEraseS (e8 : Bool) (call : RomCall) (r : EraseResult) (s : State) : Host.Outcome State Fault Refusal :=
  romOut (caller e8) (bif call.flags.getLsbD 1 then 0 else r.pulses) (s.romErase (caller e8) false call r)

/-- FLASH_ERASE_B (R474, R482, R487). -/
def execFlashEraseB (e8 : Bool) (call : RomCall) (r : EraseResult) (s : State) : Host.Outcome State Fault Refusal :=
  romOut (caller e8) (bif call.flags.getLsbD 1 then 0 else r.pulses) (s.romErase (caller e8) true call r)

/-- FLASH_POLL (R475): ERASING while an erase is outstanding. -/
def execFlashPoll (e8 : Bool) (call : RomCall) (s : State) : Host.Outcome State Fault Refusal :=
  let t := s.endCread
  romOut (caller e8) 0 (bif !romSound call (caller e8) false then (t, 0x10) else (t, bif s.flash.erase.isSome then 0x02 else 0x00))

/-- FLASH_SUSPEND (R476): `early` tells that it comes within 1 ms of the last RESUME. -/
def execFlashSuspend (e8 : Bool) (call : RomCall) (early : Bool) (s : State) : Host.Outcome State Fault Refusal :=
  romOut (caller e8) 0 (s.romSuspend (caller e8) call early)

/-- FLASH_RESUME (R476). -/
def execFlashResume (e8 : Bool) (call : RomCall) (s : State) : Host.Outcome State Fault Refusal :=
  romOut (caller e8) 0 (s.romResume (caller e8) call)

/-- FLASH_SWAP (R481). -/
def execFlashSwap (e8 : Bool) (call : RomCall) (s : State) : Host.Outcome State Fault Refusal :=
  romOut (caller e8) 0 (s.romSwap (caller e8) call)

/-- FLASH_JOPEN (R474): SEQ[7:0] in DETAIL, the whole SEQ in octets 4-7 of the block. -/
def execFlashJopen (e8 : Bool) (call : RomCall) (s : State) : Host.Outcome State Fault Refusal :=
  let k := caller e8
  let r := s.romJopen k call
  let t := r.1.romReturn k r.2.1 (r.2.2 % 256)
  let p := (t.eng k).p.p0.toNat
  .next (bif Nat.beq r.2.1 0 && inOwn p 16 then t.ownStore k (p + 4) (leBytes 4 r.2.2) else t)

/-- FLASH_JCLOSE (R474). -/
def execFlashJclose (e8 : Bool) (call : RomCall) (s : State) : Host.Outcome State Fault Refusal :=
  romOut (caller e8) 0 (s.romJclose (caller e8) call)

/-- FLASH_ERASE_COMPLETE (R476, R482, R484): the outstanding erase, not suspended, ends. -/
def execFlashEraseComplete (r : EraseResult) (s : State) : Host.Outcome State Fault Refusal :=
  match s.flash.erase with
  | none => .next s
  | some e =>
    bif e.suspended then .next s
    else
      let s := { s with flash := { s.flash with erase := none } }
      let t := (s.eraseDone e.addr e.block e.seq r).1
      .next ({ t with flash := t.flash.rollover }.showErase.raise 0x58 0)

/-! ### The customer partition (R488, R489) -/

/-- First flash address of the customer partition. -/
abbrev customerBase : Nat := 0x03980000

/-- The region of a requester: first offset and end (R488). -/
def State.storeRegion (s : State) (who : Nat) : Nat × Nat :=
  let a := 65536 * s.get R.STORE.SPLIT_E10_START
  let b := 65536 * s.get R.STORE.SPLIT_E11_START
  bif Nat.beq who 10 then (a, b) else bif Nat.beq who 11 then (b, 0x4000000) else (0, a)

/-- The bytes that a request touches. -/
def StoreReq.span (q : StoreReq) : Nat := bif Nat.beq q.op 3 then eraseLen q.block else q.len

/-- A request lies in what its sender may reach: all of the partition to read, its own region to change (R488). -/
def State.inRegion (s : State) (q : StoreReq) : Bool :=
  let r := bif Nat.beq q.op 1 then (0, 0x4000000) else s.storeRegion q.who
  Nat.ble r.1 q.off && Nat.ble (q.off + q.span) r.2

/-- The buffer lies in bank 3, or in the sender's slice (R489). -/
def bufferOk (who a n : Nat) : Bool := inBank3 a n || (Nat.blt who 12 && inSlice who a n)

/-- The status with which the routine ends a request at E8. -/
def State.serve (s : State) (q : StoreReq) (p : ProgramResult) (e : EraseResult) : State × Nat :=
  let a := customerBase + q.off
  bif Nat.beq q.op 3 then
    bif !Nat.beq q.len 0 then (s, 0x10)
    else bif !Nat.beq (a % eraseLen q.block) 0 then (s, 0x11)
    else bif s.flash.inErase a (eraseLen q.block) then (s, 0x14)
    else bif s.flash.erase.isSome then (s, 0x15)
    else
      let j := s.flash.jopen (bif q.block then 2 else 1) 0xFF a
      ({ s with flash := j.1 }).eraseDone a q.block j.2 e
  else bif Nat.beq q.len 0 || Nat.blt 4096 q.len then (s, 0x10)
  else bif s.flash.inErase a q.len then (s, 0x14)
  else bif Nat.beq q.op 1 then (s.sramStore q.buf (s.flashBytes a q.len), 0x00)
  else
    let bs := s.sramList q.buf q.len
    bif !Nat.beq (a / 4096) ((a + q.len - 1) / 4096) then (s, 0x11)
    else bif s.flash.needsErase a bs then (s, 0x13)
    else s.programAt a bs p

/-- A STORE command of the host (R489). -/
def State.storeCommand (s : State) (op : Nat) (block : Bool) : State :=
  let q : StoreReq := ⟨12, op, block, s.get R.STORE.ADDR_OFFSET, s.get R.STORE.LEN_LEN, s.get R.STORE.BUF_ADDR, 0⟩
  bif s.bit R.STORE.STAT_BUSY then (s.bump R.STORE.CNT1_REFUSED).refuse 0x59 RC.BUSY 0x20
  else bif Nat.beq op 0 then (s.bump R.STORE.CNT1_REFUSED).refuse 0x59 RC.BAD_VALUE 0x20
  else bif !Nat.beq op 3 && !inBank3 q.buf q.len then (s.bump R.STORE.CNT1_REFUSED).refuse 0x59 RC.BAD_VALUE 0x2C
  else bif !s.inRegion q then (s.bump R.STORE.CNT1_REFUSED).refuse 0x59 0x40 0x24
  else { s with flash := { s.flash with reqs := s.flash.reqs ++ [q] } }.set R.STORE.STAT_BUSY 1

/-- STORE_READ (R489). -/
def execStoreRead (who : Requester) (s : State) : Host.Outcome State Fault Refusal :=
  s.command who 0x59 0x20 (fun s => s.storeCommand 1 false)

/-- STORE_PROGRAM (R489). -/
def execStoreProgram (who : Requester) (s : State) : Host.Outcome State Fault Refusal :=
  s.command who 0x59 0x20 (fun s => s.storeCommand 2 false)

/-- STORE_ERASE (R489). -/
def execStoreErase (who : Requester) (block : Bool) (s : State) : Host.Outcome State Fault Refusal :=
  s.command who 0x59 0x20 (fun s => s.storeCommand 3 block)

/-- A customer request by mailbox: it waits for E8, or is answered with DENIED for its region, BAD_PARAM for its buffer (R489;
log entry 13). -/
def State.mboxStore (s : State) (q : StoreReq) : State :=
  let deny (status : Nat) : State :=
    (s.bump R.STORE.CNT1_REFUSED).answer 8 q.who 0xA1 q.tag q.off status 0 0
  bif !s.inRegion q then deny 0x12
  else bif !Nat.beq q.op 3 && !bufferOk q.who q.buf q.len then deny 0x10
  else { s with flash := { s.flash with reqs := s.flash.reqs ++ [q] } }

/-- The sending engine. -/
def customerEngine (e11 : Bool) : Nat := bif e11 then 11 else 10

/-- MBOX_STORE_READ (R489). -/
def execMboxStoreRead (e11 : Bool) (tag : Half) (off : Word) (len : BitVec 13) (buf : Word) (s : State) :
    Host.Outcome State Fault Refusal :=
  .next (s.mboxStore ⟨customerEngine e11, 1, false, off.toNat, len.toNat, buf.toNat, tag.toNat⟩)

/-- MBOX_STORE_PROGRAM (R489). -/
def execMboxStoreProgram (e11 : Bool) (tag : Half) (off : Word) (len : BitVec 13) (buf : Word) (s : State) :
    Host.Outcome State Fault Refusal :=
  .next (s.mboxStore ⟨customerEngine e11, 2, false, off.toNat, len.toNat, buf.toNat, tag.toNat⟩)

/-- MBOX_STORE_ERASE (R489). -/
def execMboxStoreErase (e11 : Bool) (tag : Half) (off : Word) (len : BitVec 13) (block : Bool) (s : State) :
    Host.Outcome State Fault Refusal :=
  .next (s.mboxStore ⟨customerEngine e11, 3, block, off.toNat, len.toNat, 0, tag.toNat⟩)

/-- STORE_COMMAND_COMPLETE (R489): the request at the head ends with the routine's status. -/
def execStoreCommandComplete (p : ProgramResult) (e : EraseResult) (s : State) : Host.Outcome State Fault Refusal :=
  match s.flash.reqs with
  | [] => .next s
  | q :: rest =>
    let s := { s with flash := { s.flash with reqs := rest } }
    let r := s.serve q p e
    bif Nat.beq q.who 12 then
      let t := (r.1.set R.STORE.STAT_BUSY 0).set R.STORE.STAT_RESULT r.2
      let t := bif Nat.beq r.2 0x13 then t.refuse 0x59 0x41 0x20 else bif Nat.beq r.2 0x16 then t.refuse 0x59 0x42 0x20 else t
      .next (t.raise 0x59 0)
    else .next (r.1.answer 8 q.who 0xA1 q.tag q.off r.2 0 0)

end Sys2Proof.Machine
end

