-- ==== Sys2Proof/Machine/Garnet.lean ====
section
/-!
DEFINITION. Garnet: the CIPHER, HASH, PKE and MEASURE pages, E7's mailbox service, random bits and debug access (ch. 20,
R490-R510).
-/

namespace Sys2Proof.Machine

open Sys2Proof

/-! ### Random bits (R491, R492) -/

/-- Operations that need randomness are refused: the source has failed and 65,536 requests were served since the last
reseed. -/
def State.noEntropy (s : State) : Bool := s.garnet.healthFail && Nat.ble 65536 s.garnet.sinceSeed

/-- The DRBG serves a request; the one that exhausts it after a health failure is reported (R492). -/
def State.drbg (s : State) : State :=
  let before := s.noEntropy
  let s := { s with garnet := { s.garnet with sinceSeed := s.garnet.sinceSeed + 1 } }
  bif s.noEntropy && !before then (s.raise 0x52 1).record 7 0x32 (zeros 8) else s

/-- HEALTH_TEST_FAIL (R492): the seed being built is discarded and the source starts again. -/
def execHealthTestFail (s : State) : Host.Outcome State Fault Refusal :=
  let t := { s with garnet := { s.garnet with healthFail := true } }
  .next (bif t.noEntropy && !s.noEntropy then (t.raise 0x52 1).record 7 0x32 (zeros 8) else t)

/-! ### Masked AES (R493-R495) -/

/-- The key in a slot, 0-7 HOST, 8-15 E7. -/
def Garnet.slot? (g : Garnet) (n : Nat) : Option CipherSlot := g.slots.find? (fun c => Nat.beq c.slot n)

/-- The 16 bytes of four 32-bit registers. -/
def State.block (s : State) (f : Nat → Fld) : List Byte := (List.range 4).flatMap (fun k => leBytes 4 (s.get (f k)))

/-- Bytes spread over 32-bit registers, byte 4k in [7:0] of register k. -/
def State.putWords (s : State) (f : Nat → Fld) (n : Nat) (bs : List Byte) : State :=
  s.each (List.range n) (fun k s => s.set (f k) (ofLe (slice bs (4 * k) 4)))

/-- A write of KEYk while not BUSY: staged, never read back (R494). -/
def State.stageKey (s : State) (k w : Nat) : State :=
  { s with garnet := { s.garnet with stagedKey := s.garnet.stagedKey.put k w } }

/-- Staged keys are cleared after each KEYCMD. -/
def State.clearStagedKey (s : State) : State := { s with garnet := { s.garnet with stagedKey := [] } }

/-- KEYCMD LOAD: the staged key enters the selected slot. -/
def State.cipherLoad (s : State) : State :=
  let n := s.get R.CIPHER.KEYSEL_SLOT
  let long := s.bit R.CIPHER.KEYCTL_LEN256
  let key := (List.range (bif long then 8 else 4)).flatMap (fun k => leBytes 4 (s.garnet.stagedKey.look k))
  bif s.bit R.CIPHER.STAT_BUSY then s.refuse 0x50 RC.BUSY 0x48
  else bif (s.garnet.slot? n).isSome then (s.clearStagedKey).refuse 0x50 0x42 0x48
  else { s with garnet := { s.garnet with slots := ⟨n, HOST, long, key⟩ :: s.garnet.slots } }.clearStagedKey

/-- KEYCMD ERASE empties the selected slot. -/
def State.cipherErase (s : State) : State :=
  let n := s.get R.CIPHER.KEYSEL_SLOT
  bif s.bit R.CIPHER.STAT_BUSY then s.refuse 0x50 RC.BUSY 0x48
  else { s with garnet := { s.garnet with slots := s.garnet.slots.filter (fun c => !Nat.beq c.slot n) } }.clearStagedKey

/-- CMD.GO queues a block operation; OUT reads 0 while BUSY (R495). -/
def State.cipherGo (s : State) (dir : Bool) (slot : Nat) : State :=
  bif s.bit R.CIPHER.STAT_BUSY then s.refuse 0x50 RC.BUSY 0x4C
  else bif (s.garnet.slot? slot).isNone then s.refuse 0x50 0x40 0x4C
  else bif s.noEntropy then s.refuse 0x50 0x41 0x4C
  else
    let op : AesOp := ⟨HOST, slot, dir, s.block R.CIPHER.IN_DATA, 0, 0⟩
    ({ s.drbg with garnet := { s.drbg.garnet with aes := s.garnet.aes ++ [op] } }.set R.CIPHER.STAT_BUSY 1).putWords
      R.CIPHER.OUT_DATA 4 (zeros 16)

/-- CIPHER_KEY_LOAD (R494, R495). -/
def execCipherKeyLoad (who : Requester) (s : State) : Host.Outcome State Fault Refusal :=
  s.command who 0x50 0x48 State.cipherLoad

/-- CIPHER_KEY_ERASE (R495). -/
def execCipherKeyErase (who : Requester) (s : State) : Host.Outcome State Fault Refusal :=
  s.command who 0x50 0x48 State.cipherErase

/-- CIPHER_GO (R495). -/
def execCipherGo (who : Requester) (decrypt : Bool) (slot : Fin 8) (s : State) : Host.Outcome State Fault Refusal :=
  s.command who 0x50 0x4C (fun s => s.cipherGo decrypt slot)

/-- AES_COMPLETE (R31, R493): the operation at the head ends; an engine's waits for entropy (R492). -/
def execAesComplete (s : State) : Host.Outcome State Fault Refusal :=
  match s.garnet.aes with
  | [] => .next s
  | op :: rest =>
    bif s.noEntropy && !Nat.beq op.who HOST then .next s else
    let s := { s with garnet := { s.garnet with aes := rest } }
    let key := (s.garnet.slot? op.slot).getD ⟨op.slot, op.who, false, zeros 16⟩
    let out := bif op.decrypt then aesDecrypt key.key key.len256 op.input else aesEncrypt key.key key.len256 op.input
    bif Nat.beq op.who HOST then
      .next (((s.putWords R.CIPHER.OUT_DATA 4 out).set R.CIPHER.STAT_BUSY 0).raise 0x50 0)
    else .next ((s.sramStore op.out out).answer 7 op.who 0xB0 op.tag 0 16 0 0)

/-- An address range of a mailbox request (R490): bank 3 or the sender's slice. -/
def garnetRange (who a n : Nat) : Bool := inBank3 a n || inSlice who a n

/-- MBOX_AES_BLOCK (R490): one raw block with a slot that E7 holds for the sender. -/
def execMboxAesBlock (e11 : Bool) (tag : Half) (slot : Fin 8) (decrypt : Bool) (input output : Word) (s : State) :
    Host.Outcome State Fault Refusal :=
  let who := customerEngine e11
  let no (r : Nat) : Host.Outcome State Fault Refusal := .next (s.answer 7 who 0xB0 tag.toNat r 0 0 0)
  bif !garnetRange who input.toNat 16 || !garnetRange who output.toNat 16 then no RC.BAD_VALUE
  else
    match s.garnet.slot? (8 + slot) with
    | none => no 0x40
    | some c =>
      bif !Nat.beq c.owner who then no 0x40
      else
        let op : AesOp := ⟨who, 8 + slot, decrypt, s.sramList input.toNat 16, output.toNat, tag.toNat⟩
        .next { s.drbg with garnet := { s.drbg.garnet with aes := s.garnet.aes ++ [op] } }

/-! ### SHA-384 (R496, R497) -/

/-- The bytes of the digest registers. -/
def State.digest (s : State) : List Byte := (List.range 12).flatMap (fun k => leBytes 4 (s.get (R.HASH.DIGEST_BYTES k)))

/-- INIT opens the HOST context and discards any previous state. -/
def State.hashInit (s : State) : State :=
  ({ s with garnet := { s.garnet with hashCtx := some [] } }.setAll [(R.HASH.STAT_OPEN, 1), (R.HASH.STAT_BUSY, 0),
    (R.HASH.STAT_DONE, 0), (R.HASH.LEN_BYTES, 0)]).putWords R.HASH.DIGEST_BYTES 12 (zeros 48)

/-- A DATA word enters the open context. -/
def State.hashData (s : State) (w : Nat) : State :=
  match s.garnet.hashCtx, s.bit R.HASH.STAT_OPEN with
  | some m, true =>
    { s with garnet := { s.garnet with hashCtx := some (m ++ leBytes 4 w) } }.set R.HASH.LEN_BYTES (m.length + 4)
  | _, _ => s.refuse 0x51 0x40 0x28

/-- FINAL closes the context: TAIL bytes of the last word belong to the message. -/
def State.hashFinal (s : State) (tail : Nat) : State :=
  match s.garnet.hashCtx, s.bit R.HASH.STAT_OPEN with
  | some m, true =>
    bif Nat.blt 4 tail || !(Nat.beq tail 0 == m.isEmpty) then s.refuse 0x51 RC.BAD_VALUE 0x20
    else
      let msg := bif m.isEmpty then m else m.take (m.length - 4 + tail)
      { s with garnet := { s.garnet with hashCtx := some msg } }.setAll
        [(R.HASH.STAT_OPEN, 0), (R.HASH.STAT_BUSY, 1), (R.HASH.LEN_BYTES, msg.length)]
  | _, _ => s.refuse 0x51 0x40 0x20

/-- EXTEND7: MSLOT7 takes the digest, with DONE = 1 only. -/
def State.hashExtend7 (s : State) : State :=
  bif s.bit R.HASH.STAT_DONE then s.extend 7 0x0C 0 s.digest else s.refuse 0x51 0x40 0x20

/-- HASH_INIT (R497). -/
def execHashInit (who : Requester) (s : State) : Host.Outcome State Fault Refusal :=
  s.command who 0x51 0x20 State.hashInit

/-- HASH_DATA_WRITE (R496, R497): the FIFO drains at once. -/
def execHashDataWrite (who : Requester) (word : Word) (s : State) : Host.Outcome State Fault Refusal :=
  s.command who 0x51 0x28 (fun s => s.hashData word.toNat)

/-- HASH_FINAL (R497). -/
def execHashFinal (who : Requester) (tail : BitVec 3) (s : State) : Host.Outcome State Fault Refusal :=
  s.command who 0x51 0x20 (fun s => s.hashFinal tail.toNat)

/-- HASH_FINAL_COMPLETE (R497): the digest becomes valid. -/
def execHashFinalComplete (s : State) : Host.Outcome State Fault Refusal :=
  match s.garnet.hashCtx, s.bit R.HASH.STAT_BUSY with
  | some m, true =>
    .next (({ s with garnet := { s.garnet with hashCtx := none } }.setAll [(R.HASH.STAT_BUSY, 0), (R.HASH.STAT_DONE, 1)]).putWords
      R.HASH.DIGEST_BYTES 12 (sha384 m) |>.raise 0x51 0)
  | _, _ => .next s

/-- HASH_EXTEND7 (R505). -/
def execHashExtend7 (who : Requester) (s : State) : Host.Outcome State Fault Refusal :=
  s.command who 0x51 0x20 State.hashExtend7

/-- MBOX_HASH (R490): at most 65,536 bytes. -/
def execMboxHash (e11 : Bool) (tag : Half) (buf len digest : Word) (s : State) : Host.Outcome State Fault Refusal :=
  let who := customerEngine e11
  bif Nat.blt 65536 len.toNat || !garnetRange who buf.toNat len.toNat || !garnetRange who digest.toNat 48 then
    .next (s.answer 7 who 0xB1 tag.toNat RC.BAD_VALUE 0 0 0)
  else .next ((s.sramStore digest.toNat (sha384 (s.sramList buf.toNat len.toNat))).answer 7 who 0xB1 tag.toNat 0 48 0 0)

/-- MBOX_EXTEND7 (R490, R505). -/
def execMboxExtend7 (e11 : Bool) (tag : Half) (addr : Word) (s : State) : Host.Outcome State Fault Refusal :=
  let who := customerEngine e11
  bif !garnetRange who addr.toNat 48 then .next (s.answer 7 who 0xB3 tag.toNat RC.BAD_VALUE 0 0 0)
  else .next ((s.extend 7 0x0D who (s.sramList addr.toNat 48)).answer 7 who 0xB3 tag.toNat 0 0 0 0)

/-! ### ECDSA (R498-R502, R507-R510) -/

/-- The parameter block of the host. -/
def State.param (s : State) : Nat := 16 * s.get R.PKE.PARAM_ADDR

/-- A signature under the identity key; the nonce is drawn from the DRBG (R498, R499). -/
def State.sign (s : State) (d : List Byte) : State × List Byte :=
  let k := ofBe (s.freeBytes 48) % (bpQ - 1) + 1
  ((s.spend 48).drbg, ecdsaSign Config.identityScalar.toNat k d)

/-- The octets of a quote that its signature covers (R507). -/
def State.quoteBody (s : State) (nonce : List Byte) (mask : Nat) : List Byte :=
  ascii "YNQ1" ++ leBytes 1 1 ++ leBytes 1 mask ++ leBytes 1 nonce.length ++ leBytes 1 s.mode.code ++
    leBytes 8 Config.extAddr.toNat ++ nonce ++ zeros (32 - nonce.length) ++ leBytes 4 (s.get R.SYS.OPSEC_SEC) ++
    leBytes 4 (s.get R.SYS.PWRCYC_COUNT) ++ (s.garnet.rb.flatMap (leBytes 1)) ++
    ((List.range 8).filter (fun k => mask.testBit k)).flatMap (fun k => s.garnet.mslots.getD k (zeros 48))

/-- What an operation takes when it is granted: the quote's octets (R508). -/
def State.pkeGrant (s : State) : State :=
  match s.garnet.pke with
  | op :: rest =>
    bif Nat.beq op.op 3 && op.taken.isEmpty then
      let body := match op.quote with
        | some q => s.quoteBody q.nonce q.mask
        | none => s.quoteBody (s.sramList (op.param + 2) (s.sram op.param).toNat) (s.sram (op.param + 1)).toNat
      { s with garnet := { s.garnet with pke := { op with taken := body } :: rest } }
    else s
  | [] => s

/-- Queue an operation at the unit (R31). -/
def State.pkeQueue (s : State) (op : PkeOp) : State :=
  let first := s.garnet.pke.isEmpty
  let s := { s with garnet := { s.garnet with pke := s.garnet.pke ++ [op] } }
  bif first then s.pkeGrant else s

/-- Operations that need randomness (R492). -/
def pkeRandom (op : Nat) : Bool := Nat.beq op 2 || Nat.beq op 3 || Nat.beq op 5 || Nat.beq op 6

/-- The length of an operation's parameter block, outputs included. -/
def State.paramLen (s : State) (a : Nat) : Nat → Nat
  | 1 => 240 | 2 => 144
  | 3 => 224 + 48 * ((List.range 8).filter (fun k => (s.sram (a + 1)).getLsbD k)).length
  | 4 => (Config.certificate (s.sram a).toNat).length
  | 5 => 48 | 6 => 32 | 7 => 144 | 8 => 97 | _ => 1

/-- A PKE command of the host: its checks, then the queue. -/
def State.pkeCommand (s : State) (op key : Nat) : State :=
  let a := s.param
  let n := (s.sram a).toNat
  bif s.bit R.PKE.STAT_BUSY then s.refuse 0x52 RC.BUSY 0x20
  else bif Nat.beq op 0 || Nat.blt 9 op then s.refuse 0x52 RC.BAD_VALUE 0x20
  else bif Nat.ble 8 op && !Nat.beq key 0xA55A then s.refuse 0x52 0x44 0x20
  else bif !inBank3 a (s.paramLen a op) then s.refuse 0x52 RC.BAD_VALUE 0x24
  else bif pkeRandom op && s.noEntropy then s.refuse 0x52 0x41 0x20
  else bif Nat.beq op 3 && (Nat.blt n 8 || Nat.blt 32 n || s.sram (a + 1) == 0) then s.refuse 0x52 RC.BAD_VALUE 0x24
  else bif (Nat.beq op 4 || Nat.beq op 8) && Nat.blt 1 n then s.refuse 0x52 RC.BAD_VALUE 0x24
  else bif Nat.beq op 7 && s.garnet.challenge.isNone then s.refuse 0x52 0x45 0x20
  else bif Nat.beq op 8 && (bif Nat.beq n 0 then s.garnet.ck0.isSome else s.garnet.ck1.isSome) then s.refuse 0x52 0x43 0x20
  else bif Nat.beq op 9 && s.garnet.ck1.isNone then s.refuse 0x52 0x43 0x20
  else (s.set R.PKE.STAT_BUSY 1).pkeQueue ⟨HOST, op, a, 0, [], none⟩

/-- PKE_VERIFY (R498). -/
def execPkeVerify (who : Requester) (s : State) : Host.Outcome State Fault Refusal :=
  s.command who 0x52 0x20 (fun s => s.pkeCommand 1 0)
/-- PKE_SIGN (R499). -/
def execPkeSign (who : Requester) (s : State) : Host.Outcome State Fault Refusal :=
  s.command who 0x52 0x20 (fun s => s.pkeCommand 2 0)
/-- PKE_QUOTE (R507). -/
def execPkeQuote (who : Requester) (s : State) : Host.Outcome State Fault Refusal :=
  s.command who 0x52 0x20 (fun s => s.pkeCommand 3 0)
/-- PKE_CERT (R500). -/
def execPkeCert (who : Requester) (s : State) : Host.Outcome State Fault Refusal :=
  s.command who 0x52 0x20 (fun s => s.pkeCommand 4 0)
/-- PKE_RANDOM (R491). -/
def execPkeRandom (who : Requester) (s : State) : Host.Outcome State Fault Refusal :=
  s.command who 0x52 0x20 (fun s => s.pkeCommand 5 0)
/-- PKE_CHALLENGE (R510). -/
def execPkeChallenge (who : Requester) (s : State) : Host.Outcome State Fault Refusal :=
  s.command who 0x52 0x20 (fun s => s.pkeCommand 6 0)
/-- PKE_DEBUG_OPEN (R510). -/
def execPkeDebugOpen (who : Requester) (s : State) : Host.Outcome State Fault Refusal :=
  s.command who 0x52 0x20 (fun s => s.pkeCommand 7 0)
/-- PKE_CKEY_PROG (R501). -/
def execPkeCkeyProg (who : Requester) (key : Half) (s : State) : Host.Outcome State Fault Refusal :=
  s.command who 0x52 0x20 (fun s => s.pkeCommand 8 key.toNat)
/-- PKE_CKEY_REVOKE (R501). -/
def execPkeCkeyRevoke (who : Requester) (key : Half) (s : State) : Host.Outcome State Fault Refusal :=
  s.command who 0x52 0x20 (fun s => s.pkeCommand 9 key.toNat)

/-- MBOX_VERIFY (R490): as PKE VERIFY, with the sender's parameter block. -/
def execMboxVerify (e11 : Bool) (tag : Half) (param : Word) (s : State) : Host.Outcome State Fault Refusal :=
  let who := customerEngine e11
  bif !garnetRange who param.toNat 240 then .next (s.answer 7 who 0xB2 tag.toNat RC.BAD_VALUE 0 0 0)
  else .next (s.pkeQueue ⟨who, 1, param.toNat, tag.toNat, [], none⟩)

/-- A customer key slot is usable (R502): 0 CK0, not revoked; 1 CK1. -/
def Garnet.usable (g : Garnet) (slot : Nat) : Option (List Byte) :=
  bif Nat.beq slot 0 then (bif g.ck0Revoked then none else g.ck0) else g.ck1

/-- The public key of a token's signer: the Waltraus key, or the manifest's customer key where it hashes to the named
slot (R502, R510). -/
def State.signerKey (s : State) (signer : Nat) : Option (List Byte) :=
  bif Nat.beq signer 0 then some Config.waltrausKey
  else bif Nat.blt 2 signer then none
  else
    match s.garnet.usable (signer - 1) with
    | some h => bif sha384 s.flash.active.ckey == h then some s.flash.active.ckey else none
    | none => none

/-- A debug token is good (R510). -/
def State.tokenOk (s : State) (t : List Byte) (challenge : List Byte) : Bool :=
  let scope := ofLe (slice t 4 1)
  let signer := ofLe (slice t 5 1)
  let minutes := ofLe (slice t 6 2)
  slice t 0 4 == ascii "YND1" && (Nat.beq scope 1 || (Nat.beq scope 2 && Nat.beq signer 0)) &&
    Nat.ble 1 minutes && Nat.ble minutes 1440 && Nat.beq (ofLe (slice t 8 8)) Config.extAddr.toNat &&
    slice t 16 32 == challenge &&
    (match s.signerKey signer with
     | some key => ecdsaVerify key (sha384 (t.take 48)) (slice t 48 96)
     | none => false)

/-- DEBUG_OPEN: the held challenge is consumed; a good token opens debug access and extends MSLOT6, with a digest that the
spec does not state (log entry 14). -/
def State.debugOpen (s : State) (a : Nat) : State :=
  let t := s.sramList a 144
  let ch := s.garnet.challenge.getD []
  let ok := s.garnet.challenge.isSome && s.tokenOk t ch
  let s := { s with garnet := { s.garnet with challenge := none } }
  bif ok then
    let scope := ofLe (slice t 4 1)
    let s := (s.spend 48).extend 6 0x0A scope (s.freeBytes 48)
    { s with garnet := { s.garnet with debugEnd := s.get R.SYS.OPSEC_SEC + 60 * ofLe (slice t 6 2) } }.setAll
      [(R.PKE.STAT_DBG, 1), (R.PKE.STAT_SCOPE, scope)]
  else s.refuse 0x52 0x42 0x20

/-- What the operation at the head does when it ends; the second answer is a mailbox request's reason code. -/
def State.pkeRun (s : State) (op : PkeOp) : State × Nat :=
  let a := op.param
  match op.op with
  | 1 =>
    let d := s.sramList a 48
    let key := s.sramList (a + 48) 96
    let sig := s.sramList (a + 144) 96
    let host := Nat.beq op.who HOST
    bif !keyOk key then (s.onlyIf host (fun s => (s.set R.PKE.STAT_RESULT 0).refuse 0x52 0x40 0x20), 0x40)
    else bif ecdsaVerify key d sig then (s.onlyIf host (·.set R.PKE.STAT_RESULT 1), 0)
    else bif host then (s.set R.PKE.STAT_RESULT 2, 0)
    else (s.spend 1, ((s.freeBytes 1).getD 0 0).toNat)
  | 2 =>
    let r := s.sign (sha384 (ascii "YNS1" ++ s.sramList a 48))
    (r.1.sramStore (a + 48) r.2, 0)
  | 3 =>
    let r := s.sign (sha384 op.taken)
    let q := op.taken ++ r.2
    ((r.1.sramStore (a + 64) q).set R.PKE.RESLEN_BYTES q.length, 0)
  | 4 =>
    let c := Config.certificate (s.sram a).toNat
    ((s.sramStore a c).set R.PKE.RESLEN_BYTES c.length, 0)
  | 5 => (((s.sramStore a (s.freeBytes 48)).spend 48).drbg, 0)
  | 6 =>
    let c := s.freeBytes 32
    (((({ s with garnet := { s.garnet with challenge := some c } }).sramStore a c).spend 32).drbg, 0)
  | 7 => (s.debugOpen a, 0)
  | 8 =>
    let h := some (sha384 (s.sramList (a + 1) 96))
    bif Nat.beq (s.sram a).toNat 0 then ({ s with garnet := { s.garnet with ck0 := h } }, 0)
    else ({ s with garnet := { s.garnet with ck1 := h } }, 0)
  | 9 => ({ s with garnet := { s.garnet with ck0Revoked := true } }, 0)
  | _ => (s, 0)

/-- Debug access is open. -/
def State.debugIsOpen (s : State) : Bool := s.bit R.PKE.STAT_DBG

/-- DEBUG_ACCESS_EXPIRY (R510): the validity has elapsed in SYS.OPSEC. -/
def execDebugAccessExpiry (s : State) : Host.Outcome State Fault Refusal :=
  .next (bif s.debugIsOpen && Nat.ble s.garnet.debugEnd (s.get R.SYS.OPSEC_SEC) then
    s.setAll [(R.PKE.STAT_DBG, 0), (R.PKE.STAT_SCOPE, 0)] else s)

/-! ### MEASURE (R505) -/

/-- MEASURE.SEL: each requester has its own. -/
def State.measureSelect (s : State) (who w : Nat) : State :=
  { s with garnet := { s.garnet with measureSel := s.garnet.measureSel.put who (w % 8) } }

/-- The anti-rollback counters advance, each to at most 255 (R503). -/
def State.advanceRb (s : State) (k v : Nat) : State :=
  let old := s.garnet.rb.getD k 0
  bif Nat.ble v old then s
  else bif Nat.blt 255 v then s.refuse 0x52 0x46 0x20
  else ({ s with garnet := { s.garnet with rb := s.garnet.rb.modify k (fun _ => v) } }).raise 0x53 1

end Sys2Proof.Machine
end

