-- ==== Sys2Proof/Machine/Waves.lean ====
section
/-!
DEFINITION. What goes over the air and the line, bit by bit and tone by tone: whitening and the convolutional code (R188, R190, R191), the
long-range and YM1 PPDUs (R190, R192), wake calls (R184), and the Coldan preamble, FCH and payload symbols (R214-R219).
-/

namespace Sys2Proof.Machine

open Sys2Proof

/-! ### Bits -/

/-- Octets as bits, each least significant bit first. -/
def bitsLsb (bs : List Byte) : List Bool := bs.flatMap (fun b => (List.range 8).map (fun i => b.toNat.testBit i))

/-- The low `w` bits of a number, most significant first. -/
def bitsMsb (w v : Nat) : List Bool := (List.range w).map (fun i => v.testBit (w - 1 - i))

/-- `n` bits of PN9 after the nine bits before, newest first: each is the exclusive or of the fifth and the ninth before it. -/
def pn9 : Nat → List Bool → List Bool
  | 0, _ => []
  | n + 1, r =>
    let b := xor (r.getD 4 false) (r.getD 8 false)
    b :: pn9 n (b :: r.take 8)

/-- PN9 whitening with seed 0x1FF. -/
def whiten (l : List Bool) : List Bool := List.zipWith xor l (pn9 l.length (List.replicate 9 true))

/-- The parity of the bits of a number below 2⁷. -/
def parity7 (v : Nat) : Bool := (List.range 7).foldl (fun p i => xor p (v.testBit i)) false

/-- The K = 7 code of R191 from the state `st`, the six bits before with the newest as bit 5: of each input bit the output of 0o171, then
that of 0o133. -/
def convFrom : Nat → List Bool → List Bool
  | _, [] => []
  | st, b :: l =>
    let w := (bif b then 64 else 0) + st
    parity7 (w &&& 0o171) :: parity7 (w &&& 0o133) :: convFrom (w / 2) l

/-- The coded bits of a block and six tail zeros, from the all-zero state. -/
def convCode (l : List Bool) : List Bool := convFrom 0 (l ++ List.replicate 6 false)

theorem convFrom_length (st : Nat) (l : List Bool) : (convFrom st l).length = 2 * l.length := by
  induction l generalizing st with
  | nil => rfl
  | cons b l ih => simp only [convFrom, List.length_cons, ih]; omega

/-- A coded block has two bits for each input bit and each of the six tail zeros. -/
theorem convCode_length (l : List Bool) : (convCode l).length = 2 * (l.length + 6) := by
  simp [convCode, convFrom_length]

/-! ### RF (R184, R190, R192) -/

/-- A YM2 long-range PPDU, symbol by symbol (R190). -/
def ym2Ppdu (white : Bool) (psdu : List Byte) : List Bool :=
  let phr := bitsLsb (leBytes 2 (psdu.length + (bif white then 2 ^ 11 else 0)))
  let body := bif white then whiten (bitsLsb psdu) else bitsLsb psdu
  bitsMsb 32 0xAAAAAAAA ++ bitsMsb 32 0x6B3D0E59 ++ convCode (phr ++ body)

/-- A YM1 PPDU, symbol by symbol (R192). -/
def ym1Ppdu (psdu : List Byte) : List Bool :=
  bitsMsb 32 0x55555555 ++ bitsMsb 16 0x7A0E ++ bitsLsb (leBytes 1 psdu.length) ++ bitsLsb psdu

/-- The octets of a wake call, sent most significant bit first (R184). -/
def wakeOctets (id : Nat) : List Byte :=
  let w := (leBytes 4 id).reverse
  [0xAA, 0xAA, 0xAA, 0xAA, 0x2D, 0x4B] ++ w ++ [crc8 w]

/-! ### The Coldan preamble (R216) -/

/-- The phase of subcarrier `n` in a P symbol of `c` subcarriers, in units of π/c and modulo 2π; in an M symbol it is advanced by π. -/
def pPhase (c n : Nat) : Nat := n * n % (2 * c)
def mPhase (c n : Nat) : Nat := (pPhase c n + c) % (2 * c)

/-- A preamble symbol: the phase of each subcarrier at unit amplitude, none for a notched one, which carries zero. -/
def preambleSymbol (c : Nat) (notched : Nat → Bool) (phase : Nat → Nat) : List (Option Nat) :=
  (List.range c).map (fun n => bif notched n then none else some (phase n))

/-- The preamble: three P symbols, then one M symbol (R215). -/
def plcPreamble (c : Nat) (notched : Nat → Bool) : List (List (Option Nat)) :=
  let p := preambleSymbol c notched (pPhase c)
  [p, p, p, preambleSymbol c notched (mPhase c)]

/-! ### The FCH (R217) -/

/-- The 40 bits of an FCH: its fields and their CRC-8, taken over the octets of [31:0], least significant first. -/
def fchWord (len rate mode tmid tmver : Nat) : Nat :=
  let w := len % 1024 + 2 ^ 10 * (rate % 4) + 2 ^ 12 * (mode % 4) + 2 ^ 14 * (tmid % 32) + 2 ^ 19 * (tmver % 16)
  w + 2 ^ 32 * (crc8 (leBytes 4 w)).toNat

/-- The CRC-8 of a received FCH holds. -/
def fchCrcOk (w : Nat) : Bool := Nat.beq (w / 2 ^ 32 % 256) (crc8 (leBytes 4 (w % 2 ^ 32))).toNat

/-- The bit that FCH position `p` carries: the 92 coded bits repeat. -/
def fchBit (w p : Nat) : Bool := (convCode ((List.range 40).map (fun i => w.testBit i))).getD (p % 92) false

/-! ### Symbols (R219) -/

/-- The subcarrier of place `i` in the order of a symbol. -/
def carrierAt (c i : Nat) : Nat := 7 * i % c

/-- What a subcarrier carries: nothing, a point of a square constellation in units of its step, or point `k` of 8-PSK at k·π/4. -/
inductive Tone where
  | silent
  | iq (i q : Int)
  | psk (k : Nat)
  deriving DecidableEq, Repr

/-- Bits as a number, first bit most significant. -/
def ofBits (l : List Bool) : Nat := l.foldl (fun v b => 2 * v + (bif b then 1 else 0)) 0

/-- The number whose Gray code is `g`, of up to three bits. -/
def unGray (g : Nat) : Nat := Nat.xor g (Nat.xor (g / 2) (g / 4))

/-- The level of a Gray-coded axis of `k` bits. -/
def grayLevel (l : List Bool) : Int := 2 * Int.ofNat (unGray (ofBits l)) - (2 ^ l.length - 1)

/-- The point of a label (R219): BPSK, QPSK, 8-PSK, 16-QAM, 64-QAM by its length. -/
def toneOf (l : List Bool) : Tone :=
  match l.length with
  | 1 => .iq (grayLevel l) 0
  | 2 => .iq (grayLevel (l.take 1)) (grayLevel (l.drop 1))
  | 3 => .psk (unGray (ofBits l))
  | 4 => .iq (grayLevel (l.take 2)) (grayLevel (l.drop 2))
  | 6 => .iq (grayLevel (l.take 3)) (grayLevel (l.drop 3))
  | _ => .silent

/-- A ROBUST symbol of `c` subcarriers in their order: coded bit j on places j, j + C/4, j + C/2 and j + 3C/4. -/
def robustSymbol (c : Nat) (notched : Nat → Bool) (bits : List Bool) : List (Nat × Tone) :=
  (List.range c).map (fun i =>
    let n := carrierAt c i
    (n, bif notched n then .silent else toneOf [bits.getD (i % (c / 4)) false]))

/-- An FCH symbol: position `p` of the FCH is place p mod C of symbol p / C, in BPSK. -/
def fchSymbol (c : Nat) (notched : Nat → Bool) (w k : Nat) : List (Nat × Tone) :=
  (List.range c).map (fun i =>
    let n := carrierAt c i
    (n, bif notched n then .silent else toneOf [fchBit w (c * k + i)]))

/-- A loaded symbol from place `i` on: each subcarrier takes as many of the coded bits as its loading says. The bits left over follow. -/
def loadedFrom (c : Nat) (notched : Nat → Bool) (load : Nat → Nat) : Nat → Nat → List Bool → List (Nat × Tone) × List Bool
  | 0, _, bits => ([], bits)
  | k + 1, i, bits =>
    let n := carrierAt c i
    let b := bif notched n then 0 else load n
    let rest := loadedFrom c notched load k (i + 1) (bits.drop b)
    ((n, toneOf ((bits ++ List.replicate b false).take b)) :: rest.1, rest.2)

def loadedSymbol (c : Nat) (notched : Nat → Bool) (load : Nat → Nat) (bits : List Bool) : List (Nat × Tone) × List Bool :=
  loadedFrom c notched load c 0 bits

/-! ### The payload (R218) -/

/-- Information bits of a codeword at a rate. -/
def infoBits (rate : Nat) : Nat := match rate with | 0 => 648 | 1 => 864 | _ => 1080

/-- The codewords of a PSDU: `n` of them; the information bits that the PSDU does not fill are zero for the code and are not sent. -/
def codewords (rate : Nat) : Nat → List Bool → List Bool
  | 0, _ => []
  | n + 1, bits =>
    let k := infoBits rate
    let info := bits.take k
    info ++ Config.ldpcParity rate (info ++ List.replicate (k - info.length) false) ++ codewords rate n (bits.drop k)

/-- The coded bits of a PSDU: whitened, then coded. -/
def plcCoded (rate : Nat) (psdu : List Byte) : List Bool :=
  let bits := whiten (bitsLsb psdu)
  codewords rate ((bits.length + infoBits rate - 1) / infoBits rate) bits

end Sys2Proof.Machine
end

