-- ==== Sys2Proof/Machine/LinkBase.lean ====
section
/-!
DEFINITION. What the link engines compute from schedule data: band plans and hopping (R178, R255, R256), airtimes and cell fit
(R188-R195, R212-R222), neighbours, estimates and guards (R259-R266), link keys and counters (R279-R281), and the media.
-/

namespace Sys2Proof.Machine

open Sys2Proof

/-! ### Media -/

/-- The page is ENABLED. -/
def State.enabled (s : State) (p : Nat) : Bool := Nat.beq (s.get (R.HDR.ST p)) 2

/-- A medium can serve now (R272). -/
def State.serviceable (s : State) (m : Medium) : Bool :=
  s.enabled (medPage m) && (bif isPlc m then s.bit R.PWR.SUPPLY_MAINS else !Nat.beq (s.get (R.RF.STAT_CH_ST (medIdx m))) 0)

/-- A medium is in service: serviceable, and taken up at a slotframe boundary (R274). -/
def State.inService (s : State) (m : Medium) : Bool := (s.air m).inSvc && s.serviceable m

/-! ### Values in force -/

/-- The registers that take effect at a slotframe boundary (R187, ch. 08 to 11) by page and offset. -/
def stagedReg (p off : Nat) : Bool :=
  (Nat.beq p 0x38 && ((Nat.ble 0x20 off && Nat.ble off 0x30) || Nat.ble 0x80 off)) ||
  (Nat.beq p 0x3B && (Nat.beq off 0x20 || Nat.beq off 0x28)) ||
  (Nat.beq p 0x40 && (Nat.beq off 0x20 || (Nat.ble 0x34 off && Nat.ble off 0x40))) ||
  (Nat.beq p 0x41 && (Nat.beq off 0x20 || Nat.beq off 0x24)) ||
  (Nat.beq p 0x42 && Nat.beq off 0x20) ||
  (Nat.beq p 0x44 && (Nat.beq off 0x20 || Nat.beq off 0x5C))

/-- The registers that take effect at the end of a sounding run: ZMAP0, ZMAP1, NOTCH0-NOTCH6 (ch. 08). -/
def soundedReg (p off : Nat) : Bool :=
  Nat.beq p 0x3B && (Nat.beq off 0x2C || Nat.beq off 0x30 || (Nat.ble 0x40 off && Nat.ble off 0x58))

/-- Page and offset of a field's key. -/
def keyPage (k : Nat) : Nat := k / 8192
def keyOff (k : Nat) : Nat := k / 32 % 256

/-- Take the registers that `sel` names into force. -/
def State.takeForce (s : State) (sel : Nat → Nat → Bool) : State :=
  let hit (kv : Nat × Nat) : Bool := sel (keyPage kv.1) (keyOff kv.1)
  let r := Regs.putAll (s.radio.inForce.filter (fun kv => !hit kv)) (s.regs.filter hit)
  { s with radio := { s.radio with inForce := r } }

/-- A field's value in force. -/
def State.now (s : State) (f : Fld) : Nat := s.radio.inForce.look f.key

/-! ### Site facts -/

def State.region (s : State) : Nat := s.ret.profile.region
def State.role (s : State) : Nat := s.ret.profile.role
def State.isCoord (s : State) : Bool := Nat.beq s.role 3

/-- CH0 and spacing in kHz, and the channel count of a band plan (R178). -/
def bandPlan (region plan : Nat) : Nat × Nat × Nat :=
  match region, plan with
  | 1, 1 => (863125, 200, 34) | 1, 2 => (863225, 400, 17) | 1, 3 => (863625, 1200, 5)
  | 2, 1 => (870200, 200, 29) | 2, 2 => (870400, 400, 14) | 2, 3 => (870800, 1200, 4)
  | 3, 1 => (902200, 200, 129) | 3, 2 => (902400, 400, 64) | 3, 3 => (902800, 1200, 20)
  | 4, 1 => (920600, 200, 38) | 4, 2 => (920900, 400, 18)
  | 5, 1 => (865100, 200, 10) | 5, 2 => (865200, 400, 5)
  | 6, 1 => (779200, 200, 39) | 6, 2 => (779400, 400, 19)
  | 7, 1 => (917100, 200, 32) | 7, 2 => (917300, 400, 16)
  | 8, 1 => (915200, 200, 64) | 8, 2 => (915400, 400, 32) | 8, 3 => (915800, 1200, 10)
  | _, _ => (0, 0, 0)

def State.plan (s : State) : Nat × Nat × Nat := bandPlan s.ret.profile.region s.ret.profile.bandplan
def State.spacing (s : State) : Nat := s.plan.2.1
def State.chanCount (s : State) : Nat := s.plan.2.2

/-- Channel centre in kHz. -/
def State.chanKHz (s : State) (n : Nat) : Nat := s.plan.1 + n * s.spacing

/-- EIRP ceiling in half dBm (R178). -/
def eirpCeiling (region : Nat) : Int :=
  match region with
  | 1 => 32 | 2 => 58 | 3 => 72 | 4 => 46 | 5 => 72 | 6 => 24 | 7 => 46 | 8 => 72 | _ => 0

/-- Duty limit of the rolling hour in 0.1 s, none where the region has no duty rule (R178). -/
def dutyLimit (region : Nat) : Option Nat :=
  match region with
  | 1 => some 360 | 2 => some 3600 | 4 => some 3600 | _ => none

/-- The dwell rule holds (R178): regions 0x03 and 0x08 in plans 1 and 2. -/
def dwellRule (region plan : Nat) : Bool := (Nat.beq region 3 || Nat.beq region 8) && Nat.blt plan 3

/-- Listen before talk (R178): regions 0x04 and 0x07. -/
def lbtRule (region : Nat) : Bool := Nat.beq region 4 || Nat.beq region 7

/-- `n` nominal slots in ns (R245): at 60 Hz three of them last 25,000 µs. -/
def State.slotsNs (s : State) (n : Nat) : Nat := bif Nat.beq s.ret.profile.hz 2 then n * 25000000 / 3 else n * 10000000

/-- The nominal slot in ns. -/
def State.slotNs (s : State) : Nat := s.slotsNs 1

/-- The slots that `ns` from a slot boundary reach into. -/
def State.slotsOf (s : State) (ns : Nat) : Nat :=
  bif Nat.beq s.ret.profile.hz 2 then (3 * ns + 24999999) / 25000000 else (ns + 9999999) / 10000000

/-! ### Hopping (R255, R256) -/

def State.hopMasked (s : State) (j : Nat) : Bool := (s.get (R.SCHED.HOPMASK_MASK (j / 32))).testBit (j % 32)

def swapAt (l : List Nat) (i j : Nat) : List Nat := (l.set i (l.getD j 0)).set j (l.getD i 0)

/-- The shuffle from index `i` down to 1. -/
def hopShuffle : Nat → Nat → List Nat → List Nat
  | 0, _, l => l
  | i + 1, x, l =>
    let y := (x * 25173 + 13849) % 65536
    hopShuffle i y (swapAt l (i + 1) (y % (i + 2)))

/-- The RF hopping list, formed when SCHED is enabled. -/
def State.hopList (s : State) : List Nat :=
  let l := (List.range s.chanCount).filter (fun j => !s.hopMasked j)
  let seed := s.get R.SCHED.HOP_SEED
  hopShuffle (l.length - 1) (bif Nat.beq seed 0 then 1 else seed) l

/-- c_A of a channel offset in slot `asn`. -/
def State.chanA (s : State) (asn choff : Nat) : Nat :=
  s.sched.hop.getD ((asn + choff) % s.sched.hop.length) 0

/-- Two channels lie at least 2 MHz apart (R161). -/
def State.apart (s : State) (a b : Nat) : Bool :=
  Nat.ble 2000 (s.spacing * (bif Nat.ble a b then b - a else a - b))

/-- c_B for c_A, if a channel qualifies. -/
def State.chanB (s : State) (cA : Nat) : Option Nat :=
  let n := s.chanCount
  ((List.range n).map (fun i => (cA + n / 2 + i) % n)).find? (fun j => !s.hopMasked j && s.apart cA j)

/-- The channel of a cell on a medium; 0 on PLC. -/
def State.chanOn (s : State) (m : Medium) (asn choff : Nat) : Option Nat :=
  match m with
  | .rfA => some (s.chanA asn choff)
  | .rfB => s.chanB (s.chanA asn choff)
  | .plc => some 0

/-! ### PHY modes (R186-R192) -/

/-- Min spacing of a mode in kHz; 0 for a code that is no mode (R186). -/
def minSpacing (mode : Nat) : Nat :=
  match mode with
  | 1 => 200 | 2 => 200 | 3 => 200 | 4 => 200 | 5 => 400 | 6 => 400 | 7 => 200 | 8 => 400
  | 9 => 1200 | 10 => 1200 | 11 => 400 | 12 => 200 | 15 => 200 | _ => 0

/-- The declared plan permits the mode (R187). -/
def State.permits (s : State) (mode : Nat) : Bool :=
  !Nat.beq (minSpacing mode) 0 && Nat.ble (minSpacing mode) s.spacing

/-- Data rate of a SUN FSK mode in b/s. -/
def sunRate (mode : Nat) : Nat :=
  match mode with | 4 => 50000 | 5 => 100000 | 6 => 150000 | 7 => 100000 | _ => 150000

def isOfdm (mode : Nat) : Bool := Nat.ble 9 mode && Nat.ble mode 12

/-- The data rate of an MCS in a SUN OFDM mode in kb/s, none where the option does not have it (R189). -/
def ofdmRate (mode mcs : Nat) : Option Nat :=
  match mode, mcs with
  | 9, 0 => some 100 | 9, 1 => some 200 | 9, 2 => some 400 | 9, 3 => some 800
  | 10, 0 => some 50 | 10, 1 => some 100 | 10, 2 => some 200 | 10, 3 => some 400 | 10, 4 => some 600 | 10, 5 => some 800
  | 11, 1 => some 50 | 11, 2 => some 100 | 11, 3 => some 200 | 11, 4 => some 300 | 11, 5 => some 400 | 11, 6 => some 600
  | 12, 2 => some 50 | 12, 3 => some 100 | 12, 4 => some 150 | 12, 5 => some 200 | 12, 6 => some 300
  | _, _ => none

/-- The MCS of a transmission: what the link engine chooses, one that the option has; 3 is in every option (log entry 83). -/
def sendMcs (mode : Nat) : Nat := bif (ofdmRate mode (Config.ofdmMcs mode)).isSome then Config.ofdmMcs mode else 3

/-- The least and the largest PSDU of a mode in octets, FCS included (R188-R190, R192, R217); mode 0 is PLC. -/
def minPsdu (mode : Nat) : Nat := bif Nat.beq mode 1 || Nat.beq mode 2 then 3 else 5
def maxPsdu (mode : Nat) : Nat := bif Nat.beq mode 1 || Nat.beq mode 2 then 255 else bif Nat.beq mode 3 then 127 else 1023

/-- The PHR is in error (R188-R190, R192, R199): the mode-switch bit of SUN FSK, an MCS that the option does not have, bits [15:12] of a YM2
PHR, a length that the mode does not have, or a header check that fails. -/
def phrBad (mode : Nat) (p : Phr) : Bool :=
  !(Nat.ble (minPsdu mode) p.len.toNat && Nat.ble p.len.toNat (maxPsdu mode)) ||
    (bif isOfdm mode then !p.ok || (ofdmRate mode p.mcs.toNat).isNone
     else bif Nat.ble mode 2 then !Nat.beq p.upper.toNat 0
     else !Nat.beq mode 3 && (p.switch || !p.ok))

/-- Airtime of an RF frame of `n` PSDU octets in ns, with `pre` preamble octets in the SUN FSK modes and an MCS in the OFDM ones (R188-R192). The 4-FSK modes count 8 bits
to an octet at the data rate, preamble and SFD included, as the 2-FSK ones do: the model's reading of what R188 leaves to IEEE 802.15.4 (log
entry 88). -/
def airMcs (mode pre mcs n : Nat) : Nat :=
  bif Nat.beq mode 1 then (108 + 16 * n) * 1000000000 / 4800
  else bif Nat.beq mode 2 then (108 + 16 * n) * 50000
  else bif Nat.beq mode 3 then (56 + 8 * n) * 1000000000 / 38400
  else bif isOfdm mode then Config.ofdmAirtime mode mcs n
  else 8 * (pre + 4 + n) * 1000000000 / sunRate mode

/-- Airtime of a transmission. -/
def airNs (mode pre n : Nat) : Nat := airMcs mode pre (sendMcs mode) n

/-- Airtime of preamble and SFD, sync word or LTF: T_pre of R258. -/
def preNs (mode pre : Nat) : Nat :=
  bif Nat.beq mode 1 then 64 * 1000000000 / 4800
  else bif Nat.beq mode 2 then 64 * 50000
  else bif Nat.beq mode 3 then 48 * 1000000000 / 38400
  else bif isOfdm mode then Config.ofdmPre mode
  else 8 * (pre + 2) * 1000000000 / sunRate mode

/-- FCS octets of a mode on transmit. -/
def fcsLen (mode : Nat) (fcs16 : Bool) : Nat :=
  bif Nat.ble mode 3 then 2 else bif isOfdm mode then 4 else bif fcs16 then 2 else 4

/-- The fallback profile of a chain. -/
def State.fallback (s : State) (ch : Nat) : Nat :=
  bif Nat.beq ch 0 then s.now R.PHYRF.CFG_FB_A else s.now R.PHYRF.CFG_FB_B

/-- Mode, preamble octets and 2-octet FCS of a profile. -/
def State.profile (s : State) (k : Nat) : Nat × Nat × Bool :=
  (s.now (R.PHYRF.PROF_CFG_MODE k), s.now (R.PHYRF.PROF_CFG_PREAMBLE k), !Nat.beq (s.now (R.PHYRF.PROF_CFG_FCS16 k)) 0)

/-- The reduced configuration is in force (R202). -/
def State.reduced (s : State) : Bool := s.bit R.PHYRF.STAT_CONF

/-- The mode in which a chain sends in a cell of a profile to a neighbour (R204, R206, R290): in a SEARCH cell that in which the bank last
received from it, in the full configuration and failing that the fallback. -/
def State.txMode (s : State) (ch prof : Nat) (n : Option Nbr) : Nat × Nat × Bool :=
  let p := s.profile prof
  let ym1 := match n with | some n => n.ym1 | none => false
  let heard := match n with | some n => n.mode | none => 0
  bif ym1 then (3, 4, true)
  else bif Nat.beq p.1 0xF then
    let fb := s.profile (s.fallback ch)
    bif Nat.beq heard 0 || !s.reduced then fb else (heard, fb.2.1, fb.2.2)
  else p

/-- The mode that a lane searches (R203). -/
def State.laneMode (s : State) (l : Nat) : Nat :=
  match l with
  | 0 => 1 | 1 => 2 | 2 => 3 | 3 => 4
  | 4 => bif Nat.beq (s.now R.PHYRF.SRCH_Q100) 1 then 7 else 5
  | _ => bif Nat.beq (s.now R.PHYRF.SRCH_Q150) 1 then 8 else 6

/-- The lane runs (R203). -/
def State.laneOn (s : State) (l : Nat) : Bool := (s.now R.PHYRF.SRCH_LANES).testBit l && s.permits (s.laneMode l)

/-! ### Frame lengths -/

def micLen (level : Nat) : Nat :=
  match level with | 5 => 4 | 6 => 8 | 7 => 16 | 1 => 4 | _ => 0

/-- Octets of the mesh IE (R318). -/
def meshLen (m : MeshIe) : Nat := 8 + 2 * m.route.length

/-- PSDU octets of a frame (R338): MAC header, auxiliary header, sync IE, mesh IE, termination IEs, payload, MIC, FCS, and a tone-map IE of
`tone` octets with its header and the Header Termination 1 IE (R275). -/
def LinkFrame.psdu (f : LinkFrame) (level fcs : Nat) (ym1 : Bool) (tone : Nat) : Nat :=
  9 + (bif Nat.beq f.dest 301 || f.joinKey || decide (f.kind = .beacon) then 6 else 0) + (bif Nat.beq f.dest 301 then 6 else 0) + 6 +
    (bif ym1 then 0 else 8 + (match f.mesh with | some m => meshLen m | none => 0) +
      (bif f.join.isEmpty then 0 else 4 + f.join.length) + (bif f.payload.isEmpty then 0 else 2) +
      (bif Nat.beq tone 0 then 0 else bif f.join.isEmpty then tone + 4 else tone + 2)) +
    f.payload.length + micLen level + fcs

/-- PSDU octets of the acknowledgement that a frame calls for (R283, R290), with a tone-map IE of `tone` octets. -/
def State.ackLen (s : State) (fcs : Nat) (ym1 : Bool) (tone : Nat) : Nat :=
  bif ym1 then 5
  else 8 + fcs + (bif Nat.beq (s.now R.LINK.CFG_ACKSEC) 1 then 10 else 0) + (bif Nat.beq tone 0 then 0 else tone + 4)

/-- The security level of transmissions. -/
def State.level (s : State) : Nat := s.now R.LINKSEC.CFG_SECLVL

/-- The level of a frame: a beacon's is 1 (R299). -/
def State.levelOf (s : State) (f : LinkFrame) : Nat := bif decide (f.kind = .beacon) then 1 else s.level

/-! ### Power-line frames (R212-R222) -/

/-- Subcarriers and FCH symbols of the declared band. -/
def State.plcC (s : State) : Nat := bif Nat.beq s.ret.profile.plcband 2 then 216 else 36
def State.plcFch (s : State) : Nat := bif Nat.beq s.ret.profile.plcband 2 then 1 else 3

/-- Subcarrier `n` is notched (R213). -/
def State.notched (s : State) (n : Nat) : Bool := (s.now (R.PLCPHY.NOTCH_MASK (n / 32))).testBit (n % 32)

/-- Coded bits of a PSDU at a rate (R218). -/
def codedBits (rate len : Nat) : Nat :=
  let k := infoBits rate
  let n := (8 * len + k - 1) / k
  n * 1296 - (n * k - 8 * len)

/-- Bits of a loading code (R236). -/
def codeBits (c : Nat) : Nat := bif Nat.beq c 5 then 6 else c

/-- Coded bits per symbol of a region: C/4 when ROBUST (R233). -/
def loadBits (c : Nat) : Option (List Nat) → Nat
  | none => c / 4
  | some l => (l.map codeBits).sum

/-- The loading a set gives a region; ROBUST where the region is not held. -/
def ToneSet.region (t : ToneSet) (r : Nat) : Option (List Nat) :=
  match t.loads.find? (fun e => Nat.beq e.1 r) with | some e => e.2 | none => none

/-- The set holds every region that its map names (R237). -/
def ToneSet.complete (t : ToneSet) : Bool := t.regions.all (fun r => t.loads.any (fun e => Nat.beq e.1 r))

/-- The smallest loading of each subcarrier across a set's regions; none when a region is ROBUST (R221). -/
def ToneSet.flat (t : ToneSet) : Option (List Nat) :=
  let rs := t.regions.eraseDups.map t.region
  bif rs.any Option.isNone then none
  else match rs.filterMap id with
    | [] => none
    | l :: ls => some (ls.foldl (fun a b => List.zipWith min a b) l)

/-- The bin of payload symbol `i` in a cell (R220). -/
def State.plcBin (s : State) (txoff i : Nat) : Nat :=
  let t := (txoff + 2560 + 700 * s.plcFch + 700 * i + 380) * 1000
  t % s.slotNs * 16 / s.slotNs % 16

/-- Symbols of a MAPPED payload: `fuel` bounds the count, `left` are the bits to go. -/
def State.mapSyms (s : State) (t : ToneSet) (txoff : Nat) : Nat → Nat → Nat → Nat
  | 0, i, _ => i
  | fuel + 1, i, left =>
    bif Nat.beq left 0 then i
    else
      let b := loadBits s.plcC (t.region (t.regions.getD (s.plcBin txoff i) 0))
      s.mapSyms t txoff fuel (i + 1) (left - b)

/-- The tone-map slot of a neighbour. -/
def State.toneSlot (s : State) (nbr : Nat) : Option (Nat × ToneSlot) :=
  s.plc.slots.find? (fun e => Nat.beq e.2.nbr nbr)

/-- FCH MODE for a frame (R221): 0 ROBUST, 1 MAPPED, 2 FLAT, and the set used. -/
def State.plcMode (s : State) (nbr : Nat) : Nat × Option ToneSet :=
  bif Nat.ble 300 nbr || Nat.beq (s.now R.PLCPHY.CFG_ROBUST_ONLY) 1 then (0, none)
  else match s.toneSlot nbr with
    | none => (0, none)
    | some e =>
      bif !e.2.usable || e.2.fallback then (0, none)
      else match e.2.received with
        | none => (0, none)
        | some t =>
          bif Nat.beq (s.get R.SCHED.STAT_TIMING) 2 then (1, some t)
          else bif t.flat.isSome then (2, some t) else (0, none)

/-- Airtime in ns of a PLC frame of `n` PSDU octets that starts `txoff` µs after its cell's first slot boundary, in an FCH MODE with a set
(R215, R218-R220). -/
def State.plcNsIn (s : State) (r : Nat × Option ToneSet) (txoff n : Nat) : Nat :=
  let sym (per bits : Nat) : Nat := (bits + per - 1) / max per 1
  let pay := match r.2 with
    | none => sym (s.plcC / 4) (codedBits 0 n)
    | some t =>
      bif Nat.beq r.1 1 then s.mapSyms t txoff 4000 0 (codedBits t.rate n)
      else sym (loadBits s.plcC t.flat) (codedBits t.rate n)
  (2560 + 700 * (s.plcFch + pay)) * 1000

/-- Airtime of a PLC frame to a neighbour (R221). -/
def State.plcNs (s : State) (nbr txoff n : Nat) : Nat := s.plcNsIn (s.plcMode nbr) txoff n

/-- The mode and the set of the acknowledgement that a PLC frame to a neighbour calls for (R284): the frame's MODE, with the set that this
node issued to the neighbour; ROBUST where it issued none. -/
def State.plcAckMode (s : State) (nbr mode : Nat) : Nat × Option ToneSet :=
  bif Nat.beq mode 0 then (0, none)
  else match s.toneSlot nbr with
    | some (_, t) => (match t.cur with
      | some x => bif Nat.beq mode 1 || x.flat.isSome then (mode, some x) else (0, none)
      | none => (0, none))
    | none => (0, none)

/-- The coded bits of a PLC payload per symbol, and the sets of subcarriers they fill, are those of Waves.lean's `loadedSymbol` and
`robustSymbol` under the loading of the symbol's bin (R219, R220): the loading of subcarrier `n` in payload symbol `i`, none where the symbol
is ROBUST. -/
def State.symLoad (s : State) (r : Nat × Option ToneSet) (txoff i : Nat) : Option (List Nat) :=
  match r.2 with
  | none => none
  | some t => bif Nat.beq r.1 1 then t.region (t.regions.getD (s.plcBin txoff i) 0) else t.flat

/-- Payload symbol `i` of a PLC frame and the coded bits left after it (R219). -/
def State.paySymbol (s : State) (r : Nat × Option ToneSet) (txoff i : Nat) (bits : List Bool) : List (Nat × Tone) × List Bool :=
  match s.symLoad r txoff i with
  | none => (robustSymbol s.plcC s.notched (bits.take (s.plcC / 4)), bits.drop (s.plcC / 4))
  | some l => loadedSymbol s.plcC s.notched (fun n => codeBits (l.getD n 0)) bits

/-- The payload symbols of a PLC frame from symbol `i` until its coded bits are out; `fuel` bounds their number (R215, R218-R220). -/
def State.paySymbols (s : State) (r : Nat × Option ToneSet) (txoff : Nat) : Nat → Nat → List Bool → List (List (Nat × Tone))
  | 0, _, _ => []
  | fuel + 1, i, bits =>
    bif bits.isEmpty then []
    else
      let x := s.paySymbol r txoff i bits
      x.1 :: s.paySymbols r txoff fuel (i + 1) x.2

/-! ### The tone-map IE (R236) -/

/-- Codes of 3 bits as a number, the first in the lowest bits. -/
def packCodes (l : List Nat) : Nat := l.foldr (fun x v => x % 8 + 8 * v) 0

/-- A carried region: its octet, then its codes unless it is ROBUST. -/
def regionOctets (c : Nat) (e : Nat × Option (List Nat)) : List Byte :=
  match e.2 with
  | none => [BitVec.ofNat 8 (e.1 + 128)]
  | some l => BitVec.ofNat 8 e.1 :: leBytes ((3 * c + 7) / 8) (packCodes l)

/-- The regions of a set that its map names, ascending. -/
def ToneSet.inMap (t : ToneSet) : List (Nat × Option (List Nat)) :=
  ((List.range 8).filter (fun r => t.regions.any (Nat.beq r))).map (fun r => (r, t.region r))

/-- Octets 0 to 2 of an IE. -/
def toneHead (slot ver rate band mask : Nat) (req : Bool) : List Byte :=
  [BitVec.ofNat 8 (slot + (bif req then 128 else 0)), BitVec.ofNat 8 (ver % 16 + 16 * (rate % 4) + 64 * ((band - 1) % 2)), BitVec.ofNat 8 mask]

/-- The content of an IE with regions `rs` of the set that slot `i` issued, or of one with REQ only. -/
def State.toneContent (s : State) (i : Nat) (t : ToneSlot) (req : Bool) (rs : List (Nat × Option (List Nat))) : List Byte :=
  let band := s.ret.profile.plcband
  match t.cur with
  | some x =>
    bif rs.isEmpty then toneHead i t.curVer x.rate band 0 req
    else toneHead i x.ver x.rate band ((rs.map (fun e => 2 ^ e.1)).sum) req ++ leBytes 6 (packCodes x.regions) ++ rs.flatMap (regionOctets s.plcC)
  | none => toneHead i t.curVer 0 band 0 req

/-- The most regions, in order, that a frame has room for. -/
def fitRegions (room : List (Nat × Option (List Nat)) → Bool) (l : List (Nat × Option (List Nat))) : List (Nat × Option (List Nat)) :=
  ((List.range (l.length + 1)).reverse.map (fun k => l.take k)).find? room |>.getD []

/-- The tone-map IE that a frame to a neighbour carries, and the regions then carried where they change (R236, R239, R275): the newest set while it is
unadopted, as whole regions over successive frames, from the first again when all have gone; REQ on a PLC attempt under the fallback. `room`
says what number of octets the frame has room for. -/
def State.toneFor (s : State) (nbr : Nat) (plc : Bool) (room : Nat → Bool) : List Byte × Option (List Nat) :=
  match s.toneSlot nbr with
  | none => ([], none)
  | some (i, t) =>
    let all : List (Nat × Option (List Nat)) := match t.cur with | some x => (bif t.adopted then [] else x.inMap) | none => []
    let left := all.filter (fun e => !t.carried.any (Nat.beq e.1))
    let l := bif left.isEmpty then all else left
    let old := bif left.isEmpty then [] else t.carried
    let req := plc && t.fallback
    let rs := fitRegions (fun k => room (s.toneContent i t req k).length) l
    bif rs.isEmpty && !req then ([], none) else (s.toneContent i t req rs, some (old ++ rs.map (fun e => e.1)))

/-- The regions that frames to a neighbour have carried. -/
def State.setCarried (s : State) (nbr : Nat) (o : Option (List Nat)) : State :=
  match o with
  | none => s
  | some l => { s with plc := { s.plc with slots := s.plc.slots.map (fun (e : Nat × ToneSlot) =>
      bif Nat.beq e.2.nbr nbr then (e.1, { e.2 with carried := l }) else e) } }

/-! ### Neighbours -/

def State.nbr? (s : State) (i : Nat) : Option Nbr := s.sched.nbrs.find? (fun n => Nat.beq n.idx i)

def State.setNbr (s : State) (n : Nbr) : State :=
  let l := s.sched.nbrs
  let l := bif l.any (fun m => Nat.beq m.idx n.idx) then l.map (fun m => bif Nat.beq m.idx n.idx then n else m) else l ++ [n]
  { s with sched := { s.sched with nbrs := l } }

def State.modNbr (s : State) (i : Nat) (f : Nbr → Nbr) : State :=
  match s.nbr? i with | some n => s.setNbr (f n) | none => s

/-- A neighbour as an entry starts (R259, R265, R296). -/
def freshNbr (i : Nat) : Nbr :=
  { idx := i, ext := 0, short := 0xFFFE, role := 0, wake := 0, rank := 0xFFFF, hops := 0, child := false, ym1 := false,
    verified := false, sync := 0, locked := false, outage := false, sleepy := false, miss := 0, p := [128, 128, 128],
    upd := [0, 0, 0], probe := 0, seen := 0, guard := 0, err := 0, last := 0, resyncs := 0, txseq := 0, be := 0, bo := 0, hwm := [],
    recs := [], mode := 0, pollS := 0, polled := 0, pan := 0xFFFF, decl := false, respTo := 0 }

def nbrEst (n : Nbr) (m : Medium) : Nat := n.p.getD (medIdx m) 128

/-- p after an attempt (R259), by an arithmetic shift. -/
def estStep (p w : Nat) (acked : Bool) : Nat :=
  bif acked then p + (255 - p) / 2 ^ w else p - (p + 2 ^ w - 1) / 2 ^ w

/-- The estimate of a medium takes an attempt's outcome. -/
def State.estimate (s : State) (i : Nat) (m : Medium) (acked : Bool) : State :=
  s.modNbr i (fun n =>
    { n with p := n.p.set (medIdx m) (estStep (nbrEst n m) (s.now R.SCHED.LQE_WEIGHT) acked),
             upd := n.upd.set (medIdx m) s.sched.asn })

/-- Seconds since the last contact. -/
def State.age (s : State) (n : Nbr) : Nat := s.get R.SYS.OPSEC_SEC - n.seen

/-- This node is LOCKED. -/
def State.isLocked (s : State) : Bool := Nat.beq (s.get R.SCHED.STAT_TIMING) 2

/-- The receive guard for a neighbour in µs (R266). -/
def State.guardUs (s : State) (n : Nbr) : Nat :=
  bif s.isLocked && n.locked && !n.ym1 then 400 else 400 + 2 * s.now R.SCHED.CFG_DRIFT_PPM * s.age n

/-- The time source: the preferred parent, or the chosen sender of a join; a COORDINATOR has none (R248). -/
def State.source (s : State) : Option Nat :=
  bif s.isCoord then none
  else bif Nat.beq (s.get R.SCHED.STAT_SOURCE) 0xFF then none else some (s.get R.SCHED.STAT_SOURCE)

/-- The neighbour of a short or an extended address. -/
def State.nbrByShort (s : State) (a : Nat) : Option Nbr := s.sched.nbrs.find? (fun n => Nat.beq n.short a)
def State.nbrByExt (s : State) (a : Nat) : Option Nbr := s.sched.nbrs.find? (fun n => Nat.beq n.ext a)

/-! ### Link keys and frame counters (R279-R281) -/

def State.key (s : State) (i : Nat) : KeySlot := s.keys.getD i KeySlot.empty

def State.setKey (s : State) (i : Nat) (k : KeySlot) : State := { s with keys := s.keys.set i k }

/-- The valid slot of a key index. -/
def State.slotOf (s : State) (idx : Nat) : Option Nat :=
  (List.range 16).find? (fun i => (s.key i).valid && Nat.beq (s.key i).idx idx)

/-- A flash copy holds an end of this slot's reservation at or past `last` (R84, R281). -/
def RetRecord.holds (r : RetRecord) (i last : Nat) : Bool :=
  r.usable && Nat.ble last ((r.keys.getD i KeySlot.empty).blockEnd)

def State.committed (s : State) (i last : Nat) : Bool := s.ret.copyA.holds i last || s.ret.copyB.holds i last

/-- Mirroring is on: this module is PRIMARY and its partner SYNCING or IN_SYNC (R362). -/
def State.mirroring (s : State) : Bool :=
  Nat.beq (s.get R.PAIR.STAT_PST) 4 && (Nat.beq (s.get R.PAIR.STAT_PARTNER) 2 || Nat.beq (s.get R.PAIR.STAT_PARTNER) 3)

/-- A sequenced Basalt frame goes out (R358): RECORD or COPY with its object, HANDOVER without one. A frame-counter block end
awaits its report (R367). -/
def State.sendSeq (s : State) (o : Option Mirror) : State :=
  let q := s.pair.txSeq % 0xFFFF + 1
  let waits : List (Nat × Nat × Nat) := match o with
    | some (.blockEnd i last) => [(q, i.val, last.toNat + 1)]
    | some _ => []
    | none => []
  { s with pair := { s.pair with txSeq := q, unacked := s.pair.unacked ++ [(q, o)], blockSeqs := s.pair.blockSeqs ++ waits } }

/-- Two values of one object. -/
def sameObj : Mirror → Mirror → Bool
  | .config p o _, .config q r _ => p == q && o == r
  | .key i _ _, .key j _ _ => i == j
  | .blockEnd i _, .blockEnd j _ => i == j
  | .nbr n, .nbr m => Nat.beq n.idx m.idx
  | .cell c, .cell d => Nat.beq c.idx d.idx
  | .assoc e, .assoc f => Nat.beq e.idx f.idx
  | .salt _ _, .salt _ _ => true
  | .message m, .message n => Nat.beq m.num n.num
  | .peer p, .peer q => Nat.beq p.short q.short
  | .netaddr _ _, .netaddr _ _ => true
  | _, _ => false

/-- An object whose deletion is told before its copy has gone is not copied any more. -/
def goneObj : Mirror → Mirror → Bool
  | .noCell i, .cell c => Nat.beq i.toNat c.idx
  | _, _ => false

/-- A value that the copy of a whole object still to come carries. -/
def laterObj : Mirror → Mirror → Bool
  | .seqNo i _, .nbr n => Nat.beq i.toNat n.idx
  | _, _ => false

/-- An object changed: while mirroring, a record follows in sequence (R358, R362), or its copy still to come carries the
change (R366). -/
def State.mirror (s : State) (o : Mirror) : State :=
  let s := { s with pair := { s.pair with copy := s.pair.copy.filter (fun x => !goneObj o x) } }
  bif !s.mirroring || s.pair.copy.any (laterObj o) then s
  else bif s.pair.copy.any (sameObj o) then
    { s with pair := { s.pair with copy := s.pair.copy.map (fun x => bif sameObj o x then o else x) } }
  else s.sendSeq (some o)

/-- E7 asks for the next block of key slot `i` when 1,024 values of the open one remain (R281). -/
def State.requestBlock (s : State) (i : Nat) : State :=
  let k := s.key i
  bif k.valid && Nat.ble k.blockEnd (k.counter + 1024) && Nat.ble k.nextEnd k.blockEnd && Nat.blt k.blockEnd 0xFFFFFFFF then
    let e := min (k.blockEnd + 4096) 0xFFFFFFFF
    let s := (s.setKey i { k with nextEnd := e }).commit
    s.mirror (.blockEnd (Fin.ofNat 16 i) (BitVec.ofNat 32 (e - 1)))
  else s

/-- A block's end is reported committed by the partner, while one is mirrored to (R367). -/
def State.pairGate (s : State) (i e : Nat) : Bool := !s.mirroring || Nat.ble e (s.pair.reserve.look i)

/-- The next block of slot `i` opens when its first value is needed and its end is committed (R281). -/
def State.openBlock (s : State) (i : Nat) : State :=
  let k := s.key i
  bif Nat.ble k.blockEnd k.counter && Nat.blt k.blockEnd k.nextEnd && s.committed i k.nextEnd && s.pairGate i k.nextEnd then
    s.setKey i { k with blockEnd := k.nextEnd }
  else s

/-- A transmission takes the next counter of slot `i`: none while it waits for a block or the counter is exhausted. -/
def State.takeCounter (s : State) (i : Nat) : State × Option Nat :=
  let s := s.openBlock i
  let k := s.key i
  bif Nat.ble 0xFFFFFFFF k.counter then (s.refuse 0x42 0x41 0x4C, none)
  else bif Nat.ble k.blockEnd k.counter then (s.requestBlock i, none)
  else
    let s := (s.setKey i { k with counter := k.counter + 1 }).raiseIf (Nat.beq (k.counter + 1) 0xFF000000) 0x42 0
    (s.requestBlock i, some k.counter)

/-! ### The link queue -/

def State.frame? (s : State) (num : Nat) : Option LinkFrame := s.sched.queue.find? (fun f => Nat.beq f.num num)

def State.modFrame (s : State) (num : Nat) (f : LinkFrame → LinkFrame) : State :=
  { s with sched := { s.sched with queue := s.sched.queue.map (fun x => bif Nat.beq x.num num then f x else x) } }

def State.dropFrame (s : State) (num : Nat) : State :=
  { s with sched := { s.sched with queue := s.sched.queue.filter (fun x => !Nat.beq x.num num) } }

/-- A frame with nothing filled in. -/
def LinkFrame.blank : LinkFrame :=
  { num := 0, dest := 300, ext := 0, cls := 1, kind := .data, mesh := none, join := [], payload := [], joinKey := false,
    seq := none, key := none, ctr := none, tries := 0, waits := false, due := 0, msg := 0, frag := 0 }

/-- A frame joins the link queue. -/
def State.enqueue (s : State) (f : LinkFrame) : State :=
  { s with sched := { s.sched with queue := s.sched.queue ++ [{ f with num := s.sched.nextNum }],
                                   nextNum := s.sched.nextNum + 1 } }

/-- The frame that an activity carries. -/
def Activity.frame : Activity → Nat
  | .tx a => a.frame
  | .idle => 0
  | .rx _ _ _ => 0

/-- The frame is armed, on air, or awaiting its acknowledgement on a medium. -/
def Air.holds (a : Air) (num : Nat) : Bool :=
  Nat.beq a.armed.frame num || (match a.sending with | some x => Nat.beq x.frame num | none => false) ||
    (match a.await with | some x => Nat.beq x.frame num | none => false)

def State.inFlight (s : State) (num : Nat) : Bool := media3.any (fun m => (s.air m).holds num)

/-- The head of a queue (R337): a frame that has had its first attempt, else the highest class, oldest first. -/
def headOf (l : List LinkFrame) : Option LinkFrame :=
  match l.find? (fun f => !Nat.beq f.tries 0) with
  | some f => some f
  | none => [0, 1, 2, 3].findSome? (fun c => l.find? (fun f => Nat.beq f.cls c))

/-- The head of the queue to a neighbour, or of the broadcasts. -/
def State.queueHead (s : State) (dest : Nat) : Option LinkFrame :=
  headOf (s.sched.queue.filter (fun f => Nat.beq f.dest dest && !f.waits && !s.inFlight f.num))

/-- This module may send (R354): a COORDINATOR that expects a partner only as PRIMARY. -/
def State.maySend (s : State) : Bool :=
  !(s.isCoord && Nat.beq s.ret.profile.pairEn 1) || Nat.beq (s.get R.PAIR.STAT_ROLE) 1

/-! ### Cell fit (R194, R222) -/

def cellProf (c : Cell) : Medium → Nat
  | .rfA => c.profA | .rfB => c.profB | .plc => 0

/-- The frame expects an acknowledgement (R283). -/
def LinkFrame.acked (f : LinkFrame) : Bool := !Nat.beq f.dest 300

/-- The neighbour that a frame is for, by index or by extended address. -/
def State.nbrOf (s : State) (f : LinkFrame) : Option Nbr :=
  bif Nat.beq f.dest 301 then s.nbrByExt f.ext else s.nbr? f.dest

/-- The frame is for a YM1 neighbour (R290). -/
def State.ym1For (s : State) (f : LinkFrame) : Bool := match s.nbrOf f with | some n => n.ym1 | none => false

/-- The mode and the PSDU octets of a frame on a medium in a cell, with a tone-map IE of `tone` octets; mode 0 on PLC. -/
def State.psduOn (s : State) (m : Medium) (c : Cell) (f : LinkFrame) (tone : Nat) : Nat × Nat :=
  match m with
  | .plc => (0, f.psdu (s.levelOf f) 4 false tone)
  | m =>
    let x := s.txMode (medIdx m) (cellProf c m) (s.nbrOf f)
    (x.1, f.psdu (s.levelOf f) (fcsLen x.1 x.2.2) (s.ym1For f) tone)

/-- Airtime of a frame on a medium in a cell, and of its acknowledgement, in ns. The tone-map IE that the neighbour may put into its
acknowledgement is not known here and not counted (log entry 89). -/
def State.exchange (s : State) (m : Medium) (c : Cell) (f : LinkFrame) (tone : Nat) : Nat × Nat :=
  let n := (s.psduOn m c f tone).2
  match m with
  | .plc =>
    let r := s.plcMode f.dest
    let t := s.plcNsIn r c.txoff n
    (t, s.plcNsIn (s.plcAckMode f.dest r.1) (c.txoff + t / 1000 + 350) (s.ackLen 4 false 0))
  | m =>
    let x := s.txMode (medIdx m) (cellProf c m) (s.nbrOf f)
    (airNs x.1 x.2.1 n, airNs x.1 x.2.1 (s.ackLen (fcsLen x.1 x.2.2) (s.ym1For f) 0))

/-- The whole exchange in ns from the cell's first slot boundary. -/
def State.exchangeNs (s : State) (m : Medium) (c : Cell) (f : LinkFrame) (tone : Nat) : Nat :=
  let x := s.exchange m c f tone
  c.txoff * 1000 + x.1 + (bif f.acked then (bif isPlc m then 350000 else 120000) + x.2 else 0)

/-- Slots of a cell on a medium: RF takes four at most. -/
def cellSpan (c : Cell) (m : Medium) : Nat := bif isPlc m then c.len else min c.len 4

/-- The overrun allowance of a medium. -/
def State.allowance (s : State) : Medium → Nat
  | .rfA => s.now R.PHYRF.CFG_OVR_A | .rfB => s.now R.PHYRF.CFG_OVR_B | .plc => 0

/-- The frame with a tone-map IE of `tone` octets fits the cell on the medium (R194, R222), and its PSDU the mode (R188-R192, R217). -/
def State.fitsTone (s : State) (m : Medium) (c : Cell) (f : LinkFrame) (tone : Nat) : Bool :=
  let p := s.psduOn m c f tone
  Nat.ble p.2 (maxPsdu p.1) && Nat.ble (s.exchangeNs m c f tone) (s.slotsNs (cellSpan c m + s.allowance m))

/-- The frame fits the cell on the medium. -/
def State.fits (s : State) (m : Medium) (c : Cell) (f : LinkFrame) : Bool := s.fitsTone m c f 0

/-- The tone-map IE of a frame that goes out on a medium in a cell, and the regions then carried: none in a broadcast and to a YM1 neighbour
(R290). The copies of an ALARM pair are one frame (R34): the first carries what fits all its media, the second the same. -/
def State.frameTone (s : State) (m : Medium) (c : Cell) (f : LinkFrame) : List Byte × Option (List Nat) :=
  let others := media3.filter (fun k => !decide (k = m))
  bif s.ym1For f || Nat.ble 300 f.dest then ([], none)
  else match others.find? (fun k => (s.air k).carries f.num) with
    | some k => (match (s.air k).out with | some o => o.tone.getD [] | none => [], none)
    | none =>
      let ms := others.filter (fun k => Nat.beq (s.air k).armed.frame f.num)
      s.toneFor f.dest (isPlc m) (fun k => s.fitsTone m c f k && ms.all (fun j => s.fitsTone j c f k))

/-- Random draws: a number below `n` from a free value. -/
def State.draw (s : State) (n : Nat) : Nat := (Config.freeByte s.freeCount).toNat % max n 1

end Sys2Proof.Machine
end

