-- ==== Sys2Proof/Machine/Frames.lean ====
section
/-!
DEFINITION. The octets of what this node sends: information elements (R252, R275, R299, R318), MAC header, CCM* (R277, R278) and FCS. What the
spec leaves to IEEE 802.15.4 - the places of the header's fields, the IE descriptors, the nonce's byte order, the FCS - is PRESUMED (log entry
96).
-/

namespace Sys2Proof.Machine

open Sys2Proof

/-! ### CCM* (R277) -/

/-- Bytes up to the next multiple of 16, zeros added. -/
def pad16 (l : List Byte) : List Byte := l ++ zeros ((16 - l.length % 16) % 16)

/-- CBC-MAC over `n` blocks of 16. -/
def cbcMac (key : List Byte) : Nat → List Byte → List Byte → List Byte
  | 0, x, _ => x
  | n + 1, x, l => cbcMac key n (aesEncrypt key false (xorBytes x (slice l 0 16))) (l.drop 16)

/-- The key stream block `i` of a nonce. -/
def ccmStream (key nonce : List Byte) (i : Nat) : List Byte := aesEncrypt key false ([0x01] ++ nonce ++ beBytes 2 i)

/-- CCM* over associated data `a` and the message `m` with a MIC of `t` octets: the encrypted message, then the MIC. -/
def ccmStar (key nonce a m : List Byte) (t : Nat) : List Byte :=
  let flags : Nat := (bif a.isEmpty then 0 else 64) + 8 * ((t - 2) / 2) + 1
  let blocks := [BitVec.ofNat 8 flags] ++ nonce ++ beBytes 2 m.length ++
    (bif a.isEmpty then [] else pad16 (beBytes 2 a.length ++ a)) ++ pad16 m
  let mac := (cbcMac key (blocks.length / 16) (zeros 16) blocks).take t
  let stream := (List.range ((m.length + 15) / 16)).flatMap (fun i => ccmStream key nonce (i + 1))
  xorBytes m stream ++ xorBytes mac ((ccmStream key nonce 0).take t)

/-- The nonce: the sender's extended address, the frame counter and the security level. -/
def linkNonce (ext ctr level : Nat) : List Byte := beBytes 8 ext ++ beBytes 4 ctr ++ [BitVec.ofNat 8 level]

/-! ### Information elements -/

/-- The content of the sync IE (R252); in acknowledgements octets 5 to 7. -/
def syncOctets (y : SyncIe) (ack : Bool) : List Byte :=
  let bit (b : Bool) (n : Nat) : Nat := bif b then n else 0
  let flags := BitVec.ofNat 8 (bit y.locked 1 + bit y.outage 2 + bit y.corr.isSome 4 + bit y.sleepy 8)
  (bif ack then [] else leBytes 5 y.asn.toNat) ++ [flags] ++ (match y.corr with | some c => leBytes 2 c.toNat | none => [])

/-- The content of the mesh IE (R318). -/
def meshOctets (m : MeshIe) : List Byte :=
  let bit (b : Bool) (n : Nat) : Nat := bif b then n else 0
  leBytes 2 m.origin.toNat ++ leBytes 2 m.final.toNat ++ [BitVec.ofNat 8 (m.hops.toNat + bit m.sr 32 + bit m.bc 64)] ++
    [bif m.sr then BitVec.ofNat 8 (m.route.length % 16 + 16 * (m.idx.toNat % 16)) else bif m.bc then m.idx else 0] ++
    m.route.flatMap (fun a => leBytes 2 a.toNat)

/-- A header IE: length in bits [6:0], Element ID in [14:7]. -/
def headerIe (id : Nat) (c : List Byte) : List Byte := leBytes 2 (c.length + 2 ^ 7 * id) ++ c

/-- A payload IE: length in bits [10:0], Group ID in [14:11], bit 15 set. -/
def payloadIe (g : Nat) (c : List Byte) : List Byte := leBytes 2 (c.length + 2 ^ 11 * g + 2 ^ 15) ++ c

/-- The payload IEs of a frame. -/
def payloadIes (f : AirFrame) : List Byte :=
  (bif f.join.isEmpty then [] else payloadIe 0xC f.join) ++ (match f.tone with | some c => payloadIe 0xB c | none => [])

/-- The header IEs of a frame, with what ends them: Header Termination 1 before payload IEs, Header Termination 2 before a payload alone. -/
def headerIes (f : AirFrame) : List Byte :=
  (match f.sync with | some y => headerIe 0x7B (syncOctets y (decide (f.kind = .ack))) | none => []) ++
    (match f.mesh with | some m => headerIe 0x7C (meshOctets m) | none => []) ++
    (bif !(payloadIes f).isEmpty then headerIe 0x7E [] else bif f.payload.isEmpty || !Nat.beq f.version.toNat 2 then [] else headerIe 0x7F [])

/-! ### The frame -/

/-- The frame type code. -/
def kindCode : FrameKind → Nat
  | .beacon => 0 | .data => 1 | .ack => 2 | .command _ => 3

/-- The MAC header: frame control, sequence number, addresses, auxiliary security header and header IEs. `dst` is an extended destination
address, where the frame has one. -/
def macHeader (f : AirFrame) (dst : Option Nat) : List Byte :=
  let bit (b : Bool) (n : Nat) : Nat := bif b then n else 0
  let ack := decide (f.kind = .ack)
  let ies := headerIes f
  let asks := !ack && !Nat.beq f.dst.toNat 0xFFFF
  let dmode := bif ack then 0 else bif dst.isSome then 3 else 2
  let smode := bif ack then 0 else bif f.ext.isSome then 3 else 2
  let one := !ack && !(dst.isSome && f.ext.isSome)
  let fc := kindCode f.kind + bit (!Nat.beq f.level.toNat 0) 8 + bit f.pending 16 + bit asks 32 + bit one 64 + bit (!ies.isEmpty) 512 +
    1024 * dmode + 4096 * f.version.toNat + 16384 * smode
  let addrs := bif ack then [] else
    leBytes 2 f.pan.toNat ++ (match dst with | some d => leBytes 8 d | none => leBytes 2 f.dst.toNat) ++
      (match f.ext with | some e => leBytes 8 e.toNat | none => leBytes 2 f.src.toNat)
  let aux := bif Nat.beq f.level.toNat 0 then [] else [BitVec.ofNat 8 (f.level.toNat + 8)] ++ leBytes 4 f.counter.toNat ++ [f.keyIdx]
  leBytes 2 fc ++ [f.seq] ++ addrs ++ aux ++ ies

/-- The part of a frame that levels 5 to 7 encrypt: payload IEs, their termination, and the payload. -/
def macBody (f : AirFrame) : List Byte :=
  let ies := payloadIes f
  ies ++ (bif ies.isEmpty || f.payload.isEmpty then [] else payloadIe 0xF []) ++ f.payload

/-- One octet into a reflected CRC. -/
def crcStep (poly v b : Nat) : Nat := iter (fun c => bif c.testBit 0 then Nat.xor (c / 2) poly else c / 2) 8 (Nat.xor v b)

/-- The FCS of a frame in 2 or 4 octets. -/
def fcsOf (n : Nat) (l : List Byte) : List Byte :=
  bif Nat.beq n 2 then leBytes 2 (l.foldl (fun v b => crcStep 0x8408 v b.toNat) 0)
  else leBytes 4 (Nat.xor 0xFFFFFFFF ((l ++ zeros (4 - l.length)).foldl (fun v b => crcStep 0xEDB88320 v b.toNat) 0xFFFFFFFF))

/-- The PSDU of a frame that this node sends from the extended address `ext` under a key, with an FCS of `fcs` octets. Level 1 authenticates the
whole frame; levels 5 to 7 authenticate the header and encrypt the rest. -/
def psduOctets (f : AirFrame) (dst : Option Nat) (ext : Nat) (key : List Byte) (fcs : Nat) : List Byte :=
  let h := macHeader f dst
  let l := f.level.toNat
  let whole := bif Nat.beq l 0 then h ++ macBody f
    else
      let nonce := linkNonce ext f.counter.toNat l
      bif Nat.ble 5 l then h ++ ccmStar key nonce h (macBody f) (micLen l) else h ++ macBody f ++ ccmStar key nonce (h ++ macBody f) [] (micLen l)
  whole ++ fcsOf fcs whole

end Sys2Proof.Machine
end

