-- ==== Sys2Proof/Machine/Basalt.lean ====
section
/-!
DEFINITION. The Basalt link's octets: the frame of R357, the payloads of HELLO and HEARTBEAT (R358), and the AES key wrap of link keys
(R356, RFC 3394).
-/

namespace Sys2Proof.Machine

open Sys2Proof

/-- CRC-32 of IEEE 802.3. -/
def crc32 (l : List Byte) : Nat := Nat.xor 0xFFFFFFFF (l.foldl (fun v b => crcStep 0xEDB88320 v b.toNat) 0xFFFFFFFF)

/-- A frame from TYPE to CRC (R357). -/
def basaltFrame (type seq ack : Nat) (payload : List Byte) : List Byte :=
  let b := leBytes 1 type ++ leBytes 2 seq ++ leBytes 2 ack ++ leBytes 2 payload.length ++ payload
  b ++ leBytes 4 (crc32 b)

/-- The octets from TYPE on are a frame: a LEN of at most 1,024 that fits, and a CRC that holds. -/
def basaltGood (l : List Byte) : Bool :=
  let n := ofLe (slice l 5 2)
  Nat.ble 11 l.length && Nat.ble n 1024 && Nat.beq l.length (n + 11) && Nat.beq (ofLe (l.drop (n + 7))) (crc32 (l.take (n + 7)))

/-- A HELLO's payload in the order of R358; the octets that each field takes are the model's (log entry 97). -/
def helloOctets (h : Hello) : List Byte :=
  let flag (b : Bool) : List Byte := leBytes 1 (bif b then 1 else 0)
  flag h.primary ++ flag h.prefer ++ leBytes 8 h.ext.toNat ++ leBytes 8 h.netaddr.toNat ++ leBytes 5 h.asn.toNat ++ flag h.takeover ++
    leBytes 4 h.config.toNat ++ leBytes 8 h.check.toNat

/-- A HEARTBEAT's payload (R358). -/
def beatOctets (h : Heartbeat) : List Byte :=
  leBytes 5 h.asn.toNat ++ leBytes 2 h.slotUs.toNat ++ leBytes 1 h.timing.toNat ++ leBytes 1 h.role.toNat ++ leBytes 1 h.sees.toNat ++
    leBytes 2 h.lastSeq.toNat ++ leBytes 2 h.resv.toNat

/-! ### Key wrap (R356) -/

/-- One step of the wrap on (A, R1, R2): step `k` of twelve works on R1 and R2 in turn. -/
def wrapStep (kek : List Byte) (x : List Byte × List Byte × List Byte) (k : Nat) : List Byte × List Byte × List Byte :=
  let one := Nat.beq (k % 2) 1
  let b := aesEncrypt kek false (x.1 ++ bif one then x.2.1 else x.2.2)
  let a := xorBytes (b.take 8) (beBytes 8 k)
  bif one then (a, b.drop 8, x.2.2) else (a, x.2.1, b.drop 8)

/-- A step undone. -/
def unwrapStep (kek : List Byte) (x : List Byte × List Byte × List Byte) (k : Nat) : List Byte × List Byte × List Byte :=
  let one := Nat.beq (k % 2) 1
  let b := aesDecrypt kek false (xorBytes x.1 (beBytes 8 k) ++ bif one then x.2.1 else x.2.2)
  bif one then (b.take 8, b.drop 8, x.2.2) else (b.take 8, x.2.1, b.drop 8)

/-- A 16-octet key wrapped under another. -/
def keyWrap (kek key : List Byte) : List Byte :=
  let x := (List.range 12).foldl (fun x k => wrapStep kek x (k + 1)) (List.replicate 8 0xA6#8, key.take 8, key.drop 8)
  x.1 ++ x.2.1 ++ x.2.2

/-- The key of a wrapped one; none where its integrity check fails. -/
def keyUnwrap (kek w : List Byte) : Option (List Byte) :=
  let x := (List.range 12).foldl (fun x k => unwrapStep kek x (12 - k)) (w.take 8, slice w 8 8, slice w 16 8)
  bif x.1 == List.replicate 8 0xA6#8 then some (x.2.1 ++ x.2.2) else none

/-- The pair key (R356). -/
def State.pairKey (s : State) : List Byte := match s.slotOf 0xFE with | some i => (s.key i).key | none => []

end Sys2Proof.Machine
end

