-- ==== Sys2Proof/Machine/MsgBase.lean ====
section
/-!
DEFINITION. E6's records: peers (R329-R332), the store-and-forward queue (R334, R335), returns and completions (R344-R346),
and the gate of a redundant pair before it acts on a record (R362, R364).
-/

namespace Sys2Proof.Machine

open Sys2Proof

/-! ### Peers -/

/-- The single broadcast window for the COORDINATOR (R349) is kept under this number. -/
abbrev BCPEER : Nat := 0x10000

def State.peer? (s : State) (short : Nat) : Option Peer := s.msg.peers.find? (fun p => Nat.beq p.short short)

def State.putPeer (s : State) (p : Peer) : State :=
  let l := s.msg.peers
  let p := { p with used := s.get R.SYS.OPSEC_SEC }
  let l := bif l.any (fun q => Nat.beq q.short p.short) then l.map (fun q => bif Nat.beq q.short p.short then p else q) else l ++ [p]
  ({ s with msg := { s.msg with peers := l } }).mirror (.peer p)

def freshPeer (short : Nat) : Peer :=
  { short := short, txSess := 0, nextId := 1, blockEnd := 0, cur := 0, prev := 0, high := 0, map := 0, used := 0 }

/-- Seconds without use after which a record may be evicted (R329). -/
def State.peerIdle (s : State) : Nat :=
  60 * (60 + ([0, 1, 2, 3].map (fun k => s.get (R.MSG.CLS_LIFE_MIN k))).foldl max 0)

/-- Room for a new peer record (R329): by table index on a COORDINATOR, else 256 records, of which a long idle one is
evicted. None when it cannot be had. -/
def State.peerRoom (s : State) : Option State :=
  bif s.isCoord || Nat.blt (s.msg.peers.filter (fun p => !Nat.beq p.short BCPEER)).length 256 then some s
  else match s.msg.peers.find? (fun p => !Nat.beq p.short BCPEER &&
      Nat.blt (p.used + s.peerIdle) (s.get R.SYS.OPSEC_SEC)) with
    | some p => some { s with msg := { s.msg with peers := s.msg.peers.filter (fun q => !Nat.beq q.short p.short) } }
    | none => none

/-- The record of a peer, made where it does not exist; none when no room can be had, and NOPEER counts it. -/
def State.needPeer (s : State) (short : Nat) : State × Option Peer :=
  match s.peer? short with
  | some p => (s, some p)
  | none => match s.peerRoom with
    | some s => (s, some (freshPeer short))
    | none => (s.bump R.MSG.CNT1_NOPEER, none)

/-- Two free bytes as a session, never 0 (R330). -/
def State.drawSession (s : State) : State × Nat := (s.spend 2, ofLe (s.freeBytes 2) % 0xFFFF + 1)

/-- The record's transmit side is opened: a session from the TRNG, IDs from 1 (R330). -/
def State.openTx (s : State) (p : Peer) : State × Peer :=
  bif Nat.beq p.txSess 0 then
    let d := s.drawSession
    (d.1, { p with txSess := d.2, nextId := 1, blockEnd := 0 })
  else (s, p)

/-- The end of an ID block and the session that it belongs to reach the message-queue partition (R332). -/
def State.keepBlock (s : State) (p : Peer) (e : Nat) : State :=
  { s with msg := { s.msg with blocks := s.msg.blocks.put p.short (e + 2 ^ 33 * p.txSess) } }

/-! ### The queue -/

def State.msg? (s : State) (num : Nat) : Option Msg := s.msg.queue.find? (fun m => Nat.beq m.num num)

def State.modMsg (s : State) (num : Nat) (f : Msg → Msg) : State :=
  { s with msg := { s.msg with queue := s.msg.queue.map (fun m => bif Nat.beq m.num num then f m else m) } }

/-- Messages in the queue, held completions apart. -/
def State.queued (s : State) : Nat := s.msg.queue.length

/-- Queue records in MiB, rounded up: the bodies, as the manual gives a record no length of its own. -/
def State.usedMib (s : State) : Nat :=
  ((s.msg.queue.map (fun m => m.body.length)).sum + 0xFFFFF) / 0x100000

/-- Frames of a message that are not on air leave the link queue and the sleepy children's buffer. -/
def State.withdraw (s : State) (num : Nat) : State :=
  { s with sched := { s.sched with queue := s.sched.queue.filter (fun f => !Nat.beq f.msg num || s.inFlight f.num) },
           mesh := { s.mesh with buffer := s.mesh.buffer.filter (fun f => !Nat.beq f.msg num) } }

/-- A descriptor: TXD0-TXD3 as fields. -/
structure Desc4 where
  dest  : Nat
  cls   : Nat
  kind  : Nat
  ptype : Nat
  addr  : Nat
  len   : Nat
  msgid : Nat

def Desc4.ofWords (w0 w1 w2 w3 : Nat) : Desc4 :=
  ⟨w0 % 2 ^ 16, w0 / 2 ^ 16 % 4, w0 / 2 ^ 18 % 8, w0 / 2 ^ 24 % 256, w1, w2 % 2 ^ 12, w3⟩

/-- A message as it is submitted. -/
def State.newMsg (s : State) (who tag dest cls kind ptype : Nat) (body : List Byte) (answers : Nat) : Msg :=
  { num := s.msg.nextNum, who := who, tag := tag, dest := dest, cls := cls, kind := kind, ptype := ptype, body := body,
    answers := answers, sess := 0, msgid := 0, born := s.get R.SYS.OPSEC_SEC, attempts := 0, phase := 0, parked := 0,
    left := [], nofit := 0, done := none }

/-- Completions that count as done (R345). -/
def doneOk (status : Nat) : Bool := Nat.beq status 0 || Nat.beq status 1 || Nat.beq status 7

/-- The counters of a completion. -/
def State.countDone (s : State) (status : Nat) : State :=
  bif doneOk status then s.bump R.MSG.CNT0_TX_DONE
  else bif Nat.beq status 2 || Nat.beq status 4 || Nat.beq status 5 then s.bump R.MSG.CNT2_FAILED
  else bif Nat.beq status 3 then s.bump R.MSG.CNT2_EXPIRED
  else bif Nat.beq status 6 then s.bump R.MSG.CNT2_EVICTED
  else s

/-- Remove a queue record. -/
def State.dropMsg (s : State) (num : Nat) : State :=
  { s with msg := { s.msg with queue := s.msg.queue.filter (fun m => !Nat.beq m.num num) } }

/-- Post a completion to its submitter (R345, R346): the DONE FIFO for the host, the mailbox for an engine. A full FIFO or
mailbox holds it in the queue record. E6's own messages (who = 13) post nothing. -/
def State.postDone (s : State) (m : Msg) (status : Nat) : State :=
  bif Nat.blt 12 m.who then s.dropMsg m.num
  else bif Nat.beq m.who 12 then
    bif Nat.blt s.msg.fifo.length 64 then
      let t := s.dropMsg m.num
      let d : Done := { msgid := m.msgid, status := status, cls := m.cls }
      ({ t with msg := { t.msg with fifo := t.msg.fifo ++ [d] } }).raise 0x48 0
    else s.modMsg m.num (fun m => { m with done := some status })
  else
    let r := s.deliverMail m.who (Mail.mk4 6 0x82 m.tag m.msgid (status + 16 * m.cls) 0 0)
    bif Nat.beq r.2 1 then s.modMsg m.num (fun m => { m with done := some status }) else r.1.dropMsg m.num

/-- Completions that were held are posted as room comes. -/
def State.postHeld (s : State) : State :=
  s.each (s.msg.queue.filter (fun m => m.done.isSome)) (fun m t => t.postDone m (m.done.getD 0))

/-- A gated record: sent, and acted on once its ACK has come (R362, R364). Without a partner it is acted on at once. -/
def State.gate (s : State) (o : Mirror) (x : Option Offer) (act : State → State) : State :=
  bif s.mirroring then
    let s := s.sendSeq (some o)
    { s with pair := { s.pair with gated := s.pair.gated ++ [⟨s.pair.txSeq, o, x⟩] } }
  else act s

/-- A message ends (R345): its unsent fragments are withdrawn, and its one completion follows. -/
def State.complete (s : State) (num status : Nat) : State :=
  match s.msg? num with
  | none => s
  | some m =>
    bif m.done.isSome then s
    else
      let s := (s.withdraw num).countDone status
      let s := s.modMsg num (fun m => { m with phase := 3, parked := 4, left := [] })
      s.gate (.completion num (BitVec.ofNat 4 status)) none (fun s => match s.msg? num with | some m => s.postDone m status | none => s)

/-- An attempt ends (R344): the last one with NO_ACK, else the next one follows. -/
def State.endAttempt (s : State) (num : Nat) : State :=
  match s.msg? num with
  | none => s
  | some m =>
    bif Nat.beq m.phase 1 then
      let s := s.withdraw num
      bif Nat.ble (s.get (R.MSG.CLS_ATTEMPTS m.cls)) m.attempts then s.complete num 2
      else s.modMsg num (fun m => { m with phase := 2, left := [] })
    else s

/-- A message is parked: it makes no attempts (R344). -/
def State.park (s : State) (num why : Nat) : State :=
  match s.msg? num with
  | none => s
  | some m =>
    bif m.done.isSome || Nat.beq m.parked 4 || Nat.beq m.phase 0 then s
    else (s.withdraw num).modMsg num (fun m => { m with phase := 3, parked := why, left := [] })

/-- Parked messages resume from a new cut: between attempts, so that the next attempt starts. -/
def State.unpark (s : State) (sel : Msg → Bool) : State :=
  { s with msg := { s.msg with queue := s.msg.queue.map (fun m =>
    bif Nat.beq m.phase 3 && !Nat.beq m.parked 4 && sel m then { m with phase := 2, parked := 0 } else m) } }

/-- A fragment comes back undelivered (R344): the attempt ends; a forwarded frame is discarded and counted. `noRoute` parks the
message. -/
def State.returned (s : State) (f : LinkFrame) (noRoute : Bool) : State :=
  bif Nat.beq f.msg 0 then bif Nat.beq f.frag 0 then (match f.kind with | .data => s.bump R.MSG.CNT2_FWD_LOST | _ => s) else s
  else bif noRoute then s.park f.msg 1 else s.endAttempt f.msg

/-- E5 or E7 submits a message: one more record of the queue, where it waits for its MSGID (R331, R334). -/
def State.submitMsg (s : State) (m : Msg) : State :=
  { s with msg := { s.msg with queue := s.msg.queue ++ [m], nextNum := s.msg.nextNum + 1 } }.mirror (.message m)

/-- A mesh command to a node (R323): a CONTROL message of PTYPE MESHCMD from E5. -/
def State.meshCommand (s : State) (dest : Nat) (code : Nat) (body : List Byte) : State :=
  s.submitMsg (s.newMsg 5 0 dest 1 0 0x01 (leBytes 1 code ++ body) 0)

end Sys2Proof.Machine
end

