-- ==== Sys2Proof/Machine/Mesh.lean ====
section
/-!
DEFINITION. E5's shared operations: the association and route table with its search unit (R309-R312), the neighbour table
(R296-R298), parents and rank (R315-R317), routing and the sleepy children's buffer (R318-R325), and admission (R304, R308).
-/

namespace Sys2Proof.Machine

open Sys2Proof

/-! ### Addresses -/

/-- The extended address in use: NETADDR of a pair (R355), else the module's own. -/
def State.ownExt (s : State) : Nat :=
  let net := s.get (R.PAIR.NETADDR_ADDR 0) + 2 ^ 32 * s.get (R.PAIR.NETADDR_ADDR 1)
  bif s.isCoord && Nat.beq s.ret.profile.pairEn 1 && !Nat.beq net 0 then net else Config.extAddr.toNat

def State.ownShort (s : State) : Nat := s.get R.MESH.ID0_SHORT
def State.ownPan (s : State) : Nat := s.get R.MESH.ID0_PAN

/-- A member of its network: a COORDINATOR, or a node that is JOINED (R302). -/
def State.joined (s : State) : Bool := s.isCoord || Nat.beq (s.get R.MESH.STAT_JOIN_ST) 4

/-! ### The table search unit (R310, R311) -/

def sipRound (v : BitVec 64 × BitVec 64 × BitVec 64 × BitVec 64) : BitVec 64 × BitVec 64 × BitVec 64 × BitVec 64 :=
  let v0 := v.1 + v.2.1
  let v1 := v.2.1.rotateLeft 13 ^^^ v0
  let v0 := v0.rotateLeft 32
  let v2 := v.2.2.1 + v.2.2.2
  let v3 := v.2.2.2.rotateLeft 16 ^^^ v2
  let v0 := v0 + v3
  let v3 := v3.rotateLeft 21 ^^^ v0
  let v2 := v2 + v1
  let v1 := v1.rotateLeft 17 ^^^ v2
  let v2 := v2.rotateLeft 32
  (v0, v1, v2, v3)

/-- SipHash-2-4 of one 8-octet word. -/
def sipHash (salt : BitVec 64 × BitVec 64) (m : BitVec 64) : BitVec 64 :=
  let v := (salt.1 ^^^ 0x736f6d6570736575#64, salt.2 ^^^ 0x646f72616e646f6d#64, salt.1 ^^^ 0x6c7967656e657261#64,
    salt.2 ^^^ 0x7465646279746573#64)
  let word (v : BitVec 64 × BitVec 64 × BitVec 64 × BitVec 64) (b : BitVec 64) :=
    let w := sipRound (sipRound (v.1, v.2.1, v.2.2.1, v.2.2.2 ^^^ b))
    (w.1 ^^^ b, w.2.1, w.2.2.1, w.2.2.2)
  let v := word v m
  let v := word v 0x0800000000000000#64
  let v := (v.1, v.2.1, v.2.2.1 ^^^ 0xFF#64, v.2.2.2)
  let v := sipRound (sipRound (sipRound (sipRound v)))
  v.1 ^^^ v.2.1 ^^^ v.2.2.1 ^^^ v.2.2.2

/-- The two buckets of an extended address. -/
def buckets (salt : BitVec 64 × BitVec 64) (ext : Nat) : Nat × Nat :=
  let h := (sipHash salt (BitVec.ofNat 64 ext)).toNat
  let h1 := h % 2 ^ 14
  let h2 := h / 2 ^ 14 % 2 ^ 14
  (h1, bif Nat.beq h1 h2 then h1 ^^^ 1 else h2)

/-- A free place of a bucket: 2 * bucket + slot. -/
def freePlace (ix : List (Nat × Nat)) (b : Nat) : Option Nat :=
  [2 * b, 2 * b + 1].find? (fun p => !ix.any (fun e => Nat.beq e.1 p))

def State.extAt (s : State) (i : Nat) : Nat :=
  match s.assoc.table.find? (fun e => Nat.beq e.idx i) with | some e => e.ext | none => 0

/-- Move residents to their alternative buckets until one finds a free place; none after `fuel` moves without one. Which of a
bucket's two residents moves is a free value. -/
def State.rehome (s : State) (salt : BitVec 64 × BitVec 64) : Nat → List (Nat × Nat) → Nat → Nat → Option (List (Nat × Nat))
  | 0, _, _, _ => none
  | fuel + 1, ix, b, i =>
    let p := 2 * b + (Config.freeByte (s.freeCount + fuel)).toNat % 2
    match ix.find? (fun e => Nat.beq e.1 p) with
    | none => some ((p, i) :: ix)
    | some old =>
      let ix := (p, i) :: ix.filter (fun e => !Nat.beq e.1 p)
      let h := buckets salt (s.extAt old.2)
      let b' := bif Nat.beq h.1 b then h.2 else h.1
      match freePlace ix b' with
      | some q => some ((q, old.2) :: ix)
      | none => s.rehome salt fuel ix b' old.2

/-- Insert entry `i` of extended address `ext` (R311); none, with nothing moved, when 64 moves find no place. -/
def State.indexInsert (s : State) (ix : List (Nat × Nat)) (ext i : Nat) : Option (List (Nat × Nat)) :=
  match s.assoc.salt with
  | none => none
  | some salt =>
    let h := buckets salt ext
    match freePlace ix h.1 with
    | some p => some ((p, i) :: ix)
    | none => match freePlace ix h.2 with
      | some p => some ((p, i) :: ix)
      | none => s.rehome salt 64 ix h.1 i

/-- The index of the whole table; entries that find no place are left out. -/
def State.rebuildIndex (s : State) : State :=
  let ix := (s.assoc.table.filter (fun e => !Nat.beq e.state 0)).foldl (fun ix e => (s.indexInsert ix e.ext e.idx).getD ix) []
  { s with assoc := { s.assoc with index := ix } }

/-- Lookup by extended address: both buckets are read (R310). -/
def State.lookupExt (s : State) (ext : Nat) : Option Assoc :=
  match s.assoc.salt with
  | none => none
  | some salt =>
    let h := buckets salt ext
    s.assoc.table.find? (fun e => !Nat.beq e.state 0 && Nat.beq e.ext ext &&
      s.assoc.index.any (fun x => Nat.beq x.2 e.idx && (Nat.beq (x.1 / 2) h.1 || Nat.beq (x.1 / 2) h.2)))

/-! ### The association and route table (R309, R312) -/

def State.assoc? (s : State) (i : Nat) : Option Assoc := s.assoc.table.find? (fun e => Nat.beq e.idx i)

/-- The entry of a short address, not FREE. -/
def State.assocOf (s : State) (short : Nat) : Option Assoc :=
  match s.assoc? (short - 1) with
  | some e => bif Nat.beq short 0 || Nat.beq e.state 0 then none else some e
  | none => none

/-- Entries naming a node as PARENT, by its short address. -/
def State.childCount (s : State) (short : Nat) : Nat :=
  (s.assoc.table.filter (fun e => Nat.beq e.state 3 && Nat.beq e.parent short)).length

/-- The 32 octets of an entry. -/
def State.assocBytes (s : State) (e : Assoc) : List Byte :=
  let flag (b : Bool) (n : Nat) : Nat := bif b then 2 ^ n else 0
  let flags := e.state + flag e.router 3 + flag e.sleepy 4 + flag e.ym1 5 + flag e.unreach 6 + flag e.stale 7 +
    flag (e.caps.testBit 2) 8 + flag (e.caps.testBit 3) 9
  let b := leBytes 8 e.ext ++ leBytes 2 (e.idx + 1) ++ leBytes 2 e.parent ++ leBytes 1 e.keyIdx ++ leBytes 1 e.hops ++
    leBytes 2 flags ++ leBytes 4 e.hwm ++ leBytes 4 e.seen ++ leBytes 2 e.pollS ++ leBytes 2 (s.childCount (e.idx + 1)) ++
    leBytes 2 e.joins ++ leBytes 1 e.caps
  b ++ [crc8 b]

/-- Entry `i` is written to bank 0. -/
def State.assocStore (s : State) (i : Nat) : State :=
  match s.assoc? i with
  | some e => s.sramStore (0x20000000 + 32 * i) (s.assocBytes e)
  | none => s

/-- An entry takes a new value: bank 0 shows it and both parents' counts, the snapshot notes it, a partner is told. -/
def State.putAssoc (s : State) (e : Assoc) : State :=
  let old := match s.assoc? e.idx with | some o => o.parent | none => 0
  let rest := s.assoc.table.filter (fun o => !Nat.beq o.idx e.idx)
  let table := rest.filter (fun (o : Assoc) => Nat.blt o.idx e.idx) ++ e :: rest.filter (fun (o : Assoc) => Nat.blt e.idx o.idx)
  let dirty := bif s.assoc.dirty.any (Nat.beq e.idx) then s.assoc.dirty else s.assoc.dirty ++ [e.idx]
  let s := { s with assoc := { s.assoc with table := table, dirty := dirty, live := true } }
  (((s.assocStore e.idx).assocStore (old - 1)).assocStore (e.parent - 1)).mirror (.assoc e)

/-- The COORDINATOR's entry of a neighbour follows its HWM (R282, R309). -/
def State.noteHwm (s : State) (ext key mark : Nat) : State :=
  bif !s.isCoord then s
  else match s.assoc.table.find? (fun e => !Nat.beq e.state 0 && Nat.beq e.ext ext) with
    | none => s
    | some e =>
      let table := s.assoc.table.map (fun (o : Assoc) => bif Nat.beq o.idx e.idx then { o with keyIdx := key, hwm := mark } else o)
      let dirty := bif s.assoc.dirty.any (Nat.beq e.idx) then s.assoc.dirty else s.assoc.dirty ++ [e.idx]
      ({ s with assoc := { s.assoc with table := table, dirty := dirty } }.assocStore e.idx).mirror (.assoc { e with keyIdx := key, hwm := mark })

/-- An entry as it is allocated. -/
def freshAssoc (i ext : Nat) : Assoc :=
  { idx := i, ext := ext, parent := 0, keyIdx := 0, hops := 1, state := 0, router := false, sleepy := false, ym1 := false,
    unreach := false, stale := false, hwm := 0, seen := 0, pollS := 0, joins := 0, caps := 0, relay := 0, wake := 0 }

/-- The index that a new entry takes (R312): the lowest never used or released a day ago, else the lowest FREE one. -/
def State.allocIndex (s : State) : Option Nat :=
  let now := s.get R.SYS.OPSEC_SEC
  let free (i : Nat) : Bool := match s.assoc? i with | some e => Nat.beq e.state 0 | none => true
  let old (i : Nat) : Bool := match s.assoc? i with | some e => Nat.beq e.state 0 && Nat.ble (e.seen + 86400) now | none => true
  match (List.range (s.assoc.table.length + 1)).find? (fun i => old i && Nat.blt i 16384) with
  | some i => some i
  | none => (List.range 16384).find? free

/-- Entries not FREE, and PENDING ones. -/
def State.assocUsed (s : State) : Nat := (s.assoc.table.filter (fun e => !Nat.beq e.state 0)).length
def State.assocPend (s : State) : Nat := (s.assoc.table.filter (fun e => Nat.beq e.state 2)).length

/-- Allocate an entry for an extended address; none when no index can be allocated or inserted, and HASHFAIL counts the
latter. -/
def State.allocate (s : State) (ext : Nat) : State × Option Assoc :=
  match s.allocIndex with
  | none => (s, none)
  | some i =>
    let e := freshAssoc i ext
    let t := { s with assoc := { s.assoc with table := s.assoc.table.filter (fun (o : Assoc) => !Nat.beq o.idx i) ++ [e] } }
    match t.indexInsert s.assoc.index ext i with
    | some ix => ({ s with assoc := { s.assoc with index := ix } }.spend 64, some e)
    | none => ((s.bump R.ASSOC.CNT0_HASHFAIL).spend 64, none)

/-- Release an entry: FREE, its place in the index gone, and E6's record of the index cleared (R329). -/
def State.releaseAssoc (s : State) (e : Assoc) : State :=
  let gone (k : Nat) : Bool := Nat.beq k (e.idx + 1)
  let msg := { s.msg with
    peers := s.msg.peers.filter (fun p => !gone p.short),
    blocks := s.msg.blocks.filter (fun b => !gone b.1),
    takes := s.msg.takes.filter (fun t => !gone t.1) }
  let s := { s with assoc := { s.assoc with index := s.assoc.index.filter (fun x => !Nat.beq x.2 e.idx) }, msg := msg }
  s.putAssoc { e with state := 0, seen := s.get R.SYS.OPSEC_SEC, unreach := false, stale := false }

/-! ### The neighbour table (R296-R298) -/

/-- Members of the parent set, children and the time source are PINNED (R297). -/
def State.pinned (s : State) (n : Nbr) : Bool :=
  s.mesh.pset.any (Nat.beq n.idx) || n.child || s.source == some n.idx

/-- The archive keeps an evicted neighbour's HWMs; a COORDINATOR's table entry does (R298). -/
def State.archiveHwm (s : State) (n : Nbr) : State :=
  bif s.isCoord then
    match s.lookupExt n.ext, n.hwm with
    | some e, (k, v) :: _ => s.putAssoc { e with keyIdx := k, hwm := v }
    | _, _ => s
  else
    let old := s.mesh.archive.filter (fun r => !(Nat.beq r.1 n.ext))
    { s with mesh := { s.mesh with archive := ((n.hwm.map (fun kv => (n.ext, kv.1, kv.2))) ++ old).take 4096 } }

/-- The HWMs that a returning neighbour takes back. -/
def State.archivedHwm (s : State) (ext : Nat) : List (Nat × Nat) :=
  bif s.isCoord then
    match s.lookupExt ext with
    | some e => bif Nat.beq e.keyIdx 0 then [] else [(e.keyIdx, e.hwm)]
    | none => []
  else ((s.mesh.archive.filter (fun r => Nat.beq r.1 ext)).map (fun r => (r.2.1, r.2.2))).take 2

/-- The entry to evict: LOST, then NONE, UNSYNC, SYNC; within a state the oldest contact. -/
def State.victim (s : State) : Option Nbr :=
  [3, 0, 2, 1].findSome? (fun st =>
    let l := s.sched.nbrs.filter (fun n => Nat.beq n.sync st && !s.pinned n)
    l.foldl (fun acc n => match acc with
      | none => some n
      | some a => bif Nat.blt (s.age a) (s.age n) then some n else some a) none)

/-- A place for a new neighbour; none when every entry is PINNED, and NBR_FULL counts it. -/
def State.nbrPlace (s : State) : State × Option Nat :=
  match (List.range 256).find? (fun i => (s.nbr? i).isNone) with
  | some i => (s, some i)
  | none => match s.victim with
    | some v =>
      let s := s.archiveHwm v
      ({ s with sched := { s.sched with nbrs := s.sched.nbrs.filter (fun n => !Nat.beq n.idx v.idx) } }, some v.idx)
    | none => (s.bump R.MESH.CNT2_NBR_FULL, none)

/-- The entry of an extended address, made where there is none. -/
def State.needNbr (s : State) (ext : Nat) : State × Option Nbr :=
  match s.nbrByExt ext with
  | some n => (s, some n)
  | none =>
    let r := s.nbrPlace
    match r.2 with
    | none => (r.1, none)
    | some i =>
      let n := { freshNbr i with ext := ext, pan := s.ownPan, hwm := s.archivedHwm ext, be := s.now R.LINK.CFG_MINBE }
      (r.1.setNbr n, some n)

/-! ### Parents and rank (R315-R317) -/

/-- The link cost L_n (R315). -/
def State.linkCost (s : State) (n : Nbr) : Nat :=
  let p := (media3.map (fun m => bif s.inService m then nbrEst n m else 0)).foldl max 0
  65280 / max p 1

def State.pathCost (s : State) (n : Nbr) : Nat := n.rank + s.linkCost n

/-- May be a member of the parent set (R316). Entry 255 may not: SOURCE codes 0xFF as none (log entry 85). -/
def State.parentOk (s : State) (n : Nbr) : Bool :=
  n.verified && Nat.beq n.sync 1 && Nat.beq n.pan s.ownPan && Nat.ble 1 n.role && !Nat.beq n.idx 255 && Nat.ble n.hops 15 && Nat.blt n.rank (s.get R.MESH.ID1_RANK)

/-- Insert into a list ordered by cost, then lower short address. -/
def insertByCost (cost : Nbr → Nat) (n : Nbr) : List Nbr → List Nbr
  | [] => [n]
  | m :: rest =>
    bif Nat.blt (cost n) (cost m) || (Nat.beq (cost n) (cost m) && Nat.blt n.short m.short) then n :: m :: rest
    else m :: insertByCost cost n rest

/-- The candidates in order, at most four. -/
def State.candidates (s : State) : List Nbr :=
  ((s.sched.nbrs.filter s.parentOk).foldl (fun l n => insertByCost s.pathCost n l) []).take 4

/-- Rank and hop count from the preferred parent. -/
def State.showRank (s : State) : State :=
  bif s.isCoord then s.setAll [(R.MESH.ID1_RANK, 0), (R.MESH.ID1_HOPS, 0)]
  else match s.mesh.pset with
    | [] => s
    | i :: _ => match s.nbr? i with
      | some n => s.setAll [(R.MESH.ID1_RANK, min 0xFFFF (s.pathCost n)), (R.MESH.ID1_HOPS, n.hops + 1)]
      | none => s

/-- An empty parent set makes a JOINED node ORPHAN (R302): it scans, and E6 parks its messages (R344). -/
def State.orphan (s : State) : State :=
  bif Nat.beq (s.get R.MESH.STAT_JOIN_ST) 4 && !s.isCoord then
    let s := (({ s with mesh := { s.mesh with scanning := true, results := [] } }).set R.MESH.STAT_JOIN_ST 6).raise 0x44 4
    s.each s.msg.queue (fun m t => t.park m.num 2)
  else s

/-- The preferred parent changes (R317): queued frames move, PARENT_UPDATE is sent, the time source follows. -/
def State.changeParent (s : State) (old : Option Nat) (n : Nbr) : State :=
  let moved (f : LinkFrame) : LinkFrame :=
    bif old == some f.dest && !s.inFlight f.num then { f with dest := n.idx, seq := none, tries := 0 } else f
  let s := { s with sched := { s.sched with queue := s.sched.queue.map moved } }
  let s := ((s.set R.SCHED.STAT_SOURCE n.idx).bump R.MESH.CNT1_PCHG).raise 0x44 3
  s.meshCommand 0 0x03 (leBytes 2 n.short ++ leBytes 1 (n.hops + 1))

/-- E5 evaluates its parent set (R316, R317). -/
def State.evalParents (s : State) : State :=
  bif s.isCoord || !Nat.beq (s.get R.MESH.STAT_JOIN_ST) 4 then s
  else
    let l := s.candidates
    let old := s.mesh.pset.head?
    let stays : Option Nbr := match old with
      | none => none
      | some i => match l.find? (fun n => Nat.beq n.idx i), l with
        | some o, b :: _ => bif Nat.ble (s.pathCost b + s.now R.MESH.CFG_HYST) (s.pathCost o) then none else some o
        | _, _ => none
    let l := match stays with | some o => o :: l.filter (fun (n : Nbr) => !Nat.beq n.idx o.idx) | none => l
    let t := { s with mesh := { s.mesh with pset := l.map (fun (n : Nbr) => n.idx) } }
    match l with
    | [] => t.orphan
    | n :: _ => (bif old == some n.idx then t else t.changeParent old n).showRank

/-! ### Routing (R318-R322) -/

/-- The nodes from `f` up to the COORDINATOR, last one first; none when the walk fails (R320). -/
def State.walkUp (s : State) : Nat → Nat → List Nat → Option (List Nat)
  | 0, _, _ => none
  | fuel + 1, f, acc =>
    match s.assocOf f with
    | none => none
    | some e =>
      bif !Nat.beq e.state 3 then none
      else bif Nat.beq e.parent 0 then some (f :: acc)
      else s.walkUp fuel e.parent (f :: acc)

/-- The route to a node: the first hop's neighbour, and the intermediate nodes, first hop first. -/
def State.routeTo (s : State) (final : Nat) : Option (Nbr × List Nat) :=
  match s.walkUp 16 final [] with
  | none => none
  | some path => match path with
    | [] => none
    | h :: _ => match s.nbrByShort h with
      | some n => bif Nat.beq n.sync 1 then some (n, path.take (path.length - 1)) else none
      | none => none

/-- The frames of the buffer that belong to a child. -/
def State.buffered (s : State) (nbr : Nat) : List LinkFrame := s.mesh.buffer.filter (fun f => Nat.beq f.dest nbr)

/-- A child that is SLEEPY in its last sync IE or declared so at association (R325). -/
def sleepyChild (n : Nbr) : Bool := n.child && (n.sleepy || n.decl)

/-- The frames that hold a slot of the buffer: those in it, and those that are released to the link queue and not yet delivered (R325). -/
def State.held (s : State) : List LinkFrame :=
  s.mesh.buffer ++ s.sched.queue.filter (fun f => match s.nbr? f.dest with | some n => sleepyChild n && decide (f.kind = .data) | none => false)

/-- A child's response period (R270, R324): in it, what the buffer holds for the child stands in the link queue; after it, what has not gone
returns to the buffer. -/
def State.childWindow (s : State) (n : Nbr) : State :=
  bif !sleepyChild n then s
  else bif Nat.blt s.sched.asn n.respTo then
    let l := s.buffered n.idx
    { s with mesh := { s.mesh with buffer := s.mesh.buffer.filter (fun f => !Nat.beq f.dest n.idx) },
             sched := { s.sched with queue := s.sched.queue ++ l } }
  else
    let back (f : LinkFrame) : Bool := Nat.beq f.dest n.idx && decide (f.kind = .data) && !s.inFlight f.num
    { s with mesh := { s.mesh with buffer := s.sched.queue.filter back ++ s.mesh.buffer },
             sched := { s.sched with queue := s.sched.queue.filter (fun f => !back f) } }

/-- A frame enters the sleepy-child buffer (R325): into a full share or buffer by replacing that child's oldest frame of a lower
class. The frame that does not stay is answered. -/
def State.bufferFrame (s : State) (f : LinkFrame) : State × Option LinkFrame :=
  let f := { f with num := s.sched.nextNum }
  let s := { s with sched := { s.sched with nextNum := s.sched.nextNum + 1 } }
  let full := Nat.ble (s.now R.MESH.BUFCFG_PERCHILD) (s.held.filter (fun g => Nat.beq g.dest f.dest)).length || Nat.ble 1024 s.held.length
  bif !full then ({ s with mesh := { s.mesh with buffer := s.mesh.buffer ++ [f] } }, none)
  else
    let s := (s.bump R.MESH.CNT2_BUF_FULL).raise 0x44 5
    match (s.buffered f.dest).find? (fun g => Nat.blt f.cls g.cls) with
    | some g => ({ s with mesh := { s.mesh with buffer := s.mesh.buffer.filter (fun h => !Nat.beq h.num g.num) ++ [f] } }, some g)
    | none => (s, some f)

/-- A frame for a neighbour: into the buffer for a sleepy child, and for an UNSYNC one only if it is ALARM (R271); else into the
link queue. -/
def State.sendTo (s : State) (n : Nbr) (f : LinkFrame) : State :=
  let f := { f with dest := n.idx }
  bif sleepyChild n then
    bif Nat.beq n.sync 2 && !Nat.beq f.cls 0 then s.returned f false
    else
      let r := s.bufferFrame f
      match r.2 with | some g => r.1.returned g false | none => r.1
  else s.enqueue f

/-- The preferred parent. -/
def State.parent (s : State) : Option Nbr := match s.mesh.pset with | i :: _ => s.nbr? i | [] => none

/-- A mesh IE. -/
def meshIe (origin final hops : Nat) (sr bc : Bool) (idx : Nat) (route : List Nat) : MeshIe :=
  { origin := BitVec.ofNat 16 origin, final := BitVec.ofNat 16 final, hops := BitVec.ofNat 5 hops, sr := sr, bc := bc,
    idx := BitVec.ofNat 8 idx, route := route.map (BitVec.ofNat 16) }

/-- This node originates a data frame to FINAL (R319, R320, R322). The flag says that it found a way. -/
def State.originate (s : State) (final cls : Nat) (payload : List Byte) (msg frag : Nat) : State × Bool :=
  let f := { LinkFrame.blank with cls := cls, payload := payload, msg := msg, frag := frag }
  let own := s.ownShort
  bif Nat.beq final 0xFFFF then
    bif s.isCoord then
      let b := s.mesh.bseq
      let s := { s with mesh := { s.mesh with bseq := (b + 1) % 256, bcasts := ((own, b) :: s.mesh.bcasts).take 32 } }
      (s.enqueue { f with mesh := some (meshIe own 0xFFFF 16 false true b []) }, true)
    else (s.enqueue { f with mesh := some (meshIe own 0xFFFF 1 false false 0 []) }, true)
  else bif s.isCoord then
    match s.routeTo final with
    | none => (s.bump R.ASSOC.CNT1_NOROUTE, false)
    | some (n, route) =>
      let s := match s.assocOf final with | some e => s.putAssoc { e with hops := route.length + 1 } | none => s
      (s.sendTo n { f with mesh := some (meshIe own final 16 true false 0 route) }, true)
  else match s.parent with
    | some n => (s.sendTo n { f with mesh := some (meshIe own final 16 false false 0 []) }, true)
    | none => (s, false)

/-- The media in service as a mask. -/
def State.mediaMask (s : State) : Nat := (media3.map (fun m => bif s.inService m then 2 ^ medIdx m else 0)).sum

/-- ADMIT (R299): a ROUTER with room and a parent; a COORDINATOR whose ASSOC page is ENABLED, with room and few PENDING, not
restoring (R313). -/
def State.admits (s : State) : Bool :=
  let kids := (s.sched.nbrs.filter (fun n => n.child)).length
  let room := Nat.blt kids (s.now R.MESH.CFG_MAXCHILD)
  bif s.isCoord then
    s.enabled 0x45 && Nat.blt s.assocUsed 16384 && Nat.blt s.assocPend (s.get R.ASSOC.CFG_MAXPEND) &&
      !s.bit R.ASSOC.STAT_RESTORING
  else Nat.beq s.role 2 && room && !s.mesh.pset.isEmpty

/-- The join IE of a beacon (R299). -/
def State.beaconIe (s : State) : List Byte :=
  let sf := s.now R.MESH.CFG_JOINSF
  let kids := (s.sched.nbrs.filter (fun n => n.child)).length
  let pair := bif s.isCoord then Nat.beq s.ret.profile.pairEn 1 && s.supply.pairPresLow else s.mesh.pair
  let flags := (bif s.admits then 1 else 0) + (bif s.isCoord then 2 else 0) + (bif pair then 4 else 0)
  [0x01] ++ leBytes 1 flags ++ leBytes 2 s.ownShort ++ leBytes 2 (s.get R.MESH.ID1_RANK) ++
    leBytes 1 (s.get R.MESH.ID1_HOPS) ++ leBytes 1 (s.now R.MESH.CFG_MAXCHILD - kids) ++ leBytes 1 s.mediaMask ++
    leBytes 4 (s.get R.MICA.ID0_ID) ++ leBytes 1 sf ++ leBytes 2 (s.get (R.SCHED.SF_LEN sf)) ++
    leBytes 1 (s.now R.MESH.CFG_JCHOFF) ++ leBytes 8 (bif s.isCoord then s.ownExt else s.mesh.root)

/-- An enhanced beacon (R262, R299). -/
def State.beacon (s : State) : LinkFrame := { LinkFrame.blank with kind := .beacon, join := s.beaconIe }

/-! ### Cells (R254) -/

/-- A cell joins the table at the lowest free index; none when 2,048 are held. -/
def State.addCell (s : State) (c : Cell) : State × Option Nat :=
  match (List.range 2048).find? (fun i => !s.sched.cells.any (fun d => Nat.beq d.idx i)) with
  | none => (s, none)
  | some i =>
    let c := { c with idx := i, state := 0, migrated := false }
    (({ s with sched := { s.sched with cells := s.sched.cells ++ [c] } }).mirror (.cell c), some i)

/-- The two cells of a join (R304): as the joiner's or, mirrored, as the parent's. -/
def State.joinCells (s : State) (sf short nbr up down : Nat) (parent ym1 : Bool) : State :=
  let c (slot type : Nat) : Cell :=
    { idx := 0, sf := sf, slot := slot, choff := short % 256, len := 1, type := type, nbr := nbr, txoff := 1000, profA := 0,
      profB := 0, media := bif ym1 then 1 else 7, outage := true, migrated := false, state := 0 }
  ((s.addCell (c up (bif parent then 2 else 1))).1.addCell (c down (bif parent then 1 else 2))).1

/-- The two lowest slots of the join slotframe, other than slot 0, that hold none of this node's cells. -/
def State.freeSlots (s : State) (sf : Nat) : List Nat :=
  ((List.range (s.get (R.SCHED.SF_LEN sf))).filter (fun k => !Nat.beq k 0 &&
    !s.sched.cells.any (fun c => Nat.beq c.sf sf && Nat.ble c.slot k && Nat.blt k (c.slot + c.len)))).take 2

/-! ### Admission (R304, R307, R308) -/

/-- The Association Response of a parent to a joiner: status, and on success the key and the cells. -/
def State.respond (s : State) (ext status short wake pollS : Nat) (sleepy router ym1 : Bool) : State :=
  let plain (st sh : Nat) : LinkFrame :=
    { LinkFrame.blank with dest := 301, ext := ext, kind := .command 0x02, joinKey := true,
                           payload := [0x02] ++ leBytes 2 sh ++ leBytes 1 st }
  bif !Nat.beq status 0 then s.enqueue (plain status 0xFFFF)
  else
    let sf := s.now R.MESH.CFG_JOINSF
    match s.freeSlots sf with
    | [up, down] =>
      let kids := s.sched.nbrs.filter (fun n => n.child && !Nat.beq n.ext ext)
      bif s.isCoord && Nat.ble (s.now R.MESH.CFG_MAXCHILD) kids.length then s.enqueue (plain 1 0xFFFF) else
      let r := s.needNbr ext
      match r.2 with
      | none => r.1.enqueue (plain 1 0xFFFF)
      | some n =>
        let n := { n with short := short, child := true, decl := sleepy, role := bif router then 1 else 0, ym1 := ym1,
                          wake := wake, pollS := pollS, polled := s.get R.SYS.OPSEC_SEC }
        let s := (r.1.setNbr n).joinCells sf short n.idx up down true ym1
        let k := s.key (s.get R.LINKSEC.TXKEY_NET)
        s.enqueue { plain 0 short with join := [0x03] ++ leBytes 1 k.idx ++ k.key ++ leBytes 2 up ++ leBytes 2 down }
    | _ => s.enqueue (plain 1 0xFFFF)

/-- The COORDINATOR answers a joiner: itself to a direct request, else by JOIN_ANSWER to the ROUTER that relayed (R307). -/
def State.answerJoin (s : State) (e : Assoc) (relay status : Nat) : State :=
  bif Nat.beq relay 0 then
    s.respond e.ext status (bif Nat.beq status 0 then e.idx + 1 else 0xFFFF) e.wake e.pollS e.sleepy e.router e.ym1
  else s.meshCommand relay 0x02 (leBytes 8 e.ext ++ leBytes 1 status ++
    leBytes 2 (bif Nat.beq status 0 then e.idx + 1 else 0xFFFF))

/-- An entry is admitted: JOINED under the relaying ROUTER, and answered with success. -/
def State.admitEntry (s : State) (e : Assoc) (relay : Nat) (rejoin : Bool) : State :=
  let e := { e with state := 3, parent := relay, seen := s.get R.SYS.OPSEC_SEC, joins := min 0xFFFF (e.joins + 1), stale := false }
  let s := s.putAssoc e
  let s := bif rejoin then s.bump R.ASSOC.CNT1_REJOIN else (s.bump R.ASSOC.CNT0_ADMIT).raise 0x45 1
  s.answerJoin e relay 0

/-- A join request judged against the table (R308). `relay` is the relaying ROUTER, 0 for a direct request. -/
def State.joinRequest (s : State) (ext caps pollS wake relay : Nat) (ym1 : Bool) : State :=
  let fill (e : Assoc) : Assoc :=
    { e with router := caps.testBit 0 && !ym1, sleepy := caps.testBit 1, caps := caps, pollS := pollS, wake := wake, ym1 := ym1 }
  let none_ := fill (freshAssoc 0 ext)
  match s.lookupExt ext with
  | some e =>
    bif Nat.beq e.state 1 then s.admitEntry (fill e) relay false
    else bif Nat.beq e.state 2 then s.putAssoc { fill e with relay := relay }
    else s.admitEntry (fill e) relay true
  | none =>
    bif Nat.ble (s.get R.ASSOC.CFG_MAXPEND) s.assocPend then (s.bump R.ASSOC.CNT0_DENY).answerJoin none_ relay 1
    else bif !s.bit R.ASSOC.CFG_ASK then (s.bump R.ASSOC.CNT0_DENY).answerJoin none_ relay 2
    else
      let r := s.allocate ext
      match r.2 with
      | none => (r.1.raise 0x45 2).answerJoin none_ relay 1
      | some e => (r.1.putAssoc { fill e with state := 2, relay := relay, seen := s.get R.SYS.OPSEC_SEC }).raise 0x45 0

/-- A PENDING entry is refused (R308). -/
def State.denyEntry (s : State) (e : Assoc) : State := (s.releaseAssoc e).answerJoin e e.relay 2

/-- A neighbour becomes LOST (R269, R321, R326): frames queued to it are dropped with ROUTE_ERR, a child's kept frames return, a
member of the parent set makes E5 choose at once. -/
def State.markLost (s : State) (i : Nat) : State :=
  match s.nbr? i with
  | none => s
  | some n =>
    let s := s.setNbr { n with sync := 3 }
    let s := (s.bump R.SCHED.CNT_LOST).raise 0x40 4
    let s := { s with sched := { s.sched with resyncs := s.sched.resyncs.filter (fun r => !Nat.beq r.nbr i) } }
    let gone := s.sched.queue.filter (fun f => Nat.beq f.dest i)
    let s := s.each gone (fun f t => (t.dropFrame f.num).returned f false)
    let s := bif Nat.beq s.role 2 && !gone.isEmpty then
        s.meshCommand 0 0x05 (leBytes 2 n.short ++ leBytes 2 (match gone with
          | f :: _ => (match f.mesh with | some m => m.final.toNat | none => 0xFFFF) | [] => 0xFFFF))
      else s
    let kept := s.buffered i
    let s := { s with mesh := { s.mesh with buffer := s.mesh.buffer.filter (fun f => !Nat.beq f.dest i) } }
    let s := s.each kept (fun f t => (t.bump R.MESH.CNT2_BUF_EXPIRE).returned f false)
    bif s.mesh.pset.any (Nat.beq i) then s.evalParents else s

/-- A neighbour becomes UNSYNC (R267, R269): its windows widen for up to two slotframes of SF0; of a sleepy child's frames only
the ALARM ones are kept (R271). -/
def State.markUnsync (s : State) (i : Nat) : State :=
  match s.nbr? i with
  | none => s
  | some n =>
    bif Nat.beq n.sync 2 || Nat.beq n.sync 3 then s
    else
      let s := ((s.setNbr { n with sync := 2 }).bump R.SCHED.CNT_UNSYNC).raise 0x40 3
      let until_ := s.sched.asn + 2 * s.get (R.SCHED.SF_LEN 0)
      let s := { s with sched := { s.sched with resyncs := s.sched.resyncs ++ [⟨i, until_, false⟩] } }
      bif sleepyChild n then
        let back := (s.buffered i).filter (fun f => !Nat.beq f.cls 0)
        let s := { s with mesh := { s.mesh with
          buffer := s.mesh.buffer.filter (fun f => !(Nat.beq f.dest i && !Nat.beq f.cls 0)) } }
        s.each back (fun f t => t.returned f false)
      else s

/-- An expected reception did not come (R267). -/
def State.missed (s : State) (i : Nat) : State :=
  match s.nbr? i with
  | none => s
  | some n =>
    let s := s.setNbr { n with miss := min 3 (n.miss + 1) }
    bif Nat.ble 2 n.miss then s.markUnsync i else s

end Sys2Proof.Machine
end

