-- ==== Sys2Proof/Machine/Msg.lean ====
section
/-!
DEFINITION. E6: attempts and fragments (R338-R344), admission (R331, R332), reception, offers and takes (R340-R342, R347-R349), and
the commands of the MSG page and of E6's mailbox (R334-R353).
-/

namespace Sys2Proof.Machine

open Sys2Proof

/-! ### Attempts (R338, R344) -/

/-- Octets 0-11 of a fragment (R327). -/
def fragHeader (m : Msg) (off : Nat) : List Byte :=
  leBytes 1 (m.kind + 8 * m.cls) ++ leBytes 2 m.sess ++ leBytes 4 (bif Nat.beq m.kind 2 then m.answers else m.msgid) ++
    leBytes 1 m.ptype ++ leBytes 2 off ++ leBytes 2 m.body.length

/-- The next hop to FINAL and the route its mesh IE carries. -/
def State.nextHop (s : State) (final : Nat) : Option (Nbr × List Nat) :=
  bif s.isCoord then s.routeTo final else match s.parent with | some n => some (n, []) | none => none

/-- A body of `b` octets fits a TX or SHARED cell to the next hop on some medium in service. -/
def State.bodyFits (s : State) (n : Nbr) (route : List Nat) (b : Nat) : Bool :=
  let f := { LinkFrame.blank with dest := n.idx, payload := zeros (12 + b),
                                  mesh := some (meshIe 0 0 16 false false 0 route) }
  s.sched.cells.any (fun c => Nat.beq c.nbr n.idx && (Nat.beq c.type 1 || Nat.beq c.type 3) &&
    media3.any (fun m => s.inService m && s.fits m c f))

/-- The data length B of a cut (R338). -/
def State.cutLen (s : State) (final : Nat) : Nat :=
  match s.nextHop final with
  | none => s.get R.MSG.CFG_FRAGBODY
  | some (n, route) =>
    let e := s.assocOf final
    let sleepy := sleepyChild n || (match e with | some e => e.sleepy | none => false)
    let ym1 := n.ym1 || (match e with | some e => e.ym1 | none => false)
    let lim := s.get R.MSG.CFG_FRAGBODY
    let lim := bif sleepy then min lim 160 else lim
    let lim := bif ym1 then min lim 80 else lim
    match (List.range lim).reverse.find? (fun i => s.bodyFits n route (i + 1)) with
    | some i => i + 1
    | none => lim

/-- Positions of a body of `total` octets cut at `b`. -/
def cutAt (total b : Nat) : List Nat := (List.range (max 1 ((total + b - 1) / max b 1))).map (· * b)

/-- Fragments go to the link, one after another, until one finds no way. -/
def State.sendFrags (s : State) (m : Msg) (b : Nat) : List Nat → State × Bool
  | [] => (s, true)
  | o :: rest =>
    let r := s.originate m.dest m.cls (fragHeader m o ++ slice m.body o (min b (m.body.length - o))) m.num o
    bif r.2 then r.1.sendFrags m b rest else (r.1, false)

/-- Cut a message and send its fragments (R338, R339). -/
def State.cut (s : State) (num : Nat) : State :=
  match s.msg? num with
  | none => s
  | some m =>
    let b := bif Nat.beq m.kind 4 then 2048 else s.cutLen m.dest
    let offs := cutAt m.body.length b
    let s := s.modMsg num (fun m => { m with left := offs, nofit := 0 })
    let r := s.sendFrags m b offs
    bif r.2 then r.1 else r.1.park num (bif s.isCoord then 1 else 2)

/-- An attempt starts; `counts` is false for the replay of a takeover (R369). -/
def State.startAttempt (s : State) (num : Nat) (counts : Bool) : State :=
  match s.msg? num with
  | none => s
  | some m =>
    let s := s.modMsg num (fun m => { m with phase := 1, attempts := m.attempts + (bif counts then 1 else 0) })
    bif !s.joined then s.park num 2
    else bif decide (s.mode = .outage) && !Nat.beq m.cls 0 then s.park num 3
    else s.cut num

/-! ### Message IDs (R330-R332) -/

/-- A message is unresolved: it has its ID and no completion. -/
def unresolved (m : Msg) : Bool := !Nat.beq m.msgid 0 && m.done.isNone && !Nat.beq m.parked 4 && !Nat.beq m.kind 2

/-- The message takes the peer's next ID, the queue record with it, and starts its first attempt. -/
def State.giveId (s : State) (num : Nat) (p : Peer) : State :=
  let s := (s.putPeer { p with nextId := p.nextId + 1 }).modMsg num (fun m => { m with sess := p.txSess, msgid := p.nextId })
  let s := match s.msg? num with | some m => s.mirror (.message m) | none => s
  s.startAttempt num true

/-- The block's end is on record: the messages that wait for it go on (R332). -/
def State.idBlockAct (s : State) (short e : Nat) : State :=
  let s := match s.peer? short with | some p => s.keepBlock p e | none => s
  match s.peer? short, s.msg.queue.find? (fun m => Nat.beq m.phase 0 && Nat.beq m.dest short && !Nat.beq m.kind 2) with
  | some p, some m => s.giveId m.num { p with blockEnd := e }
  | some p, none => s.putPeer { p with blockEnd := e }
  | none, _ => s

/-- A waiting message gets its ID and its first attempt where R331 lets it; the end of a new block of IDs goes to the partition
first (R332). -/
def State.admitMsg (s : State) (num : Nat) : State :=
  match s.msg? num with
  | none => s
  | some m =>
    bif !Nat.beq m.phase 0 then s
    else
      let r := s.needPeer m.dest
      match r.2 with
      | none => r.1
      | some p =>
        let s := r.1
        let live := s.msg.queue.filter (fun x => unresolved x && Nat.beq x.dest m.dest)
        let wrapped := Nat.ble (2 ^ 32) p.nextId
        let r := s.openTx (bif wrapped && live.isEmpty then { p with txSess := 0 } else p)
        let s := r.1
        let p := r.2
        bif Nat.beq m.kind 2 then
          ((s.putPeer p).modMsg num (fun m => { m with sess := p.txSess, msgid := m.answers })).startAttempt num true
        else bif Nat.ble (s.get R.MSG.CFG_INFLIGHT) live.length || live.any (fun x => Nat.ble (x.msgid + 64) p.nextId) ||
            Nat.ble (2 ^ 32) p.nextId then s.putPeer p
        else bif Nat.blt p.blockEnd p.nextId then
          let e := p.blockEnd + 256
          (s.putPeer p).gate (.idBlock (BitVec.ofNat 16 m.dest) (BitVec.ofNat 32 e)) none (fun s =>
            (s.keepBlock p e).giveId num { p with blockEnd := e })
        else s.giveId num p

/-! ### Link outcomes -/

/-- An RSP is kept for the lifetime of the REQ's class, the oldest released when 256 are held (R348). -/
def State.keepRsp (s : State) (m : Msg) : State :=
  let l := s.msg.rsps.filter (fun r => !(Nat.beq r.peer m.dest && Nat.beq r.msgid m.answers))
  let k : KeptRsp := { peer := m.dest, msgid := m.answers, cls := m.cls, ptype := m.ptype, body := m.body }
  { s with msg := { s.msg with rsps := (bif Nat.blt l.length 256 then l else l.drop 1) ++ [k] } }

/-- The first link acknowledged a fragment, or a broadcast left (R344, R347, R349). -/
def State.fragSent (s : State) (num off : Nat) : State :=
  let s := s.modMsg num (fun m => { m with left := m.left.filter (fun o => !Nat.beq o off), nofit := 0 })
  match s.msg? num with
  | none => s
  | some m =>
    bif m.left.isEmpty && Nat.beq m.phase 1 && (Nat.beq m.kind 2 || Nat.beq m.kind 4) then
      (bif Nat.beq m.kind 2 then s.keepRsp m else s).complete num 7
    else s

/-- A fragment found no cell that it fits (R339): after three cells in a row the message is cut again. -/
def State.fragNofit (s : State) (num : Nat) : State :=
  match s.msg? num with
  | none => s
  | some m => bif Nat.ble 2 m.nofit then (s.withdraw num).cut num else s.modMsg num (fun m => { m with nofit := m.nofit + 1 })

/-! ### Reception (R340-R349) -/

/-- E6's one-shot EACK to a peer (R327, R343); it belongs to no queue record. -/
def State.sendEack (s : State) (peer cls id status : Nat) : State :=
  let r := match s.peer? peer with
    | some p => bif Nat.beq p.txSess 0 then (let r := s.openTx p; (r.1.putPeer r.2, r.2.txSess)) else (s, p.txSess)
    | none => (s, 0)
  let s := r.1
  let sess := r.2
  (s.originate peer cls (leBytes 1 (3 + 8 * cls) ++ leBytes 2 sess ++ leBytes 4 id ++ leBytes 1 status) 0 1).1

/-- The consumer of a port (R328): 12 the receive ring, an engine, or none. -/
def State.consumer (s : State) (ptype : Nat) : Option Nat :=
  match ptype with
  | 0x00 => bif Nat.beq (s.get R.MSG.RXSIZE_BYTES) 0 && !s.supply.compatSel then none else some 12
  | 0x02 => bif Nat.beq (s.get R.MSG.RXSIZE_BYTES) 0 && !s.supply.compatSel then none else some 12
  | 0x01 => some 5
  | 0x03 => some 7
  | 0x0A => bif (s.eng 10).image then some 10 else none
  | 0x0B => bif (s.eng 11).image then some 11 else none
  | _ => none

/-- Header word 0 of an offer (R353); bit 21 is DOUBT (R373). -/
def offerWord (o : Offer) (doubt : Bool) : Nat :=
  o.peer % 65536 + 2 ^ 16 * o.cls + 2 ^ 18 * o.kind + (bif doubt then 2 ^ 21 else 0) + 2 ^ 24 * o.ptype

/-- The offer is one in doubt after a takeover (R373). -/
def State.inDoubt (s : State) (o : Offer) : Bool :=
  s.pair.doubt.any (fun d => Nat.beq d.1 o.peer && Nat.beq d.2.1 o.sess && Nat.beq d.2.2 o.msgid)

/-- Write a ring entry where it finds room (R353); RXHEAD moves after it. Answers the entry's end plus 1, 0 when it waits. -/
def State.ringWrite (s : State) (o : Offer) : State × Nat :=
  let base := s.get R.MSG.RXBASE_ADDR
  let size := s.get R.MSG.RXSIZE_BYTES
  let head := s.get R.MSG.RXHEAD_OFFSET
  let used := (head + size - s.get R.MSG.RXTAIL_OFFSET) % max size 1
  let n := (16 + o.body.length + 15) / 16 * 16
  let wraps := Nat.blt size (head + n)
  let cost := bif wraps then size - head + n else n
  bif Nat.blt size (used + cost + 16) then (s, 0)
  else
    let doubt := s.inDoubt o
    let s := bif wraps then s.sramStore (base + head) (zeros 8 ++ leBytes 4 (2 ^ 31) ++ zeros 4) else s
    let at_ := bif wraps then 0 else head
    let entry := leBytes 4 (offerWord o doubt) ++ leBytes 4 o.msgid ++ leBytes 4 o.body.length ++
      leBytes 4 (s.get R.SYS.OPSEC_SEC) ++ o.body
    let s := (s.sramStore (base + at_) (slice entry 0 n)).set R.MSG.RXHEAD_OFFSET ((at_ + n) % size)
    let s := bif doubt then (s.bump R.PAIR.CNT1_DOUBT).raise 0x4C 5 else s
    (s.raise 0x48 1, (at_ + n) % size + 1)

/-- In compatibility mode E9 consumes the ring, where the host has set one up, and tells the host of each entry by RECV while its queue has
room (R157, R353). As `ringWrite`, it answers 0 while the offer waits. -/
def State.recvIndication (s : State) (o : Offer) : State × Nat :=
  bif Nat.ble 16 s.compat.queue.length then (s, 0)
  else
    let r := bif Nat.beq (s.get R.MSG.RXSIZE_BYTES) 0 then (s, 1) else s.ringWrite o
    bif Nat.beq r.2 0 then r else (r.1.indicate 0xC0 (leBytes 2 o.peer ++ leBytes 1 o.cls ++ o.body), r.2)

/-- Bits of a window's map for a taken ID (R329, R342). -/
def peerTake (p : Peer) (id : Nat) : Peer :=
  bif Nat.blt p.high id then { p with high := id, map := (p.map * 2 ^ (id - p.high) + 1) % 2 ^ 64 }
  else { p with map := p.map ||| 2 ^ (p.high - id) }

/-- A taken message (R342): its record, its bit, its EACK. A REQ stays to be answered (R347); a BCAST and an RSP draw none. -/
def State.takeAct (s : State) (o : Offer) : State :=
  let key := bif Nat.beq o.kind 4 then BCPEER else o.peer
  let s := { s with msg := { s.msg with takes := (key, o.sess, o.msgid) :: s.msg.takes } }
  let s := match s.peer? key with
    | some p => bif Nat.beq p.cur o.sess then s.putPeer (peerTake p o.msgid) else s
    | none => s
  let s := s.bump R.MSG.CNT0_RX_TAKEN
  bif Nat.beq o.kind 1 then { s with msg := { s.msg with open_ := s.msg.open_ ++ [(o.peer, o.msgid)] } }
  else bif Nat.beq o.kind 0 then s.sendEack o.peer o.cls o.msgid 0
  else s

/-- The consumer takes an offer. -/
def State.takeOffer (s : State) (o : Offer) : State :=
  let s := { s with msg := { s.msg with offers := s.msg.offers.filter (fun x =>
    !(Nat.beq x.peer o.peer && Nat.beq x.sess o.sess && Nat.beq x.msgid o.msgid && Nat.beq x.kind o.kind)) } }
  bif o.rsp then s.bump R.MSG.CNT0_RX_TAKEN
  else s.gate (.take (BitVec.ofNat 16 o.peer) (BitVec.ofNat 16 o.sess) (BitVec.ofNat 32 o.msgid)) (some o) (·.takeAct o)

/-- Offers that wait are placed with their consumers in order, as room comes. -/
def State.placeOffers (s : State) : State :=
  s.each s.msg.offers (fun o t =>
    bif !Nat.beq o.ends 0 then t
    else
      let r : State × Nat := bif Nat.beq o.who 12 then (bif t.supply.compatSel then t.recvIndication o else t.ringWrite o)
        else
          let d := t.deliverMail o.who (Mail.mk4 6 0x83 0 (offerWord o (t.inDoubt o)) o.msgid o.body.length 0)
          (d.1, bif Nat.beq d.2 0 then 1 else 0)
      { r.1 with msg := { r.1.msg with offers := r.1.msg.offers.map (fun x =>
        bif Nat.beq x.peer o.peer && Nat.beq x.sess o.sess && Nat.beq x.msgid o.msgid && Nat.beq x.kind o.kind then
          { x with ends := r.2 } else x) } })

/-- The data of a complete context. -/
def Context.body (c : Context) : List Byte := c.parts.lookList 0 0 c.total

/-- A position is covered. -/
def Context.covers (c : Context) (i : Nat) : Bool := c.have_.any (fun h => Nat.ble h.1 i && Nat.blt i h.2)

/-- Every position is covered (R341). -/
def Context.complete (c : Context) : Bool := (List.range c.total).all c.covers

/-- Data at a position joins a context; what an earlier fragment gave stays. -/
def Context.add (c : Context) (off : Nat) (data : List Byte) : Context :=
  let fresh := ((List.range data.length).filter (fun i => !c.covers (off + i)))
  { c with parts := fresh.foldl (fun p i => p.store 0 (off + i) (data.getD i 0)) c.parts,
           have_ := c.have_ ++ [(off, off + data.length)] }

/-- A complete message goes to its consumer (R342); an RSP also completes its REQ (R347). Without a consumer an EACK says
NO_PORT. -/
def State.offerAct (s : State) (c : Context) : State :=
  let s := { s with msg := { s.msg with contexts := s.msg.contexts.filter (fun x =>
    !(Nat.beq x.peer c.peer && Nat.beq x.sess c.sess && Nat.beq x.msgid c.msgid && Nat.beq x.kind c.kind)) } }
  match s.consumer c.ptype with
  | none => bif Nat.beq c.kind 4 || Nat.beq c.kind 2 then s else s.sendEack c.peer c.cls c.msgid 1
  | some w =>
    let o : Offer := { who := w, peer := c.peer, sess := c.sess, msgid := c.msgid, kind := c.kind, cls := c.cls,
                       ptype := c.ptype, body := c.body, ends := 0, rsp := Nat.beq c.kind 2 }
    { s with msg := { s.msg with offers := s.msg.offers ++ [o] } }.placeOffers

/-- A complete context is offered. -/
def State.offer (s : State) (c : Context) : State :=
  s.gate (.offer (BitVec.ofNat 16 c.peer) (BitVec.ofNat 16 c.sess) (BitVec.ofNat 32 c.msgid)) none (·.offerAct c)

/-- A fragment joins the reassembly context of its message (R341); a full set of contexts gives way to a lower class only. The
flag says that the message is complete. -/
def State.reassemble (s : State) (c : Context) (off : Nat) (data : List Byte) : State × Option Context :=
  let same (x : Context) : Bool :=
    Nat.beq x.peer c.peer && Nat.beq x.sess c.sess && Nat.beq x.msgid c.msgid && Nat.beq x.kind c.kind
  let put (s : State) (x : Context) : State × Option Context :=
    ({ s with msg := { s.msg with contexts := s.msg.contexts.filter (fun y => !same y) ++ [x] } },
     bif x.complete then some x else none)
  match s.msg.contexts.find? same with
  | some x =>
    let x := x.add off data
    ({ s with msg := { s.msg with contexts := s.msg.contexts.map (fun y => bif same y then x else y) } },
     bif x.complete then some x else none)
  | none =>
    bif Nat.blt s.msg.contexts.length 32 then put s (c.add off data)
    else match s.msg.contexts.find? (fun x => Nat.blt c.cls x.cls) with
      | some v =>
        put ({ s with msg := { s.msg with contexts := s.msg.contexts.filter (fun x =>
          !(Nat.beq x.peer v.peer && Nat.beq x.sess v.sess && Nat.beq x.msgid v.msgid && Nat.beq x.kind v.kind)) } }.bump
            R.MSG.CNT1_REASM_DROP) (c.add off data)
      | none => (s.bump R.MSG.CNT1_REASM_DROP, none)

/-- A copy of a taken REQ that ends at TOTAL (R348). -/
def State.answerCopy (s : State) (peer cls id : Nat) : State :=
  match s.msg.rsps.find? (fun r => Nat.beq r.peer peer && Nat.beq r.msgid id) with
  | some r => s.submitMsg (s.newMsg 13 0 peer r.cls 2 r.ptype r.body id)
  | none =>
    bif s.msg.open_.any (fun o => Nat.beq o.1 peer && Nat.beq o.2 id) ||
        s.msg.queue.any (fun m => Nat.beq m.kind 2 && Nat.beq m.dest peer && Nat.beq m.answers id) then s
    else s.sendEack peer cls id 2

/-- A copy of a taken message (R340 steps 2, 3). -/
def State.copyFrag (s : State) (peer kind cls id : Nat) (last : Bool) : State :=
  let s := s.bump R.MSG.CNT1_DUP
  bif !last || Nat.beq kind 4 then s
  else bif Nat.beq kind 1 then s.answerCopy peer cls id
  else s.sendEack peer cls id 0

/-- An EACK or an RSP (R345, R347). -/
def State.answerFrag (s : State) (peer kind id status : Nat) (c : Context) (off : Nat) (data : List Byte) : State :=
  match s.msg.queue.find? (fun m => unresolved m && Nat.beq m.dest peer && Nat.beq m.msgid id &&
      (Nat.beq kind 3 || Nat.beq m.kind 1)) with
  | none => s.bump R.MSG.CNT1_LATE
  | some m =>
    bif Nat.beq kind 3 then
      s.complete m.num (bif Nat.beq status 0 then 0 else bif Nat.beq status 1 then 4 else 5)
    else
      let r := s.reassemble c off data
      match r.2 with
      | some c => (r.1.offer c).complete m.num 1
      | none => r.1

/-- E6 judges a fragment addressed to this node (R327, R340). -/
def State.fragment (s : State) (src : Nat) (pay : List Byte) : State :=
  let b (i : Nat) : Nat := (pay.getD i 0).toNat
  let kind := b 0 % 8
  let cls := b 0 / 8 % 4
  let sess := b 1 + 256 * b 2
  let id := ofLe (slice pay 3 4)
  let off := b 8 + 256 * b 9
  let total := b 10 + 256 * b 11
  let data := pay.drop 12
  let c : Context := { peer := src, sess := sess, msgid := id, kind := kind, cls := cls, ptype := b 7, total := total,
                       parts := [], have_ := [] }
  bif Nat.ble 5 kind || (!Nat.beq kind 3 && (Nat.blt total (off + data.length) || Nat.blt 2048 total)) then
    s.bump R.MSG.CNT1_BADHDR
  else bif Nat.beq kind 3 || Nat.beq kind 2 then s.answerFrag src kind id (b 7) c off data
  else
    let key := bif Nat.beq kind 4 then BCPEER else src
    let last := Nat.beq (off + data.length) total
    let r := s.needPeer key
    match r.2 with
    | none => r.1
    | some p =>
      let s := r.1
      let known := Nat.beq sess p.cur
      bif (Nat.beq sess p.prev && !known) || (known && Nat.blt (id + 63) p.high) then s.copyFrag src kind cls id last
      else bif known && Nat.ble id p.high && p.map.testBit (p.high - id) then s.copyFrag src kind cls id last
      else bif s.msg.offers.any (fun o => Nat.beq o.peer src && Nat.beq o.sess sess && Nat.beq o.msgid id && !o.rsp) then
        s.bump R.MSG.CNT1_DUP
      else
        let s := bif known then s
          else (s.putPeer { p with prev := p.cur, cur := sess, high := id - 1, map := 0 }).bump R.MSG.CNT1_NEWSESS
        let r := s.reassemble c off data
        match r.2 with
        | some c => r.1.offer c
        | none => r.1

/-! ### Submission (R334-R336) -/

/-- The oldest message of the lowest class present, if that class is lower than `cls` (R335). -/
def State.evictable (s : State) (cls : Nat) : Option Msg :=
  let l := s.msg.queue.filter (fun m => m.done.isNone && !Nat.beq m.parked 4)
  [3, 2, 1, 0].findSome? (fun c => l.find? (fun m => Nat.beq m.cls c)) |>.filter (fun m => Nat.blt cls m.cls)

/-- The queue has no room for a body of `n` octets. -/
def State.queueFull (s : State) (n : Nat) : Bool :=
  Nat.ble 65536 s.queued || Nat.blt (32 * 0x100000) ((s.msg.queue.map (fun m => m.body.length)).sum + n)

/-- This module is a STANDBY (R365). -/
def State.standby (s : State) : Bool := Nat.beq (s.get R.PAIR.STAT_ROLE) 2

/-- Why a SEND is refused, 0 for none (R335, R336, R365). -/
def State.sendCheck (s : State) (d : Desc4) : Nat :=
  bif s.standby then RC.MODE
  else bif s.bit R.MSG.STAT_RESTORING then RC.BUSY
  else bif Nat.blt 4 d.kind then RC.BAD_VALUE
  else bif Nat.beq d.dest 0xFFFE || (Nat.ble 0x4001 d.dest && Nat.ble d.dest 0xFFFD) || Nat.beq d.dest s.ownShort ||
      (Nat.beq d.dest 0xFFFF && !Nat.beq d.kind 4) then 0x42
  else bif (Nat.beq d.kind 4 && !s.isCoord) || Nat.beq d.kind 3 then RC.CONFLICT
  else bif Nat.blt 2048 d.len || (Nat.beq d.kind 4 && Nat.blt (s.get R.MSG.CFG_FRAGBODY) d.len) then 0x41
  else bif Nat.beq d.kind 2 && !s.msg.open_.any (fun o => Nat.beq o.1 d.dest && Nat.beq o.2 d.msgid) then 0x43
  else bif (s.peer? d.dest).isNone && s.peerRoom.isNone then RC.NO_RESOURCE
  else bif s.queueFull d.len && (s.evictable d.cls).isNone then 0x40
  else 0

/-- The record of a SEND reaches flash and the queue (R334, R335); a REQ that it answers is answered. -/
def State.enterMsg (s : State) (m : Msg) : State :=
  let s := bif s.queueFull m.body.length then match s.evictable m.cls with | some v => s.complete v.num 6 | none => s else s
  let s := { s with msg := { s.msg with
    queue := s.msg.queue ++ [m], open_ := s.msg.open_.filter (fun o =>
      !(Nat.beq m.kind 2 && Nat.beq o.1 m.dest && Nat.beq o.2 m.answers)) } }
  s.raiseIf (Nat.blt 58982 s.queued) 0x48 3

/-- The MSGID of a queue record. -/
def State.msgidOf (s : State) (num : Nat) : Nat := match s.msg? num with | some m => m.msgid | none => 0

/-- A SEND is complete: its ID is reported where it has one, and it is accepted (R334). -/
def State.sendDone (s : State) (m : Msg) : State :=
  let s := { s with msg := { s.msg with cmd := none } }.admitMsg m.num
  bif Nat.beq m.who 12 then (s.set R.MSG.TXRES_MSGID (s.msgidOf m.num)).raise 0x48 2
  else bif Nat.blt m.who 12 then s.answer 6 m.who 0x81 m.tag (s.msgidOf m.num) 0 0 0
  else s

/-- The descriptor of the MSG page. -/
def State.txDesc (s : State) : Desc4 :=
  ⟨s.get R.MSG.TXD0_DEST, s.get R.MSG.TXD0_CLASS, s.get R.MSG.TXD0_KIND, s.get R.MSG.TXD0_PTYPE, s.get R.MSG.TXD1_ADDR,
   s.get R.MSG.TXD2_LEN, s.get R.MSG.TXD3_MSGID⟩

/-- TXCMD SEND (R334, R336). -/
def State.msgSend (s : State) : State :=
  let d := s.txDesc
  let r := s.sendCheck d
  bif s.msg.cmd.isSome then s.refuse 0x48 RC.BUSY 0x48
  else bif !Nat.beq r 0 then s.refuse 0x48 r 0x48
  else bif !inBank3 d.addr d.len then s.refuse 0x48 RC.BAD_VALUE 0x3C
  else
    let m := s.newMsg 12 0 d.dest d.cls d.kind d.ptype (s.sramList d.addr d.len) d.msgid
    { s with msg := { s.msg with cmd := some m, nextNum := s.msg.nextNum + 1 } }

/-- TXCMD CANCEL (R352). -/
def State.msgCancel (s : State) : State :=
  match s.msg.queue.find? (fun m => Nat.beq m.who 12 && unresolved m && Nat.beq m.msgid (s.get R.MSG.TXD3_MSGID)) with
  | some m => s.complete m.num 8
  | none => s.refuse 0x48 0x44 0x48

/-! ### Commands -/

/-- MSG_SEND. -/
def execMsgSend (who : Requester) (s : State) : Host.Outcome State Fault Refusal := s.command who 0x48 0x48 State.msgSend

/-- MSG_CANCEL. -/
def execMsgCancel (who : Requester) (s : State) : Host.Outcome State Fault Refusal := s.command who 0x48 0x48 State.msgCancel

/-- MSG_SEND_COMPLETE (R334): the queue record is in flash; in a pair the gated record goes first (R364). -/
def execMsgSendComplete (s : State) : Host.Outcome State Fault Refusal :=
  match s.msg.cmd with
  | none => .next s
  | some m => .next ((s.enterMsg m).gate (.message m) none (·.sendDone m))

/-- MBOX_MSG_SEND (R415): a body in bank 3 or in the sender's slice. -/
def execMboxMsgSend (e : Fin 12) (tag : Half) (txd0 txd1 txd2 txd3 : Word) (s : State) : Host.Outcome State Fault Refusal :=
  let d := Desc4.ofWords txd0.toNat txd1.toNat txd2.toNat txd3.toNat
  let r := s.sendCheck d
  bif !s.enabled 0x48 then .next (s.answer 6 e 0x81 tag.toNat 0 RC.DEP_DISABLED 0 0)
  else bif !Nat.beq r 0 then .next (s.answer 6 e 0x81 tag.toNat 0 r 0 0)
  else bif !(inBank3 d.addr d.len || inSlice e d.addr d.len) then .next (s.answer 6 e 0x81 tag.toNat 0 RC.BAD_VALUE 0 0)
  else
    let m := s.newMsg e tag.toNat d.dest d.cls d.kind d.ptype (s.sramList d.addr d.len) d.msgid
    let s := { s with msg := { s.msg with nextNum := s.msg.nextNum + 1 } }
    .next ((s.enterMsg m).gate (.message m) none (·.sendDone m))

/-- MBOX_MSG_CANCEL (R352, R415): refused with NO_MSG after the completion. -/
def execMboxMsgCancel (e : Fin 12) (tag : Half) (msgid : Word) (s : State) : Host.Outcome State Fault Refusal :=
  match s.msg.queue.find? (fun m => Nat.beq m.who e && unresolved m && Nat.beq m.msgid msgid.toNat) with
  | some m => .next (s.complete m.num 8)
  | none => .next (s.answer 6 e 0x81 tag.toNat 0 0x44 0 0)

/-- MESSAGE_ADMITTED (R331): a waiting message gets its ID; TXRES follows for the host's last one. -/
def execMessageAdmitted (rec : Word) (s : State) : Host.Outcome State Fault Refusal :=
  let t := s.admitMsg rec.toNat
  match s.msg? rec.toNat with
  | some m =>
    let shows := Nat.beq m.who 12 && Nat.beq m.phase 0 && Nat.beq (s.get R.MSG.TXRES_MSGID) 0
    .next (bif shows then t.set R.MSG.TXRES_MSGID (t.msgidOf m.num) else t)
  | none => .next t

/-- REASSEMBLY_TIMEOUT (R341). -/
def execReassemblyTimeout (peer : Half) (msgid : Word) (s : State) : Host.Outcome State Fault Refusal :=
  let hit (c : Context) : Bool := Nat.beq c.peer peer.toNat && Nat.beq c.msgid msgid.toNat && !c.complete
  bif s.msg.contexts.any hit then
    .next ({ s with msg := { s.msg with contexts := s.msg.contexts.filter (fun c => !hit c) } }.bump R.MSG.CNT1_REASM_DROP)
  else .next s

/-- A write of RXTAIL (R342): it must lie in the written region; the entries it passes are taken. -/
def State.rxtailWrite (s : State) (v : Nat) : State :=
  let size := max (s.get R.MSG.RXSIZE_BYTES) 1
  let tail := s.get R.MSG.RXTAIL_OFFSET
  let dist (x : Nat) : Nat := (x + size - tail) % size
  bif Nat.ble size v || Nat.blt (dist (s.get R.MSG.RXHEAD_OFFSET)) (dist v) then s.refuse 0x48 RC.BAD_VALUE 0x5C
  else
    let passed := s.msg.offers.filter (fun o => Nat.beq o.who 12 && !Nat.beq o.ends 0 && Nat.ble (dist (o.ends - 1)) (dist v) &&
      !Nat.beq (dist (o.ends - 1)) 0)
    ((s.set R.MSG.RXTAIL_OFFSET v).each passed (fun o t => t.takeOffer o)).placeOffers

/-- An acknowledged RECV (R353): E9 takes its message and moves RXTAIL past its entry. -/
def State.recvAcked (s : State) : State :=
  match s.msg.offers.find? (fun o => Nat.beq o.who 12 && !Nat.beq o.ends 0) with
  | none => s
  | some o => bif Nat.beq (s.get R.MSG.RXSIZE_BYTES) 0 then s.takeOffer o else s.rxtailWrite (o.ends - 1)

/-- RXTAIL_WRITE. -/
def execRxtailWrite (who : Requester) (value : Word) (s : State) : Host.Outcome State Fault Refusal :=
  s.writeCmd who 0x48 0x5C (fun s => s.rxtailWrite (R.MSG.RXTAIL_OFFSET.of value.toNat))

/-- ATTEMPT_TIMEOUT (R344): every fragment is acknowledged on the first link and TIMEOUT_S has passed. -/
def execAttemptTimeout (rec : Word) (s : State) : Host.Outcome State Fault Refusal :=
  match s.msg? rec.toNat with
  | some m => .next (bif m.left.isEmpty then s.endAttempt m.num else s)
  | none => .next s

/-- ATTEMPT_START (R344). -/
def execAttemptStart (rec : Word) (s : State) : Host.Outcome State Fault Refusal :=
  match s.msg? rec.toNat with
  | some m => .next (bif Nat.beq m.phase 2 then s.startAttempt m.num true else s)
  | none => .next s

/-- MESSAGE_EXPIRED (R345): LIFE_MIN since submission. -/
def execMessageExpired (rec : Word) (s : State) : Host.Outcome State Fault Refusal :=
  match s.msg? rec.toNat with
  | some m =>
    .next (bif Nat.ble (m.born + 60 * s.get (R.MSG.CLS_LIFE_MIN m.cls)) (s.get R.SYS.OPSEC_SEC) then s.complete m.num 3 else s)
  | none => .next s

/-- A read of DONE1 pops a completion (R346); held ones follow into the FIFO. -/
def State.donePop (s : State) : State :=
  match s.msg.fifo with
  | [] => { s with lastRead := 0 }
  | d :: rest =>
    let s := ({ s with msg := { s.msg with fifo := rest }, lastRead := d.status + 16 * d.cls + 256 }).postHeld
    s.setBit (R.HDR.IRQ 0x48 0) (!s.msg.fifo.isEmpty)

/-- MSG_DONE_POP. -/
def execMsgDonePop (who : Requester) (s : State) : Host.Outcome State Fault Refusal :=
  let g := s.guard who 0x48 0x64 false
  .next (bif g.2 then g.1.donePop else g.1)

/-- The windows as the take records give them (R342), oldest first. -/
def State.rebuildWindows (s : State) : State :=
  let bare := s.msg.peers.map (fun p => { p with cur := 0, prev := 0, high := 0, map := 0, nextId := p.blockEnd + 1 })
  let lost := s.msg.blocks.filterMap (fun b => bif bare.any (fun p => Nat.beq p.short b.1) then none else
    some { freshPeer b.1 with txSess := b.2 / 2 ^ 33, blockEnd := b.2 % 2 ^ 33, nextId := b.2 % 2 ^ 33 + 1, used := s.get R.SYS.OPSEC_SEC })
  let s := { s with msg := { s.msg with peers := bare ++ lost } }
  s.each s.msg.takes.reverse (fun t s =>
    let p := (s.peer? t.1).getD (freshPeer t.1)
    let p := bif Nat.beq p.cur t.2.1 then p else { p with prev := p.cur, cur := t.2.1, high := t.2.2 - 1, map := 0 }
    s.putPeer (peerTake p t.2.2))

/-- MSG_RESTORE_COMPLETE (R332, R342): windows, block ends and queue are rebuilt; messages with an ID go on with a new attempt. -/
def execMsgRestoreComplete (s : State) : Host.Outcome State Fault Refusal :=
  bif s.bit R.MSG.STAT_RESTORING then
    let s := s.rebuildWindows
    let q := s.msg.queue.map (fun m =>
      bif Nat.beq m.phase 0 || m.done.isSome || Nat.beq m.parked 4 then m else { m with phase := 2, parked := 0, left := [] })
    .next ({ s with msg := { s.msg with queue := q } }.set R.MSG.STAT_RESTORING 0)
  else .next s

/-- KEPT_RSP_EXPIRY (R348). -/
def execKeptRspExpiry (peer : Half) (msgid : Word) (s : State) : Host.Outcome State Fault Refusal :=
  .next { s with msg := { s.msg with rsps := s.msg.rsps.filter (fun r =>
    !(Nat.beq r.peer peer.toNat && Nat.beq r.msgid msgid.toNat)) } }

/-- RXPOP (R413, R414): the head leaves the mailbox, and the pop of a DELIVER is the take of its message (R342, R415). -/
def State.mailPop (s : State) (k : Nat) : State :=
  match (s.eng k).mailbox with
  | [] => s
  | m :: rest =>
    let s := s.modEng k (fun e => { e with mailbox := rest })
    let s := bif Nat.beq m.src 6 && Nat.beq m.type 0x83 then
        match s.msg.offers.find? (fun o => Nat.beq o.who k && !Nat.beq o.ends 0) with
        | some o => s.takeOffer o
        | none => s
      else s
    (s.placeOffers).postHeld

/-- MAILBOX_POP (R414). -/
def execMailboxPop (e : Fin 12) (s : State) : Host.Outcome State Fault Refusal := .next (s.mailPop e)

end Sys2Proof.Machine
end

