-- ==== Sys2Proof/Machine/Join.lean ====
section
/-!
DEFINITION. Joining a network (R302-R306), the commands of the MESH page, the mesh commands that E5 takes from its mailbox (R323), the
ASSOC page (R308-R311) and the table snapshots (R313, R314).
-/

namespace Sys2Proof.Machine

open Sys2Proof

/-! ### The joining state (R302) -/

/-- MESH.STAT.JOIN_ST. -/
def State.joinSt (s : State) : Nat := s.get R.MESH.STAT_JOIN_ST

/-- E4 disables the slotframe that it enabled for a join, if no cell stands in it (R306). -/
def State.dropJoinSf (s : State) : State :=
  match s.mesh.sfOn with
  | none => s
  | some k =>
    let s := { s with mesh := { s.mesh with sfOn := none } }
    bif s.sched.cells.any (fun c => Nat.beq c.sf k) then s else s.set (R.SCHED.SF_EN k) 0

/-- The requests of a join leave the link queue. -/
def State.dropRequests (s : State) : State :=
  { s with sched := { s.sched with queue := s.sched.queue.filter (fun f =>
    !(f.joinKey && decide (f.kind = .command 0x01) && !s.inFlight f.num)) } }

/-- A join fails (R302): REASON, JOIN_FAIL, FAILED. -/
def State.failJoin (s : State) (reason : Nat) : State :=
  let s := { s.dropRequests with mesh := { s.mesh with target := none, wait := false } }
  (((s.set R.MESH.STAT_JOIN_ST 5).set (R.HDR.REASON 0x44) reason).raise 0x44 2).dropJoinSf

/-- A LINKSEC slot that is not valid (R305): the lowest. -/
def State.freeKeySlot (s : State) : Option Nat := (List.range 16).find? (fun i => !(s.key i).valid)

/-- The join slotframe of a result cannot be set up (R306). -/
def State.sfConflict (s : State) (r : ScanRes) : Bool :=
  s.bit (R.SCHED.SF_EN r.joinSf) && !Nat.beq (s.get (R.SCHED.SF_LEN r.joinSf)) r.joinLen

/-- Cells of a slotframe that is enabled anew start at its next boundary (R254). -/
def State.restartCells (s : State) (k : Nat) : State :=
  { s with sched := { s.sched with cells := s.sched.cells.map (fun (c : Cell) =>
    bif Nat.beq c.sf k && Nat.beq c.state 1 then { c with state := 0 } else c) } }

/-- E4 sets up the join slotframe (R306). -/
def State.setJoinSf (s : State) (r : ScanRes) : State :=
  bif s.bit (R.SCHED.SF_EN r.joinSf) then s
  else
    let s := { s with mesh := { s.mesh with sfOn := some r.joinSf } }
    (s.setAll [(R.SCHED.SF_LEN r.joinSf, r.joinLen), (R.SCHED.SF_EN r.joinSf, 1)]).restartCells r.joinSf

/-- CAPS of a request (R304). A node in OUTAGE is a sleepy one. -/
def State.caps (s : State) : Nat :=
  (bif Nat.beq s.role 2 then 1 else 0) + (bif decide (s.mode = .outage) then 2 else 0) +
    (bif s.enabled 0x31 then 4 else 0) + (bif s.enabled 0x3B then 8 else 0)

/-- The Association Request (R304); it goes out in a join cell only (R303). -/
def State.sendRequest (s : State) (r : ScanRes) : State :=
  let poll := bif decide (s.mode = .outage) then s.now R.SCHED.POLL_POLL_S else 0
  let ie := [0x02] ++ leBytes 1 s.caps ++ leBytes 2 poll ++ leBytes 4 (s.get R.MICA.ID0_ID)
  s.dropRequests.enqueue { LinkFrame.blank with dest := 301, ext := r.ext, kind := .command 0x01, joinKey := true,
                                                join := ie, payload := [0x01, 0] }

/-- The join starts (R302, R306): the chosen sender becomes the time source and the request is queued. -/
def State.startJoin (s : State) (r : ScanRes) : State :=
  let q := s.needNbr r.ext
  match q.2 with
  | none => q.1.refuse 0x44 RC.NO_RESOURCE 0x34
  | some n =>
    let n := { n with short := r.short, pan := r.pan, role := (bif r.coord then 2 else 1), rank := r.rank, hops := r.hops, wake := r.wake,
                      sync := 1, miss := 0, seen := s.get R.SYS.OPSEC_SEC }
    let s := ((q.1.setNbr n).setJoinSf r).setAll [(R.SCHED.STAT_SOURCE, n.idx), (R.MESH.STAT_JOIN_ST, 3)]
    ({ s with mesh := { s.mesh with target := some r, tries := 1, wait := true, scanning := false } }).sendRequest r

/-- JOIN and JOIN_BEST of SCAN_DONE (R302): the order of the checks is the model's (log entry 20). -/
def State.join (s : State) (r : Option ScanRes) : State :=
  bif !Nat.beq s.joinSt 2 then s.refuse 0x44 RC.MODE 0x34
  else match r with
    | none => s.refuse 0x44 0x40 0x34
    | some r =>
      bif !r.admits then s.refuse 0x44 0x40 0x34
      else bif s.freeKeySlot.isNone then s.refuse 0x44 0x45 0x34
      else bif s.sfConflict r then s.refuse 0x44 0x46 0x34
      else s.startJoin r

/-- A key enters a slot (R279, R281): its counter starts at 0, and its first block opens when its end is committed. -/
def State.loadKey (s : State) (i idx : Nat) (key : List Byte) : State :=
  let s := { s with pair := { s.pair with reserve := s.pair.reserve.put i 0 } }
  let s := (s.setKey i { idx := idx, valid := true, key := key, counter := 0, blockEnd := 0, nextEnd := 4096 }).commit
  bif Nat.beq idx 0xFE then s
  else (s.mirror (.key (Fin.ofNat 16 i) (BitVec.ofNat 8 idx) (some (keyWrap s.pairKey key)))).mirror (.blockEnd (Fin.ofNat 16 i) 4095)

/-- The network key of a response goes into slot `i` and TXKEY.NET names it; a key whose index a valid slot holds is not loaded again
(R279, log entry 21). -/
def State.takeNetKey (s : State) (i idx : Nat) (key : List Byte) : State :=
  match s.slotOf idx with
  | some j => s.set R.LINKSEC.TXKEY_NET j
  | none => (s.loadKey i idx key).set R.LINKSEC.TXKEY_NET i

/-- The joined node's identity; a node in SERVICE or OUTAGE commits it at once. -/
def State.takeIdentity (s : State) (pan short : Nat) : State :=
  let s := s.setAll [(R.MESH.ID0_SHORT, short), (R.MESH.ID0_PAN, pan), (R.MESH.STAT_JOIN_ST, 4)]
  bif decide (s.mode = .service) || decide (s.mode = .outage) then
    ({ s with ret := { s.ret with identity := some ⟨pan, short⟩ } }).commit
  else s

/-- The only parent that a node has before its first evaluation (R316). -/
def State.soleParent (s : State) (r : ScanRes) (i : Nat) : State :=
  ({ s with mesh := { s.mesh with pset := [i], target := none, wait := false, results := [], root := r.root, pair := r.pair } }).set R.SCHED.STAT_SOURCE i

/-- A success response (R302, R304, R305): identity, key and cells are taken. -/
def State.joinedNow (s : State) (r : ScanRes) (n : Nbr) (short idx : Nat) (key : List Byte) (up down : Nat) : State :=
  match s.freeKeySlot with
  | none => s.failJoin 0x45
  | some i =>
    let t := ((s.takeNetKey i idx key).setNbr { n with sync := 1 }).joinCells r.joinSf short n.idx up down false false
    let t := (t.dropRequests.soleParent r n.idx).takeIdentity r.pan short
    ((t.showRank).unpark (fun m => Nat.beq m.parked 2)).raise 0x44 1

/-- Status 0x01 is the answer of a full PAN and of a parent without free cells alike (R304, R308): which of TABLE_FULL and NO_CELLS
is shown is a free value. -/
def State.refusedJoin (s : State) (status : Nat) : State :=
  bif Nat.beq status 1 then (s.failJoin (bif Nat.beq (s.draw 2) 0 then 0x42 else 0x44)).spend 1 else s.failJoin 0x41

/-- The network identity is erased (R302, R323): IDLE. -/
def State.eraseIdentity (s : State) : State :=
  let s := { s.dropRequests with mesh := { s.mesh with pset := [], target := none, wait := false, scanning := false, results := [] },
                                 ret := { s.ret with identity := none } }
  (s.setAll [(R.MESH.ID0_SHORT, 0xFFFE), (R.MESH.ID0_PAN, 0), (R.MESH.ID1_RANK, 0xFFFF), (R.MESH.ID1_HOPS, 0),
    (R.MESH.STAT_JOIN_ST, 0), (R.SCHED.STAT_SOURCE, 0xFF)]).dropJoinSf.commit

/-! ### MESH.CMD (R301, R302) -/

/-- SCAN. -/
def State.meshScan (s : State) : State :=
  bif Nat.beq s.joinSt 0 || Nat.beq s.joinSt 2 || Nat.beq s.joinSt 5 then
    { s with mesh := { s.mesh with results := [] } }.set R.MESH.STAT_JOIN_ST 1
  else s.refuse 0x44 RC.MODE 0x34

/-- A scan ends. -/
def State.scanDone (s : State) : State := (s.set R.MESH.STAT_JOIN_ST 2).raise 0x44 0

/-- MESH_SCAN. -/
def execMeshScan (who : Requester) (s : State) : Host.Outcome State Fault Refusal := s.command who 0x44 0x34 State.meshScan

/-- MESH_JOIN: a result by its index. -/
def execMeshJoin (who : Requester) (idx : BitVec 4) (s : State) : Host.Outcome State Fault Refusal :=
  s.command who 0x44 0x34 (fun s => s.join (s.mesh.results[idx.toNat]?))

/-- MESH_JOIN_BEST: the first ADMIT result. -/
def execMeshJoinBest (who : Requester) (s : State) : Host.Outcome State Fault Refusal :=
  s.command who 0x44 0x34 (fun s => s.join (s.mesh.results.find? (fun r => r.admits)))

/-- MESH_ABORT. -/
def execMeshAbort (who : Requester) (s : State) : Host.Outcome State Fault Refusal :=
  s.command who 0x44 0x34 (fun s => bif Nat.beq s.joinSt 1 then s.scanDone else s.refuse 0x44 RC.MODE 0x34)

/-- In compatibility mode E9 carries on the association that JOIN started (R158). -/
def State.compatJoin (s : State) : State :=
  bif s.compat.joining then
    { s with compat := { s.compat with joining := false } }.operate 12 0x44 0x34 (fun s => s.join (s.mesh.results.find? (fun r => r.admits)))
  else s

/-- SCAN_TIMEOUT. -/
def execScanTimeout (s : State) : Host.Outcome State Fault Refusal :=
  .next (bif Nat.beq s.joinSt 1 then s.scanDone.compatJoin else s)

/-- JOIN_WAIT_EXPIRY (R302). -/
def execJoinWaitExpiry (s : State) : Host.Outcome State Fault Refusal :=
  match s.mesh.target with
  | none => .next s
  | some r =>
    bif !Nat.beq s.joinSt 3 then .next s
    else bif Nat.blt s.mesh.tries (s.get R.MESH.JOINWAIT_TRIES) then
      .next (({ s with mesh := { s.mesh with tries := s.mesh.tries + 1 } }).sendRequest r)
    else .next (s.failJoin 0x43)

/-! ### Mesh commands (R323) -/

/-- Engine `k` (E5, E7) pops the messages of its mailbox that are not DELIVERs: the answers to its own messages need nothing of it. -/
def State.mailSkip (k : Nat) : Nat → State → State
  | 0, s => s
  | fuel + 1, s =>
    match (s.eng k).mailbox with
    | [] => s
    | m :: _ => bif Nat.beq m.src 6 && Nat.beq m.type 0x83 then s else State.mailSkip k fuel (s.mailPop k)

/-- E5 takes the mesh command at the head of its mailbox, when its code is `code` (R323, R342). -/
def State.meshTake (s : State) (code : Nat) (act : Offer → State → State) : State :=
  let s := State.mailSkip 5 8 s
  match s.engines.e5.mailbox, s.msg.offers.find? (fun o => Nat.beq o.who 5 && !Nat.beq o.ends 0) with
  | _ :: _, some o => bif Nat.beq (o.body.getD 0 0).toNat code then act o (s.mailPop 5) else s
  | _, _ => s

/-- Octets of a mesh command's payload. -/
def Offer.field (o : Offer) (off n : Nat) : Nat := ofLe (slice (o.body.drop 1) off n)

/-- MESHCMD_JOIN_RELAY: the COORDINATOR judges a relayed request; it waits while the index is rebuilt (R311). -/
def execMeshcmdJoinRelay (s : State) : Host.Outcome State Fault Refusal :=
  bif !s.isCoord || s.assoc.busy then .next s
  else .next (s.meshTake 0x01 (fun o s =>
    s.joinRequest (o.field 0 8) (o.field 8 1) (o.field 9 2) (o.field 11 4) o.peer (Nat.beq (o.field 15 1) 1)))

/-- MESHCMD_JOIN_ANSWER: the relaying ROUTER queues the response (R307). -/
def execMeshcmdJoinAnswer (s : State) : Host.Outcome State Fault Refusal :=
  .next (s.meshTake 0x02 (fun o s =>
    match s.mesh.relays.find? (fun r => Nat.beq r.ext (o.field 0 8)) with
    | none => s
    | some r =>
      let s := { s with mesh := { s.mesh with relays := s.mesh.relays.filter (fun x => !Nat.beq x.ext r.ext) } }
      s.respond r.ext (o.field 8 1) (o.field 9 2) r.wake r.pollS (r.caps.testBit 1) (r.caps.testBit 0 && !r.ym1) r.ym1))

/-- MESHCMD_PARENT_UPDATE (R323). -/
def execMeshcmdParentUpdate (s : State) : Host.Outcome State Fault Refusal :=
  bif !s.isCoord then .next s
  else .next (s.meshTake 0x03 (fun o s =>
    let p := o.field 0 2
    let known := Nat.beq p 0 || (match s.assocOf p with | some e => Nat.beq e.state 3 | none => false)
    bif !known || Nat.beq p o.peer then s.bump R.MESH.CNT1_BADROUTE
    else match s.assocOf o.peer with
      | some e => bif Nat.beq e.state 3 then
          (s.putAssoc { e with parent := p }).unpark (fun m => Nat.beq m.parked 1 && Nat.beq m.dest o.peer)
        else s
      | none => s))

/-- MESHCMD_LEAVE (R323): at the COORDINATOR the node's entry is freed; at a node its identity is erased. -/
def execMeshcmdLeave (s : State) : Host.Outcome State Fault Refusal :=
  .next (s.meshTake 0x04 (fun o s =>
    let ext := o.field 0 8
    bif s.isCoord then match s.lookupExt ext with | some e => s.releaseAssoc e | none => s
    else bif Nat.beq o.peer 0 && Nat.beq ext s.ownExt then
      (s.eraseIdentity.set (R.HDR.REASON 0x44) 0x41).raise 0x44 2
    else s))

/-- MESHCMD_ROUTE_ERR (R321). -/
def execMeshcmdRouteErr (s : State) : Host.Outcome State Fault Refusal :=
  bif !s.isCoord then .next s
  else .next (s.meshTake 0x05 (fun o s =>
    match s.assocOf (o.field 0 2) with
    | some e => s.putAssoc { e with unreach := true }
    | none => s))

/-! ### The ASSOC page (R308-R312) -/

/-- A table command: the PRIMARY's only, and not while a REHASH runs. -/
def State.assocCmd (s : State) (who : Nat) (f : State → State) : Host.Outcome State Fault Refusal :=
  s.command who 0x45 0x28 (fun s =>
    bif s.standby then s.refuse 0x45 0x44 0x28 else bif s.assoc.busy then s.refuse 0x45 RC.BUSY 0x28 else f s)

/-- A command of the table ends: RES and CMD_DONE. -/
def State.assocDone (s : State) (idx : Nat) (found : Bool) : State :=
  (s.setAll [(R.ASSOC.RES_INDEX, idx), (R.ASSOC.RES_FOUND, bif found then 1 else 0), (R.ASSOC.RES_DONE, 1)]).raise 0x45 4

/-- Nothing found: FOUND = 0 and NOT_FOUND, and the command is complete. -/
def State.assocNotFound (s : State) : State := (s.assocDone 0 false).set (R.HDR.REASON 0x45) 0x40

/-- The extended address staged in EXT0 and EXT1. -/
def State.stagedExt (s : State) : Nat := s.get (R.ASSOC.EXT_ADDR 0) + 2 ^ 32 * s.get (R.ASSOC.EXT_ADDR 1)

/-- ASSOC_LOOKUP (R310). -/
def execAssocLookup (who : Requester) (s : State) : Host.Outcome State Fault Refusal :=
  s.assocCmd who (fun s => match s.lookupExt s.stagedExt with
    | some e => s.assocDone e.idx true
    | none => s.assocNotFound)

/-- PRELOAD (R308). -/
def State.preload (s : State) : State :=
  match s.lookupExt s.stagedExt with
  | some e =>
    bif Nat.beq e.state 2 then (s.admitEntry e e.relay false).assocDone e.idx true
    else s.refuse 0x45 0x42 0x28
  | none =>
    let r := s.allocate s.stagedExt
    match r.2 with
    | none => (r.1.raise 0x45 2).refuse 0x45 (bif s.allocIndex.isSome then 0x43 else RC.NO_RESOURCE) 0x28
    | some e => (r.1.putAssoc { e with state := 1, seen := s.get R.SYS.OPSEC_SEC }).assocDone e.idx true

/-- ASSOC_PRELOAD. -/
def execAssocPreload (who : Requester) (s : State) : Host.Outcome State Fault Refusal := s.assocCmd who State.preload

/-- A command on a PENDING entry. -/
def State.onPending (s : State) (idx : Nat) (f : Assoc → State → State) : State :=
  match s.assoc? idx with
  | some e => bif Nat.beq e.state 2 then (f e s).assocDone idx true else s.refuse 0x45 0x41 0x28
  | none => s.refuse 0x45 0x41 0x28

/-- ASSOC_APPROVE. -/
def execAssocApprove (who : Requester) (idx : BitVec 14) (s : State) : Host.Outcome State Fault Refusal :=
  s.assocCmd who (fun s => s.onPending idx.toNat (fun e s => s.admitEntry e e.relay false))

/-- ASSOC_DENY. -/
def execAssocDeny (who : Requester) (idx : BitVec 14) (s : State) : Host.Outcome State Fault Refusal :=
  s.assocCmd who (fun s => s.onPending idx.toNat (fun e s => (s.bump R.ASSOC.CNT0_DENY).denyEntry e))

/-- E5 sends a mesh command with its first attempt at once, so that its route is that of the table as it stands. -/
def State.meshCommandNow (s : State) (dest code : Nat) (body : List Byte) : State :=
  let num := s.msg.nextNum
  (s.meshCommand dest code body).admitMsg num

/-- DELETE (R308): a JOINED node is sent LEAVE before its entry goes. An entry in another state has no row; the codes are the
model's (log entry 22). -/
def State.deleteEntry (s : State) (idx : Nat) : State :=
  match s.assoc? idx with
  | none => s.refuse 0x45 0x40 0x28
  | some e =>
    bif Nat.beq e.state 0 then s.refuse 0x45 0x40 0x28
    else bif Nat.beq e.state 2 then s.refuse 0x45 RC.CONFLICT 0x28
    else
      let s := bif Nat.beq e.state 3 then s.meshCommandNow (idx + 1) 0x04 (leBytes 8 e.ext) else s
      match s.assoc? idx with
      | some e => (s.releaseAssoc e).assocDone idx true
      | none => s

/-- ASSOC_DELETE. -/
def execAssocDelete (who : Requester) (idx : BitVec 14) (s : State) : Host.Outcome State Fault Refusal :=
  s.assocCmd who (fun s => s.deleteEntry idx.toNat)

/-- ASSOC_NEXT_PENDING. -/
def execAssocNextPending (who : Requester) (idx : BitVec 14) (s : State) : Host.Outcome State Fault Refusal :=
  s.assocCmd who (fun s => match s.assoc.table.find? (fun e => Nat.ble idx.toNat e.idx && Nat.beq e.state 2) with
    | some e => s.assocDone e.idx true
    | none => s.assocNotFound)

/-- A new salt from the TRNG. -/
def State.drawSalt (s : State) : State :=
  let b := s.freeBytes 16
  let salt := (BitVec.ofNat 64 (ofLe (b.take 8)), BitVec.ofNat 64 (ofLe (b.drop 8)))
  (({ s with assoc := { s.assoc with salt := some salt } }).spend 16).mirror (.salt salt.1 salt.2)

/-- ASSOC_REHASH (R311): lookups stall until the rebuild ends. -/
def execAssocRehash (who : Requester) (s : State) : Host.Outcome State Fault Refusal :=
  s.assocCmd who (fun s =>
    let s := s.drawSalt
    { s with assoc := { s.assoc with busy := true } }.set R.ASSOC.RES_DONE 0)

/-- REHASH_COMPLETE: the requests that stalled are judged in the order of their arrival. -/
def execRehashComplete (s : State) : Host.Outcome State Fault Refusal :=
  bif s.assoc.busy then
    let waits := s.mesh.relays
    let s := ((({ s with assoc := { s.assoc with busy := false } }).rebuildIndex).spend 64).set R.ASSOC.RES_DONE 1 |>.raise 0x45 4
    let s := { s with mesh := { s.mesh with relays := [] } }
    .next (s.each waits (fun r t => t.joinRequest r.ext r.caps r.pollS r.wake 0 r.ym1))
  else .next s

/-- APPROVE_TIMEOUT (R308). -/
def execApproveTimeout (idx : BitVec 14) (s : State) : Host.Outcome State Fault Refusal :=
  match s.assoc? idx.toNat with
  | some e => .next (bif Nat.beq e.state 2 then (s.bump R.ASSOC.CNT0_TIMEOUT).denyEntry e else s)
  | none => .next s

/-- ENTRY_STALE (R309). -/
def execEntryStale (idx : BitVec 14) (s : State) : Host.Outcome State Fault Refusal :=
  match s.assoc? idx.toNat with
  | some e =>
    let due := Nat.blt (e.seen + 86400 * s.get R.ASSOC.CFG_AGE_D) (s.get R.SYS.OPSEC_SEC)
    .next (bif !Nat.beq e.state 0 && !e.stale && due then
      ((s.putAssoc { e with stale := true }).bump R.ASSOC.CNT1_STALE).raise 0x45 3 else s)
  | none => .next s

/-! ### Snapshots (R313, R314) -/

/-- 36-byte records that the 3 MiB log holds. -/
abbrev SNAPLOG : Nat := 3 * 2 ^ 20 / 36

def snapSeq : Option SnapBase → Nat
  | some b => b.seq
  | none => 0

/-- A new base goes into the older copy, and the log is erased (R314). -/
def State.snapBase (s : State) : State :=
  let a := s.assoc
  let q := max (snapSeq a.snapA) (snapSeq a.snapB) + 1
  let b : SnapBase := { seq := q, salt := a.salt.getD (0, 0), table := a.table }
  let a := bif Nat.blt (snapSeq a.snapB) (snapSeq a.snapA) then { a with snapB := some b } else { a with snapA := some b }
  ({ s with assoc := { a with snapLog := [], dirty := [] } }).set R.ASSOC.SNAPSTAT_SEQ q

/-- Changed entries go to the log; a full log, or one without a base before it, makes a new base. -/
def State.snapAppend (s : State) : State :=
  let a := s.assoc
  let l := a.dirty.filterMap s.assoc?
  bif l.isEmpty then s
  else bif (a.snapA.isNone && a.snapB.isNone) || Nat.blt SNAPLOG (a.snapLog.length + l.length) then s.snapBase
  else { s with assoc := { a with snapLog := a.snapLog ++ l, dirty := [] } }

/-- SNAPSTOT_APPEND. -/
def execSnapstotAppend (s : State) : Host.Outcome State Fault Refusal :=
  .next (bif s.enabled 0x45 then s.snapAppend else s)

/-- The table as its bytes stand in bank 0 (R313, source 1). -/
def State.bank0Ok (s : State) : Bool :=
  s.assoc.live && s.assoc.salt.isSome &&
    (s.assoc.table.filter (fun e => !Nat.beq e.state 0)).all (fun e => s.sramList (0x20000000 + 32 * e.idx) 32 == s.assocBytes e)

/-- A record of the log replaces its entry. -/
def replay (table : List Assoc) (e : Assoc) : List Assoc :=
  let rest := table.filter (fun (o : Assoc) => !Nat.beq o.idx e.idx)
  rest.filter (fun (o : Assoc) => Nat.blt o.idx e.idx) ++ e :: rest.filter (fun (o : Assoc) => Nat.blt e.idx o.idx)

/-- Every entry is written to bank 0. -/
def State.storeTable (s : State) : State := s.each s.assoc.table (fun e t => t.assocStore e.idx)

/-- TABLE_RESTORE_COMPLETE (R313). -/
def execTableRestoreComplete (s : State) : Host.Outcome State Fault Refusal :=
  bif !s.bit R.ASSOC.STAT_RESTORING then .next s
  else
    let s := s.set R.ASSOC.STAT_RESTORING 0
    let newerB := Nat.blt (snapSeq s.assoc.snapA) (snapSeq s.assoc.snapB)
    let seq := max (snapSeq s.assoc.snapA) (snapSeq s.assoc.snapB)
    bif s.bank0Ok then .next ((s.rebuildIndex.spend 64).setAll [(R.ASSOC.SNAPSTAT_SRC, 0), (R.ASSOC.SNAPSTAT_SEQ, seq)])
    else match bif newerB then s.assoc.snapB else s.assoc.snapA with
      | some b =>
        let table := s.assoc.snapLog.foldl replay b.table
        let s := { s with assoc := { s.assoc with table := table, salt := some b.salt, live := true, dirty := [] } }
        .next (((s.rebuildIndex.spend 64).storeTable).setAll [(R.ASSOC.SNAPSTAT_SRC, bif newerB then 2 else 1),
          (R.ASSOC.SNAPSTAT_SEQ, seq)])
      | none =>
        let s := { s with assoc := { s.assoc with table := [], index := [], live := true, dirty := [] } }
        .next (s.setAll [(R.ASSOC.SNAPSTAT_SRC, 3), (R.ASSOC.SNAPSTAT_SEQ, 0)])

end Sys2Proof.Machine
end

