-- ==== Sys2Proof/Machine/Attest.lean ====
section
/-!
DEFINITION. Attestation over the network (R509), and the end of an operation at the public-key unit (R498, R507, R508).
-/

namespace Sys2Proof.Machine

open Sys2Proof

/-- E7 submits the RSP of a quote request, in the REQ's class. -/
def State.quoteAnswer (s : State) (q : QuoteReq) (body : List Byte) : State :=
  let m := s.newMsg 7 0 q.peer q.cls 2 0x03 body q.msgid
  let s := { s with msg := { s.msg with nextNum := s.msg.nextNum + 1 } }
  (s.enterMsg m).gate (.message m) none (·.sendDone m)

/-- The two octets that refuse a quote. -/
def State.quoteRefuse (s : State) (q : QuoteReq) (reason : Nat) : State := s.quoteAnswer q (leBytes 1 0xFF ++ leBytes 1 reason)

/-- The request that an offer of PTYPE 0x03 spells. -/
def quoteReq (o : Offer) : QuoteReq :=
  { peer := o.peer, msgid := o.msgid, cls := o.cls, nonce := o.body.drop 2, mask := (o.body.getD 1 0).toNat }

/-- A request's body is well formed: NONCELEN 8-32, a slot selected, the length 2 + NONCELEN. -/
def quoteOk (o : Offer) : Bool :=
  let n := (o.body.getD 0 0).toNat
  Nat.ble 8 n && Nat.ble n 32 && !Nat.beq (o.body.getD 1 0).toNat 0 && Nat.beq o.body.length (2 + n)

/-- ATTEST_REQUEST: E7 takes the REQ at the head of its mailbox and queues the quote; another kind of message on its port is taken
without an answer. -/
def execAttestRequest (s : State) : Host.Outcome State Fault Refusal :=
  let s := State.mailSkip 7 8 s
  match s.engines.e7.mailbox, s.msg.offers.find? (fun o => Nat.beq o.who 7 && !Nat.beq o.ends 0) with
  | _ :: _, some o =>
    let t := s.mailPop 7
    let q := quoteReq o
    .next (bif !Nat.beq o.kind 1 then t
      else bif !quoteOk o then t.quoteRefuse q RC.BAD_VALUE
      else bif t.noEntropy then t.quoteRefuse q 0x41
      else t.pkeQueue ⟨7, 3, 0, 0, [], some q⟩)
  | _, _ => .next s

/-- The operation at the head ends: E7's quote goes to its requester, the host's operation shows DONE, a mailbox request is answered. -/
def State.pkeEnd (s : State) (op : PkeOp) : State :=
  let gone (t : State) : State := { t with garnet := { t.garnet with pke := s.garnet.pke.drop 1 } }.pkeGrant
  match op.quote with
  | some q =>
    let r := s.sign (sha384 op.taken)
    (gone r.1).quoteAnswer q (op.taken ++ r.2)
  | none =>
    let r := s.pkeRun op
    let t := gone r.1
    bif Nat.beq op.who HOST then (t.set R.PKE.STAT_BUSY 0).raise 0x52 0
    else t.answer 7 op.who 0xB2 op.tag r.2 0 0 0

/-- PKE_COMPLETE (R498): the operation at the head ends; outputs are written before DONE is set. -/
def execPkeComplete (s : State) : Host.Outcome State Fault Refusal :=
  match s.garnet.pke with
  | [] => .next s
  | op :: _ => .next (s.pkeEnd op)

end Sys2Proof.Machine
end

