-- ==== Sys2Proof/Machine/Radio.lean ====
section
/-!
DEFINITION. The PHY engines (R163, R223): what a medium does between arming and the end of a transmission, an RF chain's
calibration (R168-R172), power and access rules (R173-R182), tuner (R176, R177) and packet detection (R196-R206).
-/

namespace Sys2Proof.Machine

open Sys2Proof

/-! ### PHY states -/

/-- What ran on a medium is over, and the medium IDLE (R163, R223): an activity armed while a frame was received past its window stays armed
(R164, R167, R226, R258). -/
def State.over (s : State) (m : Medium) : State :=
  let a := s.air m
  let t := s.rest m
  bif a.winOpen then t
  else t.modAir m (fun k => { k with armed := a.armed, deferred := a.deferred,
                                     overTo := (match a.armed with | .tx _ => a.overTo | .idle => 0 | .rx _ _ _ => 0) })

/-- Back to listening in an open window, else to IDLE (R198, R225). -/
def State.relisten (s : State) (m : Medium) : State :=
  let a := s.air m
  bif a.winOpen then
    let s := s.modAir m (fun a => { a with det := .none, bank := false, phr := none, overTo := 0 })
    (bif !isPlc m && Nat.beq s.bankCh (medIdx m + 1) then s.set R.PHYRF.STAT_HOLD 7 else s).setPhy m 3
  else s.over m

/-- A medium transmits: a frame, a response, or a wake call (R184). -/
def State.sends (s : State) (m : Medium) : Bool :=
  (s.air m).sending.isSome || (s.air m).acking || (decide (m = .rfA) && s.radio.calling.isSome)

/-- Some transmission runs. -/
def State.anySending (s : State) : Bool := media3.any s.sends

/-- The class of a frame by its number; BULK where it is gone. -/
def State.clsOf (s : State) (num : Nat) : Nat := match s.frame? num with | some f => f.cls | none => 3

/-! ### Calibration (R168-R172) -/

/-- XO trim: at the next slot boundary (R171), or at once while no slots run. -/
def State.trimXo (s : State) (code temp : Nat) : State :=
  bif Nat.beq (s.get R.SCHED.STAT_TIMING) 0 then s.setAll [(R.RFCAL.XOTRIM_CODE, code), (R.RFCAL.XOTRIM_TEMP, temp)]
  else { s with radio := { s.radio with xoDue := some (code, temp) } }

/-- A calibration step's result, or what stays: the previous one, at the first run the factory's (R172). -/
def State.calSet (s : State) (c : Chain) (l : List (Fld × Nat × Nat)) (ok : Bool) : State :=
  bif ok then s.setAll (l.map (fun x => (x.1, x.2.1)))
  else bif (s.chain c).hasCal then s
  else s.setAll (l.map (fun x => (x.1, (Config.factoryCal (chainIdx c) x.2.2).toNat)))

/-- Steps `lo` to `hi` - 1 of a run, in the order of R168. -/
def State.calSteps (s : State) (c : Chain) (lo hi : Nat) (r : CalResult) : State :=
  let i := chainIdx c
  let on (k : Nat) : Bool := Nat.ble lo k && Nat.blt k hi
  let s := bif on 0 then
      (match r.xo with
        | some x => s.trimXo x.toNat r.temp.toNat
        | none => bif (s.chain c).hasCal then s else s.trimXo (Config.factoryCal i 6).toNat r.temp.toNat)
    else s
  let s := bif on 1 then
      (((s.calSet c [(R.RFCAL.SYN_VCO i, (match r.vco with | some v => v.toNat | none => 0), 5)] r.vco.isSome).bumpWrap
        (R.RFCAL.SYN_CALCNT i)).setBit (R.RF.STAT_LOCK i) r.vco.isSome)
    else s
  let s := bif on 2 then s.calSet c [(R.RFCAL.FILT_BW i, (match r.filt with | some v => v.toNat | none => 0), 2)] r.filt.isSome else s
  let s := bif on 3 then
      let v := r.img.getD (0, 0)
      s.calSet c [(R.RFCAL.IMG_GAIN i, v.1.toNat, 0), (R.RFCAL.IMG_PHASE i, v.2.toNat, 1)] r.img.isSome
    else s
  bif on 4 then
    let v := r.dc.getD (0, 0)
    s.calSet c [(R.RFCAL.DC_I i, v.1.toNat, 3), (R.RFCAL.DC_Q i, v.2.toNat, 4)] r.dc.isSome
  else s

/-- The first step of `lo` to `hi` - 1 that missed its pass limit: its row in the table of R168. -/
def calFailed (lo hi : Nat) (r : CalResult) : Option Nat :=
  let ok : List Bool := [r.xo.isSome, r.vco.isSome, r.filt.isSome, r.img.isSome, r.dc.isSome]
  (List.range 5).find? (fun k => Nat.ble lo k && Nat.blt k hi && !ok.getD k true)

def failFld (c : Chain) : Fld := match c with | .a => R.RFCAL.STAT_FAIL_A | .b => R.RFCAL.STAT_FAIL_B
def failRunFld (c : Chain) : Fld := match c with | .a => R.RFCAL.STAT_FAILRUN_A | .b => R.RFCAL.STAT_FAILRUN_B
def busyFld (c : Chain) : Fld := match c with | .a => R.RFCAL.STAT_BUSY_A | .b => R.RFCAL.STAT_BUSY_B
def tempFld (c : Chain) : Fld := match c with | .a => R.RFCAL.STAT_TEMP_CAL_A | .b => R.RFCAL.STAT_TEMP_CAL_B

/-- A chain leaves service after three failed runs or lock failures (R163, R172); E8 writes RF_SVC_LOST. In SERVICE the RFB domain is OFF
while its medium is out of service (R105). -/
def State.chainLost (s : State) (c : Chain) (step : Nat) : State :=
  let p := medPage (chainMed c)
  let s := ((s.quiet (chainMed c)).set (R.RF.STAT_CH_ST (chainIdx c)) 0).setAll [(R.HDR.ST p, 4), (busyFld c, 0)]
  let s := s.modChain c (fun x => { x with calDue := false, tempRun := false, tempNeed := false, tempWait := 0, tempStep := 0,
                                           tempBad := none, lockFails := 0 })
  let s := (s.raise p 2).record 8 0x30 (leBytes 1 (chainIdx c) ++ leBytes 1 step ++ zeros 6)
  s.onlyIf (decide (c = .b) && decide (s.mode = .service)) (fun s => (s.modChain .b (fun _ => ChainSt.reset)).domDown 18)

/-- A run ends: FAIL, FAILRUN, TEMP_CAL, DONE, and IDLE or out of service. -/
def State.calEnd (s : State) (c : Chain) (failed : Option Nat) (r : CalResult) : State :=
  let s := s.modChain c (fun x => { x with hasCal := true, tempRun := false, tempStep := 0, tempWait := 0, tempBad := none,
                                           tempNeed := failed.isSome })
  let s := (s.setAll [(busyFld c, 0), (tempFld c, r.temp.toNat), (RF_ST c, 2)]).raise 0x32 (chainIdx c)
  match failed with
  | none => s.setAll [(failFld c, 0), (failRunFld c, 0)]
  | some k =>
    let n := min 3 (s.get (failRunFld c) + 1)
    let s := (s.setAll [(failFld c, 1), (failRunFld c, n)]).raise (medPage (chainMed c)) 1
    bif Nat.ble 3 n then s.chainLost c k else s
where RF_ST (c : Chain) : Fld := R.RF.STAT_CH_ST (chainIdx c)

/-- A chain runs a set: the full one, or the temperature set; its domain wakes for it (R107, R169). -/
def State.calStart (s : State) (c : Chain) (temp : Bool) : State :=
  let s := (s.wakeFor (medDomain (chainMed c)) 3).1
  let s := s.modChain c (fun x =>
    bif temp then { x with tempRun := true, tempNeed := false, tempWait := 0 }
    else { x with calDue := false, tempRun := false, tempStep := 0, tempBad := none })
  s.setAll [(R.RF.STAT_CH_ST (chainIdx c), 1), (busyFld c, 1)]

/-- CHAIN_CAL_COMPLETE (R163, R168). -/
def execChainCalComplete (c : Chain) (r : CalResult) (s : State) : Host.Outcome State Fault Refusal :=
  bif Nat.beq (s.get (R.RF.STAT_CH_ST (chainIdx c))) 1 && !(s.chain c).tempRun then
    .next ((s.calSteps c 0 5 r).calEnd c (calFailed 0 5 r) r)
  else .next s

/-- Nothing is armed on the chain. -/
def State.gapOn (s : State) (c : Chain) : Bool :=
  Nat.beq (s.get (R.RF.STAT_CH_ST (chainIdx c))) 2 && decide ((s.air (chainMed c)).armed = .idle)

/-- RFCAL.CMD, E0's only: GO runs the full set at the chain's next gap. -/
def State.rfcalCmd (s : State) (who w : Nat) : State :=
  let c : Chain := bif Nat.beq (R.RFCAL.CMD_CHAIN.of w) 0 then .a else .b
  bif !Nat.beq who 0 then s.refuseAccess who RC.NOT_OWNER 0x3220 true
  else bif Nat.beq (R.RFCAL.CMD_GO.of w) 0 || Nat.beq (s.get (R.RF.STAT_CH_ST (chainIdx c))) 0 then s
  else bif s.gapOn c then s.calStart c false
  else s.modChain c (fun x => { x with calDue := true })

/-- RFCAL_RUN. -/
def execRfcalRun (who : Requester) (value : Word) (s : State) : Host.Outcome State Fault Refusal :=
  s.command who 0x32 0x20 (fun s => s.rfcalCmd who value.toNat)

/-- TEMP_CHECK, once a second (R169): `gap` says that the next armed activity is at least 1 ms away. The checks without a gap are counted;
at the sixth, 5 s have passed. -/
def execTempCheck (c : Chain) (temp : Byte) (gap : Bool) (s : State) : Host.Outcome State Fault Refusal :=
  let x := s.chain c
  let st := s.get (R.RF.STAT_CH_ST (chainIdx c))
  let diff := (signed (s.get (tempFld c)) - temp.toInt).natAbs
  let need := x.tempNeed || Nat.ble 8 diff
  bif Nat.beq st 0 || Nat.beq (s.dom (medDomain (chainMed c))) 0 then .next s
  else bif x.calDue && Nat.beq st 2 && gap then .next (s.calStart c false)
  else bif !need || x.tempRun then .next s
  else bif Nat.beq st 2 && gap then .next (s.calStart c true)
  else .next (s.modChain c (fun x => { x with tempNeed := true, tempWait := min 6 (x.tempWait + 1) }))
where signed (b : Nat) : Int := (BitVec.ofNat 8 b).toInt

/-- TEMP_SET_COMPLETE (R169, R170): the steps up to `steps` are done; a set that an ALARM-class transmission stopped goes on at a later
gap. -/
def execTempSetComplete (c : Chain) (steps : Fin 6) (r : CalResult) (s : State) : Host.Outcome State Fault Refusal :=
  let x := s.chain c
  bif !(Nat.beq (s.get (R.RF.STAT_CH_ST (chainIdx c))) 1 && x.tempRun) then .next s
  else
    let t := s.calSteps c x.tempStep steps r
    let bad := match x.tempBad with | some k => some k | none => calFailed x.tempStep steps r
    bif Nat.beq steps 5 then .next (t.calEnd c bad r)
    else
      let alarm := match (s.air (chainMed c)).armed with
        | .tx a => Nat.beq (s.clsOf a.frame) 0
        | .idle => false
        | .rx _ _ _ => false
      bif alarm then
        let t := t.modChain c (fun x => { x with tempRun := false, tempNeed := true, tempWait := 0, tempStep := steps, tempBad := bad })
        .next (t.setAll [(R.RF.STAT_CH_ST (chainIdx c), 2), (busyFld c, 0)])
      else .next s

/-! ### Power and access (R173, R177-R179) -/

def signed8 (b : Nat) : Int := (BitVec.ofNat 8 b).toInt

/-- The effective ceiling in half dBm and the item that sets it (R173, R69, R117, R177); none where nothing may be sent. A last gasp on the
supply's hold-up keeps to +27 dBm on RF-A (R87). -/
def State.ceiling (s : State) (c : Chain) : Option (Int × Nat) :=
  let i := chainIdx c
  let vb := s.get R.PWR.SUPPLY_VBAK
  let base : List (Int × Nat) := [(signed8 (s.get (R.RF.CFG_MAXPWR i)), 0), (bif Nat.beq i 0 then 60 else 40, 1),
    (eirpCeiling s.region - signed8 (s.get (R.RF.CFG_ANTGAIN i)), 2)]
  let outage := decide (s.mode = .outage) && Nat.beq i 0
  let base := bif outage then base ++ [(bif Nat.ble 104 vb then 54 else 40, 3)]
    else bif Nat.beq i 0 && !s.bit R.PWR.SUPPLY_MAINS then base ++ [(54, 3)] else base
  let base := bif s.bit R.PWR.SUPPLY_BROWNOUT then base ++ [(bif Nat.beq i 0 then 48 else 40, 4)] else base
  let least := base.foldl (fun (a : Option (Int × Nat)) x => match a with
    | none => some x
    | some y => bif decide (x.1 < y.1) then some x else some y) none
  bif outage && Nat.blt vb 88 then none
  else match least with
    | none => none
    | some x => bif Nat.beq i 0 && s.bit R.TUNER.STAT_MISMATCH then some (x.1 - 12, 5) else some x

/-- Transmit time of the rolling hour in µs. -/
def State.dutyUsed (s : State) (m : Medium) : Nat :=
  let now := s.get R.SYS.OPSEC_SEC
  (((s.air m).duty.filter (fun d => Nat.blt now (d.1 + 3600))).map (·.2)).sum

/-- The duty rule stops a transmission (R179). -/
def State.dutyStops (s : State) (m : Medium) (alarm : Bool) : Bool :=
  match dutyLimit s.region with
  | none => false
  | some l => bif alarm then Nat.ble (l * 100000) (s.dutyUsed m) else Nat.ble (l * 95000) (s.dutyUsed m)

/-- The dwell rule stops a transmission of `us` µs on a channel. -/
def State.dwellStops (s : State) (m : Medium) (chan us : Nat) : Bool :=
  let now := s.get R.SYS.OPSEC_SEC
  dwellRule s.region s.ret.profile.bandplan &&
    Nat.blt 400000 (us + (((s.air m).dwell.filter (fun d => Nat.beq d.1 chan && Nat.blt now (d.2.1 + 20))).map (·.2.2)).sum)

/-- A transmission of `us` µs enters both sums. -/
def State.noteAir (s : State) (m : Medium) (chan us : Nat) : State :=
  let now := s.get R.SYS.OPSEC_SEC
  s.modAir m (fun a =>
    { a with duty := (a.duty.filter (fun d => Nat.blt now (d.1 + 3600))) ++ [(now, us)],
             dwell := (a.dwell.filter (fun d => Nat.blt now (d.2.1 + 20))) ++ [(chan, now, us)] })

/-- Reasons for an abandoned attempt and their counts (R167, R172, R173, R179, R182, R161). -/
def abnFld (c reason : Nat) : Fld :=
  match reason with
  | 0x40 => R.RF.TXABN0_SYNTH c | 0x41 => R.RF.TXABN0_DUTY c | 0x42 => R.RF.TXABN0_COEX c | 0x43 => R.RF.TXABN0_CCA c
  | 0x44 => R.RF.TXABN1_SPACING c | 0x45 => R.RF.TXABN1_CAL c | _ => R.RF.TXABN1_SUPPLY c

/-- An attempt is abandoned: its frame stays queued with its sequence number, and the estimate is unchanged. -/
def State.abandon (s : State) (c : Chain) (reason : Nat) : State :=
  let p := medPage (chainMed c)
  ((((s.rest (chainMed c)).set (R.HDR.REASON p) reason).bump (abnFld (chainIdx c) reason)).raise p 0)

/-- The carrier in kHz of a channel number as STAT.CHAN shows it: 255 stands for the frequency of wake calls where it is no channel of the plan,
which is the model's choice (log entry 107). -/
def State.carrier (s : State) (chan : Nat) : Nat := bif Nat.beq chan 255 then s.get R.MICA.CFG_FREQ else s.chanKHz chan

/-- The sub-band of a channel (R176). -/
def State.subBand (s : State) (chan : Nat) : Nat := (s.carrier chan - 779000) / 4000

/-- The coupler's measurement on a transmission of RF-A (R176, R177): every 16th one in a sub-band tries the neighbouring state,
upward and downward in turn, and keeps it if the return loss improves by 0.5 dB. -/
def State.tuner (s : State) (chan rl : Nat) : State :=
  let sb := s.subBand chan
  let x := s.radio.chA
  let n := x.subTx.look sb + 1
  let cur := s.get (R.TUNER.TABLE sb)
  let trial := Nat.beq (n % 16) 0
  let try_ := bif Nat.beq (n / 16 % 2) 1 then min 63 (cur + 1) else cur - 1
  let last := x.lastLoss.look sb
  let keep := trial && Nat.blt 0 last && Nat.ble (last - 1 + 2) rl
  let loss := bif trial && !keep then last else rl + 1
  let s := s.modChain .a (fun x => { x with subTx := x.subTx.put sb (n % 32), lastLoss := x.lastLoss.put sb loss })
  let s := s.setAll [(R.TUNER.STAT_STATE, bif trial then try_ else cur), (R.TUNER.STAT_RL, rl),
    (R.TUNER.TABLE sb, bif keep then try_ else cur)]
  let was := s.bit R.TUNER.STAT_MISMATCH
  let s := bif Nat.ble rl 24 then (s.set R.TUNER.STAT_MISMATCH 1).raise 0x33 0 else s
  bif was || Nat.ble rl 24 then s.bump R.TUNER.MMCNT_COUNT else s

/-! ### Frames on their way out (R276, R279, R280) -/

/-- The unicast number of a neighbour goes to the partner when it has advanced by 8 since the last record (R362). -/
def State.mirrorSeq (s : State) (n : Nbr) : State :=
  let sent := s.pair.nbrsSent.find? (fun o => Nat.beq o.idx n.idx)
  let due := match sent with | some o => Nat.ble 8 ((n.txseq + 256 - o.txseq) % 256) | none => true
  bif s.mirroring && due then
    let t := s.mirror (.seqNo (BitVec.ofNat 8 n.idx) (BitVec.ofNat 8 (n.txseq + 255)))
    let l := t.pair.nbrsSent.map (fun o => bif Nat.beq o.idx n.idx then { o with txseq := n.txseq } else o)
    { t with pair := { t.pair with nbrsSent := bif sent.isSome then l else l ++ [n] } }
  else s

/-- A frame gets its sequence number at its first attempt. -/
def State.giveSeq (s : State) (f : LinkFrame) : State :=
  bif f.seq.isSome then s
  else match s.nbrOf f with
    | some n =>
      let s := s.modFrame f.num (fun f => { f with seq := some n.txseq })
      let n := { n with txseq := (n.txseq + 1) % 256 }
      (s.setNbr n).mirrorSeq n
    | none =>
      let s := s.modFrame f.num (fun f => { f with seq := some s.sched.bcSeq })
      { s with sched := { s.sched with bcSeq := (s.sched.bcSeq + 1) % 256 } }

/-- The key slot of a frame: the join key's, the one of its first attempt, or TXKEY.NET. -/
def State.keyFor (s : State) (f : LinkFrame) : Option Nat :=
  bif f.joinKey then s.slotOf 0xFF
  else
    let i := f.key.getD (s.get R.LINKSEC.TXKEY_NET)
    bif (s.key i).valid then some i else none

/-- A frame waits for a counter value (R281): KEYWAIT counts it once. -/
def State.keyWait (s : State) (f : LinkFrame) : State :=
  (s.modFrame f.num (fun f => { f with waits := true })).onlyIf (!f.waits) (·.bump R.LINKSEC.CNT_KEYWAIT)

/-- A frame gets its key, counter and sequence number for a transmission; the second copy of an ALARM pair shares the counter (R280).
None while no counter is to be had. -/
def State.giveCounter (s : State) (f : LinkFrame) : State × Bool :=
  bif f.ctr.isSome then (s, true)
  else match s.keyFor f with
    | none => (s, false)
    | some i =>
      let r := s.takeCounter i
      match r.2 with
      | none => (r.1.keyWait f, false)
      | some v =>
        let s := (r.1.giveSeq f).modFrame f.num (fun f =>
          { f with ctr := some v, key := some i, tries := f.tries + 1, waits := false })
        (s, true)

/-- Frames that wait may go on once their slot has a value again. -/
def State.unwait (s : State) : State :=
  s.each (s.sched.queue.filter (fun f => f.waits)) (fun f t =>
    match t.keyFor f with
    | none => t
    | some i =>
      let t := t.openBlock i
      bif Nat.blt (t.key i).counter (t.key i).blockEnd then t.modFrame f.num (fun f => { f with waits := false }) else t)

/-! ### Arming and windows (R163, R204, R258, R266) -/

/-- A medium's chain. -/
def medChain : Medium → Option Chain
  | .rfA => some .a | .rfB => some .b | .plc => none

/-- The chain's synthesiser is on another channel. -/
def State.retunes (s : State) (c : Chain) (chan : Nat) : Bool := !Nat.beq (s.get (R.RF.STAT_CHAN (chainIdx c))) chan

/-- A synthesiser calibration that locks, at a change of channel and in every turnaround (R165). -/
def State.tune (s : State) (c : Chain) (chan : Nat) (always : Bool) : State :=
  let i := chainIdx c
  bif always || s.retunes c chan then
    (((s.bumpWrap (R.RFCAL.SYN_CALCNT i)).setAll [(R.RF.STAT_CHAN i, chan), (R.RF.STAT_LOCK i, 1)])).modChain c (fun x => { x with lockFails := 0 })
  else s

/-- The synthesiser does not lock (R172): its activity is abandoned with CAL_FAIL, and at the third failure in a row the chain leaves
service. -/
def State.lockFailed (s : State) (c : Chain) : State :=
  let i := chainIdx c
  let n := (s.chain c).lockFails + 1
  let s := (((s.bumpWrap (R.RFCAL.SYN_CALCNT i)).set (R.RF.STAT_LOCK i) 0).modChain c (fun x => { x with lockFails := n })).abandon c 0x45
  bif Nat.ble 3 n then s.chainLost c 1 else s

/-- The carriers in kHz that a chain uses or is armed to use. -/
def State.carriers (s : State) (c : Chain) : List Nat :=
  let m := chainMed c
  let armed := match (s.air m).armed with | .tx t => [s.chanKHz t.chan] | .rx _ ch _ => [s.chanKHz ch] | .idle => []
  armed ++ (bif Nat.ble 3 (s.phy m) then [s.carrier (s.get (R.RF.STAT_CHAN (chainIdx c)))] else [])

/-- The chains' carriers lie at least 2 MHz apart (R161). -/
def State.spaced (s : State) : Bool :=
  (s.carriers .a).all (fun a => (s.carriers .b).all (fun b => Nat.ble 2000 (bif Nat.ble a b then b - a else a - b)))

/-- RF-B's activity does not run where the chains' would lie less than 2 MHz apart (R161). A frame that RF-B is receiving or sending goes on to
its end (R164), without the activity armed behind it. -/
def State.spaceOut (s : State) : State :=
  bif s.spaced then s
  else bif Nat.ble 4 (s.phy .rfB) then
    match (s.air .rfB).armed, (s.air .rfB).sending with
    | .tx _, none => (((s.modAir .rfB (fun a => { a with armed := .idle, deferred := false })).set (R.HDR.REASON 0x31) 0x44).bump
        (abnFld 1 0x44)).raise 0x31 0
    | _, _ => s
  else (s.dropSent .rfB).abandon .b 0x44

/-- A profile searches with the bank: SEARCH, in the reduced configuration (R203). -/
def State.isSearch (s : State) (prof : Nat) : Bool := Nat.beq (s.now (R.PHYRF.PROF_CFG_MODE prof)) 0xF

/-- The profile whose thresholds and mode a window uses: a SEARCH one gives way to the fallback (R204, R206). -/
def State.rxProf (s : State) (c : Chain) : Nat :=
  let p := (s.air (chainMed c)).prof
  bif s.isSearch p then s.fallback (chainIdx c) else p

/-- A receive window opens. RF-A takes the bank from a RF-B that has found nothing yet (R204). -/
def State.openWindow (s : State) (m : Medium) (chan prof : Nat) : State :=
  let s := match medChain m with | some c => s.tune c chan false | none => s
  let s := s.modAir m (fun a => { a with winOpen := true, det := .none, bank := false, prof := prof, alarmRx := false, phr := none })
  let takes := Nat.beq s.bankCh 0 || (Nat.beq (medIdx m) 0 && !(Nat.beq s.bankCh 2 && (s.air .rfB).bank))
  let s := bif !isPlc m && s.reduced && s.isSearch prof && takes then
      s.setAll [(R.PHYRF.STAT_BANKCH, medIdx m + 1), (R.PHYRF.STAT_HOLD, 7)]
    else s
  s.setPhy m 3

/-- A window of a cell or a scan opens, where the synthesiser locks on its channel (R172). -/
def State.listen (s : State) (m : Medium) (chan prof : Nat) (lock : Bool) : State :=
  match medChain m with
  | some c => bif !lock && s.retunes c chan then s.lockFailed c else s.openWindow m chan prof
  | none => s.openWindow m chan prof

/-- The medium listens for beacons (R301, R302): a scan, an ORPHAN's scan, or a joiner without timing. -/
def State.scansOn (s : State) (m : Medium) : Bool :=
  let mask := s.get R.MESH.SCAN_MEDIA
  let own := Nat.beq s.joinSt 1 || (Nat.beq s.joinSt 3 && Nat.beq (s.get R.SCHED.STAT_TIMING) 0)
  s.serviceable m && ((own && (mask.testBit (medIdx m))) || s.mesh.scanning)

/-- The channel on which a medium scans. -/
def State.scanChan (s : State) (m : Medium) : Option Nat :=
  let c := s.get R.MESH.SCAN_CHAN
  match m with | .rfA => some c | .rfB => s.chanB c | .plc => some 0

/-- The profile of a scan: a SEARCH one, or the fallback in the full configuration (R301). -/
def State.scanProf (s : State) (m : Medium) : Nat :=
  let fb := s.fallback (medIdx m)
  bif !s.reduced then fb else ((List.range 16).find? s.isSearch).getD fb

/-- E4 wakes a medium's domain ahead of an activity; RFA also for RF-B while COEX is ENABLED (R180). -/
def State.wakeMedium (s : State) (m : Medium) : State :=
  let s := (s.wakeFor (medDomain m) 3).1
  bif s.enabled 0x35 && Nat.beq (medIdx m) 1 then (s.wakeFor 17 3).1 else s

/-- The temperature set takes a cell that carries no ALARM-class frame (R169). -/
def State.tempTakes (s : State) (m : Medium) : Option Chain :=
  match medChain m with
  | none => none
  | some c =>
    let alarm := match (s.air m).armed with | .tx a => Nat.beq (s.clsOf a.frame) 0 | .idle => true | .rx _ _ _ => false
    bif (s.chain c).tempNeed && Nat.ble 6 (s.chain c).tempWait && !alarm && Nat.beq (s.phy m) 2 then some c else none

/-- What CELL_ARM does with the armed activity; `lock` says that the synthesiser locks where it is calibrated for a window. The neighbour
number 257 is the alarm cell's window. -/
def State.armed (s : State) (m : Medium) (lock : Bool) : State :=
  match (s.air m).armed with
  | .tx _ => s
  | .idle =>
    bif s.scansOn m && Nat.beq (s.phy m) 2 then
      match s.scanChan m with
      | some ch => s.listen m ch (s.scanProf m) lock
      | none => s
    else s
  | .rx nbr chan prof =>
    bif !Nat.beq (s.phy m) 2 then s
    else match s.nbr? nbr with
      | none => (s.listen m chan prof lock).modAir m (fun a => { a with alarmRx := a.winOpen && Nat.beq nbr 257 })
      | some n =>
        let wide := s.sched.resyncs.any (fun r => Nat.beq r.nbr nbr)
        let g := s.guardUs n
        bif wide then s.listen m chan prof lock
        else bif Nat.blt (s.get R.SCHED.GUARD_CAP_US) g then (s.rest m).markUnsync nbr
        else (s.setNbr { n with guard := g }).listen m chan prof lock

/-- CELL_ARM (R163, R172, R204, R258, R266). -/
def execCellArm (m : Medium) (lock : Bool) (s : State) : Host.Outcome State Fault Refusal :=
  bif decide ((s.air m).armed = .idle) && !s.scansOn m then .next s
  else match s.tempTakes m with
    | some c =>
      let f := match c with | .a => R.RFCAL.PREEMPT_A | .b => R.RFCAL.PREEMPT_B
      .next (((s.rest m).bump f).calStart c true)
    | none => .next ((s.wakeMedium m).armed m lock).spaceOut

/-! ### Detection (R197-R199, R203-R205) -/

/-- The bank searches for this chain. -/
def State.onBank (s : State) (c : Chain) : Bool := Nat.beq s.bankCh (chainIdx c + 1)

/-- The energy threshold in dBm (R197). -/
def State.edThr (s : State) (c : Chain) : Int :=
  let ed := s.now (R.PHYRF.PROF_THR_ED (s.rxProf c))
  bif Nat.beq ed 0x80 then signed8 (s.get (R.RF.RSSI_FLOOR (chainIdx c))) + 10 else signed8 ed

/-- ENERGY_DETECT. -/
def execEnergyDetect (c : Chain) (rssi : Byte) (s : State) : Host.Outcome State Fault Refusal :=
  let m := chainMed c
  let a := s.air m
  bif Nat.beq (s.phy m) 3 && a.winOpen && decide (a.det = .none) && !s.onBank c && decide (s.edThr c ≤ rssi.toInt) then
    .next (s.modAir m (fun a => { a with det := .energy }))
  else .next s

/-- QUALIFIER_TIMEOUT. -/
def execQualifierTimeout (c : Chain) (s : State) : Host.Outcome State Fault Refusal :=
  let m := chainMed c
  bif decide ((s.air m).det = .energy) then
    .next ((s.modAir m (fun a => { a with det := .none })).bump (R.PHYRF.CNT_FALSE_ED (chainIdx c)))
  else .next s

/-- An offset inside the capture range of ±25 kHz, 10 Hz per count (R196). -/
def afcOk (freq : Half) : Bool := Nat.ble freq.toInt.natAbs 2500

/-- A chain has found a frame (R164, R196, R197, R203): it holds the chain from here. -/
def State.found (s : State) (c : Chain) (bank : Bool) (mode score : Nat) (freq : Int) : State :=
  (s.modAir (chainMed c) (fun a => { a with det := .qualified, bank := bank, mode := mode, score := score, afc := freq })).setPhy (chainMed c) 4

/-- PREAMBLE_QUALIFIED: a score that reaches the threshold and an offset in range. An awaited acknowledgement comes in the mode of its frame. -/
def execPreambleQualified (c : Chain) (score : Byte) (freq : Half) (s : State) : Host.Outcome State Fault Refusal :=
  let a := s.air (chainMed c)
  bif decide (a.det = .energy) && Nat.ble (s.now (R.PHYRF.PROF_THR_QUAL (s.rxProf c))) score.toNat && afcOk freq then
    .next (s.found c false (bif a.await.isSome then a.mode else (s.profile (s.rxProf c)).1) score.toNat freq.toInt)
  else .next s

/-- The rank of a lane in PRIO. -/
def State.lanePrio (s : State) (l : Nat) : Nat :=
  ((List.range 6).find? (fun i => Nat.beq (s.now R.PHYRF.PRIO_ORDER / 8 ^ i % 8) l)).getD 6

/-- The lane that wins a tick: the higher score, then PRIO (R205). -/
def State.laneWinner (s : State) : List (Nat × Nat) → Option (Nat × Nat)
  | [] => none
  | (l, v) :: rest =>
    match s.laneWinner rest with
    | none => some (l, v)
    | some (k, w) =>
      bif Nat.blt w v || (Nat.beq v w && Nat.blt (s.lanePrio l) (s.lanePrio k)) then some (l, v) else some (k, w)

/-- LANE_DETECT (R196, R203-R205): the lanes that reach their thresholds in one tick with an offset in range. -/
def execLaneDetect (hits : List (Fin 6 × Byte × Half)) (s : State) : Host.Outcome State Fault Refusal :=
  let c : Chain := bif Nat.beq s.bankCh 1 then .a else .b
  let m := chainMed c
  let good := hits.filter (fun (h : Fin 6 × Byte × Half) =>
    s.laneOn h.1.val && Nat.ble (s.now (R.PHYRF.SCORE_T h.1.val)) h.2.1.toNat && afcOk h.2.2)
  let l := good.map (fun h => (h.1.val, h.2.1.toNat))
  bif Nat.beq s.bankCh 0 || !(s.air m).winOpen && !(s.air m).bank then .next s
  else bif !Nat.beq (s.get R.PHYRF.STAT_HOLD) 7 then
    bif l.isEmpty then .next s else .next ((s.bump R.PHYRF.SRCHCNT_LOSTDET l.length).raise 0x38 2)
  else match s.laneWinner l with
    | none => .next s
    | some (lane, v) =>
      let tie := Nat.blt 1 (l.filter (fun (h : Nat × Nat) => Nat.beq h.2 v)).length
      let freq : Int := match good.find? (fun h => Nat.beq h.1.val lane) with | some h => h.2.2.toInt | none => 0
      let s := { s with sched := { s.sched with bank := l } }
      let s := (s.set R.PHYRF.STAT_HOLD lane).bump R.PHYRF.SRCHCNT_DET
      let s := bif tie then s.bump R.PHYRF.SRCHCNT_TIE else s
      .next (s.found c true (s.laneMode lane) v freq)

/-- SFD_DETECTED: the receive timestamp is stored (R201). -/
def execSfdDetected (c : Chain) (slotUs : Half) (s : State) : Host.Outcome State Fault Refusal :=
  let m := chainMed c
  .next (bif decide ((s.air m).det = .qualified) then
    s.modAir m (fun a => { a with det := .sfd, stampUs := slotUs.toNat, stampAsn := s.sched.asn }) else s)

/-- SFD_TIMEOUT (R198, R205). -/
def execSfdTimeout (c : Chain) (s : State) : Host.Outcome State Fault Refusal :=
  let m := chainMed c
  .next (bif decide ((s.air m).det = .qualified) then (s.relisten m).bump (R.PHYRF.CNT_SFD_TO (chainIdx c)) else s)

def ovrFld : Medium → Fld
  | .rfA => R.PHYRF.OVRCNT_A | .rfB => R.PHYRF.OVRCNT_B | .plc => R.PHYRF.OVRCNT_B

/-- A frame runs into `past` slots after this one, past its cell (R195): what is armed behind it and has not started is suppressed. -/
def State.runsOn (s : State) (m : Medium) (past : Nat) : State :=
  let a := s.air m
  let s := s.modAir m (fun a => { a with overTo := max a.overTo (s.sched.asn + 1 + past) })
  bif a.winOpen || decide (a.armed = .idle) then s
  else ((s.modAir m (fun a => { a with armed := .idle, deferred := false, spanTo := s.sched.asn })).bump (ovrFld m)).raise 0x38 1

/-- PHR_RECEIVED (R188-R192, R195, R199): `past` slots after this one are taken past the cell's end. -/
def execPhrReceived (c : Chain) (phr : Phr) (past : BitVec 6) (s : State) : Host.Outcome State Fault Refusal :=
  let m := chainMed c
  bif !decide ((s.air m).det = .sfd) then .next s
  else bif phrBad (s.air m).mode phr then .next ((s.relisten m).bump (R.PHYRF.CNT_PHR_ERR (chainIdx c)))
  else
    let s := s.modAir m (fun a => { a with det := .phr, phr := some phr })
    .next (bif Nat.beq past.toNat 0 then s else s.runsOn m past.toNat)

/-- A window closes: a qualified frame, on PLC a detected one, is received to its end (R164, R223). An awaited acknowledgement ends its own way
(R284). -/
def State.closeWindow (s : State) (m : Medium) : State :=
  let a := s.air m
  bif !a.winOpen || a.await.isSome then s
  else bif decide (a.det = .none) || (decide (a.det = .energy) && !isPlc m) then s.rest m
  else s.modAir m (fun a => { a with winOpen := false, armed := .idle })

/-- RX_WINDOW_CLOSE. -/
def execRxWindowClose (c : Chain) (s : State) : Host.Outcome State Fault Refusal := .next (s.closeWindow (chainMed c))

/-! ### Transmitting (R163, R166, R167, R173, R179, R182) -/

/-- The cell of an attempt. -/
def Attempt.cell (a : Attempt) : Cell :=
  { idx := 0, sf := 0, slot := 0, choff := 0, len := a.len, type := bif a.shared then 3 else 1, nbr := a.nbr, txoff := a.txoff, profA := a.prof,
    profB := a.prof, media := 7, outage := true, migrated := false, state := 1 }

/-- Airtime in µs of the frame of an attempt, with a tone-map IE of `tone` octets. -/
def State.frameUs (s : State) (m : Medium) (a : Attempt) (f : LinkFrame) (tone : Nat) : Nat := (s.exchange m a.cell f tone).1 / 1000

/-- Frames wait for a sleepy child here beside the frame `but`: in the buffer, or already released to the link queue (R283, R324). -/
def State.pendingFor (s : State) (n : Nbr) (but : Nat) : Bool :=
  !(s.buffered n.idx).isEmpty || (sleepyChild n && s.sched.queue.any (fun f => Nat.beq f.dest n.idx && !Nat.beq f.num but))

/-- The sync IE of this node (R252). -/
def State.syncIe (s : State) (asn : Nat) (corr : Option Half) : SyncIe :=
  { asn := BitVec.ofNat 40 asn, locked := s.isLocked, outage := decide (s.mode = .outage), sleepy := decide (s.mode = .outage), corr := corr }

/-- A queued frame as it goes out on a medium (R252, R275-R277, R290, R299): what the frame of a YM1 neighbour cannot carry is left out. -/
def State.outFrame (s : State) (m : Medium) (a : Attempt) (f : LinkFrame) (tone : List Byte) : AirFrame :=
  let n := s.nbrOf f
  let ym1 := s.ym1For f
  let wide := f.joinKey || decide (f.kind = .beacon) || Nat.beq f.dest 301
  let pan := match s.mesh.target with | some r => bif f.joinKey && !s.joined then r.pan else s.ownPan | none => s.ownPan
  { version := bif ym1 then 1 else 2, kind := f.kind, pan := BitVec.ofNat 16 pan,
    ext := bif wide then some (BitVec.ofNat 64 s.ownExt) else none, src := bif wide then 0xFFFE else BitVec.ofNat 16 s.ownShort,
    dst := bif Nat.beq f.dest 300 then 0xFFFF else bif Nat.beq f.dest 301 then 0xFFFE
      else match n with | some n => BitVec.ofNat 16 n.short | none => 0xFFFE,
    seq := BitVec.ofNat 8 (f.seq.getD 0), level := BitVec.ofNat 3 (s.levelOf f),
    keyIdx := (match s.keyFor f with | some i => BitVec.ofNat 8 (s.key i).idx | none => 0), counter := BitVec.ofNat 32 (f.ctr.getD 0),
    mic := true, fcs := true, pending := (match n with | some n => s.pendingFor n f.num | none => false),
    sync := bif ym1 then none else some (s.syncIe (s.air m).since none),
    tone := bif tone.isEmpty then none else some tone, mesh := bif ym1 then none else f.mesh, join := bif ym1 then [] else f.join,
    payload := f.payload, len := BitVec.ofNat 11 (s.psduOn m a.cell f tone.length).2 }

/-- The octets of a queued frame as it goes out (R277): to an extended address where it has one, under its key. -/
def State.outOctets (s : State) (m : Medium) (a : Attempt) (f : LinkFrame) (out : AirFrame) : List Byte :=
  let fcs := match medChain m with
    | some c => (let x := s.txMode (chainIdx c) a.prof (s.nbrOf f); fcsLen x.1 x.2.2)
    | none => 4
  let key := match s.keyFor f with | some i => (s.key i).key | none => []
  psduOctets out (bif Nat.beq f.dest 301 then some f.ext else none) s.ownExt key fcs

/-- Mode, preamble and FCS type of what a chain receives, and of its response (R284). -/
def State.rxPhy (s : State) (c : Chain) : Nat × Nat × Bool :=
  let p := s.profile (s.rxProf c)
  ((s.air (chainMed c)).mode, p.2.1, p.2.2)

/-- The response that is due goes to a YM1 node: an Immediate Acknowledgement in the YM1 mode (R290). -/
def State.ackYm1 (s : State) (m : Medium) : Bool := !isPlc m && Nat.beq (s.air m).mode 3

/-- MODE and set of the response on PLC to a neighbour's frame in FCH MODE `mode` (R284). -/
def State.ackSet (s : State) (nbr mode : Nat) : Nat × Option ToneSet :=
  match s.plcMode nbr with
  | (_, some t) => bif Nat.beq mode 0 then (0, none) else bif Nat.beq mode 1 || t.flat.isSome then (mode, some t) else (0, none)
  | (_, none) => (0, none)

/-- The set of the PLC frame that is received from a neighbour. -/
def State.heardSet (s : State) (nbr : Nat) : Nat × Option ToneSet :=
  let a := s.air .plc
  bif Nat.beq a.mode 0 then (0, none)
  else match s.toneSlot nbr with
    | some (_, t) => (a.mode, bif a.bank then t.cur else t.prev)
    | none => (0, none)

/-- PSDU octets and airtime in ns of the response that is due, with a tone-map IE of `tone` octets. -/
def State.ackSize (s : State) (m : Medium) (d : AckDue) (tone : Nat) : Nat × Nat :=
  match medChain m with
  | some c =>
    let x := s.rxPhy c
    let n := s.ackLen (fcsLen x.1 x.2.2) (s.ackYm1 m) tone
    (n, airNs x.1 x.2.1 n)
  | none =>
    let n := s.ackLen 4 false tone
    (n, s.plcNsIn (s.ackSet d.nbr (s.air .plc).mode) ((s.air .plc).stampUs + 350) n)

/-- The end of the frame received, in ns from the slot boundary before its timestamp. -/
def State.rxEndNs (s : State) (m : Medium) (nbr : Nat) : Nat :=
  let a := s.air m
  match medChain m with
  | some c =>
    let x := s.rxPhy c
    let p : Nat × Nat := match a.phr with | some p => (p.mcs.toNat, p.len.toNat) | none => (0, 0)
    a.stampUs * 1000 + (airMcs x.1 x.2.1 p.1 p.2 - preNs x.1 x.2.1)
  | none => a.stampUs * 1000 + (s.plcNsIn (s.heardSet nbr) (a.stampUs - 2560) (a.fch % 1024) - 2560000)

/-- The tone-map IE of the response that is due (R283): what the cell has room for. REQ goes with attempts only (R239). -/
def State.ackTone (s : State) (m : Medium) (d : AckDue) : List Byte × Option (List Nat) :=
  let a := s.air m
  let room (k : Nat) : Bool :=
    let x := s.ackSize m d k
    Nat.ble x.1 (maxPsdu (bif isPlc m then 0 else a.mode)) &&
      Nat.ble (s.rxEndNs m d.nbr + (bif isPlc m then 350000 else 120000) + x.2) (s.slotsNs (a.spanTo - a.stampAsn + s.allowance m))
  bif s.ackYm1 m then ([], none) else s.toneFor d.nbr false room

/-- The acknowledgement that is due (R283, R290), secured with the counter value where one is given. -/
def State.outAck (s : State) (m : Medium) (d : AckDue) (ctr : Option Nat) (tone : List Byte) : AirFrame :=
  let ym1 := s.ackYm1 m
  { version := bif ym1 then 1 else 2, kind := .ack, pan := 0, ext := none, src := 0xFFFE, dst := 0xFFFE, seq := BitVec.ofNat 8 d.seq,
    level := bif ctr.isSome then 1 else 0,
    keyIdx := bif ctr.isSome then BitVec.ofNat 8 (s.key (s.get R.LINKSEC.TXKEY_NET)).idx else 0,
    counter := BitVec.ofNat 32 (ctr.getD 0), mic := ctr.isSome, fcs := true, pending := d.pending,
    sync := bif ym1 then none else some (s.syncIe (s.air m).stampAsn (some (BitVec.ofInt 16 d.corr))),
    tone := bif tone.isEmpty then none else some tone, mesh := none, join := [], payload := [],
    len := BitVec.ofNat 11 (s.ackSize m d tone.length).1 }

/-- The counter value of a response: where ACKSEC = 1 and one is to be had, else none and it goes unsecured (R281, R283, R290). -/
def State.ackCounter (s : State) (m : Medium) : State × Option Nat :=
  bif Nat.beq (s.now R.LINK.CFG_ACKSEC) 1 && !s.ackYm1 m then s.takeCounter (s.get R.LINKSEC.TXKEY_NET) else (s, none)

/-- A response goes out on a medium: the acknowledgement is formed, and the window it answered is over. -/
def State.ackGoes (s : State) (m : Medium) (d : AckDue) (tone : List Byte × Option (List Nat)) : State :=
  let r := s.ackCounter m
  let out := r.1.outAck m d r.2 tone.1
  let fcs := match medChain m with | some c => (let x := s.rxPhy c; fcsLen x.1 x.2.2) | none => 4
  let psdu := psduOctets out none s.ownExt (s.key (s.get R.LINKSEC.TXKEY_NET)).key fcs
  (r.1.setCarried d.nbr tone.2).modAir m (fun a =>
    { a with acking := true, armed := (bif a.winOpen then .idle else a.armed), winOpen := false, det := .none, alarmRx := false, out := some out,
             psdu := psdu })

/-- A frame goes out on a medium in a mode. -/
def State.frameGoes (s : State) (m : Medium) (a : Attempt) (mode : Nat) (tone : List Byte × Option (List Nat)) : State :=
  match s.frame? a.frame with
  | none => s
  | some f =>
    let out := s.outFrame m a f tone.1
    let psdu := s.outOctets m a f out
    (s.setCarried f.dest tone.2).modAir m (fun k =>
      { k with sending := some a, winOpen := false, det := .none, bank := false, deferred := false, prof := a.prof, mode := mode,
               alarmRx := false, out := some out, psdu := psdu })

/-- The symbols of the last frame that a chain sent in the modes whose PPDU the spec lays out: long range (R190, R191) and YM1 (R192). -/
def State.rfPpdu (s : State) (c : Chain) : List Bool :=
  let a := s.air (chainMed c)
  match a.mode with
  | 1 | 2 => ym2Ppdu (!Nat.beq (s.now (R.PHYRF.PROF_CFG_DW a.prof)) 0) a.psdu
  | 3 => ym1Ppdu a.psdu
  | _ => []

/-- What a chain samples before it transmits: COEX_GNT, and VBAK for RF-A in OUTAGE (R69, R181). -/
def State.sampled (s : State) (c : Chain) (x : TxSample) : State :=
  let s := bif s.enabled 0x35 then s.setBit R.COEX.STAT_GNT x.gnt else s
  bif decide (s.mode = .outage) && decide (c = .a) then s.set R.PWR.SUPPLY_VBAK x.vbak.toNat else s

/-- COEX_GNT at its sample point is not a grant. -/
def State.denied (s : State) (x : TxSample) : Bool := s.enabled 0x35 && !(x.gnt == s.bit R.COEX.CFG_GNT_POL)

/-- The synthesiser is calibrated for a transmission: in a turnaround, which LBT ends with too, and at a change of channel (R165, R179). -/
def State.calsFor (s : State) (c : Chain) (chan : Nat) (turn : Bool) : Bool := turn || lbtRule s.region || s.retunes c chan

/-- Why a transmission on a chain is abandoned, none where it goes ahead. A response takes no CCA. -/
def State.txStop (s : State) (c : Chain) (alarm ack : Bool) (chan us : Nat) (x : TxSample) : Option Nat :=
  let m := chainMed c
  let busy := s.bit R.PWR.SUPPLY_BROWNOUT && (media3.any (fun k => !(decide (k = m)) && s.sends k))
  let yields := alarm && decide (c = .a) && !s.sends .plc
  bif (s.ceiling c).isNone || (busy && !yields) then some 0x46
  else bif s.dutyStops m alarm || s.dwellStops m chan us then some 0x41
  else bif !x.lock && s.calsFor c chan ack then some 0x45
  else bif lbtRule s.region && !ack && decide (-80 < x.cca.toInt) then some 0x43
  else bif s.denied x && !(alarm && s.bit R.COEX.CFG_PRI_FORCE) then some 0x42
  else none

/-- Effects of the sample point and the checks that come with an abandoned attempt. -/
def State.txStopped (s : State) (c : Chain) (reason : Nat) : State :=
  let s := bif Nat.beq reason 0x42 then (s.bump R.COEX.DENYCNT_COUNT).raise 0x35 0 else s
  let s := bif Nat.beq reason 0x46 && s.bit R.PWR.SUPPLY_BROWNOUT then s.set R.PWR.BO_STAT_TXLIM 1 else s
  bif Nat.beq reason 0x45 then s.lockFailed c else s.abandon c reason

/-- Effects common to every transmission that goes ahead: wires, synthesiser, sums, tuner, power, and the precedence of an ALARM-class frame in
brown-out. `nbr` is the neighbour it is for, and `turn` says that it starts in a turnaround. -/
def State.txGoes (s : State) (c : Chain) (alarm turn : Bool) (nbr chan us : Nat) (x : TxSample) : State :=
  let m := chainMed c
  let s := bif s.denied x then (s.bump R.COEX.OVRCNT_COUNT).raise 0x35 1 else s
  let s := bif s.bit R.PWR.SUPPLY_BROWNOUT && alarm && decide (c = .a) && s.sends .rfB then
      ((s.set R.PWR.BO_STAT_TXLIM 1).dropSent .rfB).abandon .b 0x46
    else s
  let s := bif lbtRule s.region && !turn then (s.tune c chan false).tune c chan true else s.tune c chan turn
  let s := s.noteAir m chan us
  let s := match c with | .a => s.tuner chan x.rl.toNat | .b => s
  let s := match s.ceiling c with
    | some (p, k) =>
      let want := Config.linkPower nbr
      let s := s.modAir m (fun a => { a with pwr := bif decide (want < p) then max (-40) want else p })
      bif Nat.beq k 4 then s.set R.PWR.BO_STAT_TXLIM 1 else s
    | none => s
  s.setPhy m 5

/-- A response starts in its turnaround (R283, R284). -/
def State.ackStart (s : State) (c : Chain) (d : AckDue) (x : TxSample) : State :=
  let m := chainMed c
  let s := s.sampled c x
  let chan := s.get (R.RF.STAT_CHAN (chainIdx c))
  let tone := s.ackTone m d
  let us := (s.ackSize m d tone.1.length).2 / 1000
  match s.txStop c false true chan us x with
  | some r => s.txStopped c r
  | none => (s.txGoes c false true d.nbr chan us x).ackGoes m d tone

/-- The transmission that is armed starts; one that was deferred starts in a turnaround or after a calibration (R167). -/
def State.dataStart (s : State) (c : Chain) (a : Attempt) (x : TxSample) : State :=
  let m := chainMed c
  match s.frame? a.frame with
  | none => s.rest m
  | some f =>
    let s := s.sampled c x
    let alarm := Nat.beq f.cls 0
    let turn := (s.air m).deferred
    let tone := s.frameTone m a.cell f
    let us := s.frameUs m a f tone.1.length
    match s.txStop c alarm false a.chan us x with
    | some r => s.txStopped c r
    | none =>
      let r := s.giveCounter f
      bif !r.2 then r.1.rest m
      else (r.1.txGoes c alarm turn f.dest a.chan us x).frameGoes m a (s.txMode (chainIdx c) a.prof (s.nbrOf f)).1 tone

/-- The chain cannot start a transmission now (R167): it receives a frame, or calibrates. -/
def State.chainBusy (s : State) (m : Medium) : Bool := Nat.beq (s.phy m) 4 || Nat.beq (s.phy m) 1

/-- RF_TX_START: the response that is due, else the armed transmission; on a busy or settling chain it is deferred (R167). A page that is
STOPPING starts no new one (R163). -/
def execRfTxStart (c : Chain) (x : TxSample) (s : State) : Host.Outcome State Fault Refusal :=
  let m := chainMed c
  let k := s.air m
  bif Nat.beq (s.phy m) 0 || !s.domOn (medDomain m) || s.sends m then .next s
  else match k.ackDue, k.armed with
    | some d, _ => .next (s.ackStart c d x)
    | none, .tx a =>
      bif !s.enabled (medPage m) then .next (s.over m)
      else bif s.chainBusy m || x.settling then .next (s.modAir m (fun k => { k with deferred := true }))
      else .next (s.dataStart c a x)
    | none, .idle => .next s
    | none, .rx _ _ _ => .next s

/-- A late start (R291). -/
def State.lateStart (s : State) (m : Medium) (us : Nat) : State :=
  bif Nat.beq us 0 then s
  else ((s.setAll [(R.LINK.TXLATE_LATE, 1), (R.LINK.TXLATE_LAST_US, us), (R.LINK.TXLATE_MEDIUM, medIdx m)]).bump
    R.LINK.CNT2_LATE).raise 0x41 0

/-- TX_DEFERRED_START (R167): up to 200 µs after the cell's offset, else SYNTH_BUSY. -/
def execTxDeferredStart (c : Chain) (late : Half) (x : TxSample) (s : State) : Host.Outcome State Fault Refusal :=
  let m := chainMed c
  let k := s.air m
  match k.armed with
  | .tx a =>
    bif !k.deferred || s.chainBusy m || x.settling || s.sends m || k.ackDue.isSome || !s.enabled (medPage m) then .next s
    else bif Nat.blt 200 late.toNat then .next (s.abandon c 0x40)
    else
      let t := s.dataStart c a x
      .next (bif (t.air m).sending.isSome then t.lateStart m late.toNat else t)
  | .idle => .next s
  | .rx _ _ _ => .next s

/-- A broadcast has left (R289, R349). -/
def State.castSent (s : State) (f : LinkFrame) : State :=
  let s := s.dropFrame f.num
  bif Nat.beq f.msg 0 then s else s.fragSent f.msg f.frag

/-- A transmission has ended on a medium: its acknowledgement is awaited, or nothing is. -/
def State.txEnd (s : State) (m : Medium) (tune : State → State) : State :=
  let k := s.air m
  match k.sending with
  | none => bif k.acking then s.over m else s
  | some a =>
    match s.frame? a.frame with
    | none => s.rest m
    | some f =>
      bif f.acked then
        ((tune s).modAir m (fun k => { k with sending := none, armed := .idle, await := some a, winOpen := true, det := .none,
                                              bank := false })).setPhy m 3
      else (s.rest m).castSent f

/-- RF_TX_END (R166, R177). -/
def execRfTxEnd (c : Chain) (s : State) : Host.Outcome State Fault Refusal :=
  let m := chainMed c
  bif !Nat.beq (s.phy m) 5 || (s.radio.calling.isSome && decide (c = .a)) then .next s
  else
    let s := bif decide (c = .a) && Nat.ble 30 (s.get R.TUNER.STAT_RL) then s.set R.TUNER.STAT_MISMATCH 0 else s
    .next (s.txEnd m (fun s => s.tune c (s.get (R.RF.STAT_CHAN (chainIdx c))) true))

/-! ### Wake calls (R184, R185, R269) -/

/-- WAKE_CALL_END: the widened windows are repeated once (R269). -/
def execWakeCallEnd (s : State) : Host.Outcome State Fault Refusal :=
  match s.radio.calling with
  | none => .next s
  | some w =>
    let until_ := s.sched.asn + 2 * s.get (R.SCHED.SF_LEN 0)
    let s := { s with radio := { s.radio with calling := none } }.rest .rfA
    .next { s with sched := { s.sched with resyncs := s.sched.resyncs.map (fun (r : Resync) =>
      bif Nat.beq r.nbr w.nbr then { r with until_ := until_, called := true } else r) } }

/-- Mica's switch to ANT_A is closed (R183). -/
def State.micaSwitch (s : State) : Bool := s.enabled 0x34 && !s.domOn 17

/-- Mica stops listening: the run of the MICA_WIN sequences is over (R185). -/
def State.micaStops (s : State) : State :=
  let mica (n : Nat) : Bool := Nat.beq (s.get (R.PWR.ASQ_CFG_SRC n)) 0
  ({ s with doms := { s.doms with asqLeft := s.doms.asqLeft.filter (fun x => !mica x.1) } }).set R.MICA.STAT_LISTEN 0

/-- WAKE_CALL_CHECK_FAILURE (R185). -/
def execWakeCallCheckFailure (s : State) : Host.Outcome State Fault Refusal :=
  .next (bif s.micaSwitch && s.bit R.MICA.STAT_LISTEN then s.micaStops.bump R.MICA.COUNT_CRCERR else s)

end Sys2Proof.Machine
end

