-- ==== Sys2Proof/Machine/Plc.lean ====
section
/-!
DEFINITION. The Coldan PLC PHY and what E3 and E4 do with it: frames and driver (R207-R226), sounding and tone maps (R227-R239), and the
mains PLL with the lock (R240-R242, R250, R251).
-/

namespace Sys2Proof.Machine

open Sys2Proof

/-! ### Reception (R223-R225) -/

/-- PLC_PREAMBLE_DETECT. -/
def execPlcPreambleDetect (score : Byte) (s : State) : Host.Outcome State Fault Refusal :=
  let a := s.air .plc
  bif Nat.beq (s.phy .plc) 3 && a.winOpen && decide (a.det = .none) && Nat.ble (s.now R.PLCPHY.CFG_DETTHR) score.toNat then
    .next ((s.modAir .plc (fun a => { a with det := .energy })).setPhy .plc 4)
  else .next s

/-- PLC_M_TIMEOUT: no M symbol follows. -/
def execPlcMTimeout (s : State) : Host.Outcome State Fault Refusal :=
  bif decide ((s.air .plc).det = .energy) then .next ((s.relisten .plc).bump R.PLCPHY.CNT_FALSE_DET) else .next s

/-- A tone-map slot by its number. -/
def State.slot? (s : State) (i : Nat) : Option ToneSlot :=
  match s.plc.slots.find? (fun e => Nat.beq e.1 i) with | some e => some e.2 | none => none

def State.putSlot (s : State) (i : Nat) (t : ToneSlot) : State :=
  let l := s.plc.slots
  let l := bif l.any (fun e => Nat.beq e.1 i) then l.map (fun e => bif Nat.beq e.1 i then (i, t) else e) else l ++ [(i, t)]
  { s with plc := { s.plc with slots := l } }

/-- The FCH is in error (R217): a reserved code, ROBUST with another rate, or a length that no PSDU has. -/
def fchBad (mode rate len : Nat) : Bool :=
  Nat.beq rate 3 || Nat.beq mode 3 || (Nat.beq mode 0 && !Nat.beq rate 0) || Nat.blt len 5

/-- PLC_FCH_DECODED (R217, R224, R225): the 40 bits that the convolutional code gave, and the timestamp at the end of the M symbol. An
awaited acknowledgement leaves the mode of its frame noted (R239). -/
def execPlcFchDecoded (bits : BitVec 40) (slotUs : Half) (s : State) : Host.Outcome State Fault Refusal :=
  let w := bits.toNat
  let mode := w / 2 ^ 12 % 4
  let taken (cur : Bool) : State := s.modAir .plc (fun a =>
    { a with det := .phr, bank := cur, fch := w, mode := (bif a.await.isSome then a.mode else mode), stampUs := slotUs.toNat,
             stampAsn := s.sched.asn })
  bif !decide ((s.air .plc).det = .energy) then .next s
  else bif !fchCrcOk w || fchBad mode (w / 2 ^ 10 % 4) (w % 1024) then .next ((s.relisten .plc).bump R.PLCPHY.CNT_FCH_ERR)
  else bif Nat.beq mode 0 then .next (taken false)
  else
    let ver := w / 2 ^ 19 % 16
    let hit : Option Bool := match s.slot? (w / 2 ^ 14 % 32) with
      | none => none
      | some t =>
        bif t.cur.isSome && Nat.beq t.curVer ver then some true
        else bif t.prev.isSome && Nat.beq t.prevVer ver then some false
        else none
    match hit with
    | some cur => .next (taken cur)
    | none => .next (((s.relisten .plc).bump R.PLCPHY.CNT2_VERMISS).raise 0x3B 2)

/-- PLC_RX_WINDOW_CLOSE. -/
def execPlcRxWindowClose (s : State) : Host.Outcome State Fault Refusal := .next (s.closeWindow .plc)

/-! ### Transmission (R209-R211, R223, R226) -/

/-- The line driver is forced off (R211). -/
def State.driverOff (s : State) : Bool :=
  !s.bit R.PWR.SUPPLY_MAINS || s.bit R.PWR.SUPPLY_OVERVOLT || s.bridge.hold || s.bridge.inReset || !s.domOn 19

/-- The attenuation in force in dB (R209): the largest of TXATT, the low-impedance cut of the frame in progress, and 6 dB in brown-out and
while the driver is hot. -/
def State.plcAtt (s : State) : Nat :=
  let six (b : Bool) : Nat := bif b then 6 else 0
  max (max (s.get R.PLCAFE.CFG_TXATT) s.plc.cut) (max (six (s.bit R.PWR.SUPPLY_BROWNOUT)) (six (s.bit R.PLCAFE.STAT_THERM)))

/-- STAT.ATT follows while the driver is on; what brown-out alone holds below the level it would have is a limited transmission (R117). -/
def State.showAtt (s : State) : State :=
  bif !s.bit R.PLCAFE.STAT_DRV_ON then s
  else
    let other := max (max (s.get R.PLCAFE.CFG_TXATT) s.plc.cut) (bif s.bit R.PLCAFE.STAT_THERM then 6 else 0)
    let s := s.set R.PLCAFE.STAT_ATT s.plcAtt
    bif s.bit R.PWR.SUPPLY_BROWNOUT && Nat.blt other 6 then s.set R.PWR.BO_STAT_TXLIM 1 else s

/-- The driver is enabled for a frame; R210 cuts `cut` dB until its end. -/
def State.driverOn (s : State) (cut : Nat) : State :=
  let s := ({ s with plc := { s.plc with cut := cut } }.setAll [(R.PLCAFE.STAT_DRV_ON, 1),
    (R.PLCAFE.STAT_LOWZ, bif Nat.beq cut 0 then 0 else 1)]).showAtt
  (s.raiseIf (!Nat.beq cut 0) 0x3A 0).setPhy .plc 5

/-- The driver is off again, and the cut of its frame gone (R210). -/
def State.driverRest (s : State) : State :=
  ({ s with plc := { s.plc with cut := 0 } }.showAtt).set R.PLCAFE.STAT_DRV_ON 0

/-- A transmission meets a driver that is forced off: its frame stays at the head of its queue (R211). -/
def State.plcAbort (s : State) : State :=
  ((((s.dropSent .plc).rest .plc).driverRest).bump R.PLCPHY.CNT2_ABORT).raise 0x3B 3

/-- The FCH of a frame of `len` octets to a neighbour in a MODE with a set (R217, R234). -/
def State.fchOf (s : State) (r : Nat × Option ToneSet) (nbr len : Nat) : Nat :=
  match r.2, s.toneSlot nbr with
  | some x, some (_, t) => fchWord len x.rate r.1 t.tmid x.ver
  | some _, none => fchWord len 0 0 0 0
  | none, _ => fchWord len 0 0 0 0

/-- The FCH goes out ahead of the frame. -/
def State.putFch (s : State) (r : Nat × Option ToneSet) (nbr : Nat) : State :=
  s.modAir .plc (fun k => { k with fch := match k.out with | some o => s.fchOf r nbr o.len.toNat | none => k.fch })

/-- The FCH and payload symbols of the last frame sent, behind the preamble of `plcPreamble`: the frame's set is `r` and it started `txoff` µs
after its cell's first slot boundary (R215-R220). -/
def State.plcSymbols (s : State) (r : Nat × Option ToneSet) (txoff : Nat) : List (List (Nat × Tone)) :=
  let a := s.air .plc
  let rate := match r.2 with | some t => t.rate | none => 0
  (List.range s.plcFch).map (fchSymbol s.plcC s.notched a.fch) ++ s.paySymbols r txoff 4000 0 (plcCoded rate a.psdu)

/-- The preamble of the band plan in use, ahead of `State.plcSymbols` (R216). -/
def State.plcPre (s : State) : List (List (Option Nat)) := plcPreamble s.plcC s.notched

/-- In brown-out one transmitter runs at a time (R117): what PLC would send now does not go out. -/
def State.plcLimited (s : State) : Bool := s.bit R.PWR.SUPPLY_BROWNOUT && s.anySending

/-- The armed transmission starts. -/
def State.plcStart (s : State) (a : Attempt) (cut : Nat) : State :=
  match s.frame? a.frame with
  | none => s.rest .plc
  | some f =>
    bif s.driverOff then s.plcAbort
    else bif s.plcLimited then (s.rest .plc).set R.PWR.BO_STAT_TXLIM 1
    else
      let tone := s.frameTone .plc a.cell f
      let mode := s.plcMode f.dest
      let r := s.giveCounter f
      bif !r.2 then r.1.rest .plc
      else ((r.1.driverOn cut).frameGoes .plc a mode.1 tone).putFch mode f.dest

/-- The response that is due starts in its turnaround (R223, R283, R284). -/
def State.plcAck (s : State) (d : AckDue) (cut : Nat) : State :=
  bif s.driverOff then s.plcAbort
  else bif s.plcLimited then (s.over .plc).set R.PWR.BO_STAT_TXLIM 1
  else ((s.driverOn cut).ackGoes .plc d (s.ackTone .plc d)).putFch (s.ackSet d.nbr (s.air .plc).mode) d.nbr

/-- PLC_TX_START: the response that is due, else the armed transmission, deferred while a detected frame is received (R226). A page that is
STOPPING starts no new one (R223). -/
def execPlcTxStart (cut : BitVec 5) (s : State) : Host.Outcome State Fault Refusal :=
  let k := s.air .plc
  bif Nat.beq (s.phy .plc) 0 || s.sends .plc then .next s
  else match k.ackDue, k.armed with
    | some d, _ => .next (s.plcAck d cut.toNat)
    | none, .tx a =>
      bif !s.enabled 0x3B then .next (s.over .plc)
      else bif s.chainBusy .plc then .next (s.modAir .plc (fun k => { k with deferred := true })) else .next (s.plcStart a cut.toNat)
    | none, .idle => .next s
    | none, .rx _ _ _ => .next s

/-- PLC_TX_END: the driver turns off, and ZLINE holds what its last symbol measured (R210). -/
def execPlcTxEnd (zline : Half) (s : State) : Host.Outcome State Fault Refusal :=
  bif !Nat.beq (s.phy .plc) 5 then .next s
  else .next ((s.driverRest.set R.PLCAFE.STAT_ZLINE zline.toNat).txEnd .plc (fun s => s))

/-- PLC_TX_DEFERRED_START (R226): up to 200 µs late, else PLC_BUSY. -/
def execPlcTxDeferredStart (late : Half) (cut : BitVec 5) (s : State) : Host.Outcome State Fault Refusal :=
  let k := s.air .plc
  match k.armed with
  | .tx a =>
    bif !k.deferred || s.chainBusy .plc || s.sends .plc || k.ackDue.isSome || !s.enabled 0x3B then .next s
    else bif Nat.blt 200 late.toNat then
      .next (((s.rest .plc).set (R.HDR.REASON 0x3B) 0x40).bump R.PLCPHY.CNT2_BUSY)
    else
      let t := s.plcStart a cut.toNat
      .next (bif (t.air .plc).sending.isSome then t.lateStart .plc late.toNat else t)
  | .idle => .next s
  | .rx _ _ _ => .next s

/-- DRIVER_THERMAL_CHANGE (R210): above 125 °C, and below 110 °C. -/
def execDriverThermalChange (temp : Byte) (s : State) : Host.Outcome State Fault Refusal :=
  bif Nat.blt 125 temp.toNat && !s.bit R.PLCAFE.STAT_THERM then .next (((s.set R.PLCAFE.STAT_THERM 1).showAtt).raise 0x3A 1)
  else bif Nat.blt temp.toNat 110 && s.bit R.PLCAFE.STAT_THERM then .next (s.set R.PLCAFE.STAT_THERM 0).showAtt
  else .next s

/-- Brown-out begins with several transmitters running (R117): one goes on, RF-A before RF-B before PLC (the model's choice, log entry 106); the
others stop, and their frames stay queued. What goes on keeps to the limits of brown-out from here. -/
def State.limitSenders (s : State) : State :=
  let stop (t : State) (m : Medium) : State := match medChain m with
    | some c => ((t.quiet m).abandon c 0x46)
    | none => (t.quiet m).driverRest
  let keep := media3.find? s.sends
  let s := (media3.filter (fun m => s.sends m && !decide (keep = some m))).foldl (fun t m => (stop t m).set R.PWR.BO_STAT_TXLIM 1) s
  let s := match keep with
    | none => s
    | some m => match medChain m with
      | none => s
      | some c => match s.ceiling c with
        | some (p, _) => bif decide (p < (s.air m).pwr) then (s.modAir m (fun a => { a with pwr := p })).set R.PWR.BO_STAT_TXLIM 1 else s
        | none => s
  s.showAtt

/-! ### Tone maps (R229-R239) -/

/-- N̄ of a bin, 0.1 dBµV: the mean over the subcarriers that are not notched, rounded down to 0.1 dB before q is computed: the model's
choice, R229 states no rounding (log entry 90). -/
def State.binMean (s : State) (row : List Int) : Int :=
  let l := ((List.range s.plcC).filter (fun n => !s.notched n)).map (fun n => row.getD n 0)
  l.foldl (· + ·) 0 / max 1 (Int.ofNat l.length)

def listMax (l : List Int) : Int := match l with | [] => 0 | x :: xs => xs.foldl max x
def listMin (l : List Int) : Int := match l with | [] => 0 | x :: xs => xs.foldl min x

/-- Insert into a rising list without repeats. -/
def insertNat (x : Nat) : List Nat → List Nat
  | [] => [x]
  | y :: ys => bif Nat.blt x y then x :: y :: ys else bif Nat.beq x y then y :: ys else y :: insertNat x ys

/-- The regions of the bins by their means (R229). -/
def formRegions (means : List Int) (mergeDb : Nat) : List Nat :=
  let q := means.map (fun m => (m - listMin means).toNat / (10 * max 1 mergeDb))
  let vals := q.foldl (fun l x => insertNat x l) []
  q.map (fun x => min 7 (vals.filter (fun y => Nat.blt y x)).length)

/-- SNR of subcarrier `n` in region `r`, 0.1 dB (R231). P[n] is the mean of the frames' powers in dB: the model's choice, R231 does not say
whether the mean is of levels or of powers (log entry 91). -/
def State.snrOf (s : State) (t : ToneSlot) (r n : Nat) : Int :=
  let p := (t.power.map (fun row => row.getD n 0)).foldl (· + ·) 0 / max 1 (Int.ofNat t.power.length)
  let worst := listMax (((List.range 16).filter (fun b => Nat.beq (s.plc.regions.getD b 0) r)).map (fun b =>
    (s.plc.noise.getD b []).getD n 0))
  p - worst

/-- The loading code of an SNR at a rate (R232, R236): 0 to 5. -/
def State.loadCode (s : State) (rate : Nat) (snr : Int) : Nat :=
  match [4, 3, 2, 1, 0].find? (fun j =>
    decide ((Int.ofNat (10 * (s.get (R.TONEMAP.THR rate j) + s.get R.TONEMAP.CFG_MARGIN))) ≤ snr)) with
  | some j => j + 1
  | none => 0

/-- The loadings of a region at a rate; none where ROBUST (R233). -/
def State.regionLoad (s : State) (t : ToneSlot) (rate r : Nat) : Option (List Nat) :=
  let l := (List.range s.plcC).map (fun n => bif s.notched n then 0 else s.loadCode rate (s.snrOf t r n))
  bif Nat.blt (l.map codeBits).sum (s.plcC / 4) then none else some l

/-- The numerator of a rate over 6. -/
def rateNum (rate : Nat) : Nat := match rate with | 0 => 3 | 1 => 4 | _ => 5

/-- The metric of R233 times 6. -/
def State.setMetric (s : State) (t : ToneSet) : Nat :=
  rateNum t.rate * (t.regions.map (fun r => loadBits s.plcC (t.region r))).sum

/-- The set at one rate. -/
def State.setAt (s : State) (t : ToneSlot) (rate : Nat) : ToneSet :=
  { ver := 0, rate := rate, regions := s.plc.regions,
    loads := (s.plc.regions.foldl (fun l x => insertNat x l) []).map (fun r => (r, s.regionLoad t rate r)) }

/-- The set that the generator chooses: the best rate, ties to the lower one. -/
def State.genSet (s : State) (t : ToneSlot) : ToneSet :=
  let a := s.setAt t 0
  let b := s.setAt t 1
  let c := s.setAt t 2
  let ab := bif Nat.blt (s.setMetric a) (s.setMetric b) then b else a
  bif Nat.blt (s.setMetric ab) (s.setMetric c) then c else ab

/-- A set can be generated: noise and signal have been measured. -/
def State.canGen (s : State) (t : ToneSlot) : Bool := !s.plc.noise.isEmpty && !t.power.isEmpty

/-- A new version goes out (R235): the one before stays decodable, and none of its regions has gone to the neighbour yet (R275). -/
def State.issueSet (s : State) (i : Nat) (t : ToneSlot) (new : ToneSet) : State :=
  let v := bif t.cur.isSome then (t.curVer + 1) % 16 else t.curVer
  let t := { t with prev := t.cur, prevVer := t.curVer, cur := some { new with ver := v }, curVer := v, adopted := false,
                    issued := s.sched.asn, sinceRun := true, carried := [] }
  ((s.putSlot i t).bump R.TONEMAP.EVENTS_ISSUED).raise 0x3C 0

/-- Issue on a neighbour's request (R235, R239). -/
def State.requested (s : State) (i : Nat) : State :=
  match s.slot? i with
  | none => s
  | some t => bif s.canGen t then s.issueSet i t (s.genSet t) else s

/-- Some subcarrier of some bin loses loading (R235); ROBUST counts as none. -/
def lowersLoad (old new : ToneSet) : Bool :=
  let code (t : ToneSet) (b n : Nat) : Nat := match t.region (t.regions.getD b 0) with | some l => l.getD n 0 | none => 0
  (List.range 16).any (fun b => (List.range 216).any (fun n => Nat.blt (code new b n) (code old b n)))

/-- A generated set is issued where the slot has had none since the last run, and FREEZE = 0 or some loading falls (R235). A slot without a
set has no loading to fall, so it gets its first version after a run, or on REGEN, with FREEZE = 0: the model's choice, R235 names no time
for a first version (log entry 92). `due` says whether a set that replaces `old` is due. -/
def State.issueIf (s : State) (i : Nat) (due : ToneSet → ToneSet → Bool) : State :=
  match s.slot? i with
  | none => s
  | some t =>
    bif t.sinceRun || !s.canGen t then s
    else
      let new := s.genSet t
      let frozen := s.bit R.TONEMAP.CFG_FREEZE
      match t.cur with
      | none => bif frozen then s else s.issueSet i t new
      | some old => bif lowersLoad old new || (!frozen && due old new) then s.issueSet i t new else s

/-- Issue on TONEMAP.REGEN. -/
def State.regen (s : State) (i : Nat) : State := s.issueIf i (fun _ _ => true)

/-- After a run, a slot's set is issued anew where the region map or the metric has changed (R235). -/
def State.afterRun (s : State) (i : Nat) (mapNew : Bool) : State :=
  s.issueIf i (fun old new =>
    let a := s.setMetric old
    let b := s.setMetric new
    mapNew || Nat.ble (s.get R.TONEMAP.CFG_CHANGE_PCT * a) (100 * (bif Nat.ble a b then b - a else a - b)))

/-- SOUNDING_RUN_COMPLETE (R228-R230, R235): only while mains-locked, after NSOUND half-cycles, and with 4 windows in every bin. Each bin comes
with its windows and their mean noise per subcarrier. -/
def execSoundingRunComplete (bins : List (Byte × List Half)) (s : State) : Host.Outcome State Fault Refusal :=
  let full := (List.range 16).all (fun b => Nat.ble 4 (bins.getD b (0, [])).1.toNat)
  bif !s.isLocked || !s.enabled 0x3B || !full || Nat.blt (s.get R.PLCPHY.SNDSTAT_HC) (s.now R.PLCPHY.SOUND_NSOUND) then .next s
  else
    let s := s.takeForce soundedReg
    let rows := (bins.take 16).map (fun r => r.2.map (fun (v : Half) => v.toInt))
    let means := rows.map s.binMean
    let low16 (v : Int) : Nat := (BitVec.ofInt 16 v).toNat
    let s := s.each (List.range 16) (fun b t => t.setAll [(R.PLCPHY.NOISE_MEAN b, low16 (means.getD b 0)),
      (R.PLCPHY.NOISE_MAX b, low16 (listMax ((rows.getD b []).take s.plcC)))])
    let auto := Nat.beq (s.now R.PLCPHY.SOUND_AUTO) 1
    let map := bif auto then formRegions means (s.now R.PLCPHY.SOUND_MERGE_DB)
      else (List.range 16).map (fun b => s.now (R.PLCPHY.ZMAP b))
    let moved := !(map == s.plc.regions)
    let fresh := s.plc.slots.map (fun (e : Nat × ToneSlot) => (e.1, { e.2 with sinceRun := false }))
    let s := { s with plc := { s.plc with noise := rows, regions := map, slots := fresh } }
    let s := bif auto then s.each (List.range 16) (fun b t => t.set (R.PLCPHY.ZMAP b) (map.getD b 0)) else s
    let s := ((s.bumpWrap R.PLCPHY.SNDSTAT_RUNS).set R.PLCPHY.SNDSTAT_HC 0).raise 0x3B 0
    .next (s.each s.plc.slots (fun (e : Nat × ToneSlot) t => t.afterRun e.1 moved))

/-- TONEMAP.REGEN, refused while the generator runs. -/
def State.regenCmd (s : State) (f : State → State) : State := bif s.bit R.TONEMAP.STAT_GEN then s.refuse 0x3C RC.BUSY 0xA0 else f s

/-- TONEMAP_REGEN_ONE. -/
def execTonemapRegenOne (who : Requester) (s : State) : Host.Outcome State Fault Refusal :=
  s.command who 0x3C 0xA0 (·.regenCmd (fun s => s.regen (s.get R.TONEMAP.SEL_SLOT)))

/-- TONEMAP_REGEN_ALL. -/
def execTonemapRegenAll (who : Requester) (s : State) : Host.Outcome State Fault Refusal :=
  s.command who 0x3C 0xA0 (·.regenCmd (fun s => s.each s.plc.slots (fun (e : Nat × ToneSlot) t => t.regen e.1)))

/-- PREV_VERSION_EXPIRY (R238). -/
def execPrevVersionExpiry (slot : Fin 32) (s : State) : Host.Outcome State Fault Refusal :=
  match s.slot? slot with
  | none => .next s
  | some t => .next (bif t.prev.isSome && Nat.ble (t.issued + 256) s.sched.asn then s.putSlot slot { t with prev := none } else s)

/-- A slot given to a neighbour (R234). -/
def freshSlot (nbr ver : Nat) (row : List Int) (asn : Nat) : ToneSlot :=
  { nbr := nbr, cur := none, prev := none, issued := 0, adopted := false, curVer := ver, prevVer := ver, tmid := 0, received := none,
    parts := none, usable := false, fallback := false, unacked := 0, sinceRun := false, carried := [], lastRx := asn, power := [row] }

/-- The slot whose last reception is oldest. -/
def oldestSlot (l : List (Nat × ToneSlot)) : Option (Nat × ToneSlot) :=
  l.foldl (fun acc e => match acc with
    | none => some e
    | some a => bif Nat.blt e.2.lastRx a.2.lastRx then some e else some a) none

/-- A PLC frame from a neighbour: its slot, after four of them (R231, R234); `cur` says that it used the current version (R236, R238). -/
def State.plcHeard (s : State) (nbr : Nat) (power : List Half) (cur : Bool) : State :=
  let row := power.map (fun (v : Half) => v.toInt)
  match s.toneSlot nbr with
  | some (i, t) =>
    let p := (t.power ++ [row]).reverse.take 8 |>.reverse
    s.putSlot i { t with lastRx := s.sched.asn, power := p, adopted := t.adopted || cur, prev := (bif cur then none else t.prev) }
  | none =>
    let n := s.plc.heard.look nbr + 1
    let s := { s with plc := { s.plc with heard := s.plc.heard.put nbr n } }
    bif Nat.blt n 4 then s
    else
      let s := { s with plc := { s.plc with heard := s.plc.heard.put nbr 0 } }
      match (List.range 32).find? (fun i => (s.slot? i).isNone) with
      | some i => s.putSlot i (freshSlot nbr 0 row s.sched.asn)
      | none => match oldestSlot s.plc.slots with
        | some (i, t) =>
          ((s.putSlot i (freshSlot nbr ((t.curVer + 8) % 16) row s.sched.asn)).bump R.TONEMAP.EVENTS_EVICT).raise 0x3C 3
        | none => s

/-- `n` codes of 3 bits from octets, least significant bit first. -/
def codes3 (bs : List Byte) (n : Nat) : List Nat := (List.range n).map (fun i => ofLe bs / 8 ^ i % 8)

/-- The regions that an IE carries (R236): each region's octet, then its codes. -/
def ieRegions (c : Nat) : Nat → List Byte → List (Nat × Option (List Nat))
  | 0, _ => []
  | _, [] => []
  | fuel + 1, b :: rest =>
    let r := b.toNat % 8
    bif b.toNat.testBit 7 then (r, none) :: ieRegions c fuel rest
    else
      let n := (3 * c + 7) / 8
      (r, some (codes3 (rest.take n) c)) :: ieRegions c fuel (rest.drop n)

/-- Regions join those held. -/
def joinLoads (old new : List (Nat × Option (List Nat))) : List (Nat × Option (List Nat)) :=
  old.filter (fun e => !new.any (fun x => Nat.beq x.1 e.1)) ++ new

/-- A received set, complete, is adopted (R237, R239). -/
def State.adopt (s : State) (i : Nat) (t : ToneSlot) (tmid : Nat) (x : ToneSet) : State :=
  (s.putSlot i { t with tmid := tmid, received := some x, parts := none, usable := true, fallback := false, unacked := 0 }).raise 0x3C 1

/-- A tone-map IE from a neighbour (R236, R237, R239). Without a slot there is nowhere to hold it. A VER is older than the held one where it
lies 8 to 15 ahead of it modulo 16: the model's choice, R237 does not say what older means modulo 16 (log entry 93). -/
def State.toneIe (s : State) (nbr : Nat) (ie : List Byte) : State :=
  match s.toneSlot nbr with
  | none => s
  | some (i, t) =>
    let b (k : Nat) : Nat := (ie.getD k 0).toNat
    let s := bif (b 0).testBit 7 then s.requested i else s
    let t := (s.slot? i).getD t
    let ver := b 1 % 16
    let held : Option Nat := match t.parts, t.received with | some p, _ => some p.ver | none, some r => some r.ver | none, none => none
    let older := match held with | some h => Nat.ble 8 ((ver + 16 - h) % 16) | none => false
    bif Nat.beq (b 2) 0 || !Nat.beq (b 1 / 64 % 2 + 1) s.ret.profile.plcband || older then s
    else
      let new : ToneSet := { ver := ver, rate := b 1 / 16 % 4, regions := codes3 (slice ie 3 6) 16, loads := ieRegions s.plcC 8 (ie.drop 9) }
      match t.received with
      | some r =>
        bif Nat.beq r.ver ver && t.usable then s
        else
          let x := match t.parts with | some p => bif Nat.beq p.ver ver then { new with loads := joinLoads p.loads new.loads } else new | none => new
          bif x.complete then s.adopt i t (b 0 % 32) x else s.putSlot i { t with parts := some x }
      | none =>
        let x := match t.parts with | some p => bif Nat.beq p.ver ver then { new with loads := joinLoads p.loads new.loads } else new | none => new
        bif x.complete then s.adopt i t (b 0 % 32) x else s.putSlot i { t with parts := some x }

/-- The outcome of a PLC attempt that went to a neighbour in FCH MODE `mode` (R239): after two MAPPED or FLAT ones in a row without an
acknowledgement, ROBUST. -/
def State.toneOutcome (s : State) (nbr mode : Nat) (acked : Bool) : State :=
  match s.toneSlot nbr with
  | none => s
  | some (i, t) =>
    bif acked then s.putSlot i { t with unacked := 0 }
    else bif Nat.beq mode 0 then s
    else bif Nat.ble 1 t.unacked then
      ((s.putSlot i { t with unacked := 2, fallback := true }).bump R.TONEMAP.EVENTS_FALLBACK).raise 0x3C 2
    else s.putSlot i { t with unacked := t.unacked + 1 }

/-! ### The mains PLL and the lock (R240-R242, R250, R251) -/

/-- The lock range of the declared frequency for a period in 48 MHz counts (R242). -/
def State.hzOk (s : State) (period : Nat) : Bool :=
  let r : Nat × Nat := bif Nat.beq s.ret.profile.hz 2 then (55, 65) else (45, 55)
  Nat.ble (period * r.1) 48000000 && Nat.ble 48000000 (period * r.2)

/-- Lock is lost (R242, R248): crystal timing goes on from the last locked boundary, and a sounding run is discarded. -/
def State.unlock (s : State) : State :=
  let was := s.isLocked
  let s := { s with sched := { s.sched with slew := 0 }, plc := { s.plc with inRun := 0, outRun := 0 } }
  let s := s.setAll [(R.SCHED.STAT_PLL_LOCK, 0), (R.SCHED.STAT_LOCK_HELD, 0), (R.SCHED.STAT_SLEWING, 0), (R.PLCPHY.SNDSTAT_HC, 0)]
  bif was then (s.set R.SCHED.STAT_TIMING 1).raise 0x40 1 else s

/-- An error lies within 300 µs of T_slot/3 or of its negative (R251): the sign, or 0. -/
def State.thirdOf (s : State) (e : Int) : Int :=
  let t : Int := bif Nat.beq s.ret.profile.hz 2 then 2778 else 3333
  bif decide ((e - t).natAbs ≤ 300) then 1 else bif decide ((e + t).natAbs ≤ 300) then -1 else 0

/-- The errors of LOCKED neighbours show a phase mismatch (R251). -/
def State.phaseOff (s : State) : Bool :=
  let l := s.sched.nbrs.filter (fun n => n.locked && Nat.beq n.sync 1 && !n.ym1)
  let others (v : Int) : Nat := (l.filter (fun n => !(s.source == some n.idx) && decide (s.thirdOf n.last = v))).length
  l.any (fun n => s.source == some n.idx && !decide (s.thirdOf n.last = 0)) || Nat.ble 2 (others 1) || Nat.ble 2 (others (-1))

/-- A phase mismatch is declared. -/
def State.phaseMm (s : State) : State :=
  let s := bif s.isLocked then (s.setAll [(R.SCHED.STAT_TIMING, 1), (R.PLCPHY.SNDSTAT_HC, 0)]).raise 0x40 1 else s
  ({ s with sched := { s.sched with slew := 0 } }.setAll [(R.SCHED.STAT_PHASE_MM, 1), (R.SCHED.STAT_LOCK_HELD, 0),
    (R.SCHED.STAT_SLEWING, 0)]).raise 0x40 2

/-- LOCKED, with a distance to slew. -/
def State.lockNow (s : State) (d : Int) : State :=
  ({ s with sched := { s.sched with slew := d } }.setAll [(R.SCHED.STAT_TIMING, 2), (R.SCHED.STAT_LOCK_HELD, 0),
    (R.SCHED.STAT_SLEWING, bif decide (d = 0) then 0 else 1)]).raise 0x40 0

/-- The correction of the feeder phase that E4 applies, in µs (R37). -/
def State.phaseCorr (s : State) : Int :=
  let sixty := Nat.beq s.ret.profile.hz 2
  match s.sched.phase with
  | 2 => bif sixty then 5556 else 6667
  | 3 => bif sixty then 2778 else 3333
  | _ => 0

/-- d of R250: the distance in µs from the current boundary to the locked one, which lies at the last crossing less the phase correction,
folded into (−T_slot/2, +T_slot/2]; computed in thirds of a microsecond, since three slots of 60 Hz last 25,000 µs. -/
def State.lockDistance (s : State) : Int :=
  let t : Int := bif Nat.beq s.ret.profile.hz 2 then 25000 else 30000
  let e := (3 * (s.plc.cross - s.phaseCorr)) % t
  (bif decide (t < 2 * e) then e - t else e) / 3

/-- Adopt a declared lock at distance `d` from the locked boundary (R250). -/
def State.adoptLock (s : State) (d : Int) : State :=
  bif !s.sched.nbrs.any (fun n => Nat.beq n.sync 1) then { s.lockNow 0 with sched := { s.sched with move := d, slew := 0 } }
  else match s.source with
    | none => s.lockNow d
    | some i =>
      let src := match s.nbr? i with | some n => n.locked | none => false
      bif !src then s.set R.SCHED.STAT_LOCK_HELD 1
      else bif decide (d.natAbs ≤ 400) then s.lockNow d
      else bif s.phaseOff then s.phaseMm
      else s.set R.SCHED.STAT_LOCK_HELD 1

/-- E4 adopts lock where it may: CRYSTAL, PHASE declared and applied, no mismatch, not in OUTAGE (R248). -/
def State.tryLock (s : State) : State :=
  bif s.bit R.SCHED.STAT_PLL_LOCK && Nat.beq (s.get R.SCHED.STAT_TIMING) 1 && !Nat.beq s.sched.phase 0 &&
      !s.bit R.SCHED.STAT_PHASE_MM && !decide (s.mode = .outage) then s.adoptLock s.lockDistance
  else s

/-- A missed crossing (R241, R242); with it the cycles beyond 200 µs are not consecutive. -/
def State.zxMiss (s : State) : State :=
  let n := s.plc.missRun + 1
  let s := { s.bump R.PLCAFE.ZXCNT_MISS with plc := { s.plc with missRun := n, inRun := 0, outRun := 0 } }
  bif Nat.ble 5 n && s.bit R.SCHED.STAT_PLL_LOCK then s.unlock else s

/-- The detector works: mains is Present and its domain ON. -/
def State.zxOn (s : State) : Bool := s.bit R.PWR.SUPPLY_MAINS && s.domOn 19

/-- A rising crossing that counts, `err` µs from its prediction. While LOCK_HELD the next sync IE of the time source has E4 look again (R250). -/
def State.zxRise (s : State) (slotUs period : Nat) (err : Int) : State :=
  let e := err.natAbs
  let s := { s with plc := { s.plc with inRun := (bif Nat.ble e 20 then min 50 (s.plc.inRun + 1) else 0),
                                        outRun := (bif Nat.blt 200 e then s.plc.outRun + 1 else 0), missRun := 0, cross := slotUs } }
  bif !s.hzOk period then
    let s := (s.raiseIf (!s.bit R.PLCAFE.STAT_HZERR) 0x3A 2).set R.PLCAFE.STAT_HZERR 1
    bif s.bit R.SCHED.STAT_PLL_LOCK then s.unlock else s
  else
    let s := s.set R.PLCAFE.STAT_HZERR 0
    bif Nat.ble 5 s.plc.outRun && s.bit R.SCHED.STAT_PLL_LOCK then s.unlock
    else
      let s := bif Nat.ble 50 s.plc.inRun then s.set R.SCHED.STAT_PLL_LOCK 1 else s
      bif s.bit R.SCHED.STAT_LOCK_HELD && s.source.isSome then s else s.tryLock

/-- ZERO_CROSSING_TIMESTAMP (R240-R242, R250): `err` is the error against the prediction in signed µs. Falling crossings are not used, and
ZXLAST and ZXPER hold the latest rising one, an outlier too. -/
def execZeroCrossingTimestamp (rising : Bool) (slotUs : Half) (period : BitVec 24) (err : Half) (s : State) :
    Host.Outcome State Fault Refusal :=
  bif !rising || !s.zxOn then .next s
  else bif s.bridge.silent then .next s.zxMiss
  else
    let s := s.setAll [(R.PLCAFE.ZXLAST_SLOT_US, slotUs.toNat), (R.PLCAFE.ZXLAST_ASN, s.sched.asn), (R.PLCAFE.ZXPER_PERIOD, period.toNat)]
    bif Nat.blt (10 * s.get R.PLCAFE.CFG_OUTLIER) err.toInt.natAbs then .next (s.bump R.PLCAFE.ZXCNT_OUTLIER)
    else .next (s.zxRise slotUs.toNat period.toNat err.toInt)

/-- ZERO_CROSSING_MISS. -/
def execZeroCrossingMiss (s : State) : Host.Outcome State Fault Refusal := .next (bif s.zxOn then s.zxMiss else s)

end Sys2Proof.Machine
end

