-- ==== Sys2Proof/Machine/Sched.lean ====
section
/-!
DEFINITION. E4 and the choices of the link engines: the slot boundary with media chosen and cells reserved (R244-R264, R303), the SF0
boundary (R253, R273, R316), failed attempts (R284-R286), resynchronisation and polling (R266-R271), the cell commands and the link
keys (R254, R279).
-/

namespace Sys2Proof.Machine

open Sys2Proof

/-! ### Cells that start (R253, R254) -/

/-- LEN of a slotframe. -/
def State.sfLen (s : State) (k : Nat) : Nat := max 1 (s.get (R.SCHED.SF_LEN k))

/-- At a boundary of its own slotframe an added cell starts and a deleted one goes. The cells of a slotframe that is not enabled wait for its next
boundary. -/
def State.turnCells (s : State) : State :=
  let on (c : Cell) : Bool := s.bit (R.SCHED.SF_EN c.sf)
  let atBound (c : Cell) : Bool := Nat.beq (s.sched.asn % s.sfLen c.sf) 0
  let kept := s.sched.cells.filter (fun (c : Cell) => !(Nat.beq c.state 2 && (atBound c || !on c)))
  { s with sched := { s.sched with cells := kept.map (fun (c : Cell) =>
    bif !on c then { c with state := 0 } else bif Nat.beq c.state 0 && atBound c then { c with state := 1 } else c) } }

/-- The cell starts in the current slot. A sleepy node runs only the cells with OUTAGE = 1 (R270). -/
def State.startsNow (s : State) (c : Cell) : Bool :=
  s.bit (R.SCHED.SF_EN c.sf) && !Nat.beq c.state 0 && Nat.beq (s.sched.asn % s.sfLen c.sf) c.slot &&
    (c.outage || !decide (s.mode = .outage))

/-- A poll that is due goes out first; else the head of the queue to a neighbour (R270, R337). -/
def State.headFor (s : State) (dest : Nat) : Option LinkFrame :=
  bif s.sched.pollDue && s.source == some dest then
    match s.sched.queue.find? (fun f => decide (f.kind = .command 0x04) && Nat.beq f.dest dest && !s.inFlight f.num) with
    | some f => some f
    | none => s.queueHead dest
  else s.queueHead dest

/-- The queue that a cell serves: of its neighbour, or the broadcasts. -/
def cellDest (c : Cell) : Nat := bif Nat.beq c.type 4 then 300 else c.nbr

/-- The cell's link has an ALARM-class frame at its queue head. -/
def State.alarmHead (s : State) (c : Cell) : Bool :=
  match s.headFor (cellDest c) with | some f => Nat.beq f.cls 0 | none => false

/-- The order of R260: ALARM heads, then slotframe, then cell index. -/
def State.cellKey (s : State) (c : Cell) : Nat := (bif s.alarmHead c then 0 else 32768) + 2048 * c.sf + c.idx

def insertCell (key : Cell → Nat) (c : Cell) : List Cell → List Cell
  | [] => [c]
  | d :: rest => bif Nat.blt (key c) (key d) then c :: d :: rest else d :: insertCell key c rest

def State.starting (s : State) : List Cell :=
  (s.sched.cells.filter s.startsNow).foldl (fun l c => insertCell s.cellKey c l) []

/-! ### Eligible media (R256-R260) -/

/-- No transmission, response or wake call runs on the medium, is due or awaits its acknowledgement. -/
def State.quietAir (s : State) (m : Medium) : Bool :=
  let a := s.air m
  !s.sends m && a.await.isNone && a.ackDue.isNone

/-- Nothing occupies the medium in this slot. A frame that is still being received defers what is armed behind it (R164, R226). -/
def State.free (s : State) (m : Medium) : Bool :=
  let a := s.air m
  Nat.ble a.spanTo s.sched.asn && Nat.ble a.overTo s.sched.asn && s.quietAir m

/-- A node in OUTAGE uses RF-A only (R270). -/
def State.modeMedium (s : State) (m : Medium) : Bool := decide (m = .rfA) || !decide (s.mode = .outage)

/-- In service, allowed by the cell's mask or by migration (R273), with a channel. -/
def State.cellMedium (s : State) (c : Cell) (m : Medium) : Bool :=
  s.inService m && s.modeMedium m && (c.media.testBit (medIdx m) || c.migrated) && (s.chanOn m s.sched.asn c.choff).isSome

/-- Such a medium that is free. -/
def State.mediumOk (s : State) (c : Cell) (m : Medium) : Bool := s.cellMedium c m && s.free m

/-- Eligible for a cell and a frame. A YM1 neighbour is reached on RF only (R290). -/
def State.eligible (s : State) (c : Cell) (f : LinkFrame) (m : Medium) : Bool :=
  s.mediumOk c m && !(s.ym1For f && isPlc m) && s.fits m c f

/-- The delivery estimate on a medium; 128 where no neighbour is known. -/
def State.estOf (s : State) (f : LinkFrame) (m : Medium) : Nat := match s.nbrOf f with | some n => nbrEst n m | none => 128

/-- The cost of R260 in ns. -/
def State.cost (s : State) (c : Cell) (f : LinkFrame) (m : Medium) : Nat := (s.exchange m c f 0).1 * 255 / max (s.estOf f m) 1

/-- The cheapest of some media, ties to the first. -/
def cheapestOf (cost : Medium → Nat) : List Medium → Option Medium
  | [] => none
  | m :: rest => match cheapestOf cost rest with
    | none => some m
    | some k => bif Nat.blt (cost k) (cost m) then some k else some m

/-- The cheapest eligible medium but `excl`; one whose estimate is below MINQ only where none reaches it. -/
def State.cheapest (s : State) (c : Cell) (f : LinkFrame) (excl : Option Medium) : Option Medium :=
  let l := media3.filter (fun m => !(excl == some m) && s.eligible c f m)
  let good := l.filter (fun m => Nat.ble (s.now R.SCHED.LQE_MINQ) (s.estOf f m))
  cheapestOf (s.cost c f) (bif good.isEmpty then l else good)

/-- The eligible medium whose estimate was updated longest ago (R261). -/
def State.probeMedium (s : State) (c : Cell) (f : LinkFrame) : Option Medium :=
  match s.nbrOf f with
  | none => none
  | some n => cheapestOf (fun m => n.upd.getD (medIdx m) 0) (media3.filter (s.eligible c f))

/-! ### Reserving and listening -/

/-- The last ASN of a span, one past. -/
def State.endAsn (s : State) (n : Nat) : Nat := s.sched.asn + n

/-- An activity is armed on a medium for a cell of `span` slots: at once, or behind the frame that is being received (R164, R226, R258). `past` is
one past the last ASN of an exchange that runs past the cell. -/
def State.arm (s : State) (m : Medium) (act : Activity) (span past : Nat) : State :=
  let late := Nat.beq (s.phy m) 4
  let s := bif late then s else s.rest m
  s.modAir m (fun k => { k with armed := act, winOpen := k.winOpen && !late, deferred := false, spanTo := s.endAsn span, since := s.sched.asn,
                                overTo := past, alarmRx := k.alarmRx && late })

/-- A medium is reserved for a frame in a cell; an exchange that runs past the cell takes the slots after it (R195). -/
def State.reserve (s : State) (m : Medium) (c : Cell) (f : LinkFrame) (alarm : Bool) : State :=
  let chan := (s.chanOn m s.sched.asn c.choff).getD 0
  let span := cellSpan c m
  let need := s.slotsOf (s.exchangeNs m c f (s.frameTone m c f).1.length)
  let a : Attempt := { frame := f.num, nbr := f.dest, chan := chan, prof := cellProf c m, txoff := c.txoff, len := c.len,
                       shared := Nat.beq c.type 3, alarm := alarm }
  s.arm m (.tx a) span (bif Nat.blt span need then s.endAsn need else 0)

/-- A medium listens in a cell to a neighbour: 256 for any, 257 in the alarm cell, 255 for any that a BC_RX cell names (R254). -/
def State.listenOn (s : State) (m : Medium) (c : Cell) (nbr : Nat) : State :=
  s.arm m (.rx nbr ((s.chanOn m s.sched.asn c.choff).getD 0) (cellProf c m)) (cellSpan c m) 0

/-- The alarm cell's receive window (R264). -/
def State.listenAlarm (s : State) (m : Medium) (c : Cell) : State := s.listenOn m c 257

/-- RF_NOFIT of a frame that fits no medium in service that the cell allows (R194, R222, R339). -/
def State.noFit (s : State) (c : Cell) (f : LinkFrame) : State :=
  let l := media3.filter (fun m => s.cellMedium c m && !(s.ym1For f && isPlc m))
  bif l.isEmpty || l.any (fun m => s.fits m c f) then s
  else
    let s := s.each l (fun m t => match m with
      | .rfA => (t.bump R.PHYRF.NOFIT_A).raise 0x38 0
      | .rfB => (t.bump R.PHYRF.NOFIT_B).raise 0x38 0
      | .plc => (t.bump R.PLCPHY.CNT2_NOFIT).raise 0x3B 1)
    bif Nat.beq f.msg 0 then s else s.fragNofit f.msg

/-- A second medium for an ALARM-class frame: none in brown-out (R117), for a YM1 neighbour (R290) or with DUAL = 0. -/
def State.dualOk (s : State) (f : LinkFrame) : Bool :=
  Nat.beq f.cls 0 && Nat.beq (s.now R.SCHED.CFG_DUAL) 1 && !s.bit R.PWR.SUPPLY_BROWNOUT && !s.ym1For f

/-- The unicast frame counts towards the neighbour's next probe; the flag says that it is one (R261). -/
def State.probeCount (s : State) (f : LinkFrame) : State × Bool :=
  match s.nbr? f.dest with
  | none => (s, false)
  | some n =>
    let k := s.now R.SCHED.LQE_PROBE_N
    let fresh := Nat.beq f.tries 0
    let due := fresh && Nat.blt 0 k && Nat.ble k (n.probe + 1) && !Nat.beq f.cls 0
    (bif fresh then s.setNbr { n with probe := (bif due then 0 else min 255 (n.probe + 1)) } else s, due)

/-- A TX or SHARED cell sends its frame. -/
def State.sendIn (s : State) (c : Cell) (f : LinkFrame) : State :=
  let p := s.probeCount f
  match (bif p.2 then s.probeMedium c f else s.cheapest c f none) with
  | none => (s.noFit c f).bump R.SCHED.CNT2_SKIP
  | some m =>
    let s := p.1.reserve m c f false
    let s := bif decide (f.kind = .command 0x04) then { s with sched := { s.sched with pollDue := false } } else s
    bif s.dualOk f then
      match s.cheapest c f (some m) with
      | some k => s.reserve k c f false
      | none => s
    else s

/-- The next medium of the BC_TX rotation (R262). -/
def State.bcMedium (s : State) (c : Cell) (f : LinkFrame) : Option Medium :=
  let order : List Medium := match s.sched.bcLast with | 0 => [.rfB, .plc, .rfA] | 1 => [.plc, .rfA, .rfB] | _ => [.rfA, .rfB, .plc]
  order.find? (s.eligible c f)

/-- A BC_TX cell: the broadcast that is queued, else every BEACON_N-th time a beacon. -/
def State.bcSend (s : State) (c : Cell) : State :=
  let go (s : State) (f : LinkFrame) : State :=
    match s.bcMedium c f with
    | none => (s.noFit c f).bump R.SCHED.CNT2_SKIP
    | some m => { s.reserve m c f false with sched := { s.sched with bcLast := medIdx m } }
  match s.queueHead 300 with
  | some f => go s f
  | none =>
    bif Nat.blt s.role 2 || !s.joined then s
    else
      let n := s.sched.bcCells + 1
      bif Nat.blt n (s.now R.SCHED.CFG_BEACON_N) then { s with sched := { s.sched with bcCells := n } }
      else
        let s := { s with sched := { s.sched with bcCells := 0 } }
        bif (s.bcMedium c s.beacon).isNone then s.bump R.SCHED.CNT2_SKIP
        else
          let t := s.enqueue s.beacon
          match t.frame? s.sched.nextNum with
          | some f => go t f
          | none => t

/-- The backoff lets a SHARED cell send (R286). -/
def State.backoffOk (s : State) (nbr : Nat) : Bool := match s.nbr? nbr with | some n => Nat.beq n.bo 0 | none => true

/-- The send role of a cell. -/
def State.sendRole (s : State) (c : Cell) : State :=
  match c.type with
  | 1 => match s.headFor c.nbr with | some f => s.sendIn c f | none => s
  | 3 => match s.headFor c.nbr with
    | some f => bif s.backoffOk c.nbr then s.sendIn c f else s
    | none => s
  | 4 => s.bcSend c
  | _ => s

/-- The cell carries a transmission in this slot. -/
def State.sendsNow (s : State) (c : Cell) : Bool :=
  media3.any (fun m => Nat.beq (s.air m).since s.sched.asn &&
    (match (s.air m).armed with | .tx a => !a.alarm && Nat.beq a.nbr c.nbr && a.shared | .idle => false | .rx _ _ _ => false))

/-- The neighbour of a receiving cell is being resynchronised (R269). -/
def State.resyncing (s : State) (c : Cell) : Option Resync :=
  s.sched.resyncs.find? (fun r => (Nat.beq r.nbr c.nbr || (Nat.beq c.type 5 && Nat.beq c.nbr 255)) && Nat.blt s.sched.asn r.until_)

/-- The media of a widened window: RF-A, and PLC where its estimate reaches MINQ. Other activities are displaced, ALARM-class
transmissions apart. -/
def State.wideOn (s : State) (r : Resync) (m : Medium) : Bool :=
  let okPlc := match s.nbr? r.nbr with | some n => Nat.ble (s.now R.SCHED.LQE_MINQ) (nbrEst n .plc) | none => false
  let alarm := match (s.air m).armed with | .tx a => Nat.beq (s.clsOf a.frame) 0 | .idle => false | .rx _ _ _ => false
  let fresh := Nat.beq (s.air m).since s.sched.asn || s.free m
  s.inService m && s.modeMedium m && fresh && !alarm && (match m with | .rfA => true | .rfB => false | .plc => okPlc)

/-- A sleepy node's RX and SHARED cells from its parent run in the response period only (R270). -/
def State.asleepFor (s : State) (c : Cell) : Bool :=
  decide (s.mode = .outage) && s.source == some c.nbr && (Nat.beq c.type 2 || Nat.beq c.type 3) && !Nat.blt s.sched.asn s.sched.respTo

/-- The neighbour that a receiving cell names, 256 for any (R254). -/
def listensTo (c : Cell) : Nat := bif Nat.beq c.type 5 && Nat.beq c.nbr 255 then 256 else c.nbr

/-- The receive role of a cell: every eligible medium that is free. -/
def State.listenRole (s : State) (c : Cell) : State :=
  match s.resyncing c with
  | some r => s.each (media3.filter (s.wideOn r)) (fun m t => t.listenOn m c r.nbr)
  | none =>
    bif s.asleepFor c then s
    else
      let l := media3.filter (s.mediumOk c)
      bif l.isEmpty then s.bump R.SCHED.CNT2_SKIP else s.each l (fun m t => t.listenOn m c (listensTo c))

/-- The receive roles: RX, BC_RX, and SHARED cells that do not send, which lower their backoff. -/
def State.recvRole (s : State) (c : Cell) : State :=
  match c.type with
  | 2 => s.listenRole c
  | 5 => s.listenRole c
  | 3 => bif s.sendsNow c then s
    else (s.modNbr c.nbr (fun n => { n with bo := n.bo - 1 })).listenRole c
  | _ => s

/-! ### The alarm cell and the join cell (R87, R263, R264, R303) -/

/-- The alarm cell of a slot, as a cell. -/
def State.alarmCell (s : State) : Cell :=
  { idx := 0, sf := 0, slot := 0, choff := s.now R.SCHED.ALARM_CHOFF, len := 1, type := 3, nbr := 256,
    txoff := s.now R.SCHED.ALMOFF_TXOFF + 500 * (s.ownExt % 8), profA := s.now R.SCHED.ALARM_PROF_A,
    profB := s.now R.SCHED.ALARM_PROF_B, media := 3, outage := true, migrated := false, state := 1 }

/-- The last gasp takes the alarm cell of its slot from any cell: RF-A, and RF-B for its second copy where that is in service (R87). -/
def State.gaspSend (s : State) : State :=
  match s.sched.gasp with
  | none => s
  | some num => match s.frame? num with
    | none => s
    | some f =>
      bif s.inFlight num || Nat.blt s.sched.asn f.due then s
      else
        let c := s.alarmCell
        let takes (m : Medium) : Bool := s.quietAir m && s.fits m c f && (s.chanOn m s.sched.asn c.choff).isSome
        let s := bif s.serviceable .rfA && takes .rfA then s.reserve .rfA c f true else s
        bif s.inService .rfB && takes .rfB then s.reserve .rfB c f true else s

/-- An ALARM-class frame that may use the alarm cell: at the head of its queue, for a neighbour that listens there. -/
def State.alarmFrame (s : State) : Option LinkFrame :=
  s.sched.queue.find? (fun f => Nat.beq f.cls 0 && Nat.ble f.due s.sched.asn && !f.waits && !s.inFlight f.num && !f.joinKey &&
    !(s.sched.gasp == some f.num) &&
    (match s.nbr? f.dest with | some n => Nat.ble 1 n.role && (match s.queueHead f.dest with | some h => Nat.beq h.num f.num | none => false)
                              | none => false))

/-- What R260 leaves free in the slot goes to the alarm cell: a queued ALARM-class frame, or listening (R263, R264). -/
def State.alarmUse (s : State) : State :=
  let c := s.alarmCell
  let s := match s.alarmFrame with
    | none => s
    | some f => match s.cheapest c f none with
      | none => s.noFit c f
      | some m =>
        let s := s.reserve m c f true
        bif s.dualOk f then match s.cheapest c f (some m) with | some k => s.reserve k c f true | none => s else s
  bif decide (s.mode = .service) && Nat.ble 2 s.role && Nat.beq (s.now R.SCHED.ALARM_LISTEN) 1 then
    s.each [Medium.rfA, Medium.rfB] (fun m t => bif t.mediumOk c m then t.listenAlarm m c else t)
  else s

/-- A join cell as a cell: RF-A and PLC (R303). -/
def State.joinCell (s : State) (choff : Nat) : Cell :=
  { idx := 0, sf := 0, slot := 0, choff := choff, len := 1, type := 3, nbr := 256, txoff := 1000,
    profA := s.now R.SCHED.ALARM_PROF_A, profB := 0, media := 5, outage := true, migrated := false, state := 1 }

/-- A queued join frame: 0x01 request, 0x02 response. -/
def State.joinFrame (s : State) (id : Byte) : Option LinkFrame :=
  s.sched.queue.find? (fun f => f.joinKey && decide (f.kind = .command id) && Nat.ble f.due s.sched.asn && !f.waits && !s.inFlight f.num)

/-- Every free medium of a join cell listens. -/
def State.joinListen (s : State) (c : Cell) (nbr : Nat) : State :=
  s.each (media3.filter (s.mediumOk c)) (fun m t => t.listenOn m c nbr)

/-- JOIN_CELL of a node that admits: one queued response, else it listens. -/
def State.joinServe (s : State) : State :=
  let sf := s.now R.MESH.CFG_JOINSF
  let resp := s.joinFrame 0x02
  bif !(s.bit (R.SCHED.SF_EN sf) && Nat.beq (s.sched.asn % s.sfLen sf) 0) || !(s.admits || resp.isSome) then s
  else
    let c := s.joinCell (s.now R.MESH.CFG_JCHOFF)
    match resp with
    | some f => match s.cheapest c f none with | some m => s.reserve m c f false | none => s.noFit c f
    | none => s.joinListen c 256

/-- JOIN_CELL of a joiner: its request on the medium on which the sender was heard best, else it listens. -/
def State.joinAsk (s : State) : State :=
  match s.mesh.target with
  | none => s
  | some r =>
    bif !Nat.beq s.joinSt 3 || !Nat.beq (s.sched.asn % max 1 r.joinLen) 0 then s
    else
      let c := s.joinCell r.jchoff
      let m : Medium := bif !(r.snr == 0x80#8) && Nat.ble 24 r.snr.toNat then .plc else .rfA
      let i := match s.nbrByExt r.ext with | some n => n.idx | none => 256
      match s.joinFrame 0x01 with
      | some f => bif s.eligible c f m then s.reserve m c f false else s.noFit { c with media := 2 ^ medIdx m } f
      | none => s.joinListen c i

/-! ### The slot boundary (R244-R250, R260, R279) -/

/-- The counter moves on, and with it what takes effect at a boundary: a move (R249), 20 µs of a slew (R250), the XO trim (R171). The last
zero crossing lies nearer to a boundary that has moved towards it. -/
def State.advance (s : State) : State :=
  let hz60 := Nat.beq s.ret.profile.hz 2
  let first := bif s.bit R.RTC.STAT_OSF then 0 else s.rtc.count / 32768 * (bif hz60 then 120 else 100) % 2 ^ 40
  let asn := bif s.sched.origin then first else (s.sched.asn + 1) % 2 ^ 40
  let d := s.sched.slew
  let d' : Int := bif decide (d.natAbs ≤ 20) then 0 else bif decide (0 < d) then d - 20 else d + 20
  let step : Int := bif decide (d.natAbs ≤ 20) then d else bif decide (0 < d) then 20 else -20
  let cross := s.plc.cross - s.sched.move - step
  let s := { s with sched := { s.sched with asn := asn, slotUs := 0, move := 0, slew := d', origin := false },
                    plc := { s.plc with cross := cross } }
  let s := bif decide (d = 0) then s else s.setBit R.SCHED.STAT_SLEWING (!decide (d' = 0))
  let s := match s.radio.xoDue with
    | some (code, temp) =>
      ({ s with radio := { s.radio with xoDue := none } }).setAll [(R.RFCAL.XOTRIM_CODE, code), (R.RFCAL.XOTRIM_TEMP, temp)]
    | none => s
  bif s.isLocked && s.inService .plc then s.bump R.PLCPHY.SNDSTAT_HC else s

/-- KEY_SWITCHOVER (R279). -/
def State.keySwitch (s : State) : State :=
  let at_ := s.get R.LINKSEC.KSW0_ASN_L + 2 ^ 32 * s.get R.LINKSEC.KSW1_ASN_H
  bif s.bit R.LINKSEC.KSW1_ARM && Nat.ble at_ s.sched.asn then
    let i := s.get R.LINKSEC.KSW1_NEXT
    let s := (s.setAll [(R.LINKSEC.TXKEY_NET, i), (R.LINKSEC.KSW1_ARM, 0)]).raise 0x42 1
    s.mirror (.config 0x42 0x40 (BitVec.ofNat 32 i))
  else s

/-- Changed neighbour entries go to the partner at each boundary (R362). -/
def State.mirrorNbrs (s : State) : State :=
  bif s.mirroring then
    let l := s.sched.nbrs.filter (fun (n : Nbr) => !s.pair.nbrsSent.any (fun o => decide (o = n)))
    let t := s.each l (fun n t => t.mirror (.nbr n))
    { t with pair := { t.pair with nbrsSent := t.sched.nbrs } }
  else s

/-- CELL_OVERRUN_SUPPRESS (R195): in a slot past its cell that an exchange still occupies, a chain's cells are suppressed; every slot
has at least its alarm cell. -/
def State.overrun (s : State) (m : Medium) : State :=
  let a := s.air m
  bif !isPlc m && Nat.ble a.spanTo s.sched.asn && Nat.blt s.sched.asn a.overTo then
    let n := max 1 ((s.sched.cells.filter s.startsNow).filter (fun c => c.media.testBit (medIdx m) || c.migrated)).length
    (s.bump (ovrFld m) n).raise 0x38 1
  else s

/-- A deferred transmission whose cell has ended is more than 200 µs late: it is abandoned (R167, R226). -/
def State.tooLate (s : State) (m : Medium) : State :=
  let a := s.air m
  let tx := match a.armed with | .tx _ => true | .idle => false | .rx _ _ _ => false
  bif !a.deferred || !tx then s
  else
    let s := s.set (R.HDR.REASON (medPage m)) 0x40
    match medChain m with
    | some c => (s.bump (abnFld (chainIdx c) 0x40)).raise (medPage m) 0
    | none => s.bump R.PLCPHY.CNT2_BUSY

/-- What an activity whose cell has ended leaves: a medium that is free goes back to rest, but for the frame it is receiving. -/
def State.clearEnded (s : State) (m : Medium) : State :=
  bif !s.free m then s
  else
    let s := s.tooLate m
    bif Nat.beq (s.phy m) 4 then s.modAir m (fun a => { a with armed := .idle, deferred := false, winOpen := false }) else s.rest m

/-- R260 and what it leaves free. Where the join cell and the alarm cell both claim a chain, the join cell is served first: the model's choice,
R264 and R303 do not order them (log entry 94). -/
def State.armSlot (s : State) : State :=
  let cells := s.starting
  let s := s.each cells (fun c t => t.sendRole c)
  let s := s.each cells (fun c t => t.recvRole c)
  (s.joinAsk.joinServe.alarmUse).spaceOut

/-- The on-air check (R371): the alarm cell on RF-A, every BC_RX cell, and PLC. -/
def State.armCheck (s : State) : State :=
  let c := s.alarmCell
  let s := s.each (s.starting.filter (fun c => Nat.beq c.type 5)) (fun c t => t.listenRole c)
  let s := bif s.mediumOk c .rfA then s.listenAlarm .rfA c else s
  (bif s.serviceable .plc && s.free .plc then s.listenOn .plc c 256 else s).spaceOut

/-- SLOT_BOUNDARY. -/
def State.slotBoundary (s : State) : State :=
  let s := s.advance.turnCells
  let s := (s.each media3 (fun m t => (t.overrun m).clearEnded m)).unwait.keySwitch
  let s := s.mirrorNbrs
  let s := s.each s.sched.nbrs (fun n t => t.childWindow n)
  bif s.sched.halted then s
  else bif Nat.beq (s.get R.PAIR.STAT_PST) 2 then s.armCheck
  else bif !s.maySend || s.pair.handover then s
  else s.gaspSend.armSlot

/-- SLOT_BOUNDARY: in every timing state but NONE. -/
def execSlotBoundary (s : State) : Host.Outcome State Fault Refusal :=
  .next (bif Nat.beq (s.get R.SCHED.STAT_TIMING) 0 then s else s.slotBoundary)

/-! ### The SF0 boundary (R253, R272-R274) -/

/-- CELL_MIGRATION: a cell whose mask holds no medium in service migrates; with one back it reverts. -/
def State.migrate (s : State) : State :=
  let away (c : Cell) : Bool := !media3.any (fun m => c.media.testBit (medIdx m) && (s.air m).inSvc && s.serviceable m)
  let n := (s.sched.cells.filter (fun (c : Cell) => away c && !c.migrated)).length
  let t := { s with sched := { s.sched with cells := s.sched.cells.map (fun (c : Cell) => { c with migrated := away c }) } }
  bif Nat.beq n 0 then t else (t.bump R.SCHED.CNT2_MIGRATE n).raise 0x40 5

/-- The configuration of R202 at this boundary: full in SERVICE while both chains are in service. -/
def State.fullConf (s : State) : Bool := decide (s.mode = .service) && s.inService .rfA && s.inService .rfB

/-- The sequence numbers of the neighbours go to the partner (R362). -/
def State.mirrorSeqs (s : State) : State :=
  bif s.mirroring then s.each s.sched.nbrs (fun n t => t.mirror (.seqNo (BitVec.ofNat 8 n.idx) (BitVec.ofNat 8 (n.txseq + 255)))) else s

/-- E4 applies the declared phase (R37, R151). While LOCKED it slews to where the locked boundary then lies, and without a declared PHASE it runs
on in crystal timing: the model's choice, R151 says only that the phase is applied (log entry 108). -/
def State.takePhase (s : State) : State :=
  let p := s.ret.profile.phase
  let t := { s with sched := { s.sched with phase := p } }
  bif Nat.beq p s.sched.phase || !s.isLocked then t
  else bif Nat.beq p 0 then
    ({ t with sched := { t.sched with slew := 0 } }.setAll [(R.SCHED.STAT_TIMING, 1), (R.SCHED.STAT_SLEWING, 0), (R.PLCPHY.SNDSTAT_HC, 0)]).raise
      0x40 1
  else { t with sched := { t.sched with slew := t.lockDistance } }.setBit R.SCHED.STAT_SLEWING (!decide (t.lockDistance = 0))

/-- While SCHED is STOPPING, its cells stop at this boundary (R248); a frame in progress ends its own way. -/
def State.halt (s : State) : State :=
  bif !Nat.beq (s.get (R.HDR.ST 0x40)) 3 then s
  else
    let s := s.each media3 (fun m t => bif t.quietAir m && !Nat.beq (t.phy m) 4 then t.quiet m else t)
    { s with sched := { s.sched with halted := true } }

/-- SLOTFRAME_BOUNDARY. -/
def State.slotframeBoundary (s : State) : State :=
  let s := (s.takeForce stagedReg).takePhase.halt
  let s := s.each media3 (fun m t => t.modAir m (fun a => { a with inSvc := s.serviceable m }))
  let s := s.migrate
  let s := (s.setBit R.PHYRF.STAT_CONF (!s.fullConf)).mirrorSeqs
  s.evalParents

/-- SLOTFRAME_BOUNDARY: the environment says when SF0's boundary is. -/
def execSlotframeBoundary (s : State) : Host.Outcome State Fault Refusal :=
  .next (bif Nat.beq (s.get R.SCHED.STAT_TIMING) 0 then s else s.slotframeBoundary)

/-- MEDIUM_LEAVES_SERVICE (R272): what is reserved and has not started goes back to its queue; a frame in progress ends by R163, R211
and R223. -/
def execMediumLeavesService (m : Medium) (s : State) : Host.Outcome State Fault Refusal :=
  let busy := s.sends m || Nat.beq (s.phy m) 4
  let t := bif busy then s else s.quiet m
  .next (t.modAir m (fun a => { a with inSvc := false }))

/-! ### Failed attempts (R284-R286) -/

/-- The backoff after a failed attempt in a SHARED cell. -/
def State.backOff (s : State) (i : Nat) (alarm : Bool) : State :=
  match s.nbr? i with
  | none => s
  | some n =>
    let lo := s.now R.LINK.CFG_MINBE
    let be := min (s.now R.LINK.CFG_MAXBE) (max n.be lo + 1)
    let w := bif alarm then lo else be
    ((s.setNbr { n with be := be, bo := s.draw (2 ^ w) }).spend 1)

/-- Attempts per frame by class (R285). -/
def State.retries (s : State) (cls : Nat) : Nat :=
  s.now (match cls with | 0 => R.LINK.RETRY_ALARM | 1 => R.LINK.RETRY_CONTROL | 2 => R.LINK.RETRY_TELEMETRY | _ => R.LINK.RETRY_BULK)

/-- The last gasp has used its attempts or is acknowledged. -/
def State.gaspOver (s : State) (num : Nat) : State :=
  bif s.sched.gasp == some num then { s with sched := { s.sched with gasp := none } } else s

/-- RETRY_LIMIT_DROP (R285): E6 is told. A poll is not tried again (the worked example of R270). -/
def State.retryDrop (s : State) (f : LinkFrame) : State :=
  let t := (s.dropFrame f.num).gaspOver f.num
  bif decide (f.kind = .command 0x04) then t
  else ((t.bump R.LINK.CNT0_DROP).raise 0x41 1).returned f false

/-- An attempt ends without an acknowledgement, no other copy of its frame being under way. -/
def State.attemptFailed (s : State) (f : LinkFrame) (a : Attempt) : State :=
  let s := bif a.shared then s.backOff f.dest (Nat.beq f.cls 0) else s
  let f := (s.frame? f.num).getD f
  bif decide (f.kind = .command 0x04) || Nat.ble (s.retries f.cls) f.tries then s.retryDrop f
  else
    let join := f.joinKey && decide (f.kind = .command 0x01)
    let wait := bif a.alarm then 1 + s.draw 8
      else bif join then (match s.mesh.target with | some r => r.joinLen | none => 1) * (1 + s.draw 4) else 0
    let s := bif a.alarm || join then s.spend 1 else s
    s.modFrame f.num (fun f => { f with ctr := none, due := s.sched.asn + wait })

/-- ACK_MISSED on a medium. -/
def State.ackMissed (s : State) (m : Medium) (a : Attempt) : State :=
  let mode := (s.air m).mode
  let s := (s.rest m).modAir m (fun k => { k with await := none, spanTo := 0, overTo := 0 })
  let s := s.bump R.LINK.CNT0_NOACK
  match s.frame? a.frame with
  | none => s
  | some f =>
    let s := match s.nbrOf f with
      | some n =>
        let s := (s.estimate n.idx m false).missed n.idx
        bif isPlc m then s.toneOutcome n.idx mode false else s
      | none => s
    match s.frame? a.frame with
    | none => s
    | some f => bif s.inFlight f.num then s else s.attemptFailed f a

/-- ACK_MISSED. -/
def execAckMissed (m : Medium) (s : State) : Host.Outcome State Fault Refusal :=
  match (s.air m).await with
  | some a => .next (s.ackMissed m a)
  | none => .next s

/-! ### Keep-alives, resynchronisation and polls (R267-R271) -/

/-- An empty frame to a neighbour: a keep-alive. -/
def State.keepAlive (s : State) (i : Nat) : State := s.enqueue { LinkFrame.blank with dest := i, frag := 1 }

/-- KEEPALIVE_DUE (R268). -/
def execKeepaliveDue (s : State) : Host.Outcome State Fault Refusal :=
  match s.source with
  | some i => match s.nbr? i with
    | some n =>
      let waits := s.sched.queue.any (fun (f : LinkFrame) =>
        Nat.beq f.dest i && decide (f.kind = .data) && f.mesh.isNone && f.payload.isEmpty && f.join.isEmpty)
      .next (bif Nat.beq (s.get R.SCHED.STAT_TIMING) 1 && decide (s.mode = .service) && Nat.ble (s.now R.SCHED.CFG_KA_S) (s.age n) && !waits then
        s.keepAlive i else s)
    | none => .next s
  | none => .next s

/-- The channel number of wake calls. -/
def State.micaChan (s : State) : Nat :=
  ((List.range s.chanCount).find? (fun n => Nat.beq (s.chanKHz n) (s.get R.MICA.CFG_FREQ))).getD 255

/-- A wake call to a neighbour starts on RF-A, under the rules of every transmission (R173, R179, R181, R184, R269): repeated back to back for
CALLMS. One that is abandoned is called again. -/
def State.wakeCall (s : State) (n : Nbr) (x : TxSample) : State :=
  let s := ((s.quiet .rfA).wakeMedium .rfA).sampled .a x
  let ms := s.get R.MICA.CFG_CALLMS
  match s.txStop .a false false s.micaChan (1000 * ms) x with
  | some r => s.txStopped .a r
  | none =>
    let s := (s.txGoes .a false false n.idx s.micaChan (1000 * ms) x).bump R.SCHED.CNT_WAKECALL
    let w : WakeCall := { nbr := n.idx, id := n.wake, octets := wakeOctets n.wake, kHz := s.get R.MICA.CFG_FREQ, ms := ms,
                          pwr := (s.air .rfA).pwr }
    let l := s.sched.resyncs.map (fun (x : Resync) => bif Nat.beq x.nbr n.idx then { x with called := true } else x)
    { s with radio := { s.radio with calling := some w }, sched := { s.sched with resyncs := l } }.spaceOut

/-- RF-A can start a wake call: it is idle or in a receive window, and has no ALARM-class frame armed. -/
def State.canCall (s : State) : Bool :=
  let alarm := match (s.air .rfA).armed with | .tx a => Nat.beq (s.clsOf a.frame) 0 | .idle => false | .rx _ _ _ => false
  s.quietAir .rfA && (Nat.beq (s.phy .rfA) 2 || Nat.beq (s.phy .rfA) 3) && !alarm

/-- RESYNC_EXPIRY (R269): a wake call where the neighbour was in OUTAGE, once, as soon as RF-A can; else LOST. -/
def State.resyncExpiry (s : State) (r : Resync) (x : TxSample) : State :=
  match s.nbr? r.nbr with
  | none => { s with sched := { s.sched with resyncs := s.sched.resyncs.filter (fun (x : Resync) => !Nat.beq x.nbr r.nbr) } }
  | some n =>
    bif !(n.outage && !r.called && s.maySend && s.serviceable .rfA) then s.markLost r.nbr
    else bif s.canCall then s.wakeCall n x
    else s

/-- RESYNC_EXPIRY. -/
def execResyncExpiry (nbr : Byte) (x : TxSample) (s : State) : Host.Outcome State Fault Refusal :=
  match s.sched.resyncs.find? (fun (r : Resync) => Nat.beq r.nbr nbr.toNat) with
  | some r =>
    let busy := match s.radio.calling with | some c => Nat.beq c.nbr r.nbr | none => false
    .next (bif Nat.ble r.until_ s.sched.asn && !busy then s.resyncExpiry r x else s)
  | none => .next s

/-- A poll is queued for the first TX or SHARED cell to the parent (R270, R324). -/
def State.poll (s : State) : State :=
  match s.source with
  | none => s
  | some i =>
    let q := s.sched.queue.filter (fun f => !(decide (f.kind = .command 0x04) && !s.inFlight f.num))
    let s := { s with sched := { s.sched with queue := q, pollDue := true, polled := s.get R.SYS.OPSEC_SEC } }
    s.enqueue { LinkFrame.blank with dest := i, kind := .command 0x04, payload := [0x04], frag := 1 }

/-- POLL_DUE. -/
def execPollDue (s : State) : Host.Outcome State Fault Refusal :=
  .next (bif decide (s.mode = .outage) && !Nat.beq (s.get R.SCHED.STAT_TIMING) 0 then s.poll else s)

/-- POLL_RESPONSE_END (R267, R270): the node returns to sleep; a response that did not come is a miss. -/
def execPollResponseEnd (s : State) : Host.Outcome State Fault Refusal :=
  let t := { s with sched := { s.sched with respTo := 0, respDue := false } }
  .next (match s.source with | some i => t.onlyIf s.sched.respDue (·.missed i) | none => t)

/-- CHILD_POLL_TIMEOUT (R271): three of the child's poll intervals passed without a poll. -/
def execChildPollTimeout (nbr : Byte) (s : State) : Host.Outcome State Fault Refusal :=
  match s.nbr? nbr.toNat with
  | some n =>
    let iv := bif Nat.beq n.pollS 0 then s.now R.SCHED.POLL_POLL_S else n.pollS
    .next (bif sleepyChild n && Nat.ble (n.polled + 3 * iv) (s.get R.SYS.OPSEC_SEC) then s.markUnsync n.idx else s)
  | none => .next s

/-! ### CELLCMD (R254) -/

/-- A profile names no mode. -/
def State.noMode (s : State) (k : Nat) : Bool := Nat.beq (s.get (R.PHYRF.PROF_CFG_MODE k)) 0

/-- The cell that CELLD0 to CELLD2 spell. -/
def State.cellData (s : State) : Cell :=
  { idx := 0, sf := s.get R.SCHED.CELLD0_SF, slot := s.get R.SCHED.CELLD0_SLOT, choff := s.get R.SCHED.CELLD0_CHOFF,
    len := s.get R.SCHED.CELLD0_LEN, type := s.get R.SCHED.CELLD1_TYPE, nbr := s.get R.SCHED.CELLD1_NBR,
    txoff := s.get R.SCHED.CELLD1_TXOFF, profA := s.get R.SCHED.CELLD2_PROF_A, profB := s.get R.SCHED.CELLD2_PROF_B,
    media := s.get R.SCHED.CELLD1_MEDIA, outage := s.bit R.SCHED.CELLD2_OUTAGE, migrated := false, state := 0 }

/-- The reason that refuses a cell, 0 for none. -/
def State.cellBad (s : State) (c : Cell) : Nat :=
  bif Nat.beq c.len 0 || Nat.blt 8 c.len || Nat.beq c.type 0 || Nat.blt 5 c.type || Nat.beq c.media 0 || Nat.blt c.txoff 200 ||
      Nat.blt 8000 c.txoff then RC.BAD_VALUE
  else bif Nat.ble (s.sfLen c.sf) c.slot || (Nat.beq c.nbr 255 && Nat.ble c.type 3) || s.noMode c.profA || s.noMode c.profB then RC.CONFLICT
  else 0

/-- A cell command: a STANDBY refuses what changes the mirrored table (R365). -/
def State.cellCmd (s : State) (who : Nat) (changes : Bool) (f : State → State) : Host.Outcome State Fault Refusal :=
  s.command who 0x40 0x80 (fun s => bif changes && s.standby && Nat.beq who 12 then s.refuse 0x40 RC.MODE 0x80 else f s)

/-- ADD. -/
def State.cellAdd (s : State) : State :=
  let c := s.cellData
  let r := s.cellBad c
  bif !Nat.beq r 0 then s.refuse 0x40 r 0x80
  else
    let t := s.addCell c
    match t.2 with
    | none => s.refuse 0x40 RC.NO_RESOURCE 0x80
    | some i => (t.1.set R.SCHED.CELLD3_INDEX i).raise 0x40 6

/-- CELLCMD_ADD. -/
def execCellcmdAdd (who : Requester) (s : State) : Host.Outcome State Fault Refusal := s.cellCmd who true State.cellAdd

def State.cell? (s : State) (i : Nat) : Option Cell :=
  s.sched.cells.find? (fun (c : Cell) => Nat.beq c.idx i && !Nat.beq c.state 2)

/-- A cell goes: at its slotframe's next boundary where it has started. -/
def State.cellGo (s : State) (c : Cell) : State :=
  let l := s.sched.cells
  let l := bif Nat.beq c.state 1 && s.bit (R.SCHED.SF_EN c.sf) then
      l.map (fun (d : Cell) => bif Nat.beq d.idx c.idx then { d with state := 2 } else d)
    else l.filter (fun (d : Cell) => !Nat.beq d.idx c.idx)
  ({ s with sched := { s.sched with cells := l } }).mirror (.noCell (BitVec.ofNat 11 c.idx))

/-- CELLCMD_DEL. -/
def execCellcmdDel (who : Requester) (idx : BitVec 11) (s : State) : Host.Outcome State Fault Refusal :=
  s.cellCmd who true (fun s => match s.cell? idx.toNat with
    | some c => (s.cellGo c).raise 0x40 6
    | none => s.refuse 0x40 0x40 0x80)

/-- CELLCMD_READ: into CELLD0 to CELLD3. -/
def execCellcmdRead (who : Requester) (idx : BitVec 11) (s : State) : Host.Outcome State Fault Refusal :=
  s.cellCmd who false (fun s => match s.cell? idx.toNat with
    | some c =>
      (s.setAll [(R.SCHED.CELLD0_SF, c.sf), (R.SCHED.CELLD0_SLOT, c.slot), (R.SCHED.CELLD0_CHOFF, c.choff), (R.SCHED.CELLD0_LEN, c.len),
        (R.SCHED.CELLD1_TYPE, c.type), (R.SCHED.CELLD1_MEDIA, c.media), (R.SCHED.CELLD1_NBR, c.nbr), (R.SCHED.CELLD1_TXOFF, c.txoff),
        (R.SCHED.CELLD2_PROF_A, c.profA), (R.SCHED.CELLD2_PROF_B, c.profB), (R.SCHED.CELLD2_OUTAGE, bif c.outage then 1 else 0),
        (R.SCHED.CELLD3_INDEX, c.idx), (R.SCHED.CELLD3_MIGRATED, bif c.migrated then 1 else 0), (R.SCHED.CELLD3_VALID, 1)]).raise 0x40 6
    | none => (s.set R.SCHED.CELLD3_VALID 0).refuse 0x40 0x40 0x80)

/-- CELLCMD_DELETE_SF. -/
def execCellcmdDeleteSf (who : Requester) (s : State) : Host.Outcome State Fault Refusal :=
  s.cellCmd who true (fun s =>
    (s.each (s.sched.cells.filter (fun (c : Cell) => Nat.beq c.sf (s.get R.SCHED.CELLD0_SF) && !Nat.beq c.state 2)) (fun c t => t.cellGo c)).raise
      0x40 6)

/-- SCHED_TIME0_READ (R246): SLOT_US is the environment's; TIME1 is latched for the requester. -/
def execSchedTime0Read (who : Requester) (slotUs : Half) (s : State) : Host.Outcome State Fault Refusal :=
  let g := s.guard who 0x40 0x2C false
  .next (bif g.2 then
    let us := bif Nat.beq (s.get R.SCHED.STAT_TIMING) 0 then 0 else slotUs.toNat
    let t := g.1
    { t with sched := { t.sched with slotUs := us, latches := t.sched.latches.put who (t.sched.asn / 2 ^ 16 + 1) },
             lastRead := us + 2 ^ 16 * (t.sched.asn % 2 ^ 16) }
  else g.1)

/-! ### Link key commands (R279, R295, R356) -/

/-- The staged words are cleared after each KEYCMD. -/
def State.clearStaged (s : State) : State := { s with sched := { s.sched with stagedKey := [] } }

/-- LOAD. -/
def State.keyLoad (s : State) : State :=
  let i := s.get R.LINKSEC.KEYSEL_SLOT
  let idx := (s.key i).idx
  bif (s.key i).valid then s.clearStaged.refuse 0x42 0x40 0x3C
  else bif Nat.beq idx 0 then s.clearStaged.refuse 0x42 RC.BAD_VALUE 0x28
  else bif (s.slotOf idx).isSome then s.clearStaged.refuse 0x42 RC.CONFLICT 0x28
  else s.clearStaged.loadKey i idx ((List.range 4).flatMap (fun k => leBytes 4 (s.sched.stagedKey.look k)))

/-- LINKSEC_KEY_LOAD. -/
def execLinksecKeyLoad (who : Requester) (s : State) : Host.Outcome State Fault Refusal := s.command who 0x42 0x3C State.keyLoad

/-- ERASE. -/
def State.keyErase (s : State) : State :=
  let i := s.get R.LINKSEC.KEYSEL_SLOT
  let used := Nat.beq i (s.get R.LINKSEC.TXKEY_NET) || (s.bit R.LINKSEC.KSW1_ARM && Nat.beq i (s.get R.LINKSEC.KSW1_NEXT))
  bif used then s.clearStaged.refuse 0x42 0x40 0x3C
  else
    let k := s.key i
    ((s.clearStaged.setKey i KeySlot.empty).commit).mirror (.key (Fin.ofNat 16 i) (BitVec.ofNat 8 k.idx) none)

/-- LINKSEC_KEY_ERASE. -/
def execLinksecKeyErase (who : Requester) (s : State) : Host.Outcome State Fault Refusal := s.command who 0x42 0x3C State.keyErase

end Sys2Proof.Machine
end

