-- ==== Sys2Proof/Machine/Words.lean ====
section
/-!
DEFINITION. A register word as a whole: the stored fields of a word, read and written together (R7, R8), and the registers that a
redundant pair mirrors (R362, R365).
-/

namespace Sys2Proof.Machine

/-- The stored fields of the word at page:offset. -/
def rowsAt (p off : Nat) : List Row := (pageRows p).filter (fun r => Nat.beq r.fld.off off)

/-- A field that software writes. -/
def Row.writable (r : Row) : Bool := decide (r.acc = .rw) || decide (r.acc = .rwl)

/-- The word that the stored fields at page:offset spell. -/
def State.storedWord (s : State) (p off : Nat) : Nat :=
  (rowsAt p off).foldl (fun w r => w + s.get r.fld * 2 ^ r.fld.lsb) 0

/-- The writable fields at page:offset take the bits of a word. -/
def State.putWord (s : State) (p off w : Nat) : State :=
  s.setAll (((rowsAt p off).filter Row.writable).map (fun r => (r.fld, r.fld.of w)))

/-- Pages and registers whose configuration the pair mirrors (R362). -/
def mirroredPlace (p off : Nat) : Bool :=
  let is (f : Fld) : Bool := Nat.beq p f.page && Nat.beq off f.off
  Nat.beq p 0x40 || Nat.beq p 0x41 || Nat.beq p 0x44 || Nat.beq p 0x38 ||
    [R.LINKSEC.CFG_SECLVL, R.ASSOC.CFG_ASK, R.MSG.CFG_FRAGBODY].any is ||
    (List.range 4).any (fun k => is (R.MSG.CLS_TIMEOUT_S k)) || (List.range 7).any (fun k => is (R.PLCPHY.NOTCH_MASK k))

/-- A mirrored configuration field: a writable RET field there; selectors and staged operands are none. -/
def Row.mirrored (r : Row) : Bool := r.writable && decide (r.kept = .ret) && mirroredPlace r.fld.page r.fld.off

/-- The register at page:offset holds mirrored configuration (R362, R365). -/
def mirroredReg (p off : Nat) : Bool := (rowsAt p off).any Row.mirrored

/-- The offsets of a page's mirrored registers. -/
def mirroredOffs (p : Nat) : List Nat := (((pageRows p).filter Row.mirrored).map (fun r => r.fld.off)).eraseDups

end Sys2Proof.Machine
end

