-- ==== Sys2Proof/Machine/Deliver.lean ====
section
/-!
DEFINITION. What the end of a received frame does: acceptance and duplicates (R277, R279, R283-R290), timing (R247-R252, R265), beacons and
joining (R296-R308), forwarding (R318-R322), polls (R324-R326), acknowledgements (R284), and a second PRIMARY on air (R371, R372).
-/

namespace Sys2Proof.Machine

open Sys2Proof

/-! ### The sender -/

/-- The mode of the frame received on a medium (R203-R206); 0 on PLC. -/
def State.rxMode (s : State) (m : Medium) : Nat := bif isPlc m then 0 else (s.air m).mode

/-- The four words of metadata ahead of a PSDU delivered by an RF chain (R200). -/
def State.rfMeta (s : State) (c : Chain) (rx : RxInfo) : List Nat :=
  let a := s.air (chainMed c)
  let one (b : Bool) (v : Nat) : Nat := bif b then v else 0
  let p : Nat × Nat × Bool := match a.phr with | some p => (p.len.toNat, p.mcs.toNat, p.fcs16) | none => (0, 0, false)
  let short := Nat.ble a.mode 3 || (!isOfdm a.mode && p.2.2)
  [a.mode % 16 + 16 * chainIdx c + one a.bank 32 + one short 64 + one (isOfdm a.mode) (2 ^ 8 * p.2.1) + 2 ^ 16 * p.1,
   rx.rssi.toNat + 2 ^ 8 * rx.snr.toNat + 2 ^ 16 * (a.score % 256) + 2 ^ 24 * s.get (R.RF.STAT_CHAN (chainIdx c)),
   (BitVec.ofInt 16 a.afc).toNat + 2 ^ 16 * a.stampUs, a.stampAsn % 2 ^ 32]

/-- Those of a PSDU delivered by the PLC PHY (R224). -/
def State.plcMeta (s : State) (rx : RxInfo) : List Nat :=
  let a := s.air .plc
  let f (lo w : Nat) : Nat := a.fch / 2 ^ lo % 2 ^ w
  [f 12 2 + 4 * f 10 2 + 2 ^ 4 * f 14 5 + 2 ^ 9 * f 19 4 + 2 ^ 16 * f 0 10, rx.rssi.toNat + 2 ^ 8 * rx.snr.toNat, 2 ^ 16 * a.stampUs,
   a.stampAsn % 2 ^ 32]

/-- A frame whose FCS holds is written to its receive buffer behind its metadata (R199, R200, R224). -/
def State.rxStore (s : State) (m : Medium) (f : AirFrame) (rx : RxInfo) : State :=
  let w := match medChain m with | some c => s.rfMeta c rx | none => s.plcMeta rx
  s.modAir m (fun a => { a with rxMeta := w, rxFrame := some f })

/-- The neighbour table entry of a frame's source. -/
def State.srcNbr (s : State) (f : AirFrame) : Option Nbr :=
  match f.ext with
  | some e => s.nbrByExt e.toNat
  | none => bif Nat.beq f.src.toNat 0xFFFE then none else s.nbrByShort f.src.toNat

/-- An association command: 0x01 request, 0x02 response. -/
def assocFrame (f : AirFrame) : Bool := decide (f.kind = FrameKind.command 0x01) || decide (f.kind = FrameKind.command 0x02)

/-- Extended source address as a number; 0 where the frame carries none. -/
def frameExt (f : AirFrame) : Nat := match f.ext with | some e => e.toNat | none => 0

/-- Addressed to this node, or broadcast; 0xFFFE stands for this node's own extended address. -/
def State.forUs (s : State) (f : AirFrame) : Bool :=
  Nat.beq f.dst.toNat s.ownShort || Nat.beq f.dst.toNat 0xFFFF || Nat.beq f.dst.toNat 0xFFFE || decide (f.kind = .beacon)

/-- A frame to all. -/
def isCast (f : AirFrame) : Bool := Nat.beq f.dst.toNat 0xFFFF || decide (f.kind = .beacon)

/-! ### Timing (R249, R251, R252, R265) -/

/-- A slotted list keeps its first `n` members. -/
def putHwm (l : List (Nat × Nat)) (k v : Nat) : List (Nat × Nat) := ((k, v) :: l.filter (fun (e : Nat × Nat) => !Nat.beq e.1 k)).take 2

/-- Contact with a neighbour (R265), and the end of its resynchronisation (R269). -/
def State.contact (s : State) (i : Nat) (y : Option SyncIe) : State :=
  match s.nbr? i with
  | none => s
  | some n =>
    let was := s.sched.resyncs.any (fun (r : Resync) => Nat.beq r.nbr i)
    let s := bif s.source == some i then { s with sched := { s.sched with respDue := false } } else s
    let n := { n with sync := 1, miss := 0, seen := s.get R.SYS.OPSEC_SEC, resyncs := min 0xFFFF (n.resyncs + (bif was then 1 else 0)) }
    let n := match y with
      | some y => { n with locked := y.locked, outage := y.outage, sleepy := y.sleepy }
      | none => n
    let s := s.setNbr n
    bif was then
      ({ s with sched := { s.sched with resyncs := s.sched.resyncs.filter (fun (r : Resync) => !Nat.beq r.nbr i) } }).bump R.SCHED.CNT_RESYNC
    else s

/-- The neighbour is heard in a window with the base guard, or in a widened one (R251). -/
def State.baseGuard (s : State) (i : Nat) : Bool :=
  s.sched.resyncs.any (fun (r : Resync) => Nat.beq r.nbr i) || (match s.nbr? i with | some n => Nat.beq n.guard 400 | none => false)

/-- The frame's timing error: into the neighbour's mean, and from the time source in CRYSTAL into the next boundary (R249); `corr` is the
CORR of its acknowledgement. For R251 an error counts from a `base` window only. -/
def State.timing (s : State) (i : Nat) (error : Int) (corr : Option Int) (base : Bool) : State :=
  match s.nbr? i with
  | none => s
  | some n =>
    let s := match corr with
      | some _ => s
      | none => s.setNbr { n with err := Config.meanError n.err error, last := (bif base then error else n.last) }
    let d := match corr with | some c => -c | none => error
    let s := bif s.source == some i && Nat.beq (s.get R.SCHED.STAT_TIMING) 1 && !n.ym1 then
        { s with sched := { s.sched with move := d } }
      else s
    let held := s.bit R.SCHED.STAT_LOCK_HELD
    let s := bif (held || s.isLocked) && s.phaseOff then s.phaseMm else s
    bif held && s.source == some i && (match s.nbr? i with | some n => n.locked | none => false) then s.tryLock else s

/-- The first sync IE from the chosen time source ends NONE (R248): its ASN is that of the slot in which the frame's cell starts (R252), and
`past` slots have begun since. -/
def State.firstSync (s : State) (i past : Nat) (y : Option SyncIe) : State :=
  match y with
  | none => s
  | some y =>
    bif Nat.beq (s.get R.SCHED.STAT_TIMING) 0 && s.enabled 0x40 && s.source == some i then
      ({ s with sched := { s.sched with asn := (y.asn.toNat + past) % 2 ^ 40, move := 0 } }).set R.SCHED.STAT_TIMING 1
    else s

/-! ### A second PRIMARY (R361, R371, R372) -/

/-- A new role; IRQ_STAT.ROLE_CHG tells a change. -/
def State.setRole (s : State) (r : Nat) : State :=
  bif Nat.beq (s.get R.PAIR.STAT_ROLE) r then s else (s.set R.PAIR.STAT_ROLE r).raise 0x4C 0

/-- DETACHED: unresolved messages end CANCELLED at this host, then nothing more is sent. -/
def State.detach (s : State) : State :=
  let s := bif Nat.beq (s.get R.PAIR.STAT_ROLE) 1 then
      s.each (s.msg.queue.filter (fun (m : Msg) => unresolved m)) (fun m t => t.complete m.num 8)
    else s
  ((s.each media3 (fun m t => t.quiet m)).set R.PAIR.STAT_PST 7).setRole 3

/-- The frame's source is the pair's own network address. -/
def State.ownNet (s : State) (f : AirFrame) : Bool :=
  s.isCoord && Nat.beq s.ret.profile.pairEn 1 && Nat.beq f.pan.toNat s.ownPan &&
    (match f.ext with | some e => Nat.beq e.toNat s.ownExt | none => Nat.beq f.src.toNat 0)

/-- DUAL_PRIMARY_DETECT. -/
def State.dualHeard (s : State) (f : AirFrame) : State :=
  bif !s.ownNet f then s
  else bif Nat.beq (s.get R.PAIR.STAT_PST) 2 then s.detach.raise 0x4C 4
  else bif Nat.beq (s.get R.PAIR.STAT_ROLE) 1 then
    let s := (s.bump R.PAIR.CNT1_DUALPRI).raise 0x4C 4
    bif s.pair.takeover then s.detach else { s with pair := { s.pair with dual := true } }
  else s

/-! ### Beacons and scans (R296, R299, R301) -/

/-- Hint position of a PAN; 7 for one that is not hinted. -/
def State.hintOf (s : State) (pan : Nat) : Nat :=
  let l := [s.ret.profile.pan0, s.ret.profile.pan1, s.ret.profile.pan2, s.ret.profile.pan3].take s.ret.profile.hints
  ((List.range l.length).find? (fun i => Nat.beq (l.getD i 0x10000) pan)).getD 7

/-- A PAN that this node may join (R294, R302). -/
def State.panOk (s : State) (pan : Nat) : Bool :=
  bif Nat.beq s.joinSt 6 then Nat.beq pan s.ownPan
  else Nat.beq s.ret.profile.hints 0 || Nat.blt (s.hintOf pan) 7

/-- The better of two levels; 0x80 is none. -/
def bestByte (a b : Byte) : Byte := bif a == 0x80#8 then b else bif b == 0x80#8 then a else bif decide (a.toInt < b.toInt) then b else a

/-- The order of results: hint, rank, RSSI on RF-A. -/
def resBefore (a b : ScanRes) : Bool :=
  Nat.blt a.hint b.hint || (Nat.beq a.hint b.hint && (Nat.blt a.rank b.rank ||
    (Nat.beq a.rank b.rank && decide (b.rssiA.toInt < a.rssiA.toInt))))

def insertRes (x : ScanRes) : List ScanRes → List ScanRes
  | [] => [x]
  | y :: ys => bif resBefore x y then x :: y :: ys else y :: insertRes x ys

/-- The result of the highest rank gives way to a sender of a lower one when 16 are held. -/
def roomFor (x : ScanRes) (l : List ScanRes) : Option (List ScanRes) :=
  bif Nat.blt l.length 16 then some l
  else
    let top := (l.map (fun (r : ScanRes) => r.rank)).foldl max 0
    bif Nat.blt x.rank top then
      match l.find? (fun (r : ScanRes) => Nat.beq r.rank top) with
      | some v => some (l.filter (fun (r : ScanRes) => !Nat.beq r.ext v.ext))
      | none => none
    else none

/-- A result is added or refreshed. -/
def State.addResult (s : State) (x : ScanRes) : State :=
  let old := s.mesh.results.find? (fun (r : ScanRes) => Nat.beq r.ext x.ext)
  let x := match old with
    | some o => { x with media := x.media ||| o.media, rssiA := bestByte x.rssiA o.rssiA, rssiB := bestByte x.rssiB o.rssiB,
                         snr := bestByte x.snr o.snr }
    | none => x
  match roomFor x (s.mesh.results.filter (fun (r : ScanRes) => !Nat.beq r.ext x.ext)) with
  | some l => { s with mesh := { s.mesh with results := insertRes x l } }
  | none => s

/-- A field of the join IE, sub-type apart. -/
def ieField (l : List Byte) (off n : Nat) : Nat := ofLe (slice (l.drop 1) off n)

/-- The scan result that a beacon spells (R299, R301). -/
def State.resultOf (s : State) (m : Medium) (f : AirFrame) (rx : RxInfo) : ScanRes :=
  let j := f.join
  let flags := ieField j 0 1
  { pan := f.pan.toNat, short := ieField j 1 2, ext := frameExt f, rank := ieField j 3 2, hops := ieField j 5 1, admits := flags.testBit 0,
    coord := flags.testBit 1, media := 2 ^ medIdx m, hint := s.hintOf f.pan.toNat,
    rssiA := (match m with | .rfA => rx.rssi | .rfB => 0x80 | .plc => 0x80),
    rssiB := (match m with | .rfB => rx.rssi | .rfA => 0x80 | .plc => 0x80),
    snr := (match m with | .plc => rx.snr | .rfA => 0x80 | .rfB => 0x80),
    wake := ieField j 8 4, joinSf := ieField j 12 1 % 8, joinLen := ieField j 13 2, jchoff := ieField j 15 1,
    asn := (match f.sync with | some y => y.asn.toNat | none => 0), root := ieField j 16 8, pair := flags.testBit 2 }

/-- An ORPHAN that finds ADMIT asks its sender (R302). -/
def State.orphanJoin (s : State) : State :=
  bif Nat.beq s.joinSt 6 then
    match s.mesh.results.find? (fun (r : ScanRes) => r.admits) with
    | some r => bif s.sfConflict r then s else s.startJoin r
    | none => s
  else s

/-- BEACON_RECEIVED: the sender's entry is made or refreshed where it is of this PAN and authenticated, and a scan takes a result. -/
def State.beaconHeard (s : State) (m : Medium) (f : AirFrame) (rx : RxInfo) (checked : Bool) : State :=
  let x := s.resultOf m f rx
  bif !Nat.beq (f.join.getD 0 0).toNat 1 then s
  else
    let s := bif checked && s.joined && Nat.beq f.pan.toNat s.ownPan then
        let r := s.needNbr x.ext
        match r.2 with
        | some n =>
          let t := { r.1 with mesh := { r.1.mesh with root := x.root, pair := x.pair } }
          t.setNbr { n with short := x.short, pan := x.pan, role := (bif x.coord then 2 else 1), rank := x.rank, hops := x.hops,
                            wake := x.wake, verified := n.verified || checked }
        | none => r.1
      else s
    bif (Nat.beq s.joinSt 1 || s.mesh.scanning) && s.panOk f.pan.toNat then (s.addResult x).orphanJoin else s

/-! ### Association (R302-R308) -/

/-- ASSOC_REQUEST_RECEIVED: judged at a COORDINATOR, after the rebuild of its index where one runs (R311); relayed by a ROUTER unless a relay for it is outstanding (R307). -/
def State.assocRequest (s : State) (f : AirFrame) : State :=
  let ext := frameExt f
  let ym1 := Nat.beq f.version.toNat 1
  let caps := bif ym1 then 0 else ieField f.join 0 1
  let pollS := bif ym1 then 0 else ieField f.join 1 2
  let wake := bif ym1 then 0 else ieField f.join 3 4
  let r : Relay := { ext := ext, ym1 := ym1, caps := caps, pollS := pollS, wake := wake }
  let known := s.mesh.relays.any (fun (r : Relay) => Nat.beq r.ext ext)
  bif s.isCoord then
    bif !s.enabled 0x45 then s
    else bif s.assoc.busy then { s with mesh := { s.mesh with relays := s.mesh.relays ++ (bif known then [] else [r]) } }
    else s.joinRequest ext caps pollS wake 0 ym1
  else bif !s.admits || known then s
  else
    ({ s with mesh := { s.mesh with relays := s.mesh.relays ++ [r] } }).meshCommand 0 0x01
      (leBytes 8 ext ++ leBytes 1 caps ++ leBytes 2 pollS ++ leBytes 4 wake ++ leBytes 1 (bif ym1 then 1 else 0))

/-- ASSOC_RESPONSE_RECEIVED: from the chosen sender while JOINING. -/
def State.assocResponse (s : State) (f : AirFrame) : State :=
  match s.mesh.target, s.nbrByExt (frameExt f) with
  | some r, some n =>
    bif !Nat.beq s.joinSt 3 || !Nat.beq r.ext n.ext then s
    else
      let status := (f.payload.getD 3 0).toNat
      bif Nat.beq status 0 then
        s.joinedNow r n (ofLe (slice f.payload 1 2)) (ieField f.join 0 1) (slice (f.join.drop 1) 1 16) (ieField f.join 17 2) (ieField f.join 19 2)
      else s.refusedJoin status
  | some _, none => s
  | none, some _ => s
  | none, none => s

/-! ### Forwarding (R318-R322) -/

/-- The class that a fragment's header carries. -/
def fragClass (pay : List Byte) : Nat := (pay.getD 0 0).toNat / 8 % 4

/-- A forwarded frame as it is queued. -/
def forwarded (f : AirFrame) (ie : MeshIe) : LinkFrame :=
  { LinkFrame.blank with cls := fragClass f.payload, mesh := some ie, payload := f.payload }

/-- The next hop is gone (R321). -/
def State.routeErr (s : State) (f : LinkFrame) (next final : Nat) : State :=
  (s.returned f true).meshCommand 0 0x05 (leBytes 2 next ++ leBytes 2 final)

/-- Along a source route (R320). -/
def State.forwardDown (s : State) (f : AirFrame) (ie : MeshIe) : State :=
  let i := ie.idx.toNat
  bif !Nat.beq ((ie.route.getD i 0xFFFE).toNat) s.ownShort then s.bump R.MESH.CNT1_BADROUTE
  else bif Nat.ble ie.hops.toNat 1 then s.bump R.MESH.CNT1_TTL
  else
    let ie := { ie with idx := BitVec.ofNat 8 (i + 1), hops := ie.hops - 1 }
    let next := bif Nat.beq (i + 1) ie.route.length then ie.final.toNat else (ie.route.getD (i + 1) 0xFFFE).toNat
    let g := forwarded f ie
    match s.nbrByShort next with
    | some n => bif Nat.beq n.sync 3 then s.routeErr g next ie.final.toNat else (s.bump R.MESH.CNT0_FWD).sendTo n g
    | none => s.routeErr g next ie.final.toNat

/-- Upward (R319); at the COORDINATOR, down again by a new route (R320). -/
def State.forwardUp (s : State) (from_ : Option Nat) (f : AirFrame) (ie : MeshIe) : State :=
  bif s.isCoord then
    match s.routeTo ie.final.toNat with
    | none => (s.bump R.ASSOC.CNT1_NOROUTE).returned (forwarded f ie) true
    | some (n, route) =>
      let s := match s.assocOf ie.final.toNat with | some e => s.putAssoc { e with hops := route.length + 1 } | none => s
      (s.bump R.MESH.CNT0_FWD).sendTo n (forwarded f (meshIe ie.origin.toNat ie.final.toNat 16 true false 0 route))
  else bif !Nat.beq s.role 2 then s
  else match s.parent with
    | none => s.returned (forwarded f ie) true
    | some p =>
      bif Nat.ble ie.hops.toNat 1 then s.bump R.MESH.CNT1_TTL
      else bif from_ == some p.idx then (s.bump R.MESH.CNT1_LOOP).evalParents
      else (s.bump R.MESH.CNT0_FWD).sendTo p (forwarded f { ie with hops := ie.hops - 1 })

/-- A broadcast (R322). -/
def State.castHeard (s : State) (f : AirFrame) (ie : MeshIe) : State :=
  let o := ie.origin.toNat
  bif !ie.bc then s.fragment o f.payload
  else
    let key := (o, ie.idx.toNat)
    bif s.mesh.bcasts.any (fun (b : Nat × Nat) => Nat.beq b.1 key.1 && Nat.beq b.2 key.2) then s.bump R.MESH.CNT0_BCDUP
    else
      let s := { s with mesh := { s.mesh with bcasts := (key :: s.mesh.bcasts).take 32 } }
      let s := s.fragment o f.payload
      bif !Nat.beq s.role 2 then s
      else bif Nat.ble ie.hops.toNat 1 then s.bump R.MESH.CNT1_TTL
      else (s.bump R.MESH.CNT0_FWD).enqueue (forwarded f { ie with hops := ie.hops - 1 })

/-- The COORDINATOR notes an upward frame of a node (R319); its parked messages go on (R344). -/
def State.upward (s : State) (origin : Nat) : State :=
  bif !s.isCoord then s
  else match s.assocOf origin with
    | some e =>
      (s.putAssoc { e with seen := s.get R.SYS.OPSEC_SEC, unreach := false, stale := false }).unpark (fun m =>
        Nat.beq m.parked 1 && Nat.beq m.dest origin)
    | none => s

/-- MESH_FORWARD, MESH_BROADCAST, FRAGMENT_RECEIVED: a data frame with its mesh IE. -/
def State.meshData (s : State) (from_ : Option Nat) (f : AirFrame) (ie : MeshIe) : State :=
  let s := bif !ie.sr && !ie.bc then s.upward ie.origin.toNat else s
  bif Nat.beq ie.final.toNat s.ownShort then s.fragment ie.origin.toNat f.payload
  else bif Nat.beq ie.final.toNat 0xFFFF then s.castHeard f ie
  else bif ie.sr then s.forwardDown f ie
  else s.forwardUp from_ f ie

/-- A data frame: one of a YM1 child gets a mesh IE from it to the COORDINATOR (R318); another without one is a keep-alive. -/
def State.dataHeard (s : State) (n : Option Nbr) (f : AirFrame) : State :=
  let from_ := match n with | some n => some n.idx | none => none
  match f.mesh with
  | some ie => s.meshData from_ f ie
  | none => match n with
    | some n => bif n.ym1 && n.child then s.meshData from_ f (meshIe n.short 0 16 false false 0 []) else s
    | none => s

/-! ### Polls (R324-R326) -/

/-- POLL_RECEIVED: the child's frames go to the link queue for its down cells, for the response period. -/
def State.pollHeard (s : State) (n : Nbr) : State :=
  let n := { n with polled := s.get R.SYS.OPSEC_SEC, respTo := s.sched.asn + 1 + s.now R.SCHED.POLL_RESP_SLOTS }
  (s.setNbr n).childWindow n

/-- A frame with the frame-pending bit that a sleepy child acknowledged extends its response period (R270). -/
def State.extendChild (s : State) (m : Medium) (i : Nat) : State :=
  let pend := match (s.air m).out with | some f => f.pending | none => false
  s.modNbr i (fun n => bif sleepyChild n && pend && Nat.blt s.sched.asn n.respTo then
    { n with respTo := n.respTo + s.now R.SCHED.POLL_RESP_SLOTS } else n)

/-! ### Acceptance (R277, R279, R287-R290) -/

/-- E5 takes a frame that acceptance delivers (R318); one whose short source is none that is assigned is dropped (R293). -/
def State.deliver5 (s : State) (n : Option Nbr) (f : AirFrame) : State :=
  bif f.ext.isNone && Nat.blt 0x4000 f.src.toNat then { s with mesh := { s.mesh with badAddr := s.mesh.badAddr + 1 } }
  else match f.kind with
    | .data => s.dataHeard n f
    | .beacon => s
    | .ack => s
    | .command c =>
      bif Nat.beq c.toNat 0x01 then s.assocRequest f
      else bif Nat.beq c.toNat 0x02 then s.assocResponse f
      else match n with
        | some n => bif Nat.beq c.toNat 0x04 && n.child then s.pollHeard n else s
        | none => s

/-- The acknowledgement of an accepted unicast frame falls due on its medium (R283), with its frame-pending bit. -/
def State.ackFor (s : State) (m : Medium) (n : Option Nbr) (f : AirFrame) (rx : RxInfo) (pending : Bool) : State :=
  bif isCast f || !s.maySend then s
  else
    let d : AckDue := { nbr := (match n with | some n => n.idx | none => 256), seq := f.seq.toNat, pending := pending, corr := rx.error.toInt }
    s.modAir m (fun a => { a with ackDue := some d })

/-- The sleepy node's response period is extended by a frame from its parent with the bit set (R270). -/
def State.extendResp (s : State) (i : Nat) (f : AirFrame) : State :=
  bif f.pending && decide (s.mode = .outage) && s.source == some i && Nat.blt s.sched.asn s.sched.respTo then
    { s with sched := { s.sched with respTo := max s.sched.respTo s.sched.asn + s.now R.SCHED.POLL_RESP_SLOTS } }
  else s

/-- What an accepted frame from a neighbour brings beside its content. -/
def State.fromNbr (s : State) (m : Medium) (n : Nbr) (f : AirFrame) (rx : RxInfo) : State :=
  let mode := bif (s.air m).bank && !isPlc m then s.rxMode m else n.mode
  let net := !Nat.beq f.level.toNat 0 && Nat.blt f.keyIdx.toNat 0xFE
  let s := s.modNbr n.idx (fun n => { n with mode := mode, verified := n.verified || net })
  let base := s.baseGuard n.idx
  let s := (s.contact n.idx f.sync).firstSync n.idx rx.past.toNat f.sync
  let s := (s.timing n.idx rx.error.toInt none base).extendResp n.idx f
  match f.tone with | some ie => s.toneIe n.idx ie | none => s

/-- The record of an accepted frame: eight are kept, newest first. -/
def recOf (f : AirFrame) (pend : Bool) : DupRec :=
  { seq := f.seq.toNat, ctr := f.counter.toNat, key := f.keyIdx.toNat, bc := isCast f, pend := pend }

/-- Two records agree in sequence number and kind. -/
def sameRec (x r : DupRec) : Bool := Nat.beq x.seq r.seq && (x.bc == r.bc)

/-- Steps 3 to 6 of R287. The flag says that the frame is new. A copy and a retry get the frame-pending bit of the accepted frame. -/
def State.judge (s : State) (m : Medium) (n : Nbr) (f : AirFrame) (rx : RxInfo) : State × Bool :=
  let r := recOf f (s.pendingFor n 0)
  let hwm : Option Nat := match n.hwm.find? (fun (e : Nat × Nat) => Nat.beq e.1 r.key) with | some e => some e.2 | none => none
  let fresh := match hwm with | some v => Nat.blt v r.ctr | none => true
  match n.recs.find? (fun (x : DupRec) => sameRec x r && Nat.beq x.ctr r.ctr && Nat.beq x.key r.key) with
  | some x => (((s.fromNbr m n f rx).bump R.LINK.CNT1_DUP).ackFor m (some n) f rx x.pend, false)
  | none =>
    bif !fresh then (s.bump R.LINKSEC.CNT_STALE, false)
    else match n.recs.find? (fun (x : DupRec) => sameRec x r) with
      | some x =>
        let s := (s.noteHwm n.ext r.key r.ctr).modNbr n.idx (fun n => { n with hwm := putHwm n.hwm r.key r.ctr, recs := n.recs.map (fun (x : DupRec) =>
          bif sameRec x r then { x with ctr := r.ctr } else x) })
        (((s.fromNbr m n f rx).bump R.LINK.CNT1_DUP).ackFor m (some n) f rx x.pend, false)
      | none =>
        let s := (s.noteHwm n.ext r.key r.ctr).modNbr n.idx (fun n => { n with hwm := putHwm n.hwm r.key r.ctr, recs := (r :: n.recs).take 8 })
        (((s.fromNbr m n f rx).bump R.LINK.CNT1_RX_NEW).ackFor m (some n) f rx r.pend, true)

/-- A frame from a source without an entry is admitted where it is a beacon or an association command with its extended address (R277, R300). -/
def openSource (f : AirFrame) : Bool := f.ext.isSome && (assocFrame f || decide (f.kind = .beacon))

/-- An association command from a source without an entry. -/
def State.stranger (s : State) (m : Medium) (f : AirFrame) (rx : RxInfo) : State :=
  bif openSource f then ((s.bump R.LINK.CNT1_RX_NEW).ackFor m none f rx false).deliver5 none f
  else s.bump R.LINK.CNT2_UNKNOWN_SRC

/-- A YM1 frame admitted without security: a beacon or an association command, in the YM1 mode (R300). -/
def State.ym1Open (s : State) (m : Medium) (f : AirFrame) : Bool :=
  Nat.beq (s.rxMode m) 3 && Nat.beq f.version.toNat 1 && (assocFrame f || decide (f.kind = .beacon))

/-- The version that R193 and step 1 of R287 call for: 0b01 from a YM1 neighbour and from a joining one, in the YM1 mode; else 0b10. -/
def State.versionOk (s : State) (m : Medium) (f : AirFrame) : Bool :=
  let ym1 := match s.srcNbr f with | some n => n.ym1 | none => false
  bif Nat.beq (s.rxMode m) 3 && (ym1 || s.ym1Open m f) then Nat.beq f.version.toNat 1 else Nat.beq f.version.toNat 2 && !ym1

/-- Why security drops a frame, none where it passes (R277, R279, R287 step 2, R295, R356). -/
def State.secDrop (s : State) (m : Medium) (f : AirFrame) : Option (State → State) :=
  let l := f.level.toNat
  let nosec (s : State) : State := s.bump R.LINKSEC.CNT_NOSEC
  let unknown (s : State) : State := s.bump R.LINKSEC.CNT2_UNKNOWN_KEY
  bif Nat.beq l 0 then (bif s.ym1Open m f then none else some nosec)
  else bif Nat.ble 2 l && Nat.ble l 4 then some nosec
  else bif (s.srcNbr f).isNone && !openSource f then some (fun s => s.bump R.LINK.CNT2_UNKNOWN_SRC)
  else bif Nat.beq f.keyIdx.toNat 0xFE || (s.slotOf f.keyIdx.toNat).isNone then some unknown
  else bif Nat.beq f.keyIdx.toNat 0xFF && !assocFrame f then some (fun s => s.bump R.MESH.CNT2_JOINKEY)
  else bif !f.mic then some (fun s => (s.bump R.LINKSEC.CNT_MIC_FAIL).raise 0x42 2)
  else none

/-- A node without the network key reads beacons unchecked (R299). -/
def State.readsOpen (s : State) (f : AirFrame) : Bool :=
  decide (f.kind = .beacon) && decide (s.mode = .commission) && (s.slotOf f.keyIdx.toNat).isNone && Nat.beq f.version.toNat 2

/-- FRAME_ACCEPTANCE. -/
def State.accept (s : State) (m : Medium) (f : AirFrame) (rx : RxInfo) : State :=
  bif s.readsOpen f then
    let s := match s.srcNbr f with
      | some n => (s.firstSync n.idx rx.past.toNat f.sync).timing n.idx rx.error.toInt none (s.baseGuard n.idx)
      | none => s
    s.beaconHeard m f rx false
  else bif !s.versionOk m f then s.bump R.LINK.CNT1_BADVER
  else match s.secDrop m f with
    | some drop => drop s
    | none =>
      let s := bif decide (f.kind = .beacon) then s.beaconHeard m f rx true else s
      match s.srcNbr f with
      | none => bif decide (f.kind = .beacon) then s else s.stranger m f rx
      | some n =>
        let r := s.judge m n f rx
        bif r.2 then r.1.deliver5 (r.1.nbr? n.idx) f else r.1

/-! ### Acknowledgements (R249, R284, R286) -/

/-- An acknowledgement has the version of its mode (R193, R290). -/
def State.ackVersion (s : State) (m : Medium) (f : AirFrame) : Bool := Nat.beq f.version.toNat (bif Nat.beq (s.rxMode m) 3 then 1 else 2)

/-- The acknowledgement is the one awaited: its number, and with ACKSEC its MIC and counter. -/
def State.ackOk (s : State) (n : Option Nbr) (g : LinkFrame) (f : AirFrame) : Bool :=
  let ym1 := match n with | some n => n.ym1 | none => false
  let secured := Nat.beq (s.now R.LINK.CFG_ACKSEC) 1 && !ym1 && !Nat.beq f.level.toNat 0
  let fresh := match n with
    | some n => (match n.hwm.find? (fun (e : Nat × Nat) => Nat.beq e.1 f.keyIdx.toNat) with
      | some e => Nat.blt e.2 f.counter.toNat | none => true)
    | none => true
  (g.seq == some f.seq.toNat) && (bif secured then f.mic && fresh else true)

/-- ACK_RECEIVED: the attempt succeeds. -/
def State.ackReceived (s : State) (m : Medium) (a : Attempt) (f : AirFrame) : State :=
  match s.frame? a.frame with
  | none => s.quiet m
  | some g =>
    let n := s.nbrOf g
    let mode := (s.air m).mode
    bif !s.ackOk n g f then s.ackMissed m a
    else
      let s := ((s.rest m).modAir m (fun k => { k with await := none })).bump R.LINK.CNT0_ACKED
      let s := match n with
        | none => s
        | some n =>
          let s := (s.estimate n.idx m true).contact n.idx f.sync
          let s := s.modNbr n.idx (fun n =>
            { n with be := s.now R.LINK.CFG_MINBE, bo := 0,
                     hwm := (bif Nat.beq f.level.toNat 0 then n.hwm else putHwm n.hwm f.keyIdx.toNat f.counter.toNat) })
          let s := s.extendChild m n.idx
          let s := bif Nat.beq f.level.toNat 0 then s else s.noteHwm n.ext f.keyIdx.toNat f.counter.toNat
          let corr : Option Int := match f.sync with
            | some y => (match y.corr with | some c => some c.toInt | none => none) | none => none
          let s := match corr with | some c => s.timing n.idx 0 (some c) false | none => s
          let s := match f.tone with | some ie => s.toneIe n.idx ie | none => s
          let s := bif isPlc m then s.toneOutcome n.idx mode true else s
          bif decide (g.kind = FrameKind.command 0x04) && f.pending then
            { s with sched := { s.sched with respTo := s.sched.asn + 1 + s.now R.SCHED.POLL_RESP_SLOTS, respDue := true } }
          else s
      let s := (s.dropFrame g.num).gaspOver g.num
      bif Nat.beq g.msg 0 then s else s.fragSent g.msg g.frag

/-- The dual copy whose frame the first acknowledgement took away updates its own estimate (R284). -/
def State.ackLate (s : State) (m : Medium) (a : Attempt) : State :=
  let s := ((s.quiet m).bump R.LINK.CNT0_ACKED).estimate a.nbr m true
  bif isPlc m then s.toneOutcome a.nbr (s.air m).mode true else s

/-! ### The end of a frame -/

/-- A reception is over without a response: an RF chain is IDLE, and PLC listens on in an open window (R163, R223). An awaited acknowledgement that
was not received is missed (R284). -/
def State.rxOver (s : State) (m : Medium) : State :=
  match (s.air m).await with
  | some a => s.ackMissed m a
  | none => bif isPlc m then s.relisten m else s.over m

/-- A frame ends where an acknowledgement is awaited: only that one counts, and in its version (R193, R284). -/
def State.ackIn (s : State) (m : Medium) (a : Attempt) (f : AirFrame) : State :=
  bif !s.ackVersion m f then (s.bump R.LINK.CNT1_BADVER).ackMissed m a
  else bif !decide (f.kind = .ack) then s.ackMissed m a
  else bif (s.frame? a.frame).isNone then s.ackLate m a
  else s.ackReceived m a f

/-- A frame whose FCS holds goes to its link engine. -/
def State.frameIn (s : State) (m : Medium) (f : AirFrame) (rx : RxInfo) : State :=
  let s := (s.rxStore m f rx).dualHeard f
  match (s.air m).await with
  | some a => s.ackIn m a f
  | none =>
    bif !s.maySend || !s.forUs f || decide (f.kind = .ack) ||
        (!Nat.beq f.pan.toNat s.ownPan && s.joined && !decide (f.kind = .beacon)) then s.rxOver m
    else
      let t := s.accept m f rx
      bif (t.air m).ackDue.isSome then t.setPhy m 5 else t.rxOver m

/-- RF_FRAME_END (R199). -/
def execRfFrameEnd (c : Chain) (f : AirFrame) (rx : RxInfo) (s : State) : Host.Outcome State Fault Refusal :=
  let m := chainMed c
  bif !(Nat.beq (s.phy m) 4 && decide ((s.air m).det = .phr)) then .next s
  else
    let s := s.set (R.RF.RSSI_LAST (chainIdx c)) rx.rssi.toNat
    bif !f.fcs then .next ((s.bump (R.PHYRF.CNT_FCS_ERR (chainIdx c))).rxOver m)
    else
      let alm := (s.air m).alarmRx && (s.air m).await.isNone
      .next ((bif alm then s.bump R.SCHED.CNT2_ALM_RX else s).frameIn m f rx)

/-- PLC_FRAME_END (R225, R231, R234). -/
def execPlcFrameEnd (ldpc : Bool) (power : List Half) (f : AirFrame) (rx : RxInfo) (s : State) : Host.Outcome State Fault Refusal :=
  let cur := (s.air .plc).bank
  bif !(Nat.beq (s.phy .plc) 4 && decide ((s.air .plc).det = .phr)) then .next s
  else bif !ldpc then .next ((s.bump R.PLCPHY.CNT_LDPC_FAIL).rxOver .plc)
  else bif !f.fcs then .next ((s.bump R.PLCPHY.CNT_FCS_ERR).rxOver .plc)
  else
    let s := match s.srcNbr f with
      | some n => bif Nat.beq f.level.toNat 0 || f.mic then s.plcHeard n.idx power cur else s
      | none => s
    .next (s.frameIn .plc f rx)

end Sys2Proof.Machine
end

