-- ==== Sys2Proof/Machine/Lamp.lean ====
section
/-!
DEFINITION. The lamp side (ch. 23): DALI, the analogue output, the latching relay, the photocell, metering, the digital inputs and
the reference image of E10 with its mailbox (R415, R537-R564).
-/

namespace Sys2Proof.Machine

open Sys2Proof

/-- The mains side serves its pages: powered, not in bridge hold, configured (R21, R77, R100). -/
def State.lampLive (s : State) : Bool := s.bit R.PWR.SUPPLY_MAINS && !s.bridge.hold && !s.bridge.inReset

/-- The lamp blocks act: the mains side is live and LUM is ON (R103). -/
def State.lampOn (s : State) : Bool := s.lampLive && s.domOn 21

def State.modLamp (s : State) (f : Lamp → Lamp) : State := { s with lamp := f s.lamp }

/-! ### The latching relay (R548-R552) -/

/-- RLYSTAT.STATE becomes `v`: the retained record follows, so that it survives every reset and power cycle (R537); on the supply's
hold-up alone no commit is attempted (R88). -/
def State.relayState (s : State) (v : Nat) : State :=
  let s := (s.set R.AOUT.RLYSTAT_STATE v).runningValue R.AOUT.RLYSTAT_STATE
  let s := s.modLamp (fun l => { l with openAll := false })
  s.onlyIf ((decide (s.mode = .service) || decide (s.mode = .commission) || decide (s.mode = .maintenance)) &&
    (s.bit R.PWR.SUPPLY_MAINS || s.bit R.PWR.SUPPLY_VBAK_OK)) State.commit

/-- A relay command is taken (R549): it replaces a command already queued. In brown-out it is deferred (R117). -/
def State.relayCommand (s : State) (op : Nat) : State :=
  let s := (s.modLamp (fun l => { l with pend := some op })).set R.AOUT.RLYSTAT_PEND 1
  s.onlyIf (s.bit R.PWR.SUPPLY_BROWNOUT) (·.setAll [(R.AOUT.RLYSTAT_DEFER, 1), (R.PWR.BO_STAT_RLY_DEFER, 1)])

/-- RELAY_SET (R548). -/
def execRelaySet (who : Requester) (s : State) : Host.Outcome State Fault Refusal :=
  s.writeCmd who 0x61 0x30 (fun s => s.relayCommand 1)

/-- RELAY_CLR (R548). -/
def execRelayClr (who : Requester) (s : State) : Host.Outcome State Fault Refusal :=
  s.writeCmd who 0x61 0x30 (fun s => s.relayCommand 2)

/-- RELAY_PULSE_START (R549, R550): the queued command starts; `predicted` says that a valid crossing prediction exists. -/
def execRelayPulseStart (predicted : Bool) (s : State) : Host.Outcome State Fault Refusal :=
  match s.lamp.pend with
  | none => .next s
  | some op =>
    bif s.lamp.pulse.isSome || !s.lampOn || s.bit R.PWR.SUPPLY_BROWNOUT then .next s
    else
      let t := s.modLamp (fun l => { l with pulse := some op, pend := none })
      let t := t.setAll [(R.AOUT.RLYSTAT_BUSY, 1), (R.AOUT.RLYSTAT_PEND, 0), (R.AOUT.RLYSTAT_DEFER, 0)]
      .next (t.onlyIf (Nat.beq op 1) (fun t =>
        t.setBit R.AOUT.RLYSTAT_ZXMISS (t.bit R.AOUT.RLYCFG_ZXSYNC && !predicted)))

/-- RELAY_PULSE_END (R548, R552): the relay has its new state. -/
def execRelayPulseEnd (s : State) : Host.Outcome State Fault Refusal :=
  match s.lamp.pulse with
  | none => .next s
  | some op =>
    let t := s.modLamp (fun l => { l with pulse := none })
    let t := t.setAll [(R.AOUT.RLYSTAT_BUSY, 0), (R.AOUT.RLYSTAT_MISMATCH, 0)]
    let t := (t.bump R.AOUT.OPS_COUNT).relayState (bif Nat.beq op 1 then 1 else 0)
    .next (t.raise 0x61 1)

/-- RELAY_PULSE_STOP (R551): a pulse in progress is cut and STATE becomes UNKNOWN; the queued command is discarded. -/
def State.relayCut (s : State) : State :=
  let cut := s.lamp.pulse
  let s := s.modLamp (fun l => { l with pulse := none, pend := none })
  let s := s.setAll [(R.AOUT.RLYSTAT_BUSY, 0), (R.AOUT.RLYSTAT_PEND, 0), (R.AOUT.RLYSTAT_DEFER, 0)]
  match cut with
  | none => s
  | some op => ((s.relayState 2).raise 0x61 2).record 8 0x35 (leBytes 1 op ++ zeros 7)

/-! ### The analogue output (R545-R547) -/

/-- The voltage that a level gives, and whether mode 1 clamps it (R545). -/
def aoutLevel (mode level : Nat) : Nat × Bool := bif Nat.beq mode 1 && Nat.blt level 100 then (100, true) else (level, false)

/-- The output takes VSET at once while the page is ENABLED and the mains side live; else it floats (R547). -/
def State.aoutDrive (s : State) : State :=
  bif Nat.beq (s.get (R.HDR.ST 0x61)) 2 && s.lampLive then
    let v := aoutLevel (s.get R.AOUT.CFG_MODE) (s.get R.AOUT.VSET_LEVEL)
    (s.setAll [(R.AOUT.STAT_VOUT, v.1), (R.AOUT.STAT_FADING, 0), (R.AOUT.STAT_FLOAT, 0)]).setBit R.AOUT.STAT_CLAMP v.2
  else s.setAll [(R.AOUT.STAT_FADING, 0), (R.AOUT.STAT_FLOAT, 1), (R.AOUT.STAT_OVERLOAD, 0)]

/-- A write of VSET (R546): a step, or a fade from the voltage reached. -/
def State.vsetWrite (s : State) (w reached : Nat) : State :=
  bif Nat.beq (s.get (R.HDR.ST 0x61)) 1 then s.refuse 0x61 RC.BUSY 0x24
  else bif Nat.blt 1000 (R.AOUT.VSET_LEVEL.of w) then s.refuse 0x61 RC.BAD_VALUE 0x24
  else
    let s := s.set R.AOUT.VSET_LEVEL (R.AOUT.VSET_LEVEL.of w)
    bif !(Nat.beq (s.get (R.HDR.ST 0x61)) 2) || !s.lampLive then s
    else bif Nat.beq (s.get R.AOUT.CFG_FADE_MS) 0 then s.aoutDrive
    else
      let s := s.onlyIf (s.bit R.AOUT.STAT_FADING) (·.set R.AOUT.STAT_VOUT reached)
      (s.set R.AOUT.STAT_FADING 1).setBit R.AOUT.STAT_CLAMP
        (aoutLevel (s.get R.AOUT.CFG_MODE) (s.get R.AOUT.VSET_LEVEL)).2

/-- AOUT_VSET_WRITE (R546): `reached` is the voltage that a fade in progress has reached. -/
def execAoutVsetWrite (who : Requester) (value : Word) (reached : BitVec 10) (s : State) : Host.Outcome State Fault Refusal :=
  s.writeCmd who 0x61 0x24 (fun s => s.vsetWrite value.toNat reached.toNat)

/-- AOUT_FADE_END (R546). -/
def execAoutFadeEnd (s : State) : Host.Outcome State Fault Refusal :=
  .next (bif s.bit R.AOUT.STAT_FADING && s.lampLive then s.aoutDrive else s)

/-- AOUT_OVERLOAD (R547): beyond the current limit for 10 ms; the output is limited, at `volts`. -/
def execAoutOverload (volts : BitVec 10) (s : State) : Host.Outcome State Fault Refusal :=
  .next (bif s.lampLive && !s.bit R.AOUT.STAT_FLOAT then
    (s.setAll [(R.AOUT.STAT_OVERLOAD, 1), (R.AOUT.STAT_VOUT, volts.toNat)]).raise 0x61 0 else s)

/-- AOUT_OVERLOAD_END (R547): back within range for 10 ms. -/
def execAoutOverloadEnd (s : State) : Host.Outcome State Fault Refusal :=
  .next (bif s.bit R.AOUT.STAT_OVERLOAD then (s.set R.AOUT.STAT_OVERLOAD 0).aoutDrive else s)

/-! ### DALI (R539-R544, R602) -/

/-- Entries in the order of service: by priority, then by arrival (R541). -/
def daliPlace (e : DaliEntry) : List DaliEntry → List DaliEntry
  | [] => [e]
  | x :: xs =>
    bif Nat.blt e.prio x.prio || (Nat.beq e.prio x.prio && Nat.blt e.num x.num) then e :: x :: xs else x :: daliPlace e xs

/-- The gear edition that a result of QUERY VERSION NUMBER to a short address records (R542). -/
def State.gearNote (s : State) (e : DaliEntry) (status data : Nat) : State :=
  bif !e.len24 && Nat.beq (e.frame % 256) 0x97 && Nat.beq (e.frame / 256 % 2) 1 && Nat.blt (e.frame / 256 % 256) 128 then
    bif Nat.beq status 1 then s.set (R.DALI.GEAR_ED (e.frame / 512 % 64)) (bif Nat.ble 2 (data / 4) then 3 else 2)
    else bif Nat.beq status 2 then s.set (R.DALI.GEAR_ED (e.frame / 512 % 64)) 1
    else s
  else s

/-- An entry ends in its one result (R541). The reference image opens the relay after the result that it waits for (R538). -/
def State.daliResult (s : State) (e : DaliEntry) (status data : Nat) : State :=
  let s := s.modLamp (fun l => { l with results := l.results ++ [⟨data, status, e.tag⟩] })
  let s := (s.gearNote e status data).raise 0x60 0
  bif s.lamp.openOn == some e.num then
    (s.modLamp (fun l => { l with openOn := none })).guarded 10 0x61 0x30 (fun s => s.relayCommand 2)
  else s

/-- The entry in progress leaves the bus. -/
def State.daliFree (s : State) : State := s.modLamp (fun l => { l with cur := none })

/-- Entries end one after another. -/
def State.daliEnd (s : State) (status : Nat) (es : List DaliEntry) : State := s.each es (fun e t => t.daliResult e status 0)

/-- Every queued entry ends with a status. -/
def State.daliFlush (s : State) (status : Nat) : State :=
  let q := s.lamp.queue
  (s.modLamp (fun l => { l with queue := [] })).daliEnd status q

/-- A GO (R541, R543). Answers the entry's number where it was queued. -/
def State.daliGo (s : State) (frame : Nat) (len24 : Bool) (prio : Nat) (twice answer : Bool) (tag : Nat) : State × Option Nat :=
  bif !Nat.beq (s.get (R.HDR.ST 0x60)) 2 then (s.refuse 0x60 0x41 0x2C, none)
  else bif Nat.beq prio 0 || Nat.blt 5 prio then (s.refuse 0x60 RC.BAD_VALUE 0x2C, none)
  else bif s.bit R.DALI.BUSSTAT_SYSFAIL then (s.refuse 0x60 0x40 0x2C, none)
  else bif Nat.ble 8 s.lamp.queue.length then (s.refuse 0x60 RC.NO_RESOURCE 0x2C, none)
  else
    let n := s.lamp.nextNum
    let e : DaliEntry := ⟨n, frame, len24, prio, twice, answer, tag, 0, false⟩
    (s.modLamp (fun l => { l with queue := daliPlace e l.queue, nextNum := n + 1 }), some n)

/-- DALI_GO (R541): TXCMD.GO queues TXD. -/
def execDaliGo (who : Requester) (len24 : Bool) (prio : BitVec 3) (twice answer : Bool) (tag : Half) (s : State) :
    Host.Outcome State Fault Refusal :=
  s.writeCmd who 0x60 0x2C (fun s => (s.daliGo (s.get R.DALI.TXD_FRAME) len24 prio.toNat twice answer tag.toNat).1)

/-- DALI_FRAME_START (R541): the bus has been idle long enough; the second copy of a TWICE frame, or the head of the queue while
the result FIFO has room. -/
def execDaliFrameStart (s : State) : Host.Outcome State Fault Refusal :=
  bif !s.lampOn || s.bit R.DALI.BUSSTAT_SYSFAIL then .next s
  else
    match s.lamp.cur, s.lamp.queue with
    | some (e, 0), _ => .next (s.modLamp (fun l => { l with cur := some (e, 1) }))
    | none, e :: rest =>
      .next (bif Nat.blt s.lamp.results.length 8 && Nat.beq (s.get (R.HDR.ST 0x60)) 2 then
        s.modLamp (fun l => { l with cur := some (e, 1), queue := rest }) else s)
    | _, _ => .next s

/-- DALI_COLLISION (R541): the attempt ends; the fourth ends the entry. A frame in progress of a page that stops goes on with its
attempts (R544). -/
def execDaliCollision (s : State) : Host.Outcome State Fault Refusal :=
  match s.lamp.cur with
  | some (e, 1) =>
    let t := (s.bump R.DALI.CNT_COLL).daliFree
    let e := { e with tries := e.tries + 1, copied := false }
    .next (bif Nat.ble 4 e.tries then t.daliResult e 4 0
      else bif Nat.beq (t.get (R.HDR.ST 0x60)) 3 then t.modLamp (fun l => { l with cur := some (e, 0) })
      else t.modLamp (fun l => { l with queue := daliPlace e l.queue }))
  | _ => .next s

/-- DALI_FRAME_SENT (R541): a second copy follows, an answer is awaited, or the entry is SENT. -/
def execDaliFrameSent (s : State) : Host.Outcome State Fault Refusal :=
  match s.lamp.cur with
  | some (e, 1) =>
    .next (bif e.twice && !e.copied then s.modLamp (fun l => { l with cur := some ({ e with copied := true }, 0) })
      else bif e.answer then s.modLamp (fun l => { l with cur := some (e, 2) })
      else s.daliFree.daliResult e 0 0)
  | _ => .next s

/-- DALI_BACKWARD_FRAME (R541, R542): an answer, or none for a frame with an encoding error. -/
def execDaliBackwardFrame (data : Option Byte) (s : State) : Host.Outcome State Fault Refusal :=
  match s.lamp.cur with
  | some (e, 2) =>
    .next (match data with
      | some d => s.daliFree.daliResult e 1 d.toNat
      | none => (s.bump R.DALI.CNT_FRAMING).daliFree.daliResult e 3 0)
  | _ => .next s

/-- DALI_ANSWER_TIMEOUT (R541, R542). -/
def execDaliAnswerTimeout (s : State) : Host.Outcome State Fault Refusal :=
  match s.lamp.cur with
  | some (e, 2) => .next (s.daliFree.daliResult e 2 0)
  | _ => .next s

/-- DALI_FOREIGN_FRAME (R539). -/
def execDaliForeignFrame (bits : BitVec 24) (len : BitVec 6) (s : State) : Host.Outcome State Fault Refusal :=
  .next (bif s.lampOn then
    (s.setAll [(R.DALI.FOREIGN_FRAME, bits.toNat), (R.DALI.FOREIGN_LEN, len.toNat)]).raise 0x60 4 else s)

/-- The entry in progress as a list. -/
def Lamp.current (l : Lamp) : List DaliEntry := match l.cur with | some c => [c.1] | none => []

/-- DALI_SYSTEM_FAILURE (R543): the bus has been low for more than 500 ms. -/
def execDaliSystemFailure (s : State) : Host.Outcome State Fault Refusal :=
  bif !s.lampLive || s.bit R.DALI.BUSSTAT_SYSFAIL then .next s
  else
    let t := ((s.set R.DALI.BUSSTAT_SYSFAIL 1).raise 0x60 2).bump R.DALI.CNT_SYSFAIL
    let c := t.lamp.current
    let t := ((t.daliFree).daliEnd 5 c).daliFlush 5
    .next (t.record 8 0x33 (leBytes 1 (t.get R.DALI.BUSSTAT_ST) ++ zeros 7))

/-- DALI_BUS_RECOVERY (R543): the bus has been high for 100 ms. -/
def execDaliBusRecovery (s : State) : Host.Outcome State Fault Refusal :=
  .next (bif s.lampLive && s.bit R.DALI.BUSSTAT_SYSFAIL then (s.set R.DALI.BUSSTAT_SYSFAIL 0).raise 0x60 3 else s)

/-- The head of the result FIFO leaves it: the value of RES, 0 where there is none. -/
def State.daliPop (s : State) : State × Nat :=
  match s.lamp.results with
  | [] => (s, 0)
  | r :: rest => (s.modLamp (fun l => { l with results := rest }), r.data % 256 + 256 * (r.status % 16) + 4096 + 65536 * r.tag)

/-- A read through the Shale page: the word goes to the requester; a refused read returns 0 (R135). -/
def State.readCmd (s : State) (who p off : Nat) (f : State → State × Nat) : Host.Outcome State Fault Refusal :=
  let g := s.guard who p off false
  .next (bif g.2 then
    let r := f g.1
    { r.1 with lastRead := r.2 }
  else { g.1 with lastRead := 0 })

/-- DALI_RESULT_POP (R541). -/
def execDaliResultPop (who : Requester) (s : State) : Host.Outcome State Fault Refusal := s.readCmd who 0x60 0x34 State.daliPop

/-- A write of GEARk returns its entries to unknown. -/
def State.gearClear (s : State) (k : Nat) : State := s.each (List.range 16) (fun i t => t.set (R.DALI.GEAR_ED (16 * k + i)) 0)

/-- DALI_GEAR_CLEAR. -/
def execDaliGearClear (who : Requester) (k : Fin 4) (s : State) : Host.Outcome State Fault Refusal :=
  s.writeCmd who 0x60 (0x40 + 4 * k) (fun s => s.gearClear k)

/-! ### The bus supply (R540) -/

/-- BUSSTAT.ST; every change sets IRQ_STAT.BUS. -/
def State.busState (s : State) (v : Nat) : State :=
  bif Nat.beq (s.get R.DALI.BUSSTAT_ST) v then s else (s.set R.DALI.BUSSTAT_ST v).raise 0x60 1

/-- The supply takes the state that BUSCFG sets: off, or a measurement of an OFF bus. -/
def State.busFollow (s : State) : State :=
  bif !s.bit R.DALI.BUSCFG_ON then (s.modLamp (fun l => { l with measuring := false })).busState 0
  else bif Nat.beq (s.get R.DALI.BUSSTAT_ST) 0 && s.lampLive then s.modLamp (fun l => { l with measuring := true })
  else s

/-- A write of BUSCFG. -/
def State.buscfgWrite (s : State) (w : Nat) : State :=
  bif Nat.beq (s.get (R.HDR.ST 0x60)) 1 then s.refuse 0x60 RC.BUSY 0x20
  else (s.setAll [(R.DALI.BUSCFG_ON, R.DALI.BUSCFG_ON.of w), (R.DALI.BUSCFG_LIM, R.DALI.BUSCFG_LIM.of w),
    (R.DALI.BUSCFG_SHARE, R.DALI.BUSCFG_SHARE.of w)]).busFollow

/-- DALI_BUSCFG_WRITE (R540). -/
def execDaliBuscfgWrite (who : Requester) (value : Word) (s : State) : Host.Outcome State Fault Refusal :=
  s.writeCmd who 0x60 0x20 (fun s => s.buscfgWrite value.toNat)

/-- The voltage and current that BUSSTAT shows. -/
def State.busShow (s : State) (bus current : Nat) : State :=
  s.setAll [(R.DALI.BUSSTAT_VBUS, bus), (R.DALI.BUSSTAT_IBUS, current)]

/-- DALI_BUS_MEASURE_DONE (R540): 20 ms of measurement; `volts` is DALI_A over DALI_B, signed, 0.1 V. -/
def execDaliBusMeasureDone (volts : Half) (bus current : Byte) (s : State) : Host.Outcome State Fault Refusal :=
  bif s.lamp.measuring && s.lampLive then
    let t := (s.modLamp (fun l => { l with measuring := false })).busShow bus.toNat current.toNat
    .next (t.busState (bif decide (volts.toInt < -40) then 3
      else bif decide (95 < volts.toInt) && !t.bit R.DALI.BUSCFG_SHARE then 2 else 1))
  else .next s

/-- DALI_BUS_OVERLOAD (R540): at the current limit for 100 ms. -/
def execDaliBusOverload (bus current : Byte) (s : State) : Host.Outcome State Fault Refusal :=
  .next (bif Nat.beq (s.get R.DALI.BUSSTAT_ST) 1 && s.lampLive then (s.busShow bus.toNat current.toNat).busState 4 else s)

/-- DALI_OVERLOAD_END (R540): below the limit for 100 ms. -/
def execDaliOverloadEnd (bus current : Byte) (s : State) : Host.Outcome State Fault Refusal :=
  .next (bif Nat.beq (s.get R.DALI.BUSSTAT_ST) 4 && s.lampLive then (s.busShow bus.toNat current.toNat).busState 1 else s)

/-- DALI_BUS_REMEASURE (R540): the reversed or powered bus has been clear for 1 s. -/
def execDaliBusRemeasure (s : State) : Host.Outcome State Fault Refusal :=
  let st := s.get R.DALI.BUSSTAT_ST
  .next (bif (Nat.beq st 2 || Nat.beq st 3) && s.lampLive then s.modLamp (fun l => { l with measuring := true }) else s)

/-! ### Bridge hold, reset state and recovery as the lamp side sees them (R21, R77, R547, R602) -/

/-- The mains side enters bridge hold: the relay undriven, the frame on the bus cut, the output held. A fade stops. -/
def State.lampHold (s : State) : State :=
  let s := s.relayCut.set R.AOUT.STAT_FADING 0
  match s.lamp.cur with
  | some (e, _) => (s.daliFree).daliResult e 5 0
  | none => s

/-- The mains side enters reset state, or mains is lost: bus supply off, output floating, relay undriven; the queue and the results are
gone with its state. -/
def State.lampReset (s : State) : State :=
  let s := s.relayCut
  let s := s.modLamp (fun l => { l with queue := [], results := [], cur := none, measuring := false, openOn := none })
  s.setAll [(R.DALI.BUSSTAT_ST, 0), (R.DALI.BUSSTAT_SYSFAIL, 0), (R.DALI.BUSSTAT_VBUS, 0), (R.DALI.BUSSTAT_IBUS, 0),
    (R.AOUT.STAT_FLOAT, 1), (R.AOUT.STAT_FADING, 0), (R.AOUT.STAT_OVERLOAD, 0)]

/-! ### Photocell (R553, R554) -/

/-- The photocell's state; `dark` says which way the decision went. -/
def State.photoState (s : State) (dark : Bool) : State :=
  (s.setBit R.METER.PHOTO_STATE dark).raise 0x62 (bif dark then 2 else 3)

/-- PHOTOCELL_SECOND (R553, R554): the mean of the second's samples is judged. -/
def execPhotocellSecond (mean : Half) (s : State) : Host.Outcome State Fault Refusal :=
  bif !s.lampLive || !s.domOn 20 then .next s
  else
    let m := mean.toNat
    let dark := bif Nat.ble (s.get R.METER.PHCFG_DARK) m then s.lamp.darkRun + 1 else 0
    let light := bif Nat.ble m (s.get R.METER.PHCFG_LIGHT) then s.lamp.lightRun + 1 else 0
    let d := s.get R.METER.PHDLY_DELAY_S
    let t := s.modLamp (fun l => { l with darkRun := dark, lightRun := light })
    let t := ((t.set R.METER.PHOTO_MEAN m).setBit R.METER.STAT_PH_OPEN (Nat.beq m 0xFFFF)).setBit R.METER.STAT_PH_SHORT (Nat.blt m 16)
    let falls := Nat.ble d dark && (Nat.beq dark d || !t.bit R.METER.PHOTO_STATE)
    let rises := Nat.ble d light && (Nat.beq light d || t.bit R.METER.PHOTO_STATE)
    .next (bif falls then t.photoState true else bif rises then t.photoState false else t)

/-! ### Metering (R555-R560) -/

/-- The 64-bit energy count. -/
def State.energy (s : State) : Nat := s.get R.METER.ENERGY_LO_COUNT + 2 ^ 32 * s.get R.METER.ENERGY_HI_COUNT

/-- Whole mWh are added to the count, or to REVWH (R558); the running value follows in retention RAM (R559). -/
def State.addEnergy (s : State) (mwh reverse : Nat) : State :=
  let n := s.energy + mwh
  let s := (s.setAll [(R.METER.ENERGY_LO_COUNT, n), (R.METER.ENERGY_HI_COUNT, n / 2 ^ 32)]).bump R.METER.REVWH_COUNT reverse
  (s.runningValue R.METER.ENERGY_LO_COUNT).runningValue R.METER.ENERGY_HI_COUNT

/-- The accumulator of a bridge outage or reset state is added to the count (R21). -/
def State.takeAccum (s : State) : State :=
  let s' := s.addEnergy s.bridge.accum s.lamp.accumRev
  { s' with bridge := { s'.bridge with accum := 0 }, lamp := { s'.lamp with accumRev := 0 } }

/-- A window's quantities are published on the mains side (R555, R556). -/
def State.meterShow (s : State) (q : MeterWindow) : State :=
  let s := s.setAll [(R.METER.VRMS_V, q.vrms.toNat), (R.METER.IRMS_I, q.irms.toNat), (R.METER.P_MW, q.p.toNat),
    (R.METER.Q_MVAR, q.q.toNat), (R.METER.PF_PF, q.pf.toNat), (R.METER.PF_FREQ, q.freq.toNat), (R.METER.THD_V, q.thdv.toNat),
    (R.METER.THD_I, q.thdi.toNat)]
  let s := (s.setBit R.METER.STAT_OVRI q.ovri).setBit R.METER.STAT_OVRV q.ovrv
  ((s.setBit R.METER.STAT_REV q.p.msb).onlyIf q.zx (·.set R.METER.STAT_NOZX 0)).bumpWrap R.METER.SNAP_WSEQ

/-- The window's energy goes to the mains side's accumulator (R21, R77). -/
def State.meterHeld (s : State) (q : MeterWindow) : State :=
  bif q.p.msb then s.modLamp (fun l => { l with accumRev := l.accumRev + q.energy.toNat, openAll := false })
  else { s with bridge := { s.bridge with accum := (s.bridge.accum + q.energy.toNat) % 2 ^ 64 }, lamp := { s.lamp with openAll := false } }

/-- METER_WINDOW_END (R555, R558, R552). During a bridge silence or hold the mains side publishes the window as ever, and its energy goes to
the accumulator (R21); in reset state the accumulator alone counts (R77). What a silent window does beside that, no interrupt and no
judgement of the relay, is the model's choice (log entry 109). -/
def execMeterWindowEnd (q : MeterWindow) (s : State) : Host.Outcome State Fault Refusal :=
  bif !s.bit R.PWR.SUPPLY_MAINS then .next s
  else bif s.bridge.inReset then .next (s.meterHeld q)
  else bif s.bridge.silent || s.bridge.hold then .next ((s.onlyIf (s.domOn 20) (·.meterShow q)).meterHeld q)
  else bif !s.domOn 20 then .next s
  else
    let t := (s.meterShow q).addEnergy (bif q.p.msb then 0 else q.energy.toNat) (bif q.p.msb then q.energy.toNat else 0)
    let t := ((t.raise 0x62 0).raiseIf (q.ovri || q.ovrv) 0x62 1)
    let t := bif t.lamp.openAll && Nat.ble 100 q.irms.toNat then (t.set R.AOUT.RLYSTAT_MISMATCH 1).raise 0x61 3 else t
    .next (t.modLamp (fun l => { l with openAll := Nat.beq (t.get R.AOUT.RLYSTAT_STATE) 0 }))

/-- METER_NOZX_TIMEOUT (R555): no crossing for 25 ms. -/
def execMeterNozxTimeout (s : State) : Host.Outcome State Fault Refusal :=
  .next (bif s.lampLive && s.domOn 20 then s.set R.METER.STAT_NOZX 1 else s)

/-- The words of VRMS to THD. -/
def State.meterWords (s : State) : List Nat := [0x28, 0x2C, 0x30, 0x34, 0x38, 0x3C].map (fun off =>
  (rowsMETER.filter (fun r => Nat.beq r.fld.off off)).foldl (fun w r => w + s.get r.fld * 2 ^ r.fld.lsb) 0)

/-- A read of SNAP loads the requester's latch (R557). -/
def State.snapRead (s : State) (who : Nat) : State × Nat :=
  (s.modLamp (fun l => { l with snaps := (who, s.meterWords) :: l.snaps.filter (fun e => !Nat.beq e.1 who) }),
   s.get R.METER.SNAP_WSEQ)

/-- METER_SNAP_READ. -/
def execMeterSnapRead (who : Requester) (s : State) : Host.Outcome State Fault Refusal := s.readCmd who 0x62 0x24 (fun s => s.snapRead who)

/-- A read of ENERGY_LO latches ENERGY_HI for the requester (R558). -/
def State.energyRead (s : State) (who : Nat) : State × Nat :=
  (s.modLamp (fun l => { l with energy := l.energy.put who (s.get R.METER.ENERGY_HI_COUNT + 1) }), s.get R.METER.ENERGY_LO_COUNT)

/-- ENERGY_LO_READ. -/
def execEnergyLoRead (who : Requester) (s : State) : Host.Outcome State Fault Refusal := s.readCmd who 0x62 0x40 (fun s => s.energyRead who)

/-- A read of ENERGY_HI takes the requester's latch where it has one. -/
def State.energyHiRead (s : State) (who : Nat) : State × Nat :=
  let v := s.lamp.energy.look who
  bif Nat.beq v 0 then (s, s.get R.METER.ENERGY_HI_COUNT) else (s.modLamp (fun l => { l with energy := l.energy.put who 0 }), v - 1)

/-- A read of one of VRMS to THD takes the requester's latched word, once (R557). A word that is read is marked by 2^32. -/
def State.meterTake (s : State) (who off live : Nat) : State × Nat :=
  let k := (off - 0x28) / 4
  match s.lamp.snaps.find? (fun e => Nat.beq e.1 who) with
  | none => (s, live)
  | some e =>
    let v := e.2.getD k (2 ^ 32)
    bif Nat.ble (2 ^ 32) v then (s, live)
    else (s.modLamp (fun l => { l with snaps := (who, e.2.set k (2 ^ 32)) :: l.snaps.filter (fun x => !Nat.beq x.1 who) }), v)

/-- CLR_ENERGY (R560). -/
def State.clrEnergy (s : State) (key : Nat) : State :=
  bif !Nat.beq key 0xA55A then s.refuse 0x62 0x40 0x50
  else
    let body := leBytes 8 s.energy ++ leBytes 4 (s.get R.METER.REVWH_COUNT)
    let s := s.setAll [(R.METER.ENERGY_LO_COUNT, 0), (R.METER.ENERGY_HI_COUNT, 0), (R.METER.REVWH_COUNT, 0), (R.METER.STAT_EGAP, 0)]
    ((s.runningValue R.METER.ENERGY_LO_COUNT).runningValue R.METER.ENERGY_HI_COUNT).record 8 0x34 body

/-- METER_CLR_ENERGY. -/
def execMeterClrEnergy (who : Requester) (key : Half) (s : State) : Host.Outcome State Fault Refusal :=
  s.command who 0x62 0x50 (fun s => s.clrEnergy key.toNat)

/-- ENERGY_CHECKPOINT (R559): every CKPT_MIN minutes E0 commits. -/
def execEnergyCheckpoint (s : State) : Host.Outcome State Fault Refusal :=
  .next (bif decide (s.mode = .service) || decide (s.mode = .commission) || decide (s.mode = .maintenance) || decide (s.mode = .outage)
    then s.commit else s)

/-! ### Digital inputs (R561-R564) -/

/-- The bit of a map. -/
def State.mapBit (s : State) (f : Fld) (n : Nat) (b : Bool) : State :=
  let v := s.get f
  s.set f (bif b then v ||| 2 ^ n else bif v.testBit n then v - 2 ^ n else v)

/-- An event of input `n`: the flag, its producer, and a wake of CORE and ENG0 (R107, R562). In HOLD the flag and the event are held
in QUARTZ and wake nothing (R564). -/
def State.dinEvent (s : State) (n bit : Nat) : State :=
  bif decide (s.mode = .hold) then (s.set (R.HDR.IRQ 0x63 (bit + n)) 1).fire (35 + n) else ((s.raise 0x63 (bit + n)).fire (35 + n)).wakeCore 7

/-- An event for the filtered level, where EDGE selects it. -/
def State.dinReport (s : State) (n : Nat) (active : Bool) : State :=
  let s := s.modLamp (fun l => { l with said := l.said.set n active })
  bif (s.get (R.DIN.CFG_EDGE n)).testBit (bif active then 0 else 1) then s.dinEvent n 0 else s

/-- DIN_FILTERED_CHANGE (R561-R563): the pad's new level is accepted; `recent` counts the transitions of the last CHAT_WIN, this one
among them. -/
def execDinFilteredChange (n : Fin 4) (high : Bool) (recent : Byte) (s : State) : Host.Outcome State Fault Refusal :=
  let active := high == s.bit (R.DIN.CFG_POL n)
  bif decide (s.mode = .field) || decide (s.mode = .unpowered) || (s.get R.DIN.STAT_LEVEL).testBit n == active then .next s
  else
    let t := ((s.mapBit R.DIN.STAT_LEVEL n active).mapBit R.DIN.STAT_RAW n high).bump (R.DIN.CNT_TRANS n)
    let t := t.onlyIf (!active) (·.mapBit R.DIN.STAT_STUCK n false)
    let chat := (t.get R.DIN.STAT_CHATTER).testBit n
    .next (bif chat then t
      else bif Nat.blt (t.get (R.DIN.CFG_CHAT_N n)) recent.toNat then (t.mapBit R.DIN.STAT_CHATTER n true).dinEvent n 8
      else t.dinReport n active)

/-- DIN_CHATTER_QUIET (R563): no transition for CHAT_WIN. -/
def execDinChatterQuiet (n : Fin 4) (s : State) : Host.Outcome State Fault Refusal :=
  bif (s.get R.DIN.STAT_CHATTER).testBit n then
    let t := s.mapBit R.DIN.STAT_CHATTER n false
    let active := (t.get R.DIN.STAT_LEVEL).testBit n
    .next (bif active == t.lamp.said.getD n false then t else t.dinReport n active)
  else .next s

/-- DIN_STUCK (R562): active for STUCKn.TIME seconds; 0 disables the check. -/
def execDinStuck (n : Fin 4) (s : State) : Host.Outcome State Fault Refusal :=
  .next (bif (s.get R.DIN.STAT_LEVEL).testBit n && !(s.get R.DIN.STAT_STUCK).testBit n && !Nat.beq (s.get (R.DIN.STUCK_TIME n)) 0 &&
      !decide (s.mode = .field) && !decide (s.mode = .unpowered) then
    (s.mapBit R.DIN.STAT_STUCK n true).dinEvent n 4 else s)

/-! ### The reference luminaire image of E10 (R24, R415, R538) -/

/-- E10 runs the reference image. -/
def State.reference (s : State) : Bool :=
  let e := s.engines.e10
  e.image && !e.customer && (decide (e.run = .running) || decide (e.run = .waiting))

/-- AOUT.VSET for level L (R538), rounded half up. -/
def vsetOf (mode l : Nat) : Nat := bif Nat.beq mode 1 then 100 + (2 * 900 * l + 254) / 508 else (2 * 1000 * l + 254) / 508

/-- E10 sets the lamp to level `l`: SET first where the relay is to close, the broadcast DAPC, VSET, and CLR after the DAPC's result
where the relay is to open. The DAPC's priority and tag are the image's own (free). -/
def State.driveLamp (s : State) (l : Nat) (close openIt : Bool) : State :=
  let s := s.modLamp (fun x => { x with level := l })
  let s := s.onlyIf close (fun s => s.guarded 10 0x61 0x30 (fun s => s.relayCommand 1))
  let f := s.freeBytes 3
  let s := s.spend 3
  let g := s.guard 10 0x60 0x2C true
  let r := bif g.2 then (g.1.set R.DALI.TXD_FRAME (0xFE00 + l)).daliGo (0xFE00 + l) false ((f.getD 0 0).toNat % 5 + 1) false false (ofLe (f.drop 1))
    else (g.1, none)
  let s := r.1.guarded 10 0x61 0x24 (fun s => s.vsetWrite (vsetOf (s.get R.AOUT.CFG_MODE) l) (s.get R.AOUT.STAT_VOUT))
  bif !openIt then s
  else match r.2 with
    | some n => s.modLamp (fun x => { x with openOn := some n })
    | none => s.guarded 10 0x61 0x30 (fun s => s.relayCommand 2)

/-- What the image does at start-up once DALI is ENABLED and AOUT has been checked. -/
def State.startLamp (s : State) : State :=
  bif s.lamp.startDue && s.reference && Nat.beq (s.get (R.HDR.ST 0x60)) 2 && !Nat.beq (s.get (R.HDR.ST 0x61)) 1 then
    let l := s.lamp.level
    let st := s.get R.AOUT.RLYSTAT_STATE
    (s.modLamp (fun x => { x with startDue := false })).driveLamp l (Nat.blt 0 l && !Nat.beq st 1) (Nat.beq l 0 && !Nat.beq st 0)
  else s

/-- The head of E10's mailbox, where it has the type. -/
def State.mail10 (s : State) (type : Nat) : Option Mail :=
  match s.engines.e10.mailbox with
  | m :: _ => bif Nat.beq m.type type then some m else none
  | [] => none

/-- E10_LAMP_SET (R415, R538). -/
def execE10LampSet (s : State) : Host.Outcome State Fault Refusal :=
  match s.mail10 0x90 with
  | none => .next s
  | some m =>
    bif !s.reference then .next s
    else
      let l := m.w1.toNat % 256
      let was := s.lamp.level
      .next ((s.mailPop 10).driveLamp l (Nat.beq was 0 && Nat.blt 0 l) (Nat.blt 0 was && Nat.beq l 0))

/-- The CRC-16 of a YN4100 frame (R155): polynomial 0x1021, initial value 0xFFFF. -/
def uartCrc (l : List Byte) : Nat := (crc16 l).toNat

/-- A YN4100 frame as it goes over the line (R155): SOF, LEN, SEQ, CMD, payload, CRC-16 over LEN through the payload, least significant
byte first. -/
def UartFrame.bytes (f : UartFrame) : List Byte :=
  let body := BitVec.ofNat 8 f.payload.length :: BitVec.ofNat 8 f.seq :: BitVec.ofNat 8 f.cmd :: f.payload
  0xA5#8 :: body ++ leBytes 2 (uartCrc body)

/-- A reply to the YN4100 command of that SEQ and CMD (R156), CMD with bit 7 set: it is sent, and kept for a repetition of that command
while no other has come since. -/
def State.uartReply (s : State) (seq cmd : Nat) (payload : List Byte) : State :=
  let f : UartFrame := ⟨seq, cmd ||| 0x80, payload⟩
  let keep (q : UartPrev) : UartPrev := bif Nat.beq q.seq seq && Nat.beq q.cmd cmd then { q with reply := some f } else q
  { s with compat := { s.compat with reply := some f, line := f.bytes, last := s.compat.last.map keep } }

/-- E9 has the answer of E10: it replies to the host where a LAMP_GET waits. -/
def State.lampAnswer (s : State) (v : Nat) : State :=
  match s.compat.lampWait with
  | some seq =>
    ({ s with compat := { s.compat with lampWait := none } } : State).uartReply seq 0x31 [0, BitVec.ofNat 8 v, BitVec.ofNat 8 (v / 256 % 2)]
  | none => s.answer 10 9 0x92 0 v 0 0 0

/-- E10_LAMP_GET (R415): the level, and bit 8 for a closed relay. -/
def execE10LampGet (s : State) : Host.Outcome State Fault Refusal :=
  match s.mail10 0x91 with
  | none => .next s
  | some m =>
    bif !s.reference then .next s
    else
      let v := s.lamp.level + bif Nat.beq (s.get R.AOUT.RLYSTAT_STATE) 1 then 256 else 0
      let t := s.mailPop 10
      .next (bif Nat.beq m.src 9 then t.lampAnswer v else t.answer 10 m.src 0x92 m.tag v 0 0 0)

/-- LAMP_GET_TIMEOUT (R415): no answer within 10 ms. -/
def execLampGetTimeout (s : State) : Host.Outcome State Fault Refusal :=
  match s.compat.lampWait with
  | some seq => .next (({ s with compat := { s.compat with lampWait := none } } : State).uartReply seq 0x31 [4])
  | none => .next s

end Sys2Proof.Machine
end

