-- ==== Sys2Proof/Machine/Bridge.lean ====
section
/-!
DEFINITION. The isolation bridge and the reset state of the mains side (ch. 01, R18-R21; R77, R97).
-/

namespace Sys2Proof.Machine

open Sys2Proof

def State.modBridge (s : State) (f : Bridge → Bridge) : State := { s with bridge := f s.bridge }

/-- PLC_DRIVER_FORCED_OFF (R211): a transmission in progress stops and is queued again. -/
def State.plcCut (s : State) : State := bif s.bit R.PLCAFE.STAT_DRV_ON then s.plcAbort else s

/-- The mains side enters reset state (R77); metering goes on into the accumulator. -/
def State.mainsReset (s : State) : State :=
  (s.modBridge (fun b => { b with inReset := true, resetDue := false })).lampReset.plcCut

/-- E0 configures the mains side (R77, R90): its reset state ends, and the accumulated energy joins the count (R21). A silent bridge
leaves the configuration due. -/
def State.mainsConfigure (s : State) : State :=
  bif !s.bit R.PWR.SUPPLY_MAINS then s
  else bif s.bridge.silent then s.modBridge (fun b => { b with cfgDue := true })
  else
    let s := bif s.bridge.resetDue then s.mainsReset else s
    let s := s.modBridge (fun b => { b with inReset := false, hold := false, cfgDue := false })
    s.takeAccum.busFollow.aoutDrive

/-- The first valid frame after a silence (R21): the accumulator's contents are added first. A RESET frame that was lost takes effect
now (R77). -/
def State.bridgeRecover (s : State) : State :=
  let s := bif s.bridge.resetDue then s.mainsReset else s
  let s := s.modBridge (fun b => { b with silent := false, hold := false })
  bif s.bridge.inReset then s else s.takeAccum.aoutDrive

/-- BRIDGE_FRAME_RECEIVED (R18): a frame that fails its CRC is discarded and sent again by its sender; a good one wakes CORE (R107)
and ends a silence. -/
def execBridgeFrameReceived (toMains crcOk : Bool) (s : State) : Host.Outcome State Fault Refusal :=
  bif !s.bit R.PWR.SUPPLY_MAINS then .next s
  else bif toMains then .next (s.modBridge (fun b => { b with resendToMains := !crcOk }))
  else
    let t := s.modBridge (fun b => { b with resendToSelv := !crcOk })
    .next (bif crcOk then (t.wakeDomain 0 1).onlyIf t.bridge.silent State.bridgeRecover else t)

/-- An access in flight is refused as R100 sets out (R21): a read returns 0. -/
def State.flightRefused (s : State) (q : BusReq) : State :=
  let s := s.domainOff q.who q.addr q.data.isSome
  match s.spi.held with
  | some (a, none) => bif Nat.beq a q.addr then { s with spi := { s.spi with held := some (a, some 0) } } else s
  | _ => s

/-- BRIDGE_SILENCE_TIMEOUT (R21): no valid frame for 200 µs while mains is Present. -/
def execBridgeSilenceTimeout (s : State) : Host.Outcome State Fault Refusal :=
  bif s.bit R.PWR.SUPPLY_MAINS && !s.bridge.silent then
    let l := s.bridge.inflight
    let t := s.modBridge (fun b => { b with silent := true, inflight := [] })
    .next ((t.each l (fun q t => t.flightRefused q)).capFault 0x10 0xF 0 0)
  else .next s

/-- MAINS_BRIDGE_HOLD (R21). -/
def execMainsBridgeHold (s : State) : Host.Outcome State Fault Refusal :=
  .next (bif s.bit R.PWR.SUPPLY_MAINS && !s.bridge.hold then (s.modBridge (fun b => { b with hold := true })).lampHold.plcCut else s)

/-- AOUT_HOLD_TIMEOUT (R21): the output has held its level for 2 s and floats. -/
def execAoutHoldTimeout (s : State) : Host.Outcome State Fault Refusal :=
  .next (bif s.bridge.hold then s.setAll [(R.AOUT.STAT_FLOAT, 1), (R.AOUT.STAT_FADING, 0), (R.AOUT.STAT_OVERLOAD, 0)] else s)

/-- BRIDGE_RECOVERY (R21). -/
def execBridgeRecovery (s : State) : Host.Outcome State Fault Refusal :=
  .next (bif s.bit R.PWR.SUPPLY_MAINS && (s.bridge.silent || s.bridge.hold) then s.bridgeRecover else s)

/-- A slot holds a fault of the bridge. -/
def State.bridgeSlotted (s : State) : Bool :=
  (s.bit R.FAULT.STATUS_ACTIVE && Nat.beq (s.get R.FAULT.P_INFO_CAUSE) 0x10) ||
    (s.bit R.FAULT.STATUS_SVALID && Nat.beq (s.get R.FAULT.S_INFO_CAUSE) 0x10)

/-- BRIDGE_RESTART (R77, R94, R97): E0 restarts the bridge every 10 ms while it is silent or its configuration is due; a fault cleared
from its slot is raised again. -/
def execBridgeRestart (s : State) : Host.Outcome State Fault Refusal :=
  .next (bif s.bridge.silent then (bif s.bridgeSlotted then s else s.capFault 0x10 0xF 0 0)
    else bif s.bridge.cfgDue then s.mainsConfigure else s)

/-- RESET_FRAME_RECEIVED (R77); a frame sent into a silence is lost. -/
def execResetFrameReceived (s : State) : Host.Outcome State Fault Refusal :=
  .next (bif s.bridge.resetDue && !s.bridge.silent then s.mainsReset else s)

end Sys2Proof.Machine
end

