-- ==== Sys2Proof/Machine/Events.lean ====
section
/-!
DEFINITION. The event fabric's commands and the timers (ch. 16, R423-R441).
-/

namespace Sys2Proof.Machine

open Sys2Proof

/-- QUARTZ_EVENT_DELIVERY (R424, R438, R439): at the first fabric clock after CORE is ON the latched events reach every
consumer that selects them, in the order they were latched; a capture takes the count of the LF edge of the latch.
`refired` lists producers that fire again in that clock: one event, and the producer's QLOST bit is set. -/
def execQuartzEventDelivery (refired : List (Fin 96)) (s : State) : Host.Outcome State Fault Refusal :=
  bif s.domOn 0 then
    let t := { s with fabric := { s.fabric with latched := [] } }
    .next (t.each s.fabric.latched (fun l u =>
      let u := State.pulse (fun i => (l.counts.getD i 0, true)) 16 [l.producer] u
      bif refired.any (fun p => Nat.beq p.val l.producer) && Nat.ble 32 l.producer then
        u.set R.EVT.QLOST_MAP (u.get R.EVT.QLOST_MAP ||| 2 ^ (l.producer - 32))
      else u))
  else .next s

/-- SWEV_SIGNAL (R428): the engine's write of SIG raises its SWEV producer once. -/
def execSwevSignal (e : Fin 12) (s : State) : Host.Outcome State Fault Refusal :=
  .next (bif decide ((s.eng e).run = .running) then s.fire (16 + e) else s)

/-- HOST_SIGNAL (R423): HOSTSIG.GO raises producer 28; a write by another requester is ignored. -/
def execHostSignal (who : Requester) (s : State) : Host.Outcome State Fault Refusal :=
  s.writeCmd who 0x22 0xA0 (fun s => bif Nat.beq who HOST then s.fire 28 else s)

/-- Clear OVR of input `n`: the same flag as its IRQ_STAT bit (R427). -/
def State.clearOvr (s : State) (n : Nat) : State :=
  (s.set (R.EVT.SEL_OVR n) 0).set (R.HDR.IRQ (ovrPage n) (n % 32)) 0

/-- Clear PEND of input `n`; writes to the fixed inputs have no effect (R427). -/
def State.takeInput (s : State) (n : Nat) : State := bif Nat.blt n 2 then s else s.set (R.EVT.SEL_PEND n) 0

/-- EVENT_PEND_CLEAR (R428): the engine writes 1 to PEND or OVR bits of its three inputs. -/
def execEventPendClear (e : Fin 12) (pend ovr : BitVec 3) (s : State) : Host.Outcome State Fault Refusal :=
  .next (s.each [0, 1, 2] (fun j s =>
    (s.onlyIf (pend.getLsbD j) (·.takeInput (3 * e + j))).onlyIf (ovr.getLsbD j) (·.clearOvr (3 * e + j))))

/-- A producer is SECURE: COLLECT_POST, or a tap whose page is (R423, R425). -/
def State.secureProducer (s : State) (p : Nat) : Bool :=
  Nat.beq p 63 || (Nat.ble 64 p && Nat.blt p 96 && s.bit (R.EVT.TAP_SEC (p - 64)))

/-- A write of SELn (R429, R430): SRC is checked; OWNER only E0 writes; OVR clears by a 1. -/
def State.selectorWrite (s : State) (who n w : Nat) : State :=
  let p := ovrPage n
  let off := 0x20 + 4 * (n % 32)
  let src := (R.EVT.SEL_SRC n).of w
  let own := (R.EVT.SEL_OWNER n).of w
  let s := s.onlyIf (!Nat.beq ((R.EVT.SEL_OVR n).of w) 0 && (Nat.beq who 0 || Nat.beq who (s.get (R.EVT.SEL_OWNER n))))
    (·.clearOvr n)
  bif Nat.blt n 2 then s.refuse p 0x40 off
  else bif Nat.ble 96 src && Nat.ble src 126 then s.refuse p 0x07 off
  else bif Nat.beq who 0 && Nat.blt 12 own then s.refuse p 0x07 off
  else bif s.secureProducer src && !s.bit (R.EVT.SEL_SEC n) then s.refuseAccess who 0x02 (p * 256 + off) true
  else
    let s := s.set (R.EVT.SEL_SRC n) src
    bif Nat.beq who 0 then (s.set (R.EVT.SEL_OWNER n) own).setBit (R.EVT.SEL_SEC n) (Nat.blt own 10) else s

/-- SELECTOR_WRITE (R430): a consumer selector's SRC is changed from the next fabric clock. -/
def execSelectorWrite (who : Requester) (n : Fin 64) (value : Word) (s : State) : Host.Outcome State Fault Refusal :=
  s.writeCmd who (ovrPage n) (0x20 + 4 * (n % 32)) (fun s => s.selectorWrite who n value.toNat)

/-- A write of TAPk (R425): the page must be mapped and no window, and the tap's owner must have read rights on it. -/
def State.tapWrite (s : State) (who k w : Nat) : State :=
  let off := 0x20 + 4 * k
  let page := (R.EVT.TAP_PAGE k).of w
  let own := bif Nat.beq who 0 then (R.EVT.TAP_OWNER k).of w else s.get (R.EVT.TAP_OWNER k)
  bif !mapped page then s.refuse 0x22 0x07 off
  else bif Nat.blt 12 own then s.refuse 0x22 0x07 off
  else bif !Nat.beq (s.rights own page 0x0C false) 0 then s.refuseAccess who 0x02 (0x2200 + off) true
  else
    s.setAll [(R.EVT.TAP_PAGE k, page), (R.EVT.TAP_BIT k, (R.EVT.TAP_BIT k).of w), (R.EVT.TAP_EN k, (R.EVT.TAP_EN k).of w),
      (R.EVT.TAP_OWNER k, own), (R.EVT.TAP_SEC k, s.get (R.HDR.SEC page))]

/-- TAP_WRITE (R425): an interrupt tap's page, bit or enable is set. -/
def execTapWrite (who : Requester) (k : Fin 32) (value : Word) (s : State) : Host.Outcome State Fault Refusal :=
  s.writeCmd who 0x22 (0x20 + 4 * k) (fun s => s.tapWrite who k value.toNat)

/-! ### Timers -/

/-- Forget a compare's state, or give it a new one. -/
def Fabric.setCmp (f : Fabric) (i j : Nat) (c : CmpState) : Fabric :=
  let rest := f.cmps.filter (fun e => !Nat.beq e.1 (4 * i + j))
  { f with cmps := match c with | .idle => rest | _ => (4 * i + j, c) :: rest }

/-- Where compare `j` of timer `i` stands. -/
def Fabric.cmp (f : Fabric) (i j : Nat) : CmpState :=
  match f.cmps.find? (fun e => Nat.beq e.1 (4 * i + j)) with | some e => e.2 | none => .idle

/-- Set a compare's state. -/
def State.setCmp (s : State) (i j : Nat) (c : CmpState) : State := { s with fabric := s.fabric.setCmp i j c }

/-- The prescaler of timer `i` returns to phase 0 (R433). -/
def State.phaseZero (s : State) (i : Nat) : State := { s with fabric := { s.fabric with phases := s.fabric.phases.put i 0 } }

/-- TIMCTL.GO (R433): every stopped timer with GOSEL = 1 that the writer owns starts from phase 0, and loses its GOSEL; E0
starts every such timer. -/
def State.timerGo (s : State) (who : Nat) : State :=
  s.each ((List.range 16).filter (fun i => !s.bit (R.TIM.STAT_RUN i) && s.bit (R.TIM.CFG_GOSEL i) &&
      (Nat.beq who 0 || Nat.beq who (s.get (R.TIM.CFG_OWNER i)))))
    (fun i s => ((s.set (R.TIM.STAT_RUN i) 1).set (R.TIM.CFG_GOSEL i) 0).phaseZero i)

/-- TIMER_GO (R433). -/
def execTimerGo (who : Requester) (s : State) : Host.Outcome State Fault Refusal :=
  s.writeCmd who 0x24 0xE0 (fun s => s.timerGo who)

/-- One timer back to its Reset values, OWNER kept: it stops (R433). -/
def State.timerClear (s : State) (i : Nat) : State :=
  let s := s.each (rowsTIM.filter (fun r => Nat.beq r.fld.page (0x24 + i / 4) && Nat.ble (0x20 + 0x30 * (i % 4)) r.fld.off &&
    Nat.blt r.fld.off (0x50 + 0x30 * (i % 4)) && !decide (r.fld = R.TIM.CFG_OWNER i))) (fun r s => s.set r.fld r.rst)
  (s.each [0, 1, 2, 3] (fun j s => s.setCmp i j .idle)).phaseZero i

/-- TIMRST (R433): each named timer that the writer owns, or any for E0, is reset. -/
def State.timerReset (s : State) (who w : Nat) : State :=
  s.each ((List.range 16).filter (fun i => w.testBit i && (Nat.beq who 0 || Nat.beq who (s.get (R.TIM.CFG_OWNER i)))))
    (fun i s => s.timerClear i)

/-- TIMER_RESET (R433). -/
def execTimerReset (who : Requester) (timers : BitVec 16) (s : State) : Host.Outcome State Fault Refusal :=
  s.writeCmd who 0x24 0xE4 (fun s => s.timerReset who timers.toNat)

/-- A write of CMPj arms the compare if it is enabled (R435). -/
def State.cmpWrite (s : State) (i j v : Nat) : State :=
  let s := s.set (R.TIM.CMP_VALUE i j) v
  s.setCmp i j (bif (s.get (R.TIM.CFG_CMPEN i)).testBit j then .arming else .idle)

/-- TIM_CMP_WRITE (R435). -/
def execTimCmpWrite (who : Requester) (i : Fin 16) (j : Fin 4) (value : Word) (s : State) : Host.Outcome State Fault Refusal :=
  s.writeCmd who (0x24 + i / 4) (0x28 + 0x30 * (i % 4) + 4 * j) (fun s => s.cmpWrite i j value.toNat)

/-- A write of a timer's CFG (R433, R435): a DIV above 10 is BAD_VALUE, a changed DIV of a running timer TIM_RUNNING; an
enable bit that rises arms its compare; OWNER only E0 writes. -/
def State.timCfgWrite (s : State) (who i w : Nat) : State :=
  let p := 0x24 + i / 4
  let off := 0x20 + 0x30 * (i % 4)
  let div := (R.TIM.CFG_DIV i).of w
  let own := bif Nat.beq who 0 then (R.TIM.CFG_OWNER i).of w else s.get (R.TIM.CFG_OWNER i)
  let moved := !Nat.beq div (s.get (R.TIM.CFG_DIV i))
  bif Nat.blt 10 div || Nat.blt 12 own then s.refuse p 0x07 off
  else bif s.bit (R.TIM.STAT_RUN i) && moved then s.refuse p 0x40 off
  else
    let old := s.get (R.TIM.CFG_CMPEN i)
    let en := (R.TIM.CFG_CMPEN i).of w
    let s := s.setAll [(R.TIM.CFG_DIV i, div), (R.TIM.CFG_GOSEL i, (R.TIM.CFG_GOSEL i).of w), (R.TIM.CFG_CMPEN i, en),
      (R.TIM.CFG_LATEFIRE i, (R.TIM.CFG_LATEFIRE i).of w), (R.TIM.CFG_OWNER i, own)]
    (s.onlyIf moved (·.phaseZero i)).each [0, 1, 2, 3] (fun j s =>
      bif en.testBit j && !old.testBit j then s.setCmp i j .arming
      else bif !en.testBit j then s.setCmp i j .idle else s)

/-- TIM_CFG_WRITE (R435). -/
def execTimCfgWrite (who : Requester) (i : Fin 16) (value : Word) (s : State) : Host.Outcome State Fault Refusal :=
  s.writeCmd who (0x24 + i / 4) (0x20 + 0x30 * (i % 4)) (fun s => s.timCfgWrite who i value.toNat)

/-- What an edge that brings the count to `c` does to compare `j` (R435-R437): the state, whether it fires, whether the fire
is a late one. -/
def judgeCompare (st : CmpState) (value c : Nat) (latefire : Bool) : CmpState × Bool × Bool :=
  let hit := Nat.beq value c
  let late := Nat.ble 0x80000000 ((value + 0x100000000 - c) % 0x100000000)
  match st with
  | .arming =>
    bif hit then (.spent, true, false)
    else bif late then (bif latefire then (.spent, true, true) else (.late, false, false))
    else (.ahead, false, false)
  | .ahead => bif hit then (.spent, true, false) else (.ahead, false, false)
  | .late => bif hit then (.spent, true, false) else (.late, false, false)
  | .idle => (.idle, false, false)
  | .spent => (.spent, false, false)

/-- Compare `j` at an edge: MATCH, LATE, the interval added and armed again (R436, R437). The flags answer a fire and a
late fire. -/
def State.compareEdge (s : State) (i c j : Nat) : State × Bool × Bool :=
  let st := s.fabric.cmp i j
  let value := s.get (R.TIM.CMP_VALUE i j)
  let r := judgeCompare st value c ((s.get (R.TIM.CFG_LATEFIRE i)).testBit j)
  let late := r.2.2 || (decide (r.1 = .late) && decide (st = .arming))
  let s := s.setCmp i j r.1
  let s := s.onlyIf late (fun s => s.set (R.TIM.STAT_LATE i) (s.get (R.TIM.STAT_LATE i) ||| 2 ^ j))
  bif r.2.1 then
    let s := s.set (R.TIM.STAT_MATCH i) (s.get (R.TIM.STAT_MATCH i) ||| 2 ^ j)
    let int := s.get (R.TIM.INT_INTERVAL i j)
    let s := bif Nat.beq int 0 then s else (s.set (R.TIM.CMP_VALUE i j) (value + int)).setCmp i j .arming
    (s, true, r.2.2)
  else (s, false, false)

/-- `n` counts of the timers' clock pass for timer `i`: its prescaler divides them by 2^DIV (R433). -/
def State.timerPass (s : State) (i n : Nat) : State :=
  let d := 2 ^ s.get (R.TIM.CFG_DIV i)
  let v := s.fabric.phases.look i + n
  ({ s with fabric := { s.fabric with phases := s.fabric.phases.put i (v % d) } }).bumpWrap (R.TIM.CNT_COUNT i) (v / d)

/-- COMPARE_MATCH (R122, R435-R437): an edge brings the running timer's count to `count`; every enabled compare is judged, and
the producer fires once when one of them matches or fires late. QUARTZ has CORE ON and the fast clocks running before it. -/
def execCompareMatch (i : Fin 16) (count : Word) (s : State) : Host.Outcome State Fault Refusal :=
  bif s.bit (R.TIM.STAT_RUN i) then
    let s := (s.startClocks.wakeDomain 0 1).set (R.TIM.CNT_COUNT i) count.toNat
    let r := [0, 1, 2, 3].foldl (fun (a : State × Bool × Bool) j =>
      bif (s.get (R.TIM.CFG_CMPEN i)).testBit j then
        let e := a.1.compareEdge i count.toNat j
        (e.1, a.2.1 || e.2.1, a.2.2 || e.2.2)
      else a) (s, false, false)
    let t := r.1
    .next (bif r.2.1 then
      (((t.raise (0x24 + i / 4) (8 * (i % 4))).raiseIf r.2.2 (0x24 + i / 4) (8 * (i % 4) + 3)).fire i)
      else t)
  else .next s

/-- CAP_READ (R438, R440): a whole read of CAP returns the count and clears CAPFULL. -/
def State.capRead (s : State) (i : Nat) : State :=
  { (s.set (R.TIM.STAT_CAPFULL i) 0) with lastRead := s.get (R.TIM.CAP_VALUE i) }

/-- CAP_READ through the Shale page. -/
def execCapRead (who : Requester) (i : Fin 16) (s : State) : Host.Outcome State Fault Refusal :=
  let g := s.guard who (0x24 + i / 4) (0x48 + 0x30 * (i % 4)) false
  .next (bif g.2 then g.1.capRead i else g.1)

end Sys2Proof.Machine
end

