-- ==== Sys2Proof/Machine/Nfc.lean ====
section
/-!
DEFINITION. The contactless tag and reader, and wake on approach (ch. 24, R565-R583).
-/

namespace Sys2Proof.Machine

open Sys2Proof

def State.modNfc (s : State) (f : Nfc → Nfc) : State := { s with nfc := f s.nfc }

/-- The UID (R569). -/
def tagUid : Nat := ((0xE0#8 ++ Config.icCode) ++ Config.extAddr.setWidth 48).toNat

/-- NFC is ON and the tag runs from the module: it raises events and counts (R566, R571). While E11 has no image and owns the tag, the tag
runs in its field-powered form only (R24). -/
def State.nfcOn (s : State) : Bool := s.domOn 22 && !(Nat.beq (s.get (R.HDR.OWNER 0x69)) 11 && !(s.eng 11).image)

/-- An event of the tag: its flag, while NFC is ON (R571). -/
def State.tagRaise (s : State) (b : Nat) : State := s.raiseIf s.nfcOn 0x69 b

/-- A count of the tag, while NFC is ON. -/
def State.tagCount (s : State) (f : Fld) : State := s.onlyIf s.nfcOn (·.bump f)

/-! ### The store (R567, R568) -/

/-- The four bytes of block `n`, the capability container computed. -/
def State.tagBlock (s : State) (n : Nat) : List Byte :=
  bif Nat.beq n 0 then [0xE2, bif s.bit R.NFCTAG.CFG_NDEF_WR then 0x40 else 0x43, 0x00, 0x01]
  else bif Nat.beq n 1 then [0x00, 0x00, 0x01, 0xFF]
  else s.nfc.fram.lookList 0 (4 * n) 4

/-- SECURED. -/
def State.secured (s : State) : Bool := s.bit R.NFCTAG.STAT_SEC

/-- Over-air rights (R567). -/
def State.tagReads (s : State) (n : Nat) : Bool := Nat.blt n 1024 || (Nat.blt n 1920 && s.secured)
def State.tagWrites (s : State) (n : Nat) : Bool :=
  Nat.ble 2 n && (bif Nat.blt n 1024 then s.secured || s.bit R.NFCTAG.CFG_NDEF_WR else Nat.blt n 1920 && s.secured)

/-- The shadow's CRC covers the block number and the data. -/
def TagItem.number : TagItem → Nat
  | .block n => n
  | .password => 0x7FF

/-- The target of a write takes its bytes. -/
def Nfc.target (x : Nfc) (i : TagItem) (bs : List Byte) : Nfc :=
  match i with
  | .block n => { x with fram := x.fram.storeList 0 (4 * n) bs }
  | .password => { x with pwd := bs }

/-- A tear-safe write (R575): whole, or cut in the step of that index. Answers whether the reply follows. -/
def State.tearWrite (s : State) (i : TagItem) (bs : List Byte) (cut : Option (Fin 6)) : State × Bool :=
  let sh : Shadow := ⟨i, bs, crc8 (leBytes 2 i.number ++ bs)⟩
  match cut with
  | none => (s.modNfc (fun x => { (x.target i bs) with shadow := some sh, marker := false }), true)
  | some k =>
    bif Nat.ble k.val 1 then (s, false)
    else bif Nat.ble k.val 3 then (s.modNfc (fun x => { x with shadow := some sh, marker := true }), false)
    else bif Nat.beq k.val 4 then (s.modNfc (fun x => { (x.target i bs) with shadow := some sh, marker := true }), false)
    else (s.modNfc (fun x => { (x.target i bs) with shadow := some sh, marker := false }), false)

/-- The cut of an over-air write: the field alone powers the tag only while NFC is not ON (R566). -/
def State.tagCut (s : State) (cut : Option (Fin 6)) : Option (Fin 6) := bif s.nfcOn then none else cut

/-- A system-area value is written under the same steps; cut in steps 3 to 5 the write is completed at the next power-up. -/
def State.sysWrite (s : State) (f : Fld) (v : Nat) (cut : Option (Fin 6)) : State × Bool :=
  match cut with
  | none => (s.set f v, true)
  | some k => (bif Nat.ble k.val 1 then s else s.set f v, false)

/-- The marker check when the tag logic is first powered (R576). -/
def State.tagCheck (s : State) : State :=
  bif s.nfc.checked then s
  else
    let t := s.modNfc (fun x => { x with checked := true, marker := false })
    match bif s.nfc.marker then s.nfc.shadow else none with
    | none => t
    | some sh =>
      bif sh.crc == crc8 (leBytes 2 sh.item.number ++ sh.bytes) then
        ((t.modNfc (fun x => x.target sh.item sh.bytes)).tagCount R.NFCTAG.CNT_TEARFIX).tagRaise 5
      else t

/-- TAG_POWER_UP (R576): the tag logic gets power from the field or from NFC. -/
def execTagPowerUp (s : State) : Host.Outcome State Fault Refusal :=
  .next (bif s.supply.fieldPresent || s.nfcOn then s.tagCheck else s)

/-! ### Field sessions (R571) -/

/-- STAT.LOCKOUT shows the 2 s lockout, or FAILCNT = 8. -/
def State.lockShow (s : State) : State :=
  s.setBit R.NFCTAG.STAT_LOCKOUT (s.nfc.locked || Nat.beq (s.get R.NFCTAG.STAT_FAILCNT) 8)

/-- A field session starts. -/
def State.tagField (s : State) : State :=
  let s := { s with supply := { s.supply with fieldPresent := true }, mode := bif decide (s.mode = Mode.unpowered) then Mode.field else s.mode }
  let s := s.tagCheck.modNfc (fun x => { x with locked := false, mam := false, reply := none })
  let s := (s.setAll [(R.NFCTAG.STAT_FIELD, 1), (R.NFCTAG.STAT_SESSION, 1), (R.NFCTAG.STAT_SEC, 0), (R.NFCTAG.STAT_ISOST, 0)]).lockShow
  (s.tagCount R.NFCTAG.CNT_SESSIONS).tagRaise 0

/-- The session ends; without NFC the tag logic is unpowered. -/
def State.tagFieldOff (s : State) : State :=
  let s := { s with supply := { s.supply with fieldPresent := false }, mode := bif decide (s.mode = Mode.field) then Mode.unpowered else s.mode }
  let s := s.modNfc (fun x => { x with locked := false, mam := false, reply := none, checked := s.nfcOn })
  let s := (s.setAll [(R.NFCTAG.STAT_FIELD, 0), (R.NFCTAG.STAT_SESSION, 0), (R.NFCTAG.STAT_SEC, 0), (R.NFCTAG.STAT_ISOST, 3)]).lockShow
  s.tagRaise 1

/-- TAG_FIELD_ON (R571): the field reaches 0.15 A/m; the reader's own field detunes the tag (R565). -/
def execTagFieldOn (s : State) : Host.Outcome State Fault Refusal :=
  .next (bif s.bit R.NFCTAG.STAT_SESSION || !Nat.beq (s.get R.NFCRD.STAT_ST) 0 then s else s.tagField)

/-- TAG_FIELD_OFF (R571). -/
def execTagFieldOff (s : State) : Host.Outcome State Fault Refusal := .next (bif s.bit R.NFCTAG.STAT_SESSION then s.tagFieldOff else s)

/-! ### Requests (R569) -/

/-- The tag gives no answer. -/
def State.silent (s : State) : State := s.modNfc (fun x => { x with reply := none })

/-- The tag answers in slot 0. -/
def State.tagReply (s : State) (bs : List Byte) : State := s.modNfc (fun x => { x with reply := some (0, bs) })

/-- An error answer. -/
def State.tagError (s : State) (code : Byte) : State := s.tagReply [0x01, code]

/-- The tag hears requests: a session runs, the reader is off, and one subcarrier is asked for. -/
def State.tagHears (s : State) (flags : Byte) : Bool :=
  s.bit R.NFCTAG.STAT_SESSION && Nat.beq (s.get R.NFCRD.STAT_ST) 0 && !flags.getLsbD 0

def tagSelects (r : TagReq) : Bool := r.flags.getLsbD 4
def tagAddressed (r : TagReq) : Bool := r.flags.getLsbD 5

/-- The request is for this tag: addressed to its UID, to the selected tag, or to every tag that is not quiet. -/
def State.tagMeant (s : State) (r : TagReq) : Bool :=
  bif tagAddressed r && tagSelects r then false
  else bif tagAddressed r then Nat.beq r.uid.toNat tagUid
  else bif tagSelects r then Nat.beq (s.get R.NFCTAG.STAT_ISOST) 2
  else !Nat.beq (s.get R.NFCTAG.STAT_ISOST) 1

/-- A request that the tag hears and that is for it is served; any other has no effect and no answer. -/
def State.tagServe (s : State) (r : TagReq) (f : State → State) : Host.Outcome State Fault Refusal :=
  .next (bif s.tagHears r.flags && s.tagMeant r then f s.tagCheck else s.silent)

/-- AFI of a request matches the tag's: 0 is every family, a low nibble of 0 the whole family. -/
def afiMatch (asked own : Nat) : Bool :=
  Nat.beq asked 0 || Nat.beq asked own || (Nat.beq (asked % 16) 0 && Nat.beq (asked / 16) (own / 16))

/-- TAG_INVENTORY (R569, R570): 16 slots, or one where the flag says so. -/
def execTagInventory (flags afi : Byte) (maskLen : BitVec 7) (mask : BitVec 64) (s : State) : Host.Outcome State Fault Refusal :=
  let n := maskLen.toNat
  let one := flags.getLsbD 5
  let meant := s.tagHears flags && !Nat.beq (s.get R.NFCTAG.STAT_ISOST) 1 && Nat.ble n (bif one then 64 else 60) &&
    (!flags.getLsbD 4 || afiMatch afi.toNat (s.get R.NFCTAG.CFG_AFI)) && Nat.beq (mask.toNat % 2 ^ n) (tagUid % 2 ^ n)
  .next (bif meant then
      let slot := bif one then 0 else tagUid / 2 ^ n % 16
      s.tagCheck.modNfc (fun x => { x with reply := some (slot, [0x00, BitVec.ofNat 8 (s.get R.NFCTAG.CFG_DSFID)] ++ leBytes 8 tagUid) })
    else s.silent)

/-- TAG_STAY_QUIET (R569, R572): addressed only, no answer. -/
def execTagStayQuiet (req : TagReq) (s : State) : Host.Outcome State Fault Refusal :=
  s.tagServe req (fun s => bif tagAddressed req then (s.setAll [(R.NFCTAG.STAT_ISOST, 1), (R.NFCTAG.STAT_SEC, 0)]).silent else s.silent)

/-- The blocks `first` to `first + n - 1`, none beyond `limit`, or error 0x10. -/
def State.tagRead (s : State) (first n limit : Nat) : State :=
  let l := (List.range n).map (first + ·)
  bif l.all (fun b => Nat.blt b limit && s.tagReads b) then s.tagReply (0x00 :: l.flatMap s.tagBlock) else s.tagError 0x10

/-- TAG_READ_SINGLE. -/
def execTagReadSingle (req : TagReq) (block : Byte) (s : State) : Host.Outcome State Fault Refusal :=
  s.tagServe req (fun s => s.tagRead block.toNat 1 256)

/-- TAG_READ_MULTIPLE: `count` is the number of blocks less 1. -/
def execTagReadMultiple (req : TagReq) (first count : Byte) (s : State) : Host.Outcome State Fault Refusal :=
  s.tagServe req (fun s => s.tagRead first.toNat (count.toNat + 1) 256)

/-- TAG_EXT_READ_SINGLE. -/
def execTagExtReadSingle (req : TagReq) (block : Half) (s : State) : Host.Outcome State Fault Refusal :=
  s.tagServe req (fun s => s.tagRead block.toNat 1 1920)

/-- TAG_EXT_READ_MULTIPLE: at most 64 blocks; the error code of a longer request is not stated. -/
def execTagExtReadMultiple (req : TagReq) (first count : Half) (s : State) : Host.Outcome State Fault Refusal :=
  s.tagServe req (fun s =>
    bif Nat.blt 63 count.toNat then (s.spend 1).tagError ((s.freeBytes 1).getD 0 0) else s.tagRead first.toNat (count.toNat + 1) 1920)

/-- An over-air write is counted and reported (R571). -/
def State.wrote (s : State) (block : Nat) : State :=
  let alone := !s.bit R.PWR.SUPPLY_MAINS && !s.bit R.PWR.SUPPLY_VBAK_OK
  ((((s.bump R.NFCTAG.WRCNT_COUNT).set R.NFCTAG.LASTWR_BLOCK block).setBit R.NFCTAG.LASTWR_FIELDONLY alone)).tagRaise 2

/-- A single-block write over the air. -/
def State.tagWrite (s : State) (block : Nat) (data : Nat) (cut : Option (Fin 6)) : State :=
  bif Nat.ble 1920 block then s.tagError 0x10
  else bif !s.tagWrites block then s.tagError 0x12
  else
    let c := s.tagCut cut
    let r := s.tearWrite (.block block) (leBytes 4 data) c
    let done := match c with | none => true | some k => Nat.beq k.val 5
    let t := r.1.onlyIf done (·.wrote block)
    bif r.2 then t.tagReply [0x00] else t.silent

/-- TAG_WRITE_SINGLE (R569, R575). -/
def execTagWriteSingle (req : TagReq) (block : Byte) (data : Word) (cut : Option (Fin 6)) (s : State) : Host.Outcome State Fault Refusal :=
  s.tagServe req (fun s => s.tagWrite block.toNat data.toNat cut)

/-- TAG_EXT_WRITE_SINGLE. -/
def execTagExtWriteSingle (req : TagReq) (block : Half) (data : Word) (cut : Option (Fin 6)) (s : State) : Host.Outcome State Fault Refusal :=
  s.tagServe req (fun s => s.tagWrite block.toNat data.toNat cut)

/-- TAG_SELECT: the named tag becomes SELECTED; a selected tag of another UID returns to READY. -/
def execTagSelect (req : TagReq) (s : State) : Host.Outcome State Fault Refusal :=
  .next (bif !s.tagHears req.flags then s.silent
    else bif Nat.beq req.uid.toNat tagUid then (s.tagCheck.set R.NFCTAG.STAT_ISOST 2).tagReply [0x00]
    else (bif Nat.beq (s.get R.NFCTAG.STAT_ISOST) 2 then s.set R.NFCTAG.STAT_ISOST 0 else s).silent)

/-- TAG_RESET_TO_READY. -/
def execTagResetToReady (req : TagReq) (s : State) : Host.Outcome State Fault Refusal :=
  s.tagServe req (fun s => (s.set R.NFCTAG.STAT_ISOST 0).tagReply [0x00])

/-- The answer of the two system information commands: DSFID, AFI and memory size are reported. -/
def State.sysInfo (s : State) (size : List Byte) : State :=
  s.tagReply ([0x00, 0x07] ++ leBytes 8 tagUid ++
    [BitVec.ofNat 8 (s.get R.NFCTAG.CFG_DSFID), BitVec.ofNat 8 (s.get R.NFCTAG.CFG_AFI)] ++ size)

/-- TAG_GET_SYSTEM_INFO: 256 blocks of 4 bytes. -/
def execTagGetSystemInfo (req : TagReq) (s : State) : Host.Outcome State Fault Refusal :=
  s.tagServe req (fun s => s.sysInfo [0xFF, 0x03])

/-- TAG_EXT_GET_SYSTEM_INFO: 1,920 blocks of 4 bytes. -/
def execTagExtGetSystemInfo (req : TagReq) (s : State) : Host.Outcome State Fault Refusal :=
  s.tagServe req (fun s => s.sysInfo [0x7F, 0x07, 0x03])

/-- TAG_UNSUPPORTED_COMMAND: error 0x01 in addressed and selected mode, else no answer. -/
def execTagUnsupportedCommand (req : TagReq) (s : State) : Host.Outcome State Fault Refusal :=
  s.tagServe req (fun s => bif tagAddressed req || tagSelects req then s.tagError 0x01 else s.silent)

/-- TAG_REQUEST_CRC_FAILURE (R569). -/
def execTagRequestCrcFailure (s : State) : Host.Outcome State Fault Refusal :=
  .next (bif s.bit R.NFCTAG.STAT_SESSION then (s.tagCount R.NFCTAG.CNT_CRCERR).silent else s)

/-! ### Security (R572-R574) -/

/-- No comparison is made: the lockout runs, or FAILCNT has reached 8. -/
def State.tagLocked (s : State) : Bool := s.nfc.locked || Nat.beq (s.get R.NFCTAG.STAT_FAILCNT) 8

/-- A failed comparison: FAILCNT before the reply, error 0x0F, the lockout. -/
def State.authFail (s : State) (cut : Option (Fin 6)) : State :=
  let r := s.sysWrite R.NFCTAG.STAT_FAILCNT (min 8 (s.get R.NFCTAG.STAT_FAILCNT + 1)) (s.tagCut cut)
  let t := (r.1.modNfc (fun x => { x with locked := true, mam := false })).lockShow
  let t := (t.tagCount R.NFCTAG.CNT_AUTHFAIL).tagRaise 4
  bif r.2 then t.tagError 0x0F else t.silent

/-- A comparison that holds: SECURED. -/
def State.authPass (s : State) (cut : Option (Fin 6)) : State :=
  let r := s.sysWrite R.NFCTAG.STAT_FAILCNT 0 (s.tagCut cut)
  let t := ((r.1.modNfc (fun x => { x with mam := false })).set R.NFCTAG.STAT_SEC 1).lockShow
  let t := t.tagRaise 3
  bif r.2 then t.tagReply [0x00] else t.silent

/-- TAG_PRESENT_PWD (R572, R573). -/
def execTagPresentPwd (req : TagReq) (pwd : BitVec 64) (cut : Option (Fin 6)) (s : State) : Host.Outcome State Fault Refusal :=
  s.tagServe req (fun s =>
    bif !s.bit R.NFCTAG.CFG_PWD_EN then s.tagError 0x01
    else bif s.secured then s.tagReply [0x00]
    else bif s.tagLocked then s.tagError 0x0F
    else bif leBytes 8 pwd.toNat == s.nfc.pwd then s.authPass cut else s.authFail cut)

/-- TAG_WRITE_PWD (R569): SECURED only; the error code in OPEN is not stated, nor the block number that LASTWR then shows. -/
def execTagWritePwd (req : TagReq) (pwd : BitVec 64) (cut : Option (Fin 6)) (s : State) : Host.Outcome State Fault Refusal :=
  s.tagServe req (fun s =>
    bif !s.secured then (s.spend 1).tagError ((s.freeBytes 1).getD 0 0)
    else
      let c := s.tagCut cut
      let f := s.freeBytes 2
      let r := (s.spend 2).tearWrite .password (leBytes 8 pwd.toNat) c
      let done := match c with | none => true | some k => Nat.beq k.val 5
      let t := r.1.onlyIf done (·.wrote (ofLe f))
      bif r.2 then t.tagReply [0x00] else t.silent)

/-- TAG_AUTHENTICATE_MAM1 (R574): the answer holds the tag's challenge, free. -/
def execTagAuthenticateMam1 (req : TagReq) (keyId : Byte) (s : State) : Host.Outcome State Fault Refusal :=
  s.tagServe req (fun s =>
    bif !s.bit R.NFCTAG.CFG_AES_EN then s.tagError 0x01
    else bif !Nat.beq keyId.toNat 0 || s.tagLocked then s.tagError 0x0F
    else ((s.spend 16).modNfc (fun x => { x with mam := true })).tagReply (0x00 :: s.freeBytes 16))

/-- TAG_AUTHENTICATE_MAM2 (R572, R574): `ok` says that the reader's proof verifies. -/
def execTagAuthenticateMam2 (req : TagReq) (ok : Bool) (cut : Option (Fin 6)) (s : State) : Host.Outcome State Fault Refusal :=
  s.tagServe req (fun s =>
    bif !s.bit R.NFCTAG.CFG_AES_EN then s.tagError 0x01
    else bif s.secured then s.tagReply [0x00]
    else bif s.tagLocked then s.tagError 0x0F
    else bif s.nfc.mam && ok then s.authPass cut else s.authFail cut)

/-- TAG_LOCKOUT_EXPIRY (R572). -/
def execTagLockoutExpiry (s : State) : Host.Outcome State Fault Refusal :=
  .next (bif s.bit R.NFCTAG.STAT_SESSION then (s.modNfc (fun x => { x with locked := false })).lockShow else s)

/-! ### The owner's side (R566, R567, R572) -/

/-- A command of the NFCTAG page: the marker is read before the page is served (R576). -/
def State.tagCommand (s : State) (who off : Nat) (f : State → State) : Host.Outcome State Fault Refusal :=
  s.command who 0x69 off (fun s => f s.tagCheck)

/-- TCMD READ. -/
def State.ownerRead (s : State) : State :=
  s.set R.NFCTAG.TDATA_DATA (ofLe (s.tagBlock (s.get R.NFCTAG.TADDR_BLOCK)))

/-- TCMD WRITE. -/
def State.ownerWrite (s : State) (cut : Option (Fin 6)) : State :=
  let n := s.get R.NFCTAG.TADDR_BLOCK
  bif Nat.ble n 1 then s.refuse 0x69 RC.CONFLICT 0x38
  else (s.tearWrite (.block n) (leBytes 4 (s.get R.NFCTAG.TDATA_DATA)) cut).1.modNfc (fun x => { x with checked := cut.isNone })

/-- TAG_OWNER_READ. -/
def execTagOwnerRead (who : Requester) (s : State) : Host.Outcome State Fault Refusal := s.tagCommand who 0x38 State.ownerRead

/-- TAG_OWNER_WRITE (R575): `cut` tells that the module loses power in that step. -/
def execTagOwnerWrite (who : Requester) (cut : Option (Fin 6)) (s : State) : Host.Outcome State Fault Refusal :=
  s.tagCommand who 0x38 (fun s => s.ownerWrite cut)

/-- A SECCMD: BADKEY, IN_SESSION, or its effect; the staged words are cleared after it. -/
def State.secCmd (s : State) (key : Nat) (f : State → State) : State :=
  let t := bif !Nat.beq key 0xA55A then s.refuse 0x69 0x41 0x3C
    else bif s.secured then s.refuse 0x69 0x40 0x3C else f s
  t.modNfc (fun x => { x with staged := [] })

/-- Staged words as bytes: PWD words 0 and 1, KEY words 2 to 5. -/
def Nfc.stagedBytes (x : Nfc) (k n : Nat) : List Byte := (List.range n).flatMap (fun i => leBytes 4 (x.staged.look (k + i)))

/-- LOAD_PWD, LOAD_KEY, CLR_FAIL. -/
def State.loadPwd (s : State) : State := s.modNfc (fun x => { x with pwd := x.stagedBytes 0 2 })
def State.loadTagKey (s : State) : State := s.modNfc (fun x => { x with key := x.stagedBytes 2 4 })
def State.clrFail (s : State) : State := (s.set R.NFCTAG.STAT_FAILCNT 0).lockShow

/-- TAG_LOAD_PWD. -/
def execTagLoadPwd (who : Requester) (key : Half) (s : State) : Host.Outcome State Fault Refusal :=
  s.tagCommand who 0x3C (fun s => s.secCmd key.toNat State.loadPwd)

/-- TAG_LOAD_KEY. -/
def execTagLoadKey (who : Requester) (key : Half) (s : State) : Host.Outcome State Fault Refusal :=
  s.tagCommand who 0x3C (fun s => s.secCmd key.toNat State.loadTagKey)

/-- TAG_CLR_FAIL. -/
def execTagClrFail (who : Requester) (key : Half) (s : State) : Host.Outcome State Fault Refusal :=
  s.tagCommand who 0x3C (fun s => s.secCmd key.toNat State.clrFail)

/-- A read of WRCNT clears it (R571). -/
def State.wrcntRead (s : State) : State × Nat := (s.tagCheck.set R.NFCTAG.WRCNT_COUNT 0, s.get R.NFCTAG.WRCNT_COUNT)

/-- TAG_WRCNT_READ. -/
def execTagWrcntRead (who : Requester) (s : State) : Host.Outcome State Fault Refusal := s.readCmd who 0x69 0x5C State.wrcntRead

/-! ### The reader (R578-R581) -/

/-- The reader's state. -/
def State.rdSt (s : State) : Nat := s.get R.NFCRD.STAT_ST

/-- The exchange's or inventory's end without data: RESULT, no response. -/
def State.rdResult (s : State) (r : Nat) : State :=
  s.setAll [(R.NFCRD.XRES_RESULT, r), (R.NFCRD.XRES_RXLEN, 0), (R.NFCRD.XRES_ERRFLAG, 0)]

/-- The field goes off; an exchange in progress ends with `r`. -/
def State.rdOff (s : State) (r : Nat) : State :=
  let t := s.onlyIf (Nat.beq s.rdSt 3) (·.rdResult r)
  (t.modNfc (fun x => { x with op := 0 })).set R.NFCRD.STAT_ST 0

/-- A reader command: BROWNOUT (R117), then TAG_ACTIVE (R565). -/
def State.rdCommand (s : State) (f : State → State) : State :=
  bif s.bit R.PWR.SUPPLY_BROWNOUT then s.refuse 0x68 0x40 0x24
  else bif s.bit R.NFCTAG.STAT_SESSION then s.refuse 0x68 0x42 0x24
  else f s

/-- The external-field check before the field goes on (R565): GUARD with the command held, or EXT_FIELD. -/
def State.rdField (s : State) (op : Nat) (ext : Bool) : State :=
  bif ext then
    let t := (s.set R.NFCRD.STAT_EXTFIELD 1).bump R.NFCRD.CNT_EXTF
    ((t.onlyIf (!Nat.beq op 0) (·.rdResult 4)).refuse 0x68 0x41 0x24).raise 0x68 2
  else (s.setAll [(R.NFCRD.STAT_EXTFIELD, 0), (R.NFCRD.STAT_ST, 1)]).modNfc (fun x => { x with op := op })

/-- XFER or INVENTORY. -/
def State.rdStart (s : State) (op : Nat) (ext : Bool) : State :=
  bif Nat.beq s.rdSt 3 then s.refuse 0x68 RC.BUSY 0x24
  else bif Nat.beq s.rdSt 0 then s.rdField op ext
  else bif Nat.beq s.rdSt 1 then s.modNfc (fun x => { x with op := op })
  else (s.modNfc (fun x => { x with op := op })).set R.NFCRD.STAT_ST 3

/-- The result address of INVENTORY lies in bank 3 with room for MAX entries. -/
def invRoom (addr max : Nat) : Bool := inBank3 (16 * addr) (16 * max)

/-- CMD.OP of the reader. -/
def State.rdCmd (s : State) (op : Nat) (ext : Bool) : State :=
  s.rdCommand (fun s =>
    match op with
    | 1 => bif Nat.beq s.rdSt 0 then s.rdField 0 ext else s
    | 2 => s.rdOff 6
    | 3 => bif Nat.beq (s.get R.NFCRD.TXLEN_LEN) 0 || Nat.blt 64 (s.get R.NFCRD.TXLEN_LEN) then s.refuse 0x68 RC.BAD_VALUE 0x24
           else s.rdStart 3 ext
    | 4 => bif !invRoom (s.get R.NFCRD.INV_ADDR) (s.get R.NFCRD.INVCFG_MAX) then s.refuse 0x68 RC.BAD_VALUE 0x34 else s.rdStart 4 ext
    | 5 => bif Nat.beq s.rdSt 3 then ((s.rdResult 6).modNfc (fun x => { x with op := 0 })).set R.NFCRD.STAT_ST 2 else s
    | _ => s.refuse 0x68 RC.BAD_VALUE 0x24)

/-- READER_FIELD_ON (R578): `ext` says that the loop measures an external field. -/
def execReaderFieldOn (who : Requester) (ext : Bool) (s : State) : Host.Outcome State Fault Refusal :=
  s.command who 0x68 0x24 (fun s => s.rdCmd 1 ext)

/-- READER_FIELD_OFF. -/
def execReaderFieldOff (who : Requester) (s : State) : Host.Outcome State Fault Refusal := s.command who 0x68 0x24 (fun s => s.rdCmd 2 false)

/-- READER_XFER (R580). -/
def execReaderXfer (who : Requester) (ext : Bool) (s : State) : Host.Outcome State Fault Refusal :=
  s.command who 0x68 0x24 (fun s => s.rdCmd 3 ext)

/-- READER_INVENTORY (R581). -/
def execReaderInventory (who : Requester) (ext : Bool) (s : State) : Host.Outcome State Fault Refusal :=
  s.command who 0x68 0x24 (fun s => s.rdCmd 4 ext)

/-- READER_ABORT. -/
def execReaderAbort (who : Requester) (s : State) : Host.Outcome State Fault Refusal := s.command who 0x68 0x24 (fun s => s.rdCmd 5 false)

/-- READER_GUARD_ELAPSED (R579). -/
def execReaderGuardElapsed (s : State) : Host.Outcome State Fault Refusal :=
  .next (bif Nat.beq s.rdSt 1 then s.set R.NFCRD.STAT_ST (bif Nat.beq s.nfc.op 0 then 2 else 3) else s)

/-- An exchange ends: READY. -/
def State.rdDone (s : State) (irq : Nat) : State := ((s.modNfc (fun x => { x with op := 0 })).set R.NFCRD.STAT_ST 2).raise 0x68 irq

/-- The search of R581 as it stands. -/
structure InvSearch where
  stack  : List (Nat × Nat)
  rounds : List (List ReaderSlot)
  used   : Nat
  found  : List (Nat × Byte)
  dup    : Bool
  trunc  : Bool
  deriving DecidableEq, Repr

/-- One inventory round: its slots. -/
def InvSearch.round (x : InvSearch) : List ReaderSlot × InvSearch :=
  (x.rounds.headD [], { x with rounds := x.rounds.tail, used := x.used + 1 })

/-- A collision under a mask: searched on, or two tags with one UID. -/
def InvSearch.collide (x : InvSearch) (l m : Nat) : InvSearch :=
  bif Nat.blt l 64 then { x with stack := (l, m) :: x.stack } else { x with dup := true }

/-- settle (R581): record the tag where its full mask draws it alone, then search its mask once more. -/
def InvSearch.settle (max l m : Nat) : Nat → Nat → Byte → InvSearch → InvSearch
  | 0, _, _, x => x
  | fuel + 1, uid, _, x =>
    let a := x.round
    let x := match a.1.headD .empty with
      | .tag u d => bif Nat.beq u.toNat uid then { a.2 with found := a.2.found ++ [(uid, d)] } else a.2
      | _ => a.2
    let b := x.round
    match b.1.headD .empty with
    | .collision => b.2.collide l m
    | .tag u d => bif Nat.blt b.2.found.length max then InvSearch.settle max l m fuel u.toNat d b.2 else { b.2 with trunc := true }
    | .empty => b.2

/-- The sixteen slots of a round. -/
def InvSearch.slots (max len mask : Nat) : Nat → List ReaderSlot → InvSearch → InvSearch
  | _, [], x => x
  | k, sl :: rest, x =>
    let l := len + 4
    let m := mask + k * 2 ^ len
    let x := match sl with
      | .empty => x
      | .collision => x.collide l m
      | .tag u d => bif Nat.blt x.found.length max then x.settle max l m (x.rounds.length + 1) u.toNat d else { x with trunc := true }
    InvSearch.slots max len mask (k + 1) rest x

/-- The whole search; it stops at MAX tags, with TRUNC where a branch remains. -/
def InvSearch.run (max : Nat) : Nat → InvSearch → InvSearch
  | 0, x => x
  | fuel + 1, x =>
    match x.stack with
    | [] => x
    | (len, mask) :: rest =>
      bif Nat.ble max x.found.length then { x with trunc := true }
      else
        let a := { x with stack := rest }.round
        InvSearch.run max fuel (InvSearch.slots max len mask 0 (a.1.take 16) a.2)

/-- INVENTORY ends: the entries at INV.ADDR and INVRES. -/
def State.inventoryEnd (s : State) (rounds : List (List ReaderSlot)) : State :=
  let x := InvSearch.run (s.get R.NFCRD.INVCFG_MAX) (17 * (rounds.length + 1)) ⟨[(0, 0)], rounds, 0, [], false, false⟩
  let s := s.sramStore (16 * s.get R.NFCRD.INV_ADDR) (x.found.flatMap (fun e => leBytes 8 e.1 ++ [e.2] ++ zeros 7))
  let s := (s.setAll [(R.NFCRD.INVRES_FOUND, x.found.length), (R.NFCRD.INVRES_ROUNDS, x.used)]).setBit R.NFCRD.INVRES_DUP x.dup
  (s.setBit R.NFCRD.INVRES_TRUNC x.trunc).rdDone 1

/-- The response's octets from BUF0 on. -/
def State.rdStore (s : State) (bs : List Byte) : State :=
  s.each (List.range ((bs.length + 3) / 4)) (fun k t =>
    let old := leBytes 4 (t.get (R.NFCRD.BUF_DATA k))
    let w := (slice bs (4 * k) (min 4 (bs.length - 4 * k)))
    t.set (R.NFCRD.BUF_DATA k) (ofLe (w ++ old.drop w.length)))

/-- READER_EXCHANGE_END (R580, R581). -/
def execReaderExchangeEnd (xfer : ReaderEnd) (s : State) : Host.Outcome State Fault Refusal :=
  bif !Nat.beq s.rdSt 3 then .next s
  else
    match xfer with
    | .rounds r => .next (bif Nat.beq s.nfc.op 4 then s.inventoryEnd r else s)
    | .response bs => .next (bif Nat.beq s.nfc.op 3 then
        let b := bs.take 64
        let t := (s.rdStore b).setAll [(R.NFCRD.XRES_RESULT, 0), (R.NFCRD.XRES_RXLEN, b.length)]
        (t.setBit R.NFCRD.XRES_ERRFLAG ((b.getD 0 0).getLsbD 0)).rdDone 0
      else s)
    | .crcError => .next (bif Nat.beq s.nfc.op 3 then ((s.rdResult 2).bump R.NFCRD.CNT_CRCERR).rdDone 0 else s)
    | .collision => .next (bif Nat.beq s.nfc.op 3 then ((s.rdResult 3).bump R.NFCRD.CNT_COLL).rdDone 0 else s)

/-- READER_RESPONSE_TIMEOUT (R580). -/
def execReaderResponseTimeout (s : State) : Host.Outcome State Fault Refusal :=
  .next (bif Nat.beq s.rdSt 3 && Nat.beq s.nfc.op 3 then ((s.rdResult 1).bump R.NFCRD.CNT_TIMEOUT).rdDone 0 else s)

/-- READER_IDLE_TIMEOUT (R578). -/
def execReaderIdleTimeout (s : State) : Host.Outcome State Fault Refusal :=
  .next (bif Nat.beq s.rdSt 1 || Nat.beq s.rdSt 2 then s.rdOff 6 else s)

/-! ### Wake on approach (R582, R583) -/

/-- An approach is declared; in HOLD it is latched in QUARTZ and wakes nothing. -/
def State.approach (s : State) : State :=
  let s := ((s.modNfc (fun x => { x with run := 0 })).set R.CSENSE.STAT_NEAR 1).bump R.CSENSE.CNT_APPROACH
  bif decide (s.mode = .hold) then (s.set (R.HDR.IRQ 0x6A 0) 1).fire 49
  else
    let s := ((s.raise 0x6A 0).fire 49).wakeCore 8
    bif decide (s.mode = .commission) || decide (s.mode = .service) then
      let t := (s.wakeFor 22 8).1
      { t with doms := { t.doms with auto := t.doms.auto.filter (fun k => !Nat.beq k 22) }, nfc := { t.nfc with held := true } }
    else s

/-- A release is declared. -/
def State.release (s : State) (recal : Bool) : State :=
  let s := ((s.modNfc (fun x => { x with run := 0 })).set R.CSENSE.STAT_NEAR 0).setBit R.CSENSE.STAT_RECAL recal
  bif decide (s.mode = .hold) then s.set (R.HDR.IRQ 0x6A 1) 1 else s.raise 0x6A 1

/-- A measurement asks for a change or not; N in a row declare it. -/
def State.senseRun (s : State) (asks : Bool) : State :=
  let n := bif asks then s.nfc.run + 1 else 0
  let s := s.modNfc (fun x => { x with run := n })
  bif Nat.ble (s.get R.CSENSE.CFG_N) n && asks then
    bif s.bit R.CSENSE.STAT_NEAR then s.release false else s.approach
  else s

/-- CSENSE_SAMPLE (R582): judged against BASE, which then follows by 1/256 while NEAR = 0. -/
def execCsenseSample (count : Half) (s : State) : Host.Outcome State Fault Refusal :=
  bif !Nat.beq (s.get R.CSENSE.CFG_METHOD) 1 || decide (s.mode = .field) || decide (s.mode = .unpowered) then .next s
  else
    let c := count.toNat
    let b := s.nfc.base / 256
    let near := s.bit R.CSENSE.STAT_NEAR
    let d := s.get R.CSENSE.THR_DELTA
    let asks := bif near then Nat.blt (2 * c) (2 * b + d) else Nat.ble (b + d) c
    let t := (s.set R.CSENSE.COUNT_RAW c).senseRun asks
    let base := bif near then s.nfc.base else s.nfc.base + c - b
    .next ((t.modNfc (fun x => { x with base := base })).set R.CSENSE.COUNT_BASE (base / 256))

/-- CSENSE_PING (R582): the amplitude change in 0.1 dB; skipped while the reader is not OFF, in an external field and in brown-out.
A ping wakes NFC for its burst. -/
def execCsensePing (change : Half) (ext : Bool) (s : State) : Host.Outcome State Fault Refusal :=
  bif !Nat.beq (s.get R.CSENSE.CFG_METHOD) 2 || !s.doms.auto.any (Nat.beq 22) || ext || s.bit R.NFCTAG.STAT_FIELD ||
      !Nat.beq s.rdSt 0 || s.bit R.PWR.SUPPLY_BROWNOUT then .next s
  else
    let p := s.get R.CSENSE.THR_PINGDB
    let s := (s.wakeFor 22 8).1
    .next (s.senseRun (bif s.bit R.CSENSE.STAT_NEAR then Nat.blt (2 * change.toNat) p else Nat.ble p change.toNat))

/-- CSENSE_HOLD_EXPIRY (R583): NEAR has lasted HOLD_S; BASE is the current count. -/
def execCsenseHoldExpiry (s : State) : Host.Outcome State Fault Refusal :=
  .next (bif s.bit R.CSENSE.STAT_NEAR then
    let raw := s.get R.CSENSE.COUNT_RAW
    let t := (s.modNfc (fun x => { x with base := 256 * raw })).setAll [(R.CSENSE.COUNT_BASE, raw)]
    (t.bump R.CSENSE.CNT_RECAL).release true
  else s)

/-- NFC_HOLD_EXPIRY (R583): 10 s after the release E0 no longer holds NFC ON; it returns to AUTO where the mode's row has it so and
the host does not hold it (R104, R105). -/
def execNfcHoldExpiry (s : State) : Host.Outcome State Fault Refusal :=
  bif s.nfc.held && !s.bit R.CSENSE.STAT_NEAR then
    let t := s.modNfc (fun x => { x with held := false })
    .next (bif (decide (t.mode = .commission) || decide (t.mode = .service)) && !Nat.beq (t.get R.PWR.HOSTREQ_NFC) 1 then
      { t with doms := { t.doms with auto := 22 :: t.doms.auto.filter (fun k => !Nat.beq k 22) } } else t)
  else .next s

end Sys2Proof.Machine
end

