-- ==== Sys2Proof/Machine/Pair.lean ====
section
/-!
DEFINITION. The redundant COORDINATOR pair over the Basalt link (R354-R375): acknowledgement of sequenced frames, arbitration, bulk copy and
mirror, frame-counter reserves, takeover and handover.
-/

namespace Sys2Proof.Machine

open Sys2Proof

abbrev pairPg : Nat := 0x4C

/-- The pair state (R360). -/
def State.pst (s : State) : Nat := s.get R.PAIR.STAT_PST
/-- This module claims PRIMARY (R361). -/
def State.isPrimary (s : State) : Bool := Nat.beq (s.get R.PAIR.STAT_ROLE) 1
/-- A STANDBY that syncs or is in sync. -/
def State.syncing (s : State) : Bool := Nat.beq s.pst 5 || Nat.beq s.pst 6

/-! ### Objects of the mirror (R362, R366) -/

/-- The key slots that the pair mirrors: valid ones, the pair key's apart (R356). -/
def State.pairSlots (s : State) : List Nat := (List.range 16).filter (fun i => (s.key i).valid && !Nat.beq (s.key i).idx 0xFE)

/-- The last value of a slot's newest block. -/
def lastValue (k : KeySlot) : Nat := max k.blockEnd k.nextEnd - 1

/-- A configuration word as a mirrored object. -/
def State.configObj (s : State) (p off : Nat) : Mirror :=
  .config (BitVec.ofNat 8 p) (BitVec.ofNat 8 off) (BitVec.ofNat 32 (s.storedWord p off))

/-- NETADDR and PAN as a mirrored object. -/
def State.netObj (s : State) : Mirror :=
  .netaddr (BitVec.ofNat 64 (s.get (R.PAIR.NETADDR_ADDR 0) + 2 ^ 32 * s.get (R.PAIR.NETADDR_ADDR 1))) (BitVec.ofNat 16 s.ownPan)

/-- The bulk copy in its order (R366). -/
def State.copyObjects (s : State) : List Mirror :=
  let config := ([0x38, 0x3B, 0x40, 0x41, 0x42, 0x44, 0x45, 0x48] : List Nat).flatMap (fun p =>
    (mirroredOffs p).map (fun off => s.configObj p off))
  let keys := s.pairSlots.map (fun i => Mirror.key (Fin.ofNat 16 i) (BitVec.ofNat 8 (s.key i).idx) (some (keyWrap s.pairKey (s.key i).key)))
  let ends := s.pairSlots.map (fun i => Mirror.blockEnd (Fin.ofNat 16 i) (BitVec.ofNat 32 (lastValue (s.key i))))
  let salt := match s.assoc.salt with | some x => [Mirror.salt x.1 x.2] | none => []
  config ++ [s.netObj] ++ keys ++ [s.configObj 0x42 0x40] ++ ends ++ s.sched.nbrs.map Mirror.nbr ++ s.sched.cells.map Mirror.cell ++
    salt ++ (s.assoc.table.filter (fun (e : Assoc) => !Nat.beq e.state 0)).map Mirror.assoc ++ s.msg.peers.map Mirror.peer ++
    s.msg.queue.map Mirror.message

/-! ### Acknowledgement (R358, R362, R364) -/

/-- The PRIMARY acts on a gated record. -/
def State.actGated (s : State) (g : Gated) : State :=
  match g.obj with
  | .message m => s.sendDone m
  | .completion num st => (match s.msg? num with | some m => s.postDone m st.toNat | none => s)
  | .idBlock short last => s.idBlockAct short.toNat last.toNat
  | .offer p se id =>
    match s.msg.contexts.find? (fun c => Nat.beq c.peer p.toNat && Nat.beq c.sess se.toNat && Nat.beq c.msgid id.toNat) with
    | some c => s.offerAct c
    | none => s
  | .take _ _ _ => (match g.offer with | some o => s.takeAct o | none => s)
  | _ => s

/-- BULK_PCT: objects sent of all (R366). -/
def State.showBulk (s : State) : State :=
  s.set R.PAIR.STAT_BULK_PCT (bif Nat.beq s.pair.copyAll 0 then 0 else 100 * (s.pair.copyAll - s.pair.copy.length) / s.pair.copyAll)

/-- COPY frames go out while the window has room. -/
def State.sendCopies (s : State) : Nat → State
  | 0 => s
  | n + 1 => match s.pair.copy with
    | [] => s
    | o :: rest => (({ s with pair := { s.pair with copy := rest } }).sendSeq (some o)).sendCopies n

/-- The window of 32 frames is filled. -/
def State.fillWindow (s : State) : State :=
  bif s.pair.copy.isEmpty then s else (s.sendCopies (32 - s.pair.unacked.length)).showBulk

/-- Everything mirrored is dropped (R360); link keys stay with the retained settings, at the end of their reserve. -/
def State.discardMirror (s : State) : State :=
  let keys := s.keys.map (fun (k : KeySlot) =>
    bif k.valid && !Nat.beq k.idx 0xFE then { k with counter := max k.blockEnd k.nextEnd, blockEnd := max k.blockEnd k.nextEnd } else k)
  { s with
    keys := keys, mem := s.mem.clearRange 0x20000000 0x20080000,
    sched := { s.sched with nbrs := [], cells := [], queue := [], resyncs := [] },
    assoc := { s.assoc with table := [], index := [], salt := none, live := false, dirty := [] },
    msg := { s.msg with queue := [], peers := [], contexts := [], offers := [] },
    pair := { s.pair with offered := [], held := [], recent := [], resvWait := [], copied := false, hbIn := false } }

/-- SYNCING begins (R360): the STANDBY waits for the bulk copy. -/
def State.enterSyncing (s : State) (net : Nat) : State :=
  let s := s.discardMirror
  let s := { s with pair := { s.pair with rxSeq := 0, handover := false, unacked := [], gated := [], copy := [], copyAll := 0,
                                          blockSeqs := [], reserve := [] } }
  let s := (s.each media3 (fun m t => t.quiet m)).setAll
    [(R.PAIR.NETADDR_ADDR 0, net % 2 ^ 32), (R.PAIR.NETADDR_ADDR 1, net / 2 ^ 32), (R.PAIR.STAT_PST, 5), (R.PAIR.STAT_PARTNER, 4),
     (R.PAIR.STAT_BULK_PCT, 0)]
  s.setRole 2

/-- NETADDR as a number. -/
def State.netaddr (s : State) : Nat := s.get (R.PAIR.NETADDR_ADDR 0) + 2 ^ 32 * s.get (R.PAIR.NETADDR_ADDR 1)

/-- Sequenced frames up to `ack` are acknowledged: gated records among them are acted on, the window is filled, and the
acknowledgement of a HANDOVER frame makes this module SYNCING (R374). -/
def State.acked (s : State) (ack : Nat) : State :=
  match s.pair.unacked.findIdx? (fun f => Nat.beq f.1 ack) with
  | none => s
  | some i =>
    let hit := s.pair.unacked.take (i + 1)
    let ours (g : Gated) : Bool := hit.any (fun f => Nat.beq f.1 g.seq)
    let now := s.pair.gated.filter ours
    let s := { s with pair := { s.pair with unacked := s.pair.unacked.drop (i + 1),
                                            gated := s.pair.gated.filter (fun (g : Gated) => !ours g) } }
    let s := (s.each now (fun g t => t.actGated g)).fillWindow
    bif hit.any (fun f => f.2.isNone) then s.enterSyncing s.netaddr else s

/-- A valid Basalt frame: the link is up, and its ACK counts. -/
def State.heard (s : State) (ack : Half) : State := (s.set R.PAIR.STAT_LINK_UP 1).acked ack.toNat

/-- A sequenced frame is taken in order only, and an ACK frame answers it at once (go-back-N, R358). -/
def State.seqIn (s : State) (seq ack : Half) (f : State → State) : State :=
  let s := s.heard ack
  bif Nat.beq seq.toNat (s.pair.rxSeq % 0xFFFF + 1) then
    f { s with pair := { s.pair with rxSeq := seq.toNat, line := basaltFrame 0x03 0 seq.toNat [] } } else s

/-- A frame has an effect while the link runs (PST other than OFF). -/
def State.linked (s : State) (f : State → State) : Host.Outcome State Fault Refusal :=
  .next (bif Nat.beq s.pst 0 then s else f s)

/-! ### Roles (R355, R360, R361, R366) -/

/-- This module becomes PRIMARY (R355). -/
def State.becomePrimary (s : State) : State :=
  let own := Config.extAddr.toNat
  let s := bif Nat.beq s.netaddr 0 then
      s.setAll [(R.PAIR.NETADDR_ADDR 0, own % 2 ^ 32), (R.PAIR.NETADDR_ADDR 1, own / 2 ^ 32)] else s
  let s := { s with pair := { s.pair with primaryAsn := s.sched.asn, dual := false, handover := false } }
  (s.setRole 1).commit

/-- The bulk copy to the partner begins (R366): SERVING, and the TAKEOVER flag clears (R361). -/
def State.startBulk (s : State) : State :=
  let s := s.each s.pair.gated (fun g t => t.actGated g)
  let l := s.copyObjects
  let s := { s with pair := { s.pair with txSeq := 0, unacked := [], gated := [], blockSeqs := [], reserve := [], copied := false,
                                          takeover := false, nbrsSent := s.sched.nbrs, copy := l, copyAll := l.length } }
  (s.setAll [(R.PAIR.STAT_PST, 4), (R.PAIR.STAT_PARTNER, 2)]).fillWindow

/-- Mirroring stops (R360, R364): what waited for the partner is acted on. -/
def State.stopMirroring (s : State) : State :=
  let l := s.pair.gated
  let s := { s with pair := { s.pair with unacked := [], gated := [], blockSeqs := [], copy := [], copyAll := 0, handover := false } }
  (s.set R.PAIR.STAT_PARTNER 0).each l (fun g t => t.actGated g)

/-- LINKING: a PRIMARY keeps its claim (R361). -/
def State.toLinking (s : State) : State :=
  let s := s.setAll [(R.PAIR.STAT_PST, 1), (R.PAIR.STAT_PARTNER, 0)]
  bif s.isPrimary then s else s.setRole 0

/-- CHECK: the on-air check begins, and this module sends nothing (R371). A STANDBY keeps its mirror. -/
def State.toCheck (s : State) : State :=
  let s := (s.each media3 (fun m t => t.quiet m)).setAll [(R.PAIR.STAT_PST, 2), (R.PAIR.STAT_PARTNER, 0)]
  bif s.isPrimary then s.setRole 0 else s

/-- The Basalt link starts with the page (R360). -/
def State.pairStart (s : State) : State :=
  bif !Nat.beq s.pst 0 then s else bif s.supply.pairPresLow then s.toLinking else s.toCheck

/-- The Basalt link stops (R360): with the page, or in OUTAGE and HOLD, where a PRIMARY keeps its role for the last gasp (R375). -/
def State.pairStop (s : State) (keep : Bool) : State :=
  bif Nat.beq s.pst 0 then s
  else
    let s := bif s.isPrimary then s.stopMirroring else bif s.syncing then s.discardMirror else s
    let s := s.setAll [(R.PAIR.STAT_PST, 0), (R.PAIR.STAT_PARTNER, 0), (R.PAIR.STAT_LINK_UP, 0), (R.PAIR.STAT_BULK_PCT, 0)]
    bif keep && s.isPrimary then s else s.setRole 0

/-! ### HELLO (R359, R361) -/

/-- The pair-key check value. -/
def State.keyCheck (s : State) : BitVec 64 :=
  match s.slotOf 0xFE with
  | some i => BitVec.ofNat 64 (ofLe ((aesEncrypt (s.key i).key false (zeros 16)).take 8))
  | none => 0

/-- The configuration CRC. -/
def State.configCrc (s : State) : Word :=
  let p := s.ret.profile
  let versions := (s.flash.active.parts.filter (fun (q : Part) => Nat.beq q.type 2)).map (fun (q : Part) => q.version)
  Config.pairConfig ([p.region, p.bandplan, p.hz, p.plcband, p.pan0, s.get R.SCHED.HOP_SEED] ++
    (List.range 5).map (fun k => s.get (R.SCHED.HOPMASK_MASK k)) ++ [s.get (R.SCHED.SF_LEN 0), s.get R.LINKSEC.CFG_SECLVL] ++ versions)

/-- The HELLO that this module sends. -/
def State.ownHello (s : State) : Hello :=
  { primary := s.isPrimary, prefer := s.bit R.PAIR.CFG_PREFER, ext := Config.extAddr, netaddr := BitVec.ofNat 64 s.netaddr,
    asn := BitVec.ofNat 40 s.pair.primaryAsn, takeover := s.pair.takeover, config := s.configCrc, check := s.keyCheck }

/-- Why a HELLO is not accepted: 1 KEY, 2 CONFIG, 0 accepted. -/
def State.helloCause (s : State) (h : Hello) : Nat :=
  bif h.check == 0#64 || !(h.check == s.keyCheck) then 1 else bif h.config == s.configCrc then 0 else 2

/-- NONE against NONE: this module wins. -/
def State.wins (s : State) (h : Hello) : Bool :=
  let p := s.bit R.PAIR.CFG_PREFER
  bif p == h.prefer then Nat.blt Config.extAddr.toNat h.ext.toNat else p

/-- PRIMARY against PRIMARY: this module is to detach. -/
def State.yields (s : State) (h : Hello) : Bool :=
  bif s.pair.takeover == h.takeover then Nat.blt h.asn.toNat s.pair.primaryAsn else s.pair.takeover

/-- A PRIMARY with a partner: SERVING where the partner is fitted and nothing else used NETADDR (R372), else SOLO. -/
def State.serveMirror (s : State) : State :=
  bif s.supply.pairPresLow && !s.pair.dual then s.startBulk else s.set R.PAIR.STAT_PST 3

/-- The roles of an accepted HELLO. -/
def State.arbitrate (s : State) (h : Hello) : State :=
  let net := bif h.netaddr == 0#64 then h.ext.toNat else h.netaddr.toNat
  bif s.isPrimary then
    bif h.primary then bif s.yields h then s.detach else s.onlyIf (Nat.beq s.pst 1) (·.set R.PAIR.STAT_PST 3)
    else s.serveMirror
  else bif !Nat.beq s.pst 1 then s
  else bif h.primary then s.enterSyncing net
  else bif s.wins h then s.becomePrimary.serveMirror else s.enterSyncing net

/-- What an accepted HELLO does in each pair state. -/
def State.helloIn (s : State) (h : Hello) : State :=
  let s := (s.setAll [(R.PAIR.STAT_MMCAUSE, 0), (R.PAIR.STAT_PARTNER, bif s.syncing then s.get R.PAIR.STAT_PARTNER else bif h.primary then 4 else 1)])
  match s.pst with
  | 1 => s.arbitrate h
  | 2 => s.toLinking
  | 3 => s.arbitrate h
  | 4 => s.arbitrate h
  | 7 => s.toLinking
  | _ => s

/-- BASALT_HELLO. -/
def execBasaltHello (h : Hello) (ack : Half) (s : State) : Host.Outcome State Fault Refusal :=
  s.linked (fun s =>
    let s := s.heard ack
    let s := { s with pair := { s.pair with hello := some h } }
    let c := s.helloCause h
    bif Nat.beq c 0 then s.helloIn h
    else ((s.set R.PAIR.STAT_MMCAUSE c).bump R.PAIR.CNT1_MISMATCH).raise pairPg 3)

/-- HELLO_SEND: while linking, alone or mismatched. -/
def execHelloSend (s : State) : Host.Outcome State Fault Refusal :=
  s.linked (fun s =>
    bif [1, 2, 3, 7].any (Nat.beq s.pst) || !Nat.beq (s.get R.PAIR.STAT_MMCAUSE) 0 then
      { s with pair := { s.pair with helloOut := some s.ownHello, line := basaltFrame 0x01 0 s.pair.rxSeq (helloOctets s.ownHello) } }
    else s)

/-! ### The mirror of a STANDBY (R362, R365-R367) -/

/-- A record refers to an object that the copy has not brought yet. -/
def State.lacks (s : State) : Mirror → Bool
  | .completion num _ => (s.msg? num).isNone
  | .idBlock short _ => (s.peer? short.toNat).isNone
  | .seqNo nbr _ => (s.nbr? nbr.toNat).isNone
  | .blockEnd i _ => !(s.key i).valid
  | _ => false

/-- A completion is mirrored: the queue record goes, and is kept for 50 ms. -/
def State.mirrorDone (s : State) (num st : Nat) : State :=
  match s.msg? num with
  | some m => { s.dropMsg num with pair := { s.pair with recent := (m, st, 0) :: s.pair.recent } }
  | none => s

/-- A table entry is mirrored, with its place in the search unit. -/
def State.mirrorAssoc (s : State) (e : Assoc) : State :=
  let same := match s.assoc? e.idx with | some o => Nat.beq o.ext e.ext | none => false
  let s := s.putAssoc e
  let ix := s.assoc.index.filter (fun x => !Nat.beq x.2 e.idx)
  let ix := bif Nat.beq e.state 0 then ix
    else bif same && Nat.blt ix.length s.assoc.index.length then s.assoc.index
    else (s.indexInsert ix e.ext e.idx).getD ix
  { s with assoc := { s.assoc with index := ix } }

/-- A block end is mirrored: the 4,096 values after it are this slot's reserve, which is committed (R367). -/
def State.mirrorBlock (s : State) (seq i last : Nat) : State :=
  let e := last + 1
  let top := min (e + 4096) 0xFFFFFFFF
  let s := s.setKey i { s.key i with counter := e, blockEnd := e, nextEnd := top }
  ({ s with pair := { s.pair with reserve := s.pair.reserve.put i top, resvWait := (seq, i, top) :: s.pair.resvWait } }).commit

/-- One object is applied. A wrapped key whose integrity check fails is not: the spec names no response (log entry 97). -/
def State.applyMirror (s : State) (seq : Nat) : Mirror → State
  | .config p off w => (s.putWord p.toNat off.toNat w.toNat).commit
  | .key i idx (some w) =>
    (match keyUnwrap s.pairKey w with
      | none => s
      | some k => (s.setKey i { idx := idx.toNat, valid := true, key := k, counter := 0, blockEnd := 0, nextEnd := 0 }).commit)
  | .key i _ none => (s.setKey i KeySlot.empty).commit
  | .blockEnd i last => s.mirrorBlock seq i last.toNat
  | .seqNo n q => s.modNbr n.toNat (fun n => { n with txseq := (q.toNat + 1) % 256 })
  | .nbr n => s.setNbr n
  | .cell c =>
    let l := s.sched.cells.filter (fun (d : Cell) => !Nat.beq d.idx c.idx) ++ [c]
    { s with sched := { s.sched with cells := l } }
  | .noCell i => { s with sched := { s.sched with cells := s.sched.cells.filter (fun (d : Cell) => !Nat.beq d.idx i.toNat) } }
  | .assoc e => s.mirrorAssoc e
  | .salt lo hi => { s with assoc := { s.assoc with salt := some (lo, hi) } }.rebuildIndex
  | .message m =>
    let q := s.msg.queue.filter (fun (x : Msg) => !Nat.beq x.num m.num) ++ [m]
    { s with msg := { s.msg with queue := q, nextNum := max s.msg.nextNum (m.num + 1) } }
  | .completion num st => s.mirrorDone num st.toNat
  | .idBlock short last =>
    (match s.peer? short.toNat with | some p => (s.keepBlock p last.toNat).putPeer { p with blockEnd := last.toNat } | none => s)
  | .peer p => s.putPeer p
  | .offer p se mid => { s with pair := { s.pair with offered := (p.toNat, se.toNat, mid.toNat) :: s.pair.offered } }
  | .take p se mid =>
    let l := s.pair.offered.filter (fun (o : Nat × Nat × Nat) => !decide (o = (p.toNat, se.toNat, mid.toNat)))
    { s with pair := { s.pair with offered := l } }
  | .netaddr a pan => (s.setAll [(R.PAIR.NETADDR_ADDR 0, a.toNat % 2 ^ 32), (R.PAIR.NETADDR_ADDR 1, a.toNat / 2 ^ 32),
      (R.MESH.ID0_PAN, pan.toNat)]).commit

/-- An object of a RECORD is applied, or held while its copy is to come. -/
def State.takeMirror (s : State) (seq : Nat) (o : Mirror) : State :=
  bif !s.pair.copied && s.lacks o then { s with pair := { s.pair with held := s.pair.held ++ [o] } } else s.applyMirror seq o

/-- Held records follow the objects that have come. -/
def State.retryHeld (s : State) (seq : Nat) : State :=
  ({ s with pair := { s.pair with held := [] } }).each s.pair.held (fun o t => t.takeMirror seq o)

/-- BASALT_COPY. -/
def execBasaltCopy (seq ack : Half) (objs : List Mirror) (s : State) : Host.Outcome State Fault Refusal :=
  s.linked (fun s => s.seqIn seq ack (fun s =>
    bif Nat.beq s.pst 5 then (s.each objs (fun o t => t.applyMirror seq.toNat o)).retryHeld seq.toNat else s))

/-- BASALT_RECORD. -/
def execBasaltRecord (seq ack : Half) (objs : List Mirror) (s : State) : Host.Outcome State Fault Refusal :=
  s.linked (fun s => s.seqIn seq ack (fun s => bif s.syncing then s.each objs (fun o t => t.takeMirror seq.toNat o) else s))

/-- BASALT_ACK. -/
def execBasaltAck (ack : Half) (s : State) : Host.Outcome State Fault Refusal := s.linked (·.heard ack)

/-- A reserve received is in flash. -/
def State.reserved (s : State) (w : Nat × Nat × Nat) : Bool := s.committed w.2.1 w.2.2

/-- The reserves of every slot are committed. -/
def State.allReserved (s : State) : Bool := s.pair.resvWait.all s.reserved

/-- SYNCING ends where the copy is complete and the reserves are committed (R360, R367). -/
def State.syncDone (s : State) : State :=
  bif Nat.beq s.pst 5 && s.pair.copied && Nat.blt s.pair.held.length 64 && s.allReserved then
    (s.set R.PAIR.STAT_PST 6).raise pairPg 1
  else s

/-- The PRIMARY finds its partner IN_SYNC: copy complete, backlog below 64 frames, every block end reported. -/
def State.partnerDone (s : State) : State :=
  bif Nat.beq s.pst 4 && Nat.beq (s.get R.PAIR.STAT_PARTNER) 2 && s.pair.copied && Nat.blt s.pair.unacked.length 64 &&
      s.pair.blockSeqs.isEmpty then
    (s.set R.PAIR.STAT_PARTNER 3).raise pairPg 1
  else s

/-- BULK_COPY_COMPLETE: on the PRIMARY once nothing is left to copy, on the STANDBY while SYNCING. -/
def execBulkCopyComplete (s : State) : Host.Outcome State Fault Refusal :=
  .next (bif Nat.beq s.pst 4 && Nat.beq (s.get R.PAIR.STAT_PARTNER) 2 && s.pair.copy.isEmpty && !s.pair.copied then
      let s := { s with pair := { s.pair with copied := true } }
      ((s.set R.PAIR.STAT_BULK_PCT 100).bump R.PAIR.CNT1_BULK).partnerDone
    else bif Nat.beq s.pst 5 && !s.pair.copied then
      let s := ({ s with pair := { s.pair with copied := true } }).retryHeld 0
      ((s.set R.PAIR.STAT_BULK_PCT 100).bump R.PAIR.CNT1_BULK).syncDone
    else s)

/-! ### HEARTBEAT (R358, R365, R367) -/

/-- RESV: the newest block-end record whose reserve is committed; 0 on a PRIMARY. -/
def State.ownResv (s : State) : Nat :=
  bif s.isPrimary then 0 else match s.pair.resvWait.find? s.reserved with | some w => w.1 | none => 0

/-- HEARTBEAT_SEND. -/
def execHeartbeatSend (slotUs : Half) (s : State) : Host.Outcome State Fault Refusal :=
  s.linked (fun s =>
    let h : Heartbeat := { asn := BitVec.ofNat 40 s.sched.asn, slotUs := slotUs, timing := BitVec.ofNat 2 (s.get R.SCHED.STAT_TIMING),
                           role := BitVec.ofNat 2 (s.get R.PAIR.STAT_ROLE), sees := BitVec.ofNat 3 (s.get R.PAIR.STAT_PARTNER),
                           lastSeq := BitVec.ofNat 16 s.pair.txSeq, resv := BitVec.ofNat 16 s.ownResv }
    { s with pair := { s.pair with beatOut := some h, line := basaltFrame 0x02 0 s.pair.rxSeq (beatOctets h) } })

/-- The partner reports reserves committed up to a record. -/
def State.reportResv (s : State) (resv : Nat) : State :=
  match s.pair.blockSeqs.findIdx? (fun b => Nat.beq b.1 resv) with
  | none => s
  | some i =>
    let l := s.pair.blockSeqs.take (i + 1)
    let r := l.foldl (fun (r : Regs) b => r.put b.2.1 b.2.2) s.pair.reserve
    ({ s with pair := { s.pair with reserve := r, blockSeqs := s.pair.blockSeqs.drop (i + 1) } }).commit

/-- The mirror is lost: the PRIMARY does not hold this module IN_SYNC any more (R360). -/
def State.resync (s : State) : State := s.discardMirror.toLinking

/-- What a STANDBY takes from a HEARTBEAT: the timebase (R365), and whether it is still held IN_SYNC. -/
def State.follow (s : State) (h : Heartbeat) : State :=
  let was := s.pair.hbIn
  let sees := h.sees.toNat
  let older := (s.pair.recent.map (fun r => (r.1, r.2.1, r.2.2 + 1))).filter (fun r => Nat.ble r.2.2 50)
  let s := { s with sched := { s.sched with asn := h.asn.toNat, slotUs := h.slotUs.toNat },
                    pair := { s.pair with hbSeq := h.lastSeq.toNat, hbIn := Nat.beq sees 3, recent := older } }
  let s := s.onlyIf (Nat.beq h.role.toNat 1) (·.set R.PAIR.STAT_PARTNER 4)
  bif Nat.beq s.pst 6 && (Nat.beq sees 0 || (was && !Nat.beq sees 3)) then s.resync else s

/-- BASALT_HEARTBEAT. -/
def execBasaltHeartbeat (h : Heartbeat) (ack : Half) (s : State) : Host.Outcome State Fault Refusal :=
  s.linked (fun s =>
    let s := s.heard ack
    bif s.syncing then s.follow h
    else bif Nat.beq s.pst 4 then (s.reportResv h.resv.toNat).partnerDone
    else s)

/-! ### Takeover (R368-R374) -/

/-- Every sequenced frame up to the SEQ that the last HEARTBEAT named has come. -/
def State.allIn (s : State) : Bool :=
  Nat.beq s.pair.hbSeq 0 || Nat.blt ((s.pair.rxSeq + 0xFFFF - s.pair.hbSeq) % 0xFFFF) 0x8000

/-- A STANDBY that may take over (R360). -/
def State.qualified (s : State) : Bool := Nat.beq s.pst 6 && s.pair.hbIn && s.allIn

/-- Counters and sequence numbers of the mirror (R368). -/
def State.takeCounters (s : State) : State :=
  let keys := s.keys.map (fun (k : KeySlot) =>
    bif k.valid && !Nat.beq k.idx 0xFE then { k with counter := k.blockEnd, blockEnd := k.nextEnd } else k)
  { s with keys := keys, sched := { s.sched with nbrs := s.sched.nbrs.map (fun (n : Nbr) => { n with txseq := (n.txseq + 15) % 256 }) } }

/-- Replay from the mirror: a new attempt for every unresolved message, the latest completions again, the offers in doubt (R369,
R373). -/
def State.replay (s : State) : State :=
  let peers := s.msg.peers.map (fun (p : Peer) => { p with nextId := p.blockEnd + 1 })
  let s := { s with msg := { s.msg with peers := peers }, pair := { s.pair with doubt := s.pair.offered, offered := [] } }
  let s := s.each (s.msg.queue.filter (fun (m : Msg) => unresolved m)) (fun m t => t.startAttempt m.num false)
  let l := s.pair.recent.reverse
  let s := { s with pair := { s.pair with recent := [] } }
  s.each l (fun r t => ({ t with msg := { t.msg with queue := t.msg.queue ++ [r.1] } }).postDone r.1 r.2.1)

/-- A takeover (R369): `cause` 1 SILENCE, 2 CHECK, 3 HANDOVER; `time` is the failover time of R370. -/
def State.takeover (s : State) (cause time : Nat) : State :=
  let mirror := s.pair.copied
  let s := (({ s with pair := { s.pair with held := [] } }).each s.pair.held (fun o t => t.applyMirror 0 o)).onlyIf mirror State.takeCounters
  let s := s.becomePrimary
  let s := (({ s with plc := { s.plc with slots := bif mirror then [] else s.plc.slots } }).rebuildIndex).set R.SCHED.STAT_TIMING 1
  let s := s.onlyIf mirror State.replay
  let s := { s with pair := { s.pair with copied := false, resvWait := [], unacked := [], gated := [], copy := [], blockSeqs := [] } }
  let s := s.setAll [(R.PAIR.LASTTO_ASN, s.sched.asn + 1), (R.PAIR.LASTINFO_CAUSE, cause), (R.PAIR.LASTINFO_TIME, time),
    (R.PAIR.STAT_PST, 3), (R.PAIR.STAT_PARTNER, 0)]
  let s := ((s.raise pairPg 2).bump R.PAIR.CNT0_TAKEOVER).commit
  s.record 8 0x31 (leBytes 4 cause ++ leBytes 4 (s.get R.PAIR.LASTTO_ASN) ++ leBytes 2 time ++ zeros 6)

/-- PARTNER_SILENCE. -/
def execPartnerSilence (time : Half) (s : State) : Host.Outcome State Fault Refusal :=
  s.linked (fun s =>
    let q := s.qualified && s.supply.pairPresLow
    let s := s.set R.PAIR.STAT_LINK_UP 0
    match s.pst with
    | 4 => (s.stopMirroring.set R.PAIR.STAT_PST 3).raise pairPg 2
    | 5 => s.resync
    | 6 => bif q then s.takeover 1 time.toNat else s
    | _ => s.set R.PAIR.STAT_PARTNER 0)

/-- A STANDBY of which PAIR_PRES goes high: the partner may be alive behind a cut harness. -/
def State.presHigh (s : State) : State :=
  match s.pst with
  | 1 => s.toCheck
  | 4 => (s.stopMirroring.set R.PAIR.STAT_PST 3).raise pairPg 2
  | 5 => s.discardMirror.toCheck
  | 6 => bif s.qualified then s.toCheck else s
  | _ => s

/-- The PAIR domain follows PAIR_PRES in the modes whose row of R105 says so: ON while it is low, else OFF. -/
def State.pairDomain (s : State) (low : Bool) : State :=
  s.onlyIf (decide (s.mode = .commission) || decide (s.mode = .service) || decide (s.mode = .maintenance)) (fun s =>
    bif low then (s.onlyIf (Nat.beq (s.dom 26) 0) (fun s => (s.startClocks.wakeStart 26 9).wakeReady 26)) else s.domDown 26)

/-- PAIR_PRES_CHANGE (R360, R371, R107). -/
def execPairPresChange (low : Bool) (s : State) : Host.Outcome State Fault Refusal :=
  bif s.supply.pairPresLow == low then .next s
  else
    let s := { s with supply := { s.supply with pairPresLow := low } }
    let s := ((s.fire 50).wakeCore 9).pairDomain low
    .next (bif low then s else s.presHigh)

/-- ONAIR_CHECK_END: nothing was heard from NETADDR (R371). A second PRIMARY ended the check before (R372). -/
def execOnairCheckEnd (time : Half) (s : State) : Host.Outcome State Fault Refusal :=
  bif Nat.beq s.pst 2 then
    let s := s.takeover 2 time.toNat
    .next { s with pair := { s.pair with takeover := true } }
  else .next s

/-- BASALT_HANDOVER: an IN_SYNC partner takes over and serves at once (R374). -/
def execBasaltHandover (seq ack time : Half) (s : State) : Host.Outcome State Fault Refusal :=
  s.linked (fun s => s.seqIn seq ack (fun s =>
    bif Nat.beq s.pst 6 then ((s.takeover 3 time.toNat).bump R.PAIR.CNT0_HANDOVER).startBulk else s))

/-- The PRIMARY gives up waiting for its partner (R364, R367): the partner is marked ABSENT. -/
def State.partnerAbsent (s : State) : State := s.stopMirroring

/-- GATED_ACK_TIMEOUT. -/
def execGatedAckTimeout (s : State) : Host.Outcome State Fault Refusal :=
  .next (bif s.pair.gated.isEmpty then s else s.partnerAbsent)

/-- RESERVE_REPORT_TIMEOUT: the block opens. -/
def execReserveReportTimeout (s : State) : Host.Outcome State Fault Refusal :=
  bif s.pair.blockSeqs.isEmpty then .next s
  else
    let l := s.pair.blockSeqs
    .next (s.partnerAbsent.each l (fun b t => t.openBlock b.2.1))

/-- BASALT_RETX_TIMEOUT. -/
def execBasaltRetxTimeout (s : State) : Host.Outcome State Fault Refusal :=
  .next (bif s.pair.unacked.isEmpty then s else s.bump R.PAIR.CNT0_RETX)

/-- BASALT_FRAME_DISCARD (R357): octets from TYPE to CRC with a code violation, a bad CRC or a LEN above 1,024 are discarded. -/
def execBasaltFrameDiscard (violation : Bool) (octets : List Byte) (s : State) : Host.Outcome State Fault Refusal :=
  s.linked (fun s => bif violation || !basaltGood octets then s.bump R.PAIR.CNT0_CRCERR else s)

/-! ### CMD (R374) -/

/-- The handover of an IN_SYNC pair: cells are armed no more, and the HANDOVER frame follows the records. -/
def State.handOver (s : State) : State :=
  let s := ({ s with pair := { s.pair with handover := true } }).bump R.PAIR.CNT0_HANDOVER
  let s := s.sendSeq none
  { s with pair := { s.pair with line := basaltFrame 0x20 s.pair.txSeq s.pair.rxSeq [] } }

/-- CMD HANDOVER. -/
def State.pairHandover (s : State) (key : Nat) : State :=
  bif !Nat.beq key 0xA55A then s.refuse pairPg 0x41 0x28
  else bif Nat.beq s.pst 4 && s.isPrimary && Nat.beq (s.get R.PAIR.STAT_PARTNER) 3 && !s.pair.handover then s.handOver
  else s.refuse pairPg 0x40 0x28

/-- CMD RESYNC. -/
def State.pairResync (s : State) (key : Nat) : State :=
  bif !Nat.beq key 0xA55A then s.refuse pairPg 0x41 0x28
  else bif s.syncing then s.resync else s

/-- PAIR_HANDOVER. -/
def execPairHandover (who : Requester) (key : Half) (s : State) : Host.Outcome State Fault Refusal :=
  s.command who pairPg 0x28 (·.pairHandover key.toNat)

/-- PAIR_RESYNC. -/
def execPairResync (who : Requester) (key : Half) (s : State) : Host.Outcome State Fault Refusal :=
  s.command who pairPg 0x28 (·.pairResync key.toNat)

end Sys2Proof.Machine
end

