-- ==== Sys2Proof/Machine/Rtc.lean ====
section
/-!
DEFINITION. The real-time clock's commands (ch. 17, R442-R459), with the activation schedule that E0 judges at each second
(R519).
-/

namespace Sys2Proof.Machine

open Sys2Proof

/-! ### The calendar view (R445, R446) -/

/-- The last second of the calendar, 2271-12-31 23:59:59. -/
abbrev lastSecond : Nat := 8583494399

def leapYear (y : Nat) : Bool := (Nat.beq (y % 4) 0 && !Nat.beq (y % 100) 0) || Nat.beq (y % 400) 0

def yearDays (y : Nat) : Nat := bif leapYear y then 366 else 365

/-- Days of month `m`, 1-12. -/
def monthDays (y m : Nat) : Nat :=
  bif Nat.beq m 2 then (bif leapYear y then 29 else 28)
  else bif Nat.beq m 4 || Nat.beq m 6 || Nat.beq m 9 || Nat.beq m 11 then 30 else 31

/-- Year and day of that year (from 0) of day `d` counted from the start of year `y`. -/
def splitYear : Nat → Nat → Nat → Nat × Nat
  | 0, y, d => (y, d)
  | fuel + 1, y, d => bif Nat.blt d (yearDays y) then (y, d) else splitYear fuel (y + 1) (d - yearDays y)

/-- Month and day of that month (from 0) of day `d` of the rest of year `y` from month `m`. -/
def splitMonth (y : Nat) : Nat → Nat → Nat → Nat × Nat
  | 0, m, d => (m, d)
  | fuel + 1, m, d => bif Nat.blt d (monthDays y m) then (m, d) else splitMonth y fuel (m + 1) (d - monthDays y m)

/-- A calendar date and time, the fields of CAL0 and CAL1. -/
structure Cal where
  sec   : Nat
  min   : Nat
  hour  : Nat
  wday  : Nat
  day   : Nat
  month : Nat
  year  : Nat
  deriving DecidableEq, Repr

/-- The view of a second; past the range every field reads 0 (R446). -/
def calOf (sec : Nat) : Cal :=
  bif Nat.blt lastSecond sec then ⟨0, 0, 0, 0, 0, 0, 0⟩
  else
    let d := sec / 86400
    let t := sec % 86400
    let y := splitYear 272 2000 d
    let m := splitMonth y.1 12 1 y.2
    ⟨t % 60, t / 60 % 60, t / 3600, (d + 5) % 7 + 1, m.2 + 1, m.1, y.1⟩

/-- CAL0 and CAL1 as words. -/
def Cal.word0 (c : Cal) : Nat := c.sec + 2 ^ 8 * c.min + 2 ^ 16 * c.hour + 2 ^ 24 * c.wday
def Cal.word1 (c : Cal) : Nat := c.day + 2 ^ 8 * c.month + 2 ^ 16 * c.year

/-- Days from the epoch to a year, and within a year to a month. -/
def daysToYear (y : Nat) : Nat := ((List.range (y - 2000)).map (fun i => yearDays (2000 + i))).sum
def daysToMonth (y m : Nat) : Nat := ((List.range (m - 1)).map (fun i => monthDays y (i + 1))).sum

/-- The calendar holds the date and time (R449); WDAY is ignored. -/
def Cal.valid (c : Cal) : Bool :=
  Nat.blt c.sec 60 && Nat.blt c.min 60 && Nat.blt c.hour 24 && Nat.ble 2000 c.year && Nat.ble c.year 2271 &&
    Nat.ble 1 c.month && Nat.ble c.month 12 && Nat.ble 1 c.day && Nat.ble c.day (monthDays c.year c.month)

/-- The second that a valid date and time names. -/
def Cal.second (c : Cal) : Nat :=
  (daysToYear c.year + daysToMonth c.year c.month + (c.day - 1)) * 86400 + c.hour * 3600 + c.min * 60 + c.sec

/-! ### The count -/

def Rtc.sec (r : Rtc) : Nat := r.count / 32768
def Rtc.sub (r : Rtc) : Nat := r.count % 32768
def Rtc.cal (r : Rtc) : Cal := calOf r.sec

/-- Whole ticks that a shift of T has moved after `e` of its edges (R452): the carries of `acc` after e additions of |T|. -/
def shiftMoved (t : Int) (e : Nat) : Nat := min e 32768 * t.natAbs / 32768

/-- Ticks of T still to apply. -/
def Rtc.remainder (r : Rtc) : Int :=
  let left := r.shift.natAbs - shiftMoved r.shift r.shiftEdges
  bif decide (r.shift < 0) then -(left : Int) else (left : Int)

/-- The count after `n` more LF edges (R442, R452): one tick an edge, and the ticks the shift moves on top. -/
def Rtc.advance (r : Rtc) (n : Nat) : Rtc :=
  let e := r.shiftEdges
  let more := shiftMoved r.shift (e + n) - shiftMoved r.shift e
  let c := bif decide (r.shift < 0) then r.count + n - more else r.count + n + more
  { r with count := c % 2 ^ 48, shiftEdges := bif decide (r.shift = 0) then 0 else min (e + n) 32768 }

/-- LF edges until the count enters its next second: the least number of edges whose ticks reach it. -/
def Rtc.edgesToSecond (r : Rtc) : Nat :=
  let need := 32768 - r.sub
  let e := r.shiftEdges
  let n := r.shift.natAbs
  let m := shiftMoved r.shift e
  bif decide (r.shift < 0) then
    let k := need + e - m
    let x := 32768 * (k - 1) / (32768 - n) + 1
    (bif Nat.ble x 32768 then x else k + n) - e
  else
    let k := need + e + m
    let x := (32768 * k + (32768 + n) - 1) / (32768 + n)
    (bif Nat.ble x 32768 then x else k - n) - e

/-- The clock after `edges` LF edges inside the running second; none while LF is stopped (R444). -/
def Rtc.within (r : Rtc) (edges : Nat) : Rtc :=
  bif r.stopped then r else r.advance (min edges (r.edgesToSecond - 1))

/-- SHIFT.TICKS shows the ticks still to apply. -/
def State.showShift (s : State) : State :=
  s.set R.RTC.SHIFT_TICKS ((s.rtc.remainder + 65536).toNat)

/-! ### Requesters' latches (R447) -/

/-- A read of CNT_LO loads the requester's latch. -/
def Rtc.load (r : Rtc) (who : Nat) : Rtc :=
  { r with latches := ⟨who, some (r.count / 2 ^ 32), some r.cal.word0, some r.cal.word1⟩ ::
      r.latches.filter (fun l => !Nat.beq l.who who) }

/-- A read of CNT_HI (0), CAL0 (1) or CAL1 (2): the latched value once, else the live one. -/
def Rtc.take (r : Rtc) (who reg : Nat) : Rtc × Nat :=
  let live := bif Nat.beq reg 0 then r.count / 2 ^ 32 else bif Nat.beq reg 1 then r.cal.word0 else r.cal.word1
  match r.latches.find? (fun l => Nat.beq l.who who) with
  | none => (r, live)
  | some l =>
    let held := bif Nat.beq reg 0 then l.cntHi else bif Nat.beq reg 1 then l.cal0 else l.cal1
    let l' : RtcLatch := bif Nat.beq reg 0 then { l with cntHi := none } else bif Nat.beq reg 1 then { l with cal0 := none }
      else { l with cal1 := none }
    ({ r with latches := l' :: r.latches.filter (fun m => !Nat.beq m.who who) }, held.getD live)

/-- RTC_CNT_READ (R447): `who` 0-11 engine, 12 host, 13 DMA; `edges` LF edges have passed in the running second. -/
def execRtcCntRead (who : Fin 14) (edges : BitVec 15) (s : State) : Host.Outcome State Fault Refusal :=
  let g := bif Nat.beq who 13 then (s, true) else s.guard who 0x28 0x20 false
  .next (bif g.2 then
    let r := g.1.rtc.within edges.toNat
    { g.1.showShift with rtc := r.load who, lastRead := r.count % 2 ^ 32 }
  else { g.1 with lastRead := 0 })

/-! ### The activation schedule (R519) -/

/-- E0 takes the due activation where the mode lets it: in SERVICE, COMMISSION, and in MAINTENANCE entered by host request or
for production test. -/
def State.takesActivation (s : State) : Bool :=
  match s.mode with
  | .service => true
  | .commission => true
  | .maintenance => Nat.beq (s.get R.SYS.MODE_CAUSE) 4 || s.modes.prodTest
  | _ => false

/-- The due event is taken: the session becomes ACTIVATING (R514, R519). -/
def State.takeDue (s : State) : State :=
  bif s.update.due && s.takesActivation && Nat.beq (s.get R.UPDATE.STAT_ST) 4 then
    ({ s with update := { s.update with due := false } }.set R.UPDATE.STAT_ST 5).raise 0x54 2
  else s

/-- E0 judges the schedule at an entry into a second: due when SEC has reached AT, OSF = 0 and no activation copy is open
(R519, R521). -/
def State.judgeActivation (s : State) : State :=
  bif Nat.beq (s.get R.UPDATE.STAT_ST) 4 && !s.bit R.RTC.STAT_OSF && Nat.ble s.update.schedAt s.rtc.sec &&
      s.flash.openCopy.isNone then
    { s with update := { s.update with due := true } }.takeDue
  else s.takeDue

/-! ### Entry into a second (R446, R455) -/

/-- Alarm `n`'s EN as it is judged: as it stood before a write in the tick that ends at the same edge (R456). -/
def State.alarmOn (s : State) (n : Nat) (sameEdge : Bool) : Bool :=
  match s.rtc.almDue.find? (fun e => Nat.beq e.1 n) with
  | some e => bif sameEdge then e.2 else s.bit (R.RTC.ALM_CTL_EN n)
  | none => s.bit (R.RTC.ALM_CTL_EN n)

/-- Every field of alarm `n` that MASK compares equals the view (R455). -/
def State.alarmMatches (s : State) (n : Nat) (c : Cal) : Bool :=
  let m := s.get (R.RTC.ALM_CTL_MASK n)
  let same (b : Nat) (f : Fld) (v : Nat) : Bool := !m.testBit b || Nat.beq (s.get f) v
  same 0 (R.RTC.ALM_SEC n) c.sec && same 1 (R.RTC.ALM_MIN n) c.min && same 2 (R.RTC.ALM_HOUR n) c.hour &&
    same 3 (R.RTC.ALM_DAY n) c.day && same 4 (R.RTC.ALM_MONTH n) c.month && same 5 (R.RTC.ALM_WDAY n) c.wday &&
    same 6 (R.RTC.ALM_YEAR n) c.year

/-- Alarm `n` is judged at an entry into a second; a match wakes CORE and ENG0 but from HOLD (R455, R457). -/
def State.alarm (s : State) (n : Nat) (sameEdge : Bool) : State :=
  bif s.alarmOn n sameEdge && !Nat.blt lastSecond s.rtc.sec && s.alarmMatches n s.rtc.cal then
    (((s.raise 0x28 n).fire (32 + n)).onlyIf (s.bit (R.RTC.ALM_CTL_ONESHOT n)) (·.set (R.RTC.ALM_CTL_EN n) 0)).wakeCore 10
  else s

/-- The count has entered a second. -/
def State.enterSecond (s : State) (sameEdge : Bool) : State :=
  let past := Nat.blt lastSecond s.rtc.sec
  let s := s.raiseIf (past && !s.bit R.RTC.STAT_RANGE) 0x28 6
  let s := ((s.setBit R.RTC.STAT_RANGE past).raise 0x28 2).fire 34
  let s := (s.alarm 0 sameEdge).alarm 1 sameEdge
  { s with rtc := { s.rtc with almDue := [] } }.judgeActivation

/-- RTC_SECOND (R442, R455): the count reaches its next second; `sameEdge` tells that an alarm's EN was written in the tick
that ends at this edge. No second is entered while LF is stopped. -/
def execRtcSecond (sameEdge : Bool) (s : State) : Host.Outcome State Fault Refusal :=
  bif s.rtc.stopped then .next s
  else .next (({ s with rtc := s.rtc.advance s.rtc.edgesToSecond }.showShift).enterSecond sameEdge)

/-! ### Setting the time -/

/-- An accepted commit waits for the next LF edge (R450). -/
def State.stageTime (s : State) (who count : Nat) : State :=
  { s with rtc := { s.rtc with staged := some (count, who) } }.set R.RTC.STAT_PENDING 1

/-- A commit from SCNT (R448, R449); `sec` and `sub` as staged. -/
def State.commitCount (s : State) (who sec sub : Nat) : State :=
  bif s.bit R.RTC.STAT_PENDING then s.refuse 0x28 RC.BUSY 0x40
  else bif Nat.blt lastSecond sec then s.refuse 0x28 0x40 0x40
  else s.stageTime who (sec * 32768 + sub)

/-- SEC as staged in SCNT_LO and SCNT_HI. -/
def State.stagedSec (s : State) : Nat := s.get R.RTC.SCNT_SEC_L + 2 ^ 17 * s.get R.RTC.SCNT_SEC_H

/-- The staged calendar. -/
def State.stagedCal (s : State) : Cal :=
  ⟨s.get R.RTC.SCAL_SEC, s.get R.RTC.SCAL_MIN, s.get R.RTC.SCAL_HOUR, s.get R.RTC.SCAL_WDAY, s.get R.RTC.SCAL_DAY,
   s.get R.RTC.SCAL_MONTH, s.get R.RTC.SCAL_YEAR⟩

/-- A commit from SCAL, SUB taken from SCNT_LO (R448, R449). -/
def State.commitCalendar (s : State) (who : Nat) : State :=
  bif s.bit R.RTC.STAT_PENDING then s.refuse 0x28 RC.BUSY 0x40
  else bif !s.stagedCal.valid then s.refuse 0x28 0x40 0x40
  else s.stageTime who (s.stagedCal.second * 32768 + s.get R.RTC.SCNT_SUB)

/-- `edges` LF edges of the running second have passed. -/
def State.lfEdges (s : State) (edges : Nat) : State := { s with rtc := s.rtc.within edges }.showShift

/-- RTC_COMMIT_COUNT (R448, R449). -/
def execRtcCommitCount (who : Requester) (edges : BitVec 15) (s : State) : Host.Outcome State Fault Refusal :=
  s.writeCmd who 0x28 0x40 (fun s => (s.lfEdges edges.toNat).commitCount who s.stagedSec (s.get R.RTC.SCNT_SUB))

/-- RTC_COMMIT_CALENDAR (R448, R449). -/
def execRtcCommitCalendar (who : Requester) (edges : BitVec 15) (s : State) : Host.Outcome State Fault Refusal :=
  s.writeCmd who 0x28 0x40 (fun s => (s.lfEdges edges.toNat).commitCalendar who)

/-- RTC_COMMIT_LAND (R450, R451, R454): the count becomes the staged value plus 1; a shift in progress is cancelled; a
commit by HOST clears OSF unless a stop is detected at this edge (`stop`). -/
def execRtcCommitLand (sameEdge stop : Bool) (s : State) : Host.Outcome State Fault Refusal :=
  match s.rtc.staged with
  | none => .next s
  | some st =>
    bif s.rtc.stopped then .next s
    else
      let shifting := s.bit R.RTC.SHIFT_BUSY
      let s := { s with rtc := { s.rtc with count := (st.1 + 1) % 2 ^ 48, staged := none, shift := 0, shiftEdges := 0 } }
      let s := s.onlyIf shifting (·.setAll [(R.RTC.SHIFT_BUSY, 0), (R.RTC.SHIFT_TICKS, 0), (R.RTC.STAT_SHIFT_CXL, 1)])
      let s := s.onlyIf (Nat.beq st.2 HOST && !stop) (·.set R.RTC.STAT_OSF 0)
      let s := s.onlyIf stop (fun s => (s.set R.RTC.STAT_OSF 1).raise 0x28 3)
      .next (((s.set R.RTC.STAT_PENDING 0).raise 0x28 4).enterSecond sameEdge)

/-- RTC_SHIFT (R452, R453): T within ±16,384; T = 0 is accepted and changes nothing. -/
def execRtcShift (who : Requester) (ticks : BitVec 16) (edges : BitVec 15) (s : State) : Host.Outcome State Fault Refusal :=
  s.writeCmd who 0x28 0x44 (fun s =>
    let s := s.lfEdges edges.toNat
    let t := ticks.toInt
    bif s.bit R.RTC.SHIFT_BUSY || s.bit R.RTC.STAT_PENDING then s.refuse 0x28 RC.BUSY 0x44
    else bif s.bit R.RTC.STAT_OSF then s.refuse 0x28 0x41 0x44
    else bif Nat.blt 16384 t.natAbs then s.refuse 0x28 RC.BAD_VALUE 0x44
    else bif decide (t = 0) then s
    else ({ s with rtc := { s.rtc with shift := t, shiftEdges := 0 } }.set R.RTC.SHIFT_BUSY 1).showShift)

/-- RTC_SHIFT_DONE (R452): the 32,768th edge of the shift. A second that this edge enters is entered. -/
def execRtcShiftDone (s : State) : Host.Outcome State Fault Refusal :=
  bif s.bit R.RTC.SHIFT_BUSY && !s.rtc.stopped then
    let before := s.rtc.sec
    let r := s.rtc.advance (32768 - s.rtc.shiftEdges)
    let s := { s with rtc := { r with shift := 0, shiftEdges := 0 } }
    let s := ((s.set R.RTC.SHIFT_BUSY 0).set R.RTC.SHIFT_TICKS 0).raise 0x28 5
    .next (bif Nat.beq before s.rtc.sec then s else s.enterSecond false)
  else .next s

/-! ### Alarms -/

/-- The alarm's fields hold defined values, those under comparison in their compared ranges (R456). -/
def alarmFieldsOk (mask : Nat) (c : Cal) : Bool :=
  let cmp (b : Nat) (ok : Bool) : Bool := !mask.testBit b || ok
  Nat.blt c.sec 60 && Nat.blt c.min 60 && Nat.blt c.hour 24 && Nat.ble c.month 12 &&
    cmp 5 (Nat.ble 1 c.wday) && cmp 3 (Nat.ble 1 c.day) && cmp 4 (Nat.ble 1 c.month) &&
    cmp 6 (Nat.ble 2000 c.year && Nat.ble c.year 2271)

/-- Alarm `n`'s fields as held. -/
def State.alarmFields (s : State) (n : Nat) : Cal :=
  ⟨s.get (R.RTC.ALM_SEC n), s.get (R.RTC.ALM_MIN n), s.get (R.RTC.ALM_HOUR n), s.get (R.RTC.ALM_WDAY n),
   s.get (R.RTC.ALM_DAY n), s.get (R.RTC.ALM_MONTH n), s.get (R.RTC.ALM_YEAR n)⟩

/-- A write of ALMn_CTL (R456): MASK only while EN = 0, no EN with MASK = 0, whole checked values. -/
def State.alarmCtl (s : State) (n w : Nat) : State :=
  let off := 0x58 + 12 * n
  let mask := (R.RTC.ALM_CTL_MASK n).of w
  let en := (R.RTC.ALM_CTL_EN n).of w
  let old := s.bit (R.RTC.ALM_CTL_EN n)
  bif old && !Nat.beq mask (s.get (R.RTC.ALM_CTL_MASK n)) then s.refuse 0x28 RC.BUSY off
  else bif Nat.beq en 1 && Nat.beq mask 0 then s.refuse 0x28 RC.BAD_VALUE off
  else bif !alarmFieldsOk mask (s.alarmFields n) then s.refuse 0x28 RC.BAD_VALUE off
  else
    let s := s.setAll [(R.RTC.ALM_CTL_MASK n, mask), (R.RTC.ALM_CTL_EN n, en),
      (R.RTC.ALM_CTL_ONESHOT n, (R.RTC.ALM_CTL_ONESHOT n).of w)]
    bif s.rtc.almDue.any (fun e => Nat.beq e.1 n) then s
    else { s with rtc := { s.rtc with almDue := (n, old) :: s.rtc.almDue } }

/-- ALARM_CTL_WRITE (R456). -/
def execAlarmCtlWrite (who : Requester) (n : Fin 2) (value : Word) (s : State) : Host.Outcome State Fault Refusal :=
  s.writeCmd who 0x28 (0x58 + 12 * n) (fun s => s.alarmCtl n value.toNat)

/-! ### The trickle charger (R458, R459) -/

/-- VEND in counts of 25 mV. -/
def vendCounts (v : Nat) : Nat := bif Nat.beq v 0 then 108 else bif Nat.beq v 1 then 132 else 200

/-- The charger is suspended: mains missing, brown-out, or RSTN low (R458). -/
def State.chargerHeld (s : State) : Bool :=
  !s.bit R.PWR.SUPPLY_MAINS || s.bit R.PWR.SUPPLY_BROWNOUT || s.supply.rstnLow

/-- The charger takes up its setting: OFF, SUSPENDED, DONE or CHARGING (R458, R459). -/
def State.charger (s : State) : State :=
  let st := s.get R.RTC.STAT_CHG_ST
  bif Nat.beq (s.get R.RTC.CHG_ILIM) 0 then s.set R.RTC.STAT_CHG_ST 0
  else bif s.chargerHeld then s.set R.RTC.STAT_CHG_ST 3
  else bif Nat.ble (vendCounts (s.get R.RTC.CHG_VEND)) (s.get R.PWR.SUPPLY_VBAK) then
    (s.set R.RTC.STAT_CHG_ST 2).raiseIf (!Nat.beq st 2) 0x28 7
  else s.set R.RTC.STAT_CHG_ST 1

/-- CHG_WRITE (R459): applied at once, or stored while the charger is suspended. -/
def execChgWrite (who : Requester) (value : Word) (s : State) : Host.Outcome State Fault Refusal :=
  s.writeCmd who 0x28 0x4C (fun s =>
    let w := value.toNat
    bif Nat.beq (R.RTC.CHG_VEND.of w) 3 then s.refuse 0x28 RC.BAD_VALUE 0x4C
    else ((s.set R.RTC.CHG_ILIM (R.RTC.CHG_ILIM.of w)).set R.RTC.CHG_VEND (R.RTC.CHG_VEND.of w)).charger)

/-- CHARGER_DONE (R458): VBAK reaches VEND. -/
def execChargerDone (s : State) : Host.Outcome State Fault Refusal :=
  .next (bif Nat.beq (s.get R.RTC.STAT_CHG_ST) 1 then (s.set R.RTC.STAT_CHG_ST 2).raise 0x28 7 else s)

/-- CHARGER_RESTART (R458): VBAK falls 50 mV below VEND. -/
def execChargerRestart (s : State) : Host.Outcome State Fault Refusal :=
  .next (bif Nat.beq (s.get R.RTC.STAT_CHG_ST) 2 then s.set R.RTC.STAT_CHG_ST 1 else s)

end Sys2Proof.Machine
end

