-- ==== Sys2Proof/Machine/Domains.lean ====
section
/-!
DEFINITION. Power domains and clocks (ch. 04, R98-R123).
-/

namespace Sys2Proof.Machine

open Sys2Proof

def State.modDoms (s : State) (f : Domains → Domains) : State := { s with doms := f s.doms }

/-- AUTO or not. -/
def State.setAuto (s : State) (k : Nat) (on : Bool) : State :=
  s.modDoms (fun d => { d with auto := (bif on then [k] else []) ++ d.auto.filter (fun j => !Nat.beq j k) })

/-! ### OFF (R99, R101) -/

/-- An engine domain goes OFF: the engine is in reset with nothing kept but its image's verdict; its mailbox lies in shared SRAM. -/
def State.engOff (s : State) (k : Nat) : State :=
  let e := s.eng k
  let s := s.engReset k
  (s.setEng k { Engine.reset k with image := e.image, customer := e.customer, outageFlag := e.outageFlag, mcBoot := e.mcBoot,
                                    mailbox := e.mailbox }).setAll
    [(R.HDR.EN (0x10 + k), 0), (R.HDR.ST (0x10 + k), 0), (R.ENG.STAT_MC_OK k, 0)]

/-- A chain's domain goes OFF: what it had armed returns to the queues, its calibration results are gone. -/
def State.chainOff (s : State) (m : Medium) (c : Chain) : State :=
  ((s.quiet m).set (R.RF.STAT_CH_ST (chainIdx c)) 0).modChain c (fun _ => ChainSt.reset)

/-- Garnet keeps its OTP only (R494, R505). -/
def State.garnetOff (s : State) : State :=
  let g := s.garnet
  { s with garnet := { Garnet.reset with ck0 := g.ck0, ck1 := g.ck1, ck0Revoked := g.ck0Revoked, rb := g.rb } }

/-- The tables that BANK0 to BANK2 hold (R29, R298, R341, R414, R529). -/
def State.bankLoss (s : State) (k : Nat) : State :=
  match k with
  | 1 => { s with assoc := { s.assoc with table := [], index := [], live := false, busy := false, dirty := [] },
                  mesh := { s.mesh with archive := [], relays := [], bcasts := [] } }
  | 2 => { s with sched := { s.sched with nbrs := [], cells := [] }, plc := { s.plc with slots := [] },
                  msg := { s.msg with peers := [] } }.strataLoss
  | 3 => { s with mesh := { s.mesh with buffer := [] }, msg := { s.msg with contexts := [] },
                  compat := { s.compat with queue := [] },
                  radio := (s.each media3 (fun m t => t.modAir m (fun a => { a with rxMeta := [], rxFrame := none }))).radio,
                  pair := { s.pair with copy := [], gated := [], offered := [], held := [] } }
  | _ => s

/-- What the block in domain `k` loses in OFF beside its registers, which its wake resets (R99). -/
def State.offLoss (s : State) (k : Nat) : State :=
  bif Nat.ble 5 k && Nat.ble k 16 then s.engOff (k - 5)
  else match k with
  | 1 => s.bankLoss 1
  | 2 => s.bankLoss 2
  | 3 => s.bankLoss 3
  | 17 => s.chainOff .rfA .a
  | 18 => s.chainOff .rfB .b
  | 19 => ((s.plcCut.quiet .plc).setAll [(R.PLCPHY.STAT_ST, 0), (R.PLCAFE.STAT_DRV_ON, 0)])
  | 21 => s.lampReset
  | 22 => (s.rdOff 4).modNfc (fun x => { x with staged := [], held := false })
  | 23 => s.garnetOff
  | 24 => { s with flash := s.flash.finishErase }
  | 25 => { s with spi := Spi.reset }
  | 26 => s.set R.PAIR.STAT_LINK_UP 0
  | _ => s

/-- Domain `k` goes OFF. -/
def State.goOff (s : State) (k : Nat) : State := bif Nat.beq (s.dom k) 0 then s.setAuto k false else (s.offLoss k).domDown k

/-- Domain `k` is brought ON, from OFF with its registers at Reset values (R99). -/
def State.goOn (s : State) (k : Nat) : State :=
  let d := s.dom k
  bif Nat.beq d 2 || !s.powered k then s
  else (s.modDoms (fun x => { x with fromOff := (bif Nat.beq d 0 then [k] else []) ++ x.fromOff,
                                     entering := x.entering.filter (fun e => !Nat.beq e.1 k) })).wakeReady k

/-! ### States by mode (R105) -/

/-- Engine `k` of E10 and E11 has an image listed (R24); every manifest lists one for E10. -/
def State.listed (s : State) (k : Nat) : Bool := (s.eng k).image || s.modes.failedImages.any (Nat.beq k)

/-- The table of R105: 0 OFF, 2 ON, 3 AUTO. -/
def State.modeRow (s : State) (m : Mode) (k : Nat) : Nat :=
  let eng (i : Nat) (busy : Nat) : Nat := bif Nat.blt i 10 || s.listed i then busy else 0
  let rfb : Nat := bif Nat.beq (s.get (R.HDR.ST 0x31)) 2 && !Nat.beq (s.phy .rfB) 6 then 3 else 0
  let plc : Nat := bif Nat.beq (s.get (R.HDR.ST 0x3B)) 2 then 3 else 0
  let pair : Nat := bif s.supply.pairPresLow then 2 else 0
  bif mainsDomain k && !s.bit R.PWR.SUPPLY_MAINS then 0
  else match m with
  | .outage =>
    bif Nat.ble k 4 then 3
    else bif Nat.ble k 16 then
      let i := k - 5
      bif Nat.beq i 2 || Nat.beq i 3 then 0
      else bif Nat.beq i 9 then (bif s.supply.compatSel && s.bit R.PWR.V3OUT_OUTAGE_EN then 3 else 0)
      else bif Nat.ble 10 i then (bif (s.eng i).image && (s.eng i).customer && (s.eng i).outageFlag then 3 else 0)
      else 3
    else bif Nat.beq k 17 || Nat.beq k 23 || Nat.beq k 24 || Nat.beq k 25 then 3 else 0
  | .commission =>
    bif Nat.ble k 4 || Nat.beq k 20 || Nat.beq k 21 then 2
    else bif Nat.ble k 16 then eng (k - 5) 3 else bif Nat.beq k 26 then pair else 3
  | .service =>
    bif Nat.ble k 4 || Nat.beq k 20 || Nat.beq k 21 then 2
    else bif Nat.ble k 16 then eng (k - 5) 3
    else bif Nat.beq k 18 then rfb else bif Nat.beq k 19 then plc else bif Nat.beq k 26 then pair else 3
  | .maintenance =>
    bif Nat.ble k 4 || (Nat.ble 20 k && Nat.ble k 21) || (Nat.ble 23 k && Nat.ble k 25) then 2
    else bif Nat.ble k 16 then eng (k - 5) 2
    else bif Nat.ble k 19 then (bif s.modes.prodTest then 3 else 0) else bif Nat.beq k 26 then pair else 0
  | .boot => bif Nat.ble k 5 || (Nat.ble 23 k && Nat.ble k 25) then 2 else 0
  | .hold => 0
  | .field => 0
  | .unpowered => 0

/-- The four domains of HOSTREQ with their fields. -/
def hostreqFields : List (Nat × Fld) :=
  [(22, R.PWR.HOSTREQ_NFC), (20, R.PWR.HOSTREQ_METER), (21, R.PWR.HOSTREQ_LUM), (26, R.PWR.HOSTREQ_PAIR)]

/-- The state that E0 gives domain `k` in a mode: the row of R105, and where the row does not forbid it the host's standing request
(R104). -/
def State.modeTarget (s : State) (m : Mode) (k : Nat) : Nat :=
  let row := s.modeRow m k
  match hostreqFields.find? (fun p => Nat.beq p.1 k) with
  | none => row
  | some p =>
    let v := s.get p.2
    bif Nat.beq row 0 then 0 else bif Nat.beq v 1 then 2 else bif Nat.beq v 2 then 3 else row

/-- An engine domain leaves OFF only when E0 restarts the engine from its image (R101); BOOT and the wake from HOLD load and release the
engines by their own steps (R80). -/
def State.engUp (s : State) (k : Nat) (auto : Bool) : State :=
  bif decide (s.mode = .boot) || decide (s.mode = .hold) then (s.goOn k).setAuto k auto
  else bif (s.eng (k - 5)).image || Nat.beq k 5 then ((s.goOn k).engRestart (k - 5)).setAuto k auto
  else s

/-- Domain `k` is ON, or AUTO, which is ON until the domain is idle. -/
def State.domLeave (s : State) (k : Nat) (auto : Bool) : State :=
  bif Nat.ble 5 k && Nat.ble k 16 && Nat.beq (s.dom k) 0 then s.engUp k auto else (s.goOn k).setAuto k auto

/-- E0 sets a domain's state: 0 OFF, 2 ON, 3 AUTO. -/
def State.setDomain (s : State) (k v : Nat) : State := bif Nat.beq v 0 then s.goOff k else s.domLeave k (Nat.beq v 3)

/-- E0 sets every domain on entry to a mode (R43, R105). -/
def State.modeDomains (s : State) (m : Mode) : State := s.each (List.range 27) (fun k t => t.setDomain k (t.modeTarget m k))

/-- In SERVICE the domains of RF-B and PLC follow their medium: AUTO while it is in service, else OFF (R105). -/
def State.followMedia (s : State) : State :=
  bif decide (s.mode = .service) then s.each [18, 19] (fun k t =>
    let v := t.modeRow .service k
    bif Nat.beq v 0 then t.goOff k else bif Nat.beq (t.dom k) 0 then t.setDomain k v else t.setAuto k true)
  else s

/-! ### Entering RETENTION (R106, R111-R113) -/

/-- Engine `k` executes WAIT, and nothing that ends it is pending. -/
def State.engIdle (s : State) (k : Nat) : Bool :=
  let e := s.eng k
  let pend (j : Nat) : Bool := e.wakeEn.getLsbD j && s.bit (R.EVT.SEL_PEND (3 * k + j))
  decide (e.run = .waiting) && e.mailbox.isEmpty && e.response.isNone && !pend 0 && !pend 1 && !pend 2

/-- Every engine domain is in RETENTION or OFF, no DMA channel is active, and no access is under way: over the bridge, held for the host,
or in the write FIFO. -/
def State.coreIdle (s : State) : Bool :=
  (List.range 12).all (fun k => Nat.blt (s.dom (5 + k)) 2) && (List.range 16).all (fun c => !Nat.beq (s.get (R.DMA.STAT_ST c)) 3) &&
    s.bridge.inflight.isEmpty && s.spi.wfifo.isEmpty && (match s.spi.held with | some (_, none) => false | _ => true)

/-- No cell is armed and nothing is being received or sent. -/
def State.mediumIdle (s : State) (m : Medium) : Bool :=
  let a := s.air m
  decide (a.armed = .idle) && !a.winOpen && a.sending.isNone && !a.acking && a.ackDue.isNone && a.await.isNone &&
    !Nat.beq (s.phy m) 1 && !Nat.ble 4 (s.phy m % 6) && (isPlc m || Nat.beq (medIdx m) 1 || s.radio.calling.isNone)

/-- The idle condition of R106; METER, LUM and PAIR have none of their own and must be at rest. -/
def State.idle (s : State) (k : Nat) : Bool :=
  bif Nat.ble 5 k && Nat.ble k 16 then s.engIdle (k - 5)
  else match k with
  | 0 => s.coreIdle
  | 17 => s.mediumIdle .rfA
  | 18 => s.mediumIdle .rfB
  | 19 => s.mediumIdle .plc
  | 21 => s.lamp.cur.isNone && s.lamp.pulse.isNone && !s.bit R.AOUT.STAT_FADING
  | 22 => Nat.beq s.nfc.op 0 && !s.nfc.held
  | 23 => s.garnet.aes.isEmpty && s.garnet.pke.isEmpty && !s.bit R.HASH.STAT_BUSY
  | 24 => s.flash.erase.isNone
  | 25 => s.spi.wfifo.isEmpty
  | 20 => true
  | 26 => true
  | _ => s.coreIdle

/-- The outputs that the clamps of R98 change in the registers: the reader's field. Continuous read ends with FLASH (R478). -/
def State.clamp (s : State) (k : Nat) : State :=
  bif Nat.beq k 22 then s.set R.NFCRD.STAT_ST 0 else bif Nat.beq k 24 then s.set R.FLASH.STAT_CREAD 0 else s

/-- Domain `k` enters RETENTION. -/
def State.goRetention (s : State) (k : Nat) : State := (s.clamp k).set (R.PWR.DOMSTAT k) 1

/-- HOST_WAKE has an effect in OUTAGE, COMMISSION, SERVICE and MAINTENANCE (R150). -/
def State.hostWakes (s : State) : Bool :=
  match s.mode with
  | .outage => true | .commission => true | .service => true | .maintenance => true
  | .boot => false | .hold => false | .field => false | .unpowered => false

/-- A high HOST_WAKE raises one wake, unless it has raised one already (R110, R150). -/
def State.hostWake (s : State) : State :=
  let s := { s with supply := { s.supply with hostWakeHigh := true } }
  bif s.doms.wakeArmed && s.hostWakes then
    let s := s.modDoms (fun d => { d with wakeArmed := false })
    (((s.wakeCore 5).wakeDomain 25 5).raise 0x02 1).fire 47
  else s

/-- DOMAIN_IDLE_ENTRY (R106, R111-R113): an idle AUTO domain, or one that a command sent there, completes its entry, unless a wake event
abandons it at one of the points P1 to P5. `hostWake` is the level of HOST_WAKE at the end (R110). Without LF no domain may
enter RETENTION (R123). -/
def execDomainIdleEntry (idx : BitVec 5) (abort : Option (Fin 5)) (hostWake : Bool) (s : State) : Host.Outcome State Fault Refusal :=
  let k := idx.toNat
  let cmd := s.doms.entering.find? (fun e => Nat.beq e.1 k)
  let s := { s with supply := { s.supply with hostWakeHigh := hostWake } }
  let off := match cmd with | some e => Nat.beq e.2 0 | none => false
  bif Nat.blt 26 k || !Nat.beq (s.dom k) (match cmd with | some _ => 3 | none => 2) || (s.doms.lfHold && !off) || !s.idle k ||
      (cmd.isNone && !s.doms.auto.any (Nat.beq k)) then .next s
  else
    match abort with
    | some p => .next (s.abandonEntry k (p.val + 1))
    | none =>
      let t := s.endEntry k
      .next (bif off then t.goOff k else (t.goRetention k).onlyIf hostWake State.hostWake)

/-! ### Waking (R107, R108) -/

/-- The module has a CORE that can wake: every mode but HOLD, FIELD and the unpowered state. -/
def State.running (s : State) : Bool :=
  match s.mode with
  | .unpowered => false | .field => false | .hold => false
  | .outage => true | .commission => true | .service => true | .maintenance => true | .boot => true

/-- DOMAIN_WAKE (R107, R108, R111): a wake event reaches a domain in RETENTION, in OFF where R98 lets an access wake it, or in its entry,
which it abandons at P1. The clocks start with it. -/
def execDomainWake (idx : BitVec 5) (src : BitVec 4) (s : State) : Host.Outcome State Fault Refusal :=
  let k := idx.toNat
  let d := s.dom k
  let refused := Nat.beq src.toNat 0 && s.noWake k
  bif Nat.blt 26 k || !s.alive || Nat.beq d 2 then .next s
  else bif Nat.beq d 3 then .next (bif s.entered k then s.abandonEntry k 1 else s)
  else bif Nat.beq d 0 && (!wakesFromOff k || !s.powered k || refused) then .next s
  else .next (s.startXo.wakeStart k src.toNat)

/-- DOMAIN_WAKE_READY (R98, R102, R120): the wake time has passed with the clocks running. -/
def execDomainWakeReady (idx : BitVec 5) (s : State) : Host.Outcome State Fault Refusal :=
  let k := idx.toNat
  .next (bif Nat.ble k 26 && Nat.beq (s.dom k) 3 && !s.entered k && s.bit R.CLK.STAT_PLL_LOCK
    then s.wakeReady k else s)

/-! ### DOMCMD and HOSTREQ (R100, R103, R104) -/

/-- A write of DOMCMD by E0; others' writes are ignored (R100). An index of 27-31 is IDX_BAD. -/
def State.domcmd (s : State) (who k : Nat) (nowake : Bool) (f : State → State) : State :=
  bif !Nat.beq who 0 then s
  else bif Nat.blt 26 k then s.refuse 0x02 0x42 0x28
  else
    let m := s.get R.PWR.NOWAKE_MAP
    f (s.set R.PWR.NOWAKE_MAP (bif nowake then m ||| 2 ^ k else bif m.testBit k then m - 2 ^ k else m))

/-- A commanded entry: the steps of R111 begin, and DOMAIN_IDLE_ENTRY ends them once the domain has drained (R112). A domain in RETENTION
loses its supply at once. E0 commands an engine domain OFF only when its mailbox is empty (R414). -/
def State.domEnter (s : State) (k target : Nat) : State :=
  bif Nat.ble 5 k && Nat.ble k 16 && Nat.beq target 0 && !(s.eng (k - 5)).mailbox.isEmpty then s
  else bif Nat.beq (s.dom k) target || Nat.beq (s.dom k) 0 then s.setAuto k false
  else bif Nat.beq (s.dom k) 1 then s.goOff k
  else (((s.setAuto k false).endEntry k).modDoms (fun d => { d with entering := (k, target) :: d.entering })).set (R.PWR.DOMSTAT k) 3

/-- DOMCMD_OFF (R100): E0 never commands LUM OFF while mains is present (R103). -/
def execDomcmdOff (who : Requester) (idx : BitVec 5) (nowake : Bool) (s : State) : Host.Outcome State Fault Refusal :=
  s.writeCmd who 0x02 0x28 (fun s => s.domcmd who idx.toNat nowake (fun s =>
    bif Nat.beq idx.toNat 21 && s.bit R.PWR.SUPPLY_MAINS then s else s.domEnter idx.toNat 0))

/-- DOMCMD_RETENTION (R100). -/
def execDomcmdRetention (who : Requester) (idx : BitVec 5) (nowake : Bool) (s : State) : Host.Outcome State Fault Refusal :=
  s.writeCmd who 0x02 0x28 (fun s => s.domcmd who idx.toNat nowake (fun s => s.domEnter idx.toNat 1))

/-- DOMCMD_ON (R100, R101). -/
def execDomcmdOn (who : Requester) (idx : BitVec 5) (nowake : Bool) (s : State) : Host.Outcome State Fault Refusal :=
  s.writeCmd who 0x02 0x28 (fun s => s.domcmd who idx.toNat nowake (fun s => s.domLeave idx.toNat false))

/-- DOMCMD_AUTO (R100, R105). -/
def execDomcmdAuto (who : Requester) (idx : BitVec 5) (nowake : Bool) (s : State) : Host.Outcome State Fault Refusal :=
  s.writeCmd who 0x02 0x28 (fun s => s.domcmd who idx.toNat nowake (fun s => s.domLeave idx.toNat true))

/-- Why a request for a domain is refused, 0 for none (R104). -/
def State.hostreqCheck (s : State) (k v : Nat) : Nat :=
  bif Nat.beq v 0 then 0
  else bif mainsDomain k && !s.bit R.PWR.SUPPLY_MAINS then 0x41
  else bif Nat.beq (s.modeRow s.mode k) 0 then 0x40
  else 0

/-- A write of HOSTREQ (R104): E0 applies it, or refuses it whole. -/
def State.hostreqWrite (s : State) (w : Nat) : State :=
  bif hostreqFields.any (fun p => Nat.beq (p.2.of w) 3) then s.refuse 0x02 RC.BAD_VALUE 0x30
  else
    let bad := (hostreqFields.map (fun p => s.hostreqCheck p.1 (p.2.of w))).find? (fun r => !Nat.beq r 0)
    match bad with
    | some r => s.refuse 0x02 r 0x30
    | none => s.each hostreqFields (fun p t =>
        let v := p.2.of w
        let t := t.set p.2 v
        t.setDomain p.1 (t.modeTarget t.mode p.1))

/-- PWR_HOSTREQ_WRITE (R104). -/
def execPwrHostreqWrite (who : Requester) (value : Word) (s : State) : Host.Outcome State Fault Refusal :=
  s.writeCmd who 0x02 0x30 (fun s => s.hostreqWrite value.toNat)

/-- HOST_WAKE_RISE (R110, R150); `rested` says that the pin was low for two LF periods before. -/
def execHostWakeRise (rested : Bool) (s : State) : Host.Outcome State Fault Refusal :=
  .next ((s.onlyIf rested (fun s => s.modDoms (fun d => { d with wakeArmed := true }))).hostWake)

/-- A write of V3OUT in OUTAGE takes effect at once: V3_OUT, limited to 20 mA, and E9, which serves the UART while the host has it (R72,
R159). -/
def State.v3outFollow (s : State) : State :=
  bif decide (s.mode = .outage) && !s.supply.up then
    let en := s.bit R.PWR.V3OUT_OUTAGE_EN
    let s := { s with supply := { s.supply with v3on := en && !s.supply.v3wait, v3lim := en, v3wait := en && s.supply.v3wait } }
    bif s.modes.lastGasp then s else s.setDomain 14 (s.modeTarget .outage 14)
  else s

/-! ### Autonomous sample sequences (R114-R116) -/

/-- ASQ_STAT: one bit of MATCH or SKIP. -/
def State.asqFlag (s : State) (f : Fld) (n : Nat) : State := s.set f (s.get f ||| 2 ^ n)

/-- ASQ_MATCH: flag, IRQ, event, and by ACTION a wake of E0 and the end of the sequence (R114, R115). -/
def State.asqMatch (s : State) (n : Nat) : State :=
  let act := s.get (R.PWR.ASQ_CFG_ACTION n)
  let s := ((s.asqFlag R.PWR.ASQ_STAT_MATCH n).raise 0x02 2).fire (39 + n)
  let s := s.onlyIf (Nat.beq act 1 || Nat.beq act 2) (·.wakeCore 2)
  s.onlyIf (Nat.beq act 2) (·.set (R.PWR.ASQ_CFG_EN n) 0)

/-- The samples of a run: SAMPLES, where 0 means 16. -/
def State.asqSamples (s : State) (n : Nat) : Nat := let k := s.get (R.PWR.ASQ_CFG_SAMPLES n); bif Nat.beq k 0 then 16 else k

/-- LF ticks that a run of sequence `n` takes, by the sample spacing of its source: a sniff of 2 ms, 1 ms for PHOTO, one tick else. -/
def State.asqTicks (s : State) (n : Nat) : Nat :=
  match s.get (R.PWR.ASQ_CFG_SRC n) with
  | 0 => 66
  | 2 => 33 * s.asqSamples n
  | _ => s.asqSamples n

/-- LF ticks of a period of sequence `n`. -/
def State.asqSpan (s : State) (n : Nat) : Nat :=
  max 1 (s.get (R.PWR.ASQ_CFG_PERIOD n)) * (bif s.bit (R.PWR.ASQ_CFG_UNIT n) then 2048 else 1)

/-- LF ticks pass for the run of sequence `n`; Mica's listening ends with the last of them (R185). -/
def State.asqPass (s : State) (n t : Nat) : State :=
  let left := s.doms.asqLeft.look n
  let s := s.modDoms (fun d => { d with asqLeft := d.asqLeft.put n (left - t) })
  s.onlyIf (Nat.blt 0 left && Nat.ble left t && Nat.beq (s.get (R.PWR.ASQ_CFG_SRC n)) 0) (·.set R.MICA.STAT_LISTEN 0)

/-- The run of sequence `n` takes `t` LF ticks from now. -/
def State.asqRun (s : State) (n t : Nat) : State := s.modDoms (fun d => { d with asqLeft := d.asqLeft.put n t })

/-- The average meets the match rule. -/
def State.asqHit (s : State) (n avg : Nat) : Bool :=
  let lo := s.get (R.PWR.ASQ_THR_LO n)
  let hi := s.get (R.PWR.ASQ_THR_HI n)
  match s.get (R.PWR.ASQ_CFG_CMP n) with
  | 0 => Nat.blt avg lo || Nat.blt hi avg
  | 1 => Nat.ble lo avg && Nat.ble avg hi
  | 2 => Nat.blt hi avg
  | _ => Nat.blt avg lo

/-- A MICA_WIN run: a sniff of 2 ms; energy above THR keeps Mica on for up to 100 ms more (R185). -/
def State.micaSniff (s : State) (n : Nat) (energy : List Half) : State :=
  bif !s.micaSwitch then s
  else bif energy.any (fun (x : Half) => decide ((BitVec.ofNat 8 (s.get R.MICA.THR_DBM)).toInt < x.toInt)) then (s.asqRun n (66 + 3277)).set R.MICA.STAT_LISTEN 1
  else s.asqRun n 66

/-- A run that samples: PHOTO wakes METER and returns it to its previous state (R114, R116). -/
def State.asqSample (s : State) (n : Nat) (samples : List Nat) : State :=
  let photo := Nat.beq (s.get (R.PWR.ASQ_CFG_SRC n)) 2
  let was := s.dom 20
  let s := (s.asqRun n (s.asqTicks n)).onlyIf photo (fun s => (s.wakeFor 20 2).1)
  let taken := samples.take (s.asqSamples n)
  let avg := taken.sum / max 1 taken.length
  let hit := s.asqHit n avg
  let s := bif !photo then s else bif Nat.beq was 0 then s.goOff 20 else bif Nat.beq was 1 then s.goRetention 20 else s
  s.onlyIf hit (·.asqMatch n)

/-- ASQ_PERIOD (R114-R116): sequence `n` falls due, with the samples that its run takes; for MICA_WIN the energies of its sniff in dBm. It is
skipped while its previous run is in progress, and PHOTO without its domain. -/
def execAsqPeriod (n : Fin 8) (samples : List Half) (s : State) : Host.Outcome State Fault Refusal :=
  let src := s.get (R.PWR.ASQ_CFG_SRC n)
  bif decide (s.mode = .unpowered) || decide (s.mode = .field) || !s.bit (R.PWR.ASQ_CFG_EN n) then .next s
  else
    let t := s.asqPass n (s.asqSpan n)
    bif Nat.blt 0 (t.doms.asqLeft.look n) || (Nat.beq src 2 && (!t.bit R.PWR.SUPPLY_MAINS || (Nat.beq (t.dom 20) 0 && t.noWake 20))) then
      .next (t.asqFlag R.PWR.ASQ_STAT_SKIP n)
    else .next (bif Nat.beq src 0 then t.micaSniff n samples else t.asqSample n (samples.map BitVec.toNat))

/-! ### Clocks (R119-R123) -/

/-- A domain asks for the fast clocks: every domain that is ON, waking or in entry; the spec does not list which domains need them
(DESIGN CHOICE, log entry 55). -/
def State.clockNeed (s : State) : Bool := (List.range 27).any (fun k => Nat.ble 2 (s.dom k))

/-- FAST_CLOCK_STOP (R119, R121): no request is left at the LF edge; HOSTREQ.XO alone holds the XO without the PLL. -/
def execFastClockStop (s : State) : Host.Outcome State Fault Refusal :=
  bif s.clockNeed || s.bit R.CLK.HOSTREQ_PLL || s.doms.lfHold || !s.bit R.CLK.STAT_XO_ON then .next s
  else
    let t := s.setAll [(R.CLK.STAT_PLL_LOCK, 0), (R.CLK.STAT_STITCHING, 1)]
    .next (bif s.bit R.CLK.HOSTREQ_XO then t else t.setAll [(R.CLK.STAT_XO_ON, 0), (R.CLK.STAT_XO_OK, 0)])

/-- FAST_CLOCK_READY (R120): the XO is stable; the PLL locks where the clocks, and not the RF reference alone, are asked for. -/
def execFastClockReady (s : State) : Host.Outcome State Fault Refusal :=
  bif !s.bit R.CLK.STAT_XO_ON then .next s
  else
    let t := s.set R.CLK.STAT_XO_OK 1
    .next (bif s.clockNeed || s.bit R.CLK.HOSTREQ_PLL || s.doms.lfHold then
      t.setAll [(R.CLK.STAT_PLL_LOCK, 1), (R.CLK.STAT_STITCHING, 0)] else t)

/-- CLK_HOSTREQ_WRITE (R119). -/
def execClkHostreqWrite (who : Requester) (value : Word) (s : State) : Host.Outcome State Fault Refusal :=
  s.writeCmd who 0x03 0x24 (fun s =>
    let t := s.setAll [(R.CLK.HOSTREQ_XO, R.CLK.HOSTREQ_XO.of value.toNat), (R.CLK.HOSTREQ_PLL, R.CLK.HOSTREQ_PLL.of value.toNat)]
    t.onlyIf (t.bit R.CLK.HOSTREQ_XO || t.bit R.CLK.HOSTREQ_PLL) State.startXo)

/-- STITCH_UPDATE (R121): E4 sets STITCH to 2.4 × LFMEAS once LFMEAS holds a measurement. The spec gives no rounding; the fraction is
dropped (DESIGN CHOICE, log entry 55). -/
def execStitchUpdate (s : State) : Host.Outcome State Fault Refusal :=
  let m := s.get R.CLK.LFMEAS_COUNT
  .next (bif Nat.beq m 0 || Nat.beq (s.dom 9) 0 then s else s.set R.CLK.STITCH_INC (12 * m / 5))

/-- LF_MEASUREMENT_UPDATE: while the XO runs. -/
def execLfMeasurementUpdate (count : Word) (s : State) : Host.Outcome State Fault Refusal :=
  .next (bif s.bit R.CLK.STAT_XO_ON && !s.rtc.stopped then s.set R.CLK.LFMEAS_COUNT count.toNat else s)

/-- LF_STOP (R123, R444, R454): a stop above 4 ms sets OSF, a shorter one GLITCH; while the XO runs the fast clocks are held on. -/
def execLfStop (long : Bool) (s : State) : Host.Outcome State Fault Refusal :=
  bif decide (s.mode = .unpowered) || decide (s.mode = .field) then .next s
  else
    let t := { s with rtc := { s.rtc with stopped := true } }
    let t := bif long then (t.set R.RTC.STAT_OSF 1).raise 0x28 3 else t.set R.RTC.STAT_GLITCH 1
    .next (bif t.bit R.CLK.STAT_XO_ON then
      ((t.modDoms (fun d => { d with lfHold := true })).set R.CLK.STAT_LF_OK 0).raise 0x03 0 else t)

/-- LF_RETURN (R123). -/
def execLfReturn (s : State) : Host.Outcome State Fault Refusal :=
  bif !s.rtc.stopped then .next s
  else
    let t := { s with rtc := { s.rtc with stopped := false } }
    .next (bif t.doms.lfHold then
      ((t.modDoms (fun d => { d with lfHold := false })).set R.CLK.STAT_LF_OK 1).raise 0x03 1 else t.set R.CLK.STAT_LF_OK 1)

/-- Stitched counting (R121): an LF edge adds STITCH to the fraction register, and the integer carry to every running timer. -/
def State.stitch (s : State) : State :=
  let f := s.doms.stitchFrac + s.get R.CLK.STITCH_INC
  let carry := f / 2 ^ 16
  let s := s.modDoms (fun d => { d with stitchFrac := f % 2 ^ 16 })
  s.each ((List.range 16).filter (fun i => s.bit (R.TIM.STAT_RUN i))) (fun i t => t.timerPass i carry)

/-- An LF edge that passes with no command: running timers count while the fast clocks are stopped, sample runs go on. -/
def State.lfEdge (s : State) : State :=
  bif s.rtc.stopped || decide (s.mode = .unpowered) || decide (s.mode = .field) then s
  else
    let s := s.onlyIf (s.bit R.CLK.STAT_STITCHING) State.stitch
    s.each ((List.range 8).filter (fun n => Nat.blt 0 (s.doms.asqLeft.look n))) (fun n t => t.asqPass n 1)

end Sys2Proof.Machine
end

