-- ==== Sys2Proof/Machine/Update.lean ====
section
/-!
DEFINITION. The UPDATE page's staging session (R514-R516) and the checks of a staged set (R517).
-/

namespace Sys2Proof.Machine

open Sys2Proof

/-- UPDATE's reason codes (the UPDATE page). -/
abbrev STAGE_STATE : Nat := 0x40

/-! ### The checks of R517 -/

/-- First entry that fails a check, with its index. -/
def Manifest.firstBad (m : Manifest) (bad : Part → Bool) : Option Nat := m.parts.findIdx? bad

/-- CUST and OUTAGE flags of an entry. -/
def Part.cust (p : Part) : Bool := p.flags.testBit 0
def Part.outage (p : Part) : Bool := p.flags.testBit 1

/-- How many entries have a type and an ID. -/
def Manifest.count (m : Manifest) (type id : Nat) : Nat :=
  (m.parts.filter (fun p => Nat.beq p.type type && Nat.beq p.id id)).length

/-- The required parts are there once each, and the optional ones at most once, CMCODE only beside its CIMAGE (R513). -/
def Manifest.partsOk (m : Manifest) : Bool :=
  Nat.beq (m.count 1 0) 1 && (List.range 10).all (fun i => Nat.beq (m.count 2 (i + 1)) 1 && Nat.beq (m.count 3 i) 1) &&
    (List.range 16).all (fun i => Nat.ble (m.count 4 i) 1) &&
    [10, 11].all (fun k => Nat.ble (m.count 5 k) 1 && Nat.ble (m.count 6 k) (m.count 5 k))

/-- An entry's flags and reserved octets are in order (R512, R513). -/
def Part.flagsOk (p : Part) : Bool :=
  p.clean && Nat.blt p.flags 4 && (!p.outage || Nat.beq p.type 5) && (p.cust == Nat.ble 5 p.type)

/-- TYPE, ID and RB are as R513 (a customer part may also use counters 5-7). -/
def Part.kindOk (p : Part) : Bool :=
  let custRb (k : Nat) := Nat.beq p.rb (k - 7) || (Nat.ble 5 p.rb && Nat.ble p.rb 7)
  match p.type with
  | 1 => Nat.beq p.id 0 && Nat.beq p.rb 0
  | 2 => Nat.ble 1 p.id && Nat.ble p.id 10 && Nat.beq p.rb 1
  | 3 => Nat.ble p.id 9 && Nat.beq p.rb 2
  | 4 => Nat.ble p.id 15 && Nat.beq p.rb 2
  | 5 => (Nat.beq p.id 10 || Nat.beq p.id 11) && custRb p.id
  | 6 => (Nat.beq p.id 10 || Nat.beq p.id 11) && custRb p.id
  | _ => false

/-- The largest LENGTH of a type (R513). -/
def Part.maxLen (p : Part) : Nat :=
  match p.type with
  | 1 => 240 * 1024 | 2 => 32768 | 3 => 1088 | 4 => 65536 | 5 => 32768 | _ => 1088

/-- The two ranges share a byte. -/
def overlaps (a n b m : Nat) : Bool := Nat.blt a (b + m) && Nat.blt b (a + n)

/-- The part lies within staging and within its destination, whole sectors from their starts (R512, R513, R517). -/
def Part.placed (p : Part) : Bool :=
  Nat.ble 1 p.length && Nat.ble p.length p.maxLen && Nat.beq (p.srcOff % 4096) 0 && Nat.ble 8192 p.srcOff &&
    Nat.ble (p.srcOff + p.length) 0x7F0000 && Nat.beq (p.dstOff % 4096) 0 &&
    (bif Nat.beq p.type 1 then Nat.ble (p.dstOff + p.length) (240 * 1024)
     else Nat.ble 8192 p.dstOff && Nat.ble (p.dstOff + p.length) 0x800000)

/-- Two parts overlap in staging or in their destination. -/
def Part.clashes (p q : Part) : Bool :=
  overlaps p.srcOff p.length q.srcOff q.length ||
    ((Nat.beq p.type 1 == Nat.beq q.type 1) && overlaps p.dstOff p.length q.dstOff q.length)

/-- The first entry that overlaps an earlier one. -/
def Manifest.clash (m : Manifest) : Option Nat :=
  (List.range m.parts.length).find? (fun i =>
    match m.parts[i]? with
    | some p => (m.parts.take i).any p.clashes
    | none => false)

/-- A customer image carries the OUTAGE flag of its CIMAGE entry; the part list as the signatures see it. -/
def Manifest.wsigBody (m : Manifest) : List Byte :=
  m.head ++ (m.parts.filter (fun p => !p.cust)).flatMap (·.head)

/-- CSIG is empty, or is a good signature of a CIMAGE entry and its engine's CMCODE digest (R512, R517 step 5). -/
def Manifest.csigOk (m : Manifest) (p : Part) : Bool :=
  p.csig == zeros 96 ||
    (Nat.beq p.type 5 &&
      ecdsaVerify m.ckey (sha384 (p.head ++ (match m.part? 6 p.id with | some q => q.digest | none => zeros 48))) p.csig)

/-- The manifest's customer key is usable: its hash is that of a usable slot (R502). -/
def Garnet.ckeyOk (g : Garnet) (m : Manifest) : Bool :=
  g.usable 0 == some (sha384 m.ckey) || g.usable 1 == some (sha384 m.ckey)

/-- The checks of R517 in order on the staged set; `versions` includes step 7, which R523 leaves out. The first that fails
answers its reason and the entry's index, 0xFF for the manifest. -/
def State.verifySet (s : State) (versions : Bool) : Option (Nat × Nat) :=
  let m := s.flash.staged
  let run := s.flash.active
  let whole (bad : Bool) (r : Nat) (k : Unit → Option (Nat × Nat)) : Option (Nat × Nat) := bif bad then some (r, 0xFF) else k ()
  let each (bad : Part → Bool) (r : Nat) (k : Unit → Option (Nat × Nat)) : Option (Nat × Nat) :=
    match m.firstBad bad with | some i => some (r, i) | none => k ()
  let older (p : Part) : Bool := match run.part? p.type p.id with | some q => Nat.blt p.version q.version | none => false
  whole (!m.magicOk || Nat.blt m.nparts 21 || Nat.blt 41 m.nparts || !Nat.beq m.mlen (256 + 176 * m.nparts + 96) ||
      !m.partsOk || !m.clean || Nat.blt 1 m.flags || (Nat.beq m.flags 0 && !(m.ckey == zeros 96))) 0x41 fun _ =>
  each (fun p => !p.flagsOk) 0x41 fun _ =>
  each (fun p => !p.kindOk || !p.placed) 0x42 fun _ =>
  (match m.clash with | some i => fun _ => some (0x42, i) | none => fun (k : Unit → Option (Nat × Nat)) => k ()) fun _ =>
  whole (!(sha384 m.wkey == Config.waltrausKeyHash) || !ecdsaVerify m.wkey (sha384 m.wsigBody) m.wsig) 0x43 fun _ =>
  whole (!(m.flags.testBit 0 == m.parts.any (·.cust)) || (m.flags.testBit 0 && !s.garnet.ckeyOk m)) 0x44 fun _ =>
  each (fun p => !m.csigOk p) 0x43 fun _ =>
  each (fun p => !(sha384 (s.flash.bytes (0x00880000 + p.srcOff) p.length) == p.digest)) 0x45 fun _ =>
  each (fun p => versions && older p) 0x46 fun _ =>
  whole (versions && Nat.blt m.release run.release) 0x46 fun _ =>
  each (fun p => Nat.blt p.svn (s.garnet.rb.getD p.rb 0)) 0x47 fun _ => none

/-- A failed check is reported (R514, R517). -/
def State.verifyFailed (s : State) (reason part : Nat) : State :=
  ((s.set R.UPDATE.STAT_FAILPART part).refuse 0x54 reason part).raise 0x54 4

/-! ### The session (R514-R516) -/

/-- The session's state code. -/
def State.session (s : State) : Nat := s.get R.UPDATE.STAT_ST

/-- A session state: STAGED shows the staged release in VERIFIED, SCHEDULED and ACTIVATING. -/
def State.setSession (s : State) (st : Nat) : State :=
  (s.set R.UPDATE.STAT_ST st).set R.UPDATE.STAGED_VALUE
    (bif Nat.ble 3 st && Nat.ble st 5 then s.flash.staged.release else 0)

/-- The command's row for the session's state, BUSY first (R514). -/
def State.stage (s : State) (allowed : List Nat) (f : State → State) : State :=
  bif s.bit R.UPDATE.STAT_BUSY then s.refuse 0x54 RC.BUSY 0x20
  else bif allowed.any (Nat.beq s.session) then f s
  else s.refuse 0x54 STAGE_STATE 0x20

/-- OPEN. -/
def State.updateOpen (s : State) : State :=
  s.stage [0, 1, 3, 6] (fun s => (s.setAll [(R.UPDATE.STAT_BLOCKS, 0), (R.UPDATE.STAT_LATE, 0)]).setSession 1)

/-- WRITE of a block of bytes to a staging offset: the reason code that refuses it, 0 when it runs (R514, R515). -/
def State.stageWrite (s : State) (off : Nat) (bs : List Byte) : State × Nat :=
  bif s.bit R.UPDATE.STAT_BUSY then (s, RC.BUSY)
  else bif !([1, 3, 6].any (Nat.beq s.session)) then (s, STAGE_STATE)
  else bif !Nat.beq (off % 4096) 0 || Nat.blt 0x7EF000 off then (s, RC.BAD_VALUE)
  else (({ s with update := { s.update with writing := some (off, bs) } }.set R.UPDATE.STAT_BUSY 1).setSession 1, 0)

/-- WRITE through the page: 4,096 bytes at BUF in bank 3. -/
def State.updateWrite (s : State) : State :=
  let buf := s.get R.UPDATE.BUF_ADDR
  let r := s.stageWrite (s.get R.UPDATE.OFFSET_OFFSET) (s.sramList buf 4096)
  bif Nat.beq r.2 0 && !inBank3 buf 4096 then s.refuse 0x54 RC.BAD_VALUE 0x28
  else bif Nat.beq r.2 0 then r.1 else s.refuse 0x54 r.2 0x20

/-- VERIFY. -/
def State.updateVerify (s : State) : State :=
  s.stage [1, 6] (fun s => (s.set R.UPDATE.STAT_BUSY 1).setSession 2)

/-- SCHEDULE (R518); a recovery of R523 (VERIFY_FAIL without its own running set) activates at once, ESC_LOOP too. -/
def State.updateSchedule (s : State) : State :=
  s.stage [3] (fun s =>
    bif s.bit R.RTC.STAT_OSF then s.refuse 0x54 0x48 0x20
    else
      let at_ := s.get R.UPDATE.AT_LO_SEC_L + 2 ^ 32 * s.get R.UPDATE.AT_HI_SEC_H
      let s := { s with update := { s.update with schedAt := at_ } }.setSession 4
      let recovery := decide (s.mode = .maintenance) && (Nat.beq (s.get R.SYS.MODE_CAUSE) 1 || Nat.beq (s.get R.SYS.MODE_CAUSE) 2)
      bif recovery then (s.setSession 5).raise 0x54 2 else s)

/-- CANCEL. -/
def State.updateCancel (s : State) : State :=
  s.stage [1, 3, 4, 6] (fun s =>
    bif Nat.beq s.session 4 then { s with update := { s.update with schedAt := 0, due := false } }.setSession 3
    else s.setSession 0)

/-- A write of CMD.OP. -/
def State.updateCmd (s : State) (op : Nat) : State :=
  match op with
  | 1 => s.updateOpen
  | 2 => s.updateWrite
  | 3 => s.updateVerify
  | 4 => s.updateSchedule
  | 5 => s.updateCancel
  | _ => s.refuse 0x54 RC.BAD_VALUE 0x20

/-- UPDATE_OPEN (R514). -/
def execUpdateOpen (who : Requester) (s : State) : Host.Outcome State Fault Refusal :=
  s.command who 0x54 0x20 State.updateOpen

/-- UPDATE_WRITE (R515). -/
def execUpdateWrite (who : Requester) (s : State) : Host.Outcome State Fault Refusal :=
  s.command who 0x54 0x20 State.updateWrite

/-- UPDATE_VERIFY (R517). -/
def execUpdateVerify (who : Requester) (s : State) : Host.Outcome State Fault Refusal :=
  s.command who 0x54 0x20 State.updateVerify

/-- UPDATE_SCHEDULE (R518). -/
def execUpdateSchedule (who : Requester) (s : State) : Host.Outcome State Fault Refusal :=
  s.command who 0x54 0x20 State.updateSchedule

/-- UPDATE_CANCEL (R514). -/
def execUpdateCancel (who : Requester) (s : State) : Host.Outcome State Fault Refusal :=
  s.command who 0x54 0x20 State.updateCancel

/-- UPDATE_WRITE_COMPLETE (R515): the staging sector is erased, programmed and verified. -/
def execUpdateWriteComplete (p : ProgramResult) (e : EraseResult) (s : State) : Host.Outcome State Fault Refusal :=
  match s.update.writing with
  | none => .next s
  | some w =>
    let a := 0x00880000 + w.1
    let j := s.flash.jopen 1 0xFF a
    let t := ({ s with flash := j.1 }.eraseDone a false j.2 e).1
    let t := (t.programAt a w.2 p).1
    let t := { t with update := { t.update with writing := none } }.set R.UPDATE.STAT_BUSY 0
    .next ((t.bump R.UPDATE.STAT_BLOCKS).raise 0x54 0)

/-- UPDATE_VERIFY_COMPLETE (R514, R517): the checks' verdict. -/
def execUpdateVerifyComplete (s : State) : Host.Outcome State Fault Refusal :=
  bif Nat.beq s.session 2 then
    let t := s.set R.UPDATE.STAT_BUSY 0
    match s.verifySet true with
    | none => .next ((t.setSession 3).raise 0x54 1)
    | some f => .next (((t.setSession 6).bump R.UPDATE.CNT_VFAIL).verifyFailed f.1 f.2)
  else .next s

/-- FW_BLOCK_DEFERRED_WRITE (R516): UPDATE is no longer busy and E9 issues the WRITE of its waiting block. -/
def execFwBlockDeferredWrite (s : State) : Host.Outcome State Fault Refusal :=
  match s.update.waiting with
  | none => .next s
  | some w =>
    bif s.bit R.UPDATE.STAT_BUSY then .next s
    else
      let r := s.stageWrite w.1 w.2
      let t := { r.1 with update := { r.1.update with waiting := none } }
      .next (bif Nat.beq r.2 0 then t else { t with update := { t.update with refused := some (r.2, w.1) } })

end Sys2Proof.Machine
end

