-- ==== Sys2Proof/Machine/Modes.lean ====
section
/-!
DEFINITION. The mode machine (ch. 03, R78-R97): mode requests, mains loss and return, HOLD, retained settings, fault commands; and
the supply as the modes see it (ch. 02, R58-R77).
-/

namespace Sys2Proof.Machine

open Sys2Proof

def State.modModes (s : State) (f : ModeSt → ModeSt) : State := { s with modes := f s.modes }
def State.modSupply (s : State) (f : Supply → Supply) : State := { s with supply := f s.supply }

/-! ### Entering a mode -/

/-- The last gasp does not fit the alarm cell (R351). -/
def State.gaspNofit (s : State) : Bool :=
  !s.fits .rfA s.alarmCell { LinkFrame.blank with cls := 0, payload := zeros 33, mesh := some (meshIe s.ownShort 0 16 false false 0 []) }

/-- In SERVICE E6 keeps the last gasp composed, with its MSGID assigned (R351): to FINAL 0, a COORDINATOR's as a broadcast. -/
def State.composeGasp (s : State) : State :=
  bif s.standby then s
  else
    let r := s.needPeer (bif s.isCoord then 0xFFFF else 0)
    match r.2 with
    | none => r.1
    | some p =>
      let r := r.1.openTx p
      let p := r.2
      bif Nat.ble (2 ^ 32) p.nextId then r.1
      else
        let e := bif Nat.blt p.blockEnd p.nextId then p.blockEnd + 256 else p.blockEnd
        let s := (r.1.keepBlock p e).putPeer { p with nextId := p.nextId + 1, blockEnd := e }
        { s with modes := { s.modes with gaspId := some (p.txSess, p.nextId) } }

/-- E0 enters a mode: domains set (R43), MODE shown, MODE_CHG and, in compatibility mode, the MODE indication. Before
MAINTENANCE the open Strata record is closed (R527). -/
def State.enterMode (s : State) (m : Mode) (cause : Nat) : State :=
  let prev := s.leftMode
  let s := (s.onlyIf (decide (m = .maintenance)) State.strataClose).modeDomains m
  let s := ({ s with mode := m }.setAll [(R.SYS.MODE_PREV, prev), (R.SYS.MODE_CAUSE, cause)]).raise 0x00 0
  let s := s.onlyIf (decide (m = .service)) (fun s => (s.setBit R.MSG.STAT_LG_NOFIT s.gaspNofit).composeGasp)
  s.indicate 0xC2 (leBytes 4 s.modeWord)

/-- What HOLD leaves of the module: QUARTZ with the settings it works with, and the arrays (R78, R105). -/
def State.asleep (s : State) : State :=
  let prev := s.leftMode
  let cut := decide (s.mode = .boot)
  let kept := s.regs
  let s := (s.strataClose.strataLoss.resetCore).putRet kept
  ({ s with mode := .hold, mem := [], modes := ModeSt.reset, ret := { s.ret with escLoop := s.ret.escLoop && !cut },
            supply := { s.supply with v3on := false, v3lim := false, v3wait := false },
            bridge := { s.bridge with inReset := true, resetDue := false, silent := false, hold := false } }.set
    R.SYS.MODE_PREV prev).charger

/-- HOLD_ENTRY: settings are committed, the table log appended, an outstanding erase completed, and every domain but QUARTZ goes OFF
(R78, R84, R477). -/
def State.enterHold (s : State) (cause : Nat) : State :=
  let s := s.snapAppend.commitNow
  ({ s with flash := s.flash.finishErase }.asleep).set R.SYS.MODE_CAUSE cause

/-- QUARTZ loses its supply (R78, R443, R601): unpowered, or FIELD while a field is present. Flash, OTP and FRAM keep their contents. -/
def State.powerDown (s : State) : State :=
  let frozen := s.regs.filter (fun kv => [R.NFCTAG.CFG_NDEF_WR, R.NFCTAG.CFG_PWD_EN, R.NFCTAG.CFG_AES_EN, R.NFCTAG.CFG_AFI,
    R.NFCTAG.CFG_DSFID, R.NFCTAG.STAT_FAILCNT, R.NFCTAG.LASTWR_BLOCK, R.NFCTAG.LASTWR_FIELDONLY, R.NFCTAG.WRCNT_COUNT,
    R.NFCTAG.STAT_FIELD, R.NFCTAG.STAT_SESSION, R.NFCTAG.STAT_SEC, R.NFCTAG.STAT_ISOST].any (fun f => Nat.beq f.key kv.1) ||
    sessionKey kv.1)
  let r := s.ret
  let s := s.strataLoss.asleep
  { s with mode := bif s.supply.fieldPresent then .field else .unpowered,
           regs := Regs.putAll Regs.reset frozen, rtc := Rtc.reset, fabric := Fabric.reset, lamp := Lamp.reset,
           doms := Domains.reset,
           supply := { s.supply with up := false, shutdown := false },
           ret := { r with quartz := RetRecord.blank, escTimes := [], escReset := r.escResetFlash, again := false, escLoop := false } }

/-- HOLD while VBAK is usable, else the unpowered state; `keep` tells that the settings are committed first. -/
def State.sleepOrDie (s : State) (keep : Bool) (cause : Nat) : State :=
  bif s.bit R.PWR.SUPPLY_VBAK_OK then (bif keep then s.enterHold cause else s.asleep.set R.SYS.MODE_CAUSE cause)
  else (s.onlyIf keep State.commitNow).powerDown

/-- QUARTZ starts from the unpowered state (R78, R443, R454): POR, OSF, the count 0. -/
def State.quartzStart (s : State) : State :=
  s.setAll [(R.SYS.RESET_CAUSE_POR, 1), (R.RTC.STAT_OSF, 1), (R.HDR.IRQ 0x28 3, 1), (R.CLK.STAT_LF_OK, 1)]

/-- Engines change to K-format (R400): each one whose format it switches is reset and released; E0's own change waits for its next
JMP, CALL or RET. -/
def State.toKformat (s : State) : State :=
  let s := s.each (List.range 12) (fun k t =>
    let e := t.eng k
    let t := t.set (R.ENG.KFMT k) 1
    bif Nat.beq k 0 || e.kfmt || decide (e.run = .reset) then t else (t.engReset k).engRelease k)
  s.modEng 0 (fun e => { e with kfmtDue := !e.kfmt })

/-- MAINTENANCE is entered. -/
def State.toMaintenance (s : State) (cause : Nat) : State := (s.enterMode .maintenance cause).toKformat

/-! ### Mains loss and the last gasp (R59, R87-R89, R350, R351) -/

/-- Octets 1-17 of a SYSEVT body. -/
def State.sysevt (s : State) : List Byte := leBytes 4 (s.get R.SYS.OPSEC_SEC) ++ leBytes 5 s.rtc.sec ++ leBytes 8 s.energy

/-- E6 sends an ALARM message of PTYPE SYSEVT to FINAL 0 (R351), under the ID `id` that it holds for it already. Answers its queue record. -/
def State.sendSysevt (s : State) (body : List Byte) (id : Option (Nat × Nat)) : State × Nat :=
  let n := s.msg.nextNum
  let m := s.newMsg 13 0 0 0 0 0x02 body 0
  match id with
  | none => ((s.submitMsg m).admitMsg n, n)
  | some (sess, msgid) => ((s.submitMsg { m with sess := sess, msgid := msgid }).startAttempt n true, n)

/-- The one-hop broadcast of a COORDINATOR's last gasp (R322, R351). -/
def State.broadcastOnce (s : State) (body : List Byte) (id : Option (Nat × Nat)) : State :=
  let m := s.newMsg 13 0 0xFFFF 0 4 0x02 body 0
  let m := match id with | some (sess, msgid) => { m with sess := sess, msgid := msgid } | none => m
  s.enqueue { LinkFrame.blank with cls := 0, payload := fragHeader m 0 ++ body, frag := 1,
                                   mesh := some (meshIe s.ownShort 0xFFFF 1 false false 0 []) }

/-- E6 writes the loss values and orders the last gasp, which takes the first slot boundary (R87, R351). -/
def State.lastGasp (s : State) (rms : Nat) : State :=
  let rfb := s.inService .rfB
  let flags := (bif s.bit R.PWR.SUPPLY_VBAK_OK then 1 else 0) + (bif rfb then 2 else 0)
  let body := [0x01] ++ s.sysevt ++ leBytes 1 flags ++ leBytes 2 rms
  let id := s.modes.gaspId
  let s := s.modModes (fun m => { m with lastGasp := true, warmDue := false, lostAt := s.get R.SYS.OPSEC_SEC, gaspId := none })
  bif s.isCoord then
    let n := s.sched.nextNum
    let s := s.broadcastOnce body id
    { s with sched := { s.sched with gasp := some n } }
  else
    let r := s.sendSysevt body id
    let f := r.1.sched.queue.find? (fun (f : LinkFrame) => Nat.beq f.msg r.2)
    { r.1 with sched := { r.1.sched with gasp := f.map (fun f => f.num) } }

/-- The module's side of a loss in every mode: the supply no longer delivers, the mains side is unpowered (R75, R100, R117), a queued or
running relay pulse is discarded, the PLC driver is off, E4 leaves mains lock. -/
def State.mainsGone (s : State) : State :=
  let s := (s.setAll [(R.PWR.SUPPLY_MAINS, 0), (R.PWR.SUPPLY_BROWNOUT, 0)]).modSupply (fun p => { p with up := false })
  let s := s.unlock.plcCut.lampReset
  let s := s.each s.bridge.inflight (fun q t => t.flightRefused q)
  let s := s.modBridge (fun b => { b with inReset := true, silent := false, hold := false, resetDue := false, cfgDue := false, inflight := [] })
  (((s.goOff 19).goOff 20).goOff 21).charger

/-- SERVICE loses mains: the last gasp; OUTAGE at once where VBAK is usable, with E2, E3, E9 and RF-B left until the last gasp is
done (R87, R88). -/
def State.lossInService (s : State) (rms : Nat) : State :=
  let s := ((s.quiet .rfA).lastGasp rms).indicateAlarm
  let s := s.each (s.msg.queue.filter (fun (m : Msg) => !Nat.beq m.cls 0)) (fun m t => t.park m.num 3)
  bif !s.bit R.PWR.SUPPLY_VBAK_OK then s
  else
    let late (k : Nat) : Bool := Nat.beq k 7 || Nat.beq k 8 || Nat.beq k 14 || Nat.beq k 18
    let prev := s.leftMode
    let s := (s.pairStop true).each ((List.range 27).filter (fun k => !late k)) (fun k t => t.setDomain k (t.modeTarget .outage k))
    let en := s.bit R.PWR.V3OUT_OUTAGE_EN
    let s := s.modSupply (fun p => { p with v3on := p.v3on && en, v3lim := p.v3on && en, v3wait := p.v3wait && en })
    let s := s.modModes (fun m => { m with limitOn := !Nat.beq (s.get R.SYS.OUTAGE_LIMIT_MIN) 0, micaWake := false })
    let s := ({ s with mode := .outage }.setAll [(R.SYS.MODE_PREV, prev), (R.SYS.MODE_CAUSE, 6)]).raise 0x00 0
    s.indicate 0xC2 (leBytes 4 s.modeWord)

/-- Mains is lost (R59, R61, R78): what follows depends on the mode. -/
def State.mainsLost (s : State) (rms : Nat) : State :=
  bif !s.bit R.PWR.SUPPLY_MAINS then s
  else
    let s := s.mainsGone
    match s.mode with
    | .service => s.lossInService rms
    | .commission => s.sleepOrDie true 6
    | .maintenance => s.sleepOrDie true 6
    | .boot => s.sleepOrDie false 6
    | .outage => s.modModes (fun m => { m with warmDue := false })
    | .hold => s
    | .field => s
    | .unpowered => s

/-- A half-cycle loses mains: a peak below 99 V, or none with a missing crossing (R59). -/
def halfLost (h : Option HalfCycle) : Bool := match h with | none => true | some h => Nat.blt h.peak.toNat 99

/-- MAINS_LOST (R59); `lastRms` is the RMS of the last good half-cycle in 0.1 V. -/
def execMainsLost (half : Option HalfCycle) (lastRms : Half) (s : State) : Host.Outcome State Fault Refusal :=
  .next (bif halfLost half then s.mainsLost lastRms.toNat else s)

/-- OVERVOLTAGE (R61): above 320 VAC the supply stops delivering, as at a loss. -/
def execOvervoltage (rms lastRms : Half) (s : State) : Host.Outcome State Fault Refusal :=
  .next (bif Nat.blt 320 rms.toNat then
    (s.modSupply (fun p => { p with up := false })).set R.PWR.SUPPLY_OVERVOLT 1 |>.mainsLost lastRms.toNat else s)

/-! ### Return of mains (R59, R78, R90) -/

/-- A half-cycle counts towards Present (R59). -/
def halfGood (h : HalfCycle) : Bool :=
  Nat.ble 7500 h.us.toNat && Nat.ble h.us.toNat 11500 && Nat.ble 113 h.peak.toNat && Nat.ble h.rms.toNat 320

/-- WARM_RETURN (R90): SERVICE without BOOT. The mains side is configured first; the domains of SERVICE follow, and with them the engines
that were OFF restart from their images and shared SRAM; POWER_RESTORED follows. -/
def State.warmReturn (s : State) : State :=
  let s := s.modModes (fun m => { m with lastGasp := false, warmDue := false, limitOn := false, micaWake := false })
  let s := s.modSupply (fun p => { p with up := true, v3on := true, v3lim := false, v3wait := false })
  let s := (s.each [19, 20, 21] (fun k t => t.setDomain k (t.modeTarget .service k))).mainsConfigure
  let s := s.enterMode .service 0
  let s := s.onlyIf (Nat.beq (s.get (R.HDR.ST 0x4C)) 2) State.pairStart
  let away := s.get R.SYS.OPSEC_SEC - s.modes.lostAt
  let s := (s.sendSysevt ([0x02] ++ s.sysevt ++ leBytes 4 away) none).1
  ((s.unpark (fun m => Nat.beq m.parked 3)).indicateAlarm).charger.takeDue

/-- Mains is Present: PWR.SUPPLY shows it, and the mode's row acts (R78). In SERVICE it ends a loss that VBAK could not follow, while the
last gasp runs on the hold-up. The spec does not say when SUPPLY.OVERVOLT clears after an over-voltage; here it does when mains is Present
again (DESIGN CHOICE, log entry 53). -/
def State.mainsPresent (s : State) : State :=
  bif s.bit R.PWR.SUPPLY_MAINS then s
  else
    let s := (s.setAll [(R.PWR.SUPPLY_MAINS, 1), (R.PWR.SUPPLY_OVERVOLT, 0), (R.PWR.SUPPLY_BROWNOUT, 0)]).modSupply
      (fun p => { p with up := true })
    match s.mode with
    | .unpowered => s.quartzStart.toBoot
    | .field => s.quartzStart.toBoot
    | .hold => s.toBoot
    | .outage => bif s.modes.lastGasp then s.modModes (fun m => { m with warmDue := true }) else s.warmReturn
    | .service => bif s.modes.lastGasp then s.modModes (fun m => { m with warmDue := true }) else s.warmReturn
    | .boot => s
    | .commission => s
    | .maintenance => s

/-- MAINS_PRESENT (R59): three consecutive half-cycles that qualify. -/
def execMainsPresent (h1 h2 h3 : HalfCycle) (s : State) : Host.Outcome State Fault Refusal :=
  .next (bif halfGood h1 && halfGood h2 && halfGood h3 && !s.supply.shutdown then s.mainsPresent else s)

/-- LAST_GASP_COMPLETE (R87, R89, R91): acknowledged, or given up. -/
def execLastGaspComplete (s : State) : Host.Outcome State Fault Refusal :=
  bif !s.modes.lastGasp || s.sched.gasp.isSome then .next s
  else
    let t := (s.modModes (fun m => { m with lastGasp := false })).raise 0x00 2
    bif t.modes.warmDue && t.bit R.PWR.SUPPLY_MAINS then .next t.warmReturn
    else bif decide (t.mode = .outage) then
      let u := t.each [7, 8, 14, 18] (fun k t => t.setDomain k (t.modeTarget .outage k))
      .next (bif Nat.beq (u.get R.SYS.OUTAGE_LIMIT_MIN) 0 then u.enterHold 7 else u)
    else .next t

/-- SUPPLY_HOLD_UP_END (R62, R88): the stored energy runs out and VBAK cannot take over. -/
def execSupplyHoldUpEnd (s : State) : Host.Outcome State Fault Refusal :=
  .next (bif !s.bit R.PWR.SUPPLY_MAINS && !s.bit R.PWR.SUPPLY_VBAK_OK && s.running then s.powerDown else s)

/-! ### Brown-out, the supply, VBAK and V3_OUT -/

/-- BROWNOUT_START (R59, R117): charger suspended, reader field off, transmitters one at a time and at the limits, a queued relay pulse
deferred. -/
def execBrownoutStart (rms : Half) (s : State) : Host.Outcome State Fault Refusal :=
  bif s.bit R.PWR.SUPPLY_MAINS && !s.bit R.PWR.SUPPLY_BROWNOUT && Nat.ble 70 rms.toNat && Nat.blt rms.toNat 85 then
    let t := (((s.set R.PWR.SUPPLY_BROWNOUT 1).raise 0x02 3).charger.rdOff 5).limitSenders
    .next (bif t.lamp.pend.isSome then t.setAll [(R.AOUT.RLYSTAT_DEFER, 1), (R.PWR.BO_STAT_RLY_DEFER, 1)] else t)
  else .next s

/-- BROWNOUT_END (R117): the limits are lifted; a deferred pulse may start. -/
def execBrownoutEnd (rms : Half) (s : State) : Host.Outcome State Fault Refusal :=
  .next (bif s.bit R.PWR.SUPPLY_BROWNOUT && Nat.ble 85 rms.toNat then ((s.set R.PWR.SUPPLY_BROWNOUT 0).raise 0x02 4).charger.showAtt else s)

/-- E8 records a module fault as FAULT_MOD (R525). -/
def State.recordModule (s : State) (cause : Nat) : State := s.record 8 0x11 (leBytes 1 cause ++ zeros 7)

/-- A module block raises a fault (R93). -/
def State.moduleFault (s : State) (cause : Nat) : State := (s.capFault cause 0xF 0 0).recordModule cause

/-- A module fault that resets the module (R64, R97, R123): recorded in Strata, and after the reset on the FAULT page, with the operating
time of the fault. -/
def State.faultReset (s : State) (cause : Nat) (bit : Fld) : State :=
  let t := (s.recordModule cause).moduleReset bit
  bif decide (t.mode = .boot) then (t.capFault cause 0xF 0 0).set R.FAULT.P_TIME_SEC (s.get R.SYS.OPSEC_SEC) else t

/-- SUPPLY_FAULT (R64, R75): the supply shuts down for 1 s, with the module in reset. -/
def execSupplyFault (s : State) : Host.Outcome State Fault Refusal :=
  bif s.supply.up && s.running && !decide (s.mode = .outage) then
    .next ((s.modSupply (fun p => { p with up := false, shutdown := true, v3on := false, v3wait := false })).faultReset 0x11
      R.SYS.RESET_CAUSE_SUPPLY)
  else .next s

/-- SUPPLY_RESTART (R64): the second is over; the supply delivers again if mains is there. -/
def execSupplyRestart (s : State) : Host.Outcome State Fault Refusal :=
  let on := s.bit R.PWR.SUPPLY_MAINS
  .next (bif s.supply.shutdown then s.modSupply (fun p => { p with up := on, shutdown := false, v3on := on }) else s)

/-- OFFLINE_SUPPLY_UP (R71): V3_OUT turns on before mains is Present, unless it waits for its retry (R73). -/
def execOfflineSupplyUp (s : State) : Host.Outcome State Fault Refusal :=
  .next (bif !s.supply.up && !s.supply.shutdown then s.modSupply (fun p => { p with up := true, v3on := !p.v3wait, v3lim := false }) else s)

/-- VBAK_USABLE (R68, R78): above 2.2 V (25 mV a count). -/
def execVbakUsable (volts : Byte) (s : State) : Host.Outcome State Fault Refusal :=
  bif Nat.blt 88 volts.toNat then
    let t := (s.setAll [(R.PWR.SUPPLY_VBAK_OK, 1), (R.PWR.SUPPLY_VBAK, volts.toNat)])
    .next (match t.mode with
      | .unpowered => { t.quartzStart with mode := .hold }
      | .field => { t.quartzStart with mode := .hold }
      | _ => t.charger)
  else .next s

/-- VBAK_UNUSABLE (R68, R78): its average below 2.0 V. -/
def execVbakUnusable (volts : Byte) (s : State) : Host.Outcome State Fault Refusal :=
  bif Nat.blt volts.toNat 80 then
    let t := s.setAll [(R.PWR.SUPPLY_VBAK_OK, 0), (R.PWR.SUPPLY_VBAK, volts.toNat)]
    .next (match t.mode with
      | .hold => t.powerDown
      | .outage => bif t.bit R.PWR.SUPPLY_MAINS then t else t.powerDown
      | _ => t.charger)
  else .next s

/-- V3OUT_UNDERVOLTAGE (R73). -/
def execV3outUndervoltage (s : State) : Host.Outcome State Fault Refusal :=
  .next (bif s.supply.v3on then (s.modSupply (fun p => { p with v3on := false, v3wait := true })).moduleFault 0x12 else s)

/-- V3OUT_RETRY (R72, R73): V3_OUT turns on again where the supply delivers, or in OUTAGE where it is enabled. -/
def execV3outRetry (s : State) : Host.Outcome State Fault Refusal :=
  let on := s.supply.up || (decide (s.mode = .outage) && s.bit R.PWR.V3OUT_OUTAGE_EN)
  .next (bif s.supply.v3wait then s.modSupply (fun p => { p with v3on := on, v3lim := on && !p.up, v3wait := false }) else s)

/-- RSTN_LOW (R70, R75, R77, R78): the module is held in reset. -/
def execRstnLow (s : State) : Host.Outcome State Fault Refusal :=
  bif decide (s.mode = .unpowered) || decide (s.mode = .field) then .next s
  else .next ((s.modSupply (fun p => { p with rstnLow := true })).moduleReset R.SYS.RESET_CAUSE_PIN).charger

/-- XO_FAIL (R97, R123): cause 0x13, and the module is reset. -/
def execXoFail (s : State) : Host.Outcome State Fault Refusal :=
  .next (bif s.alive && s.bit R.CLK.STAT_XO_ON then
    (s.setAll [(R.CLK.STAT_XO_OK, 0), (R.CLK.STAT_PLL_LOCK, 0)]).faultReset 0x13 R.SYS.RESET_CAUSE_XO_FAIL
  else s)

/-- FIELD_PRESENT (R78). -/
def execFieldPresent (s : State) : Host.Outcome State Fault Refusal :=
  .next (bif decide (s.mode = .unpowered) && !s.bit R.NFCTAG.STAT_SESSION then s.tagField else s)

/-- FIELD_REMOVED (R78): a tear-safe write step in progress is completed first. -/
def execFieldRemoved (s : State) : Host.Outcome State Fault Refusal :=
  .next (bif decide (s.mode = .field) then s.tagFieldOff else s)

/-! ### Mode requests (R78, R79, R92) -/

/-- A request's common refusals: the key, BOOT, and one judged after a higher event in a state that has no row for it (R79, R92). -/
def State.modeReq (s : State) (who : Nat) (key : Half) (late row : Bool) (f : State → State) : State :=
  s.guarded who 0x00 0x24 (fun s =>
    bif !Nat.beq key.toNat 0xA55A then s.refuse 0x00 0x40 0x24
    else bif decide (s.mode = .boot) then s.refuse 0x00 0x45 0x24
    else bif late && !row then s.refuse 0x00 0x44 0x24
    else f s)

/-- MODE_REQ_HOLD (R78, R91). -/
def execModeReqHold (who : Requester) (key : Half) (late : Bool) (s : State) : Host.Outcome State Fault Refusal :=
  .next (s.modeReq who key late (decide (s.mode = .outage) && !s.bit R.PWR.SUPPLY_MAINS) (fun s =>
    bif s.bit R.PWR.SUPPLY_MAINS then s.refuse 0x00 0x42 0x24
    else bif decide (s.mode = .outage) then s.enterHold 4
    else s.refuse 0x00 0x41 0x24))

/-- MODE_REQ_COMMISSION (R78): the node leaves its network. -/
def execModeReqCommission (who : Requester) (key : Half) (late : Bool) (s : State) : Host.Outcome State Fault Refusal :=
  .next (s.modeReq who key late (decide (s.mode = .service)) (fun s =>
    bif decide (s.mode = .service) then (s.eraseIdentity.enterMode .commission 4).takeDue else s.refuse 0x00 0x41 0x24))

/-- MODE_REQ_SERVICE (R78): from COMMISSION once associated, with the identity committed; from MAINTENANCE the exit through BOOT. -/
def execModeReqService (who : Requester) (key : Half) (late : Bool) (s : State) : Host.Outcome State Fault Refusal :=
  .next (s.modeReq who key late (decide (s.mode = .commission) || decide (s.mode = .maintenance)) (fun s =>
    match s.mode with
    | .commission =>
      bif !s.joined then s.refuse 0x00 0x43 0x24
      else
        let s := { s with ret := { s.ret with identity := some ⟨s.ownPan, s.ownShort⟩ } }.commit
        (s.enterMode .service 4).takeDue
    | .maintenance => s.moduleReset R.SYS.RESET_CAUSE_MAINT
    | _ => s.refuse 0x00 0x41 0x24))

/-- MODE_REQ_MAINTENANCE (R78). -/
def execModeReqMaintenance (who : Requester) (key : Half) (late : Bool) (s : State) : Host.Outcome State Fault Refusal :=
  let row := decide (s.mode = .service) || decide (s.mode = .commission)
  .next (s.modeReq who key late row (fun s => bif row then (s.toMaintenance 4).takeDue else s.refuse 0x00 0x41 0x24))

/-- MAINTENANCE_WORK_COMPLETE (R78); an activation ends by its own step. -/
def execMaintenanceWorkComplete (s : State) : Host.Outcome State Fault Refusal :=
  .next (bif decide (s.mode = .maintenance) && !Nat.beq s.session 5 then s.moduleReset R.SYS.RESET_CAUSE_MAINT else s)

/-- OUTAGE_LIMIT_EXPIRY (R78, R79, R91). -/
def execOutageLimitExpiry (s : State) : Host.Outcome State Fault Refusal :=
  .next (bif decide (s.mode = .outage) && s.modes.limitOn && !s.bit R.PWR.SUPPLY_MAINS then s.enterHold 7 else s)

/-- HOLD_WAKE_EXPIRY (R78): after a Mica wake from HOLD. -/
def execHoldWakeExpiry (s : State) : Host.Outcome State Fault Refusal :=
  .next (bif decide (s.mode = .outage) && s.modes.micaWake && !s.bit R.PWR.SUPPLY_MAINS then s.enterHold 7 else s)

/-! ### Retained settings and operating time (R84, R86, R601) -/

/-- RET_COMMIT (R84, R86). -/
def execRetCommit (who : Requester) (s : State) : Host.Outcome State Fault Refusal :=
  s.writeCmd who 0x05 0x20 (fun s => bif s.bit R.RET.STAT_BUSY then s.refuse 0x05 0x40 0x20 else s.commit)

/-- RET_COMMIT_COMPLETE (R84). -/
def execRetCommitComplete (ok : Bool) (s : State) : Host.Outcome State Fault Refusal :=
  .next (bif s.bit R.RET.STAT_BUSY then s.commitEnd ok else s)

/-- OPSEC_SECOND (R97, R601): a second in any mode but FIELD and HOLD; the escalation window rolls on. -/
def execOpsecSecond (s : State) : Host.Outcome State Fault Refusal :=
  .next (bif s.running then ((s.bumpWrap R.SYS.OPSEC_SEC).runningValue R.SYS.OPSEC_SEC).escWindow else s)

/-! ### Faults (R93-R97) -/

/-- FAULT_CAPTURE (R93): a fault of a source that the others' own steps do not raise. -/
def execFaultCapture (cause : Byte) (src : BitVec 4) (detail : Half) (addr : Word) (s : State) : Host.Outcome State Fault Refusal :=
  .next (bif s.alive && (Nat.blt src.toNat 12 || Nat.beq src.toNat 15) then s.capFault cause.toNat src.toNat detail.toNat addr.toNat else s)

/-- A shared-SRAM parity fault resets every engine that owns the bank: bank 0 E5, bank 1 E1-E11, bank 2 E5, E6, E9, bank 3 E10, E11
(R29, R97). -/
def bankEngines (a : Nat) : List Nat :=
  bif !inSram a then []
  else match (a - 0x20000000) / 0x80000 with
  | 0 => [5]
  | 1 => [1, 2, 3, 4, 5, 6, 7, 8, 9, 10, 11]
  | 2 => [5, 6, 9]
  | _ => [10, 11]

/-- E0's default action on the fault in the primary slot (R97). -/
def State.faultAction (s : State) : State :=
  let cause := s.get R.FAULT.P_INFO_CAUSE
  let src := s.get R.FAULT.P_INFO_SRC
  bif Nat.ble 1 cause && Nat.ble cause 6 then
    bif Nat.blt src 12 then (bif Nat.beq src 0 then s else s.engRestart src)
    else bif Nat.beq cause 6 then s.each (bankEngines (s.get R.FAULT.P_ADDR_ADDR)) (fun k t => bif (t.eng k).image then t.engRestart k else t)
    else s
  else s

/-- FAULT_DONE (R95, R96, R97): E0 has taken the default action and writes DONE; a write by another requester is NOT_OWNER. -/
def execFaultDone (who : Requester) (s : State) : Host.Outcome State Fault Refusal :=
  s.writeCmd who 0x04 0x3C (fun s => bif s.bit R.FAULT.STATUS_ACTIVE then s.faultAction.faultDone else s)

/-- FAULT_HANDLER_TIMEOUT (R94): WDOG with source E0 escalates. -/
def execFaultHandlerTimeout (s : State) : Host.Outcome State Fault Refusal :=
  .next (bif s.bit R.FAULT.STATUS_ACTIVE then s.escalate 0x01 0 0 0 else s)

end Sys2Proof.Machine
end

