-- ==== Sys2Proof/Machine/Boot.lean ====
section
/-!
DEFINITION. BOOT (ch. 03, R80-R82; ch. 19, R480, R483; ch. 20, R504-R506), activation and recovery (ch. 21, R519-R523), and the Mica
wake (R185, R506).
-/

namespace Sys2Proof.Machine

open Sys2Proof

/-! ### Journal recovery (R483) -/

/-- A recovered entry is flagged and counted, and waits for its Strata record. -/
def State.noteRecovered (s : State) (e : JEntry) : State :=
  ({ s with flash := { s.flash with recovered := s.flash.recovered ++ [e] } }.set R.SYS.BOOT_STAT_RECOVERED 1).bump R.STORE.CNT1_RECOVER

/-- An erase whose outcome no operand gives ends well. -/
def EraseResult.plain : EraseResult := ⟨0, none, 0⟩

/-- Every OPEN entry in order: an erase is made again, a retirement that has its remap entry is complete, else its spare is erased; a copy
stays OPEN. Each erase takes the next of the results given. -/
def State.recoverEntries (s : State) : List JEntry → List EraseResult → State
  | [], _ => s
  | e :: es, rs =>
    let r := rs.headD EraseResult.plain
    match e.kind with
    | 1 => (((s.eraseDone e.addr false e.seq r).1).noteRecovered e).recoverEntries es (rs.drop 1)
    | 2 => (((s.eraseDone e.addr true e.seq r).1).noteRecovered e).recoverEntries es (rs.drop 1)
    | 4 =>
      bif Nat.blt e.k s.flash.remap.length then
        ({ s with flash := s.flash.jdone e.seq }.noteRecovered e).recoverEntries es rs
      else
        let a := 0x07980000 + 4096 * e.k
        let j := s.flash.jopen 1 0xFF a
        let t := ({ s with flash := j.1 }.eraseDone a false j.2 r).1
        ({ t with flash := t.flash.jdone e.seq }.noteRecovered e).recoverEntries es (rs.drop 1)
    | _ => s.recoverEntries es rs

/-! ### Verification and measurement (R80, R504, R505) -/

/-- A VERIFY_FAIL record of a part. -/
def State.noteFailed (s : State) (type id reason : Nat) : State :=
  s.record 0 0x20 (leBytes 1 type ++ leBytes 1 id ++ leBytes 1 reason ++ zeros 5)

/-- A Waltraus part failed (R81). -/
def State.waltrausFails (s : State) (type id reason : Nat) : State :=
  (s.noteFailed type id reason).modModes (fun m => { m with bootVerifyFail := true })

/-- Engine `k`'s image failed: the engine stays in reset (R23). -/
def State.imageFails (s : State) (k : Nat) : State :=
  (s.modModes (fun m => { m with failedImages := m.failedImages ++ [k] })).modEng k (fun e => { e with image := false })

/-- The digest of a part's bytes in the active images partition. -/
def State.partDigest (s : State) (p : Part) : List Byte := sha384 (s.flash.partBytes p)

/-- Why a part fails: its digest, then its security version (R504); 0 when neither does. -/
def State.partFault (s : State) (p : Part) : Nat :=
  bif !(s.partDigest p == p.digest) then 0x45 else bif Nat.blt p.svn (s.garnet.rb.getD p.rb 0) then 0x47 else 0

/-- The boot block, measured in MSLOT0 after the ROM: the selected one, and the other one where the selected one fails (R480). -/
def State.bootRom (s : State) : State :=
  let s := s.extend 0 0x01 0 Config.romDigest
  let bb := s.flash.selBb
  let s' := s.extend 0 0x02 0 (sha384 (s.flash.bootRegion bb))
  bif s.bootOk bb then s'
  else (s'.waltrausFails 1 0 0x43).onlyIf (s.bootOk (1 - bb)) (fun t => t.extend 0 0x02 0 (sha384 (t.flash.bootRegion (1 - bb))))

/-- The manifest in force verifies: its layout, its key and its signature (R511, R513). -/
def State.manifestOk (s : State) : Bool :=
  let m := s.flash.active
  m.magicOk && Nat.ble 21 m.nparts && Nat.ble m.nparts 41 && Nat.beq m.mlen (256 + 176 * m.nparts + 96) && m.partsOk &&
    sha384 m.wkey == Config.waltrausKeyHash && ecdsaVerify m.wkey (sha384 m.wsigBody) m.wsig

/-- The manifest is measured in MSLOT1 and verified. The spec gives its record no part TYPE and ID. -/
def State.bootManifest (s : State) : State :=
  let m := s.flash.active
  let s := s.extend 1 0x03 0 (sha384 (s.flash.bytes 0x00080000 (bif m.magicOk then min m.mlen 8192 else 256)))
  bif s.manifestOk then s
  else
    let f := s.freeBytes 2
    (s.spend 2).waltrausFails (f.getD 0 0).toNat (f.getD 1 0).toNat 0x41

/-- A Waltraus image is loaded, measured in `slot` and verified. -/
def State.bootImage (s : State) (slot k : Nat) : State :=
  match s.flash.active.part? 2 k with
  | none => s.imageFails k
  | some p =>
    let s := s.extend slot 0x04 k (s.partDigest p)
    let r := s.partFault p
    bif Nat.beq r 0 then
      (s.loadImage k (s.flash.partBytes p)).modEng k (fun e => { e with image := true, customer := false, outageFlag := false })
    else (s.waltrausFails 2 k r).imageFails k

/-- The table just loaded passes: the load check, the part's digest and its security version. -/
def State.tableOk (s : State) (k : Nat) (p : Part) : Bool :=
  (s.eng k).loadFail.isNone && (s.eng k).tableDigest == p.digest && Nat.ble (s.garnet.rb.getD p.rb 0) p.svn

/-- The Waltraus microcode of E0-E9 (MSLOT3). -/
def State.bootMcode (s : State) (k : Nat) : State :=
  match s.flash.active.part? 3 k with
  | none => s
  | some p =>
    let s := s.loadTable k p
    let ok := s.tableOk k p
    let s := (s.extend 3 0x05 k (s.eng k).tableDigest).tableVerdict k ok
    bif ok then s else s.waltrausFails 3 k (bif Nat.beq (s.partFault p) 0x47 then 0x47 else 0x45)

/-- The calibration tables in manifest order (MSLOT3). -/
def State.bootCal (s : State) : State :=
  s.each (s.flash.active.parts.filter (fun (p : Part) => Nat.beq p.type 4)) (fun p t =>
    let t := t.extend 3 0x06 p.id (t.partDigest p)
    let r := t.partFault p
    bif Nat.beq r 0 then t else t.waltrausFails 4 p.id r)

/-- Why a customer image fails: digest, version, key or signature (R502, R504, R512). -/
def State.customerFault (s : State) (p : Part) : Nat :=
  let m := s.flash.active
  let r := s.partFault p
  bif !Nat.beq r 0 then r
  else bif !s.garnet.ckeyOk m then 0x44
  else bif p.csig == zeros 96 || !m.csigOk p then 0x43
  else 0

/-- A customer image fails: CUST_FAIL, its record, its engine in reset (R23, R81). -/
def State.customerFails (s : State) (type k reason : Nat) : State :=
  ((s.noteFailed type k reason).set R.SYS.BOOT_STAT_CUST_FAIL 1).imageFails k

/-- The customer image of E10 or E11 and its table (MSLOT4, MSLOT5; R23, R411); E10 runs the reference image where none is listed (R24). -/
def State.bootCustomer (s : State) (k : Nat) : State :=
  match s.flash.active.part? 5 k with
  | none => bif Nat.beq k 10 then s.bootImage 4 10 else s
  | some p =>
    let s := s.extend (k - 6) 0x07 k (s.partDigest p)
    let r := s.customerFault p
    let s := bif Nat.beq r 0 then
        (s.loadImage k (s.flash.partBytes p)).modEng k (fun e => { e with image := true, customer := true, outageFlag := p.outage })
      else s.customerFails 5 k r
    match s.flash.active.part? 6 k with
    | none => s
    | some q =>
      let s := s.loadTable k q
      let ok := s.tableOk k q
      let s := (s.extend (k - 6) 0x05 k (s.eng k).tableDigest).tableVerdict k ok
      bif ok then s else s.customerFails 6 k (bif Nat.beq (s.partFault q) 0x47 then 0x47 else 0x45)

/-- The manifest, every image and table, in the order of R505. Nothing can be verified against a manifest that fails. -/
def State.verifyImages (s : State) : State :=
  let s := s.bootManifest
  bif !s.manifestOk then s.each ((List.range 12).drop 1) (fun k t => t.modEng k (fun e => { e with image := false }))
  else
    let s := s.each ((List.range 10).drop 1) (fun k t => t.bootImage 2 k)
    let s := (s.each (List.range 10) (fun k t => t.bootMcode k)).bootCal
    (s.bootCustomer 10).bootCustomer 11

/-- The boot block and, where one verifies, everything else (R80). In the boot ROM's own recovery no image is loaded (R523). -/
def State.verifyBoot (s : State) : State :=
  let s := s.bootRom
  bif s.runningBb.isSome then s.verifyImages else s

/-! ### Settings and owners (R83, R137, R175, R432, R460) -/

/-- The default raised-cosine ramp table. -/
def raisedCosine : List Nat :=
  [2, 10, 22, 39, 60, 86, 116, 150, 187, 227, 270, 316, 363, 412, 461, 511, 562, 611, 660, 707, 753, 796, 836, 873, 907, 937, 963, 984,
   1001, 1013, 1021, 1023]

/-- No entry decreases and the last is 1023. -/
def rampSound (l : List Nat) : Bool :=
  (List.range 31).all (fun k => Nat.ble (l.getD k 0) (l.getD (k + 1) 0)) && Nat.beq (l.getD 31 0) 1023

/-- The bytes of the calibration tables of the running manifest in flash (R86, R174). -/
def State.calBytes (s : State) : List Byte :=
  s.flash.active.parts.flatMap (fun p => bif Nat.beq p.type 4 then s.flash.partBytes p else [])

/-- The ramp tables of a chain appear on RFCAL; an unsound one is replaced (R174, R175). -/
def State.rampCheck (s : State) (c : Nat) : State :=
  let own := (List.range 16).flatMap (fun j =>
    let w := (Config.rampTable s.calBytes c j).toNat
    [w % 1024, w / 2 ^ 16 % 1024])
  let ok := rampSound own
  let l := bif ok then own else raisedCosine
  let s := s.each (List.range 16) (fun j t =>
    (t.set (R.RFCAL.RAMP_E2J c j) (l.getD (2 * j) 0)).set (R.RFCAL.RAMP_E2J1 c j) (l.getD (2 * j + 1) 0))
  s.setBit (bif Nat.beq c 0 then R.RFCAL.STAT_RAMP_DEF_A else R.RFCAL.STAT_RAMP_DEF_B) (!ok)

/-- The owner of page `p` for this BOOT: the retained assignment or the page map, but HOST in place of an engine without a listed
image. -/
def State.bootOwner (s : State) (p : Nat) : Nat :=
  let o := match s.ret.assign.find? (fun a => Nat.beq a.1 p) with | some a => a.2 | none => mapOwner p
  bif Nat.beq o 10 || Nat.beq o 11 then (bif s.listed o then o else 12) else o

/-- E0 sets the owners of pages, and of the timers, channels and inputs of engines without a listed image. -/
def State.bootOwners (s : State) : State :=
  let away (t : State) (f : Fld) : State :=
    let o := t.get f
    bif (Nat.beq o 10 || Nat.beq o 11) && !t.listed o then t.set f 12 else t
  let s := s.each mappedPages (fun p t => t.set (R.HDR.OWNER p) (t.bootOwner p))
  let s := s.each (List.range 16) (fun i t => away (away t (R.TIM.CFG_OWNER i)) (R.DMA.CFG_OWNER i))
  s.each ((List.range 64).drop 36) (fun n t => away t (R.EVT.SEL_OWNER n))

/-- The restore of R83; the tuner starts from its factory table where nothing retained exists (R176). -/
def State.bootRestore (s : State) : State :=
  let s := s.restore
  let s := s.onlyIf (Nat.beq (s.get R.SYS.RESTORE_SRC_SRC) 3) (fun s =>
    s.each (List.range 46) (fun j t => t.set (R.TUNER.TABLE j) (Config.factoryTuner j).toNat))
  s.set R.STORE.RETIRE_USED s.flash.remap.length

/-- E8's session record: a VERIFYING that a reset cut short is RECEIVING (R514). -/
def State.bootSession (s : State) : State :=
  (s.setSession (bif Nat.beq s.session 2 then 1 else s.session)).set R.UPDATE.RELEASE_VALUE s.flash.active.release

/-- E5 and E6 start to restore their tables and queues (R313, R342). -/
def State.startRestores (s : State) : State := (s.set R.MSG.STAT_RESTORING 1).setBit R.ASSOC.STAT_RESTORING s.isCoord

/-- The domains of BOOT are ON; the banks keep their contents (R29, R105). -/
def State.bootDomains (s : State) : State :=
  s.each ((List.range 27).filter (fun k => Nat.beq (s.modeRow .boot k) 2)) (fun k t => t.set (R.PWR.DOMSTAT k) 2)

/-- The release of reset: COMPAT_SEL is sampled, the oscillator starts, E0 runs the boot ROM, E8 will walk its partition (R51, R80,
R531). -/
def State.releaseReset (s : State) (compatSel : Bool) : State :=
  let s := (s.modSupply (fun p => { p with rstnLow := false, compatSel := compatSel })).startClocks.bootDomains
  let s := s.modModes (fun m => { ModeSt.reset with lostAt := m.lostAt })
  { s with strata := { s.strata with walking := true } }.engRelease 0

/-- BOOT_RESET_RELEASE (R80); in HOLD the release of RSTN ends what R70 and R75 hold. -/
def execBootResetRelease (compatSel : Bool) (erases : List EraseResult) (s : State) : Host.Outcome State Fault Refusal :=
  bif decide (s.mode = .boot) && !s.supply.shutdown && decide ((s.eng 0).run = .reset) then
    let t := s.releaseReset compatSel
    let t := (t.recoverEntries t.flash.opens erases).verifyBoot.bootRestore
    let t := ((t.bumpWrap R.SYS.PWRCYC_COUNT).runningValue R.SYS.PWRCYC_COUNT).bootOwners
    let t := ((t.rampCheck 0).rampCheck 1).bootSession.startRestores
    .next t.escWindow.mainsConfigure
  else .next (bif decide (s.mode = .hold) then (s.modSupply (fun p => { p with rstnLow := false })).charger else s)

/-! ### The end of BOOT (R81, R521, R523) -/

/-- The mode that BOOT chooses, and its cause (R81). -/
def State.bootMode (s : State) : Mode × Nat :=
  bif s.flash.openCopy.isSome then (.maintenance, 3)
  else bif s.modes.bootVerifyFail then (.maintenance, 1)
  else bif s.ret.escLoop then (.maintenance, 2)
  else bif s.ret.identity.isSome then (.service, 0)
  else (.commission, 0)

/-- Engines with a verified image are released in index order, in K-format in MAINTENANCE (R80, R400). -/
def State.releaseAll (s : State) (kformat : Bool) : State :=
  s.each ((List.range 12).drop 1) (fun k t =>
    let e := t.eng k
    bif e.image && !decide (e.mc = .failed) then (t.onlyIf kformat (·.set (R.ENG.KFMT k) 1)).engRelease k else t)

/-- RECOVER records of the entries that this BOOT recovered (R483). -/
def State.reportRecovered (s : State) : State :=
  let l := s.flash.recovered
  { s with flash := { s.flash with recovered := [] } }.each l (fun e t =>
    t.record 8 0x22 (leBytes 4 e.seq ++ leBytes 1 e.kind ++ zeros 3 ++ leBytes 4 e.addr))

/-- MAINTENANCE begins with the activation that its cause asks for: the open copy is resumed (R521); recovery activates a staged set that
passes the checks but that of versions, and without any boot block reports FAILED where none does (R523). -/
def State.bootActivation (s : State) (cause : Nat) : State :=
  match cause, s.flash.openCopy with
  | 3, some e => { s with update := { s.update with resumed := true, copySeq := e.seq } }.setSession 5
  | 1, _ =>
    bif (s.verifySet false).isNone then (s.setSession 5).raise 0x54 2
    else bif s.runningBb.isNone then (s.setSession 6).raise 0x54 4
    else s
  | _, _ => s

/-- BOOT_COMPLETE (R80, R81). -/
def execBootComplete (ms : Half) (s : State) : Host.Outcome State Fault Refusal :=
  bif decide (s.mode = .boot) && !decide ((s.eng 0).run = .reset) then
    let m := s.bootMode
    let maint := decide (m.1 = .maintenance)
    let t := (s.set R.SYS.BOOT_STAT_MS (min ms.toNat 255)).enterMode m.1 m.2
    let t := { t with ret := { t.ret with escLoop := false } }.releaseAll maint
    let t := (t.raise 0x00 1).reportRecovered
    let t := { t with update := { t.update with activated := false } }.raiseIf s.update.activated 0x54 3
    .next ((t.onlyIf maint (·.bootActivation m.2)).takeDue)
  else .next s

/-! ### Activation (R519-R522) -/

/-- A PRIMARY with its partner IN_SYNC hands over before it activates (R375, R519); it waits while the handover runs. -/
def State.handsOver (s : State) : Bool :=
  s.isCoord && s.isPrimary && Nat.beq s.pst 4 && Nat.beq (s.get R.PAIR.STAT_PARTNER) 3

/-- E0 enters MAINTENANCE for the activation, unless BOOT has led there (R520). -/
def State.activationMode (s : State) : State :=
  let cause := s.get R.SYS.MODE_CAUSE
  bif decide (s.mode = .maintenance) && !Nat.beq cause 0 && Nat.ble cause 3 then s
  else ((s.commit.snapAppend).onlyIf s.syncing (·.pairStop false)).toMaintenance 5

/-- Step 1 fails: ABORTED, and the module leaves by reset with its old images (R520). An open copy is given up. -/
def State.activationAborts (s : State) (reason part : Nat) : State :=
  let s := (s.set R.UPDATE.STAT_LAST 2).bump R.UPDATE.CNT_ABORTED
  let s := (s.verifyFailed reason part).setSession 6
  let f := match s.flash.openCopy with | some e => s.flash.jdone e.seq | none => s.flash
  { s with flash := f }.moduleReset R.SYS.RESET_CAUSE_MAINT

/-- Steps 1 and 2 of R520: the checks, then the COPY entry, which a resumed activation already has. -/
def State.activationOpens (s : State) (versions : Bool) : State :=
  match s.verifySet versions with
  | some f => s.activationAborts f.1 f.2
  | none =>
    match s.flash.openCopy with
    | some e => { s with update := { s.update with copySeq := e.seq } }
    | none =>
      let j := s.flash.jopen 3 0xFF 0x00880000
      { s with flash := j.1, update := { s.update with copySeq := j.2, resumed := false } }

/-- ACTIVATION_START (R519, R520). -/
def execActivationStart (s : State) : Host.Outcome State Fault Refusal :=
  let may := match s.mode with | .service => true | .commission => true | .maintenance => true | _ => false
  bif !Nat.beq s.session 5 || !may then .next s
  else bif s.handsOver then .next (bif s.pair.handover then s else s.handOver)
  else
    let versions := !(decide (s.mode = .maintenance) && Nat.beq (s.get R.SYS.MODE_CAUSE) 1)
    .next (s.activationMode.activationOpens versions)

/-- The staged bytes replace a destination: its sectors are erased, each journaled, and programmed (R482, R520). -/
def Flash.copyTo (f : Flash) (src dst n : Nat) : Flash :=
  let bs := f.bytes src n
  let f := (List.range ((n + 4095) / 4096)).foldl (fun (f : Flash) i => f.erased (dst + 4096 * i) false) f
  f.program dst bs

/-- A part is copied unless its destination matches its digest (R520 steps 3-5). -/
def Flash.copyPart (f : Flash) (bb : Nat) (p : Part) : Flash :=
  let dst := (bif Nat.beq p.type 1 then 0x40000 * bb else 0x00080000) + p.dstOff
  bif sha384 (f.bytes dst p.length) == p.digest then f else f.copyTo (0x00880000 + p.srcOff) dst p.length

/-- The boot block that an activation writes: the one not running; without a running one, the one not selected. -/
def State.targetBb (s : State) : Nat := 1 - (s.runningBb.getD s.flash.selBb)

/-- The counters rise to the largest SVN among the parts that name them (R503, R520 step 6). -/
def raiseRb (rb : List Nat) (parts : List Part) : List Nat :=
  parts.foldl (fun (rb : List Nat) (p : Part) => rb.modify p.rb (fun v => max v p.svn)) rb

/-- Steps 3 to 8 of R520. -/
def State.activate (s : State) : State :=
  let m := s.flash.staged
  let bb := s.targetBb
  let f := (m.parts.filter (fun (p : Part) => Nat.beq p.type 1)).foldl (fun (f : Flash) p => f.copyPart bb p) s.flash
  let f := (m.parts.filter (fun (p : Part) => !Nat.beq p.type 1)).foldl (fun (f : Flash) p => f.copyPart bb p) f
  let f := f.copyTo 0x00880000 0x00080000 (min m.mlen 8192)
  let f := ((f.swap bb).getD f).jdone s.update.copySeq
  let late := Nat.blt (s.update.schedAt + 60) s.rtc.sec
  let last := bif s.update.resumed then 3 else 1
  let s := { s with flash := f, garnet := { s.garnet with rb := raiseRb s.garnet.rb m.parts },
                    update := { s.update with activated := true, due := false, resumed := false } }
  ((s.setAll [(R.UPDATE.STAT_LAST, last), (R.UPDATE.STAT_LATE, bif late then 1 else s.get R.UPDATE.STAT_LATE)]).bump
    R.UPDATE.CNT_DONE).setSession 0

/-- ACTIVATION_COMPLETE (R520): the copy ends and the module is reset, or a destination still differs after two copies. -/
def execActivationComplete (copyFail : Bool) (s : State) : Host.Outcome State Fault Refusal :=
  bif decide (s.mode = .maintenance) && Nat.beq s.session 5 && s.flash.openCopy.isSome then
    .next (bif copyFail then (s.refuse 0x54 0x49 0).raise 0x54 4 else s.activate.moduleReset R.SYS.RESET_CAUSE_MAINT)
  else .next s

/-! ### The Mica wake (R78, R185, R506) -/

/-- Mica's call names this node. -/
def State.micaIds (s : State) (id : Nat) : Bool :=
  Nat.beq id (s.get R.MICA.ID0_ID) || (Nat.beq id (s.get R.MICA.ID1_ID) && !Nat.beq id 0)

/-- HOLD may end in OUTAGE: identity in retention RAM, VBAK at 2.6 V or more, HOLD_WAKE not 0. -/
def State.holdWakes (s : State) : Bool :=
  !s.resetHeld && s.ret.quartz.usable && s.ret.quartz.identity.isSome && Nat.ble 104 (s.get R.PWR.SUPPLY_VBAK) &&
    !Nat.beq (s.get R.SYS.HOLD_WAKE_MIN) 0

/-- The digest of RESTART: SYS.PWRCYC and SYS.OPSEC as little-endian words (R506). -/
def State.restartDigest (s : State) : List Byte :=
  sha384 (leBytes 4 (s.get R.SYS.PWRCYC_COUNT) ++ leBytes 4 (s.get R.SYS.OPSEC_SEC))

/-- E0 starts from retention RAM: domains of OUTAGE, images verified and measured again, engines released (R78, R105, R506). -/
def State.micaStart (s : State) : State :=
  let s := (s.restore.startClocks.modeDomains .outage).modModes (fun m => { m with failedImages := [], bootVerifyFail := false })
  let s := { s with strata := { s.strata with walking := true } }.engRelease 0
  let s := s.verifyBoot
  let s := (s.extend 6 0x0B 0 s.restartDigest).bootOwners.bootSession.startRestores
  let s := s.each ((List.range 12).drop 1) (fun k t => t.setDomain (5 + k) (t.modeTarget .outage (5 + k)))
  let s := s.each ((List.range 12).drop 1) (fun k t =>
    let e := t.eng k
    bif !Nat.beq (t.dom (5 + k)) 0 && e.image && !decide (e.mc = .failed) then t.engRelease k else t)
  let on := s.bit R.PWR.V3OUT_OUTAGE_EN
  let s := ((s.rampCheck 0).rampCheck 1).modSupply (fun p => { p with v3on := on, v3lim := on })
  let s := s.modModes (fun m => { m with micaWake := true, limitOn := !Nat.beq (s.get R.SYS.OUTAGE_LIMIT_MIN) 0 })
  ({ s with mode := .outage }.setAll [(R.SYS.MODE_PREV, 1), (R.SYS.MODE_CAUSE, 8)]).raise 0x00 0

/-- What every match leaves: the count, the ID, the flag and the events. -/
def State.micaMatched (s : State) (id : Nat) : State :=
  let s := (s.micaStops.bump R.MICA.COUNT_MATCH).set R.MICA.LAST_ID id
  let s := (s.raise 0x34 0).fire 48
  match (List.range 8).find? (fun n => s.bit (R.PWR.ASQ_CFG_EN n) && Nat.beq (s.get (R.PWR.ASQ_CFG_SRC n)) 0) with
  | some n => s.asqMatch n
  | none => s

/-- MICA_WAKE_MATCH (R185): `caller` is the neighbour that calls. The node that is awake answers it in its cells: its parent with a poll,
another neighbour with a keep-alive. -/
def execMicaWakeMatch (id : Word) (caller : Byte) (s : State) : Host.Outcome State Fault Refusal :=
  bif s.micaSwitch && s.bit R.MICA.STAT_LISTEN && s.micaIds id.toNat then
    let t := s.micaMatched id.toNat
    .next (match s.mode with
      | .hold => bif t.holdWakes then t.micaStart else t
      | _ =>
        let t := t.wakeCore 6
        bif decide (t.source = some caller.toNat) then t.poll else t.keepAlive caller.toNat)
  else .next s

end Sys2Proof.Machine
end

