-- ==== Sys2Proof/Machine/Flags.lean ====
section
/-!
DEFINITION. The flag computations of the Flint instruction set (R391, R392) and of the micro-ALU (R405, R407): every
function answers its result and FLAGS as they stand after it.
-/

namespace Sys2Proof.Machine

open Sys2Proof

/-- Z and N of a result; C and V as given. -/
def flagsOf {w : Nat} (r : BitVec w) (c v : Bool) : CpuFlags := ⟨c, r == 0, r.msb, v⟩

/-- A sum with a carry in: C is the carry out, V signed overflow. -/
def addFlags {w : Nat} (a b : BitVec w) (cin : Bool) : BitVec w × CpuFlags :=
  let sum := a.toNat + b.toNat + cin.toNat
  let r := BitVec.ofNat w sum
  (r, flagsOf r (Nat.ble (2 ^ w) sum) (a.msb == b.msb && !(r.msb == a.msb)))

/-- A difference with a borrow in: C is the borrow, V signed overflow. -/
def subFlags {w : Nat} (a b : BitVec w) (bin : Bool) : BitVec w × CpuFlags :=
  let r := a - b - BitVec.ofNat w bin.toNat
  (r, flagsOf r (Nat.blt a.toNat (b.toNat + bin.toNat)) (!(a.msb == b.msb) && !(r.msb == a.msb)))

/-- A logic result: C unchanged, V = 0. -/
def logicFlags {w : Nat} (r : BitVec w) (f : CpuFlags) : BitVec w × CpuFlags := (r, flagsOf r f.c false)

/-- INC and DEC: C unchanged. -/
def keepC {w : Nat} (p : BitVec w × CpuFlags) (f : CpuFlags) : BitVec w × CpuFlags := (p.1, { p.2 with c := f.c })

/-- A shift or rotate result with the bit shifted out in C; V = 0. -/
def shiftFlags {w : Nat} (r : BitVec w) (out : Bool) : BitVec w × CpuFlags := (r, flagsOf r out false)

/-- SHL, SHR, ASR, ROL and ROR by one, of any width. -/
def shl1 {w : Nat} (a : BitVec w) : BitVec w × CpuFlags := shiftFlags (a <<< 1) a.msb
def shr1 {w : Nat} (a : BitVec w) : BitVec w × CpuFlags := shiftFlags (a >>> 1) (a.getLsbD 0)
def asr1 {w : Nat} (a : BitVec w) : BitVec w × CpuFlags := shiftFlags (a.sshiftRight 1) (a.getLsbD 0)
def rol1 {w : Nat} (a : BitVec w) (c : Bool) : BitVec w × CpuFlags :=
  shiftFlags ((a <<< 1) ||| BitVec.ofNat w c.toNat) a.msb
def ror1 {w : Nat} (a : BitVec w) (c : Bool) : BitVec w × CpuFlags :=
  shiftFlags ((a >>> 1) ||| (BitVec.ofNat w c.toNat <<< (w - 1))) (a.getLsbD 0)

/-- Exchange the halves: the nibbles of a byte, the bytes of a word. -/
def swapHalves {w : Nat} (a : BitVec w) : BitVec w := (a <<< (w / 2)) ||| (a >>> (w / 2))

/-- The byte functions of two operands (R389). -/
inductive Alu8 where
  | mov | add | adc | sub | sbc | and | or | xor | cmp | tst
  deriving DecidableEq, Repr

/-- A two-operand byte function: the value for Gd, none for CMP and TST, and FLAGS. -/
def alu8 (fn : Alu8) (a b : Byte) (f : CpuFlags) : Option Byte × CpuFlags :=
  let keep (r : Byte × CpuFlags) : Option Byte × CpuFlags := (some r.1, r.2)
  match fn with
  | .mov => (some b, f)
  | .add => keep (addFlags a b false)
  | .adc => keep (addFlags a b f.c)
  | .sub => keep (subFlags a b false)
  | .sbc => keep (subFlags a b f.c)
  | .and => keep (logicFlags (a &&& b) f)
  | .or => keep (logicFlags (a ||| b) f)
  | .xor => keep (logicFlags (a ^^^ b) f)
  | .cmp => (none, (subFlags a b false).2)
  | .tst => (none, (logicFlags (a &&& b) f).2)

/-- The unary functions of R391. -/
inductive Unary where
  | inc | dec | not | neg | shl | shr | asr | rol | ror | swap | clr
  deriving DecidableEq, Repr

/-- A unary byte function. -/
def unary8 (fn : Unary) (a : Byte) (f : CpuFlags) : Byte × CpuFlags :=
  match fn with
  | .inc => keepC (addFlags a 1 false) f
  | .dec => keepC (subFlags a 1 false) f
  | .not => logicFlags (~~~a) f
  | .neg => subFlags 0 a false
  | .shl => shl1 a
  | .shr => shr1 a
  | .asr => asr1 a
  | .rol => rol1 a f.c
  | .ror => ror1 a f.c
  | .swap => logicFlags (swapHalves a) f
  | .clr => (0, ⟨f.c, true, false, false⟩)

/-- The word functions of R389. -/
inductive AluW where
  | addw | subw | cmpw | movw
  deriving DecidableEq, Repr

/-- A word function: the value for Wd, none for CMPW, and FLAGS. -/
def aluW (fn : AluW) (a b : Half) (f : CpuFlags) : Option Half × CpuFlags :=
  match fn with
  | .addw => let r := addFlags a b false; (some r.1, r.2)
  | .subw => let r := subFlags a b false; (some r.1, r.2)
  | .cmpw => (none, (subFlags a b false).2)
  | .movw => (some b, f)

/-- MULU: C tells that the high byte is not 0; V = 0. -/
def muluFlags (a b : Byte) : Half × CpuFlags :=
  let r := BitVec.ofNat 16 (a.toNat * b.toNat)
  (r, flagsOf r (Nat.ble 256 r.toNat) false)

/-- FLAGS as a byte, and from one (R376). -/
def CpuFlags.byte (f : CpuFlags) : Byte :=
  BitVec.ofNat 8 (f.c.toNat + 2 * f.z.toNat + 4 * f.n.toNat + 8 * f.v.toNat)
def flagsFrom (b : Byte) : CpuFlags := ⟨b.getLsbD 0, b.getLsbD 1, b.getLsbD 2, b.getLsbD 3⟩

/-- The condition of an E-format instruction (R386). -/
def CpuFlags.holds (f : CpuFlags) (cond : BitVec 3) : Bool :=
  match cond.toNat with
  | 0 => true
  | 1 => f.z
  | 2 => !f.z
  | 3 => f.c
  | 4 => !f.c
  | 5 => f.n
  | 6 => !f.n
  | _ => f.v

/-- The comparisons of R399, unsigned. -/
inductive Cmp where
  | eq | ne | lt | ge
  deriving DecidableEq, Repr

/-- A comparison's verdict. -/
def Cmp.holds {w : Nat} (c : Cmp) (a b : BitVec w) : Bool :=
  match c with
  | .eq => a == b
  | .ne => !(a == b)
  | .lt => Nat.blt a.toNat b.toNat
  | .ge => Nat.ble b.toNat a.toNat

/-- The micro-ALU (R405, R407): `fn` 0-11 on operands of one width with UC as the incoming carry. The flags answer UC, UZ and
what FL writes. -/
def microAlu {w : Nat} (fn : Nat) (a b : BitVec w) (f : CpuFlags) : BitVec w × CpuFlags :=
  match fn with
  | 0 => logicFlags a f
  | 1 => addFlags a b false
  | 2 => addFlags a b f.c
  | 3 => subFlags a b false
  | 4 => logicFlags (a &&& b) f
  | 5 => logicFlags (a ||| b) f
  | 6 => logicFlags (a ^^^ b) f
  | 7 => shl1 a
  | 8 => shr1 a
  | 9 => rol1 a f.c
  | 10 => ror1 a f.c
  | _ => logicFlags (swapHalves a) f

end Sys2Proof.Machine
end

