-- ==== Sys2Proof/Machine/Operands.lean ====
section
/-!
DEFINITION. The operands of the Flint instruction set: registers by index (R376, R377), instructions as a debugger's step
decodes them (R385-R399), their encoding, and effective addresses (R390).
-/

namespace Sys2Proof.Machine

open Sys2Proof

/-! ### Registers -/

/-- Gn. -/
def GRegs.get (g : GRegs) (n : BitVec 3) : Byte :=
  match n.toNat with
  | 0 => g.g0 | 1 => g.g1 | 2 => g.g2 | 3 => g.g3 | 4 => g.g4 | 5 => g.g5 | 6 => g.g6 | _ => g.g7

/-- Gn ← v. -/
def GRegs.put (g : GRegs) (n : BitVec 3) (v : Byte) : GRegs :=
  match n.toNat with
  | 0 => { g with g0 := v } | 1 => { g with g1 := v } | 2 => { g with g2 := v } | 3 => { g with g3 := v }
  | 4 => { g with g4 := v } | 5 => { g with g5 := v } | 6 => { g with g6 := v } | _ => { g with g7 := v }

/-- Wn = G(2n+1):G(2n). -/
def GRegs.getW (g : GRegs) (n : BitVec 2) : Half :=
  match n.toNat with
  | 0 => g.g1 ++ g.g0 | 1 => g.g3 ++ g.g2 | 2 => g.g5 ++ g.g4 | _ => g.g7 ++ g.g6

/-- Wn ← v: the odd register takes the high byte. -/
def GRegs.putW (g : GRegs) (n : BitVec 2) (v : Half) : GRegs :=
  let lo : Byte := v.truncate 8
  let hi : Byte := (v >>> 8).truncate 8
  match n.toNat with
  | 0 => { g with g0 := lo, g1 := hi } | 1 => { g with g2 := lo, g3 := hi }
  | 2 => { g with g4 := lo, g5 := hi } | _ => { g with g6 := lo, g7 := hi }

/-- Pn. -/
def PRegs.get (p : PRegs) (n : BitVec 2) : Half :=
  match n.toNat with
  | 0 => p.p0 | 1 => p.p1 | 2 => p.p2 | _ => p.p3

/-- Pn ← v. -/
def PRegs.put (p : PRegs) (n : BitVec 2) (v : Half) : PRegs :=
  match n.toNat with
  | 0 => { p with p0 := v } | 1 => { p with p1 := v } | 2 => { p with p2 := v } | _ => { p with p3 := v }

/-! ### Instructions -/

/-- What a push or a pop moves (R384, R389). -/
inductive StackReg where
  | g (n : BitVec 3)
  | p (n : BitVec 2)
  | w (n : BitVec 2)
  | flags
  deriving DecidableEq, Repr

/-- BTST, BSET, BCLR, BTGL. -/
inductive BitOp where
  | tst | set | clr | tgl
  deriving DecidableEq, Repr

/-- CLC, SEC, CLV. -/
inductive FlagOp where
  | clc | sec | clv
  deriving DecidableEq, Repr

/-- An instruction with its operands (R389). -/
inductive FOp where
  | alu (fn : Alu8) (d : BitVec 3) (src : Src8)
  | unary (fn : Unary) (d : BitVec 3)
  | aluw (fn : AluW) (d : BitVec 2) (src : Src16)
  | movp (d : BitVec 2) (src : Src16)
  | addp (d : BitVec 2) (src : Src16)
  | movpw (d w : BitVec 2)
  | movwp (d : BitVec 2) (src : PtrSrc)
  | ld (d : BitVec 3) (ea : Ea)
  | st (d : BitVec 3) (ea : Ea)
  | ldw (d : BitVec 2) (ea : Ea)
  | stw (d : BitVec 2) (ea : Ea)
  | push (r : StackReg)
  | pop (r : StackReg)
  | br (off : BitVec 8)
  | bra (off : BitVec 11)
  | jmp (tgt : Target)
  | call (tgt : Target)
  | ret
  | djnz (d : BitVec 3) (rel : Half)
  | nop
  | wait
  | movsp (p : BitVec 2)
  | brk
  | flag (op : FlagOp)
  | bit (op : BitOp) (d b : BitVec 3)
  | mulu (d g : BitVec 3)
  | cb (c : Cmp) (d : BitVec 3) (src : CbSrc)
  | cbw (c : Cmp) (d w : BitVec 2) (rel : Half)
  | cust (n : BitVec 4) (x : BitVec 5) (ext : Half)
  deriving DecidableEq, Repr

/-! ### Encoding (R385, R389-R399) -/

def Alu8.code : Alu8 → Nat
  | .mov => 0 | .add => 1 | .adc => 2 | .sub => 3 | .sbc => 4 | .and => 5 | .or => 6 | .xor => 7 | .cmp => 8 | .tst => 9

def Unary.code : Unary → Nat
  | .inc => 0 | .dec => 1 | .not => 2 | .neg => 3 | .shl => 4 | .shr => 5 | .asr => 6 | .rol => 7 | .ror => 8 | .swap => 9
  | .clr => 10

def AluW.code : AluW → Nat
  | .addw => 0 | .subw => 1 | .cmpw => 2 | .movw => 3

def Cmp.code : Cmp → Nat
  | .eq => 0 | .ne => 1 | .lt => 2 | .ge => 3

/-- X and the extension word of a byte operand, of a word operand, of an address. -/
def src8Code : Src8 → Nat × Option Half
  | .reg g => (g.toNat, none)
  | .imm v => (16, some (v.setWidth 16))

def src16Code : Src16 → Nat × Option Half
  | .reg n => (n.toNat, none)
  | .imm v => (16, some v)

def eaCode : Ea → Nat × Option Half
  | .ind p => (p.toNat, none)
  | .inc p => (4 + p.toNat, none)
  | .dec p => (8 + p.toNat, none)
  | .disp p d => (12 + p.toNat, some d)
  | .abs a => (16, some a)
  | .spDisp d => (20, some d)

/-- OP, X and the extension word of an instruction. -/
def FOp.code : FOp → Nat × Nat × Option Half
  | .alu fn d src => (8 * fn.code + d.toNat, src8Code src)
  | .unary fn d => (0x50 + d.toNat, fn.code, none)
  | .aluw fn d src => (0x58 + 4 * fn.code + d.toNat, src16Code src)
  | .movp d src => (0x68 + d.toNat, src16Code src)
  | .addp d src => (0x6C + d.toNat, src16Code src)
  | .movpw d w => (0x70 + d.toNat, w.toNat, none)
  | .movwp d (.ptr p) => (0x74 + d.toNat, p.toNat, none)
  | .movwp d .sp => (0x74 + d.toNat, 4, none)
  | .ld d ea => (0x78 + d.toNat, eaCode ea)
  | .st d ea => (0x80 + d.toNat, eaCode ea)
  | .ldw d ea => (0x88 + d.toNat, eaCode ea)
  | .stw d ea => (0x8C + d.toNat, eaCode ea)
  | .push (.g n) => (0x90 + n.toNat, 0, none)
  | .push (.p n) => (0x98 + n.toNat, 0, none)
  | .push (.w n) => (0x9C + n.toNat, 0, none)
  | .push .flags => (0xBA, 0, none)
  | .pop (.g n) => (0x90 + n.toNat, 1, none)
  | .pop (.p n) => (0x98 + n.toNat, 1, none)
  | .pop (.w n) => (0x9C + n.toNat, 1, none)
  | .pop .flags => (0xBB, 0, none)
  | .br off => (0xA0 + off.toNat / 32, off.toNat % 32, none)
  | .bra off => (0xA0 + off.toNat / 256, off.toNat % 256, none)
  | .jmp (.imm a) => (0xA8, 0, some a)
  | .jmp (.ptr p) => (0xA9, p.toNat, none)
  | .call (.imm a) => (0xAA, 0, some a)
  | .call (.ptr p) => (0xAB, p.toNat, none)
  | .ret => (0xAC, 0, none)
  | .djnz d rel => (0xB0 + d.toNat, 0, some rel)
  | .nop => (0xB8, 0, none)
  | .wait => (0xB9, 0, none)
  | .movsp p => (0xBC, p.toNat, none)
  | .brk => (0xBD, 0, none)
  | .flag .clc => (0xBF, 0, none)
  | .flag .sec => (0xBF, 1, none)
  | .flag .clv => (0xBF, 2, none)
  | .bit op d b =>
    (0xC0 + d.toNat, 8 * (match op with | .tst => 0 | .set => 1 | .clr => 2 | .tgl => 3) + b.toNat, none)
  | .mulu d g => (0xC8 + d.toNat, g.toNat, none)
  | .cb c d (.reg g rel) => (0xD0 + d.toNat, 64 * c.code + g.toNat, some rel)
  | .cb c d (.imm v rel) => (0xD0 + d.toNat, 64 * c.code + 32, some (v ++ rel))
  | .cbw c d w rel => (0xD8 + d.toNat, 64 * c.code + w.toNat, some rel)
  | .cust n x ext => (0xE0 + n.toNat, x.toNat, some ext)

/-- The first word of an instruction in a format, as FAULT.DETAIL shows it (R385, R397, R401). -/
def FOp.word (op : FOp) (kfmt : Bool) (cond : BitVec 3) : Nat :=
  bif kfmt then 256 * op.code.1 + op.code.2.1 else 0x2000 * cond.toNat + 32 * op.code.1 + op.code.2.1 % 32

/-- How many words the instruction has; a customer instruction's extension word depends on its decode entry. -/
def FOp.words (op : FOp) (e : Engine) : Nat :=
  match op with
  | .cust n _ _ => bif (e.decode.look n.toNat).testBit 8 then 2 else 1
  | op => bif op.code.2.2.isSome then 2 else 1

/-- The instruction belongs to the other format (R389, R398). -/
def FOp.otherFormat (op : FOp) (kfmt : Bool) : Bool :=
  match op with
  | .cb _ _ _ => !kfmt
  | .cbw _ _ _ _ => !kfmt
  | .cust _ _ _ => kfmt
  | _ => false

/-! ### Decoding: what a debug step reads at PC (R385-R399) -/

/-- A byte operand: I = 0 with X[3] = 0, or I = 1 with the rest of X and ext[15:8] 0. -/
def src8Of (x ext : Nat) : Option Src8 :=
  bif Nat.blt x 8 then some (.reg (BitVec.ofNat 3 x))
  else bif Nat.beq x 16 && Nat.blt ext 256 then some (.imm (BitVec.ofNat 8 ext))
  else none

def src16Of (x ext : Nat) : Option Src16 :=
  bif Nat.blt x 4 then some (.reg (BitVec.ofNat 2 x))
  else bif Nat.beq x 16 then some (.imm (BitVec.ofNat 16 ext))
  else none

/-- An addressing mode; modes 6 and 7 and a pointer named in modes 4 and 5 are illegal. -/
def eaOf (x ext : Nat) : Option Ea :=
  let p := BitVec.ofNat 2 x
  let d := BitVec.ofNat 16 ext
  match x / 4 with
  | 0 => some (.ind p) | 1 => some (.inc p) | 2 => some (.dec p) | 3 => some (.disp p d)
  | 4 => bif Nat.beq (x % 4) 0 then some (.abs d) else none
  | 5 => bif Nat.beq (x % 4) 0 then some (.spDisp d) else none
  | _ => none

def alu8Of (n : Nat) : Alu8 :=
  match n with
  | 0 => .mov | 1 => .add | 2 => .adc | 3 => .sub | 4 => .sbc | 5 => .and | 6 => .or | 7 => .xor | 8 => .cmp | _ => .tst

def unaryOf (x : Nat) : Option Unary :=
  match x with
  | 0 => some .inc | 1 => some .dec | 2 => some .not | 3 => some .neg | 4 => some .shl | 5 => some .shr | 6 => some .asr
  | 7 => some .rol | 8 => some .ror | 9 => some .swap | 10 => some .clr | _ => none

def aluWOf (n : Nat) : AluW :=
  match n with | 0 => .addw | 1 => .subw | 2 => .cmpw | _ => .movw

def cmpOf (n : Nat) : Cmp :=
  match n with | 0 => .eq | 1 => .ne | 2 => .lt | _ => .ge

/-- An operand or nothing, under a condition on the unused bits. -/
def when {α : Type} (ok : Bool) (v : α) : Option α := bif ok then some v else none

/-- The rows of R389 that both formats share, by OP and X. -/
def decodeShared (op x ext : Nat) : Option FOp :=
  let g := BitVec.ofNat 3 op
  let q := BitVec.ofNat 2 op
  let e16 := BitVec.ofNat 16 ext
  bif Nat.blt op 0x50 then (src8Of x ext).map (.alu (alu8Of (op / 8)) g)
  else bif Nat.blt op 0x58 then (unaryOf x).map (.unary · g)
  else bif Nat.blt op 0x68 then (src16Of x ext).map (.aluw (aluWOf ((op - 0x58) / 4)) q)
  else bif Nat.blt op 0x6C then (src16Of x ext).map (.movp q)
  else bif Nat.blt op 0x70 then (src16Of x ext).map (.addp q)
  else bif Nat.blt op 0x74 then when (Nat.blt x 4) (.movpw q (BitVec.ofNat 2 x))
  else bif Nat.blt op 0x78 then
    (bif Nat.blt x 4 then some (.movwp q (.ptr (BitVec.ofNat 2 x))) else when (Nat.beq x 4) (.movwp q .sp))
  else bif Nat.blt op 0x80 then (eaOf x ext).map (.ld g)
  else bif Nat.blt op 0x88 then (eaOf x ext).map (.st g)
  else bif Nat.blt op 0x8C then (eaOf x ext).map (.ldw q)
  else bif Nat.blt op 0x90 then (eaOf x ext).map (.stw q)
  else bif Nat.blt op 0x98 then when (Nat.blt x 2) (bif Nat.beq x 0 then .push (.g g) else .pop (.g g))
  else bif Nat.blt op 0x9C then when (Nat.blt x 2) (bif Nat.beq x 0 then .push (.p q) else .pop (.p q))
  else bif Nat.blt op 0xA0 then when (Nat.blt x 2) (bif Nat.beq x 0 then .push (.w q) else .pop (.w q))
  else bif Nat.beq op 0xA8 then when (Nat.beq x 0) (.jmp (.imm e16))
  else bif Nat.beq op 0xA9 then when (Nat.blt x 4) (.jmp (.ptr (BitVec.ofNat 2 x)))
  else bif Nat.beq op 0xAA then when (Nat.beq x 0) (.call (.imm e16))
  else bif Nat.beq op 0xAB then when (Nat.blt x 4) (.call (.ptr (BitVec.ofNat 2 x)))
  else bif Nat.beq op 0xAC then when (Nat.beq x 0) .ret
  else bif Nat.blt op 0xB0 then none
  else bif Nat.blt op 0xB8 then when (Nat.beq x 0) (.djnz g e16)
  else bif Nat.beq op 0xB8 then when (Nat.beq x 0) .nop
  else bif Nat.beq op 0xB9 then when (Nat.beq x 0) .wait
  else bif Nat.beq op 0xBA then when (Nat.beq x 0) (.push .flags)
  else bif Nat.beq op 0xBB then when (Nat.beq x 0) (.pop .flags)
  else bif Nat.beq op 0xBC then when (Nat.blt x 4) (.movsp (BitVec.ofNat 2 x))
  else bif Nat.beq op 0xBD then when (Nat.beq x 0) .brk
  else bif Nat.beq op 0xBF then
    (bif Nat.beq x 0 then some (.flag .clc) else bif Nat.beq x 1 then some (.flag .sec) else when (Nat.beq x 2) (.flag .clv))
  else bif Nat.blt op 0xC0 then none
  else bif Nat.blt op 0xC8 then
    when (Nat.blt x 32) (.bit (match x / 8 with | 0 => .tst | 1 => .set | 2 => .clr | _ => .tgl) g (BitVec.ofNat 3 x))
  else bif Nat.blt op 0xD0 then when (Nat.blt x 8) (.mulu g (BitVec.ofNat 3 x))
  else none

/-- The instruction that two words spell in a format; none raises ILLEGAL. -/
def decodeFlint (kfmt : Bool) (w ext : Nat) : Option FOp :=
  let op := bif kfmt then w / 256 else w / 32 % 256
  let x := bif kfmt then w % 256 else w % 32
  let q := BitVec.ofNat 2 op
  let e16 := BitVec.ofNat 16 ext
  bif Nat.ble 0xA0 op && Nat.blt op 0xA8 then
    some (bif kfmt then .bra (BitVec.ofNat 11 (256 * (op % 8) + x)) else .br (BitVec.ofNat 8 (32 * (op % 8) + x)))
  else bif kfmt && Nat.ble 0xD0 op && Nat.blt op 0xD8 then
    bif x.testBit 5 then
      when (Nat.beq (x % 32) 0) (.cb (cmpOf (x / 64)) (BitVec.ofNat 3 op) (.imm (BitVec.ofNat 8 (ext / 256)) (BitVec.ofNat 8 ext)))
    else when (Nat.beq (x / 8 % 4) 0) (.cb (cmpOf (x / 64)) (BitVec.ofNat 3 op) (.reg (BitVec.ofNat 3 x) e16))
  else bif kfmt && Nat.ble 0xD8 op && Nat.blt op 0xDC then
    when (Nat.beq (x / 4 % 16) 0) (.cbw (cmpOf (x / 64)) q (BitVec.ofNat 2 x) e16)
  else bif !kfmt && Nat.ble 0xE0 op && Nat.blt op 0xF0 then some (.cust (BitVec.ofNat 4 op) (BitVec.ofNat 5 x) e16)
  else decodeShared op x ext

/-! ### Effective addresses (R390) -/

/-- The pointer that an addressing mode changes, and its value afterwards, for an access of `n` bytes. -/
def eaUpdate (ea : Ea) (p : PRegs) (n : Nat) : PRegs :=
  match ea with
  | .inc q => p.put q (p.get q + BitVec.ofNat 16 n)
  | .dec q => p.put q (p.get q - BitVec.ofNat 16 n)
  | _ => p

/-- The effective address. -/
def eaAddress (ea : Ea) (p : PRegs) (sp : Half) (n : Nat) : Half :=
  match ea with
  | .ind q => p.get q
  | .inc q => p.get q
  | .dec q => p.get q - BitVec.ofNat 16 n
  | .disp q d => p.get q + d
  | .abs a => a
  | .spDisp d => sp + d

end Sys2Proof.Machine
end

