-- ==== Sys2Proof/Machine/View.lean ====
section
/-!
DEFINITION. What a register reads as (R124, R139, and the page tables): the stored fields of its word and, beside them, the fields
that are a view of other state. HOST_IRQ (R149). Reading has no effect here; Bus.lean has the reads that act.
-/

namespace Sys2Proof.Machine

open Sys2Proof

/-! ### The registers of a page -/

/-- The block-specific registers of page `p`: the runs of offsets that its table defines; the others are reserved (R11). -/
def regRuns (p : Nat) : List (Nat × Nat) :=
  match p with
  | 0x00 => [(0x20, 0x40)] | 0x01 => [(0x20, 0x34), (0x40, 0x88), (0xA0, 0xC4)] | 0x02 => [(0x20, 0x48), (0x60, 0x9C)]
  | 0x03 => [(0x20, 0x34)] | 0x04 => [(0x20, 0x44)] | 0x05 => [(0x20, 0x28)]
  | 0x1C => [(0x20, 0x30), (0x40, 0x7C)] | 0x1D => [(0x20, 0x38)] | 0x20 => [(0x20, 0x9C)] | 0x21 => [(0x20, 0x9C)]
  | 0x22 => [(0x20, 0xA4)] | 0x24 => [(0x20, 0xE8)] | 0x25 => [(0x20, 0xDC)] | 0x26 => [(0x20, 0xDC)] | 0x27 => [(0x20, 0xDC)]
  | 0x28 => [(0x20, 0x64)] | 0x2A => [(0x20, 0x2C), (0x40, 0xBC)] | 0x2B => [(0x40, 0xBC)]
  | 0x30 => [(0x20, 0x38)] | 0x31 => [(0x20, 0x38)] | 0x32 => [(0x20, 0x4C), (0x80, 0xFC)] | 0x33 => [(0x20, 0x24), (0x40, 0x6C)]
  | 0x34 => [(0x20, 0x38)] | 0x35 => [(0x20, 0x2C)] | 0x38 => [(0x20, 0x48), (0x80, 0xFC)] | 0x3A => [(0x20, 0x30)]
  | 0x3B => [(0x20, 0x58), (0x60, 0x9C)] | 0x3C => [(0x20, 0x94), (0xA0, 0xA4)]
  | 0x40 => [(0x20, 0x58), (0x60, 0xB0)] | 0x41 => [(0x20, 0x3C)] | 0x42 => [(0x20, 0x58)] | 0x44 => [(0x20, 0x6C)]
  | 0x45 => [(0x20, 0x44)] | 0x48 => [(0x20, 0x70)] | 0x4C => [(0x20, 0x4C)]
  | 0x50 => [(0x20, 0x50), (0x60, 0x7C)] | 0x51 => [(0x20, 0x2C), (0x40, 0x6C)] | 0x52 => [(0x20, 0x2C)]
  | 0x53 => [(0x20, 0x30), (0x40, 0x6C)] | 0x54 => [(0x20, 0x40)] | 0x58 => [(0x20, 0x30), (0x80, 0xFC)]
  | 0x59 => [(0x20, 0x50)] | 0x5C => [(0x20, 0x50)]
  | 0x60 => [(0x20, 0x38), (0x40, 0x50)] | 0x61 => [(0x20, 0x38)] | 0x62 => [(0x20, 0x5C)] | 0x63 => [(0x20, 0x44)]
  | 0x68 => [(0x20, 0x40), (0x80, 0xBC)] | 0x69 => [(0x20, 0x60)] | 0x6A => [(0x20, 0x30)]
  | _ => bif Nat.ble 0x10 p && Nat.ble p 0x1B then [(0x20, 0x40)] else []

/-- Page `p` has a register at an offset (R124, R139). -/
def hasReg (p off : Nat) : Bool :=
  Nat.blt off 0x1C || (regRuns p).any (fun r => Nat.ble r.1 off && Nat.ble off r.2)

/-- The first page of a block of several pages (ID.TYPE, R124). -/
def blockType (p : Nat) : Nat :=
  bif Nat.ble 0x10 p && Nat.ble p 0x1B then 0x10
  else bif Nat.ble 0x20 p && Nat.ble p 0x22 then 0x20
  else bif Nat.ble 0x24 p && Nat.ble p 0x27 then 0x24
  else bif Nat.ble 0x2A p && Nat.ble p 0x2B then 0x2A
  else p

/-- ID of page `p` (R124). -/
def idWord (p : Nat) : Nat := blockType p + 2 ^ 8 * (p - blockType p) + 2 ^ 16 * 0x10

/-- IRQ_STAT of page `p` as a word. -/
def State.irqWord (s : State) (p : Nat) : Nat := ((List.range 32).map (fun b => s.get (R.HDR.IRQ p b) * 2 ^ b)).sum

/-- A header register of page `p` (R124); CTL of an ENG page has KFMT beside it. -/
def State.headerWord (s : State) (p off : Nat) : Nat :=
  match off with
  | 0x00 => idWord p
  | 0x04 => s.get (R.HDR.EN p) + 4 * s.get (R.HDR.LOCK p) + s.storedWord p 0x04
  | 0x08 => s.get (R.HDR.ST p) + 2 ^ 8 * s.get (R.HDR.REASON p) + 2 ^ 16 * s.get (R.HDR.BLK p)
  | 0x0C => s.irqWord p
  | 0x10 => s.get (R.HDR.MASK p)
  | 0x14 => s.get (R.HDR.OWNER p) + 2 ^ 8 * s.get (R.HDR.SEC p)
  | 0x18 => s.get (R.HDR.ERRINFO p)
  | _ => 0

/-! ### HOST_IRQ (R149) -/

/-- Page `p` holds an IRQ_STAT bit that drives HOST_IRQ: it is HOST's, or SYS or FAULT, and the bit's mask is clear. -/
def State.irqShown (s : State) (p : Nat) : Bool :=
  (Nat.beq (s.get (R.HDR.OWNER p)) HOST || Nat.beq p 0x00 || Nat.beq p 0x04) &&
    (List.range 32).any (fun b => s.bit (R.HDR.IRQ p b) && !(s.get (R.HDR.MASK p)).testBit b)

/-- The level of HOST_IRQ is low: an interrupt waits (R149, R157). -/
def State.hostIrq (s : State) : Bool :=
  mappedPages.any s.irqShown || (s.supply.compatSel && !s.compat.queue.isEmpty)

/-! ### Fields that are a view -/

/-- A value in a field's place of its word. -/
def Fld.place (f : Fld) (v : Nat) : Nat := v % 2 ^ f.width * 2 ^ f.lsb

/-- A flag in a field's place. -/
def Fld.flag (f : Fld) (b : Bool) : Nat := f.place (bif b then 1 else 0)

def Run.code : Run → Nat
  | .reset => 0 | .running => 1 | .waiting => 2 | .halted => 3

def McState.code : McState → Nat
  | .empty => 0 | .loading => 1 | .measured => 2 | .failed => 3

/-- A signed value in `n` bits. -/
def signedIn (n : Nat) (v : Int) : Nat := (BitVec.ofInt n v).toNat

/-- The register that DBGSEL names (R419). -/
def Engine.debugReg (e : Engine) (n : Nat) : Nat :=
  bif Nat.blt n 8 then (e.g.get (BitVec.ofNat 3 n)).toNat
  else bif Nat.blt n 12 then (e.p.get (BitVec.ofNat 2 (n - 8))).toNat
  else match n with
  | 12 => e.sp.toNat
  | 13 => e.pc.toNat
  | 14 => e.flags.byte.toNat
  | _ => e.winbase.toNat

/-- Write the register that DBGSEL names. -/
def Engine.debugPut (e : Engine) (n w : Nat) : Engine :=
  bif Nat.blt n 8 then { e with g := e.g.put (BitVec.ofNat 3 n) (BitVec.ofNat 8 w) }
  else bif Nat.blt n 12 then { e with p := e.p.put (BitVec.ofNat 2 (n - 8)) (BitVec.ofNat 16 w) }
  else match n with
  | 12 => { e with sp := BitVec.ofNat 16 w }
  | 13 => { e with pc := BitVec.ofNat 16 w }
  | 14 => { e with flags := flagsFrom (BitVec.ofNat 8 w) }
  | _ => { e with winbase := BitVec.ofNat 32 w &&& 0xFFFFC000#32 }

/-- NBR0-NBR3 of the selected neighbour (R253 and the SCHED table). -/
def State.nbrWord (s : State) (off : Nat) : Nat :=
  match s.nbr? (s.get R.SCHED.NBRSEL_INDEX) with
  | none => bif Nat.beq off 0xA0 then 0x808080 else 0
  | some n =>
    match off with
    | 0x9C => R.SCHED.NBR0_SYNC.place n.sync + R.SCHED.NBR0_LOCKED.flag n.locked + R.SCHED.NBR0_OUTAGE.flag n.outage +
        R.SCHED.NBR0_SLEEPY.flag n.sleepy + R.SCHED.NBR0_MISS.place (min n.miss 3) + R.SCHED.NBR0_GUARD_US.place n.guard
    | 0xA0 => nbrEst n .rfA + 2 ^ 8 * nbrEst n .rfB + 2 ^ 16 * nbrEst n .plc + 2 ^ 24 * (min n.probe 255)
    | 0xA4 => min (s.age n) 0xFFFFFF
    | _ => signedIn 16 n.err + 2 ^ 16 * min n.resyncs 0xFFFF

/-- NBRSEQ of LINK. -/
def State.nbrSeqWord (s : State) : Nat :=
  match s.nbr? (s.get R.LINK.NBRSEL_INDEX) with
  | none => 0
  | some n =>
    let last := match n.recs with | r :: _ => r.seq | [] => 0
    R.LINK.NBRSEQ_TXSEQ.place n.txseq + R.LINK.NBRSEQ_RXSEQ.place last + R.LINK.NBRSEQ_BE.place n.be + R.LINK.NBRSEQ_BO.place (min n.bo 127)

/-- The tone-map set and its slot that TONEMAP.SEL names. -/
def State.selSet (s : State) : Option ToneSet :=
  match s.slot? (s.get R.TONEMAP.SEL_SLOT) with
  | none => none
  | some t => bif s.bit R.TONEMAP.SEL_DIR then t.received else t.cur

/-- LINK, HDR and LOADk of TONEMAP. -/
def State.toneWord (s : State) (off : Nat) : Nat :=
  match off with
  | 0x38 =>
    match s.slot? (s.get R.TONEMAP.SEL_SLOT) with
    | none => 0xFFFE
    | some t =>
      let short := match s.nbr? t.nbr with | some n => n.short | none => 0xFFFE
      short + R.TONEMAP.LINK_RXVER.place t.curVer + R.TONEMAP.LINK_RXPREV.place t.prevVer + R.TONEMAP.LINK_RXPREV_OK.flag t.prev.isSome +
        R.TONEMAP.LINK_TXVER.place (match t.received with | some x => x.ver | none => 0) + R.TONEMAP.LINK_TX_OK.flag t.usable +
        R.TONEMAP.LINK_FALLBACK.flag t.fallback
  | _ =>
    match s.selSet with
    | none => 0
    | some x =>
      let r := s.get R.TONEMAP.SEL_REGION
      let load := x.region r
      bif Nat.beq off 0x3C then
        let present := x.regions.any (Nat.beq r)
        R.TONEMAP.HDR_ROBUST.flag (present && load.isNone) + R.TONEMAP.HDR_PRESENT.flag present +
          R.TONEMAP.HDR_BITS.place (loadBits s.plcC load) + R.TONEMAP.HDR_RATE.place x.rate
      else
        let l := load.getD []
        ((List.range 10).map (fun i =>
          let n := 10 * ((off - 0x40) / 4) + i
          bif Nat.blt n s.plcC then l.getD n 0 % 8 * 8 ^ i else 0)).sum

/-- RES0-RES2 and PSET0-PSET3 of MESH. -/
def State.meshWord (s : State) (off : Nat) : Nat :=
  bif Nat.blt off 0x4C then
    match s.mesh.results[s.get R.MESH.RESSEL_INDEX]? with
    | none => bif Nat.beq off 0x40 then 2 ^ 16 * 0xFFFE else bif Nat.beq off 0x48 then 0x808080 else 0
    | some x =>
      match off with
      | 0x40 => x.pan + 2 ^ 16 * x.short
      | 0x44 => R.MESH.RES1_RANK.place x.rank + R.MESH.RES1_HOPS.place x.hops + R.MESH.RES1_MEDIA.place x.media +
          R.MESH.RES1_ADMIT.flag x.admits + R.MESH.RES1_HINT.place x.hint
      | _ => x.rssiA.toNat + 2 ^ 8 * x.rssiB.toNat + 2 ^ 16 * x.snr.toNat
  else
    match s.mesh.pset[(off - 0x4C) / 4]? with
    | none => 0xFFFF_FFFE
    | some i =>
      match s.nbr? i with
      | none => 0xFFFF_FFFE
      | some n => n.short + 2 ^ 16 * i + 2 ^ 24 * min (s.pathCost n / 256) 255

/-- The levels of COEX_REQ and COEX_PRI (R180-R182): of both chains as one, wake calls among their transmissions. -/
def State.coexReq (s : State) : Bool :=
  s.enabled 0x35 && ([Medium.rfA, .rfB].any (fun m => s.sends m || (s.air m).ackDue.isSome ||
    (s.bit R.COEX.CFG_RXREQ && (Nat.beq (s.phy m) 3 || Nat.beq (s.phy m) 4))))
def State.coexPri (s : State) : Bool :=
  s.enabled 0x35 && ([Medium.rfA, .rfB].any (fun m =>
    (match (s.air m).sending with | some a => Nat.beq (s.clsOf a.frame) 0 | none => false) ||
    (((s.air m).acking || (s.air m).ackDue.isSome) && s.bit R.COEX.CFG_ACKPRI)))

/-- A partition's place as STORE.PARTINFO shows it (R471). -/
def partInfo (i : Nat) : Nat := (partition i).1 / 65536 + 2 ^ 16 * ((partition i).2 / 65536)

/-- The slot of MEASURE that `who` has selected (R505). -/
def State.measured (s : State) (who : Nat) : Nat := s.garnet.measureSel.look who

/-- The byte fields of the radio and PHY pages that are views. -/
def State.airWord (s : State) (p off : Nat) : Nat :=
  bif Nat.beq p 0x30 || Nat.beq p 0x31 then
    let c : Chain := bif Nat.beq p 0x30 then .a else .b
    match off with
    | 0x28 => match s.ceiling c with
      | some x => bif s.enabled p then signedIn 8 x.1 + 2 ^ 8 * x.2 else 0
      | none => 0
    | 0x2C => min (s.dutyUsed (chainMed c) / 100000) 0xFFFF + (bif s.enabled p then 2 ^ 16 * (dutyLimit s.region).getD 0xFFFF else 0)
    | _ => 0
  else match p, off with
  | 0x34, 0x30 => R.MICA.STAT_SWITCH.flag s.micaSwitch
  | 0x35, 0x24 => R.COEX.STAT_REQ.flag s.coexReq + R.COEX.STAT_PRI.flag s.coexPri
  | 0x3B, 0x24 => R.PLCPHY.STAT_LOCKED.flag s.isLocked
  | 0x3C, 0x30 => R.TONEMAP.STAT_LINKS.place s.plc.slots.length
  | 0x3C, _ => bif Nat.ble 0x38 off && Nat.ble off 0x94 then s.toneWord off else 0
  | _, _ => 0

/-- Views of the link, mesh and message pages. -/
def State.netWord (s : State) (p off : Nat) : Nat :=
  match p with
  | 0x40 => match off with
    | 0x28 => R.SCHED.STAT_INSVC.place s.mediaMask
    | 0x2C => s.sched.slotUs + 2 ^ 16 * (s.sched.asn % 2 ^ 16)
    | 0x30 => s.sched.asn / 2 ^ 16
    | 0x94 => s.sched.cells.length
    | _ => bif Nat.ble 0x9C off && Nat.ble off 0xA8 then s.nbrWord off else 0
  | 0x41 => bif Nat.beq off 0x30 then s.nbrSeqWord else 0
  | 0x42 =>
    let k := s.key (s.get R.LINKSEC.KEYSEL_SLOT)
    match off with
    | 0x28 => k.idx + R.LINKSEC.KEYCTL_VALID.flag k.valid
    | 0x4C => k.counter
    | 0x50 => bif Nat.beq k.blockEnd 0 then 0 else k.blockEnd - 1
    | _ => 0
  | 0x44 => match off with
    | 0x24 => R.MESH.STAT_PARENTS.place s.mesh.pset.length + R.MESH.STAT_RESULTS.place s.mesh.results.length +
        R.MESH.STAT_CHILDREN.place (s.sched.nbrs.filter (fun n => n.child)).length
    | 0x60 => s.held.length
    | _ => bif Nat.ble 0x40 off && Nat.ble off 0x58 then s.meshWord off else 0
  | 0x45 => bif Nat.beq off 0x24 then R.ASSOC.STAT_USED.place s.assocUsed + R.ASSOC.STAT_PEND.place s.assocPend else 0
  | 0x48 => match off with
    | 0x34 => R.MSG.STAT_QUEUED.place s.queued + R.MSG.STAT_USED_MIB.place s.usedMib
    | 0x60 => match s.msg.fifo with
      | d :: _ => d.msgid
      | [] => 0
    | _ => 0
  | 0x4C => match off with
    | 0x24 => R.PAIR.STAT_PRES.flag s.supply.pairPresLow + R.PAIR.STAT_QUALIFIED.flag s.qualified
    | 0x34 => min s.pair.unacked.length 0xFFFF
    | 0x3C => let v := s.pair.reserve.look (s.get R.PAIR.RSEL_SLOT)
              bif Nat.beq v 0 then 0 else v - 1
    | _ => 0
  | _ => 0

/-- Views of the engine, collector and timer pages. -/
def State.cpuWord (s : State) (p off : Nat) : Nat :=
  bif Nat.ble 0x10 p && Nat.ble p 0x1B then
    let e := s.eng (p - 0x10)
    match off with
    | 0x20 => e.run.code
    | 0x24 => e.pc.toNat
    | _ => 0
  else match p with
  | 0x1C =>
    let e := s.eng s.mcSel
    bif Nat.beq off 0x30 then e.mc.code
    else bif Nat.ble 0x40 off && decide (e.mc = .loading) then e.entry ((off - 0x40) / 4) else 0
  | 0x1D =>
    let full : Nat := ((List.range 12).map (fun k => bif (s.eng k).stalled.isSome then 2 ^ k else 0)).sum
    match off, s.cluster.fifo with
    | 0x20, q :: _ => R.COLLECT.HEAD0_SRC.place q.src + R.COLLECT.HEAD0_RESP.flag q.resp + R.COLLECT.HEAD0_GEN.place q.gen +
        R.COLLECT.HEAD0_CODE.place q.code
    | 0x24, q :: _ => q.value.toNat
    | 0x2C, l => l.length + R.COLLECT.STAT_STALLMAP.place full
    | _, _ => 0
  | 0x24 => bif Nat.beq off 0xE8 then ((List.range 16).map (fun i => s.get (R.TIM.STAT_RUN i) * 2 ^ i)).sum else 0
  | _ => 0

/-- Views of the storage, security, lamp and tag pages. -/
def State.blockWord (s : State) (who p off : Nat) : Nat :=
  match p with
  | 0x50 => bif Nat.beq off 0x24 then R.CIPHER.KEYCTL_VALID.flag (s.garnet.slot? (s.get R.CIPHER.KEYSEL_SLOT)).isSome else 0
  | 0x52 => bif Nat.beq off 0x28 then R.PKE.STAT_CK0.flag s.garnet.ck0.isSome + R.PKE.STAT_CK1.flag s.garnet.ck1.isSome +
      R.PKE.STAT_CK0_REV.flag s.garnet.ck0Revoked else 0
  | 0x53 =>
    let slot := s.measured who
    match off with
    | 0x20 => slot
    | 0x24 => s.garnet.extCnt.getD slot 0
    | 0x2C => ofLe ((List.range 4).map (fun k => BitVec.ofNat 8 (s.garnet.rb.getD k 0)))
    | 0x30 => ofLe ((List.range 4).map (fun k => BitVec.ofNat 8 (s.garnet.rb.getD (4 + k) 0)))
    | _ => bif Nat.ble 0x40 off then ofLe (slice (s.garnet.mslots.getD slot []) (off - 0x40) 4) else 0
  | 0x59 => match off with
    | 0x3C => Config.nomErase.toNat
    | 0x48 => partInfo (s.get R.STORE.PARTSEL_INDEX)
    | _ => 0
  | 0x60 => bif Nat.beq off 0x30 then s.lamp.queue.length + 2 ^ 4 * s.lamp.results.length else 0
  | 0x69 => match off with
    | 0x28 => tagUid % 2 ^ 32
    | 0x2C => tagUid / 2 ^ 32
    | _ => 0
  | _ => 0

/-- Views of the supervisor pages. -/
def State.sysWord (s : State) (p off : Nat) : Nat :=
  match p with
  | 0x00 => bif Nat.beq off 0x20 then s.mode.code else 0
  | 0x01 =>
    bif Nat.beq off 0x24 then R.HOSTIF.STAT_HELD.flag (match s.spi.held with | some (_, some _) => true | _ => false) +
      R.HOSTIF.STAT_WFREE.place (64 - s.spi.wfifo.length)
    else bif Nat.ble 0x40 off && Nat.ble off 0x4C then
      ((List.range 32).map (fun j => bif mapped (8 * (off - 0x40) + j) && s.irqShown (8 * (off - 0x40) + j) then 2 ^ j else 0)).sum
    else 0
  | _ => 0

/-- The word of a block-specific register as `who` reads it. A LEAF reads MAXCHILD as 0 (ch. 11); while AUTO = 1, ZMAP reads the
generated map (ch. 8). -/
def State.word (s : State) (who p off : Nat) : Nat :=
  let stored := s.storedWord p off
  let views := s.sysWord p off + s.cpuWord p off + s.airWord p off + s.netWord p off + s.blockWord who p off
  bif Nat.beq p 0x44 && Nat.beq off 0x20 && Nat.beq s.role 1 then stored - s.get R.MESH.CFG_MAXCHILD
  else bif Nat.beq p 0x3B && (Nat.beq off 0x2C || Nat.beq off 0x30) && s.bit R.PLCPHY.SOUND_AUTO then
    ((List.range 8).map (fun j => s.plc.regions.getD (8 * ((off - 0x2C) / 4) + j) 0 % 8 * 8 ^ j)).sum
  else stored + views

end Sys2Proof.Machine
end

