-- ==== Sys2Proof/Machine/Checks.lean ====
section
/-!
DEFINITION. The field checks of steps 5 and 6 of R127: which values the page tables call defined, and which disagree with one another
or with the site profile. An enable runs them over the page; a write to an always-enabled or ENABLED page runs them over the
configuration that the write would make (R126, R129).
-/

namespace Sys2Proof.Machine

open Sys2Proof

/-! ### Rules: an offset and the reason with which its value is refused, 0 where it stands -/

/-- A rule of step 5: BAD_VALUE unless the condition holds. -/
def valued (off : Nat) (ok : Bool) : Nat × Nat := (off, bif ok then 0 else RC.BAD_VALUE)

/-- A rule of step 6: CONFLICT unless the condition holds. -/
def agreed (off : Nat) (ok : Bool) : Nat × Nat := (off, bif ok then 0 else RC.CONFLICT)

/-- The field's value lies in a range. -/
def State.within (s : State) (f : Fld) (lo hi : Nat) : Nat × Nat := valued f.off (Nat.ble lo (s.get f) && Nat.ble (s.get f) hi)

/-- The field's value is not 0. -/
def State.nonzero (s : State) (f : Fld) : Nat × Nat := valued f.off (s.bit f)

/-- A signed 8-bit field lies in a range. -/
def State.signedWithin (s : State) (f : Fld) (lo hi : Int) : Nat × Nat :=
  valued f.off (decide (lo ≤ signed8 (s.get f)) && decide (signed8 (s.get f) ≤ hi))

/-! ### The radio and power-line pages (ch. 06-08) -/

/-- A region's band in kHz (R152). -/
def regionBand (region : Nat) : Nat × Nat :=
  match region with
  | 1 => (863000, 870000) | 2 => (870000, 876000) | 3 => (902000, 928000) | 4 => (920500, 928100)
  | 5 => (865000, 867000) | 6 => (779000, 787000) | 7 => (917000, 923500) | 8 => (915000, 928000) | _ => (1, 0)

def State.micaRules (s : State) : List (Nat × Nat) :=
  let band := regionBand s.region
  let freq := s.get R.MICA.CFG_FREQ
  [s.nonzero R.MICA.CFG_CALLMS, s.signedWithin R.MICA.THR_DBM (-85) (-60), agreed 0x20 (Nat.ble band.1 freq && Nat.ble freq band.2)]

def State.rfRules (s : State) (c : Nat) : List (Nat × Nat) :=
  [s.signedWithin (R.RF.CFG_MAXPWR c) (-40) (bif Nat.beq c 0 then 60 else 40), s.signedWithin (R.RF.CFG_ANTGAIN c) (-20) 30]

/-- The lanes that PRIO.ORDER names, highest priority first. -/
def lanesOf (w : Nat) : List Nat := (List.range 6).map (fun i => w / 8 ^ i % 8)

/-- A profile's mode: a code of R186 or 0, and one that the declared plan permits (R187). -/
def State.profRules (s : State) (k : Nat) : List (Nat × Nat) :=
  let mode := s.get (R.PHYRF.PROF_CFG_MODE k)
  let ed := s.get (R.PHYRF.PROF_THR_ED k)
  let off := 0x80 + 8 * k
  let celled := s.sched.cells.any (fun (c : Cell) => Nat.beq c.profA k || Nat.beq c.profB k)
  [valued off (!Nat.beq mode 0xD && !Nat.beq mode 0xE), s.within (R.PHYRF.PROF_CFG_PREAMBLE k) 4 64,
   valued (off + 4) (Nat.beq ed 0x80 || (decide (-120 ≤ signed8 ed) && decide (signed8 ed ≤ -40))), s.nonzero (R.PHYRF.PROF_THR_QUAL k),
   agreed off (Nat.beq mode 0 || s.permits mode), agreed off (!Nat.beq mode 0 || !celled)]

/-- A fallback profile names a mode that is neither 0x0 nor SEARCH; the later register is the profile's. -/
def State.fallbackRule (s : State) (f : Fld) : Nat × Nat :=
  let k := s.get f
  let mode := s.get (R.PHYRF.PROF_CFG_MODE k)
  agreed (0x80 + 8 * k) (!Nat.beq mode 0 && !Nat.beq mode 0xF)

def State.phyrfRules (s : State) : List (Nat × Nat) :=
  let lanes := lanesOf (s.get R.PHYRF.PRIO_ORDER)
  [valued 0x28 ((List.range 6).all (fun l => lanes.any (Nat.beq l)))] ++
    (List.range 6).map (fun l => s.nonzero (R.PHYRF.SCORE_T l)) ++ (List.range 16).flatMap s.profRules ++
    [s.fallbackRule R.PHYRF.CFG_FB_A, s.fallbackRule R.PHYRF.CFG_FB_B]

/-- The five thresholds of a rate rise strictly. -/
def State.thrRule (s : State) (r : Nat) : Nat × Nat :=
  valued (0x24 + 4 * r) ((List.range 4).all (fun j => Nat.blt (s.get (R.TONEMAP.THR r j)) (s.get (R.TONEMAP.THR r (j + 1)))))

def State.plcRules (s : State) (p : Nat) : List (Nat × Nat) :=
  match p with
  | 0x3A => [s.within R.PLCAFE.CFG_TXATT 0 30, s.within R.PLCAFE.CFG_OUTLIER 10 200]
  | 0x3B => [s.nonzero R.PLCPHY.CFG_DETTHR, s.within R.PLCPHY.SOUND_NSOUND 32 1024, s.nonzero R.PLCPHY.SOUND_MERGE_DB]
  | _ => [s.within R.TONEMAP.CFG_CHANGE_PCT 1 100, s.thrRule 0, s.thrRule 1, s.thrRule 2]

/-! ### The link, mesh and message pages (ch. 09-13) -/

/-- An alarm profile names a mode that is neither 0x0 nor SEARCH. -/
def State.alarmProf (s : State) (f : Fld) : Nat × Nat :=
  let mode := s.get (R.PHYRF.PROF_CFG_MODE (s.get f))
  agreed 0x3C (!Nat.beq mode 0 && !Nat.beq mode 0xF)

def State.schedRules (s : State) : List (Nat × Nat) :=
  [s.within R.SCHED.CFG_DRIFT_PPM 1 100, s.nonzero R.SCHED.CFG_BEACON_N, s.within R.SCHED.CFG_KA_S 5 255,
   s.within R.SCHED.GUARD_CAP_US 1000 5000, s.within R.SCHED.LQE_WEIGHT 1 6, s.within R.SCHED.POLL_POLL_S 5 255,
   s.within R.SCHED.POLL_RESP_SLOTS 1 64, s.within R.SCHED.ALMOFF_TXOFF 200 4500] ++
    (List.range 8).map (fun k => valued (0x60 + 4 * k)
      ((!s.bit (R.SCHED.SF_EN k) && Nat.beq (s.get (R.SCHED.SF_LEN k)) 0) ||
        (Nat.ble 1 (s.get (R.SCHED.SF_LEN k)) && Nat.ble (s.get (R.SCHED.SF_LEN k)) (bif Nat.beq k 0 then 1024 else 4096)))) ++
    [s.alarmProf R.SCHED.ALARM_PROF_A, s.alarmProf R.SCHED.ALARM_PROF_B, agreed 0x58 (!s.hopList.isEmpty || Nat.beq s.chanCount 0)]

def State.meshRules (s : State) : List (Nat × Nat) :=
  [s.within R.MESH.CFG_MAXCHILD 0 64, s.nonzero R.MESH.SCAN_TIME_S, s.nonzero R.MESH.SCAN_MEDIA, s.within R.MESH.JOINWAIT_WAIT_S 10 255,
   s.nonzero R.MESH.JOINWAIT_TRIES, s.within R.MESH.BUFCFG_PERCHILD 1 64,
   agreed 0x30 (Nat.blt (s.get R.MESH.SCAN_CHAN) s.chanCount || Nat.beq s.chanCount 0)]

/-- What an enable of MESH checks beside (R294, ch. 11 CFG). -/
def State.meshEnableRules (s : State) : List (Nat × Nat) :=
  [agreed 0x20 (Nat.blt s.role 2 || s.bit (R.SCHED.SF_EN (s.get R.MESH.CFG_JOINSF))), agreed 0 (!s.isCoord || !Nat.beq s.ret.profile.hints 0)]

def State.msgRules (s : State) : List (Nat × Nat) :=
  let base := s.get R.MSG.RXBASE_ADDR
  let size := s.get R.MSG.RXSIZE_BYTES
  [s.within R.MSG.CFG_FRAGBODY 32 900, s.within R.MSG.CFG_INFLIGHT 1 32, s.within R.MSG.CFG_REASM_S 5 255] ++
    (List.range 4).flatMap (fun k => [s.nonzero (R.MSG.CLS_TIMEOUT_S k), s.nonzero (R.MSG.CLS_ATTEMPTS k), s.within (R.MSG.CLS_LIFE_MIN k) 1 4320]) ++
    [valued 0x50 (Nat.beq size 0 || (Nat.beq (base % 16) 0 && inBank3 base size)),
     valued 0x54 (Nat.beq size 0 || (Nat.ble 4096 size && Nat.ble size 131072 && Nat.beq (size % 16) 0))]

def State.netRules (s : State) (p : Nat) : List (Nat × Nat) :=
  match p with
  | 0x40 => s.schedRules
  | 0x41 => [s.nonzero R.LINK.RETRY_ALARM, s.nonzero R.LINK.RETRY_CONTROL, s.nonzero R.LINK.RETRY_TELEMETRY, s.nonzero R.LINK.RETRY_BULK,
      agreed 0x20 (Nat.ble (s.get R.LINK.CFG_MINBE) (s.get R.LINK.CFG_MAXBE))]
  | 0x42 => [s.within R.LINKSEC.CFG_SECLVL 5 7]
  | 0x44 => s.meshRules
  | 0x45 => [s.within R.ASSOC.CFG_APPROVE_S 5 255, s.nonzero R.ASSOC.CFG_MAXPEND, s.nonzero R.ASSOC.CFG_AGE_D, s.within R.ASSOC.SNAP_PERIOD_S 10 3600]
  | 0x48 => s.msgRules
  | _ => [s.within R.PAIR.CFG_TAKEOVER_MS 5 30, s.nonzero R.PAIR.CFG_CHECK_SF]

/-! ### The other blocks -/

def State.lampRules (s : State) (p : Nat) : List (Nat × Nat) :=
  match p with
  | 0x61 => [s.nonzero R.AOUT.CFG_MODE, s.within R.AOUT.VSET_LEVEL 0 1000, s.within R.AOUT.RLYCFG_PULSE_MS 10 50, s.within R.AOUT.RLYCFG_OPTIME 0 200]
  | 0x62 => [s.within R.METER.CFG_SHUNT_UOHM 100 10000, s.nonzero R.METER.CFG_CKPT_MIN, s.nonzero R.METER.PHDLY_DELAY_S,
      agreed 0x58 (Nat.blt (s.get R.METER.PHCFG_LIGHT) (s.get R.METER.PHCFG_DARK))]
  | 0x63 => (List.range 4).flatMap (fun n => [s.within (R.DIN.CFG_CHAT_N n) 2 15, s.nonzero (R.DIN.CFG_CHAT_WIN n), s.within (R.DIN.STUCK_TIME n) 0 600])
  | _ => []

def State.tagRules (s : State) (p : Nat) : List (Nat × Nat) :=
  match p with
  | 0x68 => [s.within R.NFCRD.CFG_GUARD_US 1000 10000, s.within R.NFCRD.CFG_RXWAIT_US 400 20000, s.within R.NFCRD.INVCFG_MAX 1 64]
  | 0x69 => [s.within R.NFCTAG.TADDR_BLOCK 0 1919]
  | _ => [s.within R.CSENSE.CFG_METHOD 0 2, s.nonzero R.CSENSE.CFG_PERIOD, s.nonzero R.CSENSE.CFG_N, s.nonzero R.CSENSE.CFG_HOLD_S,
      s.within R.CSENSE.THR_DELTA 2 65535, s.within R.CSENSE.THR_PINGDB 5 200]

/-- The ring of channel `c` lies in bank 3 (R463). -/
def State.ringFits (s : State) (c : Nat) : Bool := inBank3 (16 * s.get (R.DMA.RING_BASE c)) (16 * s.get (R.DMA.CFG_ENTRIES c))

def State.dmaRules (s : State) (p : Nat) : List (Nat × Nat) :=
  (List.range 8).flatMap (fun i =>
    let c := 8 * (p - 0x2A) + i
    [valued (0x40 + 0x10 * i) (Nat.ble 1 (s.get (R.DMA.CFG_ENTRIES c)) && Nat.ble (s.get (R.DMA.CFG_ENTRIES c)) 256 && s.ringFits c),
     s.within (R.DMA.CFG_OWNER c) 0 12, valued (0x44 + 0x10 * i) (s.ringFits c)])

def State.coreRules (s : State) (p : Nat) : List (Nat × Nat) :=
  match p with
  | 0x02 => (List.range 8).map (fun n => ((R.PWR.ASQ_CFG_SRC n).off, bif Nat.ble (s.get (R.PWR.ASQ_CFG_SRC n)) 5 then 0 else 0x42))
  | 0x1C => [s.within R.MCODE.SEL_ENG 0 11]
  | 0x28 => [s.within R.RTC.CHG_VEND 0 2]
  | 0x59 => [s.within R.STORE.PARTSEL_INDEX 0 8, agreed 0x34 (Nat.ble (s.get R.STORE.SPLIT_E10_START) (s.get R.STORE.SPLIT_E11_START)),
      s.within R.STORE.SPLIT_E10_START 0 1024, s.within R.STORE.SPLIT_E11_START 0 1024]
  | 0x5C => [s.nonzero R.STRATA.CFG_CLOSE_S, valued 0x3C (Nat.ble 0xC0 (s.get R.STRATA.WDESC_TYPE) && Nat.ble 7 (s.get R.STRATA.WDESC_BLEN)),
      s.within R.STRATA.RLEN_BYTES 280 65536]
  | _ => bif Nat.ble 0x10 p && Nat.ble p 0x1B then
      let e := p - 0x10
      [valued 0x2C (Nat.beq (s.get (R.ENG.BRKPT_ADDR e) % 2) 0), valued 0x30 (!Nat.beq e 0 || s.bit (R.ENG.WDOG_MS e))]
    else []

/-- The rules of steps 5 and 6 for page `p`. -/
def State.rules (s : State) (p : Nat) : List (Nat × Nat) :=
  bif Nat.beq p 0x30 || Nat.beq p 0x31 then s.rfRules (p - 0x30)
  else bif Nat.beq p 0x34 then s.micaRules
  else bif Nat.beq p 0x35 then [s.within R.COEX.CFG_LEAD_US 5 125]
  else bif Nat.beq p 0x38 then s.phyrfRules
  else bif Nat.ble 0x3A p && Nat.ble p 0x3C then s.plcRules p
  else bif Nat.ble 0x40 p && Nat.ble p 0x4C then s.netRules p
  else bif Nat.ble 0x60 p && Nat.ble p 0x63 then s.lampRules p
  else bif Nat.ble 0x68 p && Nat.ble p 0x6A then s.tagRules p
  else bif Nat.ble 0x2A p && Nat.ble p 0x2B then s.dmaRules p
  else s.coreRules p

/-- Operands that a later command takes: their ranges are judged when they are written and again by the command, not by an
enable, since their Reset values lie outside. -/
def State.stagedRules (s : State) (p : Nat) : List (Nat × Nat) :=
  match p with
  | 0x40 => [s.within R.SCHED.CELLD0_LEN 1 8, s.within R.SCHED.CELLD1_TYPE 1 5, s.nonzero R.SCHED.CELLD1_MEDIA, s.within R.SCHED.CELLD1_TXOFF 200 8000]
  | 0x48 => [valued 0x38 (Nat.ble (s.get R.MSG.TXD0_KIND) 4), valued 0x3C (inBank3 (s.get R.MSG.TXD1_ADDR) 0), s.within R.MSG.TXD2_LEN 0 2048]
  | 0x52 => [valued 0x24 (inBank3 s.param 1)]
  | 0x54 => [valued 0x24 (Nat.beq (s.get R.UPDATE.OFFSET_OFFSET % 4096) 0 && Nat.ble (s.get R.UPDATE.OFFSET_OFFSET) 0x7EF000),
      valued 0x28 (Nat.beq (s.get R.UPDATE.BUF_ADDR % 16) 0 && inBank3 (s.get R.UPDATE.BUF_ADDR) 1)]
  | 0x59 => [s.within R.STORE.LEN_LEN 0 4096, valued 0x2C (inBank3 (s.get R.STORE.BUF_ADDR) 1)]
  | 0x5C => [valued 0x40 (Nat.beq (s.get R.STRATA.BUF_ADDR % 8) 0 && inBank3 (s.get R.STRATA.BUF_ADDR) 1)]
  | 0x68 => [valued 0x34 (invRoom (s.get R.NFCRD.INV_ADDR) (s.get R.NFCRD.INVCFG_MAX))]
  | _ => []

/-- The first failing rule of a reason. -/
def firstFail (reason : Nat) (l : List (Nat × Nat)) : Option (Nat × Nat) := l.find? (fun q => Nat.beq q.2 reason)

/-- The reason that refuses a write to page:offset whose outcome would be `t`, 0 for none: a bad value in that register, else a
disagreement that the write brings about (R129). On an always-enabled page each register stands on its own (R126). -/
def State.writeBad (s t : State) (p off : Nat) : Nat :=
  let here := (t.rules p ++ t.stagedRules p).filter (fun q => Nat.beq q.1 off && !Nat.beq q.2 0)
  let brought := (List.zip (t.rules p) (s.rules p)).any (fun q => Nat.beq q.1.2 RC.CONFLICT && Nat.beq q.2.2 0)
  match firstFail RC.BAD_VALUE here with
  | some q => q.2
  | none =>
    match here with
    | q :: _ => q.2
    | [] => bif brought && !alwaysOn p then RC.CONFLICT else 0

end Sys2Proof.Machine
end

