-- ==== Sys2Proof/Machine/Pages.lean ====
section
/-!
DEFINITION. Enabling, disabling, resetting and locking a page (R126-R133), page assignment (R138) and the commit of the site profile
(R151-R153).
-/

namespace Sys2Proof.Machine

open Sys2Proof

/-- An ENG page (R416): CTL.EN is the engine's release from reset. -/
def engPage (p : Nat) : Bool := Nat.ble 0x10 p && Nat.ble p 0x1B

/-! ### EN and LOCK -/

/-- EN = 1 is written (R127, R130). CHECKING begins on a DISABLED page; EN does not change while the page is locked (R132). -/
def State.enableWrite (s : State) (p : Nat) : State :=
  let st := s.get (R.HDR.ST p)
  bif alwaysOn p then s
  else bif engPage p then s.engineRelease (p - 0x10)
  else bif Nat.beq st 0 then (s.setBit (R.HDR.EN p) (!s.bit (R.HDR.LOCK p))).set (R.HDR.ST p) 1
  else bif Nat.beq st 3 then s.refuse p RC.BUSY 0x04
  else s

/-- What a block does as it starts to stop (R544, R547, ch. 13, ch. 18). -/
def State.beginStop (s : State) (p : Nat) : State :=
  match p with
  | 0x60 => s.daliFlush 6
  | 0x61 => s.aoutDrive
  | 0x4C => s.pairStop false
  | 0x2A => s.each (List.range 16) (fun c t => t.dmaStop c)
  | 0x2B => s.each (List.range 8) (fun i t => t.dmaStop (8 + i))
  | _ => s

/-- EN = 0 is written (R126, R128, R130, R416). -/
def State.disableWrite (s : State) (p : Nat) : State :=
  let st := s.get (R.HDR.ST p)
  bif alwaysOn p then s
  else bif engPage p then s.engineStop (p - 0x10)
  else bif Nat.beq st 0 || Nat.beq st 3 then s
  else bif s.bit (R.HDR.LOCK p) then s.refuse p RC.LOCKED 0x04
  else bif Nat.beq st 1 then s.setAll [(R.HDR.EN p, 0), (R.HDR.ST p, 0), (R.HDR.REASON p, 0)]
  else bif Nat.beq st 2 then (s.setAll [(R.HDR.EN p, 0), (R.HDR.ST p, 3)]).beginStop p
  else s.setAll [(R.HDR.EN p, 0), (R.HDR.ST p, 0)]

/-- Words staged for a key command of page `p` are gone (R131): LINKSEC, CIPHER, NFCTAG. -/
def State.dropStaged (s : State) (p : Nat) : State :=
  match p with
  | 0x42 => s.clearStaged
  | 0x50 => s.clearStagedKey
  | 0x69 => s.modNfc (fun x => { x with staged := [] })
  | _ => s

/-- SOFTRST (R126, R131): the block's fields return to their Reset or restored values; IRQ_MASK, OWNER and LOCK stay. -/
def State.softReset (s : State) (p : Nat) : State :=
  bif alwaysOn p then s.refuse p RC.NOT_SUPPORTED 0x04
  else bif s.bit (R.HDR.LOCK p) then s.refuse p RC.LOCKED 0x04
  else bif !Nat.beq (s.get (R.HDR.ST p)) 0 then s.refuse p RC.BUSY 0x04
  else ((s.pageReset p).set (R.HDR.MASK p) (s.get (R.HDR.MASK p))).dropStaged p

/-- LOCK = 1 (R10, R132). -/
def State.lockWrite (s : State) (p : Nat) : State := s.set (R.HDR.LOCK p) 1

/-- A word written to CTL (R124, R131): an EN = 1 together with SOFTRST is ignored, an EN = 0 is not. Where EN = 1 and LOCK = 1 come
together on a DISABLED page, the page is locked at once and the check of its enable, which ends later, finds LOCK = 1: the manual does not
order the two (DESIGN CHOICE, log entry 87). KFMT of an ENG page is E0's; E0's own takes effect at its next jump (R400). -/
def State.ctlWrite (s : State) (who p w : Nat) : State :=
  let s := s.onlyIf (w.testBit 1) (·.softReset p)
  let s := bif w.testBit 0 then s.onlyIf (!w.testBit 1) (·.enableWrite p) else s.disableWrite p
  let s := s.onlyIf (w.testBit 2) (·.lockWrite p)
  s.onlyIf (engPage p && Nat.beq who 0) (fun s =>
    let k := p - 0x10
    let s := s.setBit (R.ENG.KFMT k) (w.testBit 8)
    bif Nat.beq k 0 then s.modEng 0 (fun e => { e with kfmtDue := !(e.kfmt == w.testBit 8) }) else s)

/-- PAGE_ENABLE. -/
def execPageEnable (who : Requester) (page : Byte) (s : State) : Host.Outcome State Fault Refusal :=
  s.writeCmd who page.toNat 0x04 (·.enableWrite page.toNat)

/-- PAGE_DISABLE. -/
def execPageDisable (who : Requester) (page : Byte) (s : State) : Host.Outcome State Fault Refusal :=
  s.writeCmd who page.toNat 0x04 (·.disableWrite page.toNat)

/-- PAGE_SOFTRST. -/
def execPageSoftrst (who : Requester) (page : Byte) (s : State) : Host.Outcome State Fault Refusal :=
  s.writeCmd who page.toNat 0x04 (·.softReset page.toNat)

/-- PAGE_LOCK: CTL written with LOCK = 1 and EN as it stands. -/
def execPageLock (who : Requester) (page : Byte) (s : State) : Host.Outcome State Fault Refusal :=
  s.writeCmd who page.toNat 0x04 (·.lockWrite page.toNat)

/-! ### The enable check (R127, R153) -/

/-- The site facts that a page needs, in the layout of S_VALID (R153). -/
def siteFacts (p : Nat) : Nat :=
  bif Nat.beq p 0x30 || Nat.beq p 0x31 || Nat.beq p 0x38 then 0x03
  else bif Nat.beq p 0x34 then 0x01
  else bif Nat.ble 0x3A p && Nat.ble p 0x3C then 0x14
  else bif Nat.beq p 0x40 then 0x04
  else bif Nat.beq p 0x44 then 0xE0
  else bif Nat.beq p 0x45 || Nat.beq p 0x48 || Nat.beq p 0x4C then 0x40
  else 0

/-- The prerequisite pages of a page: each list names alternatives (R153, ch. 18). -/
def prereqs (p : Nat) : List (List Nat) :=
  match p with
  | 0x38 => [[0x30, 0x31]] | 0x35 => [[0x30]] | 0x3B => [[0x3A]] | 0x3C => [[0x3B]] | 0x40 => [[0x30, 0x31, 0x3B]]
  | 0x41 => [[0x40]] | 0x44 => [[0x41], [0x42]] | 0x45 => [[0x44]] | 0x48 => [[0x44]] | 0x2B => [[0x2A]] | _ => []

/-- The mode's row of R105 permits domain `k`, mains and PAIR_PRES apart; the rows that follow a page's EN permit it. -/
def State.permitted (s : State) (k : Nat) : Bool :=
  let t := (s.setAll [(R.HDR.ST 0x31, 2), (R.HDR.ST 0x3B, 2), (R.PWR.SUPPLY_MAINS, 1)]).modSupply (fun x => { x with pairPresLow := true })
  !Nat.beq (t.modeRow s.mode k) 0

/-- What step 6 asks of the site profile beside the fields (R153). -/
def State.siteRules (s : State) (p : Nat) : List (Nat × Nat) :=
  bif Nat.ble 0x3A p && Nat.ble p 0x3C then [agreed 0 (!Nat.beq s.ret.profile.plcband 3)]
  else bif Nat.beq p 0x45 then [agreed 0 s.isCoord]
  else bif Nat.beq p 0x4C then [agreed 0 (s.isCoord && Nat.beq s.ret.profile.pairEn 1)]
  else bif Nat.beq p 0x44 then s.meshEnableRules
  else []

/-- The banks that hold the tables and buffers of a page (R29): 1 to 4 for BANK0 to BANK3. -/
def pageBanks (p : Nat) : List Nat :=
  match p with
  | 0x3C => [2] | 0x40 => [2] | 0x41 => [2] | 0x44 => [3] | 0x45 => [1] | 0x48 => [2, 3] | 0x4C => [3] | _ => []

/-- Step 7 fails where a bank with the page's tables is OFF and refuses to wake (R101): they are not available. The model's reading of a step for
which no page's table names a case (log entry 43). -/
def State.noResource (s : State) (p : Nat) : Bool := (pageBanks p).any (fun k => Nat.beq (s.dom k) 0 && s.noWake k)

/-- The first failing check of R127 as its reason and ERRINFO, none when all pass. -/
def State.enableFails (s : State) (p : Nat) : Option (Nat × Nat) :=
  let missing := siteFacts p &&& (0xFF - s.ret.profile.facts % 256)
  let dep := (prereqs p).find? (fun l => !l.any s.enabled)
  let l := s.rules p ++ s.siteRules p
  bif s.bit (R.HDR.LOCK p) then some (RC.LOCKED, 0)
  else bif !s.permitted (pageDomain p) then some (RC.MODE, 0)
  else bif mainsPage p && !s.bit R.PWR.SUPPLY_MAINS then some (RC.DOMAIN_OFF, 0)
  else bif !Nat.beq missing 0 then some (RC.NO_SITE, missing * 2 ^ 8)
  else match dep with
  | some d => some (RC.DEP_DISABLED, d.headD 0 * 2 ^ 16)
  | none =>
    match firstFail RC.BAD_VALUE l with
    | some q => some (RC.BAD_VALUE, q.1)
    | none =>
      match firstFail RC.CONFLICT l with
      | some q => some (RC.CONFLICT, q.1)
      | none =>
        bif s.noResource p then some (RC.NO_RESOURCE, 0x20)
        else bif Nat.beq p 0x45 && s.bit R.ASSOC.STAT_RESTORING then some (RC.BUSY, 0) else none

/-- The schedule starts (R246-R255): the hopping list is formed, and a COORDINATOR without a time source runs in crystal timing from its
own ASN. -/
def State.schedStart (s : State) : State :=
  let s := { s with sched := { s.sched with hop := s.hopList, phase := s.ret.profile.phase, halted := false } }
  bif s.isCoord && s.source.isNone then
    ({ s with sched := { s.sched with origin := true } }).set R.SCHED.STAT_TIMING 1
  else s

/-- A COORDINATOR forms its PAN (R294, R300). -/
def State.meshStart (s : State) : State :=
  bif s.isCoord then (s.setAll [(R.MESH.ID0_SHORT, 0), (R.MESH.ID0_PAN, s.ret.profile.pan0)]).showRank else s

/-- What a block does when its page is enabled. -/
def State.started (s : State) (p : Nat) : State :=
  let s := s.takeForce (fun q off => Nat.beq q p && (stagedReg q off || soundedReg q off))
  match p with
  | 0x30 => s.calStart .a false
  | 0x31 => (s.calStart .b false).followMedia
  | 0x3B => (s.set R.PLCPHY.STAT_ST 1).followMedia
  | 0x40 => s.schedStart
  | 0x44 => s.meshStart
  | 0x45 => (bif s.assoc.salt.isNone then s.drawSalt.rebuildIndex else s)
  | 0x4C => s.pairStart
  | 0x61 => s.aoutDrive.startLamp
  | 0x60 => s.startLamp
  | 0x62 => s.startLamp
  | _ => s

/-- PAGE_CHECK_COMPLETE: the check ends with ENABLED or with a refusal (R127). -/
def execPageCheckComplete (page : Byte) (s : State) : Host.Outcome State Fault Refusal :=
  let p := page.toNat
  .next (bif !Nat.beq (s.get (R.HDR.ST p)) 1 then s
    else match s.enableFails p with
    | some f => (s.setAll [(R.HDR.EN p, 0), (R.HDR.ST p, 0)]).refuse p f.1 f.2
    | none => (s.setAll [(R.HDR.EN p, 1), (R.HDR.ST p, 2), (R.HDR.REASON p, 0)]).started p)

/-! ### Stopping (R130) -/

/-- The block still has work in flight. -/
def State.working (s : State) (p : Nat) : Bool :=
  let air (m : Medium) : Bool := s.sends m || Nat.beq (s.phy m) 4
  let channels (lo n : Nat) : Bool := (List.range n).any (fun i => Nat.beq (s.get (R.DMA.STAT_ST (lo + i))) 3)
  match p with
  | 0x30 => air .rfA
  | 0x31 => air .rfB
  | 0x3B => air .plc
  | 0x40 => !Nat.beq (s.get R.SCHED.STAT_TIMING) 0 && (!s.sched.halted || media3.any air)
  | 0x60 => s.lamp.cur.isSome
  | 0x2A => channels 0 16
  | 0x2B => channels 8 8
  | _ => false

/-- What a block leaves behind once stopped (R163, R223, R246). -/
def State.stopped (s : State) (p : Nat) : State :=
  match p with
  | 0x30 => (s.chainOff .rfA .a).setAll [(R.RFCAL.STAT_BUSY_A, 0)]
  | 0x31 => ((s.chainOff .rfB .b).setAll [(R.RFCAL.STAT_BUSY_B, 0)]).followMedia
  | 0x3B => ((s.quiet .plc).set R.PLCPHY.STAT_ST 0).followMedia
  | 0x40 =>
    let s := (s.each media3 (fun m t => t.quiet m)).setAll [(R.SCHED.STAT_TIMING, 0), (R.SCHED.STAT_LOCK_HELD, 0), (R.SCHED.STAT_SLEWING, 0)]
    { s with sched := { s.sched with asn := 0, slotUs := 0, move := 0, slew := 0, origin := false, halted := false } }
  | _ => s

/-- PAGE_STOP_COMPLETE: the work in flight is done and the page is DISABLED. -/
def execPageStopComplete (page : Byte) (s : State) : Host.Outcome State Fault Refusal :=
  let p := page.toNat
  .next (bif Nat.beq (s.get (R.HDR.ST p)) 3 && !s.working p then (s.stopped p).set (R.HDR.ST p) 0 else s)

/-! ### Page assignment (R138) -/

/-- DALI, AOUT, METER, DIN, NFCRD, NFCTAG and CSENSE. -/
def assignable (p : Nat) : Bool := (Nat.ble 0x60 p && Nat.ble p 0x63) || (Nat.ble 0x68 p && Nat.ble p 0x6A)

/-- HOSTIF.ASSIGN. -/
def State.assign (s : State) (w : Nat) : State :=
  let p := R.HOSTIF.ASSIGN_PAGE.of w
  let o := R.HOSTIF.ASSIGN_OWNER.of w
  bif !assignable p || Nat.blt o 10 || Nat.blt 12 o then s.refuse 0x01 RC.NOT_ASSIGNABLE 0x34
  else bif !Nat.beq (s.get (R.HDR.ST p)) 0 then s.refuse 0x01 RC.BUSY 0x34
  else bif Nat.blt o 12 && !(s.eng o).image then s.refuse 0x01 RC.NO_IMAGE 0x34
  else
    let l := (s.ret.assign.filter (fun (a : Nat × Nat) => !Nat.beq a.1 p)) ++ [(p, o)]
    ({ s with ret := { s.ret with assign := l } }).set (R.HDR.OWNER p) o

/-- OWNER_ASSIGN. -/
def execOwnerAssign (who : Requester) (value : Word) (s : State) : Host.Outcome State Fault Refusal :=
  s.writeCmd who 0x01 0x34 (·.assign value.toNat)

/-! ### The site profile (R151-R153) -/

/-- The first staged field that holds an undefined value, as its offset. -/
def Profile.bad (q : Profile) : Option Nat :=
  let lat := (BitVec.ofNat 32 q.lat).toInt
  let lon := (BitVec.ofNat 32 q.lon).toInt
  bif Nat.blt 8 q.region || (!Nat.beq q.bandplan 0 && Nat.beq (bandPlan q.region q.bandplan).1 0) then some 0xA0
  else bif Nat.beq q.hz 3 then some 0xA4
  else bif decide (900000000 < lat.natAbs) then some 0xA8
  else bif decide (1800000000 < lon.natAbs) then some 0xAC
  else bif Nat.beq q.pairEn 1 && !Nat.beq q.role 3 then some 0xB0
  else bif Nat.blt 4 q.hints then some 0xB4
  else Option.none

/-- The facts that a profile declares, in the layout of S_VALID; a commit declares HINTS always. -/
def Profile.declares (q : Profile) : Nat :=
  let b (n : Nat) (c : Bool) : Nat := bif c then 2 ^ n else 0
  b 0 (!Nat.beq q.region 0) + b 1 (!Nat.beq q.bandplan 0) + b 2 (!Nat.beq q.hz 0) + b 3 (!Nat.beq q.phase 0) +
    b 4 (!Nat.beq q.plcband 0) + b 5 (!(Nat.beq q.lat 0 && Nat.beq q.lon 0)) + b 6 (!Nat.beq q.role 0) + 2 ^ 7

/-- The facts in which two profiles differ, PHASE apart, which may change at any time. -/
def Profile.changes (a b : Profile) : Nat :=
  let d (n : Nat) (x y : Nat) : Nat := bif Nat.beq x y then 0 else 2 ^ n
  d 0 a.region b.region + d 1 a.bandplan b.bandplan + d 2 a.hz b.hz + d 4 a.plcband b.plcband +
    (bif Nat.beq a.lat b.lat && Nat.beq a.lon b.lon then 0 else 2 ^ 5) + d 6 a.role b.role +
    (bif Nat.beq a.hints b.hints && Nat.beq a.pan0 b.pan0 && Nat.beq a.pan1 b.pan1 && Nat.beq a.pan2 b.pan2 && Nat.beq a.pan3 b.pan3 &&
      a.facts.testBit 7 then 0 else 2 ^ 7)

/-- The first ENABLED page that needs a fact which the commit would change. PAIR needs PAIR_EN beside ROLE. -/
def State.depends (s : State) (q : Profile) : Option Nat :=
  let ch := s.ret.profile.changes q
  mappedPages.find? (fun p => s.enabled p && (!Nat.beq (siteFacts p &&& ch) 0 ||
    (Nat.beq p 0x4C && !Nat.beq s.ret.profile.pairEn q.pairEn)))

/-- S_CMT.GO: the whole profile is declared, or refused. A commit of S_MAINS clears PHASE_MM, even with an unchanged value (R251). -/
def State.commitSite (s : State) : State :=
  let q := s.stagedProfile
  match q.bad with
  | some off => s.refuse 0x01 RC.BAD_SITE off
  | none =>
    match s.depends q with
    | some p => s.refuse 0x01 RC.DEP_ENABLED (p * 2 ^ 16)
    | none =>
      let facts := q.declares
      ({ s with ret := { s.ret with profile := { q with facts := facts } } }).setAll
        [(R.HOSTIF.S_VALID_FACTS, facts), (R.HDR.REASON 0x01, 0), (R.SCHED.STAT_PHASE_MM, 0)]

/-- SITE_COMMIT. -/
def execSiteCommit (who : Requester) (s : State) : Host.Outcome State Fault Refusal := s.writeCmd who 0x01 0xC0 State.commitSite

end Sys2Proof.Machine
end

