-- ==== Sys2Proof/Machine/Reserved.lean ====
section
/-!
DEFINITION. The bits that each writable register defines, as the register tables give them; the others are reserved (R11).
-/

namespace Sys2Proof.Machine

/-- Writable registers with reserved bits: (page, first offset, how many, step, defined bits). Pages and offsets are those of the first
instance: ENG0, EVT 0x20, RFA, timer 0, channel 0. -/
def definedRows : List (Nat × Nat × Nat × Nat × Nat) :=
  [(0x00, 0x24, 1, 4, 0xFFFF000F),
   (0x00, 0x28, 1, 4, 0xFFFF),
   (0x00, 0x2C, 1, 4, 0xFFFF),
   (0x00, 0x34, 1, 4, 0x7F),
   (0x01, 0x20, 1, 4, 0xFF01),
   (0x01, 0x24, 1, 4, 0x7F1E),
   (0x01, 0x34, 1, 4, 0xFFF),
   (0x01, 0x50, 15, 4, 0xFFFFFF01),
   (0x01, 0xA0, 1, 4, 0xFFFF),
   (0x01, 0xA4, 1, 4, 0x3F),
   (0x01, 0xB0, 1, 4, 0x7),
   (0x01, 0xB4, 1, 4, 0x7),
   (0x01, 0xC0, 1, 4, 0x1),
   (0x02, 0x28, 1, 4, 0x131F),
   (0x02, 0x30, 1, 4, 0xFF),
   (0x02, 0x40, 1, 4, 0x1),
   (0x02, 0x44, 1, 4, 0x3),
   (0x02, 0x48, 1, 4, 0xFFFF),
   (0x02, 0x60, 8, 8, 0xFFFFF3FF),
   (0x03, 0x24, 1, 4, 0x3),
   (0x03, 0x28, 1, 4, 0xFFFFFF),
   (0x04, 0x20, 1, 4, 0xF17),
   (0x04, 0x3C, 1, 4, 0x1),
   (0x04, 0x44, 1, 4, 0xFF),
   (0x05, 0x20, 1, 4, 0x1),
   (0x10, 0x28, 1, 4, 0x7),
   (0x10, 0x2C, 1, 4, 0x1FFFF),
   (0x10, 0x30, 1, 4, 0xFF),
   (0x10, 0x3C, 1, 4, 0xF),
   (0x1C, 0x20, 1, 4, 0xF)] ++
  [(0x1C, 0x24, 1, 4, 0xFF),
   (0x1C, 0x2C, 1, 4, 0x3),
   (0x1D, 0x28, 1, 4, 0x1),
   (0x1D, 0x34, 1, 4, 0xF),
   (0x20, 0x20, 32, 4, 0x71F7F),
   (0x22, 0x20, 32, 4, 0x1F11FFF),
   (0x22, 0xA0, 1, 4, 0x1),
   (0x24, 0x20, 1, 4, 0xF00FF1F),
   (0x24, 0x4C, 1, 4, 0x17FF),
   (0x24, 0xE0, 1, 4, 0x1),
   (0x24, 0xE4, 1, 4, 0xFFFF),
   (0x28, 0x34, 1, 4, 0xFFFF),
   (0x28, 0x38, 1, 4, 0x71F3F3F),
   (0x28, 0x3C, 1, 4, 0xFFF0F1F),
   (0x28, 0x40, 1, 4, 0x3),
   (0x28, 0x44, 1, 4, 0x1FFFF),
   (0x28, 0x48, 1, 4, 0x31F),
   (0x28, 0x4C, 1, 4, 0x33),
   (0x28, 0x50, 1, 4, 0x71F3F3F),
   (0x28, 0x54, 1, 4, 0xFFF0F1F),
   (0x28, 0x58, 1, 4, 0x37F),
   (0x28, 0x5C, 1, 4, 0x71F3F3F),
   (0x28, 0x60, 1, 4, 0xFFF0F1F),
   (0x28, 0x64, 1, 4, 0x37F),
   (0x2A, 0x24, 1, 4, 0x1),
   (0x2A, 0x40, 1, 4, 0xF0001FF),
   (0x2A, 0x44, 1, 4, 0xFFFFFFF0),
   (0x2A, 0x48, 1, 4, 0x3),
   (0x2A, 0x4C, 1, 4, 0xFFFF07),
   (0x30, 0x20, 1, 4, 0xFFFF)] ++
  [(0x32, 0x20, 1, 4, 0x3),
   (0x34, 0x2C, 1, 4, 0xFF),
   (0x35, 0x20, 1, 4, 0xFF0F),
   (0x38, 0x20, 1, 4, 0x1FF3F3F),
   (0x38, 0x24, 1, 4, 0x33F),
   (0x38, 0x28, 1, 4, 0x3FFFF),
   (0x38, 0x30, 1, 4, 0xFFFF),
   (0x38, 0x80, 16, 8, 0xFF3F),
   (0x38, 0x84, 16, 8, 0xFFFF),
   (0x3A, 0x20, 1, 4, 0xFF1F),
   (0x3B, 0x20, 1, 4, 0x1FF),
   (0x3B, 0x28, 1, 4, 0x10F03FF),
   (0x3B, 0x2C, 1, 4, 0xFFFFFF),
   (0x3B, 0x30, 1, 4, 0xFFFFFF),
   (0x3C, 0x20, 1, 4, 0x1FF0F),
   (0x3C, 0x24, 3, 4, 0x3FFFFFFF),
   (0x3C, 0x34, 1, 4, 0x171F),
   (0x3C, 0xA0, 1, 4, 0x3),
   (0x40, 0x20, 1, 4, 0xFFF1FF),
   (0x40, 0x34, 1, 4, 0xFFFF07),
   (0x40, 0x38, 1, 4, 0xFFFF),
   (0x40, 0x3C, 1, 4, 0x1FFFF),
   (0x40, 0x40, 1, 4, 0x3FFF),
   (0x40, 0x44, 1, 4, 0xFFFF),
   (0x40, 0x60, 8, 4, 0x11FFF),
   (0x40, 0x80, 1, 4, 0xF7FF),
   (0x40, 0x84, 1, 4, 0xFFFFFF7),
   (0x40, 0x88, 1, 4, 0xFFFFFF77),
   (0x40, 0x8C, 1, 4, 0x1FF),
   (0x40, 0x90, 1, 4, 0x307FF)] ++
  [(0x40, 0x98, 1, 4, 0xFF),
   (0x41, 0x20, 1, 4, 0x7701),
   (0x41, 0x24, 1, 4, 0xFFFF),
   (0x41, 0x28, 1, 4, 0x3FF01),
   (0x41, 0x2C, 1, 4, 0xFF),
   (0x42, 0x20, 1, 4, 0x7),
   (0x42, 0x24, 1, 4, 0xF),
   (0x42, 0x28, 1, 4, 0x800000FF),
   (0x42, 0x3C, 1, 4, 0x3),
   (0x42, 0x40, 1, 4, 0xF),
   (0x42, 0x48, 1, 4, 0x10FFF),
   (0x44, 0x20, 1, 4, 0xFFFF077F),
   (0x44, 0x30, 1, 4, 0xFF07FF),
   (0x44, 0x34, 1, 4, 0xF0F),
   (0x44, 0x38, 1, 4, 0xFFF),
   (0x44, 0x3C, 1, 4, 0xF),
   (0x44, 0x5C, 1, 4, 0x7F),
   (0x45, 0x20, 1, 4, 0xFFFFFF01),
   (0x45, 0x28, 1, 4, 0x3FFF000F),
   (0x45, 0x38, 1, 4, 0xFFFF),
   (0x48, 0x20, 1, 4, 0xFF1F03FF),
   (0x48, 0x24, 4, 4, 0x1FFF0FFF),
   (0x48, 0x38, 1, 4, 0xFF1FFFFF),
   (0x48, 0x40, 1, 4, 0xFFF),
   (0x48, 0x48, 1, 4, 0x3),
   (0x48, 0x54, 1, 4, 0x3FFFF),
   (0x48, 0x5C, 1, 4, 0x3FFFF),
   (0x4C, 0x20, 1, 4, 0xF3F),
   (0x4C, 0x28, 1, 4, 0xFFFF000F),
   (0x4C, 0x38, 1, 4, 0xF)] ++
  [(0x50, 0x20, 1, 4, 0x7),
   (0x50, 0x24, 1, 4, 0x80000001),
   (0x50, 0x48, 1, 4, 0x3),
   (0x50, 0x4C, 1, 4, 0x73),
   (0x51, 0x20, 1, 4, 0x703),
   (0x52, 0x20, 1, 4, 0xFFFF000F),
   (0x52, 0x24, 1, 4, 0xFFFFFFF0),
   (0x53, 0x20, 1, 4, 0x7),
   (0x54, 0x20, 1, 4, 0x7),
   (0x54, 0x24, 1, 4, 0x7FFFFF),
   (0x54, 0x30, 1, 4, 0x1),
   (0x59, 0x20, 1, 4, 0x13),
   (0x59, 0x24, 1, 4, 0x3FFFFFF),
   (0x59, 0x28, 1, 4, 0x1FFF),
   (0x59, 0x34, 1, 4, 0x7FF07FF),
   (0x59, 0x38, 1, 4, 0x7FFF01),
   (0x59, 0x44, 1, 4, 0xF),
   (0x5C, 0x20, 1, 4, 0xFFFF),
   (0x5C, 0x38, 1, 4, 0x7),
   (0x5C, 0x3C, 1, 4, 0xFFFF),
   (0x5C, 0x48, 1, 4, 0x1FFFF),
   (0x60, 0x20, 1, 4, 0x7),
   (0x60, 0x28, 1, 4, 0xFFFFFF),
   (0x60, 0x2C, 1, 4, 0xFFFF0373),
   (0x61, 0x20, 1, 4, 0xFFFF0003),
   (0x61, 0x24, 1, 4, 0x3FF),
   (0x61, 0x2C, 1, 4, 0xFF013F),
   (0x61, 0x30, 1, 4, 0x3),
   (0x62, 0x50, 1, 4, 0xFFFF0003),
   (0x62, 0x5C, 1, 4, 0xFF)] ++
  [(0x63, 0x20, 4, 4, 0xFF0FFF07),
   (0x63, 0x30, 4, 4, 0x3FF),
   (0x68, 0x20, 1, 4, 0xFFFF3FFF),
   (0x68, 0x24, 1, 4, 0x7),
   (0x68, 0x2C, 1, 4, 0x7F),
   (0x68, 0x34, 1, 4, 0xFFFFFFF0),
   (0x68, 0x38, 1, 4, 0x1FF7F),
   (0x69, 0x20, 1, 4, 0xFFFF07),
   (0x69, 0x30, 1, 4, 0x7FF),
   (0x69, 0x38, 1, 4, 0x3),
   (0x69, 0x3C, 1, 4, 0xFFFF0003),
   (0x6A, 0x20, 1, 4, 0xFF0FFF03)]

/-- The first instance of a register that several pages or several places of a page hold. -/
def firstInstance (p off : Nat) : Nat × Nat :=
  bif Nat.ble 0x10 p && Nat.ble p 0x1B then (0x10, off)
  else bif Nat.beq p 0x21 then (0x20, off)
  else bif Nat.ble 0x24 p && Nat.ble p 0x27 then (0x24, bif Nat.blt off 0xE0 then 0x20 + (off - 0x20) % 0x30 else off)
  else bif Nat.beq p 0x2A || Nat.beq p 0x2B then (0x2A, bif Nat.blt off 0x40 then off else 0x40 + (off - 0x40) % 0x10)
  else bif Nat.beq p 0x31 then (0x30, off)
  else (p, off)

/-- The bits of the register at page:offset that a write may set. Of the header, CTL alone has reserved bits (R124, R416). -/
def definedBits (p off : Nat) : Nat :=
  let q := firstInstance p off
  bif Nat.beq off 0x04 then (bif Nat.beq q.1 0x10 then 0x107 else 0x7)
  else match definedRows.find? (fun r => Nat.beq r.1 q.1 && (List.range r.2.2.1).any (fun i => Nat.beq q.2 (r.2.1 + r.2.2.2.1 * i))) with
  | some r => r.2.2.2.2
  | none => 0xFFFFFFFF

/-- A word sets a reserved bit of the register. -/
def setsReserved (p off w : Nat) : Bool := !Nat.beq (w &&& (0xFFFFFFFF - definedBits p off)) 0

end Sys2Proof.Machine
end

