-- ==== Sys2Proof/Machine/StrataCmd.lean ====
section
/-!
DEFINITION. The STRATA page's commands, the recorder's mailbox service, its restart walk and its clear (ch. 22, R524-R536).
-/

namespace Sys2Proof.Machine

open Sys2Proof

/-- The types that a source may write (R526): E0-E9, E10 and E11, the host. -/
def typeOf (src t : Nat) : Bool :=
  bif Nat.blt src 10 then Nat.ble 0x01 t && Nat.ble t 0x3F
  else bif Nat.blt src 12 then Nat.ble 0x80 t && Nat.ble t 0xBF
  else Nat.ble 0xC0 t

/-- WRITE (R532): the record's body lies in bank 3 at BUF. -/
def State.strataWrite (s : State) : State :=
  let n := s.get R.STRATA.WDESC_BLEN + 1
  let a := s.get R.STRATA.BUF_ADDR
  bif !inBank3 a n || Nat.blt n 8 then s.refuse 0x5C RC.BAD_VALUE 0x40
  else bif !typeOf 12 (s.get R.STRATA.WDESC_TYPE) then s.refuse 0x5C RC.BAD_VALUE 0x3C
  else s.submit ⟨12, s.get R.STRATA.WDESC_TYPE, s.sramList a n, none⟩

/-- The records that a READ copies, in order, the open one last (R533). -/
def State.readable (s : State) (rseq : Nat) : List StrataRec :=
  let from_ := max rseq (s.get R.STRATA.FIRST_SEQ)
  (s.strata.records ++ (match s.strata.opened with | some r => [r] | none => [])).filter (fun r => Nat.ble from_ r.seq)

/-- Whole records while the next one fits: the bytes and how many. -/
def packRecords : Nat → List StrataRec → List Byte × Nat
  | _, [] => ([], 0)
  | room, r :: rest =>
    let b := r.bytes
    bif Nat.ble b.length room then
      let t := packRecords (room - b.length) rest
      (b ++ t.1, t.2 + 1)
    else ([], 0)

/-- READ (R533). -/
def State.strataRead (s : State) : State :=
  let a := s.get R.STRATA.BUF_ADDR
  let n := s.get R.STRATA.RLEN_BYTES
  bif !inBank3 a n then s.refuse 0x5C RC.BAD_VALUE 0x40
  else
    let r := packRecords n (s.readable (s.get R.STRATA.RSEQ_SEQ))
    ((s.sramStore a r.1).setAll [(R.STRATA.RRES_BYTES, r.1.length), (R.STRATA.RRES_RECORDS, r.2)]).raise 0x5C 2

/-- CHALLENGE (R535): 32 bytes from the DRBG, held and written to BUF. With the DRBG exhausted the command waits for
entropy like every engine's request (R492), which leaves the page BUSY. -/
def State.strataChallenge (s : State) : State :=
  let a := s.get R.STRATA.BUF_ADDR
  bif !inBank3 a 32 then s.refuse 0x5C RC.BAD_VALUE 0x40
  else bif s.noEntropy then s.set R.STRATA.STAT_BUSY 1
  else
    let c := s.freeBytes 32
    ((({ s with strata := { s.strata with challenge := some c } }).sramStore a c).spend 32).drbg

/-- DRBG_RESEED (R491, R492): with GARNET ON, a conditioned seed enters the DRBG; an engine's request that waited is served. -/
def execDrbgReseed (s : State) : Host.Outcome State Fault Refusal :=
  bif s.domOn 23 then
    let t := { s with garnet := { s.garnet with sinceSeed := 0, healthFail := false } }
    .next (bif t.bit R.STRATA.STAT_BUSY then (t.set R.STRATA.STAT_BUSY 0).strataChallenge else t)
  else .next s

/-- A clear token is good (R535). -/
def State.clearTokenOk (s : State) (t : List Byte) (challenge : List Byte) : Bool :=
  slice t 0 4 == ascii "YNC1" && slice t 5 3 == zeros 3 && Nat.beq (ofLe (slice t 8 8)) Config.extAddr.toNat &&
    slice t 16 32 == challenge &&
    (match s.signerKey (ofLe (slice t 4 1)) with
     | some key => ecdsaVerify key (sha384 (t.take 48)) (slice t 48 96)
     | none => false)

/-- The CLEARED record starts a sector of its own: the start sector, NEXT and FIRST move, LOST and the keys are emptied
(R530, R536 step 2). -/
def State.cleared (s : State) (sector signer : Nat) : State :=
  let seq := s.get R.STRATA.NEXT_SEQ
  let body := leBytes 4 (seq - 1) ++ leBytes 1 signer ++ zeros 3 ++ leBytes 4 (s.get R.STRATA.LOST_COUNT) ++ zeros 4
  let r : StrataRec := ⟨seq, 0x01, 1, s.get R.SYS.OPSEC_SEC, s.get R.SYS.PWRCYC_COUNT, 8, body, sector, none⟩
  ((({ s with strata := { s.strata with records := s.strata.records ++ [r], opened := none, recent := [], start := sector,
                                        sector := sector, offset := 40 } }.setAll
    [(R.STRATA.STAT_OPEN, 0), (R.STRATA.STAT_FULL, 0), (R.STRATA.STAT_SECTORS, 1), (R.STRATA.NEXT_SEQ, seq + 1),
     (R.STRATA.FIRST_SEQ, seq), (R.STRATA.LOST_COUNT, 0)]).bump R.STRATA.CNT_RECORDS).bumpWrap R.STRATA.WSEQ_COUNT)

/-- CLEAR with a token at BUF: steps 1 and 2 of R536, step 3 begins. -/
def State.strataClear (s : State) : State :=
  let a := s.get R.STRATA.BUF_ADDR
  bif s.bit R.STRATA.STAT_CLEARING then s.refuse 0x5C RC.BUSY 0x38
  else
    match s.strata.challenge with
    | none => s.refuse 0x5C 0x42 0x38
    | some ch =>
      let s := { s with strata := { s.strata with challenge := none } }
      let t := s.sramList a 144
      bif inBank3 a 144 && s.clearTokenOk t ch then
        let s := s.strataClose
        ((s.cleared ((s.strata.sector + 1) % 1024) (ofLe (slice t 4 1))).set R.STRATA.STAT_CLEARING 1).raise 0x5C 3
      else s.refuse 0x5C 0x41 0x38

/-- A write of CMD.OP (R532-R536). -/
def State.strataCmd (s : State) (op : Nat) : State :=
  bif s.bit R.STRATA.STAT_BUSY then s.refuse 0x5C RC.BUSY 0x38
  else
    match op with
    | 1 => s.strataWrite
    | 2 => s.strataRead
    | 3 => s.strataChallenge
    | 4 => s.strataClear
    | 5 => s.strataClose
    | _ => s.refuse 0x5C RC.BAD_VALUE 0x38

/-- STRATA_WRITE (R532). -/
def execStrataWrite (who : Requester) (s : State) : Host.Outcome State Fault Refusal :=
  s.command who 0x5C 0x38 (fun s => s.strataCmd 1)
/-- STRATA_READ (R533). -/
def execStrataRead (who : Requester) (s : State) : Host.Outcome State Fault Refusal :=
  s.command who 0x5C 0x38 (fun s => s.strataCmd 2)
/-- STRATA_CHALLENGE (R535). -/
def execStrataChallenge (who : Requester) (s : State) : Host.Outcome State Fault Refusal :=
  s.command who 0x5C 0x38 (fun s => s.strataCmd 3)
/-- STRATA_CLEAR (R535, R536). -/
def execStrataClear (who : Requester) (s : State) : Host.Outcome State Fault Refusal :=
  s.command who 0x5C 0x38 (fun s => s.strataCmd 4)
/-- STRATA_FLUSH (R527). -/
def execStrataFlush (who : Requester) (s : State) : Host.Outcome State Fault Refusal :=
  s.command who 0x5C 0x38 (fun s => s.strataCmd 5)

/-- MBOX_STRATA_RECORD (R526, R532): message 0x25 of an engine. -/
def execMboxStrataRecord (e : Fin 12) (tag : Half) (type blen : Byte) (addr : Word) (s : State) :
    Host.Outcome State Fault Refusal :=
  let n := blen.toNat + 1
  bif !typeOf e type.toNat || Nat.blt n 8 || !(inBank3 addr.toNat n || inSlice e addr.toNat n) then
    .next (s.answer 8 e 0xA5 tag.toNat 0 RC.BAD_VALUE 0 0)
  else .next (s.submit ⟨e, type.toNat, s.sramList addr.toNat n, some (e.val, tag.toNat)⟩)

/-- MBOX_STRATA_READ (R533): message 0x26 of E10 or E11; a buffer or a length out of range gets no record. -/
def execMboxStrataRead (e11 : Bool) (tag : Half) (rseq rlen buf : Word) (s : State) : Host.Outcome State Fault Refusal :=
  let who := customerEngine e11
  let n := rlen.toNat
  let wseq := s.get R.STRATA.WSEQ_COUNT
  bif Nat.blt n 280 || Nat.blt 65536 n || !(inBank3 buf.toNat n || inSlice who buf.toNat n) then
    .next (s.answer 8 who 0xA6 tag.toNat 0 0 wseq 0)
  else
    let r := packRecords n (s.readable rseq.toNat)
    .next ((s.sramStore buf.toNat r.1).answer 8 who 0xA6 tag.toNat r.1.length r.2 wseq 0)

/-- STRATA_CLOSE_TIMEOUT (R527): the open record has been open for CLOSE_S seconds of OPSEC. -/
def execStrataCloseTimeout (s : State) : Host.Outcome State Fault Refusal :=
  match s.strata.opened with
  | none => .next s
  | some r =>
    .next (bif Nat.ble (r.opsec + s.get R.STRATA.CFG_CLOSE_S) (s.get R.SYS.OPSEC_SEC) then s.strataClose else s)

/-- The erases of step 3 (R536): ascending and cyclic from the sector after the start sector, whole blocks as blocks. -/
def clearErases (start : Nat) : List (Nat × Bool) :=
  let sec (n : Nat) : Nat × Bool := (0x01080000 + 4096 * n, false)
  ((List.range (15 - start % 16)).map (fun i => sec (start + 1 + i))) ++
  ((List.range 63).map (fun i => (0x01080000 + 65536 * ((start / 16 + 1 + i) % 64), true))) ++
  ((List.range (start % 16)).map (fun i => sec (start / 16 * 16 + i)))

/-- Erases one after another, each with its journal entry and its result; a result not given took no pulse beyond none. -/
def State.eraseAll (s : State) : List (Nat × Bool) → List EraseResult → State
  | [], _ => s
  | (a, b) :: rest, rs =>
    let j := s.flash.jopen (bif b then 2 else 1) 0xFF a
    ({ s with flash := j.1 }.eraseDone a b j.2 (rs.headD ⟨0, none, 0⟩)).1.eraseAll rest rs.tail

/-- The records older than FIRST are gone and the clear ends. -/
def State.clearDone (s : State) (rs : List EraseResult) : State :=
  let s := s.eraseAll (clearErases s.strata.start) rs
  let first := s.get R.STRATA.FIRST_SEQ
  ((({ s with strata := { s.strata with records := s.strata.records.filter (fun r => Nat.ble first r.seq) } }).set
    R.STRATA.STAT_CLEARING 0).raise 0x5C 4).strataDrain

/-- STRATA_CLEAR_COMPLETE (R536): step 3 ends, with the results of its erases in order. -/
def execStrataClearComplete (results : List EraseResult) (s : State) : Host.Outcome State Fault Refusal :=
  .next (bif s.bit R.STRATA.STAT_CLEARING && !s.strata.walking then s.clearDone results else s)

/-- The newest valid CLEARED record (R530). -/
def Strata.startRecord (st : Strata) : Option StrataRec :=
  (st.records.filter (fun r => Nat.beq r.type 0x01)).getLast?

/-- The walk's findings: where recording goes on (R530). -/
def State.resume (s : State) : State :=
  match s.strata.startRecord, s.strata.records.getLast? with
  | some c, some r =>
    let t := { s with strata := { s.strata with start := c.sector, sector := r.sector,
                                                offset := s.strata.offsetOf r + strataSize r.body.length } }.setAll
      [(R.STRATA.NEXT_SEQ, r.seq + 1), (R.STRATA.FIRST_SEQ, c.seq),
       (R.STRATA.STAT_SECTORS, (r.sector + 1024 - c.sector) % 1024 + 1)]
    t.setBit R.STRATA.STAT_FULL (t.strataFull 32)
  | _, _ =>
    (({ s with strata := { s.strata with records := [] } }.eraseAll
      ((List.range 64).map (fun b => (0x01080000 + 65536 * b, true))) []).set R.STRATA.NEXT_SEQ 1).cleared 0 0xFF

/-- STRATA_RESTART_WALK (R529-R531, R536): E8 programs a valid open record, walks the partition, ends an interrupted clear and
takes what waited. -/
def execStrataRestartWalk (s : State) : Host.Outcome State Fault Refusal :=
  bif s.strata.walking then
    let s := s.strataClose.resume
    let s := { s with strata := { s.strata with walking := false } }
    .next (bif s.bit R.STRATA.STAT_CLEARING then s.clearDone [] else s.strataDrain)
  else .next s

end Sys2Proof.Machine
end

