-- ==== Sys2Proof/Machine/Bus.lean ====
section
/-!
DEFINITION. A 32-bit access to the register space as a requester makes it (R7-R11, R136, R147): writes to registers that command
something, plain field writes with their checks (R126, R129, R132), the reads that act (R8, R246, R447, R557), and the window pages.
-/

namespace Sys2Proof.Machine

open Sys2Proof

/-- The state that a command leaves. -/
def State.run (s : State) (o : Host.Outcome State Fault Refusal) : State :=
  match o with
  | .next t => t
  | _ => s

/-! ### Plain writes -/

/-- Written ones clear the W1C bits of a register (R8). -/
def State.clearW1c (s : State) (p off w : Nat) : State :=
  s.each ((rowsAt p off).filter (fun (r : Row) => decide (r.acc = .w1c))) (fun r t =>
    let v := t.get r.fld
    t.set r.fld (v - (v &&& r.fld.of w)))

/-- A serving engine's write: the RO fields that it maintains, STATE.BLK among them, and the W1C bits that it raises (R8, R136). -/
def State.serveWrite (s : State) (p off w : Nat) : State :=
  bif Nat.beq off 0x0C then s.each ((List.range 32).filter w.testBit) (fun b t => t.raise p b)
  else bif Nat.beq off 0x08 then s.set (R.HDR.BLK p) (w / 2 ^ 16)
  else bif Nat.blt off 0x20 then s
  else s.each (rowsAt p off) (fun r t =>
    bif decide (r.acc = .ro) then t.set r.fld (r.fld.of w)
    else bif decide (r.acc = .w1c) then t.set r.fld (t.get r.fld ||| r.fld.of w)
    else t)

/-- A field write (R129, R132): refused as a whole, or taken field by field where RWL fields are locked. Fields of a DISABLED page
take any value and are judged when it is enabled (R127). The STANDBY of a pair takes no mirrored configuration from its host (R365). -/
def State.plainWrite (s : State) (who p off w : Nat) : State :=
  let wr := (rowsAt p off).filter Row.writable
  let locked := s.bit (R.HDR.LOCK p)
  let isRwl (r : Row) : Bool := decide (r.acc = .rwl)
  let differs := locked && wr.any (fun r => isRwl r && !Nat.beq (r.fld.of w) (s.get r.fld))
  let taken := wr.filter (fun r => !(locked && isRwl r))
  let t := s.setAll (taken.map (fun r => (r.fld, r.fld.of w)))
  let checked := alwaysOn p || engPage p || Nat.beq (s.get (R.HDR.ST p)) 2
  let bad := bif checked then s.writeBad t p off else 0
  bif !alwaysOn p && !engPage p && Nat.beq (s.get (R.HDR.ST p)) 1 then s.refuse p RC.BUSY off
  else bif differs && taken.isEmpty then s.refuse p RC.LOCKED off
  else bif s.standby && Nat.beq who HOST && mirroredReg p off then s.refuse p RC.MODE off
  else bif !Nat.beq bad 0 then s.refuse p bad off
  else
    let t := (t.onlyIf (!servesPage who p) (·.clearW1c p off w)).onlyIf differs (·.refuse p RC.LOCKED off)
    t.onlyIf (mirroredReg p off) (fun t => t.mirror (t.configObj p off))

/-- A plain write made only where a condition holds; else the refusal of the register's own rule. -/
def State.writeIf (s : State) (ok : Bool) (reason who p off w : Nat) : State :=
  bif ok then s.plainWrite who p off w else s.refuse p reason off

/-! ### Registers whose write commands something -/

/-- Undefined operation codes are BAD_VALUE. -/
def State.badOp (s : State) (p off : Nat) : State := s.ready p off (fun s => s.refuse p RC.BAD_VALUE off)

/-- MODE_REQ (R78): a target without a row of the mode table is NOTALLOWED. -/
def State.modeReqWrite (s : State) (who : Requester) (w : Nat) : State :=
  let key := BitVec.ofNat 16 (w / 65536)
  match w % 16 with
  | 1 => s.run (execModeReqHold who key false s)
  | 3 => s.run (execModeReqCommission who key false s)
  | 4 => s.run (execModeReqService who key false s)
  | 5 => s.run (execModeReqMaintenance who key false s)
  | _ => s.modeReq who key false false (fun s => s.refuse 0x00 0x41 0x24)

/-- DOMCMD (R100). -/
def State.domcmdWrite (s : State) (who : Requester) (w : Nat) : State :=
  let k := BitVec.ofNat 5 w
  let nw := w.testBit 12
  match R.PWR.DOMCMD_TARGET.of w with
  | 0 => s.run (execDomcmdOff who k nw s)
  | 1 => s.run (execDomcmdRetention who k nw s)
  | 2 => s.run (execDomcmdOn who k nw s)
  | _ => s.run (execDomcmdAuto who k nw s)

/-- SYS, HOSTIF, PWR, CLK, FAULT and RET. -/
def State.sysWrite1 (s : State) (who : Requester) (p off w : Nat) : Option State :=
  match p, off with
  | 0x00, 0x24 => some (s.modeReqWrite who w)
  | 0x01, 0x34 => some (s.assign w)
  | 0x01, 0xC0 => some (s.onlyIf (w.testBit 0) State.commitSite)
  | 0x02, 0x28 => some (s.domcmdWrite who w)
  | 0x02, 0x30 => some (s.hostreqWrite w)
  | 0x02, 0x40 => some ((s.plainWrite who p off w).v3outFollow)
  | 0x03, 0x24 => some (s.run (execClkHostreqWrite who (BitVec.ofNat 32 w) s))
  | 0x03, 0x28 => bif Nat.beq who 0 then none else some s
  | 0x03, 0x2C => bif Nat.beq who 0 || Nat.beq who 4 then none else some s
  | 0x04, 0x3C => some (s.onlyIf (w.testBit 0) (fun s => s.run (execFaultDone who s)))
  | 0x05, 0x20 => some (s.onlyIf (w.testBit 0) (fun s => s.run (execRetCommit who s)))
  | _, _ => none

/-- DBGCMD (R419): HALT, else RESUME, else STEP, which the engine's next instruction ends. -/
def State.dbgCmd (s : State) (k w : Nat) : State :=
  bif w.testBit 0 then s.debugHalt k
  else bif w.testBit 1 then s.debugResume k
  else bif !w.testBit 2 then s
  else bif !decide ((s.eng k).run = .halted) then s.refuse (0x10 + k) 0x40 0x28
  else { s with cluster := { s.cluster with stepping := k :: s.cluster.stepping.filter (fun j => !Nat.beq j k) } }

/-- DBGDATA (R419): the selected register, refused unless the engine is HALTED. -/
def State.dbgData (s : State) (k w : Nat) : State :=
  bif decide ((s.eng k).run = .halted) then s.modEng k (fun e => e.debugPut (s.get (R.ENG.DBGSEL_REG k)) w)
  else s.refuse (0x10 + k) 0x40 0x40

/-- ENG0-ENG11, MCODE and COLLECT. -/
def State.cpuWrite (s : State) (who : Requester) (p off w : Nat) : Option State :=
  bif engPage p then
    match off with
    | 0x28 => some (s.dbgCmd (p - 0x10) w)
    | 0x40 => some (s.dbgData (p - 0x10) w)
    | _ => none
  else match p, off with
  | 0x1C, 0x28 => some (s.run (execMcodeDataAccess who (some (BitVec.ofNat 32 w)) s))
  | 0x1C, 0x2C => match R.MCODE.CMD_OP.of w with
    | 1 => some (s.run (execMcodeOpen who s))
    | 2 => some (s.run (execMcodeCommit who s))
    | _ => some (s.badOp p off)
  | 0x1C, _ => bif Nat.ble 0x40 off then some (s.ready p off (fun s => s.mcodeEntry ((off - 0x40) / 4) w)) else none
  | 0x1D, 0x28 => some (s.onlyIf (w.testBit 0) State.collectPop)
  | 0x1D, 0x34 => some (s.collectRespond (w % 16))
  | _, _ => none

/-- CNT of a timer: while it is stopped; the prescaler returns to phase 0 (R433). -/
def State.cntWrite (s : State) (i w : Nat) : State :=
  bif s.bit (R.TIM.STAT_RUN i) then s.refuse (0x24 + i / 4) 0x40 (0x24 + 0x30 * (i % 4))
  else (s.set (R.TIM.CNT_COUNT i) w).phaseZero i

/-- EVT and TIM. -/
def State.eventWrite (s : State) (who : Requester) (p off w : Nat) : Option State :=
  bif Nat.beq p 0x20 || Nat.beq p 0x21 then some (s.selectorWrite who (32 * (p - 0x20) + (off - 0x20) / 4) w)
  else bif Nat.beq p 0x22 then
    bif Nat.blt off 0xA0 then some (s.tapWrite who ((off - 0x20) / 4) w)
    else bif Nat.beq off 0xA0 then some (s.onlyIf (w.testBit 0) (fun s => s.run (execHostSignal who s)))
    else none
  else bif Nat.ble 0x24 p && Nat.ble p 0x27 then
    let i := 4 * (p - 0x24) + (off - 0x20) / 0x30
    let r := (off - 0x20) % 0x30
    bif Nat.beq off 0xE0 then some (s.onlyIf (w.testBit 0) (fun s => s.timerGo who))
    else bif Nat.beq off 0xE4 then some (s.timerReset who w)
    else bif Nat.ble 0xE0 off then none
    else bif Nat.beq r 0 then some (s.timCfgWrite who i w)
    else bif Nat.beq r 4 then some (s.cntWrite i w)
    else bif Nat.ble 8 r && Nat.blt r 0x18 then some (s.cmpWrite i ((r - 8) / 4) w)
    else none
  else none

/-- An alarm's fields (R456): refused while the alarm is enabled, and judged against the mask in force. -/
def State.alarmWrite (s : State) (n off w : Nat) : State :=
  let t := s.putWord 0x28 off w
  bif s.bit (R.RTC.ALM_CTL_EN n) then s.refuse 0x28 RC.BUSY off
  else bif !alarmFieldsOk (s.get (R.RTC.ALM_CTL_MASK n)) (t.alarmFields n) then s.refuse 0x28 RC.BAD_VALUE off
  else t

/-- RTC. -/
def State.rtcWrite (s : State) (who : Requester) (off w : Nat) : Option State :=
  bif Nat.ble 0x30 off && Nat.ble off 0x3C then bif s.bit R.RTC.STAT_PENDING then some (s.refuse 0x28 RC.BUSY off) else none
  else match off with
  | 0x40 => match R.RTC.CAL_COMMIT_OP.of w with
    | 1 => some (s.run (execRtcCommitCount who 0 s))
    | 2 => some (s.run (execRtcCommitCalendar who 0 s))
    | _ => some (s.refuse 0x28 RC.BAD_VALUE off)
  | 0x44 => some (s.run (execRtcShift who (BitVec.ofNat 16 w) 0 s))
  | 0x4C => some (s.run (execChgWrite who (BitVec.ofNat 32 w) s))
  | 0x50 => some (s.alarmWrite 0 off w)
  | 0x54 => some (s.alarmWrite 0 off w)
  | 0x58 => some (s.alarmCtl 0 w)
  | 0x5C => some (s.alarmWrite 1 off w)
  | 0x60 => some (s.alarmWrite 1 off w)
  | 0x64 => some (s.alarmCtl 1 w)
  | _ => none

/-- DMA channels (R460, R466): CFG, RING and IDX while the channel is STOPPED; OWNER is E0's. -/
def State.dmaWrite (s : State) (who : Requester) (p off w : Nat) : Option State :=
  bif Nat.blt off 0x40 then bif Nat.beq off 0x24 then some (s.onlyIf (w.testBit 0) (fun s => s.dmaClear who)) else none
  else
    let c := 8 * (p - 0x2A) + (off - 0x40) / 0x10
    let stopped := Nat.beq (s.get (R.DMA.STAT_ST c)) 0
    match (off - 0x40) % 0x10 with
    | 0 =>
      let own := R.DMA.CFG_OWNER c
      let w := bif Nat.beq who 0 then w else (R.DMA.CFG_ENTRIES c).of w + own.place (s.get own)
      some (s.writeIf stopped RC.BUSY who p off w)
    | 4 => some (s.writeIf stopped RC.BUSY who p off w)
    | 8 => some (s.ready p off (fun s => s.dmaCtl c w))
    | _ => some (s.writeIf stopped RC.BUSY who p off w)

/-- A slotframe register (R253): LEN does not change while the slotframe runs, and SF0 stays enabled. -/
def State.sfWrite (s : State) (who k off w : Nat) : State :=
  let len := (R.SCHED.SF_LEN k).of w
  let was := s.bit (R.SCHED.SF_EN k)
  let w := bif Nat.beq k 0 && !w.testBit 16 then w + 2 ^ 16 else w
  bif Nat.beq (s.get (R.HDR.ST 0x40)) 2 && was && !Nat.beq len (s.get (R.SCHED.SF_LEN k)) then s.refuse 0x40 RC.CONFLICT off
  else
    let t := s.plainWrite who 0x40 off w
    t.onlyIf (!was && t.bit (R.SCHED.SF_EN k)) (·.restartCells k)

/-- SCHED. -/
def State.schedWrite (s : State) (who : Requester) (off w : Nat) : Option State :=
  bif Nat.ble 0x44 off && Nat.ble off 0x58 then some (s.writeIf (!Nat.beq (s.get (R.HDR.ST 0x40)) 2) RC.CONFLICT who 0x40 off w)
  else bif Nat.ble 0x60 off && Nat.ble off 0x7C then some (s.sfWrite who ((off - 0x60) / 4) off w)
  else bif Nat.beq off 0x80 then
    let idx := BitVec.ofNat 11 w
    match R.SCHED.CELLCMD_OP.of w with
    | 1 => some (s.run (execCellcmdAdd who s))
    | 2 => some (s.run (execCellcmdDel who idx s))
    | 3 => some (s.run (execCellcmdRead who idx s))
    | 4 => some (s.run (execCellcmdDeleteSf who s))
    | _ => some (s.badOp 0x40 off)
  else none

/-- A slot that may be named for sending: valid, and neither the join key's nor the pair key's (R295, R356). -/
def State.sendSlot (s : State) (i : Nat) : Bool := (s.key i).valid && !Nat.beq (s.key i).idx 0xFF && !Nat.beq (s.key i).idx 0xFE

/-- KEYCTL: the index of the selected slot. -/
def State.keyctlWrite (s : State) (w : Nat) : State :=
  let i := s.get R.LINKSEC.KEYSEL_SLOT
  let idx := w % 256
  let taken := match s.slotOf idx with | some j => !Nat.beq j i | none => false
  bif Nat.beq (s.get (R.HDR.ST 0x42)) 1 then s.refuse 0x42 RC.BUSY 0x28
  else bif Nat.beq idx 0 then s.refuse 0x42 RC.BAD_VALUE 0x28
  else bif taken then s.refuse 0x42 RC.CONFLICT 0x28
  else s.setKey i { s.key i with idx := idx }

/-- LINKSEC. -/
def State.keyWrite (s : State) (who : Requester) (off w : Nat) : Option State :=
  let on := Nat.beq (s.get (R.HDR.ST 0x42)) 2
  bif Nat.ble 0x2C off && Nat.ble off 0x38 then
    some { s with sched := { s.sched with stagedKey := s.sched.stagedKey.put ((off - 0x2C) / 4) w } }
  else match off with
  | 0x28 => some (s.keyctlWrite w)
  | 0x3C => match R.LINKSEC.KEYCMD_OP.of w with
    | 1 => some (s.run (execLinksecKeyLoad who s))
    | 2 => some (s.run (execLinksecKeyErase who s))
    | _ => some (s.clearStaged.badOp 0x42 off)
  | 0x40 => some (s.writeIf (!on || s.sendSlot (R.LINKSEC.TXKEY_NET.of w)) RC.CONFLICT who 0x42 off w)
  | 0x48 => some (s.writeIf (!on || s.sendSlot (R.LINKSEC.KSW1_NEXT.of w)) RC.CONFLICT who 0x42 off w)
  | _ => none

/-- ASSOC.CMD. -/
def State.assocWrite (s : State) (who : Requester) (w : Nat) : State :=
  let idx := BitVec.ofNat 14 (w / 65536)
  match R.ASSOC.CMD_OP.of w with
  | 1 => s.run (execAssocLookup who s)
  | 2 => s.run (execAssocPreload who s)
  | 3 => s.run (execAssocApprove who idx s)
  | 4 => s.run (execAssocDeny who idx s)
  | 5 => s.run (execAssocDelete who idx s)
  | 6 => s.run (execAssocNextPending who idx s)
  | 7 => s.run (execAssocRehash who s)
  | _ => s.badOp 0x45 0x28

/-- MESH.CMD. -/
def State.meshWrite (s : State) (who : Requester) (w : Nat) : State :=
  match R.MESH.CMD_OP.of w with
  | 1 => s.run (execMeshScan who s)
  | 2 => s.run (execMeshJoin who (BitVec.ofNat 4 (w / 256)) s)
  | 3 => s.run (execMeshJoinBest who s)
  | 4 => s.run (execMeshAbort who s)
  | _ => s.badOp 0x44 0x34

/-- The radio, PLC, link, mesh, message and pair pages. -/
def State.netWrite (s : State) (who : Requester) (p off w : Nat) : Option State :=
  let key := BitVec.ofNat 16 (w / 65536)
  match p, off with
  | 0x32, 0x20 => some (s.run (execRfcalRun who (BitVec.ofNat 32 w) s))
  | 0x3B, 0x2C => some (s.writeIf (!s.bit R.PLCPHY.SOUND_AUTO) RC.CONFLICT who p off w)
  | 0x3B, 0x30 => some (s.writeIf (!s.bit R.PLCPHY.SOUND_AUTO) RC.CONFLICT who p off w)
  | 0x3C, 0xA0 => some (bif w.testBit 1 then s.run (execTonemapRegenAll who s)
      else bif w.testBit 0 then s.run (execTonemapRegenOne who s) else s)
  | 0x40, _ => s.schedWrite who off w
  | 0x42, _ => s.keyWrite who off w
  | 0x44, 0x34 => some (s.meshWrite who w)
  | 0x45, 0x28 => some (s.assocWrite who w)
  | 0x48, 0x48 => match R.MSG.TXCMD_OP.of w with
    | 1 => some (s.run (execMsgSend who s))
    | 2 => some (s.run (execMsgCancel who s))
    | _ => some (s.badOp p off)
  | 0x48, 0x50 => some (s.writeIf (!s.bit (R.HDR.EN p)) RC.CONFLICT who p off w)
  | 0x48, 0x54 => some (s.writeIf (!s.bit (R.HDR.EN p)) RC.CONFLICT who p off w)
  | 0x48, 0x5C => some (s.run (execRxtailWrite who (BitVec.ofNat 32 w) s))
  | 0x4C, 0x28 => match R.PAIR.CMD_OP.of w with
    | 1 => some (s.run (execPairHandover who key s))
    | 2 => some (s.run (execPairResync who key s))
    | _ => some (s.badOp p off)
  | _, _ => none

/-- CIPHER, HASH, PKE, MEASURE. -/
def State.garnetWrite (s : State) (who : Requester) (p off w : Nat) : Option State :=
  match p, off with
  | 0x50, 0x48 => match R.CIPHER.KEYCMD_OP.of w with
    | 1 => some (s.run (execCipherKeyLoad who s))
    | 2 => some (s.run (execCipherKeyErase who s))
    | _ => some (s.clearStagedKey.badOp p off)
  | 0x50, 0x4C => some (s.onlyIf (w.testBit 0) (fun s => s.run (execCipherGo who (w.testBit 1) (Fin.ofNat 8 (w / 16)) s)))
  | 0x50, _ =>
    bif Nat.ble 0x28 off && Nat.ble off 0x44 then some (s.stageKey ((off - 0x28) / 4) w)
    else bif Nat.ble 0x60 off && Nat.ble off 0x6C then some (s.writeIf (!s.bit R.CIPHER.STAT_BUSY) RC.BUSY who p off w)
    else none
  | 0x51, 0x20 => match R.HASH.CMD_OP.of w with
    | 1 => some (s.run (execHashInit who s))
    | 2 => some (s.run (execHashFinal who (BitVec.ofNat 3 (w / 256)) s))
    | 3 => some (s.run (execHashExtend7 who s))
    | _ => some (s.badOp p off)
  | 0x51, 0x28 => some (s.run (execHashDataWrite who (BitVec.ofNat 32 w) s))
  | 0x52, 0x20 => some (s.ready p off (fun s => s.pkeCommand (w % 16) (w / 65536)))
  | 0x53, 0x20 => some (s.measureSelect who w)
  | _, _ => none

/-- UPDATE, STORE, STRATA. -/
def State.storageWrite (s : State) (who : Requester) (p off w : Nat) : Option State :=
  match p, off with
  | 0x54, 0x20 => some (s.ready p off (fun s => s.updateCmd (w % 8)))
  | 0x59, 0x20 => some (s.storeCommand (w % 4) (w.testBit 4))
  | 0x59, 0x34 => some (s.writeIf (!s.bit R.STORE.STAT_BUSY) RC.CONFLICT who p off w)
  | 0x5C, 0x38 => some (s.strataCmd (w % 8))
  | _, _ => none

/-- AOUT.CFG: MODE changes only while EN = 0 (R546). -/
def State.aoutCfg (s : State) (who w : Nat) : State :=
  s.writeIf (!s.bit (R.HDR.EN 0x61) || Nat.beq (R.AOUT.CFG_MODE.of w) (s.get R.AOUT.CFG_MODE)) RC.CONFLICT who 0x61 0x20 w

/-- DALI, AOUT, METER. -/
def State.lampWrite (s : State) (who : Requester) (p off w : Nat) : Option State :=
  match p, off with
  | 0x60, 0x20 => some (s.buscfgWrite w)
  | 0x60, 0x2C => some (s.onlyIf (w.testBit 0) (fun s =>
      s.run (execDaliGo who (w.testBit 1) (BitVec.ofNat 3 (w / 16)) (w.testBit 8) (w.testBit 9) (BitVec.ofNat 16 (w / 65536)) s)))
  | 0x60, _ => bif Nat.ble 0x40 off && Nat.ble off 0x4C then some (s.gearClear ((off - 0x40) / 4)) else none
  | 0x61, 0x20 => some (s.aoutCfg who w)
  | 0x61, 0x24 => some (s.vsetWrite w (s.get R.AOUT.STAT_VOUT))
  | 0x61, 0x30 => bif Nat.beq (w % 4) 1 || Nat.beq (w % 4) 2 then some (s.relayCommand (w % 4)) else some (s.refuse p RC.BAD_VALUE off)
  | 0x62, 0x50 => bif Nat.beq (w % 4) 1 then some (s.ready p off (fun s => s.clrEnergy (w / 65536))) else some (s.badOp p off)
  | _, _ => none

/-- NFCRD, NFCTAG. -/
def State.tagPageWrite (s : State) (who : Requester) (p off w : Nat) : Option State :=
  let key := BitVec.ofNat 16 (w / 65536)
  match p, off with
  | 0x68, 0x24 => some (s.ready p off (fun s => s.rdCmd (w % 8) false))
  | 0x69, 0x38 => match w % 4 with
    | 1 => some (s.run (execTagOwnerRead who s))
    | 2 => some (s.run (execTagOwnerWrite who none s))
    | _ => some (s.badOp p off)
  | 0x69, 0x3C => match w % 4 with
    | 1 => some (s.run (execTagLoadPwd who key s))
    | 2 => some (s.run (execTagLoadKey who key s))
    | 3 => some (s.run (execTagClrFail who key s))
    | _ => some ((s.modNfc (fun x => { x with staged := [] })).badOp p off)
  | 0x69, _ =>
    bif Nat.ble 0x40 off && Nat.ble off 0x54 then some (s.modNfc (fun x => { x with staged := x.staged.put ((off - 0x40) / 4) w })) else none
  | _, _ => none

/-- A write to a register with a behaviour of its own, none where it has none. -/
def State.special (s : State) (who : Requester) (p off w : Nat) : Option State :=
  bif Nat.ble p 0x05 then s.sysWrite1 who p off w
  else bif Nat.ble p 0x1D then s.cpuWrite who p off w
  else bif Nat.ble p 0x27 then s.eventWrite who p off w
  else bif Nat.beq p 0x28 then s.rtcWrite who off w
  else bif Nat.ble p 0x2B then s.dmaWrite who p off w
  else bif Nat.ble p 0x4C then s.netWrite who p off w
  else bif Nat.ble p 0x53 then s.garnetWrite who p off w
  else bif Nat.ble p 0x5C then s.storageWrite who p off w
  else bif Nat.ble p 0x62 then s.lampWrite who p off w
  else s.tagPageWrite who p off w

/-! ### The header (R124) -/

/-- Written ones clear IRQ_STAT bits; on the EVT pages they are the OVR flags of the selectors (R427). -/
def State.irqClear (s : State) (p w : Nat) : State :=
  s.each ((List.range 32).filter w.testBit) (fun b t =>
    bif Nat.beq p 0x20 || Nat.beq p 0x21 then t.clearOvr (32 * (p - 0x20) + b) else t.set (R.HDR.IRQ p b) 0)

/-- A write to a header register by the owner or E0; OWNER is E0's alone (R137). -/
def State.headerWrite (s : State) (who p off w : Nat) : State :=
  match off with
  | 0x04 => s.ctlWrite who p w
  | 0x0C => s.onlyIf (!servesPage who p) (·.irqClear p w)
  | 0x10 => s.set (R.HDR.MASK p) w
  | 0x14 => s.onlyIf (Nat.beq who 0) (·.set (R.HDR.OWNER p) w)
  | _ => s

/-! ### Window pages (R147, R148) -/

/-- A window page. -/
def winPage (p : Nat) : Bool := Nat.ble 0x70 p && Nat.ble p 0x7E

/-- An access through a window: the system address that it reaches, with its bank awake, or none where it is refused. -/
def State.window (s : State) (who p off : Nat) (wr : Bool) : State × Option Nat :=
  let addr := p * 256 + off
  let a := 256 * s.get (R.HOSTIF.WIN_BASE (p - 0x70)) + off
  bif !s.alive then (s, none)
  else bif decide (s.mode = .boot) && Nat.beq who HOST then (s.refuseAccess who RC.BOOTING addr wr, none)
  else bif wr && !Nat.beq who HOST && !Nat.beq who 0 then (s.refuseAccess who RC.NOT_OWNER addr wr, none)
  else
    let h := s.wakeFor 25 0
    bif !h.2 then (h.1.domainOff who addr wr, none)
    else bif !inSram a then (h.1.refuseAccess who RC.WIN_UNMAPPED addr wr, none)
    else bif wr && !inBank3 a 4 then (h.1.refuseAccess who RC.WIN_RO addr wr, none)
    else
      let b := h.1.wakeBank (bankOf a) 0
      bif b.2 then (b.1, some a) else (b.1.bankOff who a wr, none)

/-! ### The access -/

/-- Requesters bound by R11's "must": host software, and the customer code of E10 and E11. -/
def bound (who : Nat) : Bool := Nat.ble 10 who

/-- A 32-bit write to page:offset. A reserved bit that host software or customer code sets breaks R11, so the write is refused and changes
nothing (R16). -/
def State.regWrite (s : State) (who : Requester) (p off w : Nat) : State :=
  let off := off / 4 * 4
  bif winPage p then
    let r := s.window who p off true
    match r.2 with
    | some a => r.1.sramStore a (leBytes 4 w)
    | none => r.1
  else
    let g := s.guard who p off true
    let s := g.1
    bif !g.2 then s
    else bif !hasReg p off then s.refuseAccess who RC.UNMAPPED (p * 256 + off) true
    else bif bound who && setsReserved p off w then s.refuse p RC.BAD_VALUE off
    else bif s.servesOnly who p off then s.serveWrite p off w
    else bif s.checking p off then s.refuse p RC.BUSY off
    else
      let s := s.onlyIf (servesPage who p) (·.serveWrite p off w)
      bif Nat.blt off 0x20 then s.headerWrite who p off w
      else match s.special who p off w with
        | some t => t
        | none => s.plainWrite who p off w

/-- The read clears the RC fields of a register (R8). -/
def State.clearRc (s : State) (p off : Nat) : State :=
  s.setAll (((rowsAt p off).filter (fun (r : Row) => decide (r.acc = .rc))).map (fun r => (r.fld, 0)))

/-- SCHED's readings of time (R246); `lat` is the requester whose latch is used. -/
def State.timeRead (s : State) (lat off : Nat) : State × Nat :=
  bif Nat.beq off 0x2C then
    ({ s with sched := { s.sched with latches := s.sched.latches.put lat (s.sched.asn / 2 ^ 16 + 1) } }, s.word lat 0x40 off)
  else
    let v := s.sched.latches.look lat
    (s, bif Nat.beq v 0 then s.sched.asn / 2 ^ 16 else v - 1)

/-- RTC's readings of time (R447). -/
def State.rtcRead (s : State) (lat off : Nat) : State × Nat :=
  match off with
  | 0x20 => ({ s with rtc := s.rtc.load lat }, s.rtc.count % 2 ^ 32)
  | 0x24 => let r := s.rtc.take lat 0; ({ s with rtc := r.1 }, r.2)
  | 0x28 => let r := s.rtc.take lat 1; ({ s with rtc := r.1 }, r.2)
  | _ => let r := s.rtc.take lat 2; ({ s with rtc := r.1 }, r.2)

/-- A read that acts, none where reading has no effect but R8's. -/
def State.specialRead (s : State) (lat p off : Nat) : Option (State × Nat) :=
  match p, off with
  | 0x01, 0x28 => some ({ s.clearRc p off with spi := { s.spi with err := false } }, s.word lat p off)
  | 0x1C, 0x28 => some s.mcodeRead
  | 0x40, 0x2C => some (s.timeRead lat off)
  | 0x40, 0x30 => some (s.timeRead lat off)
  | 0x48, 0x64 => let t := s.donePop; some (t, t.lastRead)
  | 0x60, 0x34 => some s.daliPop
  | 0x62, 0x24 => some (s.snapRead lat)
  | 0x62, 0x40 => some (s.energyRead lat)
  | 0x62, 0x44 => some (s.energyHiRead lat)
  | 0x69, 0x5C => some s.wrcntRead
  | _, _ =>
    bif Nat.beq p 0x28 && Nat.ble 0x20 off && Nat.ble off 0x2C then some (s.rtcRead lat off)
    else bif Nat.beq p 0x62 && Nat.ble 0x28 off && Nat.ble off 0x3C then some (s.meterTake lat off (s.word lat p off))
    else bif Nat.ble 0x24 p && Nat.ble p 0x27 && Nat.blt off 0xE0 && Nat.beq ((off - 0x20) % 0x30) 0x28 then
      let t := s.capRead (4 * (p - 0x24) + (off - 0x20) / 0x30)
      some (t, t.lastRead)
    else bif engPage p && Nat.beq off 0x40 then
      let e := s.eng (p - 0x10)
      some (bif decide (e.run = .halted) then (s, e.debugReg (s.get (R.ENG.DBGSEL_REG (p - 0x10)))) else (s.refuse p 0x40 off, 0))
    else none

/-- A 32-bit read of page:offset by `who`, with the latches of `lat` (DMA has its own): a refused read returns 0 (R135). -/
def State.regRead (s : State) (who lat p off : Nat) : State × Nat :=
  let off := off / 4 * 4
  bif winPage p then
    let r := s.window who p off false
    match r.2 with
    | some a => (r.1, r.1.sramWord a)
    | none => (r.1, 0)
  else
    let g := s.guard who p off false
    let s := g.1
    bif !g.2 then (s, 0)
    else bif !hasReg p off then (s.refuseAccess who RC.UNMAPPED (p * 256 + off) false, 0)
    else bif Nat.blt off 0x20 then (s, s.headerWord p off)
    else match s.specialRead lat p off with
      | some r => r
      | none => (s.clearRc p off, s.word lat p off)

/-- REGISTER_WRITE. -/
def execRegisterWrite (who : Requester) (page off : Byte) (value : Word) (s : State) : Host.Outcome State Fault Refusal :=
  .next (s.regWrite who page.toNat off.toNat value.toNat)

end Sys2Proof.Machine
end

