-- ==== Sys2Proof/Machine/FlintMem.lean ====
section
/-!
DEFINITION. What a Flint engine reaches (R378-R384, R412, R413, R420, R428, R440, R441): one byte of its 16-bit address space, read or
written, and what an instruction is fetched from. An access answers the state after it, or the FAULT cause and address that it raises.
-/

namespace Sys2Proof.Machine

open Sys2Proof

/-- A FAULT cause and its address (R401). -/
abbrev Flaw := Nat × Nat

abbrev F_ILLEGAL : Nat := 0x02
abbrev F_BUSERR : Nat := 0x03
abbrev F_STACK : Nat := 0x04

/-- The address that FAULT.ADDR shows for an engine address (R401): the system address, or 0xFFFF_0000 + a. -/
def Engine.faultAddr (e : Engine) (k a : Nat) : Nat :=
  bif Nat.blt a 0x8000 then 0xFFFF0000 + a
  else bif Nat.blt a 0xC000 then e.winbase.toNat + (a - 0x8000)
  else bif Nat.blt a 0xF000 then 0x200DC000 + 0x3000 * k + (a - 0xC000)
  else 0xFFFF0000 + a

/-- Byte `i` of a word. -/
def byteOf (w i : Nat) : Byte := BitVec.ofNat 8 (w / 2 ^ (8 * i))

/-! ### Staging latches (R379, R381, R440) -/

def Stage.put (t : Stage) (i : Nat) (b : Byte) : Stage :=
  match i with
  | 0 => { t with b0 := some b }
  | 1 => { t with b1 := some b }
  | _ => { t with b2 := some b }

/-- Three staged bytes and the top one as a word, bytes not staged from `old`. -/
def Stage.word (t : Stage) (top : Byte) (old : Nat) : Nat :=
  (t.b0.getD (byteOf old 0)).toNat + 2 ^ 8 * (t.b1.getD (byteOf old 1)).toNat + 2 ^ 16 * (t.b2.getD (byteOf old 2)).toNat +
    2 ^ 24 * top.toNat

/-- Staged bytes kept under a tag: those of another tag are discarded. -/
def stageUnder (l : Option (Nat × Stage)) (tag i : Nat) (b : Byte) : Option (Nat × Stage) :=
  match l with
  | some (t, g) => bif Nat.beq t tag then some (tag, g.put i b) else some (tag, Stage.none.put i b)
  | none => some (tag, Stage.none.put i b)

/-- The staged bytes of a tag. -/
def stagedOf (l : Option (Nat × Stage)) (tag : Nat) : Stage :=
  match l with
  | some (t, g) => bif Nat.beq t tag then g else Stage.none
  | none => Stage.none

/-! ### Shared SRAM and the Shale space through the window -/

/-- Byte access to a bank: it wakes where it can, else the access is refused (R29, R100, R101, R107). -/
def State.bankReady (s : State) (k sys : Nat) (wr : Bool) : State × Bool :=
  let b := s.wakeBank (bankOf sys) 0
  bif b.2 then b else (b.1.bankOff k sys wr, false)

def State.sramRead (s : State) (k sys : Nat) : State × Byte :=
  let b := s.bankReady k sys false
  (b.1, bif b.2 then b.1.sram sys else 0)

def State.sramWrite (s : State) (k sys : Nat) (v : Byte) : State :=
  let b := s.bankReady k sys true
  bif b.2 then b.1.sramStore sys [v] else b.1

/-- A byte read of the Shale space (R381): byte 0 loads the read latch; another byte comes from the latch where its tag matches, else from a
fresh read that leaves the latch empty. -/
def State.shaleRead (s : State) (k : Requester) (a : Nat) : State × Byte :=
  let reg := a / 4 * 4
  let held := match (s.eng k).readLatch with
    | some (t, w) => bif Nat.beq t reg && !Nat.beq (a % 4) 0 then some w.toNat else none
    | none => none
  match held with
  | some w => (s, byteOf w (a % 4))
  | none =>
    let r := s.regRead k k (reg / 256) (reg % 256)
    let latch := bif Nat.beq (a % 4) 0 then some (reg, BitVec.ofNat 32 r.2) else none
    (r.1.modEng k (fun e => { e with readLatch := latch }), byteOf r.2 (a % 4))

/-- A byte write of the Shale space (R381): bytes 0-2 are staged, byte 3 makes the 32-bit write. -/
def State.shaleWrite (s : State) (k : Requester) (a : Nat) (v : Byte) : State :=
  let reg := a / 4 * 4
  bif Nat.beq (a % 4) 3 then
    let w := (stagedOf (s.eng k).writeLatch reg).word v 0
    (s.modEng k (fun e => { e with writeLatch := none })).regWrite k (reg / 256) (reg % 256) w
  else s.modEng k (fun e => { e with writeLatch := stageUnder e.writeLatch reg (a % 4) v })

/-- E0 and E8 reach the ROM range (R380). -/
def romEngine (k : Nat) : Bool := Nat.beq k 0 || Nat.beq k 8

/-- A byte read through the window at a system address. -/
def State.windowRead (s : State) (k : Requester) (sys : Nat) : Except Flaw (State × Byte) :=
  bif Nat.blt sys 0x10000 then
    (bif romEngine k then .ok (s, Config.romByte sys) else .error (F_BUSERR, sys))
  else bif inSram sys then .ok (s.sramRead k sys)
  else bif inShale sys then .ok (s.shaleRead k (sys - 0x40000000))
  else .error (F_BUSERR, sys)

/-- A byte write through the window: never to ROM; E10 and E11 write bank 3 only (R412). -/
def State.windowWrite (s : State) (k : Requester) (sys : Nat) (v : Byte) : Except Flaw State :=
  bif inSram sys && !(Nat.ble 10 k && !inBank3 sys 1) then .ok (s.sramWrite k sys v)
  else bif inShale sys then .ok (s.shaleWrite k (sys - 0x40000000) v)
  else .error (F_BUSERR, sys)

/-! ### The I/O region (R382) -/

/-- Byte `i` of a mailbox message (R413). -/
def Mail.byte (m : Mail) (i : Nat) : Byte :=
  byteOf ((match i / 4 with | 0 => m.w0 | 1 => m.w1 | 2 => m.w2 | 3 => m.w3 | _ => m.w4) : Word).toNat (i % 4)

/-- A word with one byte replaced. -/
def setByte (w : Word) (i : Nat) (b : Byte) : Word :=
  (w &&& ~~~((0xFF#32) <<< (8 * i))) ||| (b.setWidth 32 <<< (8 * i))

def Mail.setByte (m : Mail) (i : Nat) (b : Byte) : Mail :=
  match i / 4 with
  | 0 => { m with w0 := Machine.setByte m.w0 (i % 4) b }
  | 1 => { m with w1 := Machine.setByte m.w1 (i % 4) b }
  | 2 => { m with w2 := Machine.setByte m.w2 (i % 4) b }
  | 3 => { m with w3 := Machine.setByte m.w3 (i % 4) b }
  | _ => { m with w4 := Machine.setByte m.w4 (i % 4) b }

/-- Three flags of an engine's inputs as bits. -/
def State.portBits (s : State) (k : Nat) (f : Nat → Fld) : Byte :=
  BitVec.ofNat 8 (s.get (f (3 * k)) + 2 * s.get (f (3 * k + 1)) + 4 * s.get (f (3 * k + 2)))

/-- The mailbox region (R413). -/
def State.mailRead (s : State) (k a : Nat) : Byte :=
  let e := s.eng k
  bif Nat.blt a 0x14 then (match e.mailbox with | m :: _ => m.byte a | [] => 0)
  else bif Nat.beq a 0x18 then BitVec.ofNat 8 e.mailbox.length
  else bif Nat.ble 0x20 a && Nat.blt a 0x34 then e.outbound.byte (a - 0x20)
  else bif Nat.beq a 0x39 then BitVec.ofNat 8 e.txst
  else 0

def State.mailWrite (s : State) (k a : Nat) (v : Byte) : State :=
  bif Nat.beq a 0x19 then s.mailPop k
  else bif Nat.ble 0x20 a && Nat.blt a 0x34 then s.modEng k (fun e => { e with outbound := e.outbound.setByte (a - 0x20) v })
  else bif Nat.beq a 0x38 then s.mailSend k v.toNat
  else s

/-- The event ports (R428). -/
def State.portRead (s : State) (k a : Nat) : Byte :=
  match a with
  | 0 => s.portBits k R.EVT.SEL_PEND
  | 1 => (s.eng k).wakeEn.setWidth 8
  | 2 => s.portBits k R.EVT.SEL_OVR
  | 4 => BitVec.ofNat 8 (s.get (R.EVT.SEL_SRC (3 * k)))
  | 5 => BitVec.ofNat 8 (s.get (R.EVT.SEL_SRC (3 * k + 1)))
  | 6 => BitVec.ofNat 8 (s.get (R.EVT.SEL_SRC (3 * k + 2)))
  | _ => 0

def State.portWrite (s : State) (k a : Nat) (v : Byte) : State :=
  match a with
  | 0 => s.each [0, 1, 2] (fun j t => t.onlyIf (v.getLsbD j) (·.takeInput (3 * k + j)))
  | 1 => s.modEng k (fun e => { e with wakeEn := v.setWidth 3 })
  | 2 => s.each [0, 1, 2] (fun j t => t.onlyIf (v.getLsbD j) (·.clearOvr (3 * k + j)))
  | 3 => s.fire (16 + k)
  | _ => s

/-- The timers that an engine may reach: its own; E0 and E4 all (R440). -/
def State.ownsTimer (s : State) (k i : Nat) : Bool := Nat.beq k 0 || Nat.beq k 4 || Nat.beq (s.get (R.TIM.CFG_OWNER i)) k

/-- The Shale address of the timer register behind an offset of the timer region. -/
def timerReg (i off : Nat) : Nat :=
  (0x24 + i / 4) * 256 + 0x20 + 0x30 * (i % 4) + (match off / 4 with | 0 => 0x04 | 1 => 0x28 | 2 => 0x08 | _ => 0x2C)

/-- COUNT or CAP (R441): byte 0 loads the timer latch, the others come from it while its tag matches. A read of CAP's byte 0 clears CAPFULL. -/
def State.timerLatched (s : State) (k i r b : Nat) : State × Byte :=
  let live := bif Nat.beq r 0 then s.get (R.TIM.CNT_COUNT i) else s.get (R.TIM.CAP_VALUE i)
  bif Nat.beq b 0 then
    let t := s.modEng k (fun e => { e with timerLatch := some (i, r, BitVec.ofNat 32 live) })
    (t.onlyIf (Nat.beq r 1) (·.set (R.TIM.STAT_CAPFULL i) 0), byteOf live 0)
  else
    match (s.eng k).timerLatch with
    | some (j, q, w) => (s, bif Nat.beq j i && Nat.beq q r then byteOf w.toNat b else byteOf live b)
    | none => (s, byteOf live b)

/-- The timer region (R440). -/
def State.timerRead (s : State) (k a : Nat) : State × Byte :=
  let i := a / 16
  let off := a % 16
  bif Nat.ble 14 off then (s, 0)
  else bif !s.ownsTimer k i then (s.refuseAccess k RC.NOT_OWNER (timerReg i off) false, 0)
  else bif Nat.blt off 8 then s.timerLatched k i (off / 4) (off % 4)
  else bif Nat.blt off 12 then (s, byteOf (s.get (R.TIM.CMP_VALUE i 0)) (off % 4))
  else (s, byteOf (s.word k (0x24 + i / 4) (0x4C + 0x30 * (i % 4))) (off % 4))

/-- A write of CMP0 by bytes (R440); the other bytes of the region are read-only. -/
def State.timerWrite (s : State) (k a : Nat) (v : Byte) : State :=
  let i := a / 16
  let off := a % 16
  bif Nat.ble 14 off then s
  else bif !s.ownsTimer k i then s.refuseAccess k RC.NOT_OWNER (timerReg i off) true
  else bif Nat.blt off 8 || Nat.ble 12 off then s
  else bif Nat.beq off 11 then
    let w := (stagedOf (s.eng k).cmpStage i).word v 0
    (s.modEng k (fun e => { e with cmpStage := none })).cmpWrite i 0 w
  else s.modEng k (fun e => { e with cmpStage := stageUnder e.cmpStage i (off - 8) v })

/-- The posting port (R420); with no response pending its value is not stated. -/
def State.postRead (s : State) (k a : Nat) : State × Byte :=
  let e := s.eng k
  bif Nat.beq a 8 then (s, BitVec.ofNat 8 (e.response.isSome.toNat + 2 * (Nat.beq k 0 && e.postRefused).toNat))
  else bif Nat.ble 0xC a && Nat.ble a 0xF then
    match e.response with
    | some w => (s.onlyIf (Nat.beq a 0xF) (·.modEng k (fun x => { x with response := none })), byteOf w.toNat (a - 0xC))
    | none => (s.spend 1, Config.freeByte s.freeCount)
  else (s, 0)

def State.postWrite (s : State) (k a : Nat) (v : Byte) : State :=
  let half (h : Half) (i : Nat) : Half := (Machine.setByte (h.setWidth 32) i v).setWidth 16
  bif Nat.blt a 2 then s.modEng k (fun e => { e with postCode := half e.postCode a })
  else bif Nat.beq a 2 then s.modEng k (fun e => { e with postResp := v.getLsbD 0 })
  else bif Nat.ble 4 a && Nat.ble a 7 then
    let t := s.modEng k (fun e => { e with postValue := Machine.setByte e.postValue (a - 4) v })
    t.onlyIf (Nat.beq a 7) (·.collectPost k)
  else s

/-- A byte read of the I/O region. -/
def State.ioRead (s : State) (k a : Nat) : State × Byte :=
  let e := s.eng k
  match (a - 0xF000) / 256 with
  | 0 =>
    bif Nat.blt (a - 0xF000) 4 then (s, byteOf e.winbase.toNat (a - 0xF000))
    else bif Nat.beq a 0xF004 then (s, BitVec.ofNat 8 k)
    else (s, bif Nat.beq a 0xF005 && e.kfmt then 1 else 0)
  | 1 => (s, s.mailRead k (a - 0xF100))
  | 2 => (s, s.portRead k (a - 0xF200))
  | 3 => s.timerRead k (a - 0xF300)
  | 4 => s.postRead k (a - 0xF400)
  | _ => (s, 0)

/-- A write of WINBASE by bytes (R379): byte 3 moves the window; bytes not staged keep the current base. -/
def State.winWrite (s : State) (k i : Nat) (v : Byte) : State :=
  s.modEng k (fun e =>
    bif Nat.beq i 3 then
      { e with winbase := BitVec.ofNat 32 (e.winStage.word v e.winbase.toNat) &&& 0xFFFFC000#32, winStage := Stage.none }
    else { e with winStage := e.winStage.put i v })

/-- A byte write of the I/O region; a write to a reserved address is ignored. -/
def State.ioWrite (s : State) (k a : Nat) (v : Byte) : State :=
  match (a - 0xF000) / 256 with
  | 0 => bif Nat.blt (a - 0xF000) 4 then s.winWrite k (a - 0xF000) v else s
  | 1 => s.mailWrite k (a - 0xF100) v
  | 2 => s.portWrite k (a - 0xF200) v
  | 3 => s.timerWrite k (a - 0xF300) v
  | 4 => s.postWrite k (a - 0xF400) v
  | _ => s

/-! ### One byte of the address map (R378) -/

def State.byteRead (s : State) (k : Fin 12) (a : Nat) : Except Flaw (State × Byte) :=
  let e := s.eng k
  bif Nat.blt a 0x8000 then .ok (s, e.sram.look 0 a)
  else bif Nat.blt a 0xC000 then s.windowRead (k.castSucc) (e.winbase.toNat + (a - 0x8000))
  else bif Nat.blt a 0xF000 then .ok (s.sramRead k (sliceAddr k a))
  else .ok (s.ioRead k a)

def State.byteWrite (s : State) (k : Fin 12) (a : Nat) (v : Byte) : Except Flaw State :=
  let e := s.eng k
  bif Nat.blt a 0x8000 then .ok (s.modEng k (fun e => { e with sram := e.sram.store 0 a v }))
  else bif Nat.blt a 0xC000 then s.windowWrite (k.castSucc) (e.winbase.toNat + (a - 0x8000)) v
  else bif Nat.blt a 0xF000 then .ok (s.sramWrite k (sliceAddr k a) v)
  else .ok (s.ioWrite k a v)

/-- A word, the low byte first (R377, R381); its second byte may wrap to 0x0000 (R390). -/
def State.wordRead (s : State) (k : Fin 12) (a : Half) : Except Flaw (State × Half) :=
  match s.byteRead k a.toNat with
  | .error x => .error x
  | .ok lo =>
    match lo.1.byteRead k (a + 1).toNat with
    | .error x => .error x
    | .ok hi => .ok (hi.1, hi.2 ++ lo.2)

def State.wordWrite (s : State) (k : Fin 12) (a v : Half) : Except Flaw State :=
  match s.byteWrite k a.toNat (v.setWidth 8) with
  | .error x => .error x
  | .ok t => t.byteWrite k (a + 1).toNat ((v >>> 8).setWidth 8)

/-! ### Fetching (R383) -/

/-- An engine may fetch from an address: local SRAM; for E0 and E8 the window while it lies in the ROM range. -/
def Engine.fetchable (e : Engine) (k a : Nat) : Bool :=
  Nat.blt a 0x8000 || (romEngine k && Nat.ble 0x8000 a && Nat.blt a 0xC000 && Nat.blt e.winbase.toNat 0x10000)

/-- The first flaw of fetching `n` words at an address. -/
def Engine.fetchFlaw (e : Engine) (k a n : Nat) : Option Flaw :=
  bif !Nat.beq (a % 2) 0 then some (F_ILLEGAL, a)
  else bif !e.fetchable k a then some (F_BUSERR, e.faultAddr k a)
  else bif Nat.beq n 2 && !e.fetchable k ((a + 2) % 65536) then some (F_BUSERR, e.faultAddr k ((a + 2) % 65536))
  else none

/-- The instruction word at a fetchable address. -/
def Engine.fetchWord (e : Engine) (a : Nat) : Nat :=
  bif Nat.blt a 0x8000 then e.localWord a
  else
    let sys := e.winbase.toNat + (a - 0x8000)
    (Config.romByte sys).toNat + 256 * (Config.romByte (sys + 1)).toNat

end Sys2Proof.Machine
end

