-- ==== Sys2Proof/Machine/Custom.lean ====
section
/-!
DEFINITION. Customer instructions (R396, R403-R408): a decode entry's microcode on a shadow set of registers, committed at END.
-/

namespace Sys2Proof.Machine

open Sys2Proof

/-- A decode entry (R404). -/
def entryStart (d : Nat) : Nat := d % 256
def entryExt (d : Nat) : Bool := d.testBit 8
def entryXuse (d : Nat) : Nat := d / 2 ^ 9 % 8
def entryMask (d : Nat) : Nat := d / 2 ^ 12 % 16

/-- X keeps the entry's XUSE rule (R404). -/
def xuseOk (d : Nat) (x : BitVec 5) : Bool :=
  match entryXuse d with
  | 0 => Nat.beq x.toNat 0
  | 1 => Nat.blt x.toNat 8
  | 2 => Nat.blt x.toNat 4
  | 3 => Nat.blt x.toNat 4
  | 4 => true
  | _ => false

/-- The engine executes entry `n` with operand `x`: measured microcode, a usable entry and a legal X (R396, R403, R404). -/
def Engine.customOk (e : Engine) (n : BitVec 4) (x : BitVec 5) : Bool :=
  decide (e.mc = .measured) && (e.entry n.toNat).testBit 16 && xuseOk (e.entry n.toNat) x

/-- The shadow set of a customer instruction (R408) and its temporaries (R406). -/
structure MicroSet where
  g     : GRegs
  p     : PRegs
  flags : CpuFlags
  t0    : Half
  t1    : Half
  /-- UC and UZ (R407). -/
  u     : CpuFlags
  /-- The store buffer, oldest first. -/
  buf   : List (Nat × Byte)
  sp    : Half
  x     : BitVec 5
  ext   : Half
  xuse  : Nat
  fmask : Nat
  deriving DecidableEq, Repr

/-- What runs the micro-words: the state that loads have left, and the shadow set. -/
structure MicroRun where
  s : State
  h : MicroSet
  deriving DecidableEq, Repr

/-- A free word for a value that the spec does not give. -/
def MicroRun.free (m : MicroRun) : MicroRun × Half :=
  ({ m with s := m.s.spend 2 }, Config.freeByte m.s.freeCount ++ Config.freeByte (m.s.freeCount + 1))

/-- XREG under NONE and IMM5 raises ILLEGAL (R406). -/
def MicroSet.xregBad (h : MicroSet) : Bool := Nat.beq h.xuse 0 || Nat.beq h.xuse 4

/-- A source of the ALU8 column (R406); none for an XREG that raises ILLEGAL. A W or P register named in this column has no stated byte. -/
def MicroRun.src8 (m : MicroRun) (sel imm : Nat) : Option (MicroRun × Byte) :=
  let h := m.h
  bif Nat.blt sel 8 then some (m, h.g.get (BitVec.ofNat 3 sel))
  else match sel with
  | 8 =>
    bif h.xregBad then none
    else bif Nat.beq h.xuse 1 then some (m, h.g.get (h.x.setWidth 3))
    else let f := m.free; some (f.1, f.2.setWidth 8)
  | 9 => some (m, h.ext.setWidth 8)
  | 10 => some (m, h.t0.setWidth 8)
  | 11 => some (m, h.t1.setWidth 8)
  | 12 => some (m, BitVec.ofNat 8 imm)
  | 13 => some (m, h.x.setWidth 8)
  | 14 => some (m, h.flags.byte)
  | _ => some (m, 0)

/-- A source of the ALU16 column (R406). A G register named by XREG in this column has no stated word. -/
def MicroRun.src16 (m : MicroRun) (sel imm : Nat) : Option (MicroRun × Half) :=
  let h := m.h
  bif Nat.blt sel 4 then some (m, h.g.getW (BitVec.ofNat 2 sel))
  else bif Nat.blt sel 8 then some (m, h.p.get (BitVec.ofNat 2 sel))
  else match sel with
  | 8 =>
    bif h.xregBad then none
    else match h.xuse with
      | 2 => some (m, h.g.getW (h.x.setWidth 2))
      | 3 => some (m, h.p.get (h.x.setWidth 2))
      | _ => some m.free
  | 9 => some (m, h.ext)
  | 10 => some (m, h.t0)
  | 11 => some (m, h.t1)
  | 12 => some (m, BitVec.ofNat 16 imm)
  | 13 => some (m, h.x.setWidth 16)
  | 14 => some (m, h.sp)
  | _ => some (m, 0)

/-- A destination of the ALU8 column; a source-only selector takes nothing. A W or P register named by XREG in this column gets a value that
the spec does not state. -/
def MicroRun.dst8 (m : MicroRun) (sel : Nat) (v : Byte) : Option MicroRun :=
  let h := m.h
  bif Nat.blt sel 8 then some { m with h := { h with g := h.g.put (BitVec.ofNat 3 sel) v } }
  else match sel with
  | 8 =>
    bif h.xregBad then none
    else match h.xuse with
      | 1 => some { m with h := { h with g := h.g.put (h.x.setWidth 3) v } }
      | 2 => let f := m.free; some { f.1 with h := { h with g := h.g.putW (h.x.setWidth 2) f.2 } }
      | _ => let f := m.free; some { f.1 with h := { h with p := h.p.put (h.x.setWidth 2) f.2 } }
  | 10 => some { m with h := { h with t0 := v.setWidth 16 } }
  | 11 => some { m with h := { h with t1 := v.setWidth 16 } }
  | _ => some m

/-- A destination of the ALU16 column. -/
def MicroRun.dst16 (m : MicroRun) (sel : Nat) (v : Half) : Option MicroRun :=
  let h := m.h
  bif Nat.blt sel 4 then some { m with h := { h with g := h.g.putW (BitVec.ofNat 2 sel) v } }
  else bif Nat.blt sel 8 then some { m with h := { h with p := h.p.put (BitVec.ofNat 2 sel) v } }
  else match sel with
  | 8 =>
    bif h.xregBad then none
    else match h.xuse with
      | 2 => some { m with h := { h with g := h.g.putW (h.x.setWidth 2) v } }
      | 3 => some { m with h := { h with p := h.p.put (h.x.setWidth 2) v } }
      | _ => let f := m.free; some { f.1 with h := { h with g := h.g.put (h.x.setWidth 3) (f.2.setWidth 8) } }
  | 10 => some { m with h := { h with t0 := v } }
  | 11 => some { m with h := { h with t1 := v } }
  | _ => some m

/-- A micro-word's predicate holds (R405). -/
def CpuFlags.pred (u : CpuFlags) (n : Nat) : Bool :=
  match n with
  | 0 => true
  | 1 => u.z
  | 2 => !u.z
  | _ => u.c

/-- ALU functions whose result has a carry, a borrow or a bit shifted out. -/
def carries (fn : Nat) : Bool := Nat.ble 1 fn && Nat.ble fn 3 || Nat.ble 7 fn && Nat.ble fn 10

/-- FLAGS after an FL word (R404, R405): the ALU flags in the bits of FMASK; a function without a carry leaves C. -/
def flWrite (mask fn : Nat) (old r : CpuFlags) : CpuFlags :=
  ⟨bif mask.testBit 0 && carries fn then r.c else old.c, bif mask.testBit 1 then r.z else old.z,
   bif mask.testBit 2 then r.n else old.n, bif mask.testBit 3 then r.v else old.v⟩

/-- The micro-status after a word (R407), and FLAGS where FL is set. -/
def MicroSet.status (h : MicroSet) (w : Nat) (r : CpuFlags) : MicroSet :=
  { h with u := ⟨r.c, r.z, false, false⟩, flags := bif uFl w then flWrite h.fmask (uFn w) h.flags r else h.flags }

/-- LD8: the newest buffered byte of the address, else memory, local SRAM and the slice only (R408). -/
def MicroRun.load (m : MicroRun) (k : Fin 12) (a : Half) : Except Flaw (MicroRun × Byte) :=
  match m.h.buf.reverse.find? (fun (c : Nat × Byte) => Nat.beq c.1 a.toNat) with
  | some c => .ok (m, c.2)
  | none =>
    match m.s.byteRead k a.toNat with
    | .error x => .error x
    | .ok r => .ok ({ m with s := r.1 }, r.2)

/-- One micro-word whose predicate holds, not a branch. -/
def MicroRun.exec (m : MicroRun) (k : Fin 12) (w pc : Nat) : Except Flaw MicroRun :=
  let bad : Except Flaw MicroRun := .error (F_ILLEGAL, pc)
  let lift (o : Option MicroRun) : Except Flaw MicroRun := match o with | some x => .ok x | none => bad
  let own (a : Half) : Bool := Nat.blt a.toNat 0x8000 || (Nat.ble 0xC000 a.toNat && Nat.blt a.toNat 0xF000)
  let far (a : Half) : Flaw := (F_BUSERR, (m.s.eng k).faultAddr k a.toNat)
  match uop w with
  | 1 =>
    match m.src8 (uSrcA w) (uImm w) with
    | none => bad
    | some a =>
      match a.1.src8 (uSrcB w) (uImm w) with
      | none => bad
      | some b =>
        let r := microAlu (uFn w) a.2 b.2 m.h.u
        lift ((b.1.dst8 (uDst w) r.1).map (fun x => { x with h := x.h.status w r.2 }))
  | 2 =>
    match m.src16 (uSrcA w) (uImm w) with
    | none => bad
    | some a =>
      match a.1.src16 (uSrcB w) (uImm w) with
      | none => bad
      | some b =>
        let r := microAlu (uFn w) a.2 b.2 m.h.u
        lift ((b.1.dst16 (uDst w) r.1).map (fun x => { x with h := x.h.status w r.2 }))
  | 3 =>
    match m.src16 (uSrcA w) (uImm w) with
    | none => bad
    | some a =>
      bif !own a.2 then .error (far a.2)
      else match a.1.load k a.2 with
        | .error x => .error x
        | .ok r => lift ((r.1.dst8 (uDst w) r.2).map (fun x => { x with h := x.h.status w (logicFlags r.2 m.h.u).2 }))
  | 4 =>
    match m.src16 (uSrcA w) (uImm w) with
    | none => bad
    | some a =>
      match a.1.src8 (uSrcB w) (uImm w) with
      | none => bad
      | some b =>
        bif !own a.2 then .error (far a.2)
        else bif Nat.ble 4 b.1.h.buf.length then bad
        else
          let h := { b.1.h with buf := b.1.h.buf ++ [(a.2.toNat, b.2)] }
          .ok { b.1 with h := h.status w (logicFlags b.2 m.h.u).2 }
  | _ => .ok m

/-- Micro-words from `upc` until END; 1,024 of them without END raise ILLEGAL (R408). A failed predicate leaves everything but END; a taken BR
does not end. -/
def MicroRun.loop (m : MicroRun) (k : Fin 12) (pc : Nat) (upc : Nat) : Nat → Except Flaw MicroRun
  | 0 => .error (F_ILLEGAL, pc)
  | fuel + 1 =>
    let w := (m.s.eng k).microWord upc
    let holds := m.h.u.pred (uPred w)
    bif Nat.beq (uop w) 5 && holds then m.loop k pc (uImm w) fuel
    else
      match (bif holds then m.exec k w pc else .ok m) with
      | .error x => .error x
      | .ok t => bif uEnd w then .ok t else t.loop k pc ((upc + 1) % 256) fuel

/-- Buffered stores go to memory in order, after the commit (R408). -/
def State.drainBuffer (s : State) (k : Fin 12) : List (Nat × Byte) → State
  | [] => s
  | c :: l =>
    match s.byteWrite k c.1 c.2 with
    | .ok t => t.drainBuffer k l
    | .error _ => s.drainBuffer k l

/-- A customer instruction of engine `k` at `pc`; `s` has PC past it. -/
def State.custom (s : State) (k : Fin 12) (pc : Nat) (n : BitVec 4) (x : BitVec 5) (ext : Half) : Except Flaw State :=
  let e := s.eng k
  let d := e.entry n.toNat
  let h : MicroSet :=
    { g := e.g, p := e.p, flags := e.flags, t0 := 0, t1 := 0, u := ⟨false, false, false, false⟩, buf := [], sp := e.sp, x := x,
      ext := bif entryExt d then ext else 0, xuse := entryXuse d, fmask := entryMask d }
  match MicroRun.loop ⟨s, h⟩ k pc (entryStart d) 1024 with
  | .error f => .error f
  | .ok m => .ok ((m.s.modEng k (fun e => { e with g := m.h.g, p := m.h.p, flags := m.h.flags })).drainBuffer k m.h.buf)

end Sys2Proof.Machine
end

