-- ==== Sys2Proof/Machine/Flint.lean ====
section
/-!
DEFINITION. One instruction of a Flint engine (R383-R402): what it needs to execute, its effect, and the fault that leaves it without one.
-/

namespace Sys2Proof.Machine

open Sys2Proof

/-! ### The parts of an effect -/

/-- The second operand of a byte instruction. -/
def Engine.src8 (e : Engine) : Src8 → Byte
  | .reg g => e.g.get g
  | .imm v => v

/-- The second operand of a word instruction: Ws or the immediate. -/
def Engine.src16 (e : Engine) : Src16 → Half
  | .reg n => e.g.getW n
  | .imm v => v

/-- The operand of MOVP: Ps or the immediate. -/
def Engine.srcP (e : Engine) : Src16 → Half
  | .reg n => e.p.get n
  | .imm v => v

def Engine.target (e : Engine) : Target → Half
  | .imm a => a
  | .ptr p => e.p.get p

def Engine.ptrSrc (e : Engine) : PtrSrc → Half
  | .ptr p => e.p.get p
  | .sp => e.sp

/-- Gd with FLAGS. -/
def Engine.setG (e : Engine) (d : BitVec 3) (r : Byte × CpuFlags) : Engine := { e with g := e.g.put d r.1, flags := r.2 }

/-- A two-operand byte function. -/
def Engine.alu (e : Engine) (fn : Alu8) (d : BitVec 3) (src : Src8) : Engine :=
  let r := alu8 fn (e.g.get d) (e.src8 src) e.flags
  match r.1 with
  | some v => e.setG d (v, r.2)
  | none => { e with flags := r.2 }

/-- A word function. -/
def Engine.aluw (e : Engine) (fn : AluW) (d : BitVec 2) (src : Src16) : Engine :=
  let r := aluW fn (e.g.getW d) (e.src16 src) e.flags
  match r.1 with
  | some v => { e with g := e.g.putW d v, flags := r.2 }
  | none => { e with flags := r.2 }

/-- BTST, BSET, BCLR, BTGL. -/
def Engine.bit (e : Engine) (op : BitOp) (d b : BitVec 3) : Engine :=
  let v := e.g.get d
  let m : Byte := 1#8 <<< b.toNat
  match op with
  | .tst => { e with flags := { e.flags with z := v &&& m == 0 } }
  | .set => { e with g := e.g.put d (v ||| m) }
  | .clr => { e with g := e.g.put d (v &&& ~~~m) }
  | .tgl => { e with g := e.g.put d (v ^^^ m) }

/-- CLC, SEC, CLV. -/
def Engine.flagOp (e : Engine) (op : FlagOp) : Engine :=
  match op with
  | .clc => { e with flags := { e.flags with c := false } }
  | .sec => { e with flags := { e.flags with c := true } }
  | .clv => { e with flags := { e.flags with v := false } }

/-- MULU: both operands are read before W0 is written. -/
def Engine.mulu (e : Engine) (d g : BitVec 3) : Engine :=
  let r := muluFlags (e.g.get d) (e.g.get g)
  { e with g := e.g.putW 0 r.1, flags := r.2 }

/-- A branch target: the address after the instruction plus twice the signed offset (R393). -/
def branchTo (np : Half) {w : Nat} (off : BitVec w) : Half := np + (off.signExtend 16 <<< 1)

/-- DJNZ. -/
def Engine.djnz (e : Engine) (d : BitVec 3) (rel : Half) : Engine :=
  let v := e.g.get d - 1
  { e with g := e.g.put d v, pc := bif v == 0 then e.pc else branchTo e.pc rel }

/-- A compare-and-branch (R399). -/
def Engine.cb (e : Engine) (c : Cmp) (d : BitVec 3) : CbSrc → Engine
  | .reg g rel => { e with pc := bif c.holds (e.g.get d) (e.g.get g) then branchTo e.pc rel else e.pc }
  | .imm v rel => { e with pc := bif c.holds (e.g.get d) v then branchTo e.pc rel else e.pc }

def Engine.cbw (e : Engine) (c : Cmp) (d w : BitVec 2) (rel : Half) : Engine :=
  { e with pc := bif c.holds (e.g.getW d) (e.g.getW w) then branchTo e.pc rel else e.pc }

/-! ### The stack (R384) -/

/-- The `n` stack bytes from an address on lie in local SRAM. -/
def stackOk (a : Half) (n : Nat) : Bool :=
  Nat.blt a.toNat 0x8000 && (Nat.beq n 1 || Nat.blt (a + 1).toNat 0x8000)

/-- Push a byte; none where a stack byte lies elsewhere. -/
def Engine.push8 (e : Engine) (v : Byte) : Option Engine :=
  let a := e.sp - 1
  bif stackOk a 1 then some { e with sp := a, sram := e.sram.store 0 a.toNat v } else none

/-- Push a word: high byte at SP - 1, low byte at SP - 2. -/
def Engine.push16 (e : Engine) (v : Half) : Option Engine :=
  let a := e.sp - 2
  bif stackOk a 2 then
    some { e with sp := a, sram := (e.sram.store 0 (a + 1).toNat ((v >>> 8).setWidth 8)).store 0 a.toNat (v.setWidth 8) }
  else none

/-- Pop a byte. -/
def Engine.pop8 (e : Engine) : Option (Engine × Byte) :=
  bif stackOk e.sp 1 then some ({ e with sp := e.sp + 1 }, e.sram.look 0 e.sp.toNat) else none

/-- Pop a word. -/
def Engine.pop16 (e : Engine) : Option (Engine × Half) :=
  bif stackOk e.sp 2 then some ({ e with sp := e.sp + 2 }, e.sram.look 0 (e.sp + 1).toNat ++ e.sram.look 0 e.sp.toNat) else none

/-- A push or pop of a register. -/
def Engine.pushReg (e : Engine) : StackReg → Option Engine
  | .g n => e.push8 (e.g.get n)
  | .p n => e.push16 (e.p.get n)
  | .w n => e.push16 (e.g.getW n)
  | .flags => e.push8 e.flags.byte

def Engine.popReg (e : Engine) : StackReg → Option Engine
  | .g n => e.pop8.map (fun r => { r.1 with g := r.1.g.put n r.2 })
  | .p n => e.pop16.map (fun r => { r.1 with p := r.1.p.put n r.2 })
  | .w n => e.pop16.map (fun r => { r.1 with g := r.1.g.putW n r.2 })
  | .flags => e.pop8.map (fun r => { r.1 with flags := flagsFrom r.2 })

/-! ### Jumps and WAIT -/

/-- A JMP, CALL or RET of E0 brings a change of its own format into force (R400). -/
def State.formatSwitch (s : State) (k : Nat) : State :=
  bif Nat.beq k 0 && (s.eng 0).kfmtDue then
    let kf := s.bit (R.ENG.KFMT 0)
    (s.modEng 0 (fun e => { e with kfmt := kf, kfmtDue := false })).setBit (R.ENG.STAT_KFMT_ON 0) kf
  else s

/-- PC goes to an address, by a JMP, CALL or RET. -/
def State.jumpTo (s : State) (k : Nat) (a : Half) : State := (s.modEng k (fun e => { e with pc := a })).formatSwitch k

/-- A wake condition of R395 holds. -/
def State.wakeDue (s : State) (k : Nat) : Bool :=
  let e := s.eng k
  [0, 1, 2].any (fun j => e.wakeEn.getLsbD j && s.bit (R.EVT.SEL_PEND (3 * k + j))) || !e.mailbox.isEmpty || e.response.isSome

/-- WAIT: the engine waits unless a condition already holds. -/
def State.waitOp (s : State) (k : Nat) : State := bif s.wakeDue k then s else s.modEng k (fun e => { e with run := .waiting })

/-! ### An instruction's effect -/

/-- An effect on the engine's own registers and local SRAM, none for STACK. -/
def Engine.effect (e : Engine) (op : FOp) : Option Engine :=
  match op with
  | .alu fn d src => some (e.alu fn d src)
  | .unary fn d => some (e.setG d (unary8 fn (e.g.get d) e.flags))
  | .aluw fn d src => some (e.aluw fn d src)
  | .movp d src => some { e with p := e.p.put d (e.srcP src) }
  | .addp d src => some { e with p := e.p.put d (e.p.get d + e.src16 src) }
  | .movpw d w => some { e with p := e.p.put d (e.g.getW w) }
  | .movwp d src => some { e with g := e.g.putW d (e.ptrSrc src) }
  | .push r => e.pushReg r
  | .pop r => e.popReg r
  | .br off => some { e with pc := branchTo e.pc off }
  | .bra off => some { e with pc := branchTo e.pc off }
  | .djnz d rel => some (e.djnz d rel)
  | .movsp p => some { e with sp := e.p.get p }
  | .flag op => some (e.flagOp op)
  | .bit op d b => some (e.bit op d b)
  | .mulu d g => some (e.mulu d g)
  | .cb c d src => some (e.cb c d src)
  | .cbw c d w rel => some (e.cbw c d w rel)
  | .ld _ _ => some e
  | .st _ _ => some e
  | .ldw _ _ => some e
  | .stw _ _ => some e
  | .jmp _ => some e
  | .call _ => some e
  | .ret => some e
  | .nop => some e
  | .wait => some e
  | .brk => some e
  | .cust _ _ _ => some e

/-- A load of a byte into Gd (R389, R390). -/
def State.loadByte (s : State) (k : Fin 12) (d : BitVec 3) (ea : Ea) : Except Flaw State :=
  let e := s.eng k
  match s.byteRead k (eaAddress ea e.p e.sp 1).toNat with
  | .error x => .error x
  | .ok r => .ok (r.1.modEng k (fun e => { e with g := e.g.put d r.2, p := eaUpdate ea e.p 1 }))

def State.loadWord (s : State) (k : Fin 12) (d : BitVec 2) (ea : Ea) : Except Flaw State :=
  let e := s.eng k
  match s.wordRead k (eaAddress ea e.p e.sp 2) with
  | .error x => .error x
  | .ok r => .ok (r.1.modEng k (fun e => { e with g := e.g.putW d r.2, p := eaUpdate ea e.p 2 }))

/-- A store of Gd. -/
def State.storeByte (s : State) (k : Fin 12) (d : BitVec 3) (ea : Ea) : Except Flaw State :=
  let e := s.eng k
  (s.setEng k { e with p := eaUpdate ea e.p 1 }).byteWrite k (eaAddress ea e.p e.sp 1).toNat (e.g.get d)

def State.storeWord (s : State) (k : Fin 12) (d : BitVec 2) (ea : Ea) : Except Flaw State :=
  let e := s.eng k
  (s.setEng k { e with p := eaUpdate ea e.p 2 }).wordWrite k (eaAddress ea e.p e.sp 2) (e.g.getW d)

/-- The effect of an instruction of engine `k` whose address was `pc`; `s` has PC past it. -/
def State.flintOp (s : State) (k : Fin 12) (pc : Nat) (op : FOp) : Except Flaw State :=
  let e := s.eng k
  match op with
  | .ld d ea => s.loadByte k d ea
  | .st d ea => s.storeByte k d ea
  | .ldw d ea => s.loadWord k d ea
  | .stw d ea => s.storeWord k d ea
  | .jmp t => .ok (s.jumpTo k (e.target t))
  | .call t =>
    match e.push16 e.pc with
    | none => .error (F_STACK, pc)
    | some x => .ok ((s.setEng k x).jumpTo k (e.target t))
  | .ret =>
    match e.pop16 with
    | none => .error (F_STACK, pc)
    | some r => .ok ((s.setEng k r.1).jumpTo k r.2)
  | .wait => .ok (s.waitOp k)
  | .brk => bif s.debugIsOpen then .ok (s.debugHalt k) else .error (F_ILLEGAL, pc)
  | .cust n x ext => s.custom k pc n x ext
  | op =>
    match e.effect op with
    | none => .error (F_STACK, pc)
    | some x => .ok (s.setEng k x)

/-- The instruction raises ILLEGAL before its condition is tested (R387, R396, R398). -/
def Engine.illegal (e : Engine) (op : FOp) : Bool :=
  op.otherFormat e.kfmt || (match op with | .cust n x _ => !e.customOk n x | _ => false)

/-- BRK while debug access is closed is ILLEGAL whatever its condition (R387, R401, R510). -/
def State.brkClosed (s : State) (op : FOp) : Bool := match op with | .brk => !s.debugIsOpen | _ => false

/-- An instruction with its condition: fetched, decoded in full, then executed where the condition holds (R383, R387). -/
def State.flintTry (s : State) (k : Fin 12) (cond : BitVec 3) (op : FOp) : Except Flaw State :=
  let e := s.eng k
  let pc := e.pc.toNat
  let n := op.words e
  match e.fetchFlaw k pc n with
  | some x => .error x
  | none =>
    bif e.illegal op || s.brkClosed op then .error (F_ILLEGAL, pc)
    else
      let t := s.setEng k { e with pc := e.pc + BitVec.ofNat 16 (2 * n) }
      bif !e.kfmt && !e.flags.holds cond then .ok t else t.flintOp k pc op

/-! ### Running -/

/-- Engine `k` executes: in a mode with engines, its domain ON, not stopped by a fault and not stalled by the collector; a HALTED engine for
the one instruction of a STEP (R95, R401, R419, R420). -/
def State.executes (s : State) (k : Nat) : Bool :=
  let e := s.eng k
  s.alive && s.domOn (5 + k) && !e.faulted && e.stalled.isNone &&
    (decide (e.run = .running) || (decide (e.run = .halted) && s.cluster.stepping.any (Nat.beq k)))

/-- A stepping engine runs for one instruction. -/
def State.stepBegin (s : State) (k : Nat) : State :=
  bif decide ((s.eng k).run = .halted) then s.modEng k (fun e => { e with run := .running }) else s

/-- After the one instruction of a STEP the engine is HALTED again. -/
def State.stepEnd (s : State) (k : Nat) : State :=
  bif s.cluster.stepping.any (Nat.beq k) then
    { s with cluster := { s.cluster with stepping := s.cluster.stepping.filter (fun j => !Nat.beq j k) } }.debugHalt k
  else s

/-- The engine stops at a faulting instruction, which has no effect (R401, R402). DETAIL shows its first word; where no word was fetched
the spec does not say what stands there. -/
def State.flintFault (s : State) (k : Nat) (word : Nat) (x : Flaw) : State :=
  let e := s.eng k
  bif (e.fetchFlaw k e.pc.toNat 1).isSome then
    (s.spend 2).capFault x.1 k (Config.freeByte s.freeCount ++ Config.freeByte (s.freeCount + 1)).toNat x.2
  else s.capFault x.1 k word x.2

/-- Engine `k` takes an attempt's outcome. -/
def State.flintRun (s : State) (k : Nat) (word : Nat) (f : State → Except Flaw State) : State :=
  bif s.executes k then
    let t := s.stepBegin k
    (match f t with
    | .ok u => u
    | .error x => t.flintFault k word x).stepEnd k
  else s

/-- Engine `k` executes an instruction. -/
def State.flint (s : State) (k : Fin 12) (cond : BitVec 3) (op : FOp) : State :=
  s.flintRun k (op.word (s.eng k).kfmt cond) (fun t => t.flintTry k cond op)

/-- Engine `k` executes two words that its format does not define (R388, R401). -/
def State.flintBad (s : State) (k : Fin 12) (word : Nat) : State :=
  s.flintRun k word (fun t =>
    let e := t.eng k
    match e.fetchFlaw k e.pc.toNat 1 with
    | some x => .error x
    | none => .error (F_ILLEGAL, e.pc.toNat))

/-- Engine `k` executes what stands at PC. -/
def State.flintAtPc (s : State) (k : Fin 12) : State :=
  let e := s.eng k
  let w := e.fetchWord e.pc.toNat
  match decodeFlint e.kfmt w (e.fetchWord (e.pc + 2).toNat) with
  | some op => s.flint k (BitVec.ofNat 3 (w / 8192)) op
  | none => s.flintBad k w

end Sys2Proof.Machine
end

