-- ==== Sys2Proof/Machine/Spi.lean ====
section
/-!
DEFINITION. The quad SPI target (R140-R148): transactions, the status byte, held reads and posted writes; the answers of the bridge to
the host (R19).
-/

namespace Sys2Proof.Machine

open Sys2Proof

def State.modSpi (s : State) (f : Spi → Spi) : State := { s with spi := f s.spi }

/-! ### The status byte (R142) -/

/-- A Bool as a bit of weight `w`. -/
def bitOf (b : Bool) (w : Nat) : Nat := bif b then w else 0

/-- The status byte, with RETRY as given. -/
def State.statusByte (s : State) (retry : Bool) : Nat :=
  0x80 + bitOf (decide (s.mode = .boot)) 0x20 + bitOf s.spi.err 0x10 + bitOf s.hostIrq 8 +
    bitOf (Nat.blt (64 - s.spi.wfifo.length) 16) 4 + bitOf retry 2

/-- HSPI_CS falls (R107, R109, R142, R154): the target answers while HOSTIF is ON. Else the lines float to their pull-ups, no
transaction takes place, and the edge wakes HOSTIF where the module runs. -/
def State.transact (s : State) (f : State → State) : State :=
  bif s.supply.compatSel || !s.alive then s.modSpi (fun x => { x with status := 0xFF, data := [] })
  else bif !s.domOn 25 then (s.run (execDomainWake 25 4 s)).modSpi (fun x => { x with status := 0xFF, data := [] })
  else f (s.modSpi (fun x => { x with rstEn := false, data := [] }))

/-! ### Accesses that take longer (R19, R143) -/

/-- The host's read is under way: over the bridge for a register of the mains side. -/
def State.pendRead (s : State) (addr : Nat) : State :=
  let s := s.modSpi (fun x => { x with held := some (addr, none) })
  bif mainsReg (addr / 256) (addr % 256) && s.bit R.PWR.SUPPLY_MAINS && !s.bridge.silent then
    s.modBridge (fun b => { b with inflight := b.inflight ++ [⟨HOST, addr, none⟩] })
  else s

/-- The host's read under way takes place; its value. -/
def State.hostRead (s : State) (addr : Nat) : State × Nat :=
  let r := s.regRead HOST HOST (addr / 256) (addr % 256)
  (r.1.onlyIf (mainsReg (addr / 256) (addr % 256)) (·.modBridge (fun b => { b with result := r.2 })), r.2)

/-- A read under way completes in the background and its result is held (R143). -/
def State.completeHeld (s : State) : State :=
  match s.spi.held with
  | some (a, none) =>
    let s := s.modBridge (fun b => { b with inflight := b.inflight.filter (fun q => !(Nat.beq q.who HOST && Nat.beq q.addr a)) })
    let r := s.hostRead a
    r.1.modSpi (fun x => { x with held := some (a, some r.2) })
  | _ => s

/-- A held result is discarded for a read of another word (R143). -/
def State.dropHeld (s : State) : State :=
  match s.spi.held with
  | none => s
  | some _ => (((s.completeHeld).modSpi (fun x => { x with held := none })).set R.HOSTIF.STAT_HOLD_DROP 1).raise 0x01 1

/-- HELD_READ_COMPLETE (R143). -/
def execHeldReadComplete (s : State) : Host.Outcome State Fault Refusal := .next s.completeHeld

/-- MAINS_PAGE_ACCESS_COMPLETE (R19): the oldest access over the bridge returns; its requester's stall ends. -/
def execMainsPageAccessComplete (s : State) : Host.Outcome State Fault Refusal :=
  match s.bridge.inflight with
  | [] => .next s
  | q :: rest =>
    let t := s.modBridge (fun b => { b with inflight := rest })
    match q.data with
    | some w => .next (t.regWrite (Fin.ofNat 13 q.who) (q.addr / 256) (q.addr % 256) w)
    | none =>
      let r := t.hostRead q.addr
      match r.1.spi.held with
      | some (a, none) => .next (bif Nat.beq a q.addr then r.1.modSpi (fun x => { x with held := some (a, some r.2) }) else r.1)
      | _ => .next r.1

/-! ### Posted writes (R145, R148) -/

/-- A burst on window `p` passes offset 0xFC: with ADV = 1 its BASE advances by 0x100. -/
def State.windowPass (s : State) (p : Nat) : State :=
  bif s.bit (R.HOSTIF.WIN_ADV (p - 0x70)) then
    let f := R.HOSTIF.WIN_BASE (p - 0x70)
    s.set f ((s.get f + 1) % 2 ^ 24)
  else s

/-- The oldest posted word is carried out. -/
def State.drainOne (s : State) : State :=
  match s.spi.wfifo with
  | [] => s
  | q :: rest => ((s.modSpi (fun x => { x with wfifo := rest })).regWrite (12 : Requester) (q.addr / 256) (q.addr % 256) q.word).each q.pass
      (fun p t => t.windowPass p)

/-- Every posted word is carried out: a read completes only after every earlier posted write. -/
def State.drainAll (s : State) : State := s.each s.spi.wfifo (fun _ t => t.drainOne)

/-- POSTED_WRITE_DRAIN (R145): while HOSTIF is ON. -/
def execPostedWriteDrain (s : State) : Host.Outcome State Fault Refusal :=
  .next (bif s.alive && s.domOn 25 then s.drainOne else s)

/-- A word of a write burst: posted, or discarded where the FIFO is full (R145). -/
def State.post (s : State) (addr w : Nat) : State :=
  bif Nat.blt s.spi.wfifo.length 64 then s.modSpi (fun x => { x with wfifo := x.wfifo ++ [⟨addr, w, []⟩] })
  else
    (((s.refuseAccess HOST RC.WFIFO_FULL addr true).bump R.HOSTIF.WDROPCNT_COUNT).set R.HOSTIF.STAT_WDROP 1).raise 0x01 2

/-- The next word of a burst: the address advances by 4 and wraps within the page (R141). -/
def nextWord (addr : Nat) : Nat := addr / 256 * 256 + (addr + 4) % 256

/-- The newest word of a list of posted words is followed by a pass of page `p`. -/
def passAfter (p : Nat) : List Posted → List Posted
  | [] => []
  | [q] => [{ q with pass := q.pass ++ [p] }]
  | q :: l => q :: passAfter p l

/-- The words of a write burst (R141, R145, R148): the pass of a window takes effect in the order of the posted words. -/
def State.postBurst (s : State) (addr : Nat) : List Word → State
  | [] => s
  | w :: l =>
    let s := s.post addr w.toNat
    let passes := !l.isEmpty && Nat.beq (addr % 256) 0xFC && winPage (addr / 256)
    (s.onlyIf passes (·.modSpi (fun x => { x with wfifo := passAfter (addr / 256) x.wfifo }))).postBurst (nextWord addr) l

/-- A write transaction (R140, R142): STATUS is sent before the data. -/
def State.spiWrite (s : State) (addr : Nat) (words : List Word) : State :=
  s.transact (fun s => (s.modSpi (fun x => { x with status := s.statusByte false })).postBurst (addr / 4 * 4) words)

/-- SPI_WR1. -/
def execSpiWr1 (addr : Half) (words : List Word) (s : State) : Host.Outcome State Fault Refusal :=
  .next (s.spiWrite addr.toNat words)

/-- SPI_WRQ. -/
def execSpiWrq (addr : Half) (words : List Word) (s : State) : Host.Outcome State Fault Refusal :=
  .next (s.spiWrite addr.toNat words)

/-! ### Reads (R143, R144) -/

/-- A burst was cut short (R144). -/
def State.burstErr (s : State) : State := (s.set R.HOSTIF.STAT_BURST_ERR 1)

/-- The later words of a read burst, the word before them at `addr`; `late` counts down to the word whose target is late. From that word
on, every word reads 0, and its access is under way. -/
def State.laterWords (s : State) (addr : Nat) (late : Option Nat) : Nat → State × List Nat
  | 0 => (s, [])
  | n + 1 =>
    let a := nextWord addr
    let s := s.onlyIf (Nat.beq (addr % 256) 0xFC && winPage (addr / 256)) (·.windowPass (addr / 256))
    match late with
    | some 0 => (s.burstErr.pendRead a, List.replicate (n + 1) 0)
    | _ =>
      let r := s.hostRead a
      let rest := r.1.laterWords a (late.map (fun k => k - 1)) n
      (rest.1, r.2 :: rest.2)

/-- The rest of a burst after its first word: on a mains-side page the later words read 0 and BURST is recorded (R144). -/
def State.burstTail (s : State) (addr n : Nat) (late : Option Nat) : State × List Nat :=
  bif Nat.beq n 0 then (s, [])
  else bif mainsPage (addr / 256) then ((s.refuseAccess HOST RC.BURST (nextWord addr) false).burstErr, List.replicate n 0)
  else s.laterWords addr late n

/-- The first word: a held result of the same word is returned without a new access, one of another word is discarded; a late target
or a transaction cut short leaves the read under way. none: not answered. -/
def State.firstWord (s : State) (addr : Nat) (slow : Bool) : State × Option Nat :=
  let same := match s.spi.held with | some (a, _) => Nat.beq a addr | none => false
  bif same then
    let t := bif slow then s else s.completeHeld
    match t.spi.held with
    | some (_, some v) => (t, some v)
    | _ => (t, none)
  else
    let s := s.dropHeld
    bif slow then (s.pendRead addr, none)
    else let r := s.hostRead addr; (r.1, some r.2)

/-- STATUS and the data phase: a first word that is not answered is a RETRY and its data phase is 0. -/
def State.dataPhase (s : State) (addr n : Nat) (v : Option Nat) (late : Option Nat) : State :=
  match v with
  | none =>
    let t := s.modSpi (fun x => { x with status := s.statusByte true, data := List.replicate n 0 })
    t.onlyIf (Nat.blt 1 n && mainsPage (addr / 256)) (fun t => (t.refuseAccess HOST RC.BURST (nextWord addr) false).burstErr)
  | some v =>
    let t := s.modSpi (fun x => { x with status := s.statusByte false, held := none })
    let r := t.burstTail addr (n - 1) late
    r.1.modSpi (fun x => { x with data := (v :: r.2).take n })

/-- A read transaction (R140-R144), after every earlier posted write (R145). -/
def State.spiRead (s : State) (addr n : Nat) (timing : ReadTiming) : State :=
  s.transact (fun s =>
    let addr := addr / 4 * 4
    let s := s.drainAll
    match timing with
    | .cutShort => (s.firstWord addr true).1
    | .late k =>
      let f := s.firstWord addr (Nat.beq k.toNat 0)
      f.1.dataPhase addr n f.2 (bif Nat.beq k.toNat 0 then none else some (k.toNat - 1))
    | .inTime =>
      let f := s.firstWord addr false
      f.1.dataPhase addr n f.2 none)

/-- SPI_RD1. -/
def execSpiRd1 (addr : Half) (words : Byte) (timing : ReadTiming) (s : State) : Host.Outcome State Fault Refusal :=
  .next (s.spiRead addr.toNat words.toNat timing)

/-- SPI_RDQ. -/
def execSpiRdq (addr : Half) (words : Byte) (timing : ReadTiming) (s : State) : Host.Outcome State Fault Refusal :=
  .next (s.spiRead addr.toNat words.toNat timing)

/-! ### Commands without data (R140) -/

/-- SPI_RDSTAT. -/
def execSpiRdstat (s : State) : Host.Outcome State Fault Refusal :=
  .next (s.transact (fun s => s.modSpi (fun x => { x with status := s.statusByte false })))

/-- SPI_ENQPI. -/
def execSpiEnqpi (s : State) : Host.Outcome State Fault Refusal := .next (s.transact (·.set R.HOSTIF.CFG_QPI 1))

/-- SPI_EXQPI: outside QPI mode it is an unknown code. -/
def execSpiExqpi (s : State) : Host.Outcome State Fault Refusal := .next (s.transact (·.set R.HOSTIF.CFG_QPI 0))

/-- SPI_RSTEN. -/
def execSpiRsten (s : State) : Host.Outcome State Fault Refusal :=
  .next (s.transact (·.modSpi (fun x => { x with rstEn := true })))

/-- SPI_RSTIF: directly after RSTEN it resets the SPI target: QPI off, write FIFO emptied, held read discarded. -/
def execSpiRstif (s : State) : Host.Outcome State Fault Refusal :=
  let armed := s.spi.rstEn
  .next (s.transact (fun s =>
    bif armed then ((s.completeHeld).modSpi (fun x => { x with wfifo := [], held := none })).set R.HOSTIF.CFG_QPI 0 else s))

/-- The transactions of R140. -/
inductive SpiCode where
  | rd1 | wr1 | rdq | wrq | rdstat | enqpi | exqpi | rsten | rstif
  deriving DecidableEq, Repr

/-- The transaction that a command code starts (R140), none for an unknown code. EXQPI is one in QPI mode only. -/
def spiCode (qpi : Bool) (code : Nat) : Option SpiCode :=
  match code with
  | 0x03 => some .rd1
  | 0x02 => some .wr1
  | 0xEB => some .rdq
  | 0x32 => some .wrq
  | 0x05 => some .rdstat
  | 0x38 => some .enqpi
  | 0xF5 => bif qpi then some .exqpi else none
  | 0x66 => some .rsten
  | 0x99 => some .rstif
  | _ => none

/-- SPI_UNKNOWN_COMMAND: a transaction of a code alone, after which HSPI_CS rises. An unknown code is ignored until then, and the transaction
stands between RSTEN and RSTIF; a known code does what it does without an address. -/
def execSpiUnknownCommand (code : Byte) (s : State) : Host.Outcome State Fault Refusal :=
  let none_ (s : State) : State := s.transact (fun s => s)
  match spiCode (s.bit R.HOSTIF.CFG_QPI) code.toNat with
  | none => .next (none_ s)
  | some .rd1 => .next (none_ s)
  | some .wr1 => .next (none_ s)
  | some .rdq => .next (none_ s)
  | some .wrq => .next (none_ s)
  | some .rdstat => execSpiRdstat s
  | some .enqpi => execSpiEnqpi s
  | some .exqpi => execSpiExqpi s
  | some .rsten => execSpiRsten s
  | some .rstif => execSpiRstif s

end Sys2Proof.Machine
end

