-- ==== Sys2Proof/Machine/DebugPort.lean ====
section
/-!
DEFINITION. The single step of DBGCMD (R419) and the debug port (R418).
-/

namespace Sys2Proof.Machine

open Sys2Proof

/-- STEP: refused unless HALTED; the engine executes the instruction at PC and is HALTED again. -/
def State.debugStep (s : State) (k : Fin 12) : State :=
  bif !decide ((s.eng k).run = .halted) then s.refuse (0x10 + k) 0x40 0x28
  else
    let rest := s.cluster.stepping.filter (fun j => !Nat.beq j k)
    let t := ({ s with cluster := { s.cluster with stepping := k.val :: rest } }).flintAtPc k
    { t with cluster := { t.cluster with stepping := rest } }

/-- DEBUG_STEP (R419). -/
def execDebugStep (who : Requester) (e : Fin 12) (s : State) : Host.Outcome State Fault Refusal :=
  s.writeCmd who (0x10 + e) 0x28 (fun s => s.debugStep e)

/-- Whose rights a debug-port access has: E0's on ENG pages, HOST's elsewhere (R418). -/
def debugWho (p : Nat) : Requester := bif engPage p then 0 else 12

/-- The port answers while debug access is open, in a mode in which the pages are served. -/
def State.debugPort (s : State) (f : State → State) : State :=
  bif s.debugIsOpen && s.alive then
    f { s with cluster := { s.cluster with dbgStatus := s.statusByte false, dbgData := [] } }
  else s

/-- The words of a debug-port read burst (R141). -/
def State.debugWords (s : State) (addr : Nat) : Nat → State × List Nat
  | 0 => (s, [])
  | n + 1 =>
    let who := debugWho (addr / 256)
    let r := s.regRead who who (addr / 256) (addr % 256)
    let t := r.1.onlyIf (Nat.beq (addr % 256) 0xFC && winPage (addr / 256) && !Nat.beq n 0) (·.windowPass (addr / 256))
    let rest := t.debugWords (nextWord addr) n
    (rest.1, r.2 :: rest.2)

/-- The words of a debug-port write burst. -/
def State.debugPut (s : State) (addr : Nat) : List Word → State
  | [] => s
  | w :: l =>
    let t := s.regWrite (debugWho (addr / 256)) (addr / 256) (addr % 256) w.toNat
    (t.onlyIf (Nat.beq (addr % 256) 0xFC && winPage (addr / 256) && !l.isEmpty) (·.windowPass (addr / 256))).debugPut (nextWord addr) l

/-- DBG_RD1 (R418). -/
def execDbgRd1 (addr : BitVec 16) (n : Fin 64) (s : State) : Host.Outcome State Fault Refusal :=
  .next (s.debugPort (fun s =>
    let r := s.debugWords (addr.toNat / 4 * 4) n
    { r.1 with cluster := { r.1.cluster with dbgData := r.2 } }))

/-- DBG_WR1 (R418). -/
def execDbgWr1 (addr : BitVec 16) (words : List Word) (s : State) : Host.Outcome State Fault Refusal :=
  .next (s.debugPort (fun s => s.debugPut (addr.toNat / 4 * 4) words))

/-- DBG_RDSTAT (R418). -/
def execDbgRdstat (s : State) : Host.Outcome State Fault Refusal := .next (s.debugPort (fun s => s))

end Sys2Proof.Machine
end

