-- ==== Sys2Proof/Machine/DmaCopy.lean ====
section
/-!
DEFINITION. The DMA copy (R461, R464, R465) and the bus error that halts it (R468).
-/

namespace Sys2Proof.Machine

open Sys2Proof

/-- The owner of channel `c`, whose rights its accesses carry (R461). -/
def State.dmaOwner (s : State) (c : Nat) : Requester := Fin.ofNat 13 (s.get (R.DMA.CFG_OWNER c))

/-- The latches of a DMA channel's reads are the engine's own, as it is a requester of its own (R26). -/
abbrev DMA_LATCH : Nat := 13

/-- An address that a DMA access reaches without a bus error (R468). -/
def dmaReach (a : Nat) : Bool := inSram a || inShale a

/-- An access of channel `c` was refused (R461). -/
def State.dmaRefused (s : State) (c a : Nat) : State :=
  let s := { s with dma := s.dma.modify c (fun ch => { ch with refSeen := true }) }
  ((s.bump R.DMA.CNT_REFCNT).set R.DMA.REFADDR_ADDR a).raise 0x2A 17

/-- The reason code with which an operation on page `p` by `who` is refused, 0 for none. -/
def State.refusalOf (s : State) (who p : Nat) (f : State → State) : Nat :=
  let mine := bif Nat.beq who HOST then R.HOSTIF.LASTREF_REASON else R.ENG.LASTREF_REASON who
  let q := f (s.setAll [(R.HDR.REASON p, 0), (mine, 0)])
  bif Nat.beq (q.get mine) 0 then q.get (R.HDR.REASON p) else q.get mine

/-- The bank of a shared SRAM address is awake (R101, R107, R467). -/
def State.dmaBank (s : State) (a : Nat) : State × Bool := s.wakeBank (bankOf a) 0

/-- An access of channel `c` to a bank that is held OFF (R101, R461). -/
def State.dmaBankOff (s : State) (c a : Nat) (wr : Bool) : State := (s.bankOff (s.dmaOwner c) a wr).dmaRefused c a

/-- A read of `n` bytes at `a` by channel `c`: refused, it gives 0 (R461). -/
def State.dmaRead (s : State) (c a n : Nat) : State × List Byte :=
  bif inSram a then
    let b := s.dmaBank a
    bif b.2 then (b.1, b.1.sramList a n) else (b.1.dmaBankOff c a false, zeros n)
  else
    let who := s.dmaOwner c
    let p := (a - 0x40000000) / 256
    let off := a % 256
    let code := s.refusalOf who p (fun s => (s.regRead who DMA_LATCH p off).1)
    let r := s.regRead who DMA_LATCH p off
    (r.1.onlyIf (!Nat.beq code 0) (·.dmaRefused c a), leBytes n (bif Nat.beq code 0 then r.2 else 0))

/-- The owner may write shared SRAM there (R147, R412): HOST in bank 3, E10 and E11 in bank 3 and their own slices. -/
def dmaMayWrite (who a n : Nat) : Bool :=
  Nat.blt who 10 || inBank3 a n || (Nat.blt who 12 && inSlice who a n)

/-- A write of bytes at `a` by channel `c`: refused, it is ignored (R461). -/
def State.dmaWriteUnit (s : State) (c a : Nat) (l : List Byte) : State :=
  let who := s.dmaOwner c
  bif inSram a then
    bif !dmaMayWrite who a l.length then s.dmaRefused c a
    else
      let b := s.dmaBank a
      bif b.2 then b.1.sramStore a l else b.1.dmaBankOff c a true
  else
    let p := (a - 0x40000000) / 256
    let off := a % 256
    let w := (l.foldr (fun b v => b.toNat + 256 * v) 0)
    let code := s.refusalOf who p (fun s => s.regWrite who p off w)
    (s.regWrite who p off w).onlyIf (!Nat.beq code 0) (·.dmaRefused c a)

/-- The address of the unit at byte `k`, fixed where its INC bit is clear (R464). -/
def unitAddr (base k : Nat) (inc : Bool) : Nat := bif inc then base + k else base

/-- Source units from byte `k` on, `n` of them: the holding register, or the address of a bus error. -/
def State.dmaFill (s : State) (c : Nat) (d : Desc) (k : Nat) : Nat → State × List Byte × Option Nat
  | 0 => (s, [], none)
  | n + 1 =>
    let w := widthBytes d.sw
    let a := unitAddr d.src k d.sinc
    bif !dmaReach a then (s, [], some a)
    else
      let r := s.dmaRead c a w
      let t := r.1.dmaFill c d (k + w) n
      (t.1, r.2 ++ t.2.1, t.2.2)

/-- The holding register written out in units of DW from byte `k` on, or the address of a bus error. -/
def State.dmaSpill (s : State) (c : Nat) (d : Desc) (k : Nat) (l : List Byte) : Nat → State × Option Nat
  | 0 => (s, none)
  | n + 1 =>
    let w := widthBytes d.dw
    let a := unitAddr d.dst k d.dinc
    bif !dmaReach a then (s, some a)
    else (s.dmaWriteUnit c a (l.take w)).dmaSpill c d (k + w) (l.drop w) n

/-- One block of up to 16 bytes from byte `k` on (R464): read in full, then written. -/
def State.dmaBlock (s : State) (c : Nat) (d : Desc) (k : Nat) : State × Option Nat :=
  let len := min 16 (d.len - k)
  let r := s.dmaFill c d k (len / widthBytes d.sw)
  match r.2.2 with
  | some a => (r.1, some a)
  | none => r.1.dmaSpill c d k r.2.1 (len / widthBytes d.dw)

/-- Blocks in order from byte `k` on, `n` of them; a bus error ends the copy. -/
def State.dmaBlocks (s : State) (c : Nat) (d : Desc) (k : Nat) : Nat → State × Option Nat
  | 0 => (s, none)
  | n + 1 =>
    let r := s.dmaBlock c d k
    match r.2 with
    | some a => (r.1, some a)
    | none => r.1.dmaBlocks c d (k + 16) n

/-- Write-back, events and the next index (R465, R466). -/
def State.dmaFinish (s : State) (c : Nat) (d : Desc) : State :=
  let ch := s.dma.getD c Channel.idle
  let ctl := d.ctl - bif d.ctl.testBit 0 then 1 else 0
  let ctl := ctl - bif ctl.testBit 16 then 2 ^ 16 else 0
  let b := s.dmaBank (s.descAddr c)
  let s := bif b.2 then b.1.sramStore (s.descAddr c + 12) (leBytes 4 (ctl + bif ch.refSeen then 2 ^ 16 else 0))
    else b.1.dmaBankOff c (s.descAddr c + 12) true
  let s := s.onlyIf (d.ctl.testBit 8) (·.fire 60)
  let s := s.raiseIf (d.ctl.testBit 9) (dmaPage c) (c % 8)
  let s := s.set (R.DMA.STAT_IDX c) ((s.get (R.DMA.STAT_IDX c) + 1) % max 1 (s.get (R.DMA.CFG_ENTRIES c)))
  bif d.ctl.testBit 10 || ch.stopping then s.dmaStopped c
  else { s with dma := s.dma.modify c (fun ch => { ch with desc := none, done := 0, refSeen := false }) }.dmaStart c

/-- A channel copies on to byte `upTo` of its descriptor, in whole blocks. -/
def State.dmaProgress (s : State) (c : Nat) (d : Desc) (upTo : Nat) : State × Option Nat :=
  let k := (s.dma.getD c Channel.idle).done
  let n := (min upTo d.len - k + 15) / 16
  let r := s.dmaBlocks c d k n
  ({ r.1 with dma := r.1.dma.modify c (fun ch => { ch with done := min d.len (k + 16 * n) }) }, r.2)

/-- The channel is ACTIVE on a descriptor, and CORE is ON: its requests are clamped else (R98). -/
def State.dmaActive (s : State) (c : Nat) : Option Desc :=
  bif Nat.beq (s.get (R.DMA.STAT_ST c)) 3 && !s.dmaHalted && s.alive && s.domOn 0 then (s.dma.getD c Channel.idle).desc else none

/-- DMA_DESCRIPTOR_COMPLETE (R464, R465): the rest of the descriptor is copied; an address that no access reaches halts the engine. -/
def execDmaDescriptorComplete (c : Fin 16) (s : State) : Host.Outcome State Fault Refusal :=
  match s.dmaActive c with
  | none => .next s
  | some d =>
    let r := s.dmaProgress c d d.len
    match r.2 with
    | some a => .next (r.1.dmaBusError a)
    | none => .next (r.1.dmaFinish c d)

/-- What the channels had copied before the error, each to its byte; an error met on the way counts as the error itself. -/
def State.dmaAdvance (s : State) : List (Fin 16 × Nat) → State × Option Nat
  | [] => (s, none)
  | q :: l =>
    match s.dmaActive q.1 with
    | none => s.dmaAdvance l
    | some d =>
      let r := s.dmaProgress q.1 d q.2
      match r.2 with
      | some a => (r.1, some a)
      | none => r.1.dmaAdvance l

/-- DMA_BUS_ERROR (R468): the channels stand where they had come; the engine halts. A parity error on a shared SRAM read also raises PARITY
from source 0xF. -/
def execDmaBusError (addr : Word) (parity : Bool) (progress : List (Fin 16 × Nat)) (s : State) :
    Host.Outcome State Fault Refusal :=
  let a := addr.toNat
  let active := (List.range 16).any (fun c => (s.dmaActive c).isSome)
  bif !s.alive || (!active && !s.dmaHalted) || (parity != inSram a) || inShale a then .next s
  else
    let r := s.dmaAdvance progress
    let t := r.1.dmaBusError (match r.2 with | some x => x | none => a)
    .next (t.onlyIf parity (·.capFault 0x06 0xF 0 a))

end Sys2Proof.Machine
end

