-- ==== Sys2Proof/Machine/FlintRows.lean ====
section
/-!
DEFINITION. The instructions of the Flint engines, one meaning each (R389, R396, R398, R399); and the end of WAIT (R395).
-/

namespace Sys2Proof.Machine

open Sys2Proof

/-- MOV: Gd ← operand. -/
def execMov (e : Fin 12) (cond : BitVec 3) (d : BitVec 3) (src : Src8) (s : State) : Host.Outcome State Fault Refusal :=
  .next (s.flint e cond (.alu .mov d src))

/-- ADD: Gd ← Gd + operand. -/
def execAdd (e : Fin 12) (cond : BitVec 3) (d : BitVec 3) (src : Src8) (s : State) : Host.Outcome State Fault Refusal :=
  .next (s.flint e cond (.alu .add d src))

/-- ADC: Gd ← Gd + operand + C. -/
def execAdc (e : Fin 12) (cond : BitVec 3) (d : BitVec 3) (src : Src8) (s : State) : Host.Outcome State Fault Refusal :=
  .next (s.flint e cond (.alu .adc d src))

/-- SUB: Gd ← Gd − operand. -/
def execSub (e : Fin 12) (cond : BitVec 3) (d : BitVec 3) (src : Src8) (s : State) : Host.Outcome State Fault Refusal :=
  .next (s.flint e cond (.alu .sub d src))

/-- SBC: Gd ← Gd − operand − C. -/
def execSbc (e : Fin 12) (cond : BitVec 3) (d : BitVec 3) (src : Src8) (s : State) : Host.Outcome State Fault Refusal :=
  .next (s.flint e cond (.alu .sbc d src))

/-- AND: Gd ← Gd & operand. -/
def execAnd (e : Fin 12) (cond : BitVec 3) (d : BitVec 3) (src : Src8) (s : State) : Host.Outcome State Fault Refusal :=
  .next (s.flint e cond (.alu .and d src))

/-- OR: Gd ← Gd | operand. -/
def execOr (e : Fin 12) (cond : BitVec 3) (d : BitVec 3) (src : Src8) (s : State) : Host.Outcome State Fault Refusal :=
  .next (s.flint e cond (.alu .or d src))

/-- XOR: Gd ← Gd ^ operand. -/
def execXor (e : Fin 12) (cond : BitVec 3) (d : BitVec 3) (src : Src8) (s : State) : Host.Outcome State Fault Refusal :=
  .next (s.flint e cond (.alu .xor d src))

/-- CMP: flags of Gd − operand. -/
def execCmp (e : Fin 12) (cond : BitVec 3) (d : BitVec 3) (src : Src8) (s : State) : Host.Outcome State Fault Refusal :=
  .next (s.flint e cond (.alu .cmp d src))

/-- TST: flags of Gd & operand. -/
def execTst (e : Fin 12) (cond : BitVec 3) (d : BitVec 3) (src : Src8) (s : State) : Host.Outcome State Fault Refusal :=
  .next (s.flint e cond (.alu .tst d src))

/-- INC (R391): Gd + 1. -/
def execInc (e : Fin 12) (cond : BitVec 3) (d : BitVec 3) (s : State) : Host.Outcome State Fault Refusal :=
  .next (s.flint e cond (.unary .inc d))

/-- DEC (R391): Gd − 1. -/
def execDec (e : Fin 12) (cond : BitVec 3) (d : BitVec 3) (s : State) : Host.Outcome State Fault Refusal :=
  .next (s.flint e cond (.unary .dec d))

/-- NOT (R391): ~Gd. -/
def execNot (e : Fin 12) (cond : BitVec 3) (d : BitVec 3) (s : State) : Host.Outcome State Fault Refusal :=
  .next (s.flint e cond (.unary .not d))

/-- NEG (R391): 0 − Gd. -/
def execNeg (e : Fin 12) (cond : BitVec 3) (d : BitVec 3) (s : State) : Host.Outcome State Fault Refusal :=
  .next (s.flint e cond (.unary .neg d))

/-- SHL (R391): Gd << 1. -/
def execShl (e : Fin 12) (cond : BitVec 3) (d : BitVec 3) (s : State) : Host.Outcome State Fault Refusal :=
  .next (s.flint e cond (.unary .shl d))

/-- SHR (R391): Gd >> 1. -/
def execShr (e : Fin 12) (cond : BitVec 3) (d : BitVec 3) (s : State) : Host.Outcome State Fault Refusal :=
  .next (s.flint e cond (.unary .shr d))

/-- ASR (R391): Gd >> 1, bit 7 kept. -/
def execAsr (e : Fin 12) (cond : BitVec 3) (d : BitVec 3) (s : State) : Host.Outcome State Fault Refusal :=
  .next (s.flint e cond (.unary .asr d))

/-- ROL (R391): rotate left through C. -/
def execRol (e : Fin 12) (cond : BitVec 3) (d : BitVec 3) (s : State) : Host.Outcome State Fault Refusal :=
  .next (s.flint e cond (.unary .rol d))

/-- ROR (R391): rotate right through C. -/
def execRor (e : Fin 12) (cond : BitVec 3) (d : BitVec 3) (s : State) : Host.Outcome State Fault Refusal :=
  .next (s.flint e cond (.unary .ror d))

/-- SWAP (R391): nibbles exchanged. -/
def execSwap (e : Fin 12) (cond : BitVec 3) (d : BitVec 3) (s : State) : Host.Outcome State Fault Refusal :=
  .next (s.flint e cond (.unary .swap d))

/-- CLR (R391): 0x00. -/
def execClr (e : Fin 12) (cond : BitVec 3) (d : BitVec 3) (s : State) : Host.Outcome State Fault Refusal :=
  .next (s.flint e cond (.unary .clr d))

/-- ADDW: Wd ← Wd + operand. -/
def execAddw (e : Fin 12) (cond : BitVec 3) (d : BitVec 2) (src : Src16) (s : State) : Host.Outcome State Fault Refusal :=
  .next (s.flint e cond (.aluw .addw d src))

/-- SUBW: Wd ← Wd − operand. -/
def execSubw (e : Fin 12) (cond : BitVec 3) (d : BitVec 2) (src : Src16) (s : State) : Host.Outcome State Fault Refusal :=
  .next (s.flint e cond (.aluw .subw d src))

/-- CMPW: flags of Wd − operand. -/
def execCmpw (e : Fin 12) (cond : BitVec 3) (d : BitVec 2) (src : Src16) (s : State) : Host.Outcome State Fault Refusal :=
  .next (s.flint e cond (.aluw .cmpw d src))

/-- MOVW: Wd ← operand. -/
def execMovw (e : Fin 12) (cond : BitVec 3) (d : BitVec 2) (src : Src16) (s : State) : Host.Outcome State Fault Refusal :=
  .next (s.flint e cond (.aluw .movw d src))

/-- MOVP: Pd ← operand. -/
def execMovp (e : Fin 12) (cond : BitVec 3) (d : BitVec 2) (src : Src16) (s : State) : Host.Outcome State Fault Refusal :=
  .next (s.flint e cond (.movp d src))

/-- ADDP: Pd ← Pd + operand. -/
def execAddp (e : Fin 12) (cond : BitVec 3) (d : BitVec 2) (src : Src16) (s : State) : Host.Outcome State Fault Refusal :=
  .next (s.flint e cond (.addp d src))

/-- MOVPW: Pd ← Ws. -/
def execMovpw (e : Fin 12) (cond : BitVec 3) (d w : BitVec 2) (s : State) : Host.Outcome State Fault Refusal :=
  .next (s.flint e cond (.movpw d w))

/-- MOVWP: Wd ← Ps or SP. -/
def execMovwp (e : Fin 12) (cond : BitVec 3) (d : BitVec 2) (src : PtrSrc) (s : State) : Host.Outcome State Fault Refusal :=
  .next (s.flint e cond (.movwp d src))

/-- LD (R390): Gd ← byte at ea. -/
def execLd (e : Fin 12) (cond : BitVec 3) (d : BitVec 3) (ea : Ea) (s : State) : Host.Outcome State Fault Refusal :=
  .next (s.flint e cond (.ld d ea))

/-- ST: byte at ea ← Gd. -/
def execSt (e : Fin 12) (cond : BitVec 3) (d : BitVec 3) (ea : Ea) (s : State) : Host.Outcome State Fault Refusal :=
  .next (s.flint e cond (.st d ea))

/-- LDW: Wd ← word at ea. -/
def execLdw (e : Fin 12) (cond : BitVec 3) (d : BitVec 2) (ea : Ea) (s : State) : Host.Outcome State Fault Refusal :=
  .next (s.flint e cond (.ldw d ea))

/-- STW: word at ea ← Wd. -/
def execStw (e : Fin 12) (cond : BitVec 3) (d : BitVec 2) (ea : Ea) (s : State) : Host.Outcome State Fault Refusal :=
  .next (s.flint e cond (.stw d ea))

/-- PUSH (R384). -/
def execPush (e : Fin 12) (cond : BitVec 3) (d : BitVec 3) (s : State) : Host.Outcome State Fault Refusal :=
  .next (s.flint e cond (.push (.g d)))

/-- POP (R384). -/
def execPop (e : Fin 12) (cond : BitVec 3) (d : BitVec 3) (s : State) : Host.Outcome State Fault Refusal :=
  .next (s.flint e cond (.pop (.g d)))

/-- PUSHP (R384). -/
def execPushp (e : Fin 12) (cond : BitVec 3) (d : BitVec 2) (s : State) : Host.Outcome State Fault Refusal :=
  .next (s.flint e cond (.push (.p d)))

/-- POPP (R384). -/
def execPopp (e : Fin 12) (cond : BitVec 3) (d : BitVec 2) (s : State) : Host.Outcome State Fault Refusal :=
  .next (s.flint e cond (.pop (.p d)))

/-- PUSHW (R384). -/
def execPushw (e : Fin 12) (cond : BitVec 3) (d : BitVec 2) (s : State) : Host.Outcome State Fault Refusal :=
  .next (s.flint e cond (.push (.w d)))

/-- POPW (R384). -/
def execPopw (e : Fin 12) (cond : BitVec 3) (d : BitVec 2) (s : State) : Host.Outcome State Fault Refusal :=
  .next (s.flint e cond (.pop (.w d)))

/-- BR (R393): in K-format its opcodes are BRA's, so no BR executes there. -/
def execBr (e : Fin 12) (cond : BitVec 3) (off : BitVec 8) (s : State) : Host.Outcome State Fault Refusal :=
  .next (bif (s.eng e).kfmt then s else s.flint e cond (.br off))

/-- BRA (R398): K-format only; in E-format its opcodes are BR's. -/
def execBra (e : Fin 12) (off : BitVec 11) (s : State) : Host.Outcome State Fault Refusal :=
  .next (bif (s.eng e).kfmt then s.flint e 0 (.bra off) else s)

/-- JMP: PC ← target. -/
def execJmp (e : Fin 12) (cond : BitVec 3) (tgt : Target) (s : State) : Host.Outcome State Fault Refusal :=
  .next (s.flint e cond (.jmp tgt))

/-- CALL (R394). -/
def execCall (e : Fin 12) (cond : BitVec 3) (tgt : Target) (s : State) : Host.Outcome State Fault Refusal :=
  .next (s.flint e cond (.call tgt))

/-- RET (R394). -/
def execRet (e : Fin 12) (cond : BitVec 3) (s : State) : Host.Outcome State Fault Refusal :=
  .next (s.flint e cond .ret)

/-- DJNZ: Gd ← Gd − 1; branch if it is not 0. -/
def execDjnz (e : Fin 12) (cond : BitVec 3) (d : BitVec 3) (rel : Half) (s : State) : Host.Outcome State Fault Refusal :=
  .next (s.flint e cond (.djnz d rel))

/-- NOP. -/
def execNop (e : Fin 12) (cond : BitVec 3) (s : State) : Host.Outcome State Fault Refusal :=
  .next (s.flint e cond .nop)

/-- WAIT (R395). -/
def execWait (e : Fin 12) (cond : BitVec 3) (s : State) : Host.Outcome State Fault Refusal :=
  .next (s.flint e cond .wait)

/-- WAIT_WAKE (R395): a wake condition ends WAIT. -/
def execWaitWake (e : Fin 12) (s : State) : Host.Outcome State Fault Refusal :=
  .next (bif s.alive && s.wakeDue e && !Nat.beq (s.dom (5 + e)) 0 then s.wakeEngine e else s)

/-- PUSHF: push FLAGS. -/
def execPushf (e : Fin 12) (cond : BitVec 3) (s : State) : Host.Outcome State Fault Refusal :=
  .next (s.flint e cond (.push .flags))

/-- POPF: pop FLAGS; bits [7:4] discarded. -/
def execPopf (e : Fin 12) (cond : BitVec 3) (s : State) : Host.Outcome State Fault Refusal :=
  .next (s.flint e cond (.pop .flags))

/-- MOVSP: SP ← Ps. -/
def execMovsp (e : Fin 12) (cond : BitVec 3) (p : BitVec 2) (s : State) : Host.Outcome State Fault Refusal :=
  .next (s.flint e cond (.movsp p))

/-- BRK (R419): debug halt while debug access is open, otherwise ILLEGAL. -/
def execBrk (e : Fin 12) (cond : BitVec 3) (s : State) : Host.Outcome State Fault Refusal :=
  .next (s.flint e cond .brk)

/-- CLC. -/
def execClc (e : Fin 12) (cond : BitVec 3) (s : State) : Host.Outcome State Fault Refusal :=
  .next (s.flint e cond (.flag .clc))

/-- SEC. -/
def execSec (e : Fin 12) (cond : BitVec 3) (s : State) : Host.Outcome State Fault Refusal :=
  .next (s.flint e cond (.flag .sec))

/-- CLV. -/
def execClv (e : Fin 12) (cond : BitVec 3) (s : State) : Host.Outcome State Fault Refusal :=
  .next (s.flint e cond (.flag .clv))

/-- BTST. -/
def execBtst (e : Fin 12) (cond : BitVec 3) (d b : BitVec 3) (s : State) : Host.Outcome State Fault Refusal :=
  .next (s.flint e cond (.bit .tst d b))

/-- BSET. -/
def execBset (e : Fin 12) (cond : BitVec 3) (d b : BitVec 3) (s : State) : Host.Outcome State Fault Refusal :=
  .next (s.flint e cond (.bit .set d b))

/-- BCLR. -/
def execBclr (e : Fin 12) (cond : BitVec 3) (d b : BitVec 3) (s : State) : Host.Outcome State Fault Refusal :=
  .next (s.flint e cond (.bit .clr d b))

/-- BTGL. -/
def execBtgl (e : Fin 12) (cond : BitVec 3) (d b : BitVec 3) (s : State) : Host.Outcome State Fault Refusal :=
  .next (s.flint e cond (.bit .tgl d b))

/-- MULU: W0 ← Gd × Gs. -/
def execMulu (e : Fin 12) (cond : BitVec 3) (d g : BitVec 3) (s : State) : Host.Outcome State Fault Refusal :=
  .next (s.flint e cond (.mulu d g))

/-- CBEQ (R399). -/
def execCbeq (e : Fin 12) (d : BitVec 3) (src : CbSrc) (s : State) : Host.Outcome State Fault Refusal :=
  .next (s.flint e 0 (.cb .eq d src))

/-- CBNE (R399). -/
def execCbne (e : Fin 12) (d : BitVec 3) (src : CbSrc) (s : State) : Host.Outcome State Fault Refusal :=
  .next (s.flint e 0 (.cb .ne d src))

/-- CBLT (R399). -/
def execCblt (e : Fin 12) (d : BitVec 3) (src : CbSrc) (s : State) : Host.Outcome State Fault Refusal :=
  .next (s.flint e 0 (.cb .lt d src))

/-- CBGE (R399). -/
def execCbge (e : Fin 12) (d : BitVec 3) (src : CbSrc) (s : State) : Host.Outcome State Fault Refusal :=
  .next (s.flint e 0 (.cb .ge d src))

/-- CBEQW (R399). -/
def execCbeqw (e : Fin 12) (d w : BitVec 2) (rel : Half) (s : State) : Host.Outcome State Fault Refusal :=
  .next (s.flint e 0 (.cbw .eq d w rel))

/-- CBNEW (R399). -/
def execCbnew (e : Fin 12) (d w : BitVec 2) (rel : Half) (s : State) : Host.Outcome State Fault Refusal :=
  .next (s.flint e 0 (.cbw .ne d w rel))

/-- CBLTW (R399). -/
def execCbltw (e : Fin 12) (d w : BitVec 2) (rel : Half) (s : State) : Host.Outcome State Fault Refusal :=
  .next (s.flint e 0 (.cbw .lt d w rel))

/-- CBGEW (R399). -/
def execCbgew (e : Fin 12) (d w : BitVec 2) (rel : Half) (s : State) : Host.Outcome State Fault Refusal :=
  .next (s.flint e 0 (.cbw .ge d w rel))

/-- CUSTOM_INSTRUCTION (R396): decode entry n with operand X and, where the entry asks for it, an extension word. -/
def execCustomInstruction (e : Fin 12) (cond : BitVec 3) (n : BitVec 4) (x : BitVec 5) (ext : Half) (s : State) : Host.Outcome State Fault Refusal :=
  .next (s.flint e cond (.cust n x ext))

/-- RESERVED_OPCODE (R388, R401): two words that the engine's format does not define raise ILLEGAL; words that it defines are no reserved
opcode. -/
def execReservedOpcode (e : Fin 12) (word ext : Half) (s : State) : Host.Outcome State Fault Refusal :=
  match decodeFlint (s.eng e).kfmt word.toNat ext.toNat with
  | some _ => .next s
  | none => .next (s.flintBad e word.toNat)

end Sys2Proof.Machine
end

