-- ==== Sys2Proof/Machine/Uart.lean ====
section
/-!
DEFINITION. The YN4100 command protocol that E9 serves in compatibility mode (R154-R159, R415, R516).
-/

namespace Sys2Proof.Machine

open Sys2Proof

def State.modCompat (s : State) (f : Compat → Compat) : State := { s with compat := f s.compat }

/-- RESULT codes (R156). -/
abbrev UR_OK : Byte := 0
abbrev UR_BAD_CMD : Byte := 1
abbrev UR_BAD_LEN : Byte := 2
abbrev UR_BAD_ARG : Byte := 3
abbrev UR_BUSY : Byte := 4
abbrev UR_NOT_JOINED : Byte := 5
abbrev UR_REFUSED : Byte := 6

/-- REFUSED with its Shale reason code. -/
def refusedAs (reason : Nat) : List Byte := [UR_REFUSED, BitVec.ofNat 8 reason]

/-- OK, or REFUSED with the reason. -/
def resultOf (reason : Nat) : List Byte := bif Nat.beq reason 0 then [UR_OK] else refusedAs reason

/-- E9 serves the UART (R154, R159): a mode with engines, ENG9 not OFF, and E9 at work. -/
def State.e9Serves (s : State) : Bool :=
  s.supply.compatSel && s.hostWakes && !Nat.beq (s.dom 14) 0 &&
    (match (s.eng 9).run with | .running => true | .waiting => true | .halted => false | .reset => false) && !(s.eng 9).faulted

/-- The first UART start bit wakes HOSTIF (R107), and E9 takes the frame; the flag is false where HOSTIF is held OFF. -/
def State.uartWake (s : State) : State × Bool :=
  let w := s.wakeFor 25 4
  bif w.2 then ((w.1.wakeDomain 14 4).wakeDomain 0 4, true) else (w.1, false)

/-- UART_FRAME_GAP (R155): the frame is discarded without reply. -/
def execUartFrameGap (s : State) : Host.Outcome State Fault Refusal := .next (bif s.e9Serves then s.uartWake.1 else s)

/-- A frame received (R156): the same SEQ and CMD as the previous command's within 1 s get the cached reply, once there is one. -/
def State.uartTake (s : State) (seq : Byte) (cmd : Nat) (soon : Bool) (f : State → State) : State :=
  bif !s.e9Serves then s
  else
    let w := s.uartWake
    let s := w.1
    let again := match s.compat.last with
      | some q => bif soon && Nat.beq q.seq seq.toNat && Nat.beq q.cmd cmd then some q else none
      | none => none
    bif !w.2 then s
    else match again with
    | some q => match q.reply with
      | some r => s.modCompat (fun c => { c with reply := some r, line := r.bytes })
      | none => s
    | none => f (s.modCompat (fun c => { c with last := some ⟨seq.toNat, cmd, none⟩ }))

/-- A command whose answer is known at once. -/
def State.uartDo (s : State) (seq : Byte) (cmd : Nat) (soon : Bool) (f : State → State × List Byte) : State :=
  s.uartTake seq cmd soon (fun s => let r := f s; r.1.uartReply seq.toNat cmd r.2)

/-- Payload lengths outside a range are BAD_LEN. -/
def State.lenIn (s : State) (payload : List Byte) (lo hi : Nat) (f : State → State × List Byte) : State × List Byte :=
  bif Nat.ble lo payload.length && Nat.ble payload.length hi then f s else (s, [UR_BAD_LEN])

/-- Commands that act only with mains, in OUTAGE refused with MODE (R159). -/
def State.notOutage (s : State) (f : State → State × List Byte) : State × List Byte :=
  bif decide (s.mode = .outage) then (s, refusedAs RC.MODE) else f s

/-- Commands that need the mains side: in its absence refused with DOMAIN_OFF (R159). -/
def State.withMains (s : State) (f : State → State × List Byte) : State × List Byte :=
  bif s.bit R.PWR.SUPPLY_MAINS then f s else (s, refusedAs RC.DOMAIN_OFF)

/-- An operation on page `p` by E9 as host, and the reason code that refuses it, 0 for none. -/
def State.tryOp (s : State) (p : Nat) (f : State → State) : State × Nat :=
  let q := f (s.setAll [(R.HDR.REASON p, 0), (R.HOSTIF.LASTREF_REASON, 0)])
  let r := q.get R.HOSTIF.LASTREF_REASON
  (f s, bif Nat.beq r 0 then q.get (R.HDR.REASON p) else r)

/-- Operations in order until the first refusal. -/
def State.tryOps (s : State) : List (Nat × (State → State)) → State × Nat
  | [] => (s, 0)
  | q :: l =>
    let r := s.tryOp q.1 q.2
    bif Nat.beq r.2 0 then r.1.tryOps l else r

/-- A register write by E9 as host. -/
def hostWrite (p off w : Nat) : Nat × (State → State) := (p, fun s => s.regWrite (12 : Requester) p off w)

/-- The commit of the staged site profile. -/
def hostCommit : Nat × (State → State) := hostWrite 0x01 0xC0 1

/-- The number that bytes spell, least significant first. -/
def leValue (l : List Byte) : Nat := l.foldr (fun b v => b.toNat + 256 * v) 0

/-- Bytes `i` to `i + n - 1` of a payload as a number. -/
def argOf (l : List Byte) (i n : Nat) : Nat := leValue ((l.drop i).take n)

/-! ### The commands of R158 -/

/-- COMPAT_PING: the reply echoes the payload; a payload that leaves no room for RESULT in a frame of 248 is BAD_LEN. -/
def execCompatPing (seq : Byte) (soon : Bool) (payload : List Byte) (s : State) : Host.Outcome State Fault Refusal :=
  .next (s.uartDo seq 0x01 soon (fun s => s.lenIn payload 0 247 (fun s => (s, UR_OK :: payload))))

/-- COMPAT_GET_INFO: part code, protocol version, extended address, and as firmware versions the running RELEASE (log entry 23: the
manual gives the versions no layout). -/
def execCompatGetInfo (seq : Byte) (soon : Bool) (payload : List Byte) (s : State) : Host.Outcome State Fault Refusal :=
  .next (s.uartDo seq 0x02 soon (fun s => s.lenIn payload 0 0 (fun s =>
    (s, [UR_OK] ++ leBytes 2 0x9300 ++ [0x14] ++ leBytes 8 s.ownExt ++ leBytes 4 (s.get R.UPDATE.RELEASE_VALUE)))))

/-- COMPAT_RESET: module reset, as by RSTN, after the reply. -/
def execCompatReset (seq : Byte) (soon : Bool) (payload : List Byte) (s : State) : Host.Outcome State Fault Refusal :=
  .next (s.uartTake seq 0x03 soon (fun s =>
    bif payload.isEmpty then
      let f : UartFrame := ⟨seq.toNat, 0x83, [UR_OK]⟩
      ((s.moduleReset R.SYS.RESET_CAUSE_PIN).charger).modCompat (fun c => { c with reply := some f, line := f.bytes })
    else s.uartReply seq.toNat 0x03 [UR_BAD_LEN]))

/-- COMPAT_SET_REGION: S_RADIO written and committed. -/
def execCompatSetRegion (seq : Byte) (soon : Bool) (payload : List Byte) (s : State) : Host.Outcome State Fault Refusal :=
  .next (s.uartDo seq 0x10 soon (fun s => s.lenIn payload 2 2 (fun s => s.notOutage (fun s =>
    let r := s.tryOps [hostWrite 0x01 0xA0 (argOf payload 0 2), hostCommit]
    (r.1, resultOf r.2)))))

/-- COMPAT_SET_ROLE: S_ROLE.ROLE and S_HINT.COUNT = 0 written and committed; PAIR_EN stays. -/
def execCompatSetRole (seq : Byte) (soon : Bool) (payload : List Byte) (s : State) : Host.Outcome State Fault Refusal :=
  .next (s.uartDo seq 0x11 soon (fun s => s.lenIn payload 1 1 (fun s => s.notOutage (fun s =>
    let role := argOf payload 0 1
    bif Nat.blt 3 role then (s, [UR_BAD_ARG])
    else
      let r := s.tryOps [hostWrite 0x01 0xB0 (role + R.HOSTIF.S_ROLE_PAIR_EN.place (s.get R.HOSTIF.S_ROLE_PAIR_EN)),
        hostWrite 0x01 0xB4 0, hostCommit]
      (r.1, resultOf r.2)))))

/-- COMPAT_JOIN: the position is committed; in COMMISSION association starts with a scan. -/
def execCompatJoin (seq : Byte) (soon : Bool) (payload : List Byte) (s : State) : Host.Outcome State Fault Refusal :=
  .next (s.uartDo seq 0x12 soon (fun s => s.lenIn payload 8 8 (fun s => s.notOutage (fun s =>
    let scan : List (Nat × (State → State)) := bif decide (s.mode = .commission) then [hostWrite 0x44 0x34 1] else []
    let r := s.tryOps ([hostWrite 0x01 0xA8 (argOf payload 0 4), hostWrite 0x01 0xAC (argOf payload 4 4), hostCommit] ++ scan)
    (r.1.modCompat (fun c => { c with joining := Nat.beq r.2 0 && decide (s.mode = .commission) }), resultOf r.2)))))

/-- The node has an identity in a mesh: a COORDINATOR, or JOINED or ORPHAN (R302). -/
def State.hasMesh (s : State) : Bool := s.isCoord || Nat.beq s.joinSt 4 || Nat.beq s.joinSt 6

/-- The message of a SEND command: to 0xFFFF a BCAST, else a MSG; its port is not stated. -/
def State.compatMsg (s : State) (dest cls : Nat) (data : List Byte) : Msg :=
  let port := match s.freeBytes 1 with | b :: _ => b.toNat | [] => 0
  s.newMsg 12 0 dest cls (bif Nat.beq dest 0xFFFF then 4 else 0) port data 0

/-- COMPAT_SEND: the message is queued on MSG; the reply carries the message ID. -/
def execCompatSend (seq : Byte) (soon : Bool) (payload : List Byte) (s : State) : Host.Outcome State Fault Refusal :=
  .next (s.uartDo seq 0x20 soon (fun s => s.lenIn payload 3 248 (fun s =>
    let dest := argOf payload 0 2
    let cls := argOf payload 2 1
    let m := s.compatMsg dest cls (payload.drop 3)
    let r := s.sendCheck ⟨dest, cls, m.kind, m.ptype, 0, m.body.length, 0⟩
    bif Nat.blt 3 cls then (s, [UR_BAD_ARG])
    else bif !s.hasMesh then (s, [UR_NOT_JOINED])
    else bif !s.enabled 0x48 then (s, refusedAs RC.DEP_DISABLED)
    else bif !Nat.beq r 0 then (s, refusedAs r)
    else
      let s := (s.spend 1)
      let s := { s with msg := { s.msg with nextNum := s.msg.nextNum + 1 } }
      let t := (s.enterMsg m).gate (.message m) none (·.sendDone m)
      (t, UR_OK :: leBytes 4 (t.msgidOf m.num)))))

/-- E9's message to E10. -/
def State.toLamp (s : State) (t w : Nat) : State × Nat := s.deliverMail 10 (Mail.mk4 9 t 0 w 0 0 0)

/-- COMPAT_LAMP_SET: the level is passed to E10 (R415); with E10's mailbox full, BUSY. -/
def execCompatLampSet (seq : Byte) (soon : Bool) (payload : List Byte) (s : State) : Host.Outcome State Fault Refusal :=
  .next (s.uartDo seq 0x30 soon (fun s => s.lenIn payload 1 1 (fun s => s.withMains (fun s =>
    bif Nat.beq (argOf payload 0 1) 255 then (s, [UR_BAD_ARG])
    else
      let r := s.toLamp 0x90 (argOf payload 0 1)
      (r.1, bif Nat.beq r.2 0 then [UR_OK] else [UR_BUSY])))))

/-- COMPAT_LAMP_GET: E9 asks E10, and answers when E10 does (R415); a second one meanwhile is BUSY. -/
def execCompatLampGet (seq : Byte) (soon : Bool) (payload : List Byte) (s : State) : Host.Outcome State Fault Refusal :=
  .next (s.uartTake seq 0x31 soon (fun s =>
    bif !payload.isEmpty then s.uartReply seq.toNat 0x31 [UR_BAD_LEN]
    else bif !s.bit R.PWR.SUPPLY_MAINS then s.uartReply seq.toNat 0x31 (refusedAs RC.DOMAIN_OFF)
    else bif s.compat.lampWait.isSome then s.uartReply seq.toNat 0x31 [UR_BUSY]
    else
      let r := s.toLamp 0x91 0
      bif Nat.beq r.2 0 then r.1.modCompat (fun c => { c with lampWait := some seq.toNat }) else s.uartReply seq.toNat 0x31 [UR_BUSY]))

/-- COMPAT_METER_GET: 64-bit energy, V, I and P as the METER page holds them. -/
def execCompatMeterGet (seq : Byte) (soon : Bool) (payload : List Byte) (s : State) : Host.Outcome State Fault Refusal :=
  .next (s.uartDo seq 0x32 soon (fun s => s.lenIn payload 0 0 (fun s => s.withMains (fun s =>
    let g := s.tryOp 0x62 (fun s => (s.guard HOST 0x62 0x28 false).1)
    bif !Nat.beq g.2 0 then (g.1, refusedAs g.2)
    else
      let t := g.1
      (t, UR_OK :: leBytes 8 t.energy ++ [0x28, 0x2C, 0x30].flatMap (fun off => leBytes 4 (t.word HOST 0x62 off)))))))

/-- COMPAT_TIME_SET: 33-bit seconds; the RTC is set by a count commit. -/
def execCompatTimeSet (seq : Byte) (soon : Bool) (payload : List Byte) (s : State) : Host.Outcome State Fault Refusal :=
  .next (s.uartDo seq 0x40 soon (fun s => s.lenIn payload 5 5 (fun s =>
    let sec := argOf payload 0 5
    bif Nat.ble (2 ^ 33) sec then (s, [UR_BAD_ARG])
    else
      let r := s.tryOp 0x28 (fun s => s.guarded HOST 0x28 0x40 (fun s => s.commitCount HOST sec 0))
      (r.1, resultOf r.2))))

/-- COMPAT_TIME_GET: RTC seconds. -/
def execCompatTimeGet (seq : Byte) (soon : Bool) (payload : List Byte) (s : State) : Host.Outcome State Fault Refusal :=
  .next (s.uartDo seq 0x41 soon (fun s => s.lenIn payload 0 0 (fun s => (s, UR_OK :: leBytes 5 (s.rtc.count / 32768)))))

/-- A waiting block's WRITE is issued once UPDATE is not busy (R516). -/
def State.fwDeferred (s : State) : State := s.run (execFwBlockDeferredWrite s)

/-- The chunks of a block with one put at its place. -/
def gatherPut (g : Option (Nat × List (Nat × List Byte))) (block i : Nat) (data : List Byte) : List (Nat × List Byte) :=
  let old := match g with | some (b, l) => bif Nat.beq b block then l else [] | none => []
  old.filter (fun (c : Nat × List Byte) => !Nat.beq c.1 i) ++ [(i, data)]

/-- The bytes of a complete block. -/
def gatherBytes (l : List (Nat × List Byte)) : List Byte :=
  (List.range 32).flatMap (fun i => match l.find? (fun c => Nat.beq c.1 i) with | some c => c.2 | none => [])

/-- A chunk is taken; the one that completes its block hands the block on (R516). -/
def State.fwChunk (s : State) (off : Nat) (data : List Byte) : State × List Byte :=
  let block := off / 4096 * 4096
  let l := gatherPut s.update.gather block (off % 4096 / 128) data
  bif Nat.blt l.length 32 then ({ s with update := { s.update with gather := some (block, l) } }, [UR_OK])
  else
    let s := { s with update := { s.update with gather := none } }
    bif s.bit R.UPDATE.STAT_BUSY then ({ s with update := { s.update with waiting := some (block, gatherBytes l) } }, [UR_OK])
    else
      let r := s.stageWrite block (gatherBytes l)
      bif Nat.beq r.2 0 then (r.1, [UR_OK]) else (s, refusedAs r.2 ++ leBytes 4 block)

/-- COMPAT_FW_BLOCK (R516). -/
def execCompatFwBlock (seq : Byte) (soon : Bool) (payload : List Byte) (s : State) : Host.Outcome State Fault Refusal :=
  .next (s.uartDo seq 0x50 soon (fun s => s.lenIn payload 132 132 (fun s => s.notOutage (fun s =>
    let off := argOf payload 0 4
    let s := s.fwDeferred
    bif !Nat.beq (off % 128) 0 then (s, [UR_BAD_ARG])
    else match s.update.refused with
    | some q => ({ s with update := { s.update with refused := none } }, refusedAs q.1 ++ leBytes 4 q.2)
    | none =>
      bif s.update.waiting.isSome && s.bit R.UPDATE.STAT_BUSY then (s, [UR_BUSY])
      else s.fwChunk off (payload.drop 4)))))

/-- Words read in order; a refused read ends the command. Past offset 0xFC the words wrap within the page, as an SPI burst does (R141): of
the UART's own commands the manual does not say it (DEDUCED, log entry 86). -/
def State.readWords (s : State) (addr : Nat) : Nat → State × Nat × List Byte
  | 0 => (s, 0, [])
  | n + 1 =>
    let r := s.regRead HOST HOST (addr / 256) (addr % 256)
    let code := (s.tryOp (addr / 256) (fun s => (s.regRead HOST HOST (addr / 256) (addr % 256)).1)).2
    bif !Nat.beq code 0 then (r.1, code, [])
    else
      let t := r.1.readWords (nextWord addr) n
      (t.1, t.2.1, leBytes 4 r.2 ++ t.2.2)

/-- COMPAT_REG_READ: 1 to 60 words. -/
def execCompatRegRead (seq : Byte) (soon : Bool) (payload : List Byte) (s : State) : Host.Outcome State Fault Refusal :=
  .next (s.uartDo seq 0x60 soon (fun s => s.lenIn payload 3 3 (fun s =>
    let n := argOf payload 2 1
    bif Nat.beq n 0 || Nat.blt 60 n then (s, [UR_BAD_ARG])
    else
      let r := s.readWords (argOf payload 0 2) n
      (r.1, bif Nat.beq r.2.1 0 then UR_OK :: r.2.2 else refusedAs r.2.1))))

/-- The writes of a REG_WRITE payload. -/
def regWrites (addr : Nat) : Nat → List Byte → List (Nat × (State → State))
  | 0, _ => []
  | n + 1, l => hostWrite (addr / 256) (addr % 256) (argOf l 0 4) :: regWrites (nextWord addr) n (l.drop 4)

/-- COMPAT_REG_WRITE: words written in order; stops at the first refusal. -/
def execCompatRegWrite (seq : Byte) (soon : Bool) (payload : List Byte) (s : State) : Host.Outcome State Fault Refusal :=
  .next (s.uartDo seq 0x61 soon (fun s =>
    let n := (payload.length - 2) / 4
    bif !Nat.beq payload.length (2 + 4 * n) || Nat.beq n 0 then (s, [UR_BAD_LEN])
    else
      let r := s.tryOps (regWrites (argOf payload 0 2) n (payload.drop 2))
      (r.1, resultOf r.2)))

/-- COMPAT_ACK (R157): the acknowledged head leaves the queue and what waits moves up; a message that RECV told of is taken (R353). -/
def execCompatAck (seq : Byte) (soon : Bool) (payload : List Byte) (s : State) : Host.Outcome State Fault Refusal :=
  .next (s.uartDo seq 0x7E soon (fun s => s.lenIn payload 0 0 (fun s =>
    match s.compat.queue with
    | f :: rest =>
      bif Nat.beq f.seq seq.toNat then
        let t := s.modCompat (fun c => ({ c with queue := rest, resends := 0 } : Compat).fill)
        ((t.onlyIf (Nat.beq f.cmd 0xC0) State.recvAcked).placeOffers, [UR_OK])
      else (s, [UR_OK])
    | [] => (s, [UR_OK]))))

/-- COMPAT_SET_BAUD: from the byte after the reply. -/
def execCompatSetBaud (seq : Byte) (soon : Bool) (payload : List Byte) (s : State) : Host.Outcome State Fault Refusal :=
  .next (s.uartDo seq 0x7F soon (fun s => s.lenIn payload 1 1 (fun s =>
    bif Nat.blt 9 (argOf payload 0 1) then (s, [UR_BAD_ARG])
    else (s.modCompat (fun c => { c with baud := argOf payload 0 1 }), [UR_OK]))))

/-- COMPAT_UNKNOWN_COMMAND (R156). -/
def execCompatUnknownCommand (seq cmd : Byte) (soon : Bool) (_payload : List Byte) (s : State) : Host.Outcome State Fault Refusal :=
  .next (s.uartDo seq cmd.toNat soon (fun s => (s, [UR_BAD_CMD])))

/-! ### Frames as bytes (R155) -/

/-- The frame that received bytes spell: SOF, a LEN of at most 248 that fits, and a CRC-16 that holds. -/
def uartFrame? (bytes : List Byte) : Option UartFrame :=
  match bytes with
  | sof :: len :: seq :: cmd :: rest =>
    let payload := rest.take len.toNat
    let crc := argOf rest len.toNat 2
    bif Nat.beq sof.toNat 0xA5 && Nat.ble len.toNat 248 && Nat.beq rest.length (len.toNat + 2) &&
        Nat.beq crc (uartCrc (len :: seq :: cmd :: payload)) then some ⟨seq.toNat, cmd.toNat, payload⟩
    else none
  | _ => none

/-- The command of a frame (R158). -/
def execUartCommand (f : UartFrame) (soon : Bool) (s : State) : Host.Outcome State Fault Refusal :=
  let q := BitVec.ofNat 8 f.seq
  match f.cmd with
  | 0x01 => execCompatPing q soon f.payload s
  | 0x02 => execCompatGetInfo q soon f.payload s
  | 0x03 => execCompatReset q soon f.payload s
  | 0x10 => execCompatSetRegion q soon f.payload s
  | 0x11 => execCompatSetRole q soon f.payload s
  | 0x12 => execCompatJoin q soon f.payload s
  | 0x20 => execCompatSend q soon f.payload s
  | 0x30 => execCompatLampSet q soon f.payload s
  | 0x31 => execCompatLampGet q soon f.payload s
  | 0x32 => execCompatMeterGet q soon f.payload s
  | 0x40 => execCompatTimeSet q soon f.payload s
  | 0x41 => execCompatTimeGet q soon f.payload s
  | 0x50 => execCompatFwBlock q soon f.payload s
  | 0x60 => execCompatRegRead q soon f.payload s
  | 0x61 => execCompatRegWrite q soon f.payload s
  | 0x7E => execCompatAck q soon f.payload s
  | 0x7F => execCompatSetBaud q soon f.payload s
  | _ => execCompatUnknownCommand q (BitVec.ofNat 8 f.cmd) soon f.payload s

/-- UART_FRAME_DISCARD (R155): received bytes with a bad CRC or a LEN above 248 are discarded without reply; bytes that spell a frame are
its command. -/
def execUartFrameDiscard (bytes : List Byte) (soon : Bool) (s : State) : Host.Outcome State Fault Refusal :=
  match uartFrame? bytes with
  | some f => execUartCommand f soon s
  | none => .next (bif s.e9Serves then s.uartWake.1 else s)

/-- INDICATION_RESEND (R157): up to three times, then the indication stays at the head. -/
def execIndicationResend (s : State) : Host.Outcome State Fault Refusal :=
  .next (bif s.e9Serves && !s.compat.queue.isEmpty && Nat.blt s.compat.resends 3 then
    s.modCompat (fun c => { c with resends := c.resends + 1 })
  else s)

end Sys2Proof.Machine
end

