-- ==== Sys2Proof/Machine/Dispatch.lean ====
section
/-!
DEFINITION. The dispatch: one arm for each command, each a direct call of its meaning.
-/

namespace Sys2Proof.Machine

open Sys2Proof

/-- The effect of one command on everything but the queue. -/
def exec (i : Instr) (s : State) : Host.Outcome State Fault Refusal :=
  match i with
  | .bridgeFrameReceived toMains crcOk => Sys2Proof.Machine.execBridgeFrameReceived toMains crcOk s
  | .mainsPageAccessComplete => Sys2Proof.Machine.execMainsPageAccessComplete s
  | .bridgeSilenceTimeout => Sys2Proof.Machine.execBridgeSilenceTimeout s
  | .mainsBridgeHold => Sys2Proof.Machine.execMainsBridgeHold s
  | .aoutHoldTimeout => Sys2Proof.Machine.execAoutHoldTimeout s
  | .bridgeRecovery => Sys2Proof.Machine.execBridgeRecovery s
  | .bridgeRestart => Sys2Proof.Machine.execBridgeRestart s
  | .zeroCrossingTimestamp rising slotUs period err => Sys2Proof.Machine.execZeroCrossingTimestamp rising slotUs period err s
  | .zeroCrossingMiss => Sys2Proof.Machine.execZeroCrossingMiss s
  | .mainsPresent h1 h2 h3 => Sys2Proof.Machine.execMainsPresent h1 h2 h3 s
  | .mainsLost half lastRms => Sys2Proof.Machine.execMainsLost half lastRms s
  | .lastGaspComplete => Sys2Proof.Machine.execLastGaspComplete s
  | .brownoutStart rms => Sys2Proof.Machine.execBrownoutStart rms s
  | .brownoutEnd rms => Sys2Proof.Machine.execBrownoutEnd rms s
  | .overvoltage rms lastRms => Sys2Proof.Machine.execOvervoltage rms lastRms s
  | .supplyFault => Sys2Proof.Machine.execSupplyFault s
  | .supplyRestart => Sys2Proof.Machine.execSupplyRestart s
  | .vbakUsable volts => Sys2Proof.Machine.execVbakUsable volts s
  | .vbakUnusable volts => Sys2Proof.Machine.execVbakUnusable volts s
  | .v3outUndervoltage => Sys2Proof.Machine.execV3outUndervoltage s
  | .v3outRetry => Sys2Proof.Machine.execV3outRetry s
  | .rstnLow => Sys2Proof.Machine.execRstnLow s
  | .resetFrameReceived => Sys2Proof.Machine.execResetFrameReceived s
  | .fieldPresent => Sys2Proof.Machine.execFieldPresent s
  | .fieldRemoved => Sys2Proof.Machine.execFieldRemoved s
  | .bootResetRelease compatSel erases => Sys2Proof.Machine.execBootResetRelease compatSel erases s
  | .bootComplete ms => Sys2Proof.Machine.execBootComplete ms s
  | .modeReqHold who key late => Sys2Proof.Machine.execModeReqHold who key late s
  | .modeReqCommission who key late => Sys2Proof.Machine.execModeReqCommission who key late s
  | .modeReqService who key late => Sys2Proof.Machine.execModeReqService who key late s
  | .modeReqMaintenance who key late => Sys2Proof.Machine.execModeReqMaintenance who key late s
  | .maintenanceWorkComplete => Sys2Proof.Machine.execMaintenanceWorkComplete s
  | .outageLimitExpiry => Sys2Proof.Machine.execOutageLimitExpiry s
  | .holdWakeExpiry => Sys2Proof.Machine.execHoldWakeExpiry s
  | .retCommit who => Sys2Proof.Machine.execRetCommit who s
  | .retCommitComplete ok => Sys2Proof.Machine.execRetCommitComplete ok s
  | .opsecSecond => Sys2Proof.Machine.execOpsecSecond s
  | .faultCapture cause src detail addr => Sys2Proof.Machine.execFaultCapture cause src detail addr s
  | .faultDone who => Sys2Proof.Machine.execFaultDone who s
  | .faultHandlerTimeout => Sys2Proof.Machine.execFaultHandlerTimeout s
  | .xoFail => Sys2Proof.Machine.execXoFail s
  | .lfStop long => Sys2Proof.Machine.execLfStop long s
  | .lfReturn => Sys2Proof.Machine.execLfReturn s
  | .domcmdOff who idx nowake => Sys2Proof.Machine.execDomcmdOff who idx nowake s
  | .domcmdRetention who idx nowake => Sys2Proof.Machine.execDomcmdRetention who idx nowake s
  | .domcmdOn who idx nowake => Sys2Proof.Machine.execDomcmdOn who idx nowake s
  | .domcmdAuto who idx nowake => Sys2Proof.Machine.execDomcmdAuto who idx nowake s
  | .domainIdleEntry idx abort hostWake => Sys2Proof.Machine.execDomainIdleEntry idx abort hostWake s
  | .domainWake idx src => Sys2Proof.Machine.execDomainWake idx src s
  | .domainWakeReady idx => Sys2Proof.Machine.execDomainWakeReady idx s
  | .pwrHostreqWrite who value => Sys2Proof.Machine.execPwrHostreqWrite who value s
  | .hostWakeRise rested => Sys2Proof.Machine.execHostWakeRise rested s
  | .asqPeriod n samples => Sys2Proof.Machine.execAsqPeriod n samples s
  | .fastClockStop => Sys2Proof.Machine.execFastClockStop s
  | .fastClockReady => Sys2Proof.Machine.execFastClockReady s
  | .clkHostreqWrite who value => Sys2Proof.Machine.execClkHostreqWrite who value s
  | .stitchUpdate => Sys2Proof.Machine.execStitchUpdate s
  | .pageEnable who page => Sys2Proof.Machine.execPageEnable who page s
  | .pageCheckComplete page => Sys2Proof.Machine.execPageCheckComplete page s
  | .pageDisable who page => Sys2Proof.Machine.execPageDisable who page s
  | .pageStopComplete page => Sys2Proof.Machine.execPageStopComplete page s
  | .pageSoftrst who page => Sys2Proof.Machine.execPageSoftrst who page s
  | .pageLock who page => Sys2Proof.Machine.execPageLock who page s
  | .registerWrite who page off value => Sys2Proof.Machine.execRegisterWrite who page off value s
  | .ownerAssign who value => Sys2Proof.Machine.execOwnerAssign who value s
  | .spiRd1 addr words timing => Sys2Proof.Machine.execSpiRd1 addr words timing s
  | .spiWr1 addr words => Sys2Proof.Machine.execSpiWr1 addr words s
  | .spiRdq addr words timing => Sys2Proof.Machine.execSpiRdq addr words timing s
  | .spiWrq addr words => Sys2Proof.Machine.execSpiWrq addr words s
  | .spiRdstat => Sys2Proof.Machine.execSpiRdstat s
  | .spiEnqpi => Sys2Proof.Machine.execSpiEnqpi s
  | .spiExqpi => Sys2Proof.Machine.execSpiExqpi s
  | .spiRsten => Sys2Proof.Machine.execSpiRsten s
  | .spiRstif => Sys2Proof.Machine.execSpiRstif s
  | .heldReadComplete => Sys2Proof.Machine.execHeldReadComplete s
  | .postedWriteDrain => Sys2Proof.Machine.execPostedWriteDrain s
  | .siteCommit who => Sys2Proof.Machine.execSiteCommit who s
  | .uartFrameGap => Sys2Proof.Machine.execUartFrameGap s
  | .compatPing seq soon payload => Sys2Proof.Machine.execCompatPing seq soon payload s
  | .compatGetInfo seq soon payload => Sys2Proof.Machine.execCompatGetInfo seq soon payload s
  | .compatReset seq soon payload => Sys2Proof.Machine.execCompatReset seq soon payload s
  | .compatSetRegion seq soon payload => Sys2Proof.Machine.execCompatSetRegion seq soon payload s
  | .compatSetRole seq soon payload => Sys2Proof.Machine.execCompatSetRole seq soon payload s
  | .compatJoin seq soon payload => Sys2Proof.Machine.execCompatJoin seq soon payload s
  | .compatSend seq soon payload => Sys2Proof.Machine.execCompatSend seq soon payload s
  | .compatLampSet seq soon payload => Sys2Proof.Machine.execCompatLampSet seq soon payload s
  | .compatLampGet seq soon payload => Sys2Proof.Machine.execCompatLampGet seq soon payload s
  | .compatMeterGet seq soon payload => Sys2Proof.Machine.execCompatMeterGet seq soon payload s
  | .compatTimeSet seq soon payload => Sys2Proof.Machine.execCompatTimeSet seq soon payload s
  | .compatTimeGet seq soon payload => Sys2Proof.Machine.execCompatTimeGet seq soon payload s
  | .compatFwBlock seq soon payload => Sys2Proof.Machine.execCompatFwBlock seq soon payload s
  | .compatRegRead seq soon payload => Sys2Proof.Machine.execCompatRegRead seq soon payload s
  | .compatRegWrite seq soon payload => Sys2Proof.Machine.execCompatRegWrite seq soon payload s
  | .compatAck seq soon payload => Sys2Proof.Machine.execCompatAck seq soon payload s
  | .compatSetBaud seq soon payload => Sys2Proof.Machine.execCompatSetBaud seq soon payload s
  | .indicationResend => Sys2Proof.Machine.execIndicationResend s
  | .fwBlockDeferredWrite => Sys2Proof.Machine.execFwBlockDeferredWrite s
  | .chainCalComplete c r => Sys2Proof.Machine.execChainCalComplete c r s
  | .rfcalRun who value => Sys2Proof.Machine.execRfcalRun who value s
  | .tempCheck c temp gap => Sys2Proof.Machine.execTempCheck c temp gap s
  | .tempSetComplete c steps r => Sys2Proof.Machine.execTempSetComplete c steps r s
  | .cellArm m lock => Sys2Proof.Machine.execCellArm m lock s
  | .energyDetect c rssi => Sys2Proof.Machine.execEnergyDetect c rssi s
  | .qualifierTimeout c => Sys2Proof.Machine.execQualifierTimeout c s
  | .preambleQualified c score freq => Sys2Proof.Machine.execPreambleQualified c score freq s
  | .laneDetect hits => Sys2Proof.Machine.execLaneDetect hits s
  | .sfdDetected c slotUs => Sys2Proof.Machine.execSfdDetected c slotUs s
  | .sfdTimeout c => Sys2Proof.Machine.execSfdTimeout c s
  | .phrReceived c phr past => Sys2Proof.Machine.execPhrReceived c phr past s
  | .rfFrameEnd c f rx => Sys2Proof.Machine.execRfFrameEnd c f rx s
  | .rxWindowClose c => Sys2Proof.Machine.execRxWindowClose c s
  | .rfTxStart c x => Sys2Proof.Machine.execRfTxStart c x s
  | .rfTxEnd c => Sys2Proof.Machine.execRfTxEnd c s
  | .txDeferredStart c late x => Sys2Proof.Machine.execTxDeferredStart c late x s
  | .micaWakeMatch id caller => Sys2Proof.Machine.execMicaWakeMatch id caller s
  | .plcPreambleDetect score => Sys2Proof.Machine.execPlcPreambleDetect score s
  | .plcMTimeout => Sys2Proof.Machine.execPlcMTimeout s
  | .plcFchDecoded bits slotUs => Sys2Proof.Machine.execPlcFchDecoded bits slotUs s
  | .plcFrameEnd ldpc power f rx => Sys2Proof.Machine.execPlcFrameEnd ldpc power f rx s
  | .plcRxWindowClose => Sys2Proof.Machine.execPlcRxWindowClose s
  | .plcTxStart cut => Sys2Proof.Machine.execPlcTxStart cut s
  | .plcTxEnd zline => Sys2Proof.Machine.execPlcTxEnd zline s
  | .plcTxDeferredStart late cut => Sys2Proof.Machine.execPlcTxDeferredStart late cut s
  | .driverThermalChange temp => Sys2Proof.Machine.execDriverThermalChange temp s
  | .soundingRunComplete bins => Sys2Proof.Machine.execSoundingRunComplete bins s
  | .tonemapRegenOne who => Sys2Proof.Machine.execTonemapRegenOne who s
  | .tonemapRegenAll who => Sys2Proof.Machine.execTonemapRegenAll who s
  | .prevVersionExpiry slot => Sys2Proof.Machine.execPrevVersionExpiry slot s
  | .slotBoundary => Sys2Proof.Machine.execSlotBoundary s
  | .slotframeBoundary => Sys2Proof.Machine.execSlotframeBoundary s
  | .mediumLeavesService m => Sys2Proof.Machine.execMediumLeavesService m s
  | .cellcmdAdd who => Sys2Proof.Machine.execCellcmdAdd who s
  | .cellcmdDel who idx => Sys2Proof.Machine.execCellcmdDel who idx s
  | .cellcmdRead who idx => Sys2Proof.Machine.execCellcmdRead who idx s
  | .cellcmdDeleteSf who => Sys2Proof.Machine.execCellcmdDeleteSf who s
  | .schedTime0Read who slotUs => Sys2Proof.Machine.execSchedTime0Read who slotUs s
  | .ackMissed m => Sys2Proof.Machine.execAckMissed m s
  | .keepaliveDue => Sys2Proof.Machine.execKeepaliveDue s
  | .resyncExpiry nbr x => Sys2Proof.Machine.execResyncExpiry nbr x s
  | .pollDue => Sys2Proof.Machine.execPollDue s
  | .pollResponseEnd => Sys2Proof.Machine.execPollResponseEnd s
  | .childPollTimeout nbr => Sys2Proof.Machine.execChildPollTimeout nbr s
  | .linksecKeyLoad who => Sys2Proof.Machine.execLinksecKeyLoad who s
  | .linksecKeyErase who => Sys2Proof.Machine.execLinksecKeyErase who s
  | .meshScan who => Sys2Proof.Machine.execMeshScan who s
  | .meshJoin who idx => Sys2Proof.Machine.execMeshJoin who idx s
  | .meshJoinBest who => Sys2Proof.Machine.execMeshJoinBest who s
  | .meshAbort who => Sys2Proof.Machine.execMeshAbort who s
  | .scanTimeout => Sys2Proof.Machine.execScanTimeout s
  | .joinWaitExpiry => Sys2Proof.Machine.execJoinWaitExpiry s
  | .meshcmdJoinRelay => Sys2Proof.Machine.execMeshcmdJoinRelay s
  | .meshcmdJoinAnswer => Sys2Proof.Machine.execMeshcmdJoinAnswer s
  | .meshcmdParentUpdate => Sys2Proof.Machine.execMeshcmdParentUpdate s
  | .meshcmdLeave => Sys2Proof.Machine.execMeshcmdLeave s
  | .meshcmdRouteErr => Sys2Proof.Machine.execMeshcmdRouteErr s
  | .assocLookup who => Sys2Proof.Machine.execAssocLookup who s
  | .assocPreload who => Sys2Proof.Machine.execAssocPreload who s
  | .assocApprove who idx => Sys2Proof.Machine.execAssocApprove who idx s
  | .assocDeny who idx => Sys2Proof.Machine.execAssocDeny who idx s
  | .assocDelete who idx => Sys2Proof.Machine.execAssocDelete who idx s
  | .assocNextPending who idx => Sys2Proof.Machine.execAssocNextPending who idx s
  | .assocRehash who => Sys2Proof.Machine.execAssocRehash who s
  | .rehashComplete => Sys2Proof.Machine.execRehashComplete s
  | .approveTimeout idx => Sys2Proof.Machine.execApproveTimeout idx s
  | .entryStale idx => Sys2Proof.Machine.execEntryStale idx s
  | .snapstotAppend => Sys2Proof.Machine.execSnapstotAppend s
  | .tableRestoreComplete => Sys2Proof.Machine.execTableRestoreComplete s
  | .msgSend who => Sys2Proof.Machine.execMsgSend who s
  | .msgCancel who => Sys2Proof.Machine.execMsgCancel who s
  | .msgSendComplete => Sys2Proof.Machine.execMsgSendComplete s
  | .mboxMsgSend e tag txd0 txd1 txd2 txd3 => Sys2Proof.Machine.execMboxMsgSend e tag txd0 txd1 txd2 txd3 s
  | .mboxMsgCancel e tag msgid => Sys2Proof.Machine.execMboxMsgCancel e tag msgid s
  | .messageAdmitted rec => Sys2Proof.Machine.execMessageAdmitted rec s
  | .reassemblyTimeout peer msgid => Sys2Proof.Machine.execReassemblyTimeout peer msgid s
  | .rxtailWrite who value => Sys2Proof.Machine.execRxtailWrite who value s
  | .attemptTimeout rec => Sys2Proof.Machine.execAttemptTimeout rec s
  | .attemptStart rec => Sys2Proof.Machine.execAttemptStart rec s
  | .messageExpired rec => Sys2Proof.Machine.execMessageExpired rec s
  | .msgDonePop who => Sys2Proof.Machine.execMsgDonePop who s
  | .basaltHello h ack => Sys2Proof.Machine.execBasaltHello h ack s
  | .basaltHeartbeat h ack => Sys2Proof.Machine.execBasaltHeartbeat h ack s
  | .basaltAck ack => Sys2Proof.Machine.execBasaltAck ack s
  | .basaltCopy seq ack objs => Sys2Proof.Machine.execBasaltCopy seq ack objs s
  | .basaltRecord seq ack objs => Sys2Proof.Machine.execBasaltRecord seq ack objs s
  | .basaltHandover seq ack time => Sys2Proof.Machine.execBasaltHandover seq ack time s
  | .heartbeatSend slotUs => Sys2Proof.Machine.execHeartbeatSend slotUs s
  | .helloSend => Sys2Proof.Machine.execHelloSend s
  | .basaltRetxTimeout => Sys2Proof.Machine.execBasaltRetxTimeout s
  | .partnerSilence time => Sys2Proof.Machine.execPartnerSilence time s
  | .pairPresChange low => Sys2Proof.Machine.execPairPresChange low s
  | .onairCheckEnd time => Sys2Proof.Machine.execOnairCheckEnd time s
  | .gatedAckTimeout => Sys2Proof.Machine.execGatedAckTimeout s
  | .reserveReportTimeout => Sys2Proof.Machine.execReserveReportTimeout s
  | .bulkCopyComplete => Sys2Proof.Machine.execBulkCopyComplete s
  | .pairHandover who key => Sys2Proof.Machine.execPairHandover who key s
  | .pairResync who key => Sys2Proof.Machine.execPairResync who key s
  | .mov e cond d src => Sys2Proof.Machine.execMov e cond d src s
  | .add e cond d src => Sys2Proof.Machine.execAdd e cond d src s
  | .adc e cond d src => Sys2Proof.Machine.execAdc e cond d src s
  | .sub e cond d src => Sys2Proof.Machine.execSub e cond d src s
  | .sbc e cond d src => Sys2Proof.Machine.execSbc e cond d src s
  | .and e cond d src => Sys2Proof.Machine.execAnd e cond d src s
  | .or e cond d src => Sys2Proof.Machine.execOr e cond d src s
  | .xor e cond d src => Sys2Proof.Machine.execXor e cond d src s
  | .cmp e cond d src => Sys2Proof.Machine.execCmp e cond d src s
  | .tst e cond d src => Sys2Proof.Machine.execTst e cond d src s
  | .inc e cond d => Sys2Proof.Machine.execInc e cond d s
  | .dec e cond d => Sys2Proof.Machine.execDec e cond d s
  | .not e cond d => Sys2Proof.Machine.execNot e cond d s
  | .neg e cond d => Sys2Proof.Machine.execNeg e cond d s
  | .shl e cond d => Sys2Proof.Machine.execShl e cond d s
  | .shr e cond d => Sys2Proof.Machine.execShr e cond d s
  | .asr e cond d => Sys2Proof.Machine.execAsr e cond d s
  | .rol e cond d => Sys2Proof.Machine.execRol e cond d s
  | .ror e cond d => Sys2Proof.Machine.execRor e cond d s
  | .swap e cond d => Sys2Proof.Machine.execSwap e cond d s
  | .clr e cond d => Sys2Proof.Machine.execClr e cond d s
  | .addw e cond d src => Sys2Proof.Machine.execAddw e cond d src s
  | .subw e cond d src => Sys2Proof.Machine.execSubw e cond d src s
  | .cmpw e cond d src => Sys2Proof.Machine.execCmpw e cond d src s
  | .movw e cond d src => Sys2Proof.Machine.execMovw e cond d src s
  | .movp e cond d src => Sys2Proof.Machine.execMovp e cond d src s
  | .addp e cond d src => Sys2Proof.Machine.execAddp e cond d src s
  | .movpw e cond d w => Sys2Proof.Machine.execMovpw e cond d w s
  | .movwp e cond d src => Sys2Proof.Machine.execMovwp e cond d src s
  | .ld e cond d ea => Sys2Proof.Machine.execLd e cond d ea s
  | .st e cond d ea => Sys2Proof.Machine.execSt e cond d ea s
  | .ldw e cond d ea => Sys2Proof.Machine.execLdw e cond d ea s
  | .stw e cond d ea => Sys2Proof.Machine.execStw e cond d ea s
  | .push e cond d => Sys2Proof.Machine.execPush e cond d s
  | .pop e cond d => Sys2Proof.Machine.execPop e cond d s
  | .pushp e cond d => Sys2Proof.Machine.execPushp e cond d s
  | .popp e cond d => Sys2Proof.Machine.execPopp e cond d s
  | .pushw e cond d => Sys2Proof.Machine.execPushw e cond d s
  | .popw e cond d => Sys2Proof.Machine.execPopw e cond d s
  | .br e cond off => Sys2Proof.Machine.execBr e cond off s
  | .bra e off => Sys2Proof.Machine.execBra e off s
  | .jmp e cond tgt => Sys2Proof.Machine.execJmp e cond tgt s
  | .call e cond tgt => Sys2Proof.Machine.execCall e cond tgt s
  | .ret e cond => Sys2Proof.Machine.execRet e cond s
  | .djnz e cond d rel => Sys2Proof.Machine.execDjnz e cond d rel s
  | .nop e cond => Sys2Proof.Machine.execNop e cond s
  | .wait e cond => Sys2Proof.Machine.execWait e cond s
  | .waitWake e => Sys2Proof.Machine.execWaitWake e s
  | .pushf e cond => Sys2Proof.Machine.execPushf e cond s
  | .popf e cond => Sys2Proof.Machine.execPopf e cond s
  | .movsp e cond p => Sys2Proof.Machine.execMovsp e cond p s
  | .brk e cond => Sys2Proof.Machine.execBrk e cond s
  | .clc e cond => Sys2Proof.Machine.execClc e cond s
  | .sec e cond => Sys2Proof.Machine.execSec e cond s
  | .clv e cond => Sys2Proof.Machine.execClv e cond s
  | .btst e cond d b => Sys2Proof.Machine.execBtst e cond d b s
  | .bset e cond d b => Sys2Proof.Machine.execBset e cond d b s
  | .bclr e cond d b => Sys2Proof.Machine.execBclr e cond d b s
  | .btgl e cond d b => Sys2Proof.Machine.execBtgl e cond d b s
  | .mulu e cond d g => Sys2Proof.Machine.execMulu e cond d g s
  | .cbeq e d src => Sys2Proof.Machine.execCbeq e d src s
  | .cbne e d src => Sys2Proof.Machine.execCbne e d src s
  | .cblt e d src => Sys2Proof.Machine.execCblt e d src s
  | .cbge e d src => Sys2Proof.Machine.execCbge e d src s
  | .cbeqw e d w rel => Sys2Proof.Machine.execCbeqw e d w rel s
  | .cbnew e d w rel => Sys2Proof.Machine.execCbnew e d w rel s
  | .cbltw e d w rel => Sys2Proof.Machine.execCbltw e d w rel s
  | .cbgew e d w rel => Sys2Proof.Machine.execCbgew e d w rel s
  | .customInstruction e cond n x ext => Sys2Proof.Machine.execCustomInstruction e cond n x ext s
  | .mcodeOpen who => Sys2Proof.Machine.execMcodeOpen who s
  | .mcodeCommit who => Sys2Proof.Machine.execMcodeCommit who s
  | .mcodeDataAccess who write => Sys2Proof.Machine.execMcodeDataAccess who write s
  | .mcodeScrub e upset => Sys2Proof.Machine.execMcodeScrub e upset s
  | .mailboxSend e dest => Sys2Proof.Machine.execMailboxSend e dest s
  | .mailboxPop e => Sys2Proof.Machine.execMailboxPop e s
  | .engineRelease who e => Sys2Proof.Machine.execEngineRelease who e s
  | .engineStop who e => Sys2Proof.Machine.execEngineStop who e s
  | .engineWdogExpiry e => Sys2Proof.Machine.execEngineWdogExpiry e s
  | .debugHalt who e => Sys2Proof.Machine.execDebugHalt who e s
  | .debugResume who e => Sys2Proof.Machine.execDebugResume who e s
  | .debugStep who e => Sys2Proof.Machine.execDebugStep who e s
  | .breakpointMatch e => Sys2Proof.Machine.execBreakpointMatch e s
  | .dbgRd1 addr n => Sys2Proof.Machine.execDbgRd1 addr n s
  | .dbgWr1 addr words => Sys2Proof.Machine.execDbgWr1 addr words s
  | .dbgRdstat => Sys2Proof.Machine.execDbgRdstat s
  | .collectPost e code resp value => Sys2Proof.Machine.execCollectPost e code resp value s
  | .collectPop who => Sys2Proof.Machine.execCollectPop who s
  | .collectResponse who target => Sys2Proof.Machine.execCollectResponse who target s
  | .collectRespRead e => Sys2Proof.Machine.execCollectRespRead e s
  | .e10LampSet => Sys2Proof.Machine.execE10LampSet s
  | .e10LampGet => Sys2Proof.Machine.execE10LampGet s
  | .lampGetTimeout => Sys2Proof.Machine.execLampGetTimeout s
  | .quartzEventDelivery refired => Sys2Proof.Machine.execQuartzEventDelivery refired s
  | .swevSignal e => Sys2Proof.Machine.execSwevSignal e s
  | .hostSignal who => Sys2Proof.Machine.execHostSignal who s
  | .eventPendClear e pend ovr => Sys2Proof.Machine.execEventPendClear e pend ovr s
  | .selectorWrite who n value => Sys2Proof.Machine.execSelectorWrite who n value s
  | .tapWrite who k value => Sys2Proof.Machine.execTapWrite who k value s
  | .timerGo who => Sys2Proof.Machine.execTimerGo who s
  | .timerReset who timers => Sys2Proof.Machine.execTimerReset who timers s
  | .timCmpWrite who idx j value => Sys2Proof.Machine.execTimCmpWrite who idx j value s
  | .timCfgWrite who idx value => Sys2Proof.Machine.execTimCfgWrite who idx value s
  | .compareMatch idx count => Sys2Proof.Machine.execCompareMatch idx count s
  | .capRead who idx => Sys2Proof.Machine.execCapRead who idx s
  | .rtcSecond sameEdge => Sys2Proof.Machine.execRtcSecond sameEdge s
  | .rtcCntRead who edges => Sys2Proof.Machine.execRtcCntRead who edges s
  | .rtcCommitCount who edges => Sys2Proof.Machine.execRtcCommitCount who edges s
  | .rtcCommitCalendar who edges => Sys2Proof.Machine.execRtcCommitCalendar who edges s
  | .rtcCommitLand sameEdge stop => Sys2Proof.Machine.execRtcCommitLand sameEdge stop s
  | .rtcShift who ticks edges => Sys2Proof.Machine.execRtcShift who ticks edges s
  | .rtcShiftDone => Sys2Proof.Machine.execRtcShiftDone s
  | .alarmCtlWrite who n value => Sys2Proof.Machine.execAlarmCtlWrite who n value s
  | .chargerDone => Sys2Proof.Machine.execChargerDone s
  | .chargerRestart => Sys2Proof.Machine.execChargerRestart s
  | .chgWrite who value => Sys2Proof.Machine.execChgWrite who value s
  | .dmaRunSet who c => Sys2Proof.Machine.execDmaRunSet who c s
  | .dmaRunClear who c => Sys2Proof.Machine.execDmaRunClear who c s
  | .dmaPoke who c => Sys2Proof.Machine.execDmaPoke who c s
  | .dmaTrigger c => Sys2Proof.Machine.execDmaTrigger c s
  | .dmaDescriptorComplete c => Sys2Proof.Machine.execDmaDescriptorComplete c s
  | .dmaBusError addr parity progress => Sys2Proof.Machine.execDmaBusError addr parity progress s
  | .dmaClear who => Sys2Proof.Machine.execDmaClear who s
  | .flashRead e8 call => Sys2Proof.Machine.execFlashRead e8 call s
  | .flashProgram e8 call r => Sys2Proof.Machine.execFlashProgram e8 call r s
  | .flashEraseS e8 call r => Sys2Proof.Machine.execFlashEraseS e8 call r s
  | .flashEraseB e8 call r => Sys2Proof.Machine.execFlashEraseB e8 call r s
  | .flashPoll e8 call => Sys2Proof.Machine.execFlashPoll e8 call s
  | .flashSuspend e8 call early => Sys2Proof.Machine.execFlashSuspend e8 call early s
  | .flashResume e8 call => Sys2Proof.Machine.execFlashResume e8 call s
  | .flashSwap e8 call => Sys2Proof.Machine.execFlashSwap e8 call s
  | .flashJopen e8 call => Sys2Proof.Machine.execFlashJopen e8 call s
  | .flashJclose e8 call => Sys2Proof.Machine.execFlashJclose e8 call s
  | .flashEraseComplete r => Sys2Proof.Machine.execFlashEraseComplete r s
  | .storeRead who => Sys2Proof.Machine.execStoreRead who s
  | .storeProgram who => Sys2Proof.Machine.execStoreProgram who s
  | .storeErase who block => Sys2Proof.Machine.execStoreErase who block s
  | .storeCommandComplete p e => Sys2Proof.Machine.execStoreCommandComplete p e s
  | .mboxStoreRead e11 tag off len buf => Sys2Proof.Machine.execMboxStoreRead e11 tag off len buf s
  | .mboxStoreProgram e11 tag off len buf => Sys2Proof.Machine.execMboxStoreProgram e11 tag off len buf s
  | .mboxStoreErase e11 tag off len block => Sys2Proof.Machine.execMboxStoreErase e11 tag off len block s
  | .mboxAesBlock e11 tag slot decrypt input output => Sys2Proof.Machine.execMboxAesBlock e11 tag slot decrypt input output s
  | .mboxHash e11 tag buf len digest => Sys2Proof.Machine.execMboxHash e11 tag buf len digest s
  | .mboxVerify e11 tag param => Sys2Proof.Machine.execMboxVerify e11 tag param s
  | .mboxExtend7 e11 tag addr => Sys2Proof.Machine.execMboxExtend7 e11 tag addr s
  | .drbgReseed => Sys2Proof.Machine.execDrbgReseed s
  | .healthTestFail => Sys2Proof.Machine.execHealthTestFail s
  | .cipherKeyLoad who => Sys2Proof.Machine.execCipherKeyLoad who s
  | .cipherKeyErase who => Sys2Proof.Machine.execCipherKeyErase who s
  | .cipherGo who decrypt slot => Sys2Proof.Machine.execCipherGo who decrypt slot s
  | .aesComplete => Sys2Proof.Machine.execAesComplete s
  | .hashInit who => Sys2Proof.Machine.execHashInit who s
  | .hashDataWrite who word => Sys2Proof.Machine.execHashDataWrite who word s
  | .hashFinal who tail => Sys2Proof.Machine.execHashFinal who tail s
  | .hashFinalComplete => Sys2Proof.Machine.execHashFinalComplete s
  | .hashExtend7 who => Sys2Proof.Machine.execHashExtend7 who s
  | .pkeVerify who => Sys2Proof.Machine.execPkeVerify who s
  | .pkeSign who => Sys2Proof.Machine.execPkeSign who s
  | .pkeQuote who => Sys2Proof.Machine.execPkeQuote who s
  | .pkeCert who => Sys2Proof.Machine.execPkeCert who s
  | .pkeRandom who => Sys2Proof.Machine.execPkeRandom who s
  | .pkeChallenge who => Sys2Proof.Machine.execPkeChallenge who s
  | .pkeDebugOpen who => Sys2Proof.Machine.execPkeDebugOpen who s
  | .pkeCkeyProg who key => Sys2Proof.Machine.execPkeCkeyProg who key s
  | .pkeCkeyRevoke who key => Sys2Proof.Machine.execPkeCkeyRevoke who key s
  | .pkeComplete => Sys2Proof.Machine.execPkeComplete s
  | .attestRequest => Sys2Proof.Machine.execAttestRequest s
  | .debugAccessExpiry => Sys2Proof.Machine.execDebugAccessExpiry s
  | .updateOpen who => Sys2Proof.Machine.execUpdateOpen who s
  | .updateWrite who => Sys2Proof.Machine.execUpdateWrite who s
  | .updateWriteComplete p e => Sys2Proof.Machine.execUpdateWriteComplete p e s
  | .updateVerify who => Sys2Proof.Machine.execUpdateVerify who s
  | .updateVerifyComplete => Sys2Proof.Machine.execUpdateVerifyComplete s
  | .updateSchedule who => Sys2Proof.Machine.execUpdateSchedule who s
  | .updateCancel who => Sys2Proof.Machine.execUpdateCancel who s
  | .activationStart => Sys2Proof.Machine.execActivationStart s
  | .activationComplete copyFail => Sys2Proof.Machine.execActivationComplete copyFail s
  | .strataWrite who => Sys2Proof.Machine.execStrataWrite who s
  | .strataRead who => Sys2Proof.Machine.execStrataRead who s
  | .strataChallenge who => Sys2Proof.Machine.execStrataChallenge who s
  | .strataClear who => Sys2Proof.Machine.execStrataClear who s
  | .strataFlush who => Sys2Proof.Machine.execStrataFlush who s
  | .mboxStrataRecord e tag type blen addr => Sys2Proof.Machine.execMboxStrataRecord e tag type blen addr s
  | .mboxStrataRead e11 tag rseq rlen buf => Sys2Proof.Machine.execMboxStrataRead e11 tag rseq rlen buf s
  | .strataCloseTimeout => Sys2Proof.Machine.execStrataCloseTimeout s
  | .strataRestartWalk => Sys2Proof.Machine.execStrataRestartWalk s
  | .strataClearComplete results => Sys2Proof.Machine.execStrataClearComplete results s
  | .daliGo who len24 prio twice answer tag => Sys2Proof.Machine.execDaliGo who len24 prio twice answer tag s
  | .daliFrameStart => Sys2Proof.Machine.execDaliFrameStart s
  | .daliCollision => Sys2Proof.Machine.execDaliCollision s
  | .daliFrameSent => Sys2Proof.Machine.execDaliFrameSent s
  | .daliBackwardFrame data => Sys2Proof.Machine.execDaliBackwardFrame data s
  | .daliAnswerTimeout => Sys2Proof.Machine.execDaliAnswerTimeout s
  | .daliForeignFrame bits len => Sys2Proof.Machine.execDaliForeignFrame bits len s
  | .daliSystemFailure => Sys2Proof.Machine.execDaliSystemFailure s
  | .daliBusRecovery => Sys2Proof.Machine.execDaliBusRecovery s
  | .daliResultPop who => Sys2Proof.Machine.execDaliResultPop who s
  | .daliGearClear who k => Sys2Proof.Machine.execDaliGearClear who k s
  | .daliBuscfgWrite who value => Sys2Proof.Machine.execDaliBuscfgWrite who value s
  | .daliBusMeasureDone volts bus current => Sys2Proof.Machine.execDaliBusMeasureDone volts bus current s
  | .daliBusOverload bus current => Sys2Proof.Machine.execDaliBusOverload bus current s
  | .daliOverloadEnd bus current => Sys2Proof.Machine.execDaliOverloadEnd bus current s
  | .daliBusRemeasure => Sys2Proof.Machine.execDaliBusRemeasure s
  | .aoutVsetWrite who value reached => Sys2Proof.Machine.execAoutVsetWrite who value reached s
  | .aoutFadeEnd => Sys2Proof.Machine.execAoutFadeEnd s
  | .aoutOverload volts => Sys2Proof.Machine.execAoutOverload volts s
  | .aoutOverloadEnd => Sys2Proof.Machine.execAoutOverloadEnd s
  | .relaySet who => Sys2Proof.Machine.execRelaySet who s
  | .relayClr who => Sys2Proof.Machine.execRelayClr who s
  | .relayPulseStart predicted => Sys2Proof.Machine.execRelayPulseStart predicted s
  | .relayPulseEnd => Sys2Proof.Machine.execRelayPulseEnd s
  | .photocellSecond mean => Sys2Proof.Machine.execPhotocellSecond mean s
  | .meterWindowEnd q => Sys2Proof.Machine.execMeterWindowEnd q s
  | .meterNozxTimeout => Sys2Proof.Machine.execMeterNozxTimeout s
  | .meterSnapRead who => Sys2Proof.Machine.execMeterSnapRead who s
  | .energyLoRead who => Sys2Proof.Machine.execEnergyLoRead who s
  | .meterClrEnergy who key => Sys2Proof.Machine.execMeterClrEnergy who key s
  | .energyCheckpoint => Sys2Proof.Machine.execEnergyCheckpoint s
  | .dinFilteredChange n high recent => Sys2Proof.Machine.execDinFilteredChange n high recent s
  | .dinChatterQuiet n => Sys2Proof.Machine.execDinChatterQuiet n s
  | .dinStuck n => Sys2Proof.Machine.execDinStuck n s
  | .tagPowerUp => Sys2Proof.Machine.execTagPowerUp s
  | .tagFieldOn => Sys2Proof.Machine.execTagFieldOn s
  | .tagFieldOff => Sys2Proof.Machine.execTagFieldOff s
  | .tagInventory flags afi maskLen mask => Sys2Proof.Machine.execTagInventory flags afi maskLen mask s
  | .tagStayQuiet req => Sys2Proof.Machine.execTagStayQuiet req s
  | .tagReadSingle req block => Sys2Proof.Machine.execTagReadSingle req block s
  | .tagReadMultiple req first count => Sys2Proof.Machine.execTagReadMultiple req first count s
  | .tagWriteSingle req block data cut => Sys2Proof.Machine.execTagWriteSingle req block data cut s
  | .tagSelect req => Sys2Proof.Machine.execTagSelect req s
  | .tagResetToReady req => Sys2Proof.Machine.execTagResetToReady req s
  | .tagGetSystemInfo req => Sys2Proof.Machine.execTagGetSystemInfo req s
  | .tagExtReadSingle req block => Sys2Proof.Machine.execTagExtReadSingle req block s
  | .tagExtReadMultiple req first count => Sys2Proof.Machine.execTagExtReadMultiple req first count s
  | .tagExtWriteSingle req block data cut => Sys2Proof.Machine.execTagExtWriteSingle req block data cut s
  | .tagExtGetSystemInfo req => Sys2Proof.Machine.execTagExtGetSystemInfo req s
  | .tagAuthenticateMam1 req keyId => Sys2Proof.Machine.execTagAuthenticateMam1 req keyId s
  | .tagAuthenticateMam2 req ok cut => Sys2Proof.Machine.execTagAuthenticateMam2 req ok cut s
  | .tagPresentPwd req pwd cut => Sys2Proof.Machine.execTagPresentPwd req pwd cut s
  | .tagWritePwd req pwd cut => Sys2Proof.Machine.execTagWritePwd req pwd cut s
  | .tagUnsupportedCommand req => Sys2Proof.Machine.execTagUnsupportedCommand req s
  | .tagLockoutExpiry => Sys2Proof.Machine.execTagLockoutExpiry s
  | .tagOwnerRead who => Sys2Proof.Machine.execTagOwnerRead who s
  | .tagOwnerWrite who cut => Sys2Proof.Machine.execTagOwnerWrite who cut s
  | .tagLoadPwd who key => Sys2Proof.Machine.execTagLoadPwd who key s
  | .tagLoadKey who key => Sys2Proof.Machine.execTagLoadKey who key s
  | .tagClrFail who key => Sys2Proof.Machine.execTagClrFail who key s
  | .tagWrcntRead who => Sys2Proof.Machine.execTagWrcntRead who s
  | .readerFieldOn who ext => Sys2Proof.Machine.execReaderFieldOn who ext s
  | .readerFieldOff who => Sys2Proof.Machine.execReaderFieldOff who s
  | .readerXfer who ext => Sys2Proof.Machine.execReaderXfer who ext s
  | .readerInventory who ext => Sys2Proof.Machine.execReaderInventory who ext s
  | .readerAbort who => Sys2Proof.Machine.execReaderAbort who s
  | .readerGuardElapsed => Sys2Proof.Machine.execReaderGuardElapsed s
  | .readerExchangeEnd xfer => Sys2Proof.Machine.execReaderExchangeEnd xfer s
  | .readerResponseTimeout => Sys2Proof.Machine.execReaderResponseTimeout s
  | .readerIdleTimeout => Sys2Proof.Machine.execReaderIdleTimeout s
  | .csenseSample count => Sys2Proof.Machine.execCsenseSample count s
  | .csensePing change ext => Sys2Proof.Machine.execCsensePing change ext s
  | .csenseHoldExpiry => Sys2Proof.Machine.execCsenseHoldExpiry s
  | .nfcHoldExpiry => Sys2Proof.Machine.execNfcHoldExpiry s
  | .offlineSupplyUp => Sys2Proof.Machine.execOfflineSupplyUp s
  | .supplyHoldUpEnd => Sys2Proof.Machine.execSupplyHoldUpEnd s
  | .wakeCallEnd => Sys2Proof.Machine.execWakeCallEnd s
  | .wakeCallCheckFailure => Sys2Proof.Machine.execWakeCallCheckFailure s
  | .basaltFrameDiscard violation octets => Sys2Proof.Machine.execBasaltFrameDiscard violation octets s
  | .uartFrameDiscard bytes soon => Sys2Proof.Machine.execUartFrameDiscard bytes soon s
  | .compatUnknownCommand seq cmd soon payload => Sys2Proof.Machine.execCompatUnknownCommand seq cmd soon payload s
  | .spiUnknownCommand code => Sys2Proof.Machine.execSpiUnknownCommand code s
  | .tagRequestCrcFailure => Sys2Proof.Machine.execTagRequestCrcFailure s
  | .reservedOpcode e word ext => Sys2Proof.Machine.execReservedOpcode e word ext s
  | .msgRestoreComplete => Sys2Proof.Machine.execMsgRestoreComplete s
  | .keptRspExpiry peer msgid => Sys2Proof.Machine.execKeptRspExpiry peer msgid s
  | .lfMeasurementUpdate count => Sys2Proof.Machine.execLfMeasurementUpdate count s

end Sys2Proof.Machine
end

