-- ==== Sys2Proof/Safety.lean ====
section
/-!
DEFINITION. The terms in which the statements speak: legal states, an access that is let through, an engine that can execute its next
instruction, and a command that completes.
-/

namespace Sys2Proof

open Sys2Proof.Machine

/-! ### Legal states -/

/-- The canonical forms: the field table, shared SRAM and the NOR array list their cells in rising order and no default. -/
def Canonical (s : State) : Bool := s.regs.wf && s.mem.wf 0 && s.flash.cells.wf 0xFF

/-- Shared SRAM is in its canonical form: equal contents are equal data. -/
def MemOk (s : State) : Prop := s.mem.wf 0 = true

/-! ### Pieces of the state -/

/-- The pieces that State is made of, one for each of its fields. -/
inductive Piece where
  | regs | mode | modes | bridge | supply | ret | doms | spi
  | compat | engines | cluster | fabric | rtc | dma | flash | garnet
  | update | strata | mem | radio | plc | sched | mesh | assoc
  | msg | pair | keys | lastRead | lamp | nfc | freeCount | pending
  deriving DecidableEq, Repr

/-- That piece is the same in both states. -/
def Piece.same (p : Piece) (s t : State) : Prop :=
  match p with
  | .regs => t.regs = s.regs
  | .mode => t.mode = s.mode
  | .modes => t.modes = s.modes
  | .bridge => t.bridge = s.bridge
  | .supply => t.supply = s.supply
  | .ret => t.ret = s.ret
  | .doms => t.doms = s.doms
  | .spi => t.spi = s.spi
  | .compat => t.compat = s.compat
  | .engines => t.engines = s.engines
  | .cluster => t.cluster = s.cluster
  | .fabric => t.fabric = s.fabric
  | .rtc => t.rtc = s.rtc
  | .dma => t.dma = s.dma
  | .flash => t.flash = s.flash
  | .garnet => t.garnet = s.garnet
  | .update => t.update = s.update
  | .strata => t.strata = s.strata
  | .mem => t.mem = s.mem
  | .radio => t.radio = s.radio
  | .plc => t.plc = s.plc
  | .sched => t.sched = s.sched
  | .mesh => t.mesh = s.mesh
  | .assoc => t.assoc = s.assoc
  | .msg => t.msg = s.msg
  | .pair => t.pair = s.pair
  | .keys => t.keys = s.keys
  | .lastRead => t.lastRead = s.lastRead
  | .lamp => t.lamp = s.lamp
  | .nfc => t.nfc = s.nfc
  | .freeCount => t.freeCount = s.freeCount
  | .pending => t.pending = s.pending

/-- Nothing outside the pieces listed changes from `s` to `t`. -/
def Within (ps : List Piece) (s t : State) : Prop := ∀ p, p ∉ ps → p.same s t

/-! ### Completion -/

/-- The command ends in a next state, and that state has the property. -/
def Completes (c : Instr) (s : State) (P : State → Prop) : Prop := ∃ t, exec c s = .next t ∧ P t

/-- From `s` to `t` the counter `f` has gone up by one, saturating. -/
def Counted (s t : State) (f : Fld) : Prop := t.get f = min (s.get f + 1) (2 ^ f.width - 1)

/-! ### Accesses -/

/-- An access by `who` to page:offset that nothing refuses, to a block that is powered and awake, CORE too (R98-R101, R107, R136, R139). -/
def Reaches (s : State) (who p off : Nat) (wr : Bool) : Bool :=
  s.alive && s.domOn 0 && !(decide (s.mode = .boot) && Nat.beq who HOST && !Nat.beq p 0) && mapped p &&
    Nat.beq (s.rights who p off wr) 0 && !(mainsReg p off && (!s.bit R.PWR.SUPPLY_MAINS || s.bridge.silent)) &&
    (Nat.beq (regDomain p off) 0 || s.domOn (regDomain p off))

/-- A write that takes effect: it reaches its register, `who` does not merely serve the page, and the page is not CHECKING (R128, R136). -/
def Writes (s : State) (who p off : Nat) : Bool := Reaches s who p off true && !s.servesOnly who p off && !s.checking p off

/-- The page's function runs: a page marked A, or one that is ENABLED (R126). -/
def Live (s : State) (p : Nat) : Bool := alwaysOn p || Nat.beq (s.get (R.HDR.ST p)) 2

/-- A command written to page:offset by `who` that nothing refuses. -/
def Works (s : State) (who p off : Nat) : Bool := Writes s who p off && Live s p

/-- The SPI target answers: SPI is in use, the module runs and HOSTIF is ON (R107, R142). -/
def SpiUp (s : State) : Bool := !s.supply.compatSel && s.alive && s.domOn 25

/-- E9 serves the UART, in a module that is awake, and the frame is no repeat of the previous command within 1 s (R156). -/
def UartFresh (s : State) (seq : Byte) (cmd : Nat) (soon : Bool) : Bool :=
  s.e9Serves && s.domOn 0 && s.domOn 14 && s.domOn 25 &&
    (!soon || (match s.compat.last with | some l => !(Nat.beq l.seq seq.toNat && Nat.beq l.cmd cmd) | none => true))

/-- E9 has taken a command; its reply is still to come (R156). -/
def UartTaken (s : State) (seq : Byte) (cmd : Nat) : State :=
  { s with compat := { s.compat with last := some ⟨seq.toNat, cmd, none⟩ } }

/-! ### Frames on the air -/

/-- Chain `c` has received a whole good frame that is for this node, outside a wait for an acknowledgement (R199). -/
def HeardBy (s : State) (c : Chain) (f : AirFrame) : Bool :=
  Nat.beq (s.phy (chainMed c)) 4 && decide ((s.air (chainMed c)).det = .phr) && (s.air (chainMed c)).await.isNone &&
    !(s.air (chainMed c)).alarmRx && f.fcs && s.forUs f && !s.ownNet f && s.maySend && !decide (f.kind = .ack) &&
    (Nat.beq f.pan.toNat s.ownPan || !s.joined || decide (f.kind = .beacon))

/-- An attempt with its frame is armed on a medium that sends nothing else. -/
def SendReady (s : State) (m : Medium) (a : Attempt) (f : LinkFrame) : Bool :=
  decide ((s.air m).armed = .tx a) && decide (s.frame? a.frame = some f) && (s.air m).sending.isNone && !(s.air m).acking &&
    (s.air m).ackDue.isNone

/-! ### Messages for E5 -/

/-- A DELIVER of the mesh command `o` with code `code` stands at the head of E5's mailbox (R323, R342). -/
def MeshHead (s : State) (code : Nat) (o : Offer) : Bool :=
  (match s.engines.e5.mailbox with | m :: _ => Nat.beq m.src 6 && Nat.beq m.type 0x83 | [] => false) &&
    decide (s.msg.offers.find? (fun o => Nat.beq o.who 5 && !Nat.beq o.ends 0) = some o) && Nat.beq (o.body.getD 0 0).toNat code

/-! ### Engines -/

/-- Engine `k` executes its next instruction, of `n` words, with nothing wrong at its fetch (R383), and not for a debugger's step. -/
def Runs (s : State) (k n : Nat) : Bool :=
  s.executes k && decide ((s.eng k).run = .running) && !s.cluster.stepping.any (Nat.beq k) &&
    ((s.eng k).fetchFlaw k (s.eng k).pc.toNat n).isNone

/-- The instruction's condition holds: always in K-format, else by COND (R386, R397). -/
def Passes (s : State) (k : Nat) (cond : BitVec 3) : Bool := (s.eng k).kfmt || (s.eng k).flags.holds cond

/-- The instruction is skipped: an E-format instruction whose COND does not hold, by the table of R386. -/
def Skips (s : State) (k : Nat) (cond : BitVec 3) : Bool :=
  let f := (s.eng k).flags
  !(s.eng k).kfmt && (match cond.toNat with
    | 0 => false | 1 => !f.z | 2 => f.z | 3 => !f.c | 4 => f.c | 5 => !f.n | 6 => f.n | _ => !f.v)

/-- PC goes past an instruction of `n` words, and engine `k` changes by `f`; nothing else changes. -/
def Past (s : State) (k n : Nat) (f : Engine → Engine) : State :=
  s.setEng k (f { s.eng k with pc := (s.eng k).pc + BitVec.ofNat 16 (2 * n) })

/-- Words of an instruction with a byte operand, with a word operand, with an address, with a target (R389, R390). -/
def words8 : Src8 → Nat | .reg _ => 1 | .imm _ => 2
def words16 : Src16 → Nat | .reg _ => 1 | .imm _ => 2
def wordsEa : Ea → Nat | .disp _ _ => 2 | .abs _ => 2 | .spDisp _ => 2 | .ind _ => 1 | .inc _ => 1 | .dec _ => 1
def wordsTgt : Target → Nat | .imm _ => 2 | .ptr _ => 1

end Sys2Proof
end

