-- ==== Sys2Proof/Certificates/Slice0/Obligations.lean ====
section
/-!
DEFINITION. The statements for the provers. A clause about a command is one conjunct; `Completes c s P` says that the command ends in a
next state with `P`.
-/

open Sys2Proof Sys2Proof.Machine

/-- A frame with a bad CRC is discarded and its sender sends again; the first good frame after a silence ends it; 200 us of silence with mains present is a BRIDGE fault; bridge hold, the float of the output after 2 s, recovery, the restart of a silent bridge, a RESET frame, the completion of an access and the crossings change the state as their rules say. -/
def Obligations.BridgeAndZeroCrossing : Prop :=
  (∀ (crcOk : Bool) (s : State),
    s.bit R.PWR.SUPPLY_MAINS →
    exec (.bridgeFrameReceived true crcOk) s = .next { s with bridge := { s.bridge with resendToMains := !crcOk } }) ∧
  (∀ (s : State),
    s.bit R.PWR.SUPPLY_MAINS →
    exec (.bridgeFrameReceived false false) s = .next { s with bridge := { s.bridge with resendToSelv := true } }) ∧
  (∀ (s : State),
    s.bit R.PWR.SUPPLY_MAINS →
    s.bridge.silent →
    Completes (.bridgeFrameReceived false true) s (fun t => t.bridge.silent = false ∧
      t.bridge.hold = false ∧
      t.bridge.resendToSelv = false)) ∧
  (∀ (rest : List BusReq) (s : State),
    s.bridge.inflight = ⟨12, 0x6124, none⟩ :: rest →
    Reaches { s with bridge := { s.bridge with inflight := rest } } 12 0x61 0x24 false →
    Completes (.mainsPageAccessComplete) s (fun t => t.bridge.inflight = rest ∧
      t.bridge.result = s.word 12 0x61 0x24 ∧
      ((s.spi.held = some (0x6124, none) → t.spi.held = some (0x6124, some (s.word 12 0x61 0x24)))))) ∧
  (∀ (s : State),
    s.bit R.PWR.SUPPLY_MAINS →
    s.bridge.silent = false →
    s.bridge.inflight = [] →
    s.get R.FAULT.STATUS_ACTIVE = 0 →
    Completes (.bridgeSilenceTimeout) s (fun t => t.bridge.silent = true ∧
      t.get R.FAULT.STATUS_ACTIVE = 1 ∧
      t.get R.FAULT.P_INFO_CAUSE = 0x10 ∧
      t.get R.FAULT.P_INFO_SRC = 0xF)) ∧
  (∀ (s : State),
    s.bit R.PWR.SUPPLY_MAINS →
    s.bridge.hold = false →
    Completes (.mainsBridgeHold) s (fun t => t.bridge.hold = true ∧
      t.get R.PLCAFE.STAT_DRV_ON = 0)) ∧
  (∀ (s : State),
    s.bridge.hold →
    Completes (.aoutHoldTimeout) s (fun t => t.get R.AOUT.STAT_FLOAT = 1 ∧
      t.get R.AOUT.STAT_FADING = 0 ∧
      t.bridge = s.bridge)) ∧
  (∀ (s : State),
    s.bit R.PWR.SUPPLY_MAINS →
    s.bridge.silent →
    s.bridge.resetDue = false →
    s.bridge.inReset = false →
    Completes (.bridgeRecovery) s (fun t => t.bridge.silent = false ∧
      t.bridge.hold = false ∧
      t.bridge.accum = 0)) ∧
  (∀ (s : State),
    s.bridge.silent →
    s.get R.FAULT.STATUS_ACTIVE = 0 →
    s.get R.FAULT.STATUS_SVALID = 0 →
    Completes (.bridgeRestart) s (fun t => t.get R.FAULT.STATUS_ACTIVE = 1 ∧
      t.get R.FAULT.P_INFO_CAUSE = 0x10)) ∧
  (∀ (s : State),
    s.bridge.silent = false →
    s.bridge.cfgDue →
    s.bridge.resetDue = false →
    s.bit R.PWR.SUPPLY_MAINS →
    Completes (.bridgeRestart) s (fun t => t.bridge.inReset = false ∧
      t.bridge.cfgDue = false ∧
      t.bridge.accum = 0)) ∧
  (∀ (s : State),
    s.bridge.resetDue →
    s.bridge.silent = false →
    Completes (.resetFrameReceived) s (fun t => t.bridge.inReset = true ∧
      t.bridge.resetDue = false ∧
      t.get R.AOUT.STAT_FLOAT = 1 ∧
      t.lamp.queue = [])) ∧
  (∀ (slotUs : Half) (period : BitVec 24) (err : Half) (s : State),
    s.zxOn →
    s.bridge.silent = false →
    10 * s.get R.PLCAFE.CFG_OUTLIER < err.toInt.natAbs →
    exec (.zeroCrossingTimestamp true slotUs period err) s = .next ((s.setAll [(R.PLCAFE.ZXLAST_SLOT_US, slotUs.toNat), (R.PLCAFE.ZXLAST_ASN, s.sched.asn), (R.PLCAFE.ZXPER_PERIOD, period.toNat)]).bump R.PLCAFE.ZXCNT_OUTLIER)) ∧
  (∀ (slotUs : Half) (period : BitVec 24) (err : Half) (s : State),
    s.zxOn →
    s.bridge.silent = false →
    err.toInt.natAbs ≤ 10 * s.get R.PLCAFE.CFG_OUTLIER →
    Completes (.zeroCrossingTimestamp true slotUs period err) s (fun t => t.get R.PLCAFE.ZXLAST_SLOT_US = slotUs.toNat ∧
      t.get R.PLCAFE.ZXPER_PERIOD = period.toNat ∧
      t.plc.missRun = 0)) ∧
  (∀ (s : State),
    s.zxOn →
    Completes (.zeroCrossingMiss) s (fun t => t.plc.missRun = s.plc.missRun + 1 ∧
      t.plc.inRun = 0 ∧
      t.plc.outRun = 0))

/-- Half-cycles that do not meet the Present or the Lost criterion change nothing; mains return in OUTAGE leads to SERVICE and in HOLD, FIELD or without power to BOOT; mains loss in SERVICE orders the last gasp and leads to OUTAGE where VBAK is usable, in COMMISSION, MAINTENANCE and BOOT with VBAK usable to HOLD; over-voltage stops the supply; brown-out shows in PWR.SUPPLY; a SUPPLY fault is recorded, shuts the supply down and resets the module, and the restart a second later delivers where mains is there; VBAK and V3_OUT events change their states as ch. 02 says. -/
def Obligations.SupplyAndMains : Prop :=
  (∀ (h1 h2 h3 : HalfCycle) (s : State),
    halfGood h1 ∧ halfGood h2 ∧ halfGood h3 →
    s.supply.shutdown = false →
    s.mode = .outage →
    s.get R.PWR.SUPPLY_MAINS = 0 →
    s.modes.lastGasp = false →
    Completes (.mainsPresent h1 h2 h3) s (fun t => t.mode = .service ∧
      t.get R.PWR.SUPPLY_MAINS = 1 ∧
      t.supply.up = true ∧
      t.supply.v3on = true)) ∧
  (∀ (h1 h2 h3 : HalfCycle) (s : State),
    halfGood h1 ∧ halfGood h2 ∧ halfGood h3 →
    s.supply.shutdown = false →
    (s.mode = .hold ∨ s.mode = .unpowered ∨ s.mode = .field) →
    s.get R.PWR.SUPPLY_MAINS = 0 →
    Completes (.mainsPresent h1 h2 h3) s (fun t => t.mode = .boot ∧
      t.supply.up = true)) ∧
  (∀ (h1 h2 h3 : HalfCycle) (s : State),
    ¬ (halfGood h1 ∧ halfGood h2 ∧ halfGood h3) →
    exec (.mainsPresent h1 h2 h3) s = .next s) ∧
  (∀ (half : HalfCycle) (lastRms : Half) (s : State),
    99 ≤ half.peak.toNat →
    exec (.mainsLost (some half) lastRms) s = .next s) ∧
  (∀ (half : Option HalfCycle) (lastRms : Half) (s : State),
    halfLost half →
    s.mode = .service →
    s.bit R.PWR.SUPPLY_MAINS →
    s.get R.PWR.SUPPLY_VBAK_OK = 0 →
    Completes (.mainsLost half lastRms) s (fun t => t.mode = .service ∧
      t.get R.PWR.SUPPLY_MAINS = 0 ∧
      t.modes.lastGasp = true ∧
      t.supply.up = false)) ∧
  (∀ (half : Option HalfCycle) (lastRms : Half) (s : State),
    halfLost half →
    s.mode = .service →
    s.bit R.PWR.SUPPLY_MAINS →
    s.bit R.PWR.SUPPLY_VBAK_OK →
    Completes (.mainsLost half lastRms) s (fun t => t.mode = .outage ∧
      t.get R.PWR.SUPPLY_MAINS = 0 ∧
      t.get R.SYS.MODE_CAUSE = 6 ∧
      t.get R.SYS.MODE_PREV = 4 ∧
      t.modes.lastGasp = true ∧
      t.supply.up = false)) ∧
  (∀ (half : Option HalfCycle) (lastRms : Half) (s : State),
    halfLost half →
    (s.mode = .commission ∨ s.mode = .maintenance ∨ s.mode = .boot) →
    s.bit R.PWR.SUPPLY_MAINS →
    s.bit R.PWR.SUPPLY_VBAK_OK →
    Completes (.mainsLost half lastRms) s (fun t => t.mode = .hold ∧
      t.get R.SYS.MODE_CAUSE = 6)) ∧
  (∀ (rms lastRms : Half) (s : State),
    320 < rms.toNat →
    s.get R.PWR.SUPPLY_MAINS = 0 →
    Completes (.overvoltage rms lastRms) s (fun t => t.supply.up = false ∧
      t.get R.PWR.SUPPLY_OVERVOLT = 1)) ∧
  (∀ (rms : Half) (s : State),
    s.bit R.PWR.SUPPLY_MAINS →
    s.get R.PWR.SUPPLY_BROWNOUT = 0 →
    70 ≤ rms.toNat ∧ rms.toNat < 85 →
    Completes (.brownoutStart rms) s (fun t => t.get R.PWR.SUPPLY_BROWNOUT = 1 ∧
      (s.lamp.pend.isSome → t.get R.AOUT.RLYSTAT_DEFER = 1))) ∧
  (∀ (rms : Half) (s : State),
    s.bit R.PWR.SUPPLY_BROWNOUT →
    85 ≤ rms.toNat →
    Completes (.brownoutEnd rms) s (fun t => t.get R.PWR.SUPPLY_BROWNOUT = 0 ∧
      t.mode = s.mode)) ∧
  (∀ (s : State),
    s.supply.up →
    (s.mode = .service ∨ s.mode = .commission ∨ s.mode = .maintenance) →
    s.get R.FAULT.STATUS_ACTIVE = 0 →
    Completes (.supplyFault) s (fun t => t.mode = .boot ∧
      t.get R.SYS.RESET_CAUSE_SUPPLY = 1 ∧
      t.supply.up = false ∧
      t.supply.shutdown = true ∧
      t.supply.v3on = false ∧
      t.get R.FAULT.P_INFO_CAUSE = 0x11 ∧
      t.get R.FAULT.STATUS_ACTIVE = 1)) ∧
  (∀ (s : State),
    s.supply.shutdown →
    exec .supplyRestart s = .next { s with supply := { s.supply with up := s.bit R.PWR.SUPPLY_MAINS, shutdown := false, v3on := s.bit R.PWR.SUPPLY_MAINS } }) ∧
  (∀ (s : State),
    s.supply.up = false →
    s.supply.shutdown = false →
    s.supply.v3wait = false →
    exec .offlineSupplyUp s = .next { s with supply := { s.supply with up := true, v3on := true, v3lim := false } }) ∧
  (∀ (volts : Byte) (s : State),
    88 < volts.toNat →
    (s.mode = .unpowered ∨ s.mode = .field) →
    Completes (.vbakUsable volts) s (fun t => t.mode = .hold ∧
      t.get R.PWR.SUPPLY_VBAK_OK = 1 ∧
      t.get R.PWR.SUPPLY_VBAK = volts.toNat ∧
      t.get R.SYS.RESET_CAUSE_POR = 1)) ∧
  (∀ (volts : Byte) (s : State),
    88 < volts.toNat →
    s.mode ≠ .unpowered ∧ s.mode ≠ .field →
    Completes (.vbakUsable volts) s (fun t => t.mode = s.mode ∧
      t.get R.PWR.SUPPLY_VBAK_OK = 1 ∧
      t.get R.PWR.SUPPLY_VBAK = volts.toNat)) ∧
  (∀ (volts : Byte) (s : State),
    volts.toNat < 80 →
    (s.mode = .hold ∨ (s.mode = .outage ∧ s.get R.PWR.SUPPLY_MAINS = 0)) →
    s.supply.fieldPresent = false →
    Completes (.vbakUnusable volts) s (fun t => t.mode = .unpowered ∧
      t.rtc = Rtc.reset)) ∧
  (∀ (s : State),
    s.supply.v3on →
    s.get R.FAULT.STATUS_ACTIVE = 0 →
    Completes (.v3outUndervoltage) s (fun t => t.supply.v3on = false ∧
      t.supply.v3wait = true ∧
      t.get R.FAULT.P_INFO_CAUSE = 0x12)) ∧
  (∀ (s : State),
    s.supply.v3wait →
    s.supply.up →
    exec .v3outRetry s = .next { s with supply := { s.supply with v3on := true, v3lim := false, v3wait := false } }) ∧
  (∀ (s : State),
    s.supply.v3wait →
    s.supply.up = false →
    s.mode = .outage →
    s.bit R.PWR.V3OUT_OUTAGE_EN →
    exec .v3outRetry s = .next { s with supply := { s.supply with v3on := true, v3lim := true, v3wait := false } }) ∧
  (∀ (s : State),
    s.get R.PWR.SUPPLY_MAINS = 0 →
    s.get R.PWR.SUPPLY_VBAK_OK = 0 →
    s.running →
    s.supply.fieldPresent = false →
    Completes (.supplyHoldUpEnd) s (fun t => t.mode = .unpowered ∧
      t.supply.up = false)) ∧
  (∀ (s : State),
    (s.mode = .service ∨ s.mode = .commission ∨ s.mode = .maintenance ∨ s.mode = .boot) →
    Completes (.rstnLow) s (fun t => t.mode = .boot ∧
      t.get R.SYS.RESET_CAUSE_PIN = 1 ∧
      t.supply.rstnLow = true)) ∧
  (∀ (s : State),
    s.mode = .unpowered →
    s.get R.NFCTAG.STAT_SESSION = 0 →
    Completes (.fieldPresent) s (fun t => t.mode = .field ∧
      t.supply.fieldPresent = true ∧
      t.get R.NFCTAG.STAT_SESSION = 1)) ∧
  (∀ (s : State),
    s.mode = .field →
    Completes (.fieldRemoved) s (fun t => t.mode = .unpowered ∧
      t.supply.fieldPresent = false ∧
      t.get R.NFCTAG.STAT_SESSION = 0))

/-- The release of reset starts E0 in BOOT with COMPAT_SEL sampled, the end of BOOT enters the mode that R81 chooses, a granted mode request enters its mode with cause 4, the work of MAINTENANCE ends in a reset, the outage limit and the wake limit of HOLD lead to HOLD, and a Mica match wakes the node. -/
def Obligations.ModesAndReset : Prop :=
  (∀ (compatSel : Bool) (s : State),
    s.mode = .boot →
    s.supply.shutdown = false →
    (s.eng 0).run = .reset →
    Completes (.bootResetRelease compatSel []) s (fun t => t.supply.compatSel = compatSel ∧
      t.supply.rstnLow = false ∧
      (t.eng 0).run = .running ∧
      t.strata.walking = true)) ∧
  (∀ (ms : Half) (s : State),
    s.mode = .boot →
    (s.eng 0).run ≠ .reset →
    s.flash.openCopy = none →
    s.modes.bootVerifyFail = false →
    s.ret.escLoop = false →
    Completes (.bootComplete ms) s (fun t => t.mode = (bif s.ret.identity.isSome then Mode.service else Mode.commission) ∧
      t.get R.SYS.BOOT_STAT_MS = min ms.toNat 255)) ∧
  (∀ (ms : Half) (s : State),
    s.mode = .boot →
    (s.eng 0).run ≠ .reset →
    (s.flash.openCopy.isSome ∨ s.modes.bootVerifyFail ∨ s.ret.escLoop) →
    Completes (.bootComplete ms) s (fun t => t.mode = .maintenance ∧
      t.ret.escLoop = false)) ∧
  (∀ (who : Requester) (s : State),
    Writes s who 0x00 0x24 →
    s.mode = .outage →
    s.get R.PWR.SUPPLY_MAINS = 0 →
    Completes (.modeReqHold who 0xA55A false) s (fun t => t.mode = .hold ∧
      t.get R.SYS.MODE_CAUSE = 4 ∧
      t.get R.SYS.MODE_PREV = 2)) ∧
  (∀ (who : Requester) (s : State),
    Writes s who 0x00 0x24 →
    s.mode = .service →
    Completes (.modeReqCommission who 0xA55A false) s (fun t => t.mode = .commission ∧
      t.get R.SYS.MODE_CAUSE = 4 ∧
      t.get R.SYS.MODE_PREV = 4)) ∧
  (∀ (who : Requester) (s : State),
    Writes s who 0x00 0x24 →
    s.mode = .commission →
    s.joined →
    Completes (.modeReqService who 0xA55A false) s (fun t => t.mode = .service ∧
      t.get R.SYS.MODE_CAUSE = 4 ∧
      t.ret.identity = some ⟨s.ownPan, s.ownShort⟩)) ∧
  (∀ (who : Requester) (s : State),
    Writes s who 0x00 0x24 →
    s.mode = .maintenance →
    Completes (.modeReqService who 0xA55A false) s (fun t => t.mode = .boot ∧
      t.get R.SYS.RESET_CAUSE_MAINT = 1)) ∧
  (∀ (who : Requester) (s : State),
    Writes s who 0x00 0x24 →
    (s.mode = .service ∨ s.mode = .commission) →
    Completes (.modeReqMaintenance who 0xA55A false) s (fun t => t.mode = .maintenance ∧
      t.get R.SYS.MODE_CAUSE = 4)) ∧
  (∀ (s : State),
    s.mode = .maintenance →
    s.session ≠ 5 →
    Completes (.maintenanceWorkComplete) s (fun t => t.mode = .boot ∧
      t.get R.SYS.RESET_CAUSE_MAINT = 1)) ∧
  (∀ (s : State),
    s.mode = .outage →
    s.modes.limitOn →
    s.get R.PWR.SUPPLY_MAINS = 0 →
    Completes (.outageLimitExpiry) s (fun t => t.mode = .hold ∧
      t.get R.SYS.MODE_CAUSE = 7)) ∧
  (∀ (s : State),
    s.mode = .outage →
    s.modes.micaWake →
    s.get R.PWR.SUPPLY_MAINS = 0 →
    Completes (.holdWakeExpiry) s (fun t => t.mode = .hold ∧
      t.get R.SYS.MODE_CAUSE = 7)) ∧
  (∀ (s : State),
    s.modes.lastGasp →
    s.sched.gasp = none →
    Completes (.lastGaspComplete) s (fun t => t.modes.lastGasp = false)) ∧
  (∀ (id : Word) (caller : Byte) (s : State),
    s.micaSwitch →
    s.bit R.MICA.STAT_LISTEN →
    s.micaIds id.toNat →
    s.mode ≠ .hold →
    Completes (.micaWakeMatch id caller) s (fun t => t.get R.MICA.LAST_ID = id.toNat ∧
      t.get R.MICA.STAT_LISTEN = 0 ∧
      t.mode = s.mode)) ∧
  (∀ (id : Word) (caller : Byte) (s : State),
    s.micaSwitch →
    s.bit R.MICA.STAT_LISTEN →
    s.micaIds id.toNat →
    s.mode = .hold →
    s.ret.quartz.usable →
    s.ret.quartz.identity.isSome ∧ 104 ≤ s.get R.PWR.SUPPLY_VBAK ∧ s.get R.SYS.HOLD_WAKE_MIN ≠ 0 →
    Completes (.micaWakeMatch id caller) s (fun t => t.mode = .outage ∧
      t.get R.SYS.MODE_CAUSE = 8 ∧
      t.get R.SYS.MODE_PREV = 1))

/-- A commit writes retention RAM at once and one flash copy when it completes; a fault with the primary slot empty fills it, one of an engine other than E0 with only the primary slot filled fills the secondary; a handler that runs too long escalates, which empties both slots; OPSEC counts seconds; a stop of LF longer than its limit sets OSF. -/
def Obligations.RetainedSettingsAndFaults : Prop :=
  (∀ (who : Requester) (s : State),
    Writes s who 0x05 0x20 →
    s.get R.RET.STAT_BUSY = 0 →
    Completes (.retCommit who) s (fun t => t.get R.RET.STAT_BUSY = 1 ∧
      t.ret.quartz = s.snapshot (s.ret.newest + 1) ∧
      t.ret.writing = t.ret.quartz ∧
      t.ret.copyA = s.ret.copyA ∧
      t.ret.copyB = s.ret.copyB)) ∧
  (∀ (ok : Bool) (s : State),
    s.bit R.RET.STAT_BUSY →
    s.ret.again = false →
    Completes (.retCommitComplete ok) s (fun t => t.get R.RET.STAT_BUSY = 0 ∧
      t.get R.RET.STAT_FLASH_ERR = (bif ok then 0 else 1) ∧
      (ok → s.ret.toB → t.ret.copyB = s.ret.writing ∧ t.ret.copyA = s.ret.copyA) ∧
      (ok → s.ret.toB = false → t.ret.copyA = s.ret.writing ∧ t.ret.copyB = s.ret.copyB))) ∧
  (∀ (s : State),
    s.running →
    Completes (.opsecSecond) s (fun t => t.get R.SYS.OPSEC_SEC = (s.get R.SYS.OPSEC_SEC + 1) % 2 ^ 32)) ∧
  (∀ (cause : Byte) (src : BitVec 4) (detail : Half) (addr : Word) (s : State),
    s.alive →
    (src.toNat < 12 ∨ src.toNat = 15) →
    s.get R.FAULT.STATUS_ACTIVE = 0 →
    Completes (.faultCapture cause src detail addr) s (fun t => t.get R.FAULT.STATUS_ACTIVE = 1 ∧
      t.get R.FAULT.P_INFO_CAUSE = cause.toNat ∧
      t.get R.FAULT.P_INFO_SRC = src.toNat ∧
      t.get R.FAULT.P_INFO_DETAIL = detail.toNat ∧
      t.get R.FAULT.P_ADDR_ADDR = addr.toNat ∧
      t.get R.FAULT.P_TIME_SEC = s.get R.SYS.OPSEC_SEC % 2 ^ 32)) ∧
  (∀ (cause : Byte) (src : BitVec 4) (detail : Half) (addr : Word) (s : State),
    s.alive →
    ((src.toNat ≠ 0 ∧ src.toNat < 12) ∨ src.toNat = 15) →
    s.bit R.FAULT.STATUS_ACTIVE →
    s.get R.FAULT.STATUS_SVALID = 0 →
    Completes (.faultCapture cause src detail addr) s (fun t => t.get R.FAULT.STATUS_SVALID = 1 ∧
      t.get R.FAULT.STATUS_NEST = 1 ∧
      t.get R.FAULT.S_INFO_CAUSE = cause.toNat ∧
      t.get R.FAULT.S_INFO_SRC = src.toNat ∧
      t.get R.FAULT.S_INFO_DETAIL = detail.toNat ∧
      t.get R.FAULT.S_ADDR_ADDR = addr.toNat ∧
      t.get R.FAULT.P_INFO_CAUSE = s.get R.FAULT.P_INFO_CAUSE)) ∧
  (∀ (s : State),
    s.bit R.FAULT.STATUS_ACTIVE →
    Completes (.faultHandlerTimeout) s (fun t => t.get R.FAULT.STATUS_ACTIVE = 0 ∧
      t.get R.FAULT.STATUS_SVALID = 0)) ∧
  (∀ (s : State),
    s.alive →
    (s.mode = .service ∨ s.mode = .commission ∨ s.mode = .maintenance ∨ s.mode = .boot) →
    s.bit R.CLK.STAT_XO_ON →
    s.get R.FAULT.STATUS_ACTIVE = 0 →
    Completes (.xoFail) s (fun t => t.mode = .boot ∧
      t.get R.SYS.RESET_CAUSE_XO_FAIL = 1)) ∧
  (∀ (long : Bool) (s : State),
    s.mode ≠ .unpowered ∧ s.mode ≠ .field →
    Completes (.lfStop long) s (fun t => t.rtc.stopped = true ∧
      (long → t.get R.RTC.STAT_OSF = 1) ∧
      (long = false → t.get R.RTC.STAT_GLITCH = 1))) ∧
  (∀ (s : State),
    s.rtc.stopped →
    Completes (.lfReturn) s (fun t => t.rtc.stopped = false ∧
      t.get R.CLK.STAT_LF_OK = 1 ∧
      t.doms.lfHold = false))

/-- DOMCMD begins the entry of an ON domain to OFF or RETENTION, takes a domain in RETENTION to OFF at once, brings one ON, and sets its NOWAKE bit; an idle domain completes the entry commanded, an idle AUTO domain enters RETENTION, an abandoned entry is counted with its abort point; a wake makes a domain of RETENTION wake and then be ON; HOSTREQ, HOST_WAKE, the sample sequences, the clock requests, LF measurement and STITCH act as ch. 04 says. -/
def Obligations.DomainsAndClocks : Prop :=
  (∀ (idx : BitVec 5) (nowake : Bool) (s : State),
    Writes s 0 0x02 0x28 →
    (idx.toNat ≤ 26 ∧ (idx.toNat ≠ 21 ∨ s.bit R.PWR.SUPPLY_MAINS = false)) →
    (5 ≤ idx.toNat ∧ idx.toNat ≤ 16 → (s.eng (idx.toNat - 5)).mailbox = []) →
    s.dom idx.toNat = 2 →
    Completes (.domcmdOff 0 idx nowake) s (fun t => t.dom idx.toNat = 3 ∧
      t.doms.entering.find? (fun e => Nat.beq e.1 idx.toNat) = some (idx.toNat, 0) ∧
      t.doms.auto.any (Nat.beq idx.toNat) = false ∧
      (t.get R.PWR.NOWAKE_MAP).testBit idx.toNat = nowake)) ∧
  (∀ (idx : BitVec 5) (nowake : Bool) (s : State),
    Writes s 0 0x02 0x28 →
    (idx.toNat ≤ 26 ∧ (idx.toNat ≠ 21 ∨ s.bit R.PWR.SUPPLY_MAINS = false)) →
    (5 ≤ idx.toNat ∧ idx.toNat ≤ 16 → (s.eng (idx.toNat - 5)).mailbox = []) →
    s.dom idx.toNat = 1 →
    Completes (.domcmdOff 0 idx nowake) s (fun t => t.dom idx.toNat = 0 ∧
      (t.get R.PWR.NOWAKE_MAP).testBit idx.toNat = nowake)) ∧
  (∀ (idx : BitVec 5) (nowake : Bool) (s : State),
    Writes s 0 0x02 0x28 →
    idx.toNat ≤ 26 →
    s.dom idx.toNat = 2 →
    Completes (.domcmdRetention 0 idx nowake) s (fun t => t.dom idx.toNat = 3 ∧
      t.doms.entering.find? (fun e => Nat.beq e.1 idx.toNat) = some (idx.toNat, 1) ∧
      t.doms.auto.any (Nat.beq idx.toNat) = false ∧
      (t.get R.PWR.NOWAKE_MAP).testBit idx.toNat = nowake)) ∧
  (∀ (idx : BitVec 5) (nowake : Bool) (s : State),
    Writes s 0 0x02 0x28 →
    (idx.toNat < 5 ∨ (16 < idx.toNat ∧ idx.toNat ≤ 26)) →
    s.powered idx.toNat →
    Completes (.domcmdOn 0 idx nowake) s (fun t => t.dom idx.toNat = 2 ∧
      t.doms.auto.any (Nat.beq idx.toNat) = false)) ∧
  (∀ (idx : BitVec 5) (nowake : Bool) (s : State),
    Writes s 0 0x02 0x28 →
    (idx.toNat < 5 ∨ (16 < idx.toNat ∧ idx.toNat ≤ 26)) →
    s.powered idx.toNat →
    Completes (.domcmdAuto 0 idx nowake) s (fun t => t.dom idx.toNat = 2 ∧
      t.doms.auto.any (Nat.beq idx.toNat) = true)) ∧
  (∀ (idx : BitVec 5) (s : State),
    idx.toNat ≤ 26 →
    s.dom idx.toNat = 2 →
    s.doms.lfHold = false →
    s.idle idx.toNat →
    s.doms.auto.any (Nat.beq idx.toNat) →
    s.doms.entering = [] →
    Completes (.domainIdleEntry idx none false) s (fun t => t.dom idx.toNat = 1)) ∧
  (∀ (idx : BitVec 5) (to_ : Nat) (s : State),
    idx.toNat ≤ 26 →
    s.doms.entering = [(idx.toNat, to_)] →
    s.dom idx.toNat = 3 →
    s.doms.lfHold = false →
    s.idle idx.toNat →
    to_ ≤ 1 →
    Completes (.domainIdleEntry idx none false) s (fun t => t.dom idx.toNat = to_ ∧
      t.doms.entering = [])) ∧
  (∀ (idx : BitVec 5) (p : Fin 5) (hostWake : Bool) (s : State),
    idx.toNat ≤ 26 →
    s.dom idx.toNat = 2 →
    s.doms.lfHold = false →
    s.idle idx.toNat →
    s.doms.auto.any (Nat.beq idx.toNat) →
    s.doms.entering = [] →
    Completes (.domainIdleEntry idx (some p) hostWake) s (fun t => t.dom idx.toNat = 2 ∧
      t.get R.PWR.ABORTS_LASTPT = p.val + 1 ∧
      t.get R.PWR.ABORTS_LASTIDX = idx.toNat)) ∧
  (∀ (idx : BitVec 5) (src : BitVec 4) (s : State),
    idx.toNat ≤ 26 →
    s.alive →
    s.dom idx.toNat = 1 →
    Completes (.domainWake idx src) s (fun t => t.dom idx.toNat = 3 ∧
      t.get R.PWR.WAKESRC_SRC = src.toNat ∧
      t.get R.PWR.WAKESRC_IDX = idx.toNat ∧
      t.get R.CLK.STAT_XO_ON = (bif s.bit R.CLK.STAT_XO_ON then s.get R.CLK.STAT_XO_ON else 1))) ∧
  (∀ (idx : BitVec 5) (s : State),
    idx.toNat ≤ 26 →
    s.dom idx.toNat = 3 →
    s.doms.entering = [] →
    s.bit R.CLK.STAT_PLL_LOCK →
    Completes (.domainWakeReady idx) s (fun t => t.dom idx.toNat = 2)) ∧
  (∀ (who : Requester) (s : State),
    Writes s who 0x02 0x30 →
    s.mode = .service →
    Completes (.pwrHostreqWrite who 1) s (fun t => t.get R.PWR.HOSTREQ_NFC = 1 ∧
      t.dom 22 = 2)) ∧
  (∀ (rested : Bool) (s : State),
    s.hostWakes →
    Completes (.hostWakeRise rested) s (fun t => t.supply.hostWakeHigh = true ∧
      t.doms.wakeArmed = false)) ∧
  (∀ (n : Fin 8) (samples : List Half) (s : State),
    s.mode ≠ .unpowered ∧ s.mode ≠ .field ∧ s.mode ≠ .hold →
    s.bit (R.PWR.ASQ_CFG_EN n) →
    s.get (R.PWR.ASQ_CFG_SRC n) ≠ 0 ∧ s.get (R.PWR.ASQ_CFG_SRC n) ≠ 2 →
    s.asqHit n ((samples.map BitVec.toNat).sum / max 1 samples.length) →
    Completes (.asqPeriod n samples) s (fun t => t.get R.PWR.ASQ_STAT_MATCH = (s.get R.PWR.ASQ_STAT_MATCH ||| 2 ^ n.val) % 256)) ∧
  (∀ (s : State),
    s.clockNeed = false →
    s.get R.CLK.HOSTREQ_PLL = 0 →
    s.doms.lfHold = false →
    s.bit R.CLK.STAT_XO_ON →
    Completes (.fastClockStop) s (fun t => t.get R.CLK.STAT_PLL_LOCK = 0 ∧
      t.get R.CLK.STAT_STITCHING = 1 ∧
      (s.get R.CLK.HOSTREQ_XO = 0 → t.get R.CLK.STAT_XO_ON = 0))) ∧
  (∀ (s : State),
    s.bit R.CLK.STAT_XO_ON →
    s.clockNeed →
    Completes (.fastClockReady) s (fun t => t.get R.CLK.STAT_XO_OK = 1 ∧
      t.get R.CLK.STAT_PLL_LOCK = 1 ∧
      t.get R.CLK.STAT_STITCHING = 0)) ∧
  (∀ (who : Requester) (value : Word) (s : State),
    Writes s who 0x03 0x24 →
    Completes (.clkHostreqWrite who value) s (fun t => t.get R.CLK.HOSTREQ_XO = value.toNat % 2 ∧
      t.get R.CLK.HOSTREQ_PLL = value.toNat / 2 % 2 ∧
      (value.toNat % 4 ≠ 0 → s.get R.CLK.STAT_XO_ON = 0 → t.get R.CLK.STAT_XO_ON = 1))) ∧
  (∀ (s : State),
    s.get R.CLK.LFMEAS_COUNT ≠ 0 →
    s.dom 9 ≠ 0 →
    Completes (.stitchUpdate) s (fun t => t.get R.CLK.STITCH_INC = 12 * s.get R.CLK.LFMEAS_COUNT / 5 % 2 ^ 32)) ∧
  (∀ (count : Word) (s : State),
    s.bit R.CLK.STAT_XO_ON →
    s.rtc.stopped = false →
    Completes (.lfMeasurementUpdate count) s (fun t => t.get R.CLK.LFMEAS_COUNT = count.toNat))

/-- Whatever the fault's cause and source: E0's DONE with a secondary fault held moves cause, source, detail, address and time to the primary slot, leaves SVALID and NEST 0, ACTIVE as it was and E0's input 0 pending; with none held ACTIVE and that input clear. RET.COMMIT written while a commit is in progress is refused with RET_BUSY: STAT.BUSY, the record being written and every other copy stay as they were, and nothing but the page's reason and error offset changes. -/
def Obligations.FaultDoneAndBusyCommit : Prop :=
  (∀ (s : State),
    Writes s 0 0x04 0x3C →
    s.bit R.FAULT.STATUS_ACTIVE →
    s.bit R.FAULT.STATUS_SVALID = false →
    Completes (.faultDone 0) s (fun t => t.bit R.FAULT.STATUS_ACTIVE = false ∧
      t.bit (R.EVT.SEL_PEND 0) = false)) ∧
  (∀ (s : State),
    Writes s 0 0x04 0x3C →
    s.bit R.FAULT.STATUS_ACTIVE →
    s.bit R.FAULT.STATUS_SVALID →
    Completes (.faultDone 0) s (fun t => t.bit R.FAULT.STATUS_ACTIVE ∧
      t.bit R.FAULT.STATUS_SVALID = false ∧
      t.get R.FAULT.STATUS_NEST = 0 ∧
      t.bit (R.EVT.SEL_PEND 0) ∧
      t.get R.FAULT.P_INFO_CAUSE = s.get R.FAULT.S_INFO_CAUSE % 2 ^ 8 ∧
      t.get R.FAULT.P_INFO_SRC = s.get R.FAULT.S_INFO_SRC % 2 ^ 4 ∧
      t.get R.FAULT.P_INFO_DETAIL = s.get R.FAULT.S_INFO_DETAIL % 2 ^ 16 ∧
      t.get R.FAULT.P_ADDR_ADDR = s.get R.FAULT.S_ADDR_ADDR % 2 ^ 32 ∧
      t.get R.FAULT.P_TIME_SEC = s.get R.FAULT.S_TIME_SEC % 2 ^ 32)) ∧
  (∀ (who : Requester) (s : State),
    Writes s who 0x05 0x20 →
    s.bit R.RET.STAT_BUSY →
    Completes (.retCommit who) s (fun t => t.get (R.HDR.REASON 0x05) = 0x40 ∧
      t.bit R.RET.STAT_BUSY ∧
      t.ret = s.ret ∧
      t = (s.set (R.HDR.REASON 0x05) 0x40).set (R.HDR.ERRINFO 0x05) 0x20))

/-- An enable of a DISABLED page starts its check and the check ends in ENABLED with REASON 0 when nothing fails; a disable of an ENABLED page begins its stop, which ends in DISABLED once no work is in flight; SOFTRST of a DISABLED page keeps IRQ_MASK; LOCK sets LOCK; an assignment names the new owner; a commit of a good profile declares it. -/
def Obligations.PagesAndProfile : Prop :=
  (∀ (who : Requester) (page : Byte) (s : State),
    Writes s who page.toNat 0x04 →
    alwaysOn page.toNat = false ∧ engPage page.toNat = false →
    s.get (R.HDR.ST page.toNat) = 0 →
    Completes (.pageEnable who page) s (fun t => t.get (R.HDR.ST page.toNat) = 1 ∧
      t.get (R.HDR.EN page.toNat) = (bif s.bit (R.HDR.LOCK page.toNat) then 0 else 1))) ∧
  (∀ (page : Byte) (s : State),
    s.get (R.HDR.ST page.toNat) = 1 →
    s.enableFails page.toNat = none →
    Completes (.pageCheckComplete page) s (fun t => t.get (R.HDR.ST page.toNat) = 2 ∧
      t.get (R.HDR.EN page.toNat) = 1 ∧
      t.get (R.HDR.REASON page.toNat) = 0)) ∧
  (∀ (page : Byte) (reason info : Nat) (s : State),
    s.get (R.HDR.ST page.toNat) = 1 →
    s.enableFails page.toNat = some (reason, info) →
    Completes (.pageCheckComplete page) s (fun t => t.get (R.HDR.ST page.toNat) = 0 ∧
      t.get (R.HDR.EN page.toNat) = 0 ∧
      t.get (R.HDR.REASON page.toNat) = reason % 256 ∧
      t.get (R.HDR.ERRINFO page.toNat) = info % 2 ^ 32)) ∧
  (∀ (who : Requester) (page : Byte) (s : State),
    Writes s who page.toNat 0x04 →
    alwaysOn page.toNat = false ∧ engPage page.toNat = false →
    s.get (R.HDR.ST page.toNat) = 2 →
    s.get (R.HDR.LOCK page.toNat) = 0 →
    Completes (.pageDisable who page) s (fun t => t.get (R.HDR.ST page.toNat) = 3 ∧
      t.get (R.HDR.EN page.toNat) = 0)) ∧
  (∀ (page : Byte) (s : State),
    s.get (R.HDR.ST page.toNat) = 3 →
    s.working page.toNat = false →
    Completes (.pageStopComplete page) s (fun t => t.get (R.HDR.ST page.toNat) = 0)) ∧
  (∀ (who : Requester) (page : Byte) (s : State),
    Writes s who page.toNat 0x04 →
    alwaysOn page.toNat = false →
    s.get (R.HDR.LOCK page.toNat) = 0 →
    s.get (R.HDR.ST page.toNat) = 0 →
    Completes (.pageSoftrst who page) s (fun t => t = (s.pageReset page.toNat).set (R.HDR.MASK page.toNat) (s.get (R.HDR.MASK page.toNat)))) ∧
  (∀ (who : Requester) (page : Byte) (s : State),
    Writes s who page.toNat 0x04 →
    exec (.pageLock who page) s = .next (s.set (R.HDR.LOCK page.toNat) 1)) ∧
  (∀ (who : Requester) (value : Word) (s : State),
    Writes s who 0x01 0x34 →
    assignable (R.HOSTIF.ASSIGN_PAGE.of value.toNat) →
    10 ≤ R.HOSTIF.ASSIGN_OWNER.of value.toNat ∧ R.HOSTIF.ASSIGN_OWNER.of value.toNat ≤ 12 →
    s.get (R.HDR.ST (R.HOSTIF.ASSIGN_PAGE.of value.toNat)) = 0 →
    ((s.eng (R.HOSTIF.ASSIGN_OWNER.of value.toNat)).image ∨ R.HOSTIF.ASSIGN_OWNER.of value.toNat = 12) →
    Completes (.ownerAssign who value) s (fun t => t.get (R.HDR.OWNER (R.HOSTIF.ASSIGN_PAGE.of value.toNat)) = R.HOSTIF.ASSIGN_OWNER.of value.toNat ∧
      (R.HOSTIF.ASSIGN_PAGE.of value.toNat, R.HOSTIF.ASSIGN_OWNER.of value.toNat) ∈ t.ret.assign)) ∧
  (∀ (who : Requester) (s : State),
    Writes s who 0x01 0xC0 →
    s.stagedProfile.bad = none →
    s.depends s.stagedProfile = none →
    Completes (.siteCommit who) s (fun t => t.ret.profile = { s.stagedProfile with facts := s.stagedProfile.declares } ∧
      t.get R.HOSTIF.S_VALID_FACTS = s.stagedProfile.declares % 256 ∧
      t.get R.SCHED.STAT_PHASE_MM = 0)) ∧
  (∀ (who : Requester) (page : Byte) (value : Word) (s : State),
    Writes s who page.toNat 0x10 →
    winPage page.toNat = false →
    hasReg page.toNat 0x10 →
    exec (.registerWrite who page 0x10 value) s = .next (s.set (R.HDR.MASK page.toNat) value.toNat)) ∧
  (∀ (off : Byte) (value : Word) (s : State),
    s.alive ∧ s.mode ≠ .boot ∧ s.domOn 25 ∧ s.domOn 4 →
    inBank3 (256 * s.get (R.HOSTIF.WIN_BASE 0) + off.toNat / 4 * 4) 4 →
    exec (.registerWrite 12 0x70 off value) s = .next (s.sramStore (256 * s.get (R.HOSTIF.WIN_BASE 0) + off.toNat / 4 * 4) (leBytes 4 value.toNat)))

/-- With HOSTIF ON and SPI in use, a write posts its words in order where the FIFO has room, and a drain carries out the oldest; a read of one word that is answered in time returns the register's word with STATUS first, a read that is late is a RETRY and stays under way until it completes and is held; RDSTAT sends STATUS; ENQPI and EXQPI switch QPI; RSTIF directly after RSTEN empties the write FIFO and discards the held read. -/
def Obligations.SpiTransactions : Prop :=
  (∀ (addr : Half) (w : Word) (s : State),
    SpiUp s →
    s.spi.wfifo.length < 64 →
    Completes (.spiWr1 addr [w]) s (fun t => t.spi.wfifo = s.spi.wfifo ++ [⟨addr.toNat / 4 * 4, w.toNat, []⟩] ∧
      t.regs = s.regs ∧
      t.mem = s.mem)) ∧
  (∀ (addr : Half) (w : Word) (s : State),
    SpiUp s →
    s.spi.wfifo.length < 64 →
    Completes (.spiWrq addr [w]) s (fun t => t.spi.wfifo = s.spi.wfifo ++ [⟨addr.toNat / 4 * 4, w.toNat, []⟩] ∧
      t.regs = s.regs ∧
      t.mem = s.mem)) ∧
  (∀ (p : Posted) (rest : List Posted) (s : State),
    s.alive ∧ s.domOn 25 →
    s.spi.wfifo = p :: rest →
    p.pass = [] →
    exec .postedWriteDrain s = .next (({ s with spi := { s.spi with wfifo := rest } } : State).regWrite 12 (p.addr / 256) (p.addr % 256) p.word)) ∧
  (∀ (s : State),
    SpiUp s →
    s.spi.wfifo = [] →
    s.spi.held = none →
    Reaches s 12 0x00 0x00 false →
    Completes (.spiRd1 0x0000 1 .inTime) s (fun t => t.spi.data = [s.headerWord 0 0] ∧
      t.spi.status = s.statusByte false ∧
      t.regs = s.regs)) ∧
  (∀ (s : State),
    SpiUp s →
    s.spi.wfifo = [] →
    s.spi.held = none →
    Reaches s 12 0x00 0x00 false →
    Completes (.spiRdq 0x0000 1 .inTime) s (fun t => t.spi.data = [s.headerWord 0 0] ∧
      t.spi.status = s.statusByte false ∧
      t.regs = s.regs)) ∧
  (∀ (s : State),
    SpiUp s →
    s.spi.wfifo = [] →
    s.spi.held = none →
    Completes (.spiRd1 0x0000 1 (.late 0)) s (fun t => t.spi.data = [0] ∧
      t.spi.status = s.statusByte true ∧
      t.spi.held = some (0, none) ∧
      t.regs = s.regs)) ∧
  (∀ (s : State),
    SpiUp s →
    s.spi.wfifo = [] →
    s.spi.held = none →
    Completes (.spiRdq 0x0000 1 (.late 0)) s (fun t => t.spi.data = [0] ∧
      t.spi.status = s.statusByte true ∧
      t.spi.held = some (0, none) ∧
      t.regs = s.regs)) ∧
  (∀ (s : State),
    s.spi.held = some (0, none) →
    Reaches s 12 0x00 0x00 false →
    Completes (.heldReadComplete) s (fun t => t.spi.held = some (0, some (s.headerWord 0 0)) ∧
      t.regs = s.regs)) ∧
  (∀ (s : State),
    SpiUp s →
    Completes (.spiRdstat) s (fun t => t.spi.status = s.statusByte false ∧
      t.regs = s.regs)) ∧
  (∀ (s : State),
    SpiUp s →
    Completes (.spiEnqpi) s (fun t => t.get R.HOSTIF.CFG_QPI = 1 ∧
      t.spi.wfifo = s.spi.wfifo)) ∧
  (∀ (s : State),
    SpiUp s →
    Completes (.spiExqpi) s (fun t => t.get R.HOSTIF.CFG_QPI = 0 ∧
      t.spi.wfifo = s.spi.wfifo)) ∧
  (∀ (s : State),
    SpiUp s →
    Completes (.spiRsten) s (fun t => t.spi.rstEn = true ∧
      t.spi.wfifo = s.spi.wfifo ∧
      t.regs = s.regs)) ∧
  (∀ (s : State),
    SpiUp s →
    s.spi.rstEn →
    Completes (.spiRstif) s (fun t => t.spi.wfifo = [] ∧
      t.spi.held = none ∧
      t.get R.HOSTIF.CFG_QPI = 0 ∧
      t.spi.rstEn = false)) ∧
  (∀ (code : Byte) (s : State),
    SpiUp s →
    code ∉ ([0x03, 0x02, 0xEB, 0x32, 0x05, 0x38, 0x66, 0x99] : List Byte) →
    (code ≠ 0xF5 ∨ s.get R.HOSTIF.CFG_QPI = 0) →
    Completes (.spiUnknownCommand code) s (fun t => t.spi.rstEn = false ∧
      t.spi.wfifo = s.spi.wfifo ∧
      t.spi.held = s.spi.held ∧
      t.regs = s.regs))

/-- For a frame that is no repeat, each command of R158 with a good payload is answered OK (code 0) with its data and has its effect: PING echoes, GET_INFO gives part code, version and address, RESET resets the module after the reply, SET_REGION, SET_ROLE, JOIN and REG_WRITE make their register writes in order, LAMP_SET passes the level to E10, LAMP_GET asks E10 and waits, METER_GET and TIME_GET report, TIME_SET commits the count, FW_BLOCK gathers a chunk, REG_READ reads, ACK drops the head of the queue, SET_BAUD changes the rate; an unknown command is BAD_CMD (code 1); bytes that spell no frame are discarded, and the bytes of a PING frame are answered with those of its reply; an indication is sent again. Reply layouts that R158 leaves open are the model's own. -/
def Obligations.UartCommands : Prop :=
  (∀ (seq : Byte) (soon : Bool) (payload : List Byte) (s : State),
    UartFresh s seq 0x01 soon →
    payload.length ≤ 247 →
    Completes (.compatPing seq soon payload) s (fun t => t.compat.reply = some ⟨seq.toNat, 0x81, 0 :: payload⟩ ∧
      t.regs = s.regs)) ∧
  (∀ (seq : Byte) (soon : Bool) (s : State),
    UartFresh s seq 0x02 soon →
    Completes (.compatGetInfo seq soon []) s (fun t => t.compat.reply = some ⟨seq.toNat, 0x82, [0, 0x00, 0x93, 0x14] ++ leBytes 8 s.ownExt ++ leBytes 4 (s.get R.UPDATE.RELEASE_VALUE)⟩)) ∧
  (∀ (seq : Byte) (soon : Bool) (s : State),
    UartFresh s seq 0x03 soon →
    (s.mode = .service ∨ s.mode = .commission ∨ s.mode = .maintenance) →
    Completes (.compatReset seq soon []) s (fun t => t.mode = .boot ∧
      t.get R.SYS.RESET_CAUSE_PIN = 1 ∧
      t.compat.reply = some ⟨seq.toNat, 0x83, [0]⟩)) ∧
  (∀ (seq a b : Byte) (soon : Bool) (s : State),
    UartFresh s seq 0x10 soon →
    s.mode ≠ .outage →
    ((UartTaken s seq 0x10).tryOps [hostWrite 0x01 0xA0 (a.toNat + 256 * b.toNat), hostWrite 0x01 0xC0 1]).2 = 0 →
    Completes (.compatSetRegion seq soon [a, b]) s (fun t => t = ((UartTaken s seq 0x10).tryOps [hostWrite 0x01 0xA0 (a.toNat + 256 * b.toNat), hostWrite 0x01 0xC0 1]).1.uartReply seq.toNat 0x10 [0])) ∧
  (∀ (seq role : Byte) (soon : Bool) (s : State),
    UartFresh s seq 0x11 soon →
    s.mode ≠ .outage →
    role.toNat ≤ 3 →
    ((UartTaken s seq 0x11).tryOps [hostWrite 0x01 0xB0 (role.toNat + R.HOSTIF.S_ROLE_PAIR_EN.place (s.get R.HOSTIF.S_ROLE_PAIR_EN)), hostWrite 0x01 0xB4 0, hostWrite 0x01 0xC0 1]).2 = 0 →
    Completes (.compatSetRole seq soon [role]) s (fun t => t = ((UartTaken s seq 0x11).tryOps [hostWrite 0x01 0xB0 (role.toNat + R.HOSTIF.S_ROLE_PAIR_EN.place (s.get R.HOSTIF.S_ROLE_PAIR_EN)), hostWrite 0x01 0xB4 0, hostWrite 0x01 0xC0 1]).1.uartReply seq.toNat 0x11 [0])) ∧
  (∀ (seq : Byte) (lat lon : Word) (soon : Bool) (s : State),
    UartFresh s seq 0x12 soon →
    s.mode = .service →
    ((UartTaken s seq 0x12).tryOps [hostWrite 0x01 0xA8 lat.toNat, hostWrite 0x01 0xAC lon.toNat, hostWrite 0x01 0xC0 1]).2 = 0 →
    Completes (.compatJoin seq soon (leBytes 4 lat.toNat ++ leBytes 4 lon.toNat)) s (fun t => t.compat.reply = some ⟨seq.toNat, 0x92, [0]⟩ ∧
      t.regs = ((UartTaken s seq 0x12).tryOps [hostWrite 0x01 0xA8 lat.toNat, hostWrite 0x01 0xAC lon.toNat, hostWrite 0x01 0xC0 1]).1.regs)) ∧
  (∀ (seq a b : Byte) (cls : Fin 4) (data : List Byte) (soon : Bool) (s : State),
    UartFresh s seq 0x20 soon →
    data.length ≤ 245 →
    s.hasMesh →
    s.enabled 0x48 →
    s.sendCheck ⟨a.toNat + 256 * b.toNat, cls, (s.compatMsg (a.toNat + 256 * b.toNat) cls data).kind, (s.compatMsg (a.toNat + 256 * b.toNat) cls data).ptype, 0, data.length, 0⟩ = 0 →
    Completes (.compatSend seq soon ([a, b, BitVec.ofNat 8 cls.val] ++ data)) s (fun t => t.compat.reply = some ⟨seq.toNat, 0xA0, 0 :: leBytes 4 (t.msgidOf s.msg.nextNum)⟩)) ∧
  (∀ (seq level : Byte) (soon : Bool) (s : State),
    UartFresh s seq 0x30 soon →
    s.bit R.PWR.SUPPLY_MAINS →
    level.toNat < 255 →
    (s.eng 10).image →
    (s.eng 10).mailbox.length < 8 →
    Completes (.compatLampSet seq soon [level]) s (fun t => t.compat.reply = some ⟨seq.toNat, 0xB0, [0]⟩ ∧
      (t.eng 10).mailbox = (s.eng 10).mailbox ++ [Mail.mk4 9 0x90 0 level.toNat 0 0 0])) ∧
  (∀ (seq : Byte) (soon : Bool) (s : State),
    UartFresh s seq 0x31 soon →
    s.bit R.PWR.SUPPLY_MAINS →
    (s.eng 10).image →
    (s.eng 10).mailbox.length < 8 →
    Completes (.compatLampGet seq soon []) s (fun t => t.compat.lampWait = some seq.toNat ∧
      (t.eng 10).mailbox = (s.eng 10).mailbox ++ [Mail.mk4 9 0x91 0 0 0 0 0])) ∧
  (∀ (seq : Byte) (soon : Bool) (s : State),
    UartFresh s seq 0x32 soon →
    s.bit R.PWR.SUPPLY_MAINS →
    Reaches s 12 0x62 0x28 false →
    Completes (.compatMeterGet seq soon []) s (fun t => t.compat.reply = some ⟨seq.toNat, 0xB2, 0 :: (leBytes 8 s.energy ++ leBytes 4 (s.word 12 0x62 0x28) ++ leBytes 4 (s.word 12 0x62 0x2C) ++ leBytes 4 (s.word 12 0x62 0x30))⟩)) ∧
  (∀ (seq : Byte) (sec : BitVec 33) (soon : Bool) (s : State),
    UartFresh s seq 0x40 soon →
    ((UartTaken s seq 0x40).tryOp 0x28 (fun s => s.guarded 12 0x28 0x40 (fun s => s.commitCount 12 sec.toNat 0))).2 = 0 →
    Completes (.compatTimeSet seq soon (leBytes 5 sec.toNat)) s (fun t => t = ((UartTaken s seq 0x40).guarded 12 0x28 0x40 (fun s => s.commitCount 12 sec.toNat 0)).uartReply seq.toNat 0x40 [0])) ∧
  (∀ (seq : Byte) (soon : Bool) (s : State),
    UartFresh s seq 0x41 soon →
    Completes (.compatTimeGet seq soon []) s (fun t => t.compat.reply = some ⟨seq.toNat, 0xC1, 0 :: leBytes 5 (s.rtc.count / 32768)⟩ ∧
      t.regs = s.regs)) ∧
  (∀ (seq : Byte) (block chunk : Nat) (data : List Byte) (soon : Bool) (s : State),
    UartFresh s seq 0x50 soon →
    s.mode ≠ .outage →
    s.update.waiting = none →
    s.update.refused = none →
    s.update.gather = none →
    block < 2 ^ 19 ∧ chunk < 32 →
    data.length = 128 →
    Completes (.compatFwBlock seq soon (leBytes 4 (4096 * block + 128 * chunk) ++ data)) s (fun t => t.compat.reply = some ⟨seq.toNat, 0xD0, [0]⟩ ∧
      t.update.gather = some (4096 * block, [(chunk, data)]))) ∧
  (∀ (seq : Byte) (soon : Bool) (s : State),
    UartFresh s seq 0x60 soon →
    Reaches s 12 0x00 0x00 false →
    Reaches (s.setAll [(R.HDR.REASON 0, 0), (R.HOSTIF.LASTREF_REASON, 0)]) 12 0x00 0x00 false →
    Completes (.compatRegRead seq soon [0, 0, 1]) s (fun t => t.compat.reply = some ⟨seq.toNat, 0xE0, 0 :: leBytes 4 (s.headerWord 0 0)⟩)) ∧
  (∀ (seq : Byte) (addr : Half) (w : Word) (soon : Bool) (s : State),
    UartFresh s seq 0x61 soon →
    ((UartTaken s seq 0x61).tryOp (addr.toNat / 256) (fun t => t.regWrite 12 (addr.toNat / 256) (addr.toNat % 256) w.toNat)).2 = 0 →
    Completes (.compatRegWrite seq soon (leBytes 2 addr.toNat ++ leBytes 4 w.toNat)) s (fun t => t = ((UartTaken s seq 0x61).regWrite 12 (addr.toNat / 256) (addr.toNat % 256) w.toNat).uartReply seq.toNat 0x61 [0])) ∧
  (∀ (seq : Byte) (cmd : Nat) (bytes : List Byte) (rest : List UartFrame) (soon : Bool) (s : State),
    UartFresh s seq 0x7E soon →
    s.compat.queue = ⟨seq.toNat, cmd, bytes⟩ :: rest →
    s.compat.waiting = [] →
    s.msg.offers = [] →
    Completes (.compatAck seq soon []) s (fun t => t.compat.queue = rest ∧
      t.compat.reply = some ⟨seq.toNat, 0xFE, [0]⟩)) ∧
  (∀ (seq rate : Byte) (soon : Bool) (s : State),
    UartFresh s seq 0x7F soon →
    rate.toNat ≤ 9 →
    Completes (.compatSetBaud seq soon [rate]) s (fun t => t.compat.baud = rate.toNat ∧
      t.compat.reply = some ⟨seq.toNat, 0xFF, [0]⟩)) ∧
  (∀ (seq code : Byte) (soon : Bool) (payload : List Byte) (s : State),
    UartFresh s seq code.toNat soon →
    code ∉ ([0x01, 0x02, 0x03, 0x10, 0x11, 0x12, 0x20, 0x30, 0x31, 0x32, 0x40, 0x41, 0x50, 0x60, 0x61, 0x7E, 0x7F] : List Byte) →
    Completes (.compatUnknownCommand seq code soon payload) s (fun t => t.compat.reply = some ⟨seq.toNat, code.toNat ||| 0x80, [1]⟩ ∧
      t.regs = s.regs)) ∧
  (∀ (s : State),
    s.e9Serves →
    s.domOn 0 ∧ s.domOn 14 ∧ s.domOn 25 →
    exec .uartFrameGap s = .next s) ∧
  (∀ (bytes : List Byte) (soon : Bool) (s : State),
    s.e9Serves →
    s.domOn 0 ∧ s.domOn 14 ∧ s.domOn 25 →
    uartFrame? bytes = none →
    exec (.uartFrameDiscard bytes soon) s = .next s) ∧
  (∀ (seq : Byte) (payload : List Byte) (soon : Bool) (s : State),
    UartFresh s seq 0x01 soon →
    payload.length ≤ 247 →
    Completes (.uartFrameDiscard (UartFrame.bytes ⟨seq.toNat, 0x01, payload⟩) soon) s (fun t => t.compat.reply = some ⟨seq.toNat, 0x81, 0 :: payload⟩ ∧
      t.compat.line = UartFrame.bytes ⟨seq.toNat, 0x81, 0 :: payload⟩)) ∧
  (∀ (s : State),
    s.e9Serves →
    s.compat.queue ≠ [] →
    s.compat.resends < 3 →
    exec .indicationResend s = .next { s with compat := { s.compat with resends := s.compat.resends + 1 } }) ∧
  (∀ (block : Nat) (data : List Byte) (s : State),
    s.update.waiting = some (block, data) →
    s.get R.UPDATE.STAT_BUSY = 0 →
    (s.stageWrite block data).2 = 0 →
    Completes (.fwBlockDeferredWrite) s (fun t => t.update.waiting = none ∧
      t = ({ (s.stageWrite block data).1 with update := { (s.stageWrite block data).1.update with waiting := none } } : State)))

/-- A full set that passes leaves the chain IDLE with FAIL and FAILRUN clear, TEMP_CAL at the run's die temperature and the results applied, and one with a failing step sets FAIL and counts the run in FAILRUN, the chain staying in service below three runs; E0's GO on an IDLE chain with nothing armed starts the full set; a temperature check that finds 8 degrees of difference starts the temperature set in a gap and else counts the wait; a temperature set run to its end leaves the chain IDLE. -/
def Obligations.RfCalibration : Prop :=
  (∀ (c : Chain) (r : CalResult) (vco : Half) (s : State),
    s.get (R.RF.STAT_CH_ST (chainIdx c)) = 1 →
    (s.chain c).tempRun = false →
    calFailed 0 5 r = none →
    r.vco = some vco →
    Completes (.chainCalComplete c r) s (fun t => t.get (R.RF.STAT_CH_ST (chainIdx c)) = 2 ∧
      t.get (failFld c) = 0 ∧
      t.get (failRunFld c) = 0 ∧
      t.get (tempFld c) = r.temp.toNat ∧
      t.get (busyFld c) = 0 ∧
      t.get (R.RFCAL.SYN_VCO (chainIdx c)) = vco.toNat % 2 ^ (R.RFCAL.SYN_VCO (chainIdx c)).width ∧
      (t.chain c).tempNeed = false)) ∧
  (∀ (c : Chain) (r : CalResult) (k : Nat) (s : State),
    s.get (R.RF.STAT_CH_ST (chainIdx c)) = 1 →
    (s.chain c).tempRun = false →
    calFailed 0 5 r = some k →
    s.get (failRunFld c) < 2 →
    Completes (.chainCalComplete c r) s (fun t => t.get (R.RF.STAT_CH_ST (chainIdx c)) = 2 ∧
      t.get (failFld c) = 1 ∧
      t.get (failRunFld c) = s.get (failRunFld c) + 1 ∧
      (t.chain c).tempNeed = true)) ∧
  (∀ (value : Word) (c : Chain) (s : State),
    Works s 0 0x32 0x20 →
    R.RFCAL.CMD_GO.of value.toNat = 1 →
    R.RFCAL.CMD_CHAIN.of value.toNat = chainIdx c →
    s.gapOn c = true →
    Completes (.rfcalRun 0 value) s (fun t => t.get (R.RF.STAT_CH_ST (chainIdx c)) = 1 ∧
      t.get (busyFld c) = 1 ∧
      (t.chain c).tempRun = false)) ∧
  (∀ (c : Chain) (temp : Byte) (s : State),
    s.get (R.RF.STAT_CH_ST (chainIdx c)) = 2 →
    s.dom (medDomain (chainMed c)) ≠ 0 →
    (s.chain c).calDue = false ∧ (s.chain c).tempRun = false →
    ¬ ((BitVec.ofNat 8 (s.get (tempFld c))).toInt - temp.toInt).natAbs < 8 →
    Completes (.tempCheck c temp true) s (fun t => t.get (R.RF.STAT_CH_ST (chainIdx c)) = 1 ∧
      (t.chain c).tempRun = true ∧
      (t.chain c).tempWait = 0)) ∧
  (∀ (c : Chain) (temp : Byte) (s : State),
    s.get (R.RF.STAT_CH_ST (chainIdx c)) ≠ 0 →
    s.dom (medDomain (chainMed c)) ≠ 0 →
    (s.chain c).tempRun = false →
    ¬ ((BitVec.ofNat 8 (s.get (tempFld c))).toInt - temp.toInt).natAbs < 8 →
    Completes (.tempCheck c temp false) s (fun t => (t.chain c).tempNeed = true ∧
      (t.chain c).tempWait = min 6 ((s.chain c).tempWait + 1) ∧
      t.regs = s.regs)) ∧
  (∀ (c : Chain) (r : CalResult) (s : State),
    s.get (R.RF.STAT_CH_ST (chainIdx c)) = 1 →
    (s.chain c).tempRun = true ∧ (s.chain c).tempBad = none →
    calFailed (s.chain c).tempStep 5 r = none →
    Completes (.tempSetComplete c 5 r) s (fun t => t.get (R.RF.STAT_CH_ST (chainIdx c)) = 2 ∧
      t.get (tempFld c) = r.temp.toNat ∧
      (t.chain c).tempRun = false ∧
      (t.chain c).tempNeed = false))

/-- An armed listening window opens in RX with nothing detected; energy at the threshold, a qualified preamble, the SFD and a good PHR take the chain to RXFRAME step by step; each timeout or error counts once in its own counter and lets an open window go on in RX; a lane that reaches its score wins the bank; a window that closes over a qualified frame lets it go on, and one with nothing qualified ends in IDLE; a frame with a bad FCS is counted, a frame for others is dropped with its RSSI recorded. -/
def Obligations.RfReception : Prop :=
  (∀ (m : Medium) (nbr chan prof : Nat) (s : State),
    (s.air m).armed = .rx nbr chan prof →
    s.tempTakes m = none →
    s.nbr? nbr = none →
    (s.wakeMedium m).phy m = 2 →
    ((s.wakeMedium m).armed m true).spaced = true →
    Completes (.cellArm m true) s (fun t => t.phy m = 3 ∧
      (t.air m).winOpen = true ∧
      (t.air m).det = .none ∧
      (t.air m).prof = prof)) ∧
  (∀ (c : Chain) (rssi : Byte) (s : State),
    s.phy (chainMed c) = 3 →
    (s.air (chainMed c)).winOpen = true ∧ (s.air (chainMed c)).det = .none →
    s.onBank c = false →
    s.edThr c ≤ rssi.toInt →
    Completes (.energyDetect c rssi) s (fun t => (t.air (chainMed c)).det = .energy ∧
      t.regs = s.regs)) ∧
  (∀ (c : Chain) (s : State),
    (s.air (chainMed c)).det = .energy →
    Completes (.qualifierTimeout c) s (fun t => (t.air (chainMed c)).det = .none ∧
      Counted s t (R.PHYRF.CNT_FALSE_ED (chainIdx c)))) ∧
  (∀ (c : Chain) (score : Byte) (freq : Half) (s : State),
    (s.air (chainMed c)).det = .energy →
    s.now (R.PHYRF.PROF_THR_QUAL (s.rxProf c)) ≤ score.toNat →
    -2500 ≤ freq.toInt ∧ freq.toInt ≤ 2500 →
    Completes (.preambleQualified c score freq) s (fun t => (t.air (chainMed c)).det = .qualified ∧
      (t.air (chainMed c)).afc = freq.toInt ∧
      (t.air (chainMed c)).score = score.toNat ∧
      t.phy (chainMed c) = 4)) ∧
  (∀ (c : Chain) (score : Byte) (freq : Half) (s : State),
    (freq.toInt < -2500 ∨ 2500 < freq.toInt) →
    exec (.preambleQualified c score freq) s = .next s) ∧
  (∀ (hits : List (Fin 6 × Byte × Half)) (lane v : Nat) (s : State),
    s.bankCh = 1 →
    (s.air .rfA).winOpen = true →
    s.get R.PHYRF.STAT_HOLD = 7 →
    s.laneWinner ((hits.filter (fun h => s.laneOn h.1.val && Nat.ble (s.now (R.PHYRF.SCORE_T h.1.val)) h.2.1.toNat && afcOk h.2.2)).map (fun h => (h.1.val, h.2.1.toNat))) = some (lane, v) →
    Completes (.laneDetect hits) s (fun t => t.get R.PHYRF.STAT_HOLD = lane % 8 ∧
      (t.air .rfA).det = .qualified ∧
      (t.air .rfA).bank = true ∧
      t.phy .rfA = 4 ∧
      Counted s t R.PHYRF.SRCHCNT_DET)) ∧
  (∀ (hits : List (Fin 6 × Byte × Half)) (s : State),
    (∀ h ∈ hits, h.2.2.toInt < -2500 ∨ 2500 < h.2.2.toInt) →
    exec (.laneDetect hits) s = .next s) ∧
  (∀ (c : Chain) (slotUs : Half) (s : State),
    (s.air (chainMed c)).det = .qualified →
    Completes (.sfdDetected c slotUs) s (fun t => (t.air (chainMed c)).det = .sfd ∧
      (t.air (chainMed c)).stampUs = slotUs.toNat ∧
      (t.air (chainMed c)).stampAsn = s.sched.asn ∧
      t.regs = s.regs)) ∧
  (∀ (c : Chain) (s : State),
    (s.air (chainMed c)).det = .qualified →
    (s.air (chainMed c)).winOpen = true →
    Completes (.sfdTimeout c) s (fun t => (t.air (chainMed c)).det = .none ∧
      t.phy (chainMed c) = 3 ∧
      Counted s t (R.PHYRF.CNT_SFD_TO (chainIdx c)))) ∧
  (∀ (c : Chain) (phr : Phr) (past : BitVec 6) (s : State),
    (s.air (chainMed c)).det = .sfd →
    phrBad (s.air (chainMed c)).mode phr = false →
    Completes (.phrReceived c phr past) s (fun t => (t.air (chainMed c)).det = .phr ∧
      (t.air (chainMed c)).phr = some phr ∧
      (past = 0 → t.regs = s.regs ∧ (t.air (chainMed c)).overTo = (s.air (chainMed c)).overTo) ∧
      (past ≠ 0 → s.sched.asn + 1 + past.toNat ≤ (t.air (chainMed c)).overTo) ∧
      (past ≠ 0 ∧ (s.air (chainMed c)).winOpen = false ∧ (s.air (chainMed c)).armed ≠ .idle → (t.air (chainMed c)).armed = .idle ∧ Counted s t (ovrFld (chainMed c))))) ∧
  (∀ (c : Chain) (phr : Phr) (past : BitVec 6) (s : State),
    (s.air (chainMed c)).det = .sfd →
    (s.air (chainMed c)).winOpen = true →
    phrBad (s.air (chainMed c)).mode phr = true →
    Completes (.phrReceived c phr past) s (fun t => (t.air (chainMed c)).det = .none ∧
      t.phy (chainMed c) = 3 ∧
      Counted s t (R.PHYRF.CNT_PHR_ERR (chainIdx c)))) ∧
  (∀ (c : Chain) (s : State),
    (s.air (chainMed c)).winOpen = true →
    (s.air (chainMed c)).await = none →
    ((s.air (chainMed c)).det = .sfd ∨ (s.air (chainMed c)).det = .qualified ∨ (s.air (chainMed c)).det = .phr) →
    Completes (.rxWindowClose c) s (fun t => (t.air (chainMed c)).winOpen = false ∧
      (t.air (chainMed c)).det = (s.air (chainMed c)).det ∧
      t.regs = s.regs)) ∧
  (∀ (c : Chain) (s : State),
    (s.air (chainMed c)).winOpen = true →
    (s.air (chainMed c)).await = none →
    ((s.air (chainMed c)).det = .none ∨ (s.air (chainMed c)).det = .energy) →
    s.phy (chainMed c) = 3 →
    Completes (.rxWindowClose c) s (fun t => (t.air (chainMed c)).winOpen = false ∧
      (t.air (chainMed c)).armed = .idle ∧
      t.phy (chainMed c) = 2)) ∧
  (∀ (c : Chain) (f : AirFrame) (rx : RxInfo) (s : State),
    s.phy (chainMed c) = 4 →
    (s.air (chainMed c)).det = .phr →
    f.fcs = false →
    Completes (.rfFrameEnd c f rx) s (fun t => t.get (R.RF.RSSI_LAST (chainIdx c)) = rx.rssi.toNat ∧
      Counted s t (R.PHYRF.CNT_FCS_ERR (chainIdx c)) ∧
      t.sched = s.sched)) ∧
  (∀ (c : Chain) (f : AirFrame) (rx : RxInfo) (s : State),
    s.phy (chainMed c) = 4 →
    (s.air (chainMed c)).det = .phr ∧ (s.air (chainMed c)).await = none ∧ (s.air (chainMed c)).alarmRx = false →
    f.fcs = true →
    s.forUs f = false →
    s.ownNet f = false →
    Completes (.rfFrameEnd c f rx) s (fun t => t.get (R.RF.RSSI_LAST (chainIdx c)) = rx.rssi.toNat ∧
      t.sched = s.sched ∧
      (t.air (chainMed c)).det = .none))

/-- A frame that this node awaits nothing before, whose FCS holds and which is for this node, is dropped and counted once where its version is wrong (BADVER), where it is unsecured (NOSEC), where its key is unknown (UNKNOWN_KEY) and where its MIC fails (MIC_FAIL), with the neighbour table and the acknowledgement due left as they were; from a known neighbour, with the checks passed and its counter above the last one accepted from it and its number new, it is taken as new (RX_NEW). -/
def Obligations.FrameAcceptance : Prop :=
  (∀ (c : Chain) (f : AirFrame) (rx : RxInfo) (s : State),
    HeardBy s c f →
    s.readsOpen f = false →
    s.versionOk (chainMed c) f = false →
    Completes (.rfFrameEnd c f rx) s (fun t => Counted s t R.LINK.CNT1_BADVER ∧
      t.sched = s.sched)) ∧
  (∀ (c : Chain) (f : AirFrame) (rx : RxInfo) (s : State),
    HeardBy s c f →
    s.readsOpen f = false →
    s.versionOk (chainMed c) f = true →
    f.level = 0 ∧ f.version = 2 →
    Completes (.rfFrameEnd c f rx) s (fun t => Counted s t R.LINKSEC.CNT_NOSEC ∧
      t.sched = s.sched)) ∧
  (∀ (c : Chain) (f : AirFrame) (rx : RxInfo) (s : State),
    HeardBy s c f →
    s.readsOpen f = false →
    s.versionOk (chainMed c) f = true →
    (f.level = 1 ∨ 5 ≤ f.level.toNat) →
    s.slotOf f.keyIdx.toNat = none →
    (s.srcNbr f).isSome = true →
    Completes (.rfFrameEnd c f rx) s (fun t => Counted s t R.LINKSEC.CNT2_UNKNOWN_KEY ∧
      t.sched = s.sched)) ∧
  (∀ (c : Chain) (f : AirFrame) (rx : RxInfo) (s : State),
    HeardBy s c f →
    s.readsOpen f = false →
    s.versionOk (chainMed c) f = true →
    (f.level = 1 ∨ 5 ≤ f.level.toNat) →
    f.keyIdx.toNat < 0xFE →
    (s.slotOf f.keyIdx.toNat).isSome = true →
    f.mic = false →
    (s.srcNbr f).isSome = true →
    Completes (.rfFrameEnd c f rx) s (fun t => Counted s t R.LINKSEC.CNT_MIC_FAIL ∧
      t.sched = s.sched)) ∧
  (∀ (c : Chain) (f : AirFrame) (rx : RxInfo) (k : Byte) (n : Nbr) (s : State),
    HeardBy s c f →
    s.readsOpen f = false →
    s.versionOk (chainMed c) f = true →
    (f.level = 1 ∨ 5 ≤ f.level.toNat) →
    f.keyIdx.toNat < 0xFE →
    (s.slotOf f.keyIdx.toNat).isSome = true →
    f.mic = true →
    f.kind = .command k ∧ k.toNat ≠ 1 ∧ k.toNat ≠ 2 ∧ k.toNat ≠ 4 →
    f.sync = none ∧ f.tone = none ∧ f.dst ≠ 0xFFFF →
    s.srcNbr f = some n →
    (∀ e ∈ n.hwm, e.2 < f.counter.toNat) →
    (∀ x ∈ n.recs, x.seq ≠ f.seq.toNat) →
    Completes (.rfFrameEnd c f rx) s (fun t => Counted s t R.LINK.CNT1_RX_NEW ∧
      t.phy (chainMed c) = 5 ∧
      (t.air (chainMed c)).ackDue.any (fun d => Nat.beq d.seq f.seq.toNat && Nat.beq d.nbr n.idx)))

/-- An armed transmission that nothing stops starts, the chain in TX and the airtime noted; on a chain that receives a frame or calibrates it is deferred; a deferred one starts at most 200 us late and is then counted LATE, and one later than that is abandoned with SYNTH_BUSY; synthesiser lock missing, a busy channel where CCA is required, and a denied grant abandon the attempt with their codes; a unicast frame's end opens the wait for its acknowledgement, and a broadcast leaves the queue; a wake call's end widens the windows again once; a failed check counts and stops LISTEN. -/
def Obligations.RfTransmission : Prop :=
  (∀ (c : Chain) (x : TxSample) (a : Attempt) (f : LinkFrame) (s : State),
    (s.phy (chainMed c) = 2 ∨ s.phy (chainMed c) = 3) →
    s.domOn (medDomain (chainMed c)) = true →
    SendReady s (chainMed c) a f →
    (s.sampled c x).txStop c (Nat.beq f.cls 0) false a.chan ((s.sampled c x).frameUs (chainMed c) a f ((s.sampled c x).frameTone (chainMed c) a.cell f).1.length) x = none →
    ((s.sampled c x).giveCounter f).2 = true →
    s.enabled (medPage (chainMed c)) = true ∧ x.settling = false →
    s.bit R.PWR.SUPPLY_BROWNOUT = false →
    Completes (.rfTxStart c x) s (fun t => (t.air (chainMed c)).sending = some a ∧
      t.phy (chainMed c) = 5 ∧
      (t.air (chainMed c)).winOpen = false ∧
      (t.chain c).lockFails = 0)) ∧
  (∀ (c : Chain) (x : TxSample) (a : Attempt) (s : State),
    (s.phy (chainMed c) = 4 ∨ s.phy (chainMed c) = 1 ∨ s.phy (chainMed c) = 2 ∧ x.settling = true) →
    s.domOn (medDomain (chainMed c)) = true →
    s.enabled (medPage (chainMed c)) = true →
    (s.air (chainMed c)).armed = .tx a ∧ (s.air (chainMed c)).ackDue = none →
    s.sends (chainMed c) = false →
    Completes (.rfTxStart c x) s (fun t => (t.air (chainMed c)).deferred = true ∧
      t.regs = s.regs)) ∧
  (∀ (c : Chain) (x : TxSample) (a : Attempt) (f : LinkFrame) (r : Nat) (s : State),
    (s.phy (chainMed c) = 2 ∨ s.phy (chainMed c) = 3) →
    s.domOn (medDomain (chainMed c)) = true →
    SendReady s (chainMed c) a f →
    (s.sampled c x).txStop c (Nat.beq f.cls 0) false a.chan ((s.sampled c x).frameUs (chainMed c) a f ((s.sampled c x).frameTone (chainMed c) a.cell f).1.length) x = some r →
    r ≠ 0x45 →
    s.enabled (medPage (chainMed c)) = true ∧ x.settling = false →
    Completes (.rfTxStart c x) s (fun t => (t.air (chainMed c)).sending = none ∧
      (t.air (chainMed c)).armed = .idle ∧
      t.get (R.HDR.REASON (medPage (chainMed c))) = r % 256 ∧
      t.sched = s.sched ∧
      t.phy (chainMed c) = 2)) ∧
  (∀ (c : Chain) (late : Half) (x : TxSample) (a : Attempt) (s : State),
    (s.air (chainMed c)).armed = .tx a ∧ (s.air (chainMed c)).deferred = true →
    s.sends (chainMed c) = false ∧ (s.air (chainMed c)).ackDue = none →
    (s.phy (chainMed c) = 2 ∨ s.phy (chainMed c) = 3) →
    s.enabled (medPage (chainMed c)) = true ∧ x.settling = false →
    200 < late.toNat →
    Completes (.txDeferredStart c late x) s (fun t => t.get (R.HDR.REASON (medPage (chainMed c))) = 0x40 ∧
      Counted s t (R.RF.TXABN0_SYNTH (chainIdx c)) ∧
      (t.air (chainMed c)).armed = .idle ∧
      t.sched = s.sched)) ∧
  (∀ (c : Chain) (late : Half) (x : TxSample) (a : Attempt) (f : LinkFrame) (s : State),
    SendReady s (chainMed c) a f →
    (s.air (chainMed c)).deferred = true →
    (s.phy (chainMed c) = 2 ∨ s.phy (chainMed c) = 3) →
    0 < late.toNat ∧ late.toNat ≤ 200 →
    (s.sampled c x).txStop c (Nat.beq f.cls 0) false a.chan ((s.sampled c x).frameUs (chainMed c) a f ((s.sampled c x).frameTone (chainMed c) a.cell f).1.length) x = none →
    ((s.sampled c x).giveCounter f).2 = true →
    s.enabled (medPage (chainMed c)) = true ∧ x.settling = false →
    s.bit R.PWR.SUPPLY_BROWNOUT = false →
    Completes (.txDeferredStart c late x) s (fun t => (t.air (chainMed c)).sending = some a ∧
      t.phy (chainMed c) = 5 ∧
      t.get R.LINK.TXLATE_LATE = 1 ∧
      t.get R.LINK.TXLATE_LAST_US = late.toNat % 2 ^ R.LINK.TXLATE_LAST_US.width)) ∧
  (∀ (c : Chain) (a : Attempt) (f : LinkFrame) (s : State),
    s.phy (chainMed c) = 5 →
    s.radio.calling = none →
    (s.air (chainMed c)).sending = some a →
    s.frame? a.frame = some f →
    f.acked = true →
    Completes (.rfTxEnd c) s (fun t => (t.air (chainMed c)).await = some a ∧
      (t.air (chainMed c)).sending = none ∧
      (t.air (chainMed c)).winOpen = true ∧
      t.phy (chainMed c) = 3 ∧
      t.sched = s.sched)) ∧
  (∀ (c : Chain) (a : Attempt) (f : LinkFrame) (s : State),
    s.phy (chainMed c) = 5 →
    s.radio.calling = none →
    (s.air (chainMed c)).sending = some a →
    s.frame? a.frame = some f →
    f.acked = false →
    f.msg = 0 →
    Completes (.rfTxEnd c) s (fun t => t.frame? f.num = none ∧
      (t.air (chainMed c)).sending = none ∧
      t.phy (chainMed c) = 2)) ∧
  (∀ (w : WakeCall) (s : State),
    s.radio.calling = some w →
    Completes (.wakeCallEnd) s (fun t => t.radio.calling = none ∧
      t.sched.resyncs = s.sched.resyncs.map (fun (r : Resync) => bif Nat.beq r.nbr w.nbr then { r with until_ := s.sched.asn + 2 * s.get (R.SCHED.SF_LEN 0), called := true } else r))) ∧
  (∀ (s : State),
    s.micaSwitch = true →
    s.bit R.MICA.STAT_LISTEN = true →
    Completes (.wakeCallCheckFailure) s (fun t => t.get R.MICA.STAT_LISTEN = 0 ∧
      Counted s t R.MICA.COUNT_CRCERR ∧
      (∀ x ∈ t.doms.asqLeft, s.get (R.PWR.ASQ_CFG_SRC x.1) ≠ 0)))

/-- A preamble at the threshold takes an open window to RXFRAME; a missing M symbol, a bad FCH, a failed LDPC block and a bad FCS each count once and let an open window go on; a good ROBUST header leads to the frame; a window that closes over a frame lets it go on; a transmission with the driver free turns the driver on with the attenuation of R209 and a frame on a driver forced off is aborted and counted; the end of a transmission turns the driver off and shows ZLINE; a deferred start more than 200 us late is counted BUSY; above 125 and below 110 degrees THERM changes. -/
def Obligations.PlcPhy : Prop :=
  (∀ (score : Byte) (s : State),
    s.get R.PLCPHY.STAT_ST = 2 →
    (s.air .plc).winOpen = true ∧ (s.air .plc).det = .none →
    s.now R.PLCPHY.CFG_DETTHR ≤ score.toNat →
    Completes (.plcPreambleDetect score) s (fun t => (t.air .plc).det = .energy ∧
      t.get R.PLCPHY.STAT_ST = 3)) ∧
  (∀ (s : State),
    (s.air .plc).det = .energy →
    (s.air .plc).winOpen = true →
    Completes (.plcMTimeout) s (fun t => (t.air .plc).det = .none ∧
      t.phy .plc = 3 ∧
      Counted s t R.PLCPHY.CNT_FALSE_DET)) ∧
  (∀ (bits : BitVec 40) (slotUs : Half) (s : State),
    (s.air .plc).det = .energy →
    fchCrcOk bits.toNat = true →
    bits.toNat / 2 ^ 12 % 4 = 0 ∧ bits.toNat / 2 ^ 10 % 4 = 0 ∧ 5 ≤ bits.toNat % 1024 →
    Completes (.plcFchDecoded bits slotUs) s (fun t => (t.air .plc).det = .phr ∧
      (t.air .plc).stampUs = slotUs.toNat ∧
      (t.air .plc).stampAsn = s.sched.asn ∧
      t.regs = s.regs)) ∧
  (∀ (bits : BitVec 40) (slotUs : Half) (s : State),
    (s.air .plc).det = .energy →
    (s.air .plc).winOpen = true →
    (fchCrcOk bits.toNat = false ∨ bits.toNat / 2 ^ 10 % 4 = 3 ∨ bits.toNat / 2 ^ 12 % 4 = 3 ∨ bits.toNat % 1024 < 5 ∨ (bits.toNat / 2 ^ 12 % 4 = 0 ∧ bits.toNat / 2 ^ 10 % 4 ≠ 0)) →
    Completes (.plcFchDecoded bits slotUs) s (fun t => (t.air .plc).det = .none ∧
      t.phy .plc = 3 ∧
      Counted s t R.PLCPHY.CNT_FCH_ERR)) ∧
  (∀ (bits : BitVec 40) (slotUs : Half) (s : State),
    (s.air .plc).det = .energy →
    (s.air .plc).winOpen = true →
    fchCrcOk bits.toNat = true →
    ((bits.toNat / 2 ^ 12 % 4 = 1 ∨ bits.toNat / 2 ^ 12 % 4 = 2) ∧ bits.toNat / 2 ^ 10 % 4 ≠ 3 ∧ 5 ≤ bits.toNat % 1024) →
    s.slot? (bits.toNat / 2 ^ 14 % 32) = none →
    Completes (.plcFchDecoded bits slotUs) s (fun t => (t.air .plc).det = .none ∧
      Counted s t R.PLCPHY.CNT2_VERMISS)) ∧
  (∀ (power : List Half) (f : AirFrame) (rx : RxInfo) (s : State),
    s.get R.PLCPHY.STAT_ST = 3 →
    (s.air .plc).det = .phr →
    (s.air .plc).winOpen = true →
    Completes (.plcFrameEnd false power f rx) s (fun t => (t.air .plc).det = .none ∧
      t.phy .plc = 3 ∧
      Counted s t R.PLCPHY.CNT_LDPC_FAIL ∧
      t.sched = s.sched)) ∧
  (∀ (power : List Half) (f : AirFrame) (rx : RxInfo) (s : State),
    s.get R.PLCPHY.STAT_ST = 3 →
    (s.air .plc).det = .phr ∧ (s.air .plc).await = none →
    f.fcs = true →
    s.forUs f = false →
    s.ownNet f = false →
    s.srcNbr f = none →
    Completes (.plcFrameEnd true power f rx) s (fun t => (t.air .plc).det = .none ∧
      t.sched = s.sched ∧
      t.plc = s.plc)) ∧
  (∀ (s : State),
    (s.air .plc).winOpen = true ∧ (s.air .plc).await = none →
    (s.air .plc).det = .phr →
    Completes (.plcRxWindowClose) s (fun t => (t.air .plc).winOpen = false ∧
      (t.air .plc).det = .phr ∧
      t.regs = s.regs)) ∧
  (∀ (cut : BitVec 5) (a : Attempt) (f : LinkFrame) (s : State),
    (s.get R.PLCPHY.STAT_ST = 1 ∨ s.get R.PLCPHY.STAT_ST = 2) →
    SendReady s .plc a f →
    s.enabled 0x3B = true →
    s.driverOff = false →
    s.bit R.PWR.SUPPLY_BROWNOUT = false →
    (s.giveCounter f).2 = true →
    Completes (.plcTxStart cut) s (fun t => t.get R.PLCAFE.STAT_DRV_ON = 1 ∧
      t.plc.cut = cut.toNat ∧
      t.get R.PLCAFE.STAT_ATT = t.plcAtt % 2 ^ R.PLCAFE.STAT_ATT.width ∧
      t.get R.PLCAFE.STAT_LOWZ = (bif Nat.beq cut.toNat 0 then 0 else 1) ∧
      t.get R.PLCPHY.STAT_ST = 4 ∧
      (t.air .plc).sending = some a)) ∧
  (∀ (cut : BitVec 5) (a : Attempt) (f : LinkFrame) (s : State),
    (s.get R.PLCPHY.STAT_ST = 1 ∨ s.get R.PLCPHY.STAT_ST = 2) →
    SendReady s .plc a f →
    s.enabled 0x3B = true →
    s.driverOff = true →
    Completes (.plcTxStart cut) s (fun t => t.get R.PLCAFE.STAT_DRV_ON = 0 ∧
      Counted s t R.PLCPHY.CNT2_ABORT ∧
      (t.air .plc).sending = none ∧
      t.sched = s.sched)) ∧
  (∀ (zline : Half) (a : Attempt) (f : LinkFrame) (s : State),
    s.get R.PLCPHY.STAT_ST = 4 →
    (s.air .plc).sending = some a →
    s.frame? a.frame = some f →
    f.acked = true →
    Completes (.plcTxEnd zline) s (fun t => t.get R.PLCAFE.STAT_DRV_ON = 0 ∧
      t.plc.cut = 0 ∧
      t.get R.PLCAFE.STAT_ZLINE = zline.toNat % 2 ^ R.PLCAFE.STAT_ZLINE.width ∧
      (t.air .plc).await = some a ∧
      t.get R.PLCPHY.STAT_ST = 2)) ∧
  (∀ (late : Half) (cut : BitVec 5) (a : Attempt) (s : State),
    (s.air .plc).armed = .tx a ∧ (s.air .plc).deferred = true →
    s.sends .plc = false ∧ (s.air .plc).ackDue = none →
    s.enabled 0x3B = true →
    (s.get R.PLCPHY.STAT_ST = 1 ∨ s.get R.PLCPHY.STAT_ST = 2) →
    200 < late.toNat →
    Completes (.plcTxDeferredStart late cut) s (fun t => t.get (R.HDR.REASON 0x3B) = 0x40 ∧
      Counted s t R.PLCPHY.CNT2_BUSY ∧
      t.sched = s.sched)) ∧
  (∀ (late : Half) (cut : BitVec 5) (a : Attempt) (f : LinkFrame) (s : State),
    SendReady s .plc a f →
    (s.air .plc).deferred = true →
    (s.get R.PLCPHY.STAT_ST = 1 ∨ s.get R.PLCPHY.STAT_ST = 2) →
    late.toNat ≤ 200 →
    s.enabled 0x3B = true →
    s.driverOff = false →
    s.bit R.PWR.SUPPLY_BROWNOUT = false →
    (s.giveCounter f).2 = true →
    Completes (.plcTxDeferredStart late cut) s (fun t => (t.air .plc).sending = some a ∧
      t.get R.PLCAFE.STAT_DRV_ON = 1 ∧
      (late ≠ 0 → t.get R.LINK.TXLATE_LATE = 1))) ∧
  (∀ (temp : Byte) (s : State),
    125 < temp.toNat →
    s.bit R.PLCAFE.STAT_THERM = false →
    Completes (.driverThermalChange temp) s (fun t => t.get R.PLCAFE.STAT_THERM = 1)) ∧
  (∀ (temp : Byte) (s : State),
    temp.toNat < 110 →
    s.bit R.PLCAFE.STAT_THERM = true →
    Completes (.driverThermalChange temp) s (fun t => t.get R.PLCAFE.STAT_THERM = 0))

/-- A run that completes on a locked mains with its half-cycles measured counts in RUNS, starts the half-cycle count anew and shows each bin's mean; REGEN of a slot that can be generated issues its set under the next version, with the one before kept as previous and EVENTS.ISSUED counted; the previous version goes after 256 slots. -/
def Obligations.SoundingAndToneMaps : Prop :=
  (∀ (bins : List (Byte × List Half)) (s : State),
    s.isLocked = true →
    (∀ b ∈ List.range 16, 4 ≤ (bins.getD b (0, [])).1.toNat) →
    s.enabled 0x3B = true →
    s.now R.PLCPHY.SOUND_NSOUND ≤ s.get R.PLCPHY.SNDSTAT_HC →
    s.plc.slots = [] →
    Completes (.soundingRunComplete bins) s (fun t => t.get R.PLCPHY.SNDSTAT_HC = 0 ∧
      t.get R.PLCPHY.SNDSTAT_RUNS = (s.get R.PLCPHY.SNDSTAT_RUNS + 1) % 2 ^ R.PLCPHY.SNDSTAT_RUNS.width ∧
      t.plc.noise = (bins.take 16).map (fun r => r.2.map (fun (v : Half) => v.toInt)) ∧
      (t.plc.regions.length = 16 ∨ (s.takeForce soundedReg).now R.PLCPHY.SOUND_AUTO = 1))) ∧
  (∀ (who : Requester) (ts : ToneSlot) (s : State),
    Works s who 0x3C 0xA0 →
    s.bit R.TONEMAP.STAT_GEN = false →
    s.slot? (s.get R.TONEMAP.SEL_SLOT) = some ts →
    s.canGen ts = true →
    Completes (.tonemapRegenOne who) s (fun t => (t.slot? (s.get R.TONEMAP.SEL_SLOT)).any (fun u => decide (u.prev = ts.cur) && Nat.beq u.curVer (bif ts.cur.isSome then (ts.curVer + 1) % 16 else ts.curVer) && u.cur.isSome) ∧
      Counted s t R.TONEMAP.EVENTS_ISSUED)) ∧
  (∀ (who : Requester) (i : Nat) (ts : ToneSlot) (s : State),
    Works s who 0x3C 0xA0 →
    s.bit R.TONEMAP.STAT_GEN = false →
    s.plc.slots = [(i, ts)] →
    s.canGen ts = true →
    Completes (.tonemapRegenAll who) s (fun t => (t.slot? i).any (fun u => decide (u.prev = ts.cur) && u.cur.isSome) ∧
      Counted s t R.TONEMAP.EVENTS_ISSUED)) ∧
  (∀ (slot : Fin 32) (ts : ToneSlot) (s : State),
    s.slot? slot = some ts →
    ts.issued + 256 ≤ s.sched.asn →
    ts.prev.isSome = true →
    Completes (.prevVersionExpiry slot) s (fun t => t.slot? slot = some { ts with prev := none } ∧
      t.regs = s.regs))

/-- With a timing source each slot boundary adds one to the 40-bit ASN and the slotframe boundary takes the staged registers into force and sets each medium's service; a medium leaving service with nothing under way goes to rest; a missed acknowledgement counts NOACK, lets the medium rest and, short of the retry limit, leaves the frame in its queue for a new counter value; a due keep-alive and a due poll join the link queue; a resynchronisation that expires calls the neighbour once where it was in OUTAGE; the response period's end returns the node to sleep; a sleepy child that has not polled for three of its intervals becomes UNSYNC. -/
def Obligations.SlotsAndBoundaries : Prop :=
  (∀ (s : State),
    s.get R.SCHED.STAT_TIMING ≠ 0 →
    s.sched.origin = false →
    Completes (.slotBoundary) s (fun t => t.sched.asn = (s.sched.asn + 1) % 2 ^ 40 ∧
      t.sched.slotUs = 0)) ∧
  (∀ (s : State),
    s.get R.SCHED.STAT_TIMING ≠ 0 →
    Completes (.slotframeBoundary) s (fun t => (∀ m ∈ media3, (t.air m).inSvc = s.serviceable m) ∧
      t.get R.PHYRF.STAT_CONF = (bif decide (s.mode = .service) && s.serviceable .rfA && s.serviceable .rfB then 0 else 1))) ∧
  (∀ (m : Medium) (s : State),
    (s.air m).sending = none ∧ (s.air m).acking = false →
    s.phy m ≠ 4 →
    Completes (.mediumLeavesService m) s (fun t => (t.air m).armed = .idle ∧
      (t.air m).await = none ∧
      (t.air m).inSvc = false ∧
      t.sched = s.sched)) ∧
  (∀ (m : Medium) (a : Attempt) (f : LinkFrame) (s : State),
    (s.air m).await = some a →
    s.frame? a.frame = some f →
    s.nbrOf f = none →
    (∀ k ∈ media3, k ≠ m → (s.air k).armed = .idle ∧ (s.air k).await = none ∧ (s.air k).sending = none) →
    a.shared = false ∧ a.alarm = false ∧ f.joinKey = false →
    f.kind = .data ∧ f.tries < s.retries f.cls →
    Completes (.ackMissed m) s (fun t => Counted s t R.LINK.CNT0_NOACK ∧
      (t.air m).await = none ∧
      (t.air m).armed = .idle ∧
      t.frame? f.num = some { f with ctr := none, due := s.sched.asn })) ∧
  (∀ (i : Nat) (n : Nbr) (s : State),
    s.source = some i →
    s.nbr? i = some n →
    s.get R.SCHED.STAT_TIMING = 1 →
    s.mode = .service →
    s.now R.SCHED.CFG_KA_S ≤ s.age n →
    Completes (.keepaliveDue) s (fun t => t = s.enqueue { LinkFrame.blank with dest := i, frag := 1 })) ∧
  (∀ (nbr : Byte) (x : TxSample) (r : Resync) (n : Nbr) (s : State),
    s.sched.resyncs.find? (fun (r : Resync) => Nat.beq r.nbr nbr.toNat) = some r →
    s.nbr? r.nbr = some n →
    r.until_ ≤ s.sched.asn →
    n.outage = true ∧ r.called = false →
    s.maySend = true ∧ s.serviceable .rfA = true →
    s.radio.calling = none →
    s.canCall = true →
    (((s.quiet .rfA).wakeMedium .rfA).sampled .a x).txStop .a false false ((((s.quiet .rfA).wakeMedium .rfA).sampled .a x).micaChan) (1000 * s.get R.MICA.CFG_CALLMS) x = none →
    Completes (.resyncExpiry nbr x) s (fun t => t.radio.calling.any (fun w => Nat.beq w.nbr n.idx && Nat.beq w.id n.wake && Nat.beq w.ms (s.get R.MICA.CFG_CALLMS) && decide (w.octets = wakeOctets n.wake)) ∧
      t.get (R.RF.STAT_CH_ST 0) = 5 ∧
      Counted s t R.SCHED.CNT_WAKECALL)) ∧
  (∀ (i : Nat) (s : State),
    s.mode = .outage →
    s.get R.SCHED.STAT_TIMING ≠ 0 →
    s.source = some i →
    Completes (.pollDue) s (fun t => t.sched.pollDue = true ∧
      t.sched.polled = s.get R.SYS.OPSEC_SEC ∧
      t.sched.queue.any (fun f => decide (f.kind = .command 0x04) && Nat.beq f.dest i && Nat.beq f.num s.sched.nextNum) ∧
      t.regs = s.regs)) ∧
  (∀ (s : State),
    exec .pollResponseEnd s = .next { s with sched := { s.sched with respTo := 0, respDue := false } }) ∧
  (∀ (nbr : Byte) (n : Nbr) (s : State),
    s.nbr? nbr.toNat = some n →
    n.child = true ∧ n.sleepy = true ∧ n.sync ≤ 1 →
    n.pollS ≠ 0 ∧ n.polled + 3 * n.pollS ≤ s.get R.SYS.OPSEC_SEC →
    s.buffered n.idx = [] →
    Completes (.childPollTimeout nbr) s (fun t => t.nbr? nbr.toNat = some { n with sync := 2 } ∧
      Counted s t R.SCHED.CNT_UNSYNC ∧
      t.sched.resyncs.any (fun r => Nat.beq r.nbr n.idx && Nat.beq r.until_ (s.sched.asn + 2 * s.get (R.SCHED.SF_LEN 0)))))

/-- A good cell joins the table at the lowest free index, which CELLD3 shows; a cell that has not started goes at a deletion at once; a read shows the cell in CELLD0 to CELLD3; DELETE_SF takes the slotframe's cells away; a TIME0 read answers SLOT_US with the ASN's low half and latches the rest for its requester; a key loads into an empty slot with its counter at 0 and a first block of 4,096 to commit, and an erased slot that is not in use is empty; the staged words are cleared by both. -/
def Obligations.CellsAndKeys : Prop :=
  (∀ (who : Requester) (i : Nat) (s : State),
    Works s who 0x40 0x80 →
    s.standby = false →
    s.cellBad s.cellData = 0 →
    i < 2048 →
    (∀ d ∈ s.sched.cells, d.idx ≠ i) →
    (∀ j < i, s.sched.cells.any (fun d => Nat.beq d.idx j) = true) →
    Completes (.cellcmdAdd who) s (fun t => t.sched.cells = s.sched.cells ++ [{ s.cellData with idx := i }] ∧
      t.get R.SCHED.CELLD3_INDEX = i % 2 ^ R.SCHED.CELLD3_INDEX.width)) ∧
  (∀ (who : Requester) (s : State),
    Works s who 0x40 0x80 →
    s.standby = false →
    s.cellBad s.cellData ≠ 0 →
    Completes (.cellcmdAdd who) s (fun t => t.get (R.HDR.REASON 0x40) = s.cellBad s.cellData ∧
      t.get (R.HDR.ERRINFO 0x40) = 0x80 ∧
      t.sched = s.sched)) ∧
  (∀ (who : Requester) (idx : BitVec 11) (c : Cell) (s : State),
    Works s who 0x40 0x80 →
    s.standby = false →
    s.cell? idx.toNat = some c →
    c.state = 0 →
    Completes (.cellcmdDel who idx) s (fun t => t.sched.cells = s.sched.cells.filter (fun (d : Cell) => !Nat.beq d.idx c.idx))) ∧
  (∀ (who : Requester) (idx : BitVec 11) (c : Cell) (s : State),
    Works s who 0x40 0x80 →
    s.cell? idx.toNat = some c →
    Completes (.cellcmdRead who idx) s (fun t => t.get R.SCHED.CELLD0_SLOT = c.slot % 2 ^ R.SCHED.CELLD0_SLOT.width ∧
      t.get R.SCHED.CELLD1_TYPE = c.type % 2 ^ R.SCHED.CELLD1_TYPE.width ∧
      t.get R.SCHED.CELLD2_PROF_A = c.profA % 2 ^ R.SCHED.CELLD2_PROF_A.width ∧
      t.get R.SCHED.CELLD3_INDEX = c.idx % 2 ^ R.SCHED.CELLD3_INDEX.width ∧
      t.get R.SCHED.CELLD3_VALID = 1 ∧
      t.sched = s.sched)) ∧
  (∀ (who : Requester) (s : State),
    Works s who 0x40 0x80 →
    s.standby = false →
    s.mirroring = false →
    s.bit (R.SCHED.SF_EN (s.get R.SCHED.CELLD0_SF)) = false →
    (∀ c ∈ s.sched.cells, c.state ≠ 2) →
    Completes (.cellcmdDeleteSf who) s (fun t => (∀ c ∈ t.sched.cells, c.sf ≠ s.get R.SCHED.CELLD0_SF) ∧
      (∀ c ∈ t.sched.cells, c ∈ s.sched.cells))) ∧
  (∀ (who : Requester) (slotUs : Half) (s : State),
    Reaches s who 0x40 0x2C false →
    s.get R.SCHED.STAT_TIMING ≠ 0 →
    Completes (.schedTime0Read who slotUs) s (fun t => t.lastRead = slotUs.toNat + 2 ^ 16 * (s.sched.asn % 2 ^ 16) ∧
      t.sched.latches.look who = s.sched.asn / 2 ^ 16 + 1 ∧
      t.regs = s.regs)) ∧
  (∀ (who : Requester) (s : State),
    Works s who 0x42 0x3C →
    (s.key (s.get R.LINKSEC.KEYSEL_SLOT)).valid = false →
    (s.key (s.get R.LINKSEC.KEYSEL_SLOT)).idx ≠ 0 →
    s.slotOf (s.key (s.get R.LINKSEC.KEYSEL_SLOT)).idx = none →
    s.get R.LINKSEC.KEYSEL_SLOT < s.keys.length →
    Completes (.linksecKeyLoad who) s (fun t => t.key (s.get R.LINKSEC.KEYSEL_SLOT) = { idx := (s.key (s.get R.LINKSEC.KEYSEL_SLOT)).idx, valid := true, key := (List.range 4).flatMap (fun k => leBytes 4 (s.sched.stagedKey.look k)), counter := 0, blockEnd := 0, nextEnd := 4096 } ∧
      t.sched.stagedKey = [])) ∧
  (∀ (who : Requester) (s : State),
    Works s who 0x42 0x3C →
    s.get R.LINKSEC.KEYSEL_SLOT ≠ s.get R.LINKSEC.TXKEY_NET →
    s.bit R.LINKSEC.KSW1_ARM = false →
    Completes (.linksecKeyErase who) s (fun t => t.key (s.get R.LINKSEC.KEYSEL_SLOT) = KeySlot.empty ∧
      t.sched.stagedKey = []))

/-- A LOAD into a valid slot, with KEYIDX 0, or with an index that another valid slot holds, and an ERASE of the slot in use or of the one an armed switchover names, are refused with their codes in STATE.REASON and leave every key as it was; the staged words are cleared all the same. -/
def Obligations.KeyRefusals : Prop :=
  (∀ (who : Requester) (s : State),
    Works s who 0x42 0x3C →
    (s.key (s.get R.LINKSEC.KEYSEL_SLOT)).valid = true →
    Completes (.linksecKeyLoad who) s (fun t => t.get (R.HDR.REASON 0x42) = 0x40 ∧
      t.keys = s.keys ∧
      t.sched.stagedKey = [])) ∧
  (∀ (who : Requester) (s : State),
    Works s who 0x42 0x3C →
    (s.key (s.get R.LINKSEC.KEYSEL_SLOT)).valid = false →
    (s.key (s.get R.LINKSEC.KEYSEL_SLOT)).idx = 0 →
    Completes (.linksecKeyLoad who) s (fun t => t.get (R.HDR.REASON 0x42) = RC.BAD_VALUE ∧
      t.keys = s.keys ∧
      t.sched.stagedKey = [])) ∧
  (∀ (who : Requester) (s : State),
    Works s who 0x42 0x3C →
    (s.key (s.get R.LINKSEC.KEYSEL_SLOT)).valid = false →
    (s.key (s.get R.LINKSEC.KEYSEL_SLOT)).idx ≠ 0 →
    (s.slotOf (s.key (s.get R.LINKSEC.KEYSEL_SLOT)).idx).isSome = true →
    Completes (.linksecKeyLoad who) s (fun t => t.get (R.HDR.REASON 0x42) = RC.CONFLICT ∧
      t.keys = s.keys ∧
      t.sched.stagedKey = [])) ∧
  (∀ (who : Requester) (s : State),
    Works s who 0x42 0x3C →
    (s.get R.LINKSEC.KEYSEL_SLOT = s.get R.LINKSEC.TXKEY_NET ∨ (s.bit R.LINKSEC.KSW1_ARM = true ∧ s.get R.LINKSEC.KEYSEL_SLOT = s.get R.LINKSEC.KSW1_NEXT)) →
    Completes (.linksecKeyErase who) s (fun t => t.get (R.HDR.REASON 0x42) = 0x40 ∧
      t.keys = s.keys ∧
      t.sched.stagedKey = []))

/-- The medium that E4 chooses for a frame in a cell is eligible; where some eligible medium's estimate reaches MINQ the chosen one's does, and no such medium costs less; an eligible medium exists exactly where one is chosen. -/
def Obligations.MediumChoice : Prop :=
  (∀ (s : State) (c : Cell) (f : LinkFrame) (m : Medium),
    s.cheapest c f none = some m →
    s.eligible c f m = true ∧
    (∀ k ∈ media3, s.eligible c f k = true → s.now R.SCHED.LQE_MINQ ≤ s.estOf f k →
          s.now R.SCHED.LQE_MINQ ≤ s.estOf f m ∧ s.cost c f m ≤ s.cost c f k)) ∧
  (∀ (s : State) (c : Cell) (f : LinkFrame),
    s.cheapest c f none = none ↔ ∀ k ∈ media3, s.eligible c f k = false)

/-- A scan starts with no results; a join by index and JOIN_BEST take the result's sender as time source, set up the join slotframe and queue the request in JOINING; an abort and the scan's timeout end in SCAN_DONE; an unanswered request goes out again while tries are left, and the last one fails the join with NO_RESPONSE (0x43). -/
def Obligations.JoiningANetwork : Prop :=
  (∀ (who : Requester) (s : State),
    Works s who 0x44 0x34 →
    (s.joinSt = 0 ∨ s.joinSt = 2 ∨ s.joinSt = 5) →
    Completes (.meshScan who) s (fun t => t.get R.MESH.STAT_JOIN_ST = 1 ∧
      t.mesh.results = [])) ∧
  (∀ (who : Requester) (r : ScanRes) (n : Nbr) (s : State),
    Works s who 0x44 0x34 →
    s.joinSt = 2 →
    s.mesh.results[0]? = some r →
    r.admits = true →
    s.freeKeySlot.isSome = true →
    s.sfConflict r = false →
    (s.needNbr r.ext).2 = some n →
    n.idx < 256 →
    Completes (.meshJoin who 0) s (fun t => t.get R.MESH.STAT_JOIN_ST = 3 ∧
      t.mesh.target = some r ∧
      t.mesh.tries = 1 ∧
      t.get R.SCHED.STAT_SOURCE = n.idx ∧
      t.get (R.SCHED.SF_EN r.joinSf) ≠ 0 ∧
      t.sched.queue.any (fun f => decide (f.kind = .command 0x01) && f.joinKey && Nat.beq f.ext r.ext))) ∧
  (∀ (who : Requester) (r : ScanRes) (n : Nbr) (s : State),
    Works s who 0x44 0x34 →
    s.joinSt = 2 →
    s.mesh.results.find? (fun r => r.admits) = some r →
    r.admits = true →
    s.freeKeySlot.isSome = true →
    s.sfConflict r = false →
    (s.needNbr r.ext).2 = some n →
    n.idx < 256 →
    Completes (.meshJoinBest who) s (fun t => t.get R.MESH.STAT_JOIN_ST = 3 ∧
      t.mesh.target = some r ∧
      t.mesh.tries = 1 ∧
      t.get R.SCHED.STAT_SOURCE = n.idx ∧
      t.get (R.SCHED.SF_EN r.joinSf) ≠ 0 ∧
      t.sched.queue.any (fun f => decide (f.kind = .command 0x01) && f.joinKey && Nat.beq f.ext r.ext))) ∧
  (∀ (who : Requester) (s : State),
    Works s who 0x44 0x34 →
    s.joinSt = 1 →
    Completes (.meshAbort who) s (fun t => t.get R.MESH.STAT_JOIN_ST = 2)) ∧
  (∀ (s : State),
    s.joinSt = 1 →
    s.compat.joining = false →
    Completes (.scanTimeout) s (fun t => t.get R.MESH.STAT_JOIN_ST = 2)) ∧
  (∀ (r : ScanRes) (s : State),
    s.mesh.target = some r →
    s.joinSt = 3 →
    s.mesh.tries < s.get R.MESH.JOINWAIT_TRIES →
    Completes (.joinWaitExpiry) s (fun t => t.mesh.tries = s.mesh.tries + 1 ∧
      t.sched.queue.any (fun f => decide (f.kind = .command 0x01) && f.joinKey && Nat.beq f.ext r.ext) ∧
      t.regs = s.regs)) ∧
  (∀ (r : ScanRes) (s : State),
    s.mesh.target = some r →
    s.joinSt = 3 →
    s.get R.MESH.JOINWAIT_TRIES ≤ s.mesh.tries →
    Completes (.joinWaitExpiry) s (fun t => t.get R.MESH.STAT_JOIN_ST = 5 ∧
      t.get (R.HDR.REASON 0x44) = 0x43 ∧
      t.mesh.target = none))

/-- At the head of E5's mailbox, JOIN_RELAY of a PRELOADED node admits it under the relaying ROUTER; JOIN_ANSWER with a refusal goes out to the joiner and ends the relay; PARENT_UPDATE of a JOINED node records its parent; LEAVE frees the node's entry; ROUTE_ERR marks the failed hop UNREACHABLE. -/
def Obligations.MeshCommands : Prop :=
  (∀ (o : Offer) (e : Assoc) (s : State),
    s.isCoord = true ∧ s.assoc.busy = false →
    MeshHead s 0x01 o →
    o.peer ≠ 0 →
    (s.mailPop 5).lookupExt (o.field 0 8) = some e →
    e.state = 1 →
    Completes (.meshcmdJoinRelay) s (fun t => (t.assoc? e.idx).any (fun x => Nat.beq x.state 3 && Nat.beq x.parent o.peer && Nat.beq x.ext e.ext) ∧
      Counted (s.mailPop 5) t R.ASSOC.CNT0_ADMIT)) ∧
  (∀ (o : Offer) (r : Relay) (s : State),
    MeshHead s 0x02 o →
    (s.mailPop 5).mesh.relays.find? (fun r => Nat.beq r.ext (o.field 0 8)) = some r →
    o.field 8 1 ≠ 0 →
    Completes (.meshcmdJoinAnswer) s (fun t => t.mesh.relays = (s.mailPop 5).mesh.relays.filter (fun x => !Nat.beq x.ext r.ext) ∧
      t.sched.queue.any (fun f => decide (f.kind = .command 0x02) && f.joinKey && Nat.beq f.ext r.ext))) ∧
  (∀ (o : Offer) (e : Assoc) (s : State),
    s.isCoord = true →
    MeshHead s 0x03 o →
    o.field 0 2 = 0 ∧ o.peer ≠ 0 →
    (s.mailPop 5).assocOf o.peer = some e →
    e.state = 3 →
    Completes (.meshcmdParentUpdate) s (fun t => t.assoc? e.idx = some { e with parent := 0 })) ∧
  (∀ (o : Offer) (e : Assoc) (s : State),
    (s.mailPop 5).isCoord = true →
    MeshHead s 0x04 o →
    (s.mailPop 5).lookupExt (o.field 0 8) = some e →
    Completes (.meshcmdLeave) s (fun t => (t.assoc? e.idx).any (fun x => Nat.beq x.state 0 && Nat.beq x.ext e.ext))) ∧
  (∀ (o : Offer) (e : Assoc) (s : State),
    s.isCoord = true →
    MeshHead s 0x05 o →
    (s.mailPop 5).assocOf (o.field 0 2) = some e →
    Completes (.meshcmdRouteErr) s (fun t => t.assoc? e.idx = some { e with unreach := true }))

/-- Each command ends with RES: a lookup and NEXT_PENDING name the entry they find or answer NOT_FOUND; PRELOAD allocates an entry; APPROVE admits a PENDING node under its ROUTER and DENY and the approval timeout free it; DELETE frees an entry that never joined; REHASH draws a salt and is busy until the rebuild ends; an entry unheard for AGE_D days becomes STALE; the log takes the changed entries; a restore from bank 0 keeps the table and says so in SNAPSTAT, and without any source the table is empty. -/
def Obligations.AssociationTable : Prop :=
  (∀ (who : Requester) (e : Assoc) (s : State),
    Works s who 0x45 0x28 →
    s.standby = false ∧ s.assoc.busy = false →
    s.lookupExt s.stagedExt = some e →
    Completes (.assocLookup who) s (fun t => t.get R.ASSOC.RES_INDEX = e.idx % 2 ^ R.ASSOC.RES_INDEX.width ∧
      t.get R.ASSOC.RES_FOUND = 1 ∧
      t.get R.ASSOC.RES_DONE = 1 ∧
      t.assoc = s.assoc)) ∧
  (∀ (who : Requester) (e : Assoc) (s : State),
    Works s who 0x45 0x28 →
    s.standby = false ∧ s.assoc.busy = false →
    s.assoc.table.find? (fun e => Nat.ble 0 e.idx && Nat.beq e.state 2) = some e →
    Completes (.assocNextPending who 0) s (fun t => t.get R.ASSOC.RES_INDEX = e.idx % 2 ^ R.ASSOC.RES_INDEX.width ∧
      t.get R.ASSOC.RES_FOUND = 1 ∧
      t.get R.ASSOC.RES_DONE = 1 ∧
      t.assoc = s.assoc)) ∧
  (∀ (who : Requester) (s : State),
    Works s who 0x45 0x28 →
    s.standby = false ∧ s.assoc.busy = false →
    s.lookupExt s.stagedExt = none →
    Completes (.assocLookup who) s (fun t => t.get R.ASSOC.RES_FOUND = 0 ∧
      t.get R.ASSOC.RES_DONE = 1 ∧
      t.get (R.HDR.REASON 0x45) = 0x40 ∧
      t.assoc = s.assoc)) ∧
  (∀ (who : Requester) (s : State),
    Works s who 0x45 0x28 →
    s.standby = false ∧ s.assoc.busy = false →
    s.assoc.table.find? (fun e => Nat.ble 3 e.idx && Nat.beq e.state 2) = none →
    Completes (.assocNextPending who 3) s (fun t => t.get R.ASSOC.RES_FOUND = 0 ∧
      t.get R.ASSOC.RES_DONE = 1 ∧
      t.get (R.HDR.REASON 0x45) = 0x40 ∧
      t.assoc = s.assoc)) ∧
  (∀ (who : Requester) (e : Assoc) (s : State),
    Works s who 0x45 0x28 →
    s.standby = false ∧ s.assoc.busy = false →
    s.lookupExt s.stagedExt = none →
    (s.allocate s.stagedExt).2 = some e →
    Completes (.assocPreload who) s (fun t => t.assoc? e.idx = some { e with state := 1, seen := s.get R.SYS.OPSEC_SEC } ∧
      t.get R.ASSOC.RES_INDEX = e.idx % 2 ^ R.ASSOC.RES_INDEX.width ∧
      t.get R.ASSOC.RES_FOUND = 1)) ∧
  (∀ (who : Requester) (idx : BitVec 14) (e : Assoc) (s : State),
    Works s who 0x45 0x28 →
    s.standby = false ∧ s.assoc.busy = false →
    s.assoc? idx.toNat = some e →
    e.state = 2 ∧ e.relay ≠ 0 →
    Completes (.assocApprove who idx) s (fun t => (t.assoc? idx.toNat).any (fun x => Nat.beq x.state 3 && Nat.beq x.parent e.relay && Nat.beq x.ext e.ext) ∧
      Counted s t R.ASSOC.CNT0_ADMIT ∧
      t.get R.ASSOC.RES_FOUND = 1)) ∧
  (∀ (who : Requester) (idx : BitVec 14) (e : Assoc) (s : State),
    Works s who 0x45 0x28 ∧ s.standby = false ∧ s.assoc.busy = false →
    s.assoc? idx.toNat = some e →
    e.state = 2 ∧ e.relay ≠ 0 →
    Completes (.assocDeny who idx) s (fun t => (t.assoc? idx.toNat).any (fun x => Nat.beq x.state 0) ∧
      Counted s t R.ASSOC.CNT0_DENY)) ∧
  (∀  (idx : BitVec 14) (e : Assoc) (s : State),
    s.assoc.busy = false →
    s.assoc? idx.toNat = some e →
    e.state = 2 ∧ e.relay ≠ 0 →
    Completes (.approveTimeout idx) s (fun t => (t.assoc? idx.toNat).any (fun x => Nat.beq x.state 0) ∧
      Counted s t R.ASSOC.CNT0_TIMEOUT)) ∧
  (∀ (who : Requester) (idx : BitVec 14) (e : Assoc) (s : State),
    Works s who 0x45 0x28 →
    s.standby = false ∧ s.assoc.busy = false →
    s.assoc? idx.toNat = some e →
    e.state = 1 →
    Completes (.assocDelete who idx) s (fun t => (t.assoc? idx.toNat).any (fun x => Nat.beq x.state 0) ∧
      t.assoc.index = s.assoc.index.filter (fun x => !Nat.beq x.2 e.idx) ∧
      t.get R.ASSOC.RES_FOUND = 1)) ∧
  (∀ (who : Requester) (s : State),
    Works s who 0x45 0x28 →
    s.standby = false ∧ s.assoc.busy = false →
    Completes (.assocRehash who) s (fun t => t.assoc.busy = true ∧
      t.assoc.salt.isSome ∧
      t.assoc.table = s.assoc.table ∧
      t.get R.ASSOC.RES_DONE = 0)) ∧
  (∀ (s : State),
    s.assoc.busy = true →
    Completes (.rehashComplete) s (fun t => t.assoc.busy = false ∧
      t.assoc.table = s.assoc.table ∧
      t.get R.ASSOC.RES_DONE = 1)) ∧
  (∀ (idx : BitVec 14) (e : Assoc) (s : State),
    s.assoc? idx.toNat = some e →
    e.state ≠ 0 ∧ e.stale = false →
    e.seen + 86400 * s.get R.ASSOC.CFG_AGE_D < s.get R.SYS.OPSEC_SEC →
    Completes (.entryStale idx) s (fun t => t.assoc? idx.toNat = some { e with stale := true } ∧
      Counted s t R.ASSOC.CNT1_STALE)) ∧
  (∀ (b : SnapBase) (s : State),
    s.enabled 0x45 = true →
    s.assoc.snapA = some b →
    s.assoc.snapLog.length + s.assoc.dirty.length < 87381 →
    Completes (.snapstotAppend) s (fun t => t.assoc.snapLog = s.assoc.snapLog ++ s.assoc.dirty.filterMap s.assoc? ∧
      t.assoc.table = s.assoc.table ∧
      ((s.assoc.dirty.filterMap s.assoc?) ≠ [] → t.assoc.dirty = []))) ∧
  (∀ (s : State),
    s.bit R.ASSOC.STAT_RESTORING = true →
    s.bank0Ok = true →
    Completes (.tableRestoreComplete) s (fun t => t.get R.ASSOC.STAT_RESTORING = 0 ∧
      t.get R.ASSOC.SNAPSTAT_SRC = 0 ∧
      t.assoc.table = s.assoc.table)) ∧
  (∀ (s : State),
    s.bit R.ASSOC.STAT_RESTORING = true →
    s.bank0Ok = false →
    s.assoc.snapA = none ∧ s.assoc.snapB = none →
    Completes (.tableRestoreComplete) s (fun t => t.get R.ASSOC.STAT_RESTORING = 0 ∧
      t.get R.ASSOC.SNAPSTAT_SRC = 3 ∧
      t.assoc.table = []))

/-- A SEND that nothing refuses is in progress with its body taken from the buffer, one that is refused leaves its code in REASON; when its record is in flash the message is in the queue; an engine's SEND enters the queue at once; a CANCEL, and the end of its lifetime, completes an unresolved message CANCELLED and EXPIRED; an admitted message has its session and number; an attempt that times out is followed by another or ends NO_ACK; an attempt starts and is counted; a read of DONE1 takes the oldest completion. -/
def Obligations.MessageCommands : Prop :=
  (∀ (who : Requester) (s : State),
    Works s who 0x48 0x48 →
    s.msg.cmd = none →
    s.sendCheck s.txDesc = 0 →
    inBank3 s.txDesc.addr s.txDesc.len = true →
    Completes (.msgSend who) s (fun t => t.msg.cmd = some (s.newMsg 12 0 s.txDesc.dest s.txDesc.cls s.txDesc.kind s.txDesc.ptype (s.sramList s.txDesc.addr s.txDesc.len) s.txDesc.msgid) ∧
      t.msg.nextNum = s.msg.nextNum + 1 ∧
      t.msg.queue = s.msg.queue)) ∧
  (∀ (who : Requester) (s : State),
    Works s who 0x48 0x48 →
    s.msg.cmd = none →
    s.sendCheck s.txDesc ≠ 0 →
    Completes (.msgSend who) s (fun t => t.get (R.HDR.REASON 0x48) = s.sendCheck s.txDesc ∧
      t.get (R.HDR.ERRINFO 0x48) = 0x48 ∧
      t.msg = s.msg)) ∧
  (∀ (m : Msg) (s : State),
    s.msg.cmd = some m →
    s.mirroring = false →
    s.queueFull m.body.length = false →
    m.who = 12 ∧ s.msg? m.num = none →
    Completes (.msgSendComplete) s (fun t => t.msg.cmd = none ∧
      t.msg.queue.any (fun x => Nat.beq x.num m.num && Nat.beq x.dest m.dest && decide (x.body = m.body)))) ∧
  (∀ (e : Fin 12) (tag : Half) (txd0 txd1 txd2 txd3 : Word) (s : State),
    s.enabled 0x48 = true →
    s.mirroring = false →
    s.sendCheck (Desc4.ofWords txd0.toNat txd1.toNat txd2.toNat txd3.toNat) = 0 →
    inSlice e txd1.toNat (txd2.toNat % 2 ^ 12) = true →
    s.queueFull (txd2.toNat % 2 ^ 12) = false →
    s.msg? s.msg.nextNum = none →
    Completes (.mboxMsgSend e tag txd0 txd1 txd2 txd3) s (fun t => t.msg.queue.any (fun x => Nat.beq x.num s.msg.nextNum && Nat.beq x.who e && Nat.beq x.dest (txd0.toNat % 2 ^ 16)))) ∧
  (∀ (e : Fin 12) (tag : Half) (txd0 txd1 txd2 txd3 : Word) (s : State),
    s.enabled 0x48 = true →
    s.sendCheck (Desc4.ofWords txd0.toNat txd1.toNat txd2.toNat txd3.toNat) ≠ 0 →
    Completes (.mboxMsgSend e tag txd0 txd1 txd2 txd3) s (fun t => t.msg = s.msg ∧
      t = s.answer 6 e 0x81 tag.toNat 0 (s.sendCheck (Desc4.ofWords txd0.toNat txd1.toNat txd2.toNat txd3.toNat)) 0 0)) ∧
  (∀ (who : Requester) (m : Msg) (s : State),
    Works s who 0x48 0x48 →
    s.mirroring = false →
    s.msg.queue.find? (fun m => Nat.beq m.who 12 && unresolved m && Nat.beq m.msgid (s.get R.MSG.TXD3_MSGID)) = some m →
    s.msg? m.num = some m →
    s.msg.fifo.length < 64 →
    Completes (.msgCancel who) s (fun t => t.msg? m.num = none ∧
      t.msg.fifo = s.msg.fifo ++ [{ msgid := m.msgid, status := 8, cls := m.cls }])) ∧
  (∀ (e : Fin 12) (tag : Half) (msgid : Word) (m : Msg) (s : State),
    s.mirroring = false →
    s.msg.queue.find? (fun m => Nat.beq m.who e && unresolved m && Nat.beq m.msgid msgid.toNat) = some m →
    s.msg? m.num = some m →
    (s.eng e).image = true ∧ (s.eng e).mailbox.length < 8 →
    Completes (.mboxMsgCancel e tag msgid) s (fun t => t.msg? m.num = none ∧
      (t.eng e).mailbox = (s.eng e).mailbox ++ [Mail.mk4 6 0x82 m.tag m.msgid (8 + 16 * m.cls) 0 0])) ∧
  (∀ (rec : Word) (m : Msg) (s : State),
    s.msg? rec.toNat = some m →
    s.mirroring = false →
    m.who = 12 ∧ m.done = none →
    s.msg.fifo.length < 64 →
    m.born + 60 * s.get (R.MSG.CLS_LIFE_MIN m.cls) ≤ s.get R.SYS.OPSEC_SEC →
    Completes (.messageExpired rec) s (fun t => t.msg? rec.toNat = none ∧
      t.msg.fifo = s.msg.fifo ++ [{ msgid := m.msgid, status := 3, cls := m.cls }] ∧
      Counted s t R.MSG.CNT2_EXPIRED)) ∧
  (∀ (rec : Word) (m : Msg) (p : Peer) (s : State),
    s.msg? rec.toNat = some m →
    m.phase = 0 ∧ m.kind = 0 ∧ m.who = 12 →
    s.peer? m.dest = some p →
    p.txSess ≠ 0 ∧ p.nextId ≤ p.blockEnd ∧ p.nextId < 2 ^ 32 →
    s.msg.queue.filter (fun x => unresolved x && Nat.beq x.dest m.dest) = [] →
    0 < s.get R.MSG.CFG_INFLIGHT →
    s.joined = false →
    Completes (.messageAdmitted rec) s (fun t => (t.msg? rec.toNat).any (fun x => Nat.beq x.sess p.txSess && Nat.beq x.msgid p.nextId && Nat.beq x.attempts (m.attempts + 1)) ∧
      (t.peer? m.dest).any (fun x => Nat.beq x.nextId (p.nextId + 1)))) ∧
  (∀ (rec : Word) (m : Msg) (s : State),
    s.msg? rec.toNat = some m →
    m.phase = 1 ∧ m.left = [] →
    m.attempts < s.get (R.MSG.CLS_ATTEMPTS m.cls) →
    Completes (.attemptTimeout rec) s (fun t => t.msg? rec.toNat = some { m with phase := 2, left := [] } ∧
      t.regs = s.regs)) ∧
  (∀ (rec : Word) (m : Msg) (s : State),
    s.msg? rec.toNat = some m →
    m.phase = 1 ∧ m.left = [] ∧ m.who = 12 ∧ m.done = none →
    s.get (R.MSG.CLS_ATTEMPTS m.cls) ≤ m.attempts →
    s.mirroring = false ∧ s.msg.fifo.length < 64 →
    Completes (.attemptTimeout rec) s (fun t => t.msg? rec.toNat = none ∧
      t.msg.fifo = s.msg.fifo ++ [{ msgid := m.msgid, status := 2, cls := m.cls }] ∧
      Counted s t R.MSG.CNT2_FAILED)) ∧
  (∀ (rec : Word) (m : Msg) (s : State),
    s.msg? rec.toNat = some m →
    m.phase = 2 ∧ m.done = none ∧ m.parked = 0 →
    s.joined = false →
    Completes (.attemptStart rec) s (fun t => t.msg? rec.toNat = some { m with phase := 3, parked := 2, left := [], attempts := m.attempts + 1 })) ∧
  (∀ (rec : Word) (m : Msg) (n : Nbr) (s : State),
    s.msg? rec.toNat = some m →
    m.phase = 2 ∧ m.body = [] ∧ m.kind = 0 →
    s.joined = true ∧ s.isCoord = false ∧ s.mode = .service →
    m.dest ≠ 0xFFFF →
    s.parent = some n →
    n.child = false →
    Completes (.attemptStart rec) s (fun t => (t.msg? rec.toNat).any (fun x => Nat.beq x.phase 1 && Nat.beq x.attempts (m.attempts + 1) && decide (x.left = [0])) ∧
      t.sched.queue.any (fun f => Nat.beq f.msg m.num && Nat.beq f.dest n.idx && Nat.beq f.num s.sched.nextNum))) ∧
  (∀ (who : Requester) (d : Done) (l : List Done) (s : State),
    Reaches s who 0x48 0x64 false →
    s.msg.fifo = d :: l →
    s.msg.queue.filter (fun m => m.done.isSome) = [] →
    Completes (.msgDonePop who) s (fun t => t.msg.fifo = l ∧
      t.lastRead = d.status + 16 * d.cls + 256))

/-- A fragment of a message already taken is counted DUP and offers nothing; a context whose timer ends is dropped and counted; a write of RXTAIL inside the written region moves it, and one outside is refused; the pop of a mailbox takes its head; a restore rebuilds the queue so that messages with an ID begin a new attempt; a kept RSP is released at its lifetime's end. -/
def Obligations.ReceptionAndRestore : Prop :=
  (∀ (s : State) (src : Nat) (pay : List Byte) (p : Peer),
    pay.length = 12 →
    (pay.getD 0 0).toNat % 8 = 0 →
    (pay.getD 10 0).toNat = 1 ∧ (pay.getD 11 0).toNat = 0 ∧ (pay.getD 8 0).toNat = 0 ∧ (pay.getD 9 0).toNat = 0 →
    s.peer? src = some p →
    p.cur = (pay.getD 1 0).toNat + 256 * (pay.getD 2 0).toNat →
    ofLe (slice pay 3 4) ≤ p.high ∧ p.high < ofLe (slice pay 3 4) + 64 →
    p.map.testBit (p.high - ofLe (slice pay 3 4)) = true →
    (s.fragment src pay).msg = s.msg ∧
    Counted s (s.fragment src pay) R.MSG.CNT1_DUP) ∧
  (∀ (peer : Half) (msgid : Word) (s : State),
    s.msg.contexts.any (fun c => Nat.beq c.peer peer.toNat && Nat.beq c.msgid msgid.toNat && !c.complete) = true →
    Completes (.reassemblyTimeout peer msgid) s (fun t => t.msg.contexts = s.msg.contexts.filter (fun c => !(Nat.beq c.peer peer.toNat && Nat.beq c.msgid msgid.toNat && !c.complete)) ∧
      Counted s t R.MSG.CNT1_REASM_DROP)) ∧
  (∀ (who : Requester) (value : Word) (s : State),
    Writes s who 0x48 0x5C →
    s.msg.offers = [] →
    R.MSG.RXTAIL_OFFSET.of value.toNat < s.get R.MSG.RXSIZE_BYTES →
    s.get R.MSG.RXTAIL_OFFSET ≤ R.MSG.RXTAIL_OFFSET.of value.toNat →
    R.MSG.RXTAIL_OFFSET.of value.toNat ≤ s.get R.MSG.RXHEAD_OFFSET ∧ s.get R.MSG.RXHEAD_OFFSET < s.get R.MSG.RXSIZE_BYTES →
    Completes (.rxtailWrite who value) s (fun t => t.get R.MSG.RXTAIL_OFFSET = R.MSG.RXTAIL_OFFSET.of value.toNat)) ∧
  (∀ (who : Requester) (value : Word) (s : State),
    Writes s who 0x48 0x5C →
    max (s.get R.MSG.RXSIZE_BYTES) 1 ≤ R.MSG.RXTAIL_OFFSET.of value.toNat →
    Completes (.rxtailWrite who value) s (fun t => t.get (R.HDR.REASON 0x48) = RC.BAD_VALUE ∧
      t.get (R.HDR.ERRINFO 0x48) = 0x5C ∧
      t.get R.MSG.RXTAIL_OFFSET = s.get R.MSG.RXTAIL_OFFSET ∧
      t.msg = s.msg)) ∧
  (∀ (e : Fin 12) (m : Mail) (l : List Mail) (s : State),
    (s.eng e).mailbox = m :: l →
    m.type ≠ 0x83 →
    s.msg.offers = [] ∧ s.msg.queue.filter (fun m => m.done.isSome) = [] →
    Completes (.mailboxPop e) s (fun t => (t.eng e).mailbox = l ∧
      t.msg = s.msg)) ∧
  (∀ (s : State),
    s.bit R.MSG.STAT_RESTORING = true →
    Completes (.msgRestoreComplete) s (fun t => t.get R.MSG.STAT_RESTORING = 0 ∧
      t.msg.queue = s.msg.queue.map (fun m => bif Nat.beq m.phase 0 || m.done.isSome || Nat.beq m.parked 4 then m else { m with phase := 2, parked := 0, left := [] }) ∧
      t.msg.takes = s.msg.takes)) ∧
  (∀ (peer : Half) (msgid : Word) (s : State),
    Completes (.keptRspExpiry peer msgid) s (fun t => t.msg.rsps = s.msg.rsps.filter (fun r => !(Nat.beq r.peer peer.toNat && Nat.beq r.msgid msgid.toNat)) ∧
      t.regs = s.regs))

/-- With the link running and nothing unacknowledged: a HELLO with a wrong check is counted and shows MMCAUSE KEY, and an accepted HELLO of a PRIMARY makes a linking module without a role a SYNCING STANDBY under its address; a HELLO and a HEARTBEAT are sent as the state has them; a STANDBY takes its timebase from a HEARTBEAT; an ACK takes the acknowledged frames off the window; COPY and RECORD frames in order are applied and one out of order is not; retransmissions and discarded frames are counted; a bulk copy's end brings the partner to IN_SYNC where its reserves are reported. -/
def Obligations.PairLink : Prop :=
  (∀ (h : Hello) (ack : Half) (s : State),
    s.pst ≠ 0 →
    s.pair.unacked = [] →
    (h.check = 0 ∨ h.check ≠ s.keyCheck) →
    Completes (.basaltHello h ack) s (fun t => t.get R.PAIR.STAT_MMCAUSE = 1 ∧
      Counted s t R.PAIR.CNT1_MISMATCH ∧
      t.get R.PAIR.STAT_LINK_UP = 1 ∧
      t.get R.PAIR.STAT_PST = s.pst ∧
      t.get R.PAIR.STAT_ROLE = s.get R.PAIR.STAT_ROLE)) ∧
  (∀ (h : Hello) (ack : Half) (s : State),
    s.pst = 1 →
    s.get R.PAIR.STAT_ROLE = 0 →
    s.pair.unacked = [] →
    h.check ≠ 0 ∧ h.check = s.keyCheck →
    h.config = s.configCrc →
    h.primary = true ∧ h.netaddr ≠ 0 →
    Completes (.basaltHello h ack) s (fun t => t.get R.PAIR.STAT_PST = 5 ∧
      t.get R.PAIR.STAT_ROLE = 2 ∧
      t.netaddr = h.netaddr.toNat ∧
      t.sched.cells = [] ∧
      t.msg.queue = [])) ∧
  (∀ (s : State),
    (s.pst = 1 ∨ s.pst = 2 ∨ s.pst = 3 ∨ s.pst = 7) →
    Completes (.helloSend) s (fun t => t.pair.helloOut.any (fun h => (h.primary == s.isPrimary) && (h.ext == Config.extAddr) && Nat.beq h.netaddr.toNat (s.netaddr % 2 ^ 64) && (h.takeover == s.pair.takeover)) ∧
      t.regs = s.regs)) ∧
  (∀ (slotUs : Half) (s : State),
    s.pst ≠ 0 →
    Completes (.heartbeatSend slotUs) s (fun t => t.pair.beatOut.any (fun h => Nat.beq h.asn.toNat (s.sched.asn % 2 ^ 40) && (h.slotUs == slotUs) && Nat.beq h.role.toNat (s.get R.PAIR.STAT_ROLE % 4) && Nat.beq h.lastSeq.toNat (s.pair.txSeq % 2 ^ 16)) ∧
      t.regs = s.regs)) ∧
  (∀ (h : Heartbeat) (ack : Half) (s : State),
    (s.pst = 6 ∨ s.pst = 5) →
    s.pair.unacked = [] →
    h.sees = 3 →
    Completes (.basaltHeartbeat h ack) s (fun t => t.sched.asn = h.asn.toNat ∧
      t.sched.slotUs = h.slotUs.toNat ∧
      t.pair.hbSeq = h.lastSeq.toNat ∧
      t.pair.hbIn = true ∧
      t.get R.PAIR.STAT_LINK_UP = 1 ∧
      t.get R.PAIR.STAT_PST = s.pst)) ∧
  (∀ (ack : Half) (i : Nat) (s : State),
    s.pst ≠ 0 →
    s.pair.unacked.findIdx? (fun f => Nat.beq f.1 ack.toNat) = some i →
    s.pair.gated = [] ∧ s.pair.copy = [] →
    (∀ f ∈ s.pair.unacked, f.2.isSome = true) →
    Completes (.basaltAck ack) s (fun t => t.pair.unacked = s.pair.unacked.drop (i + 1) ∧
      t.get R.PAIR.STAT_LINK_UP = 1)) ∧
  (∀ (seq ack : Half) (cell : Cell) (s : State),
    s.pst = 5 →
    s.pair.unacked = [] ∧ s.pair.held = [] →
    seq.toNat = s.pair.rxSeq % 0xFFFF + 1 →
    Completes (.basaltCopy seq ack [.cell cell]) s (fun t => t.sched.cells = s.sched.cells.filter (fun (d : Cell) => !Nat.beq d.idx cell.idx) ++ [cell] ∧
      t.pair.rxSeq = seq.toNat)) ∧
  (∀ (seq ack : Half) (cell : Cell) (s : State),
    s.pst = 6 →
    s.pair.unacked = [] ∧ s.pair.held = [] →
    seq.toNat = s.pair.rxSeq % 0xFFFF + 1 →
    Completes (.basaltRecord seq ack [.cell cell]) s (fun t => t.sched.cells = s.sched.cells.filter (fun (d : Cell) => !Nat.beq d.idx cell.idx) ++ [cell] ∧
      t.pair.rxSeq = seq.toNat)) ∧
  (∀ (seq ack : Half) (objs : List Mirror) (s : State),
    s.pst = 5 →
    s.pair.unacked = [] →
    seq.toNat ≠ s.pair.rxSeq % 0xFFFF + 1 →
    Completes (.basaltCopy seq ack objs) s (fun t => t.sched = s.sched ∧
      t.pair = s.pair)) ∧
  (∀ (seq ack : Half) (objs : List Mirror) (s : State),
    s.pst = 6 →
    s.pair.unacked = [] →
    seq.toNat ≠ s.pair.rxSeq % 0xFFFF + 1 →
    Completes (.basaltRecord seq ack objs) s (fun t => t.sched = s.sched ∧
      t.pair = s.pair)) ∧
  (∀ (s : State),
    s.pair.unacked ≠ [] →
    Completes (.basaltRetxTimeout) s (fun t => Counted s t R.PAIR.CNT0_RETX ∧
      t.pair = s.pair)) ∧
  (∀ (violation : Bool) (octets : List Byte) (s : State),
    s.pst ≠ 0 →
    (violation = true ∨ basaltGood octets = false) →
    Completes (.basaltFrameDiscard violation octets) s (fun t => Counted s t R.PAIR.CNT0_CRCERR ∧
      t.pair = s.pair)) ∧
  (∀ (s : State),
    s.pst = 4 →
    s.get R.PAIR.STAT_PARTNER = 2 →
    s.pair.copy = [] ∧ s.pair.copied = false ∧ s.pair.blockSeqs = [] →
    s.pair.unacked.length < 64 →
    Completes (.bulkCopyComplete) s (fun t => t.get R.PAIR.STAT_PARTNER = 3 ∧
      t.get R.PAIR.STAT_BULK_PCT = 100 ∧
      t.pair.copied = true ∧
      Counted s t R.PAIR.CNT1_BULK))

/-- A qualified STANDBY whose partner falls silent, one handed over to, and a module whose on-air check hears nothing take over: SOLO or SERVING, with the cause and the time of the takeover recorded; a PRIMARY whose partner falls silent goes on SOLO; a change of PAIR_PRES is taken over and a linking module goes to the check when the partner's presence goes; unreported block ends and gated records are given up at their timeouts; HANDOVER needs its key and an IN_SYNC partner, and RESYNC drops a STANDBY's mirror. -/
def Obligations.TakeoverAndHandover : Prop :=
  (∀ (time : Half) (s : State),
    s.pst = 6 →
    s.qualified = true →
    s.supply.pairPresLow = true →
    Completes (.partnerSilence time) s (fun t => t.get R.PAIR.STAT_PST = 3 ∧
      t.get R.PAIR.STAT_PARTNER = 0 ∧
      t.get R.PAIR.LASTINFO_CAUSE = 1 ∧
      t.get R.PAIR.LASTINFO_TIME = time.toNat % 2 ^ R.PAIR.LASTINFO_TIME.width)) ∧
  (∀ (time : Half) (s : State),
    s.pst = 4 →
    s.pair.gated = [] →
    Completes (.partnerSilence time) s (fun t => t.get R.PAIR.STAT_PST = 3 ∧
      t.get R.PAIR.STAT_PARTNER = 0 ∧
      t.get R.PAIR.STAT_LINK_UP = 0 ∧
      t.pair.unacked = [])) ∧
  (∀ (time : Half) (s : State),
    s.pst = 2 →
    s.pair.copied = false ∧ s.pair.held = [] →
    Completes (.onairCheckEnd time) s (fun t => t.get R.PAIR.STAT_PST = 3 ∧
      t.get R.PAIR.STAT_ROLE = 1 ∧
      t.get R.PAIR.LASTINFO_CAUSE = 2 ∧
      t.pair.takeover = true)) ∧
  (∀ (seq ack time : Half) (s : State),
    s.pst = 6 →
    s.pair.unacked = [] →
    seq.toNat = s.pair.rxSeq % 0xFFFF + 1 →
    Completes (.basaltHandover seq ack time) s (fun t => t.get R.PAIR.STAT_PST = 4 ∧
      t.get R.PAIR.STAT_PARTNER = 2 ∧
      t.get R.PAIR.LASTINFO_CAUSE = 3)) ∧
  (∀ (low : Bool) (s : State),
    s.supply.pairPresLow ≠ low →
    s.pst = 0 →
    Completes (.pairPresChange low) s (fun t => t.supply.pairPresLow = low ∧
      t.get R.PAIR.STAT_PST = 0)) ∧
  (∀ (s : State),
    s.supply.pairPresLow = true →
    s.pst = 1 →
    Completes (.pairPresChange false) s (fun t => t.supply.pairPresLow = false ∧
      t.get R.PAIR.STAT_PST = 2 ∧
      t.get R.PAIR.STAT_PARTNER = 0)) ∧
  (∀ (s : State),
    s.pair.gated ≠ [] →
    Completes (.gatedAckTimeout) s (fun t => t.get R.PAIR.STAT_PARTNER = 0)) ∧
  (∀ (s : State),
    s.pair.blockSeqs ≠ [] →
    s.pair.gated = [] →
    Completes (.reserveReportTimeout) s (fun t => t.get R.PAIR.STAT_PARTNER = 0 ∧
      t.pair.blockSeqs = [] ∧
      t.pair.unacked = [])) ∧
  (∀ (who : Requester) (s : State),
    Works s who 0x4C 0x28 →
    s.pst = 4 ∧ s.isPrimary = true →
    s.get R.PAIR.STAT_PARTNER = 3 →
    s.pair.handover = false →
    Completes (.pairHandover who 0xA55A) s (fun t => t.pair.handover = true ∧
      t.pair.unacked = s.pair.unacked ++ [(s.pair.txSeq % 0xFFFF + 1, none)] ∧
      Counted s t R.PAIR.CNT0_HANDOVER)) ∧
  (∀ (who : Requester) (key : Half) (s : State),
    Works s who 0x4C 0x28 →
    key ≠ 0xA55A →
    Completes (.pairHandover who key) s (fun t => t.get (R.HDR.REASON 0x4C) = 0x41 ∧
      t.get (R.HDR.ERRINFO 0x4C) = 0x28 ∧
      t.pair = s.pair)) ∧
  (∀ (who : Requester) (key : Half) (s : State),
    Works s who 0x4C 0x28 →
    key ≠ 0xA55A →
    Completes (.pairResync who key) s (fun t => t.get (R.HDR.REASON 0x4C) = 0x41 ∧
      t.get (R.HDR.ERRINFO 0x4C) = 0x28 ∧
      t.pair = s.pair)) ∧
  (∀ (who : Requester) (s : State),
    Works s who 0x4C 0x28 →
    s.pst = 6 →
    Completes (.pairResync who 0xA55A) s (fun t => t.get R.PAIR.STAT_PST = 1 ∧
      t.sched.nbrs = [] ∧
      t.msg.queue = []))

/-- For every running engine, register and operand with the condition holding: MOV, ADD, ADC, SUB, SBC, AND, OR, XOR, CMP and TST complete; Gd takes the result (CMP and TST write no register), Z, N, C and V are as the flag table says (C the carry or the borrow, V signed overflow of the exact sum or difference), MOV keeps FLAGS, PC goes past the instruction and nothing else changes. -/
def Obligations.FlintByteArithmetic : Prop :=
  (∀ (k : Fin 12) (cond : BitVec 3) (d : BitVec 3) (src : Src8) (s : State),
    Runs s k (words8 src) →
    Passes s k cond →
    exec (.mov k cond d src) s = .next (Past s k (words8 src) (fun e => { e with g := e.g.put d (e.src8 src) }))) ∧
  (∀ (k : Fin 12) (cond : BitVec 3) (d : BitVec 3) (src : Src8) (s : State),
    Runs s k (words8 src) →
    Passes s k cond →
    exec (.add k cond d src) s = .next (Past s k (words8 src) (fun e =>
      let a := e.g.get d; let b := e.src8 src; let r := a + b
      { e with g := e.g.put d r, flags := ⟨Nat.ble 256 (a.toNat + b.toNat), r == 0, r.msb, decide (a.toInt + b.toInt ≠ r.toInt)⟩ }))) ∧
  (∀ (k : Fin 12) (cond : BitVec 3) (d : BitVec 3) (src : Src8) (s : State),
    Runs s k (words8 src) →
    Passes s k cond →
    exec (.adc k cond d src) s = .next (Past s k (words8 src) (fun e =>
      let a := e.g.get d; let b := e.src8 src; let r := a + b + BitVec.ofNat 8 e.flags.c.toNat
      { e with g := e.g.put d r, flags := ⟨Nat.ble 256 (a.toNat + b.toNat + e.flags.c.toNat), r == 0, r.msb, decide (a.toInt + b.toInt + e.flags.c.toNat ≠ r.toInt)⟩ }))) ∧
  (∀ (k : Fin 12) (cond : BitVec 3) (d : BitVec 3) (src : Src8) (s : State),
    Runs s k (words8 src) →
    Passes s k cond →
    exec (.sub k cond d src) s = .next (Past s k (words8 src) (fun e =>
      let a := e.g.get d; let b := e.src8 src; let r := a - b
      { e with g := e.g.put d r, flags := ⟨Nat.blt a.toNat b.toNat, r == 0, r.msb, decide (a.toInt - b.toInt ≠ r.toInt)⟩ }))) ∧
  (∀ (k : Fin 12) (cond : BitVec 3) (d : BitVec 3) (src : Src8) (s : State),
    Runs s k (words8 src) →
    Passes s k cond →
    exec (.sbc k cond d src) s = .next (Past s k (words8 src) (fun e =>
      let a := e.g.get d; let b := e.src8 src; let r := a - b - BitVec.ofNat 8 e.flags.c.toNat
      { e with g := e.g.put d r, flags := ⟨Nat.blt a.toNat (b.toNat + e.flags.c.toNat), r == 0, r.msb, decide (a.toInt - b.toInt - e.flags.c.toNat ≠ r.toInt)⟩ }))) ∧
  (∀ (k : Fin 12) (cond : BitVec 3) (d : BitVec 3) (src : Src8) (s : State),
    Runs s k (words8 src) →
    Passes s k cond →
    exec (.and k cond d src) s = .next (Past s k (words8 src) (fun e =>
      let a := e.g.get d; let b := e.src8 src; let r := a &&& b
      { e with g := e.g.put d r, flags := ⟨e.flags.c, r == 0, r.msb, false⟩ }))) ∧
  (∀ (k : Fin 12) (cond : BitVec 3) (d : BitVec 3) (src : Src8) (s : State),
    Runs s k (words8 src) →
    Passes s k cond →
    exec (.or k cond d src) s = .next (Past s k (words8 src) (fun e =>
      let a := e.g.get d; let b := e.src8 src; let r := a ||| b
      { e with g := e.g.put d r, flags := ⟨e.flags.c, r == 0, r.msb, false⟩ }))) ∧
  (∀ (k : Fin 12) (cond : BitVec 3) (d : BitVec 3) (src : Src8) (s : State),
    Runs s k (words8 src) →
    Passes s k cond →
    exec (.xor k cond d src) s = .next (Past s k (words8 src) (fun e =>
      let a := e.g.get d; let b := e.src8 src; let r := a ^^^ b
      { e with g := e.g.put d r, flags := ⟨e.flags.c, r == 0, r.msb, false⟩ }))) ∧
  (∀ (k : Fin 12) (cond : BitVec 3) (d : BitVec 3) (src : Src8) (s : State),
    Runs s k (words8 src) →
    Passes s k cond →
    exec (.cmp k cond d src) s = .next (Past s k (words8 src) (fun e =>
      let a := e.g.get d; let b := e.src8 src; let r := a - b
      { e with flags := ⟨Nat.blt a.toNat b.toNat, r == 0, r.msb, decide (a.toInt - b.toInt ≠ r.toInt)⟩ }))) ∧
  (∀ (k : Fin 12) (cond : BitVec 3) (d : BitVec 3) (src : Src8) (s : State),
    Runs s k (words8 src) →
    Passes s k cond →
    exec (.tst k cond d src) s = .next (Past s k (words8 src) (fun e =>
      let r := e.g.get d &&& e.src8 src
      { e with flags := ⟨e.flags.c, r == 0, r.msb, false⟩ })))

/-- INC, DEC, NOT, NEG, SHL, SHR, ASR, ROL, ROR, SWAP and CLR of a running engine, the condition holding, write Gd and FLAGS as R391 and R392 say, move PC past the instruction and change nothing else. -/
def Obligations.FlintUnary : Prop :=
  (∀ (k : Fin 12) (cond : BitVec 3) (d : BitVec 3) (s : State),
    Runs s k 1 →
    Passes s k cond →
    exec (.inc k cond d) s = .next (Past s k 1 (fun e =>
      let a := e.g.get d; let r := a + 1
      { e with g := e.g.put d r, flags := ⟨e.flags.c, r == 0, r.msb, a == 0x7F⟩ }))) ∧
  (∀ (k : Fin 12) (cond : BitVec 3) (d : BitVec 3) (s : State),
    Runs s k 1 →
    Passes s k cond →
    exec (.dec k cond d) s = .next (Past s k 1 (fun e =>
      let a := e.g.get d; let r := a - 1
      { e with g := e.g.put d r, flags := ⟨e.flags.c, r == 0, r.msb, a == 0x80⟩ }))) ∧
  (∀ (k : Fin 12) (cond : BitVec 3) (d : BitVec 3) (s : State),
    Runs s k 1 →
    Passes s k cond →
    exec (.not k cond d) s = .next (Past s k 1 (fun e =>
      let a := e.g.get d; let r := ~~~a
      { e with g := e.g.put d r, flags := ⟨e.flags.c, r == 0, r.msb, false⟩ }))) ∧
  (∀ (k : Fin 12) (cond : BitVec 3) (d : BitVec 3) (s : State),
    Runs s k 1 →
    Passes s k cond →
    exec (.neg k cond d) s = .next (Past s k 1 (fun e =>
      let a := e.g.get d; let r := 0 - a
      { e with g := e.g.put d r, flags := ⟨a != 0, r == 0, r.msb, a == 0x80⟩ }))) ∧
  (∀ (k : Fin 12) (cond : BitVec 3) (d : BitVec 3) (s : State),
    Runs s k 1 →
    Passes s k cond →
    exec (.shl k cond d) s = .next (Past s k 1 (fun e =>
      let a := e.g.get d; let r := BitVec.ofNat 8 (2 * a.toNat)
      { e with g := e.g.put d r, flags := ⟨Nat.ble 128 a.toNat, r == 0, r.msb, false⟩ }))) ∧
  (∀ (k : Fin 12) (cond : BitVec 3) (d : BitVec 3) (s : State),
    Runs s k 1 →
    Passes s k cond →
    exec (.shr k cond d) s = .next (Past s k 1 (fun e =>
      let a := e.g.get d; let r := BitVec.ofNat 8 (a.toNat / 2)
      { e with g := e.g.put d r, flags := ⟨Nat.beq (a.toNat % 2) 1, r == 0, r.msb, false⟩ }))) ∧
  (∀ (k : Fin 12) (cond : BitVec 3) (d : BitVec 3) (s : State),
    Runs s k 1 →
    Passes s k cond →
    exec (.asr k cond d) s = .next (Past s k 1 (fun e =>
      let a := e.g.get d; let r := BitVec.ofInt 8 (a.toInt / 2)
      { e with g := e.g.put d r, flags := ⟨Nat.beq (a.toNat % 2) 1, r == 0, r.msb, false⟩ }))) ∧
  (∀ (k : Fin 12) (cond : BitVec 3) (d : BitVec 3) (s : State),
    Runs s k 1 →
    Passes s k cond →
    exec (.rol k cond d) s = .next (Past s k 1 (fun e =>
      let a := e.g.get d; let r := BitVec.ofNat 8 (2 * a.toNat + e.flags.c.toNat)
      { e with g := e.g.put d r, flags := ⟨Nat.ble 128 a.toNat, r == 0, r.msb, false⟩ }))) ∧
  (∀ (k : Fin 12) (cond : BitVec 3) (d : BitVec 3) (s : State),
    Runs s k 1 →
    Passes s k cond →
    exec (.ror k cond d) s = .next (Past s k 1 (fun e =>
      let a := e.g.get d; let r := BitVec.ofNat 8 (a.toNat / 2 + 128 * e.flags.c.toNat)
      { e with g := e.g.put d r, flags := ⟨Nat.beq (a.toNat % 2) 1, r == 0, r.msb, false⟩ }))) ∧
  (∀ (k : Fin 12) (cond : BitVec 3) (d : BitVec 3) (s : State),
    Runs s k 1 →
    Passes s k cond →
    exec (.swap k cond d) s = .next (Past s k 1 (fun e =>
      let a := e.g.get d; let r := BitVec.ofNat 8 (16 * (a.toNat % 16) + a.toNat / 16)
      { e with g := e.g.put d r, flags := ⟨e.flags.c, r == 0, r.msb, false⟩ }))) ∧
  (∀ (k : Fin 12) (cond : BitVec 3) (d : BitVec 3) (s : State),
    Runs s k 1 →
    Passes s k cond →
    exec (.clr k cond d) s = .next (Past s k 1 (fun e =>
      let a := e.g.get d; let r := a &&& 0
      { e with g := e.g.put d r, flags := ⟨e.flags.c, true, false, false⟩ })))

/-- ADDW, SUBW, CMPW, MOVW, MULU, MOVP, ADDP, MOVPW, MOVWP and MOVSP complete with the word result and flags of R389 and R392 (N from bit 15, Z from all 16 bits, C of MULU tells a high byte that is not 0), the odd G register holding the high byte of a W register (R377); pointer operations keep FLAGS; nothing else but PC changes. -/
def Obligations.FlintWordsAndPointers : Prop :=
  (∀ (k : Fin 12) (cond : BitVec 3) (d : BitVec 2) (src : Src16) (s : State),
    Runs s k (words16 src) →
    Passes s k cond →
    exec (.addw k cond d src) s = .next (Past s k (words16 src) (fun e =>
      let a := e.g.getW d; let b := e.src16 src; let r := a + b
      { e with
          g := (e.g.put (d ++ 0#1) (r.setWidth 8)).put (d ++ 1#1) ((r >>> 8).setWidth 8),
          flags := ⟨Nat.ble 65536 (a.toNat + b.toNat), r == 0, r.msb, decide (a.toInt + b.toInt ≠ r.toInt)⟩ }))) ∧
  (∀ (k : Fin 12) (cond : BitVec 3) (d : BitVec 2) (src : Src16) (s : State),
    Runs s k (words16 src) →
    Passes s k cond →
    exec (.subw k cond d src) s = .next (Past s k (words16 src) (fun e =>
      let a := e.g.getW d; let b := e.src16 src; let r := a - b
      { e with
          g := (e.g.put (d ++ 0#1) (r.setWidth 8)).put (d ++ 1#1) ((r >>> 8).setWidth 8),
          flags := ⟨Nat.blt a.toNat b.toNat, r == 0, r.msb, decide (a.toInt - b.toInt ≠ r.toInt)⟩ }))) ∧
  (∀ (k : Fin 12) (cond : BitVec 3) (d : BitVec 2) (src : Src16) (s : State),
    Runs s k (words16 src) →
    Passes s k cond →
    exec (.cmpw k cond d src) s = .next (Past s k (words16 src) (fun e =>
      let a := e.g.getW d; let b := e.src16 src; let r := a - b
      { e with flags := ⟨Nat.blt a.toNat b.toNat, r == 0, r.msb, decide (a.toInt - b.toInt ≠ r.toInt)⟩ }))) ∧
  (∀ (k : Fin 12) (cond : BitVec 3) (d : BitVec 2) (src : Src16) (s : State),
    Runs s k (words16 src) →
    Passes s k cond →
    exec (.movw k cond d src) s = .next (Past s k (words16 src) (fun e => let r := e.src16 src
      { e with g := (e.g.put (d ++ 0#1) (r.setWidth 8)).put (d ++ 1#1) ((r >>> 8).setWidth 8) }))) ∧
  (∀ (k : Fin 12) (cond : BitVec 3) (d g : BitVec 3) (s : State),
    Runs s k 1 →
    Passes s k cond →
    exec (.mulu k cond d g) s = .next (Past s k 1 (fun e =>
      let n := (e.g.get d).toNat * (e.g.get g).toNat
      { e with g := (e.g.put 0 (BitVec.ofNat 8 n)).put 1 (BitVec.ofNat 8 (n / 256)), flags := ⟨Nat.ble 256 n, Nat.beq n 0, Nat.ble 32768 n, false⟩ }))) ∧
  (∀ (k : Fin 12) (cond : BitVec 3) (d : BitVec 2) (src : Src16) (s : State),
    Runs s k (words16 src) →
    Passes s k cond →
    exec (.movp k cond d src) s = .next (Past s k (words16 src) (fun e => { e with p := e.p.put d (e.srcP src) }))) ∧
  (∀ (k : Fin 12) (cond : BitVec 3) (d : BitVec 2) (src : Src16) (s : State),
    Runs s k (words16 src) →
    Passes s k cond →
    exec (.addp k cond d src) s = .next (Past s k (words16 src) (fun e => { e with p := e.p.put d (e.p.get d + e.src16 src) }))) ∧
  (∀ (k : Fin 12) (cond : BitVec 3) (d w : BitVec 2) (s : State),
    Runs s k 1 →
    Passes s k cond →
    exec (.movpw k cond d w) s = .next (Past s k 1 (fun e => { e with p := e.p.put d (e.g.get (w ++ 1#1) ++ e.g.get (w ++ 0#1)) }))) ∧
  (∀ (k : Fin 12) (cond : BitVec 3) (d : BitVec 2) (src : PtrSrc) (s : State),
    Runs s k 1 →
    Passes s k cond →
    exec (.movwp k cond d src) s = .next (Past s k 1 (fun e => let r : Half := (match src with | .ptr p => e.p.get p | .sp => e.sp)
      { e with g := (e.g.put (d ++ 0#1) (r.setWidth 8)).put (d ++ 1#1) ((r >>> 8).setWidth 8) }))) ∧
  (∀ (k : Fin 12) (cond : BitVec 3) (p : BitVec 2) (s : State),
    Runs s k 1 →
    Passes s k cond →
    exec (.movsp k cond p) s = .next (Past s k 1 (fun e => { e with sp := e.p.get p })))

/-- BTST sets Z to the inverse of the tested bit and keeps N, C and V; BSET, BCLR and BTGL change that one bit of Gd and keep FLAGS; CLC, SEC and CLV change one flag; NOP changes PC only. -/
def Obligations.FlintBitsAndFlags : Prop :=
  (∀ (k : Fin 12) (cond : BitVec 3) (d b : BitVec 3) (s : State),
    Runs s k 1 →
    Passes s k cond →
    exec (.btst k cond d b) s = .next (Past s k 1 (fun e =>
      { e with flags := ⟨e.flags.c, !(e.g.get d).getLsbD b.toNat, e.flags.n, e.flags.v⟩ }))) ∧
  (∀ (k : Fin 12) (cond : BitVec 3) (d b : BitVec 3) (s : State),
    Runs s k 1 →
    Passes s k cond →
    exec (.bset k cond d b) s = .next (Past s k 1 (fun e => { e with g := e.g.put d (e.g.get d |||  (1#8 <<< b.toNat)) }))) ∧
  (∀ (k : Fin 12) (cond : BitVec 3) (d b : BitVec 3) (s : State),
    Runs s k 1 →
    Passes s k cond →
    exec (.bclr k cond d b) s = .next (Past s k 1 (fun e => { e with g := e.g.put d (e.g.get d &&& ~~~(1#8 <<< b.toNat)) }))) ∧
  (∀ (k : Fin 12) (cond : BitVec 3) (d b : BitVec 3) (s : State),
    Runs s k 1 →
    Passes s k cond →
    exec (.btgl k cond d b) s = .next (Past s k 1 (fun e => { e with g := e.g.put d (e.g.get d ^^^ (1#8 <<< b.toNat)) }))) ∧
  (∀ (k : Fin 12) (cond : BitVec 3) (s : State),
    Runs s k 1 →
    Passes s k cond →
    exec (.clc k cond) s = .next (Past s k 1 (fun e => { e with flags := ⟨false, e.flags.z, e.flags.n, e.flags.v⟩ }))) ∧
  (∀ (k : Fin 12) (cond : BitVec 3) (s : State),
    Runs s k 1 →
    Passes s k cond →
    exec (.sec k cond) s = .next (Past s k 1 (fun e => { e with flags := ⟨true, e.flags.z, e.flags.n, e.flags.v⟩ }))) ∧
  (∀ (k : Fin 12) (cond : BitVec 3) (s : State),
    Runs s k 1 →
    Passes s k cond →
    exec (.clv k cond) s = .next (Past s k 1 (fun e => { e with flags := ⟨e.flags.c, e.flags.z, e.flags.n, false⟩ }))) ∧
  (∀ (k : Fin 12) (cond : BitVec 3) (s : State),
    Runs s k 1 →
    Passes s k cond →
    exec (.nop k cond) s = .next (Past s k 1 (fun e => e)))

/-- LD and ST (one byte), LDW and STW (two bytes, the low byte at the lower address) of a running engine at an effective address in local SRAM complete: the register takes the bytes of that address or the bytes take the register, pointer modes 1 and 2 move the pointer by the size, FLAGS stay, and everything else, all other memory of the engine and shared SRAM included, is unchanged. -/
def Obligations.FlintLocalLoadsAndStores : Prop :=
  (∀ (k : Fin 12) (cond : BitVec 3) (d : BitVec 3) (ea : Ea) (s : State),
    Runs s k (wordsEa ea) →
    Passes s k cond →
    (eaAddress ea (s.eng k).p (s.eng k).sp 1).toNat < 0x8000 →
    exec (.ld k cond d ea) s = .next (Past s k (wordsEa ea) (fun e =>
      { e with g := e.g.put d (e.sram.look 0 (eaAddress ea e.p e.sp 1).toNat), p := eaUpdate ea e.p 1 }))) ∧
  (∀ (k : Fin 12) (cond : BitVec 3) (d : BitVec 3) (ea : Ea) (s : State),
    Runs s k (wordsEa ea) →
    Passes s k cond →
    (eaAddress ea (s.eng k).p (s.eng k).sp 1).toNat < 0x8000 →
    exec (.st k cond d ea) s = .next (Past s k (wordsEa ea) (fun e =>
      { e with sram := e.sram.store 0 (eaAddress ea e.p e.sp 1).toNat (e.g.get d), p := eaUpdate ea e.p 1 }))) ∧
  (∀ (k : Fin 12) (cond : BitVec 3) (d : BitVec 2) (ea : Ea) (s : State),
    Runs s k (wordsEa ea) →
    Passes s k cond →
    (eaAddress ea (s.eng k).p (s.eng k).sp 2).toNat + 1 < 0x8000 →
    exec (.ldw k cond d ea) s = .next (Past s k (wordsEa ea) (fun e =>
      let a := (eaAddress ea e.p e.sp 2).toNat
      { e with g := (e.g.put (d ++ 0#1) (e.sram.look 0 a)).put (d ++ 1#1) (e.sram.look 0 (a + 1)), p := eaUpdate ea e.p 2 }))) ∧
  (∀ (k : Fin 12) (cond : BitVec 3) (d : BitVec 2) (ea : Ea) (s : State),
    Runs s k (wordsEa ea) →
    Passes s k cond →
    (eaAddress ea (s.eng k).p (s.eng k).sp 2).toNat + 1 < 0x8000 →
    exec (.stw k cond d ea) s = .next (Past s k (wordsEa ea) (fun e =>
      let a := (eaAddress ea e.p e.sp 2).toNat
      { e with sram := (e.sram.store 0 a (e.g.get (d ++ 0#1))).store 0 (a + 1) (e.g.get (d ++ 1#1)), p := eaUpdate ea e.p 2 })))

/-- With the stack bytes in local SRAM, PUSH and PUSHF decrement SP and write one byte, PUSHP, PUSHW and CALL write the high byte at SP - 1 and the low byte at SP - 2; POP, POPF, POPP, POPW and RET read and then increment SP; POPF discards bits 7 to 4; CALL pushes the address after it and loads PC, RET pops PC. Where a stack byte would lie outside local SRAM, each of the ten raises STACK before any access: with no fault pending, the engine stops with the cause and the address of the instruction in the primary slot, and no register, flag, pointer, SP, PC or byte of its local SRAM changes. -/
def Obligations.FlintStack : Prop :=
  (∀ (k : Fin 12) (cond : BitVec 3) (d : BitVec 3) (s : State),
    Runs s k 1 →
    Passes s k cond →
    1 ≤ (s.eng k).sp.toNat ∧ (s.eng k).sp.toNat ≤ 0x8000 →
    exec (.push k cond d) s = .next (Past s k 1 (fun e => { e with sp := e.sp - 1, sram := e.sram.store 0 (e.sp - 1).toNat (e.g.get d) }))) ∧
  (∀ (k : Fin 12) (cond : BitVec 3)  (s : State),
    Runs s k 1 →
    Passes s k cond →
    1 ≤ (s.eng k).sp.toNat ∧ (s.eng k).sp.toNat ≤ 0x8000 →
    exec (.pushf k cond ) s = .next (Past s k 1 (fun e => { e with sp := e.sp - 1, sram := e.sram.store 0 (e.sp - 1).toNat (BitVec.ofNat 8 (e.flags.c.toNat + 2 * e.flags.z.toNat + 4 * e.flags.n.toNat + 8 * e.flags.v.toNat)) }))) ∧
  (∀ (k : Fin 12) (cond : BitVec 3) (d : BitVec 2) (s : State),
    Runs s k 1 →
    Passes s k cond →
    2 ≤ (s.eng k).sp.toNat ∧ (s.eng k).sp.toNat ≤ 0x8000 →
    exec (.pushp k cond d) s = .next (Past s k 1 (fun e => let x : Half := e.p.get d
      { e with sp := e.sp - 2, sram := (e.sram.store 0 (e.sp - 1).toNat ((x >>> 8).setWidth 8)).store 0 (e.sp - 2).toNat (x.setWidth 8) }))) ∧
  (∀ (k : Fin 12) (cond : BitVec 3) (d : BitVec 2) (s : State),
    Runs s k 1 →
    Passes s k cond →
    2 ≤ (s.eng k).sp.toNat ∧ (s.eng k).sp.toNat ≤ 0x8000 →
    exec (.pushw k cond d) s = .next (Past s k 1 (fun e => let x : Half := e.g.get (d ++ 1#1) ++ e.g.get (d ++ 0#1)
      { e with sp := e.sp - 2, sram := (e.sram.store 0 (e.sp - 1).toNat ((x >>> 8).setWidth 8)).store 0 (e.sp - 2).toNat (x.setWidth 8) }))) ∧
  (∀ (k : Fin 12) (cond : BitVec 3) (tgt : Target) (s : State),
    Runs s k (wordsTgt tgt) →
    Passes s k cond →
    2 ≤ (s.eng k).sp.toNat ∧ (s.eng k).sp.toNat ≤ 0x8000 →
    (s.eng k).kfmtDue = false →
    exec (.call k cond tgt) s = .next (Past s k (wordsTgt tgt) (fun e => { e with
          pc := e.target tgt, sp := e.sp - 2,
          sram := (e.sram.store 0 (e.sp - 1).toNat ((e.pc >>> 8).setWidth 8)).store 0 (e.sp - 2).toNat (e.pc.setWidth 8) }))) ∧
  (∀ (k : Fin 12) (cond : BitVec 3) (d : BitVec 3) (s : State),
    Runs s k 1 →
    Passes s k cond →
    (s.eng k).sp.toNat < 0x8000 →
    exec (.pop k cond d) s = .next (Past s k 1 (fun e => { e with sp := e.sp + 1, g := e.g.put d (e.sram.look 0 e.sp.toNat) }))) ∧
  (∀ (k : Fin 12) (cond : BitVec 3)  (s : State),
    Runs s k 1 →
    Passes s k cond →
    (s.eng k).sp.toNat < 0x8000 →
    exec (.popf k cond ) s = .next (Past s k 1 (fun e => { e with sp := e.sp + 1, flags := (let b := e.sram.look 0 e.sp.toNat; ⟨b.getLsbD 0, b.getLsbD 1, b.getLsbD 2, b.getLsbD 3⟩) }))) ∧
  (∀ (k : Fin 12) (cond : BitVec 3) (d : BitVec 2) (s : State),
    Runs s k 1 →
    Passes s k cond →
    (s.eng k).sp.toNat + 1 < 0x8000 →
    exec (.popp k cond d) s = .next (Past s k 1 (fun e => { e with sp := e.sp + 2, p := e.p.put d (e.sram.look 0 (e.sp + 1).toNat ++ e.sram.look 0 e.sp.toNat) }))) ∧
  (∀ (k : Fin 12) (cond : BitVec 3) (d : BitVec 2) (s : State),
    Runs s k 1 →
    Passes s k cond →
    (s.eng k).sp.toNat + 1 < 0x8000 →
    exec (.popw k cond d) s = .next (Past s k 1 (fun e => { e with sp := e.sp + 2, g := (e.g.put (d ++ 0#1) (e.sram.look 0 e.sp.toNat)).put (d ++ 1#1) (e.sram.look 0 (e.sp + 1).toNat) }))) ∧
  (∀ (k : Fin 12) (cond : BitVec 3) (s : State),
    Runs s k 1 →
    Passes s k cond →
    (s.eng k).sp.toNat + 1 < 0x8000 →
    (s.eng k).kfmtDue = false →
    exec (.ret k cond) s = .next (Past s k 1 (fun e => { e with sp := e.sp + 2, pc := e.sram.look 0 (e.sp + 1).toNat ++ e.sram.look 0 e.sp.toNat }))) ∧
  (∀ (k : Fin 12) (cond : BitVec 3) (d : BitVec 3) (s : State),
    Runs s k 1 →
    Passes s k cond →
    (((s.eng k).sp = 0 ∨ 0x8000 < (s.eng k).sp.toNat)) →
    s.get R.FAULT.STATUS_ACTIVE = 0 →
    Completes (.push k cond d) s (fun t => (t.eng k).faulted = true ∧
      (t.eng k).g = (s.eng k).g ∧
      (t.eng k).p = (s.eng k).p ∧
      (t.eng k).sp = (s.eng k).sp ∧
      (t.eng k).pc = (s.eng k).pc ∧
      (t.eng k).flags = (s.eng k).flags ∧
      (t.eng k).sram = (s.eng k).sram ∧
      t.get R.FAULT.P_INFO_CAUSE = 4 ∧
      t.get R.FAULT.P_INFO_SRC = k ∧
      t.get R.FAULT.P_ADDR_ADDR = (s.eng k).pc.toNat)) ∧
  (∀ (k : Fin 12) (cond : BitVec 3)  (s : State),
    Runs s k 1 →
    Passes s k cond →
    (((s.eng k).sp = 0 ∨ 0x8000 < (s.eng k).sp.toNat)) →
    s.get R.FAULT.STATUS_ACTIVE = 0 →
    Completes (.pushf k cond ) s (fun t => (t.eng k).faulted = true ∧
      (t.eng k).g = (s.eng k).g ∧
      (t.eng k).p = (s.eng k).p ∧
      (t.eng k).sp = (s.eng k).sp ∧
      (t.eng k).pc = (s.eng k).pc ∧
      (t.eng k).flags = (s.eng k).flags ∧
      (t.eng k).sram = (s.eng k).sram ∧
      t.get R.FAULT.P_INFO_CAUSE = 4 ∧
      t.get R.FAULT.P_INFO_SRC = k ∧
      t.get R.FAULT.P_ADDR_ADDR = (s.eng k).pc.toNat)) ∧
  (∀ (k : Fin 12) (cond : BitVec 3) (d : BitVec 2) (s : State),
    Runs s k 1 →
    Passes s k cond →
    (((s.eng k).sp.toNat < 2 ∨ 0x8000 < (s.eng k).sp.toNat)) →
    s.get R.FAULT.STATUS_ACTIVE = 0 →
    Completes (.pushp k cond d) s (fun t => (t.eng k).faulted = true ∧
      (t.eng k).g = (s.eng k).g ∧
      (t.eng k).p = (s.eng k).p ∧
      (t.eng k).sp = (s.eng k).sp ∧
      (t.eng k).pc = (s.eng k).pc ∧
      (t.eng k).flags = (s.eng k).flags ∧
      (t.eng k).sram = (s.eng k).sram ∧
      t.get R.FAULT.P_INFO_CAUSE = 4 ∧
      t.get R.FAULT.P_INFO_SRC = k ∧
      t.get R.FAULT.P_ADDR_ADDR = (s.eng k).pc.toNat)) ∧
  (∀ (k : Fin 12) (cond : BitVec 3) (d : BitVec 2) (s : State),
    Runs s k 1 →
    Passes s k cond →
    (((s.eng k).sp.toNat < 2 ∨ 0x8000 < (s.eng k).sp.toNat)) →
    s.get R.FAULT.STATUS_ACTIVE = 0 →
    Completes (.pushw k cond d) s (fun t => (t.eng k).faulted = true ∧
      (t.eng k).g = (s.eng k).g ∧
      (t.eng k).p = (s.eng k).p ∧
      (t.eng k).sp = (s.eng k).sp ∧
      (t.eng k).pc = (s.eng k).pc ∧
      (t.eng k).flags = (s.eng k).flags ∧
      (t.eng k).sram = (s.eng k).sram ∧
      t.get R.FAULT.P_INFO_CAUSE = 4 ∧
      t.get R.FAULT.P_INFO_SRC = k ∧
      t.get R.FAULT.P_ADDR_ADDR = (s.eng k).pc.toNat)) ∧
  (∀ (k : Fin 12) (cond : BitVec 3) (tgt : Target) (s : State),
    Runs s k (wordsTgt tgt) →
    Passes s k cond →
    (((s.eng k).sp.toNat < 2 ∨ 0x8000 < (s.eng k).sp.toNat)) →
    s.get R.FAULT.STATUS_ACTIVE = 0 →
    Completes (.call k cond tgt) s (fun t => (t.eng k).faulted = true ∧
      (t.eng k).g = (s.eng k).g ∧
      (t.eng k).p = (s.eng k).p ∧
      (t.eng k).sp = (s.eng k).sp ∧
      (t.eng k).pc = (s.eng k).pc ∧
      (t.eng k).flags = (s.eng k).flags ∧
      (t.eng k).sram = (s.eng k).sram ∧
      t.get R.FAULT.P_INFO_CAUSE = 4 ∧
      t.get R.FAULT.P_INFO_SRC = k ∧
      t.get R.FAULT.P_ADDR_ADDR = (s.eng k).pc.toNat)) ∧
  (∀ (k : Fin 12) (cond : BitVec 3) (d : BitVec 3) (s : State),
    Runs s k 1 →
    Passes s k cond →
    0x8000 ≤ (s.eng k).sp.toNat →
    s.get R.FAULT.STATUS_ACTIVE = 0 →
    Completes (.pop k cond d) s (fun t => (t.eng k).faulted = true ∧
      (t.eng k).g = (s.eng k).g ∧
      (t.eng k).p = (s.eng k).p ∧
      (t.eng k).sp = (s.eng k).sp ∧
      (t.eng k).pc = (s.eng k).pc ∧
      (t.eng k).flags = (s.eng k).flags ∧
      (t.eng k).sram = (s.eng k).sram ∧
      t.get R.FAULT.P_INFO_CAUSE = 4 ∧
      t.get R.FAULT.P_INFO_SRC = k ∧
      t.get R.FAULT.P_ADDR_ADDR = (s.eng k).pc.toNat)) ∧
  (∀ (k : Fin 12) (cond : BitVec 3)  (s : State),
    Runs s k 1 →
    Passes s k cond →
    0x8000 ≤ (s.eng k).sp.toNat →
    s.get R.FAULT.STATUS_ACTIVE = 0 →
    Completes (.popf k cond ) s (fun t => (t.eng k).faulted = true ∧
      (t.eng k).g = (s.eng k).g ∧
      (t.eng k).p = (s.eng k).p ∧
      (t.eng k).sp = (s.eng k).sp ∧
      (t.eng k).pc = (s.eng k).pc ∧
      (t.eng k).flags = (s.eng k).flags ∧
      (t.eng k).sram = (s.eng k).sram ∧
      t.get R.FAULT.P_INFO_CAUSE = 4 ∧
      t.get R.FAULT.P_INFO_SRC = k ∧
      t.get R.FAULT.P_ADDR_ADDR = (s.eng k).pc.toNat)) ∧
  (∀ (k : Fin 12) (cond : BitVec 3) (d : BitVec 2) (s : State),
    Runs s k 1 →
    Passes s k cond →
    0x7FFF ≤ (s.eng k).sp.toNat →
    s.get R.FAULT.STATUS_ACTIVE = 0 →
    Completes (.popp k cond d) s (fun t => (t.eng k).faulted = true ∧
      (t.eng k).g = (s.eng k).g ∧
      (t.eng k).p = (s.eng k).p ∧
      (t.eng k).sp = (s.eng k).sp ∧
      (t.eng k).pc = (s.eng k).pc ∧
      (t.eng k).flags = (s.eng k).flags ∧
      (t.eng k).sram = (s.eng k).sram ∧
      t.get R.FAULT.P_INFO_CAUSE = 4 ∧
      t.get R.FAULT.P_INFO_SRC = k ∧
      t.get R.FAULT.P_ADDR_ADDR = (s.eng k).pc.toNat)) ∧
  (∀ (k : Fin 12) (cond : BitVec 3) (d : BitVec 2) (s : State),
    Runs s k 1 →
    Passes s k cond →
    0x7FFF ≤ (s.eng k).sp.toNat →
    s.get R.FAULT.STATUS_ACTIVE = 0 →
    Completes (.popw k cond d) s (fun t => (t.eng k).faulted = true ∧
      (t.eng k).g = (s.eng k).g ∧
      (t.eng k).p = (s.eng k).p ∧
      (t.eng k).sp = (s.eng k).sp ∧
      (t.eng k).pc = (s.eng k).pc ∧
      (t.eng k).flags = (s.eng k).flags ∧
      (t.eng k).sram = (s.eng k).sram ∧
      t.get R.FAULT.P_INFO_CAUSE = 4 ∧
      t.get R.FAULT.P_INFO_SRC = k ∧
      t.get R.FAULT.P_ADDR_ADDR = (s.eng k).pc.toNat)) ∧
  (∀ (k : Fin 12) (cond : BitVec 3)  (s : State),
    Runs s k 1 →
    Passes s k cond →
    0x7FFF ≤ (s.eng k).sp.toNat →
    s.get R.FAULT.STATUS_ACTIVE = 0 →
    Completes (.ret k cond ) s (fun t => (t.eng k).faulted = true ∧
      (t.eng k).g = (s.eng k).g ∧
      (t.eng k).p = (s.eng k).p ∧
      (t.eng k).sp = (s.eng k).sp ∧
      (t.eng k).pc = (s.eng k).pc ∧
      (t.eng k).flags = (s.eng k).flags ∧
      (t.eng k).sram = (s.eng k).sram ∧
      t.get R.FAULT.P_INFO_CAUSE = 4 ∧
      t.get R.FAULT.P_INFO_SRC = k ∧
      t.get R.FAULT.P_ADDR_ADDR = (s.eng k).pc.toNat))

/-- JMP loads PC; BR (E-format) and BRA (K-format) go to the address after the instruction plus twice the signed offset; DJNZ decrements Gd, keeps FLAGS and branches unless the result is 0; CBEQ, CBNE, CBLT and CBGE and their word forms (K-format) compare unsigned without changing FLAGS and branch when the comparison holds. Nothing else changes. -/
def Obligations.FlintBranches : Prop :=
  (∀ (k : Fin 12) (cond : BitVec 3) (tgt : Target) (s : State),
    Runs s k (wordsTgt tgt) →
    Passes s k cond →
    (s.eng k).kfmtDue = false →
    exec (.jmp k cond tgt) s = .next (Past s k (wordsTgt tgt) (fun e => { e with pc := e.target tgt }))) ∧
  (∀ (k : Fin 12) (cond : BitVec 3) (off : BitVec 8) (s : State),
    Runs s k 1 →
    Passes s k cond →
    (s.eng k).kfmt = false →
    exec (.br k cond off) s = .next (Past s k 1 (fun e => { e with pc := BitVec.ofInt 16 (e.pc.toNat + 2 * off.toInt) }))) ∧
  (∀ (k : Fin 12) (off : BitVec 11) (s : State),
    Runs s k 1 →
    (s.eng k).kfmt = true →
    exec (.bra k off) s = .next (Past s k 1 (fun e => { e with pc := BitVec.ofInt 16 (e.pc.toNat + 2 * off.toInt) }))) ∧
  (∀ (k : Fin 12) (cond : BitVec 3) (d : BitVec 3) (rel : Half) (s : State),
    Runs s k 2 →
    Passes s k cond →
    exec (.djnz k cond d rel) s = .next (Past s k 2 (fun e => { e with
          g := e.g.put d (e.g.get d - 1),
          pc := bif e.g.get d == 1 then e.pc else BitVec.ofInt 16 (e.pc.toNat + 2 * rel.toInt) }))) ∧
  (∀ (k : Fin 12) (d : BitVec 3) (src : CbSrc) (s : State),
    Runs s k 2 →
    (s.eng k).kfmt = true →
    exec (.cbeq k d src) s = .next (Past s k 2 (fun e =>
      let x := e.g.get d; let y := (match src with | .reg g _ => e.g.get g | .imm v _ => v)
      let off : Int := (match src with | .reg _ rel => rel.toInt | .imm _ rel => rel.toInt)
      { e with pc := bif x == y then BitVec.ofInt 16 (e.pc.toNat + 2 * off) else e.pc }))) ∧
  (∀ (k : Fin 12) (d : BitVec 3) (src : CbSrc) (s : State),
    Runs s k 2 →
    (s.eng k).kfmt = true →
    exec (.cbne k d src) s = .next (Past s k 2 (fun e =>
      let x := e.g.get d; let y := (match src with | .reg g _ => e.g.get g | .imm v _ => v)
      let off : Int := (match src with | .reg _ rel => rel.toInt | .imm _ rel => rel.toInt)
      { e with pc := bif x != y then BitVec.ofInt 16 (e.pc.toNat + 2 * off) else e.pc }))) ∧
  (∀ (k : Fin 12) (d : BitVec 3) (src : CbSrc) (s : State),
    Runs s k 2 →
    (s.eng k).kfmt = true →
    exec (.cblt k d src) s = .next (Past s k 2 (fun e =>
      let x := e.g.get d; let y := (match src with | .reg g _ => e.g.get g | .imm v _ => v)
      let off : Int := (match src with | .reg _ rel => rel.toInt | .imm _ rel => rel.toInt)
      { e with pc := bif Nat.blt x.toNat y.toNat then BitVec.ofInt 16 (e.pc.toNat + 2 * off) else e.pc }))) ∧
  (∀ (k : Fin 12) (d : BitVec 3) (src : CbSrc) (s : State),
    Runs s k 2 →
    (s.eng k).kfmt = true →
    exec (.cbge k d src) s = .next (Past s k 2 (fun e =>
      let x := e.g.get d; let y := (match src with | .reg g _ => e.g.get g | .imm v _ => v)
      let off : Int := (match src with | .reg _ rel => rel.toInt | .imm _ rel => rel.toInt)
      { e with pc := bif Nat.ble y.toNat x.toNat then BitVec.ofInt 16 (e.pc.toNat + 2 * off) else e.pc }))) ∧
  (∀ (k : Fin 12) (d w : BitVec 2) (rel : Half) (s : State),
    Runs s k 2 →
    (s.eng k).kfmt = true →
    exec (.cbeqw k d w rel) s = .next (Past s k 2 (fun e =>
      let x := e.g.getW d; let y := e.g.getW w
      { e with pc := bif x == y then BitVec.ofInt 16 (e.pc.toNat + 2 * rel.toInt) else e.pc }))) ∧
  (∀ (k : Fin 12) (d w : BitVec 2) (rel : Half) (s : State),
    Runs s k 2 →
    (s.eng k).kfmt = true →
    exec (.cbnew k d w rel) s = .next (Past s k 2 (fun e =>
      let x := e.g.getW d; let y := e.g.getW w
      { e with pc := bif x != y then BitVec.ofInt 16 (e.pc.toNat + 2 * rel.toInt) else e.pc }))) ∧
  (∀ (k : Fin 12) (d w : BitVec 2) (rel : Half) (s : State),
    Runs s k 2 →
    (s.eng k).kfmt = true →
    exec (.cbltw k d w rel) s = .next (Past s k 2 (fun e =>
      let x := e.g.getW d; let y := e.g.getW w
      { e with pc := bif Nat.blt x.toNat y.toNat then BitVec.ofInt 16 (e.pc.toNat + 2 * rel.toInt) else e.pc }))) ∧
  (∀ (k : Fin 12) (d w : BitVec 2) (rel : Half) (s : State),
    Runs s k 2 →
    (s.eng k).kfmt = true →
    exec (.cbgew k d w rel) s = .next (Past s k 2 (fun e =>
      let x := e.g.getW d; let y := e.g.getW w
      { e with pc := bif Nat.ble y.toNat x.toNat then BitVec.ofInt 16 (e.pc.toNat + 2 * rel.toInt) else e.pc })))

/-- An instruction of an engine executes or is skipped: always executed in K-format, otherwise by COND and FLAGS as the table of R386 says. For each of the instructions that carry COND, one that is skipped completes with PC past its words and with no other change, whatever its operands; the statements on each instruction say what it does where it executes. BRK (with debug access open) and a customer instruction with a usable decode entry are skipped in the same way; BRK with debug access closed raises ILLEGAL whatever its condition. -/
def Obligations.FlintConditions : Prop :=
  (∀ (k : Fin 12) (cond : BitVec 3) (s : State),
    Passes s k cond = !Skips s k cond) ∧
  (∀ (k : Fin 12) (cond : BitVec 3) (d : BitVec 3) (src : Src8) (s : State),
    Runs s k (words8 src) →
    Skips s k cond →
    exec (.mov k cond d src) s = .next (Past s k (words8 src) id)) ∧
  (∀ (k : Fin 12) (cond : BitVec 3) (d : BitVec 3) (src : Src8) (s : State),
    Runs s k (words8 src) →
    Skips s k cond →
    exec (.add k cond d src) s = .next (Past s k (words8 src) id)) ∧
  (∀ (k : Fin 12) (cond : BitVec 3) (d : BitVec 3) (src : Src8) (s : State),
    Runs s k (words8 src) →
    Skips s k cond →
    exec (.adc k cond d src) s = .next (Past s k (words8 src) id)) ∧
  (∀ (k : Fin 12) (cond : BitVec 3) (d : BitVec 3) (src : Src8) (s : State),
    Runs s k (words8 src) →
    Skips s k cond →
    exec (.sub k cond d src) s = .next (Past s k (words8 src) id)) ∧
  (∀ (k : Fin 12) (cond : BitVec 3) (d : BitVec 3) (src : Src8) (s : State),
    Runs s k (words8 src) →
    Skips s k cond →
    exec (.sbc k cond d src) s = .next (Past s k (words8 src) id)) ∧
  (∀ (k : Fin 12) (cond : BitVec 3) (d : BitVec 3) (src : Src8) (s : State),
    Runs s k (words8 src) →
    Skips s k cond →
    exec (.and k cond d src) s = .next (Past s k (words8 src) id)) ∧
  (∀ (k : Fin 12) (cond : BitVec 3) (d : BitVec 3) (src : Src8) (s : State),
    Runs s k (words8 src) →
    Skips s k cond →
    exec (.or k cond d src) s = .next (Past s k (words8 src) id)) ∧
  (∀ (k : Fin 12) (cond : BitVec 3) (d : BitVec 3) (src : Src8) (s : State),
    Runs s k (words8 src) →
    Skips s k cond →
    exec (.xor k cond d src) s = .next (Past s k (words8 src) id)) ∧
  (∀ (k : Fin 12) (cond : BitVec 3) (d : BitVec 3) (src : Src8) (s : State),
    Runs s k (words8 src) →
    Skips s k cond →
    exec (.cmp k cond d src) s = .next (Past s k (words8 src) id)) ∧
  (∀ (k : Fin 12) (cond : BitVec 3) (d : BitVec 3) (src : Src8) (s : State),
    Runs s k (words8 src) →
    Skips s k cond →
    exec (.tst k cond d src) s = .next (Past s k (words8 src) id)) ∧
  (∀ (k : Fin 12) (cond : BitVec 3) (d : BitVec 3) (s : State),
    Runs s k 1 →
    Skips s k cond →
    exec (.inc k cond d) s = .next (Past s k 1 id)) ∧
  (∀ (k : Fin 12) (cond : BitVec 3) (d : BitVec 3) (s : State),
    Runs s k 1 →
    Skips s k cond →
    exec (.dec k cond d) s = .next (Past s k 1 id)) ∧
  (∀ (k : Fin 12) (cond : BitVec 3) (d : BitVec 3) (s : State),
    Runs s k 1 →
    Skips s k cond →
    exec (.not k cond d) s = .next (Past s k 1 id)) ∧
  (∀ (k : Fin 12) (cond : BitVec 3) (d : BitVec 3) (s : State),
    Runs s k 1 →
    Skips s k cond →
    exec (.neg k cond d) s = .next (Past s k 1 id)) ∧
  (∀ (k : Fin 12) (cond : BitVec 3) (d : BitVec 3) (s : State),
    Runs s k 1 →
    Skips s k cond →
    exec (.shl k cond d) s = .next (Past s k 1 id)) ∧
  (∀ (k : Fin 12) (cond : BitVec 3) (d : BitVec 3) (s : State),
    Runs s k 1 →
    Skips s k cond →
    exec (.shr k cond d) s = .next (Past s k 1 id)) ∧
  (∀ (k : Fin 12) (cond : BitVec 3) (d : BitVec 3) (s : State),
    Runs s k 1 →
    Skips s k cond →
    exec (.asr k cond d) s = .next (Past s k 1 id)) ∧
  (∀ (k : Fin 12) (cond : BitVec 3) (d : BitVec 3) (s : State),
    Runs s k 1 →
    Skips s k cond →
    exec (.rol k cond d) s = .next (Past s k 1 id)) ∧
  (∀ (k : Fin 12) (cond : BitVec 3) (d : BitVec 3) (s : State),
    Runs s k 1 →
    Skips s k cond →
    exec (.ror k cond d) s = .next (Past s k 1 id)) ∧
  (∀ (k : Fin 12) (cond : BitVec 3) (d : BitVec 3) (s : State),
    Runs s k 1 →
    Skips s k cond →
    exec (.swap k cond d) s = .next (Past s k 1 id)) ∧
  (∀ (k : Fin 12) (cond : BitVec 3) (d : BitVec 3) (s : State),
    Runs s k 1 →
    Skips s k cond →
    exec (.clr k cond d) s = .next (Past s k 1 id)) ∧
  (∀ (k : Fin 12) (cond : BitVec 3) (d : BitVec 2) (src : Src16) (s : State),
    Runs s k (words16 src) →
    Skips s k cond →
    exec (.addw k cond d src) s = .next (Past s k (words16 src) id)) ∧
  (∀ (k : Fin 12) (cond : BitVec 3) (d : BitVec 2) (src : Src16) (s : State),
    Runs s k (words16 src) →
    Skips s k cond →
    exec (.subw k cond d src) s = .next (Past s k (words16 src) id)) ∧
  (∀ (k : Fin 12) (cond : BitVec 3) (d : BitVec 2) (src : Src16) (s : State),
    Runs s k (words16 src) →
    Skips s k cond →
    exec (.cmpw k cond d src) s = .next (Past s k (words16 src) id)) ∧
  (∀ (k : Fin 12) (cond : BitVec 3) (d : BitVec 2) (src : Src16) (s : State),
    Runs s k (words16 src) →
    Skips s k cond →
    exec (.movw k cond d src) s = .next (Past s k (words16 src) id)) ∧
  (∀ (k : Fin 12) (cond : BitVec 3) (d : BitVec 2) (src : Src16) (s : State),
    Runs s k (words16 src) →
    Skips s k cond →
    exec (.movp k cond d src) s = .next (Past s k (words16 src) id)) ∧
  (∀ (k : Fin 12) (cond : BitVec 3) (d : BitVec 2) (src : Src16) (s : State),
    Runs s k (words16 src) →
    Skips s k cond →
    exec (.addp k cond d src) s = .next (Past s k (words16 src) id)) ∧
  (∀ (k : Fin 12) (cond : BitVec 3) (d : BitVec 2) (w : BitVec 2) (s : State),
    Runs s k 1 →
    Skips s k cond →
    exec (.movpw k cond d w) s = .next (Past s k 1 id)) ∧
  (∀ (k : Fin 12) (cond : BitVec 3) (d : BitVec 2) (src : PtrSrc) (s : State),
    Runs s k 1 →
    Skips s k cond →
    exec (.movwp k cond d src) s = .next (Past s k 1 id)) ∧
  (∀ (k : Fin 12) (cond : BitVec 3) (d : BitVec 3) (ea : Ea) (s : State),
    Runs s k (wordsEa ea) →
    Skips s k cond →
    exec (.ld k cond d ea) s = .next (Past s k (wordsEa ea) id)) ∧
  (∀ (k : Fin 12) (cond : BitVec 3) (d : BitVec 3) (ea : Ea) (s : State),
    Runs s k (wordsEa ea) →
    Skips s k cond →
    exec (.st k cond d ea) s = .next (Past s k (wordsEa ea) id)) ∧
  (∀ (k : Fin 12) (cond : BitVec 3) (d : BitVec 2) (ea : Ea) (s : State),
    Runs s k (wordsEa ea) →
    Skips s k cond →
    exec (.ldw k cond d ea) s = .next (Past s k (wordsEa ea) id)) ∧
  (∀ (k : Fin 12) (cond : BitVec 3) (d : BitVec 2) (ea : Ea) (s : State),
    Runs s k (wordsEa ea) →
    Skips s k cond →
    exec (.stw k cond d ea) s = .next (Past s k (wordsEa ea) id)) ∧
  (∀ (k : Fin 12) (cond : BitVec 3) (d : BitVec 3) (s : State),
    Runs s k 1 →
    Skips s k cond →
    exec (.push k cond d) s = .next (Past s k 1 id)) ∧
  (∀ (k : Fin 12) (cond : BitVec 3) (d : BitVec 3) (s : State),
    Runs s k 1 →
    Skips s k cond →
    exec (.pop k cond d) s = .next (Past s k 1 id)) ∧
  (∀ (k : Fin 12) (cond : BitVec 3) (d : BitVec 2) (s : State),
    Runs s k 1 →
    Skips s k cond →
    exec (.pushp k cond d) s = .next (Past s k 1 id)) ∧
  (∀ (k : Fin 12) (cond : BitVec 3) (d : BitVec 2) (s : State),
    Runs s k 1 →
    Skips s k cond →
    exec (.popp k cond d) s = .next (Past s k 1 id)) ∧
  (∀ (k : Fin 12) (cond : BitVec 3) (d : BitVec 2) (s : State),
    Runs s k 1 →
    Skips s k cond →
    exec (.pushw k cond d) s = .next (Past s k 1 id)) ∧
  (∀ (k : Fin 12) (cond : BitVec 3) (d : BitVec 2) (s : State),
    Runs s k 1 →
    Skips s k cond →
    exec (.popw k cond d) s = .next (Past s k 1 id)) ∧
  (∀ (k : Fin 12) (cond : BitVec 3) (off : BitVec 8) (s : State),
    Runs s k 1 →
    Skips s k cond →
    exec (.br k cond off) s = .next (Past s k 1 id)) ∧
  (∀ (k : Fin 12) (cond : BitVec 3) (tgt : Target) (s : State),
    Runs s k (wordsTgt tgt) →
    Skips s k cond →
    exec (.jmp k cond tgt) s = .next (Past s k (wordsTgt tgt) id)) ∧
  (∀ (k : Fin 12) (cond : BitVec 3) (tgt : Target) (s : State),
    Runs s k (wordsTgt tgt) →
    Skips s k cond →
    exec (.call k cond tgt) s = .next (Past s k (wordsTgt tgt) id)) ∧
  (∀ (k : Fin 12) (cond : BitVec 3)  (s : State),
    Runs s k 1 →
    Skips s k cond →
    exec (.ret k cond ) s = .next (Past s k 1 id)) ∧
  (∀ (k : Fin 12) (cond : BitVec 3) (d : BitVec 3) (rel : Half) (s : State),
    Runs s k 2 →
    Skips s k cond →
    exec (.djnz k cond d rel) s = .next (Past s k 2 id)) ∧
  (∀ (k : Fin 12) (cond : BitVec 3)  (s : State),
    Runs s k 1 →
    Skips s k cond →
    exec (.nop k cond ) s = .next (Past s k 1 id)) ∧
  (∀ (k : Fin 12) (cond : BitVec 3)  (s : State),
    Runs s k 1 →
    Skips s k cond →
    exec (.wait k cond ) s = .next (Past s k 1 id)) ∧
  (∀ (k : Fin 12) (cond : BitVec 3)  (s : State),
    Runs s k 1 →
    Skips s k cond →
    exec (.pushf k cond ) s = .next (Past s k 1 id)) ∧
  (∀ (k : Fin 12) (cond : BitVec 3)  (s : State),
    Runs s k 1 →
    Skips s k cond →
    exec (.popf k cond ) s = .next (Past s k 1 id)) ∧
  (∀ (k : Fin 12) (cond : BitVec 3) (p : BitVec 2) (s : State),
    Runs s k 1 →
    Skips s k cond →
    exec (.movsp k cond p) s = .next (Past s k 1 id)) ∧
  (∀ (k : Fin 12) (cond : BitVec 3)  (s : State),
    Runs s k 1 →
    Skips s k cond →
    exec (.clc k cond ) s = .next (Past s k 1 id)) ∧
  (∀ (k : Fin 12) (cond : BitVec 3)  (s : State),
    Runs s k 1 →
    Skips s k cond →
    exec (.sec k cond ) s = .next (Past s k 1 id)) ∧
  (∀ (k : Fin 12) (cond : BitVec 3)  (s : State),
    Runs s k 1 →
    Skips s k cond →
    exec (.clv k cond ) s = .next (Past s k 1 id)) ∧
  (∀ (k : Fin 12) (cond : BitVec 3) (d : BitVec 3) (b : BitVec 3) (s : State),
    Runs s k 1 →
    Skips s k cond →
    exec (.btst k cond d b) s = .next (Past s k 1 id)) ∧
  (∀ (k : Fin 12) (cond : BitVec 3) (d : BitVec 3) (b : BitVec 3) (s : State),
    Runs s k 1 →
    Skips s k cond →
    exec (.bset k cond d b) s = .next (Past s k 1 id)) ∧
  (∀ (k : Fin 12) (cond : BitVec 3) (d : BitVec 3) (b : BitVec 3) (s : State),
    Runs s k 1 →
    Skips s k cond →
    exec (.bclr k cond d b) s = .next (Past s k 1 id)) ∧
  (∀ (k : Fin 12) (cond : BitVec 3) (d : BitVec 3) (b : BitVec 3) (s : State),
    Runs s k 1 →
    Skips s k cond →
    exec (.btgl k cond d b) s = .next (Past s k 1 id)) ∧
  (∀ (k : Fin 12) (cond : BitVec 3) (d : BitVec 3) (g : BitVec 3) (s : State),
    Runs s k 1 →
    Skips s k cond →
    exec (.mulu k cond d g) s = .next (Past s k 1 id)) ∧
  (∀ (k : Fin 12) (cond : BitVec 3) (s : State),
    Runs s k 1 →
    Skips s k cond →
    s.debugIsOpen →
    exec (.brk k cond) s = .next (Past s k 1 id)) ∧
  (∀ (k : Fin 12) (cond : BitVec 3) (s : State),
    Runs s k 1 →
    s.debugIsOpen = false →
    s.get R.FAULT.STATUS_ACTIVE = 0 →
    Completes (.brk k cond) s (fun t => (t.eng k).faulted = true ∧
      (t.eng k).pc = (s.eng k).pc ∧
      t.get R.FAULT.P_INFO_CAUSE = 2 ∧
      t.get R.FAULT.P_INFO_SRC = k ∧
      t.get R.FAULT.P_ADDR_ADDR = (s.eng k).pc.toNat)) ∧
  (∀ (k : Fin 12) (cond : BitVec 3) (n : BitVec 4) (x : BitVec 5) (ext : Half) (s : State),
    Runs s k (bif entryExt ((s.eng k).entry n.toNat) then 2 else 1) →
    Skips s k cond →
    (s.eng k).customOk n x →
    exec (.customInstruction k cond n x ext) s = .next (Past s k (bif entryExt ((s.eng k).entry n.toNat) then 2 else 1) id))

/-- WAIT passes where a wake condition holds and otherwise leaves the engine waiting; a wake condition of a waiting engine whose domain is not OFF ends WAIT; BRK while debug access is open halts the engine with PC past it; a customer instruction of measured microcode commits its shadow registers and FLAGS at END and then its buffered stores; one whose single micro-word is ALU8 G ← G op XREG with FL and END writes that register and the FLAGS bits of FMASK, moves PC past one word and changes nothing else. -/
def Obligations.FlintWaitAndCustomer : Prop :=
  (∀ (k : Fin 12) (cond : BitVec 3) (s : State),
    Runs s k 1 →
    Passes s k cond →
    exec (.wait k cond) s = .next (Past s k 1 (fun e => bif s.wakeDue k then e else { e with run := .waiting }))) ∧
  (∀ (k : Fin 12) (s : State),
    s.alive →
    s.wakeDue k = true →
    s.get (R.PWR.DOMSTAT (5 + k)) ≠ 0 →
    (s.eng k).run = .waiting →
    Completes (.waitWake k) s (fun t => t.eng k = { s.eng k with run := .running })) ∧
  (∀ (k : Fin 12) (cond : BitVec 3) (s : State),
    Runs s k 1 →
    Passes s k cond →
    s.debugIsOpen = true →
    Completes (.brk k cond) s (fun t => t.eng k = { s.eng k with run := .halted, heldWait := false, pc := (s.eng k).pc + 2 })) ∧
  (∀ (k : Fin 12) (cond : BitVec 3) (n : BitVec 4) (x : BitVec 5) (ext : Half) (s : State) (m : MicroRun),
    Runs s k (bif entryExt ((s.eng k).entry n.toNat) then 2 else 1) →
    Passes s k cond →
    (s.eng k).kfmt = false →
    (s.eng k).customOk n x = true →
    MicroRun.loop ⟨Past s k (bif entryExt ((s.eng k).entry n.toNat) then 2 else 1) id,
      { g := (s.eng k).g, p := (s.eng k).p, flags := (s.eng k).flags, t0 := 0, t1 := 0, u := ⟨false, false, false, false⟩, buf := [],
          sp := (s.eng k).sp, x := x, ext := bif entryExt ((s.eng k).entry n.toNat) then ext else 0,
          xuse := entryXuse ((s.eng k).entry n.toNat), fmask := entryMask ((s.eng k).entry n.toNat) }⟩ k (s.eng k).pc.toNat
      (entryStart ((s.eng k).entry n.toNat)) 1024 = .ok m →
    exec (.customInstruction k cond n x ext) s =
          .next ((m.s.modEng k (fun e => { e with g := m.h.g, p := m.h.p, flags := m.h.flags })).drainBuffer k m.h.buf)) ∧
  (∀ (k : Fin 12) (cond : BitVec 3) (n : BitVec 4) (x : BitVec 5) (ext : Half) (mask start d src : Nat) (s : State),
    Runs s k 1 →
    Passes s k cond →
    (s.eng k).kfmt = false ∧ (s.eng k).mc = .measured →
    mask < 16 ∧ start < 256 ∧ d < 8 ∧ src < 8 ∧ x.toNat < 8 →
    (s.eng k).decode.look n.toNat = 0x10200 + 0x1000 * mask + start →
    (s.eng k).micro.look start = 0x10080C00 + 0x1000000 * d + 0x100000 * src + 0x1000 * 6 →
    exec (.customInstruction k cond n x ext) s = .next (Past s k 1 (fun e =>
      let a := e.g.get (BitVec.ofNat 3 src); let b := e.g.get (x.setWidth 3); let r := a ^^^ b
      { e with
          g := e.g.put (BitVec.ofNat 3 d) r,
          flags := ⟨e.flags.c, bif mask.testBit 1 then r == 0 else e.flags.z, bif mask.testBit 2 then r.msb else e.flags.n,
      bif mask.testBit 3 then false else e.flags.v⟩ }))) ∧
  (∀ (k : Fin 12) (cond : BitVec 3) (n : BitVec 4) (x : BitVec 5) (ext : Half) (mask start d src : Nat) (s : State),
    Runs s k 1 →
    Passes s k cond →
    (s.eng k).kfmt = false ∧ (s.eng k).mc = .measured →
    mask < 16 ∧ start < 256 ∧ d < 8 ∧ src < 8 ∧ x.toNat < 8 →
    (s.eng k).decode.look n.toNat = 0x10200 + 0x1000 * mask + start →
    (s.eng k).micro.look start = 0x10080C00 + 0x1000000 * d + 0x100000 * src + 0x1000 * 4 →
    exec (.customInstruction k cond n x ext) s = .next (Past s k 1 (fun e =>
      let a := e.g.get (BitVec.ofNat 3 src); let b := e.g.get (x.setWidth 3); let r := a &&& b
      { e with
          g := e.g.put (BitVec.ofNat 3 d) r,
          flags := ⟨e.flags.c, bif mask.testBit 1 then r == 0 else e.flags.z, bif mask.testBit 2 then r.msb else e.flags.n,
      bif mask.testBit 3 then false else e.flags.v⟩ }))) ∧
  (∀ (k : Fin 12) (cond : BitVec 3) (n : BitVec 4) (x : BitVec 5) (ext : Half) (mask start d src : Nat) (s : State),
    Runs s k 1 →
    Passes s k cond →
    (s.eng k).kfmt = false ∧ (s.eng k).mc = .measured →
    mask < 16 ∧ start < 256 ∧ d < 8 ∧ src < 8 ∧ x.toNat < 8 →
    (s.eng k).decode.look n.toNat = 0x10200 + 0x1000 * mask + start →
    (s.eng k).micro.look start = 0x10080C00 + 0x1000000 * d + 0x100000 * src + 0x1000 * 5 →
    exec (.customInstruction k cond n x ext) s = .next (Past s k 1 (fun e =>
      let a := e.g.get (BitVec.ofNat 3 src); let b := e.g.get (x.setWidth 3); let r := a ||| b
      { e with
          g := e.g.put (BitVec.ofNat 3 d) r,
          flags := ⟨e.flags.c, bif mask.testBit 1 then r == 0 else e.flags.z, bif mask.testBit 2 then r.msb else e.flags.n,
      bif mask.testBit 3 then false else e.flags.v⟩ })))

/-- With no fault pending, words that the engine's format does not define, BRK while debug access is closed, a stack byte outside local SRAM, and an odd PC put ILLEGAL or STACK with the engine and the instruction's address into the primary slot and stop the engine: no register, flag, pointer, SP, PC or byte of its local SRAM changes, and no secondary fault is recorded. -/
def Obligations.FlintFaults : Prop :=
  (∀ (k : Fin 12) (word ext : Half) (s : State),
    Runs s k 1 →
    decodeFlint (s.eng k).kfmt word.toNat ext.toNat = none →
    s.get R.FAULT.STATUS_ACTIVE = 0 →
    Completes (.reservedOpcode k word ext) s (fun t => (t.eng k).faulted = true ∧
      (t.eng k).g = (s.eng k).g ∧ (t.eng k).p = (s.eng k).p ∧ (t.eng k).sp = (s.eng k).sp ∧ (t.eng k).pc = (s.eng k).pc ∧
      (t.eng k).flags = (s.eng k).flags ∧ (t.eng k).sram = (s.eng k).sram ∧
      t.get R.FAULT.P_INFO_CAUSE = 2 ∧ t.get R.FAULT.P_INFO_SRC = k ∧ t.get R.FAULT.P_ADDR_ADDR = (s.eng k).pc.toNat ∧
      t.get R.FAULT.STATUS_ACTIVE = 1 ∧ t.get R.FAULT.STATUS_SVALID = s.get R.FAULT.STATUS_SVALID)) ∧
  (∀ (k : Fin 12) (cond : BitVec 3) (s : State),
    Runs s k 1 →
    s.debugIsOpen = false →
    s.get R.FAULT.STATUS_ACTIVE = 0 →
    Completes (.brk k cond) s (fun t => (t.eng k).faulted = true ∧
      (t.eng k).g = (s.eng k).g ∧ (t.eng k).p = (s.eng k).p ∧ (t.eng k).sp = (s.eng k).sp ∧ (t.eng k).pc = (s.eng k).pc ∧
      (t.eng k).flags = (s.eng k).flags ∧ (t.eng k).sram = (s.eng k).sram ∧
      t.get R.FAULT.P_INFO_CAUSE = 2 ∧ t.get R.FAULT.P_INFO_SRC = k ∧ t.get R.FAULT.P_ADDR_ADDR = (s.eng k).pc.toNat ∧
      t.get R.FAULT.STATUS_ACTIVE = 1 ∧ t.get R.FAULT.STATUS_SVALID = s.get R.FAULT.STATUS_SVALID)) ∧
  (∀ (k : Fin 12) (cond : BitVec 3) (s : State),
    Runs s k 1 →
    Passes s k cond ∧ ((s.eng k).sp - 1).toNat ≥ 0x8000 →
    s.get R.FAULT.STATUS_ACTIVE = 0 →
    Completes (.push k cond 1) s (fun t => (t.eng k).faulted = true ∧
      (t.eng k).g = (s.eng k).g ∧ (t.eng k).p = (s.eng k).p ∧ (t.eng k).sp = (s.eng k).sp ∧ (t.eng k).pc = (s.eng k).pc ∧
      (t.eng k).flags = (s.eng k).flags ∧ (t.eng k).sram = (s.eng k).sram ∧
      t.get R.FAULT.P_INFO_CAUSE = 4 ∧ t.get R.FAULT.P_INFO_SRC = k ∧ t.get R.FAULT.P_ADDR_ADDR = (s.eng k).pc.toNat ∧
      t.get R.FAULT.STATUS_ACTIVE = 1 ∧ t.get R.FAULT.STATUS_SVALID = s.get R.FAULT.STATUS_SVALID)) ∧
  (∀ (k : Fin 12) (cond : BitVec 3) (s : State),
    Runs s k 1 →
    Passes s k cond ∧ (s.eng k).sp.toNat ≥ 0x7FFF →
    s.get R.FAULT.STATUS_ACTIVE = 0 →
    Completes (.ret k cond) s (fun t => (t.eng k).faulted = true ∧
      (t.eng k).g = (s.eng k).g ∧ (t.eng k).p = (s.eng k).p ∧ (t.eng k).sp = (s.eng k).sp ∧ (t.eng k).pc = (s.eng k).pc ∧
      (t.eng k).flags = (s.eng k).flags ∧ (t.eng k).sram = (s.eng k).sram ∧
      t.get R.FAULT.P_INFO_CAUSE = 4 ∧ t.get R.FAULT.P_INFO_SRC = k ∧ t.get R.FAULT.P_ADDR_ADDR = (s.eng k).pc.toNat ∧
      t.get R.FAULT.STATUS_ACTIVE = 1 ∧ t.get R.FAULT.STATUS_SVALID = s.get R.FAULT.STATUS_SVALID)) ∧
  (∀ (k : Fin 12) (cond : BitVec 3) (s : State),
    s.executes k = true ∧ (s.eng k).run = .running →
    (s.eng k).pc.toNat % 2 = 1 →
    s.get R.FAULT.STATUS_ACTIVE = 0 →
    Completes (.nop k cond) s (fun t => (t.eng k).faulted = true ∧
      (t.eng k).g = (s.eng k).g ∧ (t.eng k).sp = (s.eng k).sp ∧ (t.eng k).pc = (s.eng k).pc ∧ (t.eng k).flags = (s.eng k).flags ∧
      t.get R.FAULT.P_INFO_CAUSE = 2 ∧ t.get R.FAULT.P_INFO_SRC = k ∧ t.get R.FAULT.P_ADDR_ADDR = (s.eng k).pc.toNat)) ∧
  (∀ (k : Fin 12) (cond : BitVec 3) (s : State),
    s.executes k = true ∧ (s.eng k).run = .running →
    (s.eng k).pc.toNat % 2 = 1 →
    s.get R.FAULT.STATUS_ACTIVE = 0 →
    Completes (.inc k cond 3) s (fun t => (t.eng k).faulted = true ∧
      (t.eng k).g = (s.eng k).g ∧ (t.eng k).sp = (s.eng k).sp ∧ (t.eng k).pc = (s.eng k).pc ∧ (t.eng k).flags = (s.eng k).flags ∧
      t.get R.FAULT.P_INFO_CAUSE = 2 ∧ t.get R.FAULT.P_INFO_SRC = k ∧ t.get R.FAULT.P_ADDR_ADDR = (s.eng k).pc.toNat)) ∧
  (∀ (k : Fin 12) (cond : BitVec 3) (s : State),
    s.executes k = true ∧ (s.eng k).run = .running →
    (s.eng k).pc.toNat % 2 = 1 →
    s.get R.FAULT.STATUS_ACTIVE = 0 →
    Completes (.movsp k cond 1) s (fun t => (t.eng k).faulted = true ∧
      (t.eng k).g = (s.eng k).g ∧ (t.eng k).sp = (s.eng k).sp ∧ (t.eng k).pc = (s.eng k).pc ∧ (t.eng k).flags = (s.eng k).flags ∧
      t.get R.FAULT.P_INFO_CAUSE = 2 ∧ t.get R.FAULT.P_INFO_SRC = k ∧ t.get R.FAULT.P_ADDR_ADDR = (s.eng k).pc.toNat))

/-- For an engine in reset, OPEN clears its table and store and enters LOADING; a DATA access acts on the micro-word at ADDR and advances it, wrapping; COMMIT of a table that passes the load check and reproduces the digest of BOOT enters MEASURED, and a table that fails leaves FAILED with the first failing item in FAILADDR and MC_INVALID; a scrub that finds the digest unchanged clears SCRUB_ERR, an upset sets it and leaves the state FAILED. OPEN and COMMIT for a running engine are refused with ENG_RUNNING. -/
def Obligations.Microcode : Prop :=
  (∀ (who : Requester) (s : State),
    Works s who 0x1C 0x2C →
    s.get R.MCODE.SEL_ENG < 12 ∧ (s.eng (s.get R.MCODE.SEL_ENG)).run = .reset →
    Completes (.mcodeOpen who) s (fun t => (t.eng (s.get R.MCODE.SEL_ENG)) = { s.eng (s.get R.MCODE.SEL_ENG) with decode := [], micro := [], mc := .loading } ∧
      t.get (R.ENG.STAT_MC_OK (s.get R.MCODE.SEL_ENG)) = 0)) ∧
  (∀ (who : Requester) (s : State),
    Works s who 0x1C 0x2C →
    (s.eng (s.get R.MCODE.SEL_ENG)).run ≠ .reset →
    Completes (.mcodeOpen who) s (fun t => t.engines = s.engines ∧
      t.get (R.HDR.REASON 0x1C) = 0x40 ∧ t.get (R.HDR.ERRINFO 0x1C) = 0x2C)) ∧
  (∀ (who : Requester) (s : State),
    Works s who 0x1C 0x2C →
    (s.eng (s.get R.MCODE.SEL_ENG)).run ≠ .reset →
    Completes (.mcodeCommit who) s (fun t => t.engines = s.engines ∧
      t.get (R.HDR.REASON 0x1C) = 0x40 ∧ t.get (R.HDR.ERRINFO 0x1C) = 0x2C)) ∧
  (∀ (who : Requester) (s : State),
    Works s who 0x1C 0x2C →
    s.get R.MCODE.SEL_ENG < 12 ∧ (s.eng (s.get R.MCODE.SEL_ENG)).run = .reset →
    s.mode ≠ .boot →
    (s.eng (s.get R.MCODE.SEL_ENG)).loadFail = none →
    (s.eng (s.get R.MCODE.SEL_ENG)).mcBoot = some (s.eng (s.get R.MCODE.SEL_ENG)).tableDigest →
    Completes (.mcodeCommit who) s (fun t => (t.eng (s.get R.MCODE.SEL_ENG)).mc = .measured ∧
      t.get (R.ENG.STAT_MC_OK (s.get R.MCODE.SEL_ENG)) = 1 ∧
      t.get (R.HDR.REASON 0x1C) = s.get (R.HDR.REASON 0x1C))) ∧
  (∀ (who : Requester) (a : Nat) (s : State),
    Works s who 0x1C 0x2C →
    s.get R.MCODE.SEL_ENG < 12 ∧ (s.eng (s.get R.MCODE.SEL_ENG)).run = .reset →
    (s.eng (s.get R.MCODE.SEL_ENG)).loadFail = some a →
    Completes (.mcodeCommit who) s (fun t => (t.eng (s.get R.MCODE.SEL_ENG)).mc = .failed ∧
      t.get (R.ENG.STAT_MC_OK (s.get R.MCODE.SEL_ENG)) = 0 ∧
      t.get R.MCODE.STAT_FAILADDR = a % 512 ∧
      t.get (R.HDR.REASON 0x1C) = 0x41)) ∧
  (∀ (who : Requester) (w : Word) (s : State),
    Works s who 0x1C 0x28 →
    s.get R.MCODE.SEL_ENG < 12 ∧ (s.eng (s.get R.MCODE.SEL_ENG)).mc = .loading →
    s.get R.MCODE.ADDR_UADDR < 256 →
    Completes (.mcodeDataAccess who (some w)) s (fun t => (∀ a : Fin 256, (t.eng (s.get R.MCODE.SEL_ENG)).microWord a =
      (if a.val = s.get R.MCODE.ADDR_UADDR then w.toNat else (s.eng (s.get R.MCODE.SEL_ENG)).microWord a)) ∧
      t.get R.MCODE.ADDR_UADDR = (s.get R.MCODE.ADDR_UADDR + 1) % 256)) ∧
  (∀ (who : Requester) (s : State),
    Reaches s who 0x1C 0x28 false →
    s.get R.MCODE.ADDR_UADDR < 256 →
    Completes (.mcodeDataAccess who none) s (fun t => t.lastRead = (if (s.eng (s.get R.MCODE.SEL_ENG)).mc = .loading then (s.eng (s.get R.MCODE.SEL_ENG)).microWord (s.get R.MCODE.ADDR_UADDR) else 0) ∧
      t.get R.MCODE.ADDR_UADDR = (s.get R.MCODE.ADDR_UADDR + 1) % 256 ∧
      t.engines = s.engines)) ∧
  (∀ (k : Fin 12) (s : State),
    s.get (R.PWR.DOMSTAT (5 + k)) = 2 →
    (s.eng k).mc = .measured ∧ (s.eng k).tableDigest = (s.eng k).mcDigest →
    Completes (.mcodeScrub k false) s (fun t => t.get R.MCODE.STAT_SCRUB_ERR = 0 ∧
      (t.eng k).mc = .measured)) ∧
  (∀ (k : Fin 12) (s : State),
    s.get (R.PWR.DOMSTAT (5 + k)) = 2 →
    (s.eng k).mc = .measured →
    s.get R.FAULT.STATUS_ACTIVE = 0 →
    Completes (.mcodeScrub k true) s (fun t => t.get R.MCODE.STAT_SCRUB_ERR = 1 ∧
      (t.eng k).mc = .failed ∧ (t.eng k).faulted = true ∧
      t.get R.FAULT.P_INFO_CAUSE = 5 ∧ t.get R.FAULT.P_INFO_SRC = k))

/-- An engine with a verified image is released and runs with its page ENABLED, one without is refused NO_IMAGE; a stop of E1-E11 resets the engine and counts GEN; the watchdog of an executing E1-E11 raises WDOG; a halt request, a resume and a step act on the engine as R419 says, resume and step of one that is not HALTED are refused NOT_HALTED; an enabled breakpoint halts; the debug port reads and writes registers while debug access is open. -/
def Obligations.EngineControl : Prop :=
  (∀ (who : Requester) (k : Fin 12) (s : State),
    Writes s who (0x10 + k) 0x04 →
    s.get (R.HDR.LOCK (0x10 + k)) = 0 →
    (s.eng k).run = .reset ∧ (s.eng k).image = true ∧ (s.eng k).mc ≠ .failed →
    Completes (.engineRelease who k) s (fun t => (t.eng k).run = .running ∧ (t.eng k).pc = (s.eng k).pc ∧ (t.eng k).kfmt = s.bit (R.ENG.KFMT k) ∧
      t.get (R.HDR.ST (0x10 + k)) = 2 ∧ t.get (R.HDR.EN (0x10 + k)) = 1 ∧
      t.get (R.HDR.REASON (0x10 + k)) = 0)) ∧
  (∀ (who : Requester) (k : Fin 12) (s : State),
    Writes s who (0x10 + k) 0x04 →
    s.get (R.HDR.LOCK (0x10 + k)) = 0 →
    k.val ≠ 0 ∧ (s.eng k).run = .reset ∧ (s.eng k).image = false →
    Completes (.engineRelease who k) s (fun t => t.engines = s.engines ∧
      t.get (R.HDR.REASON (0x10 + k)) = 0x16)) ∧
  (∀ (who : Requester) (k : Fin 12) (s : State),
    Writes s who (0x10 + k) 0x04 →
    s.get (R.HDR.LOCK (0x10 + k)) = 0 →
    k.val ≠ 0 ∧ s.get (R.HDR.ST (0x10 + k)) ≠ 0 →
    Completes (.engineStop who k) s (fun t => (t.eng k).run = .reset ∧ (t.eng k).stalled = none ∧
      (t.eng k).mailbox = (s.eng k).mailbox ∧ (t.eng k).sram = (s.eng k).sram ∧
      t.get (R.ENG.STAT_GEN k) = (s.get (R.ENG.STAT_GEN k) + 1) % 256 ∧
      t.get (R.HDR.ST (0x10 + k)) = 0)) ∧
  (∀ (who : Requester) (s : State),
    Writes s who 0x10 0x04 →
    Completes (.engineStop who 0) s (fun t => t.engines = s.engines ∧
      t.get (R.HDR.REASON 0x10) = 0x12 ∧ t.get (R.HDR.ERRINFO 0x10) = 4)) ∧
  (∀ (k : Fin 12) (s : State),
    k.val ≠ 0 →
    (s.eng k).run = .running ∧ (s.eng k).faulted = false ∧ (s.eng k).stalled = none →
    s.get (R.ENG.WDOG_MS k) ≠ 0 →
    s.get R.FAULT.STATUS_ACTIVE = 0 →
    Completes (.engineWdogExpiry k) s (fun t => Counted s t (R.ENG.STAT_WDEXP k) ∧
      t.get R.FAULT.P_INFO_CAUSE = 1 ∧ t.get R.FAULT.P_INFO_SRC = k ∧
      (t.eng k).faulted = true)) ∧
  (∀ (who : Requester) (k : Fin 12) (s : State),
    Writes s who (0x10 + k) 0x28 →
    ((s.eng k).run = .running ∨ (s.eng k).run = .waiting) →
    Completes (.debugHalt who k) s (fun t => (t.eng k).run = .halted ∧ (t.eng k).pc = (s.eng k).pc ∧ (t.eng k).g = (s.eng k).g ∧
      (t.eng k).stalled = none ∧
      ((s.eng k).stalled ≠ none → (t.eng k).withdrawn = (s.eng k).stalled))) ∧
  (∀ (k : Fin 12) (s : State),
    s.get (R.ENG.BRKPT_EN k) = 1 ∧ s.get (R.ENG.BRKPT_ADDR k) = (s.eng k).pc.toNat →
    (s.eng k).run = .running ∧ (s.eng k).faulted = false →
    Completes (.breakpointMatch k) s (fun t => (t.eng k).run = .halted ∧ (t.eng k).pc = (s.eng k).pc ∧ (t.eng k).g = (s.eng k).g)) ∧
  (∀ (who : Requester) (k : Fin 12) (s : State),
    Writes s who (0x10 + k) 0x28 →
    (s.eng k).run = .halted ∧ (s.eng k).withdrawn = none →
    exec (.debugResume who k) s =
          .next (s.setEng k { s.eng k with run := bif (s.eng k).heldWait then .waiting else .running, heldWait := false })) ∧
  (∀ (who : Requester) (k : Fin 12) (s : State),
    Writes s who (0x10 + k) 0x28 →
    (s.eng k).run = .halted ∧ (s.eng k).faulted = false ∧ (s.eng k).stalled = none ∧ (s.eng k).kfmt = false →
    s.get (R.PWR.DOMSTAT (5 + k)) = 2 →
    (s.eng k).pc.toNat % 2 = 0 ∧ (s.eng k).pc.toNat < 0x7FFE →
    (s.eng k).fetchWord (s.eng k).pc.toNat = 0x1700 →
    Completes (.debugStep who k) s (fun t => t.eng k = { s.eng k with pc := (s.eng k).pc + 2, heldWait := false } ∧
      t.mem = s.mem ∧ t.cluster.stepping = s.cluster.stepping.filter (fun j => !Nat.beq j k))) ∧
  (∀ (who : Requester) (k : Fin 12) (s : State),
    Writes s who (0x10 + k) 0x28 →
    (s.eng k).run ≠ .halted →
    Completes (.debugResume who k) s (fun t => t.engines = s.engines ∧
      t.get (R.HDR.REASON (0x10 + k)) = 0x40)) ∧
  (∀ (who : Requester) (k : Fin 12) (s : State),
    Writes s who (0x10 + k) 0x28 →
    (s.eng k).run ≠ .halted →
    Completes (.debugStep who k) s (fun t => t.engines = s.engines ∧
      t.get (R.HDR.REASON (0x10 + k)) = 0x40)) ∧
  (∀ (s : State),
    s.debugIsOpen = true ∧ s.alive = true →
    exec .dbgRdstat s = .next { s with cluster := { s.cluster with dbgStatus := s.statusByte false, dbgData := [] } }) ∧
  (∀ (k : Fin 12) (s : State),
    s.debugIsOpen = true →
    Reaches s 0 (0x10 + k) 0x30 false →
    Completes (.dbgRd1 (BitVec.ofNat 16 (0x1030 + 256 * k)) 1) s (fun t => t.cluster.dbgData = [s.get (R.ENG.WDOG_MS k)] ∧
      t.cluster.dbgStatus = s.statusByte false ∧
      t.regs = s.regs ∧ t.engines = s.engines)) ∧
  (∀ (k : Fin 12) (w : Word) (s : State),
    s.debugIsOpen = true →
    Writes s 0 (0x10 + k) 0x30 →
    s.get (R.HDR.LOCK (0x10 + k)) = 0 →
    0 < w.toNat ∧ w.toNat < 256 →
    Completes (.dbgWr1 (BitVec.ofNat 16 (0x1030 + 256 * k)) [w]) s (fun t => t.get (R.ENG.WDOG_MS k) = w.toNat ∧
      t.engines = s.engines))

/-- A send to an engine with a verified image and room appends the built message with the sender's index and reads SENT; to a full mailbox it reads FULL, to a destination that is no engine NO_ENGINE, and nothing is delivered; a post of E1-E11 enters the FIFO while fewer than 15 entries stand in it and stalls the poster otherwise; POP removes the head and admits the lowest stalled engine; RESP1 gives RESP0 to an engine without a pending response and reading 0xF40F takes it; E10's reference image sets the lamp's level from LAMP_SET and answers LAMP_GET; without an answer E9 replies BUSY. -/
def Obligations.MailboxesAndCollector : Prop :=
  (∀ (k : Fin 12) (dest : BitVec 8) (s : State),
    (dest.toNat ≤ 11 ∧ ((s.eng dest.toNat).image = true ∨ dest = 0)) →
    (s.eng dest.toNat).mailbox.length < 8 →
    Completes (.mailboxSend k dest) s (fun t => (t.eng dest.toNat).mailbox = (s.eng dest.toNat).mailbox ++ [{ (s.eng k).outbound with w0 := ((s.eng k).outbound.w0 &&& 0xFFFFFFF0#32) ||| BitVec.ofNat 32 k }] ∧
      (t.eng k).txst = 0 ∧
      ((s.eng dest.toNat).run = .waiting → (t.eng dest.toNat).run = .running))) ∧
  (∀ (k : Fin 12) (dest : BitVec 8) (s : State),
    (dest.toNat ≤ 11 ∧ ((s.eng dest.toNat).image = true ∨ dest = 0)) →
    8 ≤ (s.eng dest.toNat).mailbox.length →
    exec (.mailboxSend k dest) s = .next (s.setEng k { s.eng k with txst := 1 })) ∧
  (∀ (k : Fin 12) (dest : BitVec 8) (s : State),
    (11 < dest.toNat ∨ ((s.eng dest.toNat).image = false ∧ dest ≠ 0)) →
    exec (.mailboxSend k dest) s = .next (s.setEng k { s.eng k with txst := 2 })) ∧
  (∀ (k : Fin 12) (code : Half) (resp : Bool) (value : Word) (s : State),
    s.cluster.fifo.length < 15 →
    Completes (.collectPost k code resp value) s (fun t => t.cluster.fifo = s.cluster.fifo ++ [⟨k, resp, s.get (R.ENG.STAT_GEN k) % 16, code.toNat, value⟩] ∧
      Counted s t R.COLLECT.CNT_POSTS ∧
      (t.eng k).stalled = (s.eng k).stalled)) ∧
  (∀ (k : Fin 12) (code : Half) (resp : Bool) (value : Word) (s : State),
    k.val ≠ 0 ∧ 15 ≤ s.cluster.fifo.length →
    Completes (.collectPost k code resp value) s (fun t => t.cluster.fifo = s.cluster.fifo ∧
      (t.eng k).stalled = some ⟨k, resp, s.get (R.ENG.STAT_GEN k) % 16, code.toNat, value⟩ ∧
      t.get (R.ENG.STAT_STALLED k) = 1 ∧
      Counted s t R.COLLECT.CNT_STALLS)) ∧
  (∀ (who : Requester) (p : Post) (l : List Post) (s : State),
    Works s who 0x1D 0x28 →
    s.cluster.fifo = p :: l →
    (∀ k : Fin 12, (s.eng k).stalled = none) →
    Completes (.collectPop who) s (fun t => t.cluster.fifo = l)) ∧
  (∀ (who : Requester) (k : Fin 12) (p q : Post) (l : List Post) (s : State),
    Works s who 0x1D 0x28 →
    s.cluster.fifo = p :: l ∧ l.length = 14 →
    (s.eng k).stalled = some q →
    (∀ j : Fin 12, j.val < k.val → (s.eng j).stalled = none) →
    Completes (.collectPop who) s (fun t => t.cluster.fifo = l ++ [q] ∧
      (t.eng k).stalled = none ∧
      t.get (R.ENG.STAT_STALLED k) = 0)) ∧
  (∀ (who : Requester) (k : Fin 12) (s : State),
    Works s who 0x1D 0x34 →
    k.val ≠ 0 ∧ (s.eng k).response = none →
    Completes (.collectResponse who (BitVec.ofNat 4 k)) s (fun t => (t.eng k).response = some (BitVec.ofNat 32 (s.get R.COLLECT.RESP0_VALUE)) ∧
      ((s.eng k).run = .waiting → (t.eng k).run = .running))) ∧
  (∀ (k : Fin 12) (v : Word) (s : State),
    (s.eng k).response = some v →
    exec (.collectRespRead k) s = .next { s.setEng k { s.eng k with response := none } with lastRead := v.toNat }) ∧
  (∀ (m : Mail) (l : List Mail) (s : State),
    s.engines.e10.mailbox = m :: l ∧ m.type = 0x90 →
    s.reference = true →
    Completes (.e10LampSet) s (fun t => t.engines.e10.mailbox = l ∧
      t.lamp.level = m.w1.toNat % 256)) ∧
  (∀ (m : Mail) (l : List Mail) (seq : Nat) (s : State),
    s.engines.e10.mailbox = m :: l ∧ m.type = 0x91 ∧ m.src = 9 →
    s.reference = true →
    s.compat.lampWait = some seq →
    Completes (.e10LampGet) s (fun t => t.engines.e10.mailbox = l ∧
      t.compat.reply = some ⟨seq, 0xB1, [0, BitVec.ofNat 8 s.lamp.level, bif Nat.beq (s.get R.AOUT.RLYSTAT_STATE) 1 then 1 else 0]⟩ ∧
      t.compat.lampWait = none ∧ t.lamp = s.lamp)) ∧
  (∀ (seq : Nat) (s : State),
    s.compat.lampWait = some seq →
    Completes (.lampGetTimeout) s (fun t => t.compat.reply = some ⟨seq, 0xB1, [4]⟩ ∧
      t.compat.lampWait = none ∧ t.engines = s.engines))

/-- A software or host event reaches every engine input that selects it (PEND, or OVR where PEND is already set) and every capture input that selects it (CAP with CAPFULL); a latched Quartz event is delivered when CORE is ON, a capture taking the count of the latch with CAPLF; clearing PEND or OVR clears exactly the bits named, but for the fixed inputs; a selector takes a legal SRC and refuses a reserved one with BAD_VALUE, the fixed inputs with their own code; a tap takes page, bit and enable for a page its owner may read and refuses an unmapped page. -/
def Obligations.EventFabric : Prop :=
  (∀ (k : Fin 12) (n : Fin 64) (s : State),
    (s.eng k).run = .running →
    s.domOn 0 = true →
    2 ≤ n.val ∧ n.val < 36 →
    s.get (R.EVT.SEL_SRC n) = 16 + k →
    Completes (.swevSignal k) s (fun t => t.get (R.EVT.SEL_PEND n) = 1 ∧
      (s.get (R.EVT.SEL_PEND n) ≠ 0 → t.get (R.EVT.SEL_OVR n) = 1))) ∧
  (∀ (k : Fin 12) (i : Fin 16) (s : State),
    (s.eng k).run = .running →
    s.domOn 0 = true →
    s.get (R.EVT.SEL_SRC (36 + i)) = 16 + k →
    Completes (.swevSignal k) s (fun t => t.get (R.TIM.CAP_VALUE i) = s.get (R.TIM.CNT_COUNT i) ∧
      t.get (R.TIM.STAT_CAPFULL i) = 1 ∧
      t.get (R.TIM.STAT_CAPLF i) = 0 ∧
      (s.get (R.TIM.STAT_CAPFULL i) ≠ 0 → t.get (R.TIM.STAT_CAPOVR i) = 1))) ∧
  (∀ (n : Fin 64) (s : State),
    Writes s 12 0x22 0xA0 →
    s.domOn 0 = true →
    2 ≤ n.val ∧ n.val < 36 →
    s.get (R.EVT.SEL_SRC n) = 28 →
    Completes (.hostSignal 12) s (fun t => t.get (R.EVT.SEL_PEND n) = 1 ∧
      (s.get (R.EVT.SEL_PEND n) ≠ 0 → t.get (R.EVT.SEL_OVR n) = 1))) ∧
  (∀ (p : Nat) (cs : List Nat) (n : Fin 64) (s : State),
    s.domOn 0 = true →
    s.fabric.latched = [⟨p, cs⟩] →
    2 ≤ n.val ∧ n.val < 36 →
    s.get (R.EVT.SEL_SRC n) = p →
    Completes (.quartzEventDelivery []) s (fun t => t.fabric.latched = [] ∧
      t.get (R.EVT.SEL_PEND n) = 1 ∧
      t.get R.EVT.QLOST_MAP = s.get R.EVT.QLOST_MAP)) ∧
  (∀ (p : Nat) (cs : List Nat) (i : Fin 16) (s : State),
    s.domOn 0 = true →
    s.fabric.latched = [⟨p, cs⟩] →
    s.get (R.EVT.SEL_SRC (36 + i)) = p →
    Completes (.quartzEventDelivery []) s (fun t => t.get (R.TIM.CAP_VALUE i) = cs.getD i 0 % 2 ^ 32 ∧
      t.get (R.TIM.STAT_CAPLF i) = 1 ∧
      t.get (R.TIM.STAT_CAPFULL i) = 1)) ∧
  (∀ (k : Fin 12) (pend ovr j : BitVec 3) (s : State),
    j.toNat < 3 →
    2 ≤ 3 * k.val + j.toNat →
    Completes (.eventPendClear k pend ovr) s (fun t => t.get (R.EVT.SEL_PEND (3 * k + j.toNat)) = (bif pend.getLsbD j.toNat then 0 else s.get (R.EVT.SEL_PEND (3 * k + j.toNat))) ∧
      t.get (R.EVT.SEL_OVR (3 * k + j.toNat)) = (bif ovr.getLsbD j.toNat then 0 else s.get (R.EVT.SEL_OVR (3 * k + j.toNat))) ∧
      t.engines = s.engines ∧ t.mem = s.mem)) ∧
  (∀ (pend : BitVec 3) (s : State),
    exec (.eventPendClear 0 (pend &&& 3) 0) s = .next s) ∧
  (∀ (who : Requester) (n : Fin 64) (src : BitVec 7) (s : State),
    Writes s who (0x20 + n / 32) (0x20 + 4 * (n % 32)) →
    who.val ≠ 0 ∧ 2 ≤ n.val →
    (src.toNat < 63 ∨ src = 127) →
    Completes (.selectorWrite who n (src.setWidth 32)) s (fun t => t.get (R.EVT.SEL_SRC n) = src.toNat ∧
      t.get (R.EVT.SEL_OWNER n) = s.get (R.EVT.SEL_OWNER n) ∧
      t.get (R.EVT.SEL_PEND n) = s.get (R.EVT.SEL_PEND n) ∧ t.get (R.EVT.SEL_OVR n) = s.get (R.EVT.SEL_OVR n) ∧
      t.engines = s.engines ∧ t.mem = s.mem)) ∧
  (∀ (n : Fin 64) (src : BitVec 7) (own : BitVec 4) (s : State),
    Writes s 0 (0x20 + n / 32) (0x20 + 4 * (n % 32)) →
    2 ≤ n.val →
    src.toNat < 63 ∧ own.toNat ≤ 12 →
    Completes (.selectorWrite 0 n (BitVec.ofNat 32 (2 ^ 8 * own.toNat + src.toNat))) s (fun t => t.get (R.EVT.SEL_SRC n) = src.toNat ∧
      t.get (R.EVT.SEL_OWNER n) = own.toNat ∧
      t.get (R.EVT.SEL_SEC n) = (if own.toNat < 10 then 1 else 0))) ∧
  (∀ (who : Requester) (n : Fin 64) (src : BitVec 7) (s : State),
    Writes s who (0x20 + n / 32) (0x20 + 4 * (n % 32)) →
    2 ≤ n.val ∧ 96 ≤ src.toNat ∧ src.toNat ≤ 126 →
    Completes (.selectorWrite who n (src.setWidth 32)) s (fun t => t.get (R.EVT.SEL_SRC n) = s.get (R.EVT.SEL_SRC n) ∧
      t.get (R.HDR.REASON (0x20 + n / 32)) = 7)) ∧
  (∀ (who : Requester) (n : Fin 64) (w : Word) (s : State),
    Writes s who (0x20 + n / 32) (0x20 + 4 * (n % 32)) →
    n.val < 2 →
    Completes (.selectorWrite who n w) s (fun t => t.get (R.EVT.SEL_SRC n) = s.get (R.EVT.SEL_SRC n) ∧
      t.get (R.HDR.REASON 0x20) = 0x40)) ∧
  (∀ (who : Requester) (k : Fin 32) (page : Byte) (bit : BitVec 5) (en : Bool) (s : State),
    Writes s who 0x22 (0x20 + 4 * k) →
    who.val ≠ 0 →
    mapped page.toNat = true →
    s.get (R.EVT.TAP_OWNER k) ≤ 12 →
    s.rights (s.get (R.EVT.TAP_OWNER k)) page.toNat 0x0C false = 0 →
    Completes (.tapWrite who k (BitVec.ofNat 32 (2 ^ 16 * (bif en then 1 else 0) + 2 ^ 8 * bit.toNat + page.toNat))) s (fun t => t.get (R.EVT.TAP_PAGE k) = page.toNat ∧
      t.get (R.EVT.TAP_BIT k) = bit.toNat ∧
      t.get (R.EVT.TAP_EN k) = en.toNat ∧
      t.get (R.EVT.TAP_OWNER k) = s.get (R.EVT.TAP_OWNER k))) ∧
  (∀ (who : Requester) (k : Fin 32) (page : Byte) (s : State),
    Writes s who 0x22 (0x20 + 4 * k) →
    mapped page.toNat = false →
    Completes (.tapWrite who k (page.setWidth 32)) s (fun t => t.get (R.EVT.TAP_PAGE k) = s.get (R.EVT.TAP_PAGE k) ∧
      t.get (R.HDR.REASON 0x22) = 7))

/-- GO starts every stopped timer with GOSEL that the writer owns from prescaler phase 0 and takes its GOSEL; a reset returns a timer to count 0, stopped, its OWNER kept, and leaves the timers it does not name; a write of CMP arms an enabled compare and idles a disabled one; CFG takes a DIV up to 10, refuses a greater one and a change while the timer runs; a compare that an edge reaches sets MATCH and is spent, or with an interval moves on by it and is armed again; one that is passed when armed reads LATE and does not match; a read of CAP returns the capture and clears CAPFULL. -/
def Obligations.Timers : Prop :=
  (∀ (who : Requester) (i : Fin 16) (s : State),
    Writes s who 0x24 0xE0 →
    s.get (R.TIM.STAT_RUN i) = 0 →
    s.get (R.TIM.CFG_GOSEL i) ≠ 0 →
    (who.val = 0 ∨ s.get (R.TIM.CFG_OWNER i) = who) →
    Completes (.timerGo who) s (fun t => t.get (R.TIM.STAT_RUN i) = 1 ∧ t.get (R.TIM.CFG_GOSEL i) = 0 ∧
      t.fabric.phases.look i = 0 ∧
      t.get (R.TIM.CNT_COUNT i) = s.get (R.TIM.CNT_COUNT i))) ∧
  (∀ (who : Requester) (i : Fin 16) (s : State),
    Writes s who 0x24 0xE0 →
    (s.get (R.TIM.CFG_GOSEL i) = 0 ∨ s.get (R.TIM.STAT_RUN i) ≠ 0) →
    Completes (.timerGo who) s (fun t => t.get (R.TIM.STAT_RUN i) = s.get (R.TIM.STAT_RUN i))) ∧
  (∀ (who : Requester) (m : BitVec 16) (i : Fin 16) (s : State),
    Writes s who 0x24 0xE4 →
    m.getLsbD i = true →
    (who.val = 0 ∨ s.get (R.TIM.CFG_OWNER i) = who) →
    Completes (.timerReset who m) s (fun t => t.get (R.TIM.CNT_COUNT i) = 0 ∧ t.get (R.TIM.STAT_RUN i) = 0 ∧ t.get (R.TIM.CFG_CMPEN i) = 0 ∧
      t.get (R.TIM.CFG_OWNER i) = s.get (R.TIM.CFG_OWNER i) ∧
      t.fabric.phases.look i = 0)) ∧
  (∀ (who : Requester) (m : BitVec 16) (i : Fin 16) (s : State),
    Writes s who 0x24 0xE4 →
    m.getLsbD i = false →
    Completes (.timerReset who m) s (fun t => t.get (R.TIM.CNT_COUNT i) = s.get (R.TIM.CNT_COUNT i) ∧ t.get (R.TIM.STAT_RUN i) = s.get (R.TIM.STAT_RUN i))) ∧
  (∀ (who : Requester) (i : Fin 16) (j : Fin 4) (w : Word) (s : State),
    Writes s who (0x24 + i / 4) (0x28 + 0x30 * (i % 4) + 4 * j) →
    Completes (.timCmpWrite who i j w) s (fun t => t.get (R.TIM.CMP_VALUE i j) = w.toNat ∧
      t.fabric.cmp i j = (if (s.get (R.TIM.CFG_CMPEN i)).testBit j then .arming else .idle) ∧
      t.get (R.TIM.CNT_COUNT i) = s.get (R.TIM.CNT_COUNT i) ∧ t.engines = s.engines)) ∧
  (∀ (who : Requester) (i : Fin 16) (w : Word) (s : State),
    Writes s who (0x24 + i / 4) (0x20 + 0x30 * (i % 4)) →
    (R.TIM.CFG_DIV i).of w.toNat ≤ 10 →
    (s.get (R.TIM.STAT_RUN i) = 0 ∨ (R.TIM.CFG_DIV i).of w.toNat = s.get (R.TIM.CFG_DIV i)) →
    who.val ≠ 0 →
    Completes (.timCfgWrite who i w) s (fun t => t.get (R.TIM.CFG_DIV i) = (R.TIM.CFG_DIV i).of w.toNat ∧
      t.get (R.TIM.CFG_CMPEN i) = (R.TIM.CFG_CMPEN i).of w.toNat ∧
      t.get (R.TIM.CFG_GOSEL i) = (R.TIM.CFG_GOSEL i).of w.toNat ∧
      t.get (R.TIM.CFG_OWNER i) = s.get (R.TIM.CFG_OWNER i))) ∧
  (∀ (who : Requester) (i : Fin 16) (w : Word) (s : State),
    Writes s who (0x24 + i / 4) (0x20 + 0x30 * (i % 4)) →
    10 < (R.TIM.CFG_DIV i).of w.toNat →
    Completes (.timCfgWrite who i w) s (fun t => t.get (R.TIM.CFG_DIV i) = s.get (R.TIM.CFG_DIV i) ∧ t.get (R.TIM.CFG_CMPEN i) = s.get (R.TIM.CFG_CMPEN i) ∧
      t.get (R.HDR.REASON (0x24 + i / 4)) = 7)) ∧
  (∀ (i : Fin 16) (j : Fin 4) (c : Word) (s : State),
    s.get (R.TIM.STAT_RUN i) = 1 →
    s.get (R.TIM.CFG_CMPEN i) = 2 ^ j.val →
    (s.fabric.cmp i j = .ahead ∨ s.fabric.cmp i j = .arming) →
    s.get (R.TIM.CMP_VALUE i j) = c.toNat →
    Completes (.compareMatch i c) s (fun t => t.get (R.TIM.CNT_COUNT i) = c.toNat ∧
      t.get (R.TIM.STAT_MATCH i) = (s.get (R.TIM.STAT_MATCH i) ||| 2 ^ j.val) % 16 ∧
      t.fabric.cmp i j = (if s.get (R.TIM.INT_INTERVAL i j) = 0 then .spent else .arming) ∧
      t.get (R.TIM.CMP_VALUE i j) = (c.toNat + s.get (R.TIM.INT_INTERVAL i j)) % 2 ^ 32)) ∧
  (∀ (i : Fin 16) (j : Fin 4) (c : Word) (s : State),
    s.get (R.TIM.STAT_RUN i) = 1 →
    s.get (R.TIM.CFG_CMPEN i) = 2 ^ j.val →
    s.fabric.cmp i j = .arming →
    (s.get (R.TIM.CFG_LATEFIRE i)).testBit j = false →
    s.get (R.TIM.CMP_VALUE i j) < c.toNat ∧ c.toNat ≤ s.get (R.TIM.CMP_VALUE i j) + 0x80000000 →
    Completes (.compareMatch i c) s (fun t => t.fabric.cmp i j = .late ∧
      t.get (R.TIM.STAT_LATE i) = (s.get (R.TIM.STAT_LATE i) ||| 2 ^ j.val) % 16 ∧
      t.get (R.TIM.STAT_MATCH i) = s.get (R.TIM.STAT_MATCH i))) ∧
  (∀ (who : Requester) (i : Fin 16) (s : State),
    Reaches s who (0x24 + i / 4) (0x48 + 0x30 * (i % 4)) false →
    Completes (.capRead who i) s (fun t => t.lastRead = s.get (R.TIM.CAP_VALUE i) ∧
      t.get (R.TIM.STAT_CAPFULL i) = 0 ∧
      t.get (R.TIM.CAP_VALUE i) = s.get (R.TIM.CAP_VALUE i)))

/-- A second brings the count to the start of the next second (with no shift in progress) and none is entered while LF is stopped; a read of CNT_LO answers the low word of the count after the edges passed; an accepted commit is pending and refuses another with BUSY, a second past the calendar is refused; the commit lands as the staged count plus one, cancels a shift, and a commit by HOST clears OSF; a shift within ±16,384 ticks becomes busy, is refused BUSY while one is busy or a commit is pending, and when its 32,768 edges are over it has moved the count by its ticks. -/
def Obligations.RealTimeClock : Prop :=
  (∀ (b : Bool) (s : State),
    s.rtc.stopped = false →
    s.rtc.shift = 0 →
    Completes (.rtcSecond b) s (fun t => t.rtc.count = (s.rtc.count / 32768 + 1) * 32768 % 2 ^ 48 ∧
      t.get (R.HDR.IRQ 0x28 2) = 1 ∧
      t.get R.RTC.STAT_RANGE = (if 8583494399 < (s.rtc.count / 32768 + 1) * 32768 % 2 ^ 48 / 32768 then 1 else 0))) ∧
  (∀ (b : Bool) (s : State),
    s.rtc.stopped = true →
    exec (.rtcSecond b) s = .next s) ∧
  (∀ (who : Requester) (edges : BitVec 15) (s : State),
    Reaches s who 0x28 0x20 false →
    s.rtc.stopped = false ∧ s.rtc.shift = 0 →
    Completes (.rtcCntRead (who.castLT (by omega)) edges) s (fun t => t.rtc.count = (s.rtc.count + min edges.toNat (32767 - s.rtc.count % 32768)) % 2 ^ 48 ∧
      t.lastRead = t.rtc.count % 2 ^ 32 ∧
      t.rtc.latches.find? (fun l => Nat.beq l.who who) = some ⟨who, some (t.rtc.count / 2 ^ 32), some t.rtc.cal.word0, some t.rtc.cal.word1⟩)) ∧
  (∀ (who : Requester) (edges : BitVec 15) (s : State),
    Writes s who 0x28 0x40 →
    s.get R.RTC.STAT_PENDING = 0 →
    s.get R.RTC.SCNT_SEC_L + 2 ^ 17 * s.get R.RTC.SCNT_SEC_H ≤ 8583494399 →
    Completes (.rtcCommitCount who edges) s (fun t => t.rtc.staged = some ((s.get R.RTC.SCNT_SEC_L + 2 ^ 17 * s.get R.RTC.SCNT_SEC_H) * 32768 + s.get R.RTC.SCNT_SUB, who.val) ∧
      t.get R.RTC.STAT_PENDING = 1)) ∧
  (∀ (who : Requester) (edges : BitVec 15) (s : State),
    Writes s who 0x28 0x40 →
    (s.get R.RTC.STAT_PENDING ≠ 0 ∨ 8583494399 < s.get R.RTC.SCNT_SEC_L + 2 ^ 17 * s.get R.RTC.SCNT_SEC_H) →
    Completes (.rtcCommitCount who edges) s (fun t => t.rtc.staged = s.rtc.staged ∧
      t.get (R.HDR.REASON 0x28) = (if s.get R.RTC.STAT_PENDING ≠ 0 then 0x0D else 0x40))) ∧
  (∀ (who : Requester) (edges : BitVec 15) (c : Cal) (s : State),
    Writes s who 0x28 0x40 →
    s.get R.RTC.STAT_PENDING = 0 →
    c = ⟨s.get R.RTC.SCAL_SEC, s.get R.RTC.SCAL_MIN, s.get R.RTC.SCAL_HOUR, s.get R.RTC.SCAL_WDAY, s.get R.RTC.SCAL_DAY, s.get R.RTC.SCAL_MONTH, s.get R.RTC.SCAL_YEAR⟩ →
    c.valid = true →
    Completes (.rtcCommitCalendar who edges) s (fun t => t.rtc.staged = some (c.second * 32768 + s.get R.RTC.SCNT_SUB, who.val) ∧
      t.get R.RTC.STAT_PENDING = 1)) ∧
  (∀ (b stop : Bool) (n who : Nat) (s : State),
    s.rtc.stopped = false →
    s.rtc.staged = some (n, who) →
    Completes (.rtcCommitLand b stop) s (fun t => t.rtc.count = (n + 1) % 2 ^ 48 ∧
      t.rtc.staged = none ∧ t.rtc.shift = 0 ∧
      t.get R.RTC.STAT_PENDING = 0 ∧
      t.get R.RTC.STAT_OSF = (if stop then 1 else if who = 12 then 0 else s.get R.RTC.STAT_OSF) ∧
      (s.get R.RTC.SHIFT_BUSY ≠ 0 → t.get R.RTC.SHIFT_BUSY = 0 ∧ t.get R.RTC.STAT_SHIFT_CXL = 1))) ∧
  (∀ (who : Requester) (ticks : BitVec 16) (edges : BitVec 15) (s : State),
    Writes s who 0x28 0x44 →
    s.get R.RTC.SHIFT_BUSY = 0 ∧ s.get R.RTC.STAT_PENDING = 0 ∧ s.get R.RTC.STAT_OSF = 0 →
    ticks.toInt ≠ 0 ∧ -16384 ≤ ticks.toInt ∧ ticks.toInt ≤ 16384 →
    Completes (.rtcShift who ticks edges) s (fun t => t.rtc.shift = ticks.toInt ∧ t.rtc.shiftEdges = 0 ∧
      t.get R.RTC.SHIFT_BUSY = 1 ∧
      t.get R.RTC.SHIFT_TICKS = ticks.toNat)) ∧
  (∀ (who : Requester) (ticks : BitVec 16) (edges : BitVec 15) (s : State),
    Writes s who 0x28 0x44 →
    (s.get R.RTC.SHIFT_BUSY ≠ 0 ∨ s.get R.RTC.STAT_PENDING ≠ 0) →
    Completes (.rtcShift who ticks edges) s (fun t => t.rtc.shift = s.rtc.shift ∧
      t.get (R.HDR.REASON 0x28) = 0x0D)) ∧
  (∀ (s : State),
    s.get R.RTC.SHIFT_BUSY = 1 ∧ s.rtc.stopped = false →
    s.rtc.shiftEdges = 0 ∧ s.rtc.shift ≠ 0 →
    s.rtc.shift.natAbs ≤ 16384 →
    Completes (.rtcShiftDone) s (fun t => (t.rtc.count : Int) = ((s.rtc.count : Int) + 32768 + s.rtc.shift) % 2 ^ 48 ∧
      t.rtc.shift = 0 ∧
      t.get R.RTC.SHIFT_BUSY = 0 ∧ t.get R.RTC.SHIFT_TICKS = 0))

/-- An enabled alarm whose compared fields equal the calendar raises its interrupt at the second and a one-shot alarm disables itself; ALM_CTL takes MASK, EN and ONESHOT for legal fields, refuses EN with an empty MASK with BAD_VALUE and a new MASK of an enabled alarm with BUSY; the charger ends charging at VEND and resumes below it; CHG takes ILIM and VEND at once and a reserved VEND is BAD_VALUE. -/
def Obligations.AlarmsAndCharger : Prop :=
  (∀ (n : Fin 2) (s : State),
    s.rtc.stopped = false ∧ s.rtc.shift = 0 →
    s.rtc.almDue = [] →
    s.get (R.RTC.ALM_CTL_EN n) = 1 ∧ s.get (R.RTC.ALM_CTL_MASK n) = 1 →
    s.get (R.RTC.ALM_SEC n) = (s.rtc.count / 32768 + 1) % 60 →
    s.rtc.count / 32768 < 8583494399 →
    Completes (.rtcSecond false) s (fun t => t.get (R.HDR.IRQ 0x28 n) = 1 ∧
      t.get (R.RTC.ALM_CTL_EN n) = (if s.get (R.RTC.ALM_CTL_ONESHOT n) = 0 then 1 else 0))) ∧
  (∀ (who : Requester) (n : Fin 2) (w : Word) (s : State),
    Writes s who 0x28 (0x58 + 12 * n) →
    s.get (R.RTC.ALM_CTL_EN n) = 0 →
    ((R.RTC.ALM_CTL_EN n).of w.toNat = 0 ∨ (R.RTC.ALM_CTL_MASK n).of w.toNat ≠ 0) →
    alarmFieldsOk ((R.RTC.ALM_CTL_MASK n).of w.toNat) (s.alarmFields n) = true →
    Completes (.alarmCtlWrite who n w) s (fun t => t.get (R.RTC.ALM_CTL_EN n) = (R.RTC.ALM_CTL_EN n).of w.toNat ∧
      t.get (R.RTC.ALM_CTL_MASK n) = (R.RTC.ALM_CTL_MASK n).of w.toNat ∧
      t.get (R.RTC.ALM_CTL_ONESHOT n) = (R.RTC.ALM_CTL_ONESHOT n).of w.toNat)) ∧
  (∀ (who : Requester) (n : Fin 2) (w : Word) (s : State),
    Writes s who 0x28 (0x58 + 12 * n) →
    s.get (R.RTC.ALM_CTL_EN n) ≠ 0 ∧ (R.RTC.ALM_CTL_MASK n).of w.toNat ≠ s.get (R.RTC.ALM_CTL_MASK n) →
    exec (.alarmCtlWrite who n w) s = .next ((s.set (R.HDR.REASON 0x28) 0x0D).set (R.HDR.ERRINFO 0x28) (0x58 + 12 * n))) ∧
  (∀ (s : State),
    s.get R.RTC.STAT_CHG_ST = 1 →
    Completes (.chargerDone) s (fun t => t.get R.RTC.STAT_CHG_ST = 2)) ∧
  (∀ (s : State),
    s.get R.RTC.STAT_CHG_ST = 2 →
    exec .chargerRestart s = .next (s.set R.RTC.STAT_CHG_ST 1)) ∧
  (∀ (who : Requester) (ilim vend : BitVec 2) (s : State),
    Writes s who 0x28 0x4C →
    vend ≠ 3 ∧ ilim ≠ 0 →
    s.get R.PWR.SUPPLY_MAINS = 1 ∧ s.get R.PWR.SUPPLY_BROWNOUT = 0 ∧ s.supply.rstnLow = false →
    Completes (.chgWrite who ((vend ++ (0 : BitVec 2) ++ ilim).setWidth 32)) s (fun t => t.get R.RTC.CHG_ILIM = ilim.toNat ∧ t.get R.RTC.CHG_VEND = vend.toNat ∧
      t.get R.RTC.STAT_CHG_ST = (if s.get R.PWR.SUPPLY_VBAK < (if vend = 0 then 108 else if vend = 1 then 132 else 200) then 1 else 2))) ∧
  (∀ (who : Requester) (ilim : BitVec 2) (s : State),
    Writes s who 0x28 0x4C →
    exec (.chgWrite who (((3 : BitVec 2) ++ (0 : BitVec 2) ++ ilim).setWidth 32)) s = .next ((s.set (R.HDR.REASON 0x28) 7).set (R.HDR.ERRINFO 0x28) 0x4C))

/-- RUN makes a stopped channel fetch the descriptor at its index: IDLE without OWN, ERROR with the first failing check's reason, else READY or ACTIVE; POKE makes an idle channel fetch again; a trigger starts a channel that waits for it; an ACTIVE word copy of 16 bytes within shared SRAM writes exactly the source bytes and the descriptor's control word without OWN, advances the index and stops at LAST; RUN = 0 stops a channel that is not ACTIVE at once; an access outside the two spaces halts the engine with its address; CLEAR ends the halt with every channel stopped and its index unchanged. -/
def Obligations.DmaChannels : Prop :=
  (∀ (who : Requester) (c : Fin 16) (s : State),
    Works s who (0x2A + c / 8) (0x48 + 0x10 * (c % 8)) →
    s.get (R.HDR.BLK 0x2A) ≠ 1 →
    s.domOn 1 ∧ s.domOn 2 ∧ s.domOn 3 ∧ s.domOn 4 →
    s.get (R.DMA.STAT_ST c) = 0 →
    (s.sram (16 * s.get (R.DMA.RING_BASE c) + 16 * s.get (R.DMA.STAT_IDX c) + 12)).toNat % 2 = 0 →
    Completes (.dmaRunSet who c) s (fun t => t.get (R.DMA.STAT_ST c) = 1 ∧
      t.dma = s.dma ∧ t.mem = s.mem)) ∧
  (∀ (who : Requester) (c : Fin 16) (s : State),
    Works s who (0x2A + c / 8) (0x48 + 0x10 * (c % 8)) →
    s.get (R.HDR.BLK 0x2A) ≠ 1 →
    s.domOn 1 ∧ s.domOn 2 ∧ s.domOn 3 ∧ s.domOn 4 →
    s.get (R.DMA.STAT_ST c) = 1 →
    (s.sram (16 * s.get (R.DMA.RING_BASE c) + 16 * s.get (R.DMA.STAT_IDX c) + 12)).toNat % 2 = 0 →
    Completes (.dmaPoke who c) s (fun t => t.get (R.DMA.STAT_ST c) = 1 ∧
      t.dma = s.dma ∧ t.mem = s.mem)) ∧
  (∀ (who : Requester) (c : Fin 16) (d : Desc) (s : State),
    Works s who (0x2A + c / 8) (0x48 + 0x10 * (c % 8)) →
    s.get (R.HDR.BLK 0x2A) ≠ 1 →
    s.domOn 1 ∧ s.domOn 2 ∧ s.domOn 3 ∧ s.domOn 4 →
    s.get (R.DMA.STAT_ST c) = 0 →
    d = ⟨s.sramWord (16 * s.get (R.DMA.RING_BASE c) + 16 * s.get (R.DMA.STAT_IDX c)), s.sramWord (16 * s.get (R.DMA.RING_BASE c) + 16 * s.get (R.DMA.STAT_IDX c) + 4), s.sramWord (16 * s.get (R.DMA.RING_BASE c) + 16 * s.get (R.DMA.STAT_IDX c) + 8) % 2 ^ 24, s.sramWord (16 * s.get (R.DMA.RING_BASE c) + 16 * s.get (R.DMA.STAT_IDX c) + 12)⟩ →
    d.ctl % 2 = 1 ∧ d.check = 0 →
    s.dma.length = 16 ∧ (s.dma.getD c Channel.idle).trig = false →
    Completes (.dmaRunSet who c) s (fun t => t.get (R.DMA.STAT_ST c) = (if d.ctl.testBit 7 then 2 else 3) ∧
      (t.dma.getD c Channel.idle).desc = some d ∧ (t.dma.getD c Channel.idle).done = 0 ∧
      t.mem = s.mem)) ∧
  (∀ (who : Requester) (c : Fin 16) (d : Desc) (s : State),
    Works s who (0x2A + c / 8) (0x48 + 0x10 * (c % 8)) →
    s.get (R.HDR.BLK 0x2A) ≠ 1 →
    s.domOn 1 ∧ s.domOn 2 ∧ s.domOn 3 ∧ s.domOn 4 →
    s.get (R.DMA.STAT_ST c) = 1 →
    d = ⟨s.sramWord (16 * s.get (R.DMA.RING_BASE c) + 16 * s.get (R.DMA.STAT_IDX c)), s.sramWord (16 * s.get (R.DMA.RING_BASE c) + 16 * s.get (R.DMA.STAT_IDX c) + 4), s.sramWord (16 * s.get (R.DMA.RING_BASE c) + 16 * s.get (R.DMA.STAT_IDX c) + 8) % 2 ^ 24, s.sramWord (16 * s.get (R.DMA.RING_BASE c) + 16 * s.get (R.DMA.STAT_IDX c) + 12)⟩ →
    d.ctl % 2 = 1 ∧ d.check = 0 →
    s.dma.length = 16 ∧ (s.dma.getD c Channel.idle).trig = false →
    Completes (.dmaPoke who c) s (fun t => t.get (R.DMA.STAT_ST c) = (if d.ctl.testBit 7 then 2 else 3) ∧
      (t.dma.getD c Channel.idle).desc = some d ∧ (t.dma.getD c Channel.idle).done = 0 ∧
      t.mem = s.mem)) ∧
  (∀ (who : Requester) (c : Fin 16) (s : State),
    Works s who (0x2A + c / 8) (0x48 + 0x10 * (c % 8)) →
    s.get (R.HDR.BLK 0x2A) ≠ 1 →
    s.domOn 1 ∧ s.domOn 2 ∧ s.domOn 3 ∧ s.domOn 4 →
    s.get (R.DMA.STAT_ST c) = 0 →
    s.sramWord (16 * s.get (R.DMA.RING_BASE c) + 16 * s.get (R.DMA.STAT_IDX c) + 12) % 2 = 1 →
    s.sramWord (16 * s.get (R.DMA.RING_BASE c) + 16 * s.get (R.DMA.STAT_IDX c) + 8) % 2 ^ 24 = 0 →
    Completes (.dmaRunSet who c) s (fun t => t.get (R.DMA.STAT_ST c) = 4 ∧ t.get (R.DMA.STAT_REASON c) = 0x40 ∧
      t.mem = s.mem)) ∧
  (∀ (c : Fin 12) (s : State),
    s.alive ∧ s.domOn 0 →
    s.get (R.DMA.STAT_ST c) = 2 ∧ s.get (R.HDR.BLK 0x2A) ≠ 1 →
    (s.dma.getD c Channel.idle).trig = false →
    Completes (.dmaTrigger c) s (fun t => t.get (R.DMA.STAT_ST c) = 3 ∧
      (t.dma.getD c Channel.idle).trig = false ∧ t.mem = s.mem)) ∧
  (∀ (c : Fin 12) (s : State),
    s.alive ∧ s.domOn 0 →
    s.dma.length = 16 ∧ (s.dma.getD c Channel.idle).trig = true →
    Completes (.dmaTrigger c) s (fun t => t.dma = s.dma ∧
      t.get (R.EVT.SEL_OVR (52 + c)) = 1)) ∧
  (∀ (c : Fin 16) (d : Desc) (s : State),
    s.alive ∧ s.domOn 0 ∧ s.get (R.HDR.BLK 0x2A) ≠ 1 →
    s.get (R.DMA.STAT_ST c) = 3 ∧ s.dma.length = 16 →
    (s.dma.getD c Channel.idle).desc = some d ∧ (s.dma.getD c Channel.idle).done = 0 ∧ (s.dma.getD c Channel.idle).refSeen = false →
    d.len = 16 ∧ d.ctl = 1141 →
    0x20000000 ≤ d.src ∧ d.src + 16 ≤ 0x20200000 ∧ 0x20000000 ≤ d.dst ∧ d.dst + 16 ≤ 0x20200000 →
    s.get (R.PWR.DOMSTAT 1) = 2 ∧ s.get (R.PWR.DOMSTAT 2) = 2 ∧ s.get (R.PWR.DOMSTAT 3) = 2 ∧ s.get (R.PWR.DOMSTAT 4) = 2 →
    s.get (R.DMA.CFG_OWNER c) < 10 →
    Completes (.dmaDescriptorComplete c) s (fun t => t.mem = (s.mem.storeList 0 d.dst (s.sramList d.src 16)).storeList 0 (16 * s.get (R.DMA.RING_BASE c) + 16 * s.get (R.DMA.STAT_IDX c) + 12) (leBytes 4 1140) ∧
      t.get (R.DMA.STAT_ST c) = 0 ∧ t.get (R.DMA.CTL_RUN c) = 0 ∧
      t.get (R.DMA.STAT_IDX c) = (s.get (R.DMA.STAT_IDX c) + 1) % max 1 (s.get (R.DMA.CFG_ENTRIES c)) % 2 ^ (R.DMA.STAT_IDX c).width)) ∧
  (∀ (who : Requester) (c : Fin 16) (s : State),
    Works s who (0x2A + c / 8) (0x48 + 0x10 * (c % 8)) →
    s.get (R.DMA.STAT_ST c) ≠ 3 ∧ s.get (R.DMA.STAT_ST c) ≠ 0 →
    Completes (.dmaRunClear who c) s (fun t => t.get (R.DMA.STAT_ST c) = 0 ∧ t.get (R.DMA.CTL_RUN c) = 0 ∧
      t.get (R.DMA.STAT_IDX c) = s.get (R.DMA.STAT_IDX c) ∧ t.mem = s.mem)) ∧
  (∀ (a : Word) (s : State),
    s.alive = true ∧ (s.dmaActive 3).isSome = true →
    inSram a.toNat = false ∧ inShale a.toNat = false →
    Completes (.dmaBusError a false []) s (fun t => t.get (R.HDR.BLK 0x2A) = 1 ∧ t.get R.DMA.BUSADDR_ADDR = a.toNat ∧
      Counted s t R.DMA.CNT_BUSERRCNT ∧
      t.mem = s.mem)) ∧
  (∀ (c : Fin 16) (s : State),
    Works s 0 0x2A 0x24 →
    s.get (R.HDR.BLK 0x2A) = 1 →
    Completes (.dmaClear 0) s (fun t => t.get (R.HDR.BLK 0x2A) = 0 ∧
      t.get (R.DMA.STAT_ST c) = 0 ∧ t.get (R.DMA.CTL_RUN c) = 0 ∧ t.get (R.DMA.STAT_IDX c) = s.get (R.DMA.STAT_IDX c))) ∧
  (∀ (who : Requester) (c : Fin 16) (s : State),
    Works s who (0x2A + c / 8) (0x48 + 0x10 * (c % 8)) →
    s.get (R.HDR.BLK 0x2A) = 1 →
    Completes (.dmaRunSet who c) s (fun t => t.get (R.HDR.REASON (0x2A + c / 8)) = 0x43 ∧
      t.dma = s.dma ∧ t.get (R.DMA.STAT_ST c) = s.get (R.DMA.STAT_ST c))) ∧
  (∀ (who : Requester) (c : Fin 16) (s : State),
    Works s who (0x2A + c / 8) (0x48 + 0x10 * (c % 8)) →
    s.get (R.HDR.BLK 0x2A) = 1 →
    Completes (.dmaPoke who c) s (fun t => t.get (R.HDR.REASON (0x2A + c / 8)) = 0x43 ∧
      t.dma = s.dma ∧ t.get (R.DMA.STAT_ST c) = s.get (R.DMA.STAT_ST c)))

/-- A well-formed READ puts the flash bytes into the caller's buffer and returns OK; a permitted PROGRAM of erased cells that the array completes leaves every addressed byte the AND of old and new and changes no other cell; a permitted sector or block erase leaves its bytes 0xFF, its journal entry DONE, and one with ASYNC stays outstanding with its entry OPEN until it completes; POLL answers ERASING while one is outstanding; SUSPEND and RESUME act on it; SWAP writes the next selector word, JOPEN and JCLOSE an activation copy entry in MAINTENANCE. Every call returns its status in G0, with Z set for OK. -/
def Obligations.FlashCalls : Prop :=
  (∀ (e8 : Bool) (c : RomCall) (i : Nat) (s : State),
    c.flags.toNat < 4 ∧ c.rsv = 0 ∧ 1 ≤ c.len.toNat ∧ c.len.toNat ≤ 4096 →
    c.buf.toNat + c.len.toNat ≤ 0x8000 →
    c.addr.toNat + c.len.toNat ≤ 0x08000000 →
    s.flash.inErase c.addr.toNat c.len.toNat = false →
    i < c.len.toNat →
    (s.eng (caller e8)).p.p0.toNat + 16 ≤ c.buf.toNat →
    Completes (.flashRead e8 c) s (fun t => (t.eng (caller e8)).sram.look 0 (c.buf.toNat + i) = s.flashByte (c.addr.toNat + i) ∧
      (t.eng (caller e8)).g.g0 = 0 ∧ (t.eng (caller e8)).flags.z = true ∧
      t.get R.FLASH.STAT_CREAD = (if c.flags.getLsbD 0 ∧ s.get R.FLASH.STAT_BUSY = 0 then 1 else 0) ∧
      t.flash.cells = s.flash.cells)) ∧
  (∀ (e8 : Bool) (c : RomCall) (n : Nat) (s : State),
    c.flags.toNat < 4 ∧ c.rsv = 0 ∧ 1 ≤ c.len.toNat ∧ c.len.toNat ≤ 4096 →
    c.buf.toNat + c.len.toNat ≤ 0x8000 →
    c.addr.toNat % 4096 + c.len.toNat ≤ 4096 ∧ c.addr.toNat < 0x07980000 ∧ 0x80000 ≤ c.addr.toNat →
    s.mayWrite (caller e8) c.addr.toNat = true →
    s.flash.inErase c.addr.toNat c.len.toNat = false →
    s.flash.needsErase c.addr.toNat (s.ownBytes (caller e8) c.buf.toNat c.len.toNat) = false →
    Completes (.flashProgram e8 c ⟨n, 1, none, 0⟩) s (fun t => t.flash = s.flash.program c.addr.toNat (s.ownBytes (caller e8) c.buf.toNat c.len.toNat) ∧
      (t.eng (caller e8)).g.g0 = 0 ∧ (t.eng (caller e8)).flags.z = true ∧
      t.get R.FLASH.STAT_VFAIL = 0 ∧ t.get R.FLASH.STAT_PULSES = 1)) ∧
  (∀ (e8 : Bool) (c : RomCall) (r : ProgramResult) (s : State),
    c.flags.toNat < 4 ∧ c.rsv = 0 ∧ 1 ≤ c.len.toNat ∧ c.len.toNat ≤ 4096 →
    c.buf.toNat + c.len.toNat ≤ 0x8000 →
    c.addr.toNat % 4096 + c.len.toNat ≤ 4096 ∧ c.addr.toNat < 0x08000000 →
    s.mayWrite (caller e8) c.addr.toNat = false →
    Completes (.flashProgram e8 c r) s (fun t => t.flash = s.flash ∧
      (t.eng (caller e8)).g.g0 = 0x12 ∧ (t.eng (caller e8)).flags.z = false)) ∧
  (∀ (e8 : Bool) (c : RomCall) (n : Nat) (s : State),
    c.flags = 0 ∧ c.rsv = 0 ∧ c.len = 0 →
    c.addr.toNat % 4096 = 0 ∧ c.addr.toNat < 0x07980000 ∧ 0x80000 ≤ c.addr.toNat →
    s.mayWrite (caller e8) c.addr.toNat = true ∧ s.mayWrite (caller e8) (c.addr.toNat + 4096 - 1) = true →
    s.flash.erase = none →
    n ≤ Config.nomErase.toNat ∧ n ≤ Config.nomBlock.toNat ∧ n < 256 →
    Completes (.flashEraseS e8 c ⟨n, none, 0⟩) s (fun t => t.flash = s.flash.erased c.addr.toNat false ∧
      (t.eng (caller e8)).g.g0 = 0 ∧ (t.eng (caller e8)).flags.z = true ∧
      t.get R.FLASH.STAT_PULSES = n ∧
      Counted s t R.STORE.CNT0_ERASES)) ∧
  (∀ (e8 : Bool) (c : RomCall) (n : Nat) (s : State),
    c.flags = 0 ∧ c.rsv = 0 ∧ c.len = 0 →
    c.addr.toNat % 65536 = 0 ∧ c.addr.toNat < 0x07980000 ∧ 0x80000 ≤ c.addr.toNat →
    s.mayWrite (caller e8) c.addr.toNat = true ∧ s.mayWrite (caller e8) (c.addr.toNat + 65536 - 1) = true →
    s.flash.erase = none →
    n ≤ Config.nomErase.toNat ∧ n ≤ Config.nomBlock.toNat ∧ n < 256 →
    Completes (.flashEraseB e8 c ⟨n, none, 0⟩) s (fun t => t.flash = s.flash.erased c.addr.toNat true ∧
      (t.eng (caller e8)).g.g0 = 0 ∧ (t.eng (caller e8)).flags.z = true ∧
      t.get R.FLASH.STAT_PULSES = n ∧
      Counted s t R.STORE.CNT0_ERASES)) ∧
  (∀ (e8 : Bool) (c : RomCall) (r : EraseResult) (s : State),
    c.flags = 2 ∧ c.rsv = 0 ∧ c.len = 0 →
    c.addr.toNat % 4096 = 0 ∧ c.addr.toNat < 0x07980000 →
    s.mayWrite (caller e8) c.addr.toNat = true ∧ s.mayWrite (caller e8) (c.addr.toNat + 4096 - 1) = true →
    s.flash.erase = none →
    Completes (.flashEraseS e8 c r) s (fun t => t.flash.cells = s.flash.cells ∧
      t.flash.erase = some ⟨c.addr.toNat, false, (s.flash.jopen 1 0xFF c.addr.toNat).2, false, false, caller e8⟩ ∧
      t.flash.journal = (s.flash.jopen 1 0xFF c.addr.toNat).1.journal ∧
      t.get R.FLASH.STAT_BUSY = 1)) ∧
  (∀ (e8 : Bool) (c : RomCall) (r : EraseResult) (s : State),
    c.flags = 2 ∧ c.rsv = 0 ∧ c.len = 0 →
    c.addr.toNat % 65536 = 0 ∧ c.addr.toNat < 0x07980000 →
    s.mayWrite (caller e8) c.addr.toNat = true ∧ s.mayWrite (caller e8) (c.addr.toNat + 65536 - 1) = true →
    s.flash.erase = none →
    Completes (.flashEraseB e8 c r) s (fun t => t.flash.cells = s.flash.cells ∧
      t.flash.erase = some ⟨c.addr.toNat, true, (s.flash.jopen 2 0xFF c.addr.toNat).2, false, false, caller e8⟩ ∧
      t.flash.journal = (s.flash.jopen 2 0xFF c.addr.toNat).1.journal ∧
      t.get R.FLASH.STAT_BUSY = 1)) ∧
  (∀ (e : Erase) (n : Nat) (s : State),
    s.flash.erase = some e ∧ e.suspended = false →
    n ≤ Config.nomErase.toNat ∧ n ≤ Config.nomBlock.toNat →
    Completes (.flashEraseComplete ⟨n, none, 0⟩) s (fun t => t.flash.erase = none ∧
      t.flash.cells = (s.flash.eraseAt e.addr e.block).cells ∧
      t.get R.FLASH.STAT_BUSY = 0 ∧ t.get R.FLASH.STAT_EFAIL = 0)) ∧
  (∀ (e8 : Bool) (c : RomCall) (s : State),
    c.flags.toNat < 4 ∧ c.rsv = 0 ∧ c.len = 0 →
    Completes (.flashPoll e8 c) s (fun t => t.flash = s.flash ∧
      (t.eng (caller e8)).g.g0 = (if s.flash.erase.isSome then 2 else 0) ∧
      t.get R.FLASH.STAT_CREAD = 0)) ∧
  (∀ (e8 : Bool) (c : RomCall) (e : Erase) (s : State),
    c.flags.toNat < 4 ∧ c.rsv = 0 ∧ c.len = 0 →
    s.flash.erase = some e ∧ e.suspended = false →
    Completes (.flashSuspend e8 c false) s (fun t => t.flash = { s.flash with erase := some { e with suspended := true, held := true } } ∧
      t.get R.FLASH.STAT_SUSP = 1 ∧ t.get R.FLASH.STAT_BUSY = 0 ∧
      (t.eng (caller e8)).g.g0 = 0)) ∧
  (∀ (e8 : Bool) (c : RomCall) (e : Erase) (s : State),
    c.flags.toNat < 4 ∧ c.rsv = 0 ∧ c.len = 0 →
    s.flash.erase = some e ∧ e.suspended = false →
    Completes (.flashSuspend e8 c true) s (fun t => t.flash = s.flash ∧
      (t.eng (caller e8)).g.g0 = 0x15)) ∧
  (∀ (e8 : Bool) (c : RomCall) (e : Erase) (s : State),
    c.flags.toNat < 4 ∧ c.rsv = 0 ∧ c.len = 0 →
    s.flash.erase = some e ∧ e.suspended = true →
    Completes (.flashResume e8 c) s (fun t => t.flash = { s.flash with erase := some { e with suspended := false, held := false } } ∧
      t.get R.FLASH.STAT_SUSP = 0 ∧ t.get R.FLASH.STAT_BUSY = 1 ∧
      (t.eng (caller e8)).g.g0 = 0)) ∧
  (∀ (e8 : Bool) (c : RomCall) (s : State),
    c.flags.toNat < 4 ∧ c.rsv = 0 ∧ c.len = 0 →
    s.flash.erase = none →
    Completes (.flashResume e8 c) s (fun t => t.flash = s.flash ∧
      (t.eng (caller e8)).g.g0 = 0x17)) ∧
  (∀ (c : RomCall) (s : State),
    c.flags.toNat < 4 ∧ c.rsv = 0 ∧ c.len = 0 ∧ c.addr.toNat ≤ 1 →
    s.mode = .maintenance →
    s.flash.selGen < 0x7FFF ∧ s.flash.selHalf = 0 ∧ s.flash.sel0.length < 1024 →
    Completes (.flashSwap false c) s (fun t => t.flash.sel0 = s.flash.sel0 ++ [withComplement ((s.flash.selGen + 1) * 2 + c.addr.toNat)] ∧
      t.flash.sel1 = s.flash.sel1 ∧ t.flash.cells = s.flash.cells ∧
      (t.eng 0).g.g0 = 0)) ∧
  (∀ (e8 : Bool) (c : RomCall) (s : State),
    c.flags.toNat < 4 ∧ c.rsv = 0 ∧ c.len = 0 ∧ c.addr.toNat ≤ 1 →
    (s.mode ≠ .maintenance ∨ e8 = true) →
    Completes (.flashSwap e8 c) s (fun t => t.flash = s.flash ∧
      (t.eng (caller e8)).g.g0 = 0x12)) ∧
  (∀ (e8 : Bool) (c : RomCall) (s : State),
    c.flags.toNat < 4 ∧ c.rsv = 0 ∧ c.len = 0 ∧ c.addr.toNat ≤ 1 →
    (s.mode ≠ .maintenance ∨ e8 = true) →
    Completes (.flashJopen e8 c) s (fun t => t.flash = s.flash ∧
      (t.eng (caller e8)).g.g0 = 0x12)) ∧
  (∀ (e8 : Bool) (c : RomCall) (s : State),
    c.flags.toNat < 4 ∧ c.rsv = 0 ∧ c.len = 0 ∧ c.addr.toNat ≤ 1 →
    (s.mode ≠ .maintenance ∨ e8 = true) →
    Completes (.flashJclose e8 c) s (fun t => t.flash = s.flash ∧
      (t.eng (caller e8)).g.g0 = 0x12)) ∧
  (∀ (c : RomCall) (s : State),
    c.flags.toNat < 4 ∧ c.rsv = 0 ∧ c.len = 0 →
    s.mode = .maintenance →
    (s.eng 0).p.p0.toNat + 16 ≤ 0x8000 →
    Completes (.flashJopen false c) s (fun t => t.flash = (s.flash.jopen 3 0xFF c.addr.toNat).1 ∧
      (t.eng 0).g.g0 = 0 ∧
      (t.eng 0).sram.look 0 ((s.eng 0).p.p0.toNat + 4) = BitVec.ofNat 8 (s.flash.jopen 3 0xFF c.addr.toNat).2)) ∧
  (∀ (c : RomCall) (s : State),
    c.flags.toNat < 4 ∧ c.rsv = 0 ∧ c.len = 0 →
    s.mode = .maintenance →
    s.flash.openCopy.isSome = true →
    Completes (.flashJclose false c) s (fun t => t.flash = s.flash.jdone c.addr.toNat ∧
      (t.eng 0).g.g0 = 0))

/-- A STORE command within the requester's region with its buffer in bank 3 is queued for E8 and BUSY is set; one while another runs is refused with BUSY, one outside the region with REGION, and counted; a mailbox request in the sender's region with a permitted buffer is queued, one outside is answered DENIED and counted; the head request ends with the routine's status: a READ has the flash bytes in the buffer, a host request clears BUSY and shows RESULT, an engine's is answered by mailbox. -/
def Obligations.CustomerStore : Prop :=
  (∀ (who : Requester) (s : State),
    Works s who 0x59 0x20 →
    s.get R.STORE.STAT_BUSY = 0 →
    inBank3 (s.get R.STORE.BUF_ADDR) (s.get R.STORE.LEN_LEN) = true →
    s.get R.STORE.ADDR_OFFSET + s.get R.STORE.LEN_LEN ≤ 0x4000000 →
    Completes (.storeRead who) s (fun t => t.flash.reqs = s.flash.reqs ++ [⟨12, 1, false, s.get R.STORE.ADDR_OFFSET, s.get R.STORE.LEN_LEN, s.get R.STORE.BUF_ADDR, 0⟩] ∧
      t.get R.STORE.STAT_BUSY = 1 ∧
      t.mem = s.mem)) ∧
  (∀ (who : Requester) (s : State),
    Works s who 0x59 0x20 →
    s.get R.STORE.STAT_BUSY = 0 →
    inBank3 (s.get R.STORE.BUF_ADDR) (s.get R.STORE.LEN_LEN) = true →
    s.get R.STORE.ADDR_OFFSET + s.get R.STORE.LEN_LEN ≤ 65536 * s.get R.STORE.SPLIT_E10_START →
    Completes (.storeProgram who) s (fun t => t.flash.reqs = s.flash.reqs ++ [⟨12, 2, false, s.get R.STORE.ADDR_OFFSET, s.get R.STORE.LEN_LEN, s.get R.STORE.BUF_ADDR, 0⟩] ∧
      t.get R.STORE.STAT_BUSY = 1 ∧
      t.mem = s.mem)) ∧
  (∀ (who : Requester) (s : State),
    Works s who 0x59 0x20 →
    s.get R.STORE.STAT_BUSY = 0 →
    inBank3 (s.get R.STORE.BUF_ADDR) (s.get R.STORE.LEN_LEN) = true →
    s.get R.STORE.ADDR_OFFSET + 4096 ≤ 65536 * s.get R.STORE.SPLIT_E10_START →
    Completes (.storeErase who false) s (fun t => t.flash.reqs = s.flash.reqs ++ [⟨12, 3, false, s.get R.STORE.ADDR_OFFSET, s.get R.STORE.LEN_LEN, s.get R.STORE.BUF_ADDR, 0⟩] ∧
      t.get R.STORE.STAT_BUSY = 1 ∧
      t.mem = s.mem)) ∧
  (∀ (who : Requester) (s : State),
    Works s who 0x59 0x20 →
    s.get R.STORE.STAT_BUSY = 0 →
    inBank3 (s.get R.STORE.BUF_ADDR) (s.get R.STORE.LEN_LEN) = true →
    s.get R.STORE.ADDR_OFFSET + 65536 ≤ 65536 * s.get R.STORE.SPLIT_E10_START →
    Completes (.storeErase who true) s (fun t => t.flash.reqs = s.flash.reqs ++ [⟨12, 3, true, s.get R.STORE.ADDR_OFFSET, s.get R.STORE.LEN_LEN, s.get R.STORE.BUF_ADDR, 0⟩] ∧
      t.get R.STORE.STAT_BUSY = 1 ∧
      t.mem = s.mem)) ∧
  (∀ (who : Requester) (s : State),
    Works s who 0x59 0x20 →
    s.get R.STORE.STAT_BUSY ≠ 0 →
    Completes (.storeRead who) s (fun t => t.flash = s.flash ∧
      t.get (R.HDR.REASON 0x59) = 0x0D ∧
      Counted s t R.STORE.CNT1_REFUSED)) ∧
  (∀ (who : Requester) (s : State),
    Works s who 0x59 0x20 →
    s.get R.STORE.STAT_BUSY ≠ 0 →
    Completes (.storeProgram who) s (fun t => t.flash = s.flash ∧
      t.get (R.HDR.REASON 0x59) = 0x0D ∧
      Counted s t R.STORE.CNT1_REFUSED)) ∧
  (∀ (who : Requester) (s : State),
    Works s who 0x59 0x20 →
    s.get R.STORE.STAT_BUSY ≠ 0 →
    Completes (.storeErase who true) s (fun t => t.flash = s.flash ∧
      t.get (R.HDR.REASON 0x59) = 0x0D ∧
      Counted s t R.STORE.CNT1_REFUSED)) ∧
  (∀ (who : Requester) (s : State),
    Works s who 0x59 0x20 →
    s.get R.STORE.STAT_BUSY = 0 →
    inBank3 (s.get R.STORE.BUF_ADDR) (s.get R.STORE.LEN_LEN) = true →
    65536 * s.get R.STORE.SPLIT_E10_START ≤ s.get R.STORE.ADDR_OFFSET ∧ 1 ≤ s.get R.STORE.LEN_LEN →
    Completes (.storeProgram who) s (fun t => t.flash = s.flash ∧
      t.get (R.HDR.REASON 0x59) = 0x40 ∧
      Counted s t R.STORE.CNT1_REFUSED)) ∧
  (∀ (who : Requester) (s : State),
    Works s who 0x59 0x20 →
    s.get R.STORE.STAT_BUSY = 0 →
    inBank3 (s.get R.STORE.BUF_ADDR) (s.get R.STORE.LEN_LEN) = true →
    65536 * s.get R.STORE.SPLIT_E10_START ≤ s.get R.STORE.ADDR_OFFSET ∧ 1 ≤ s.get R.STORE.LEN_LEN →
    Completes (.storeErase who false) s (fun t => t.flash = s.flash ∧
      t.get (R.HDR.REASON 0x59) = 0x40 ∧
      Counted s t R.STORE.CNT1_REFUSED)) ∧
  (∀ (q : StoreReq) (l : List StoreReq) (p : ProgramResult) (e : EraseResult) (s : State),
    s.flash.reqs = q :: l →
    q.who = 12 ∧ q.op = 1 ∧ 1 ≤ q.len ∧ q.len ≤ 4096 →
    s.flash.inErase (0x03980000 + q.off) q.len = false →
    Completes (.storeCommandComplete p e) s (fun t => t.mem = s.mem.storeList 0 q.buf (s.flashBytes (0x03980000 + q.off) q.len) ∧
      t.flash = { s.flash with reqs := l } ∧
      t.get R.STORE.STAT_BUSY = 0 ∧ t.get R.STORE.STAT_RESULT = 0)) ∧
  (∀ (e11 : Bool) (tag : Half) (off : Word) (len : BitVec 13) (buf : Word) (s : State),
    (1 = 3 ∨ inBank3 buf.toNat len.toNat = true) →
    True →
    off.toNat + len.toNat ≤ (if 1 = 1 then 0x4000000 else (s.storeRegion (customerEngine e11)).2) →
    exec (.mboxStoreRead e11 tag off len buf) s = .next { s with flash := { s.flash with reqs := s.flash.reqs ++ [⟨customerEngine e11, 1, false, off.toNat, len.toNat, buf.toNat, tag.toNat⟩] } }) ∧
  (∀ (e11 : Bool) (tag : Half) (off : Word) (len : BitVec 13) (buf : Word) (s : State),
    (2 = 3 ∨ inBank3 buf.toNat len.toNat = true) →
    (s.storeRegion (customerEngine e11)).1 ≤ off.toNat →
    off.toNat + len.toNat ≤ (if 2 = 1 then 0x4000000 else (s.storeRegion (customerEngine e11)).2) →
    exec (.mboxStoreProgram e11 tag off len buf) s = .next { s with flash := { s.flash with reqs := s.flash.reqs ++ [⟨customerEngine e11, 2, false, off.toNat, len.toNat, buf.toNat, tag.toNat⟩] } }) ∧
  (∀ (e11 : Bool) (tag : Half) (off : Word) (len : BitVec 13) (s : State),
    (3 = 3 ∨ inBank3 0 len.toNat = true) →
    (s.storeRegion (customerEngine e11)).1 ≤ off.toNat →
    off.toNat + 65536 ≤ (if 3 = 1 then 0x4000000 else (s.storeRegion (customerEngine e11)).2) →
    exec (.mboxStoreErase e11 tag off len true) s = .next { s with flash := { s.flash with reqs := s.flash.reqs ++ [⟨customerEngine e11, 3, true, off.toNat, len.toNat, 0, tag.toNat⟩] } }) ∧
  (∀ (e11 : Bool) (tag : Half) (off : Word) (len : BitVec 13) (buf : Word) (s : State),
    off.toNat < (s.storeRegion (customerEngine e11)).1 →
    Completes (.mboxStoreProgram e11 tag off len buf) s (fun t => t.flash = s.flash ∧ t.mem = s.mem ∧
      Counted s t R.STORE.CNT1_REFUSED ∧
      ((s.eng (customerEngine e11)).image = true ∧ (s.eng (customerEngine e11)).mailbox.length < 8 →
      (t.eng (customerEngine e11)).mailbox = (s.eng (customerEngine e11)).mailbox ++ [Mail.mk4 8 0xA1 tag.toNat off.toNat 0x12 0 0])))

/-- LOAD puts the staged key into an empty slot and clears the staging, a full slot is refused; ERASE empties the slot; GO queues the block of IN with BUSY set, is refused for an empty slot; the head AES operation ends with its AES result in OUT or in the sender's memory; INIT, DATA, FINAL and its completion give the SHA-384 digest of the message bytes; EXTEND7 extends MSLOT7 with a valid digest; E7's mailbox service hashes, extends and encrypts for E10 and E11, and answers a bad buffer with BAD_VALUE; a reseed ends a health failure. -/
def Obligations.CipherHashAndRandom : Prop :=
  (∀ (who : Requester) (s : State),
    Works s who 0x50 0x48 →
    s.get R.CIPHER.STAT_BUSY = 0 →
    s.garnet.slot? (s.get R.CIPHER.KEYSEL_SLOT) = none →
    Completes (.cipherKeyLoad who) s (fun t => t.garnet.slot? (s.get R.CIPHER.KEYSEL_SLOT) = some ⟨s.get R.CIPHER.KEYSEL_SLOT, 12, s.bit R.CIPHER.KEYCTL_LEN256,
      (List.range (bif s.bit R.CIPHER.KEYCTL_LEN256 then 8 else 4)).flatMap (fun k => leBytes 4 (s.garnet.stagedKey.look k))⟩ ∧
      t.garnet.stagedKey = [] ∧
      (∀ n : Fin 16, n.val ≠ s.get R.CIPHER.KEYSEL_SLOT → t.garnet.slot? n = s.garnet.slot? n))) ∧
  (∀ (who : Requester) (s : State),
    Works s who 0x50 0x48 →
    s.get R.CIPHER.STAT_BUSY = 0 →
    (s.garnet.slot? (s.get R.CIPHER.KEYSEL_SLOT)).isSome = true →
    Completes (.cipherKeyLoad who) s (fun t => t.garnet = { s.garnet with stagedKey := [] } ∧
      t.get (R.HDR.REASON 0x50) = 0x42)) ∧
  (∀ (who : Requester) (s : State),
    Works s who 0x50 0x48 →
    s.get R.CIPHER.STAT_BUSY = 0 →
    Completes (.cipherKeyErase who) s (fun t => t.garnet.slot? (s.get R.CIPHER.KEYSEL_SLOT) = none ∧
      (∀ n : Fin 16, n.val ≠ s.get R.CIPHER.KEYSEL_SLOT → t.garnet.slot? n = s.garnet.slot? n))) ∧
  (∀ (who : Requester) (dec : Bool) (n : Fin 8) (s : State),
    Works s who 0x50 0x4C →
    s.get R.CIPHER.STAT_BUSY = 0 →
    (s.garnet.slot? n).isSome = true →
    s.garnet.healthFail = false →
    Completes (.cipherGo who dec n) s (fun t => t.garnet.aes = s.garnet.aes ++ [⟨12, n, dec, (List.range 4).flatMap (fun k => leBytes 4 (s.get (R.CIPHER.IN_DATA k))), 0, 0⟩] ∧
      t.get R.CIPHER.STAT_BUSY = 1 ∧
      (∀ k : Fin 4, t.get (R.CIPHER.OUT_DATA k) = 0) ∧
      t.garnet.sinceSeed = s.garnet.sinceSeed + 1)) ∧
  (∀ (who : Requester) (dec : Bool) (n : Fin 8) (s : State),
    Works s who 0x50 0x4C →
    s.get R.CIPHER.STAT_BUSY = 0 →
    s.garnet.slot? n = none →
    Completes (.cipherGo who dec n) s (fun t => t.garnet = s.garnet ∧
      t.get (R.HDR.REASON 0x50) = 0x40)) ∧
  (∀ (op : AesOp) (l : List AesOp) (c : CipherSlot) (k : Fin 4) (s : State),
    s.garnet.aes = op :: l ∧ op.who = 12 →
    s.garnet.slot? op.slot = some c →
    Completes (.aesComplete) s (fun t => t.get (R.CIPHER.OUT_DATA k) = ofLe (slice (if op.decrypt then aesDecrypt c.key c.len256 op.input else aesEncrypt c.key c.len256 op.input) (4 * k) 4) % 2 ^ 32 ∧
      t.get R.CIPHER.STAT_BUSY = 0 ∧
      t.garnet.aes = l ∧ t.garnet.slots = s.garnet.slots)) ∧
  (∀ (op : AesOp) (l : List AesOp) (c : CipherSlot) (s : State),
    s.garnet.aes = op :: l ∧ op.who ≠ 12 →
    s.garnet.healthFail = false →
    s.garnet.slot? op.slot = some c →
    Completes (.aesComplete) s (fun t => t.mem = s.mem.storeList 0 op.out (if op.decrypt then aesDecrypt c.key c.len256 op.input else aesEncrypt c.key c.len256 op.input) ∧
      t.garnet.aes = l)) ∧
  (∀ (e11 : Bool) (tag : Half) (slot : Fin 8) (dec : Bool) (i o : Word) (c : CipherSlot) (s : State),
    inBank3 i.toNat 16 = true ∧ inBank3 o.toNat 16 = true →
    s.garnet.slot? (8 + slot) = some c ∧ c.owner = customerEngine e11 →
    s.garnet.healthFail = false →
    Completes (.mboxAesBlock e11 tag slot dec i o) s (fun t => t.garnet.aes = s.garnet.aes ++ [⟨customerEngine e11, 8 + slot, dec, s.sramList i.toNat 16, o.toNat, tag.toNat⟩] ∧
      t.mem = s.mem)) ∧
  (∀ (who : Requester) (s : State),
    Works s who 0x51 0x20 →
    Completes (.hashInit who) s (fun t => t.garnet.hashCtx = some [] ∧
      t.get R.HASH.STAT_OPEN = 1 ∧ t.get R.HASH.STAT_DONE = 0 ∧ t.get R.HASH.STAT_BUSY = 0 ∧ t.get R.HASH.LEN_BYTES = 0 ∧
      (∀ k : Fin 12, t.get (R.HASH.DIGEST_BYTES k) = 0))) ∧
  (∀ (who : Requester) (w : Word) (m : List Byte) (s : State),
    Works s who 0x51 0x28 →
    s.garnet.hashCtx = some m ∧ s.get R.HASH.STAT_OPEN = 1 →
    Completes (.hashDataWrite who w) s (fun t => t.garnet.hashCtx = some (m ++ leBytes 4 w.toNat) ∧
      t.get R.HASH.LEN_BYTES = (m.length + 4) % 2 ^ R.HASH.LEN_BYTES.width)) ∧
  (∀ (who : Requester) (w : Word) (s : State),
    Works s who 0x51 0x28 →
    s.get R.HASH.STAT_OPEN = 0 →
    Completes (.hashDataWrite who w) s (fun t => t.garnet = s.garnet ∧
      t.get (R.HDR.REASON 0x51) = 0x40)) ∧
  (∀ (who : Requester) (n : BitVec 3) (s : State),
    Works s who 0x51 0x20 →
    s.get R.HASH.STAT_OPEN = 0 →
    Completes (.hashFinal who n) s (fun t => t.garnet = s.garnet ∧
      t.get (R.HDR.REASON 0x51) = 0x40)) ∧
  (∀ (who : Requester) (s : State),
    Works s who 0x51 0x20 →
    s.get R.HASH.STAT_DONE = 0 →
    Completes (.hashExtend7 who) s (fun t => t.garnet = s.garnet ∧
      t.get (R.HDR.REASON 0x51) = 0x40)) ∧
  (∀ (who : Requester) (n : BitVec 3) (m : List Byte) (s : State),
    Works s who 0x51 0x20 →
    s.garnet.hashCtx = some m ∧ s.get R.HASH.STAT_OPEN = 1 →
    (n.toNat ≤ 4 ∧ (n = 0 ↔ m = [])) →
    Completes (.hashFinal who n) s (fun t => t.garnet.hashCtx = some (m.take (m.length - 4 + n.toNat)) ∧
      t.get R.HASH.STAT_OPEN = 0 ∧ t.get R.HASH.STAT_BUSY = 1)) ∧
  (∀ (m : List Byte) (k : Fin 12) (s : State),
    s.garnet.hashCtx = some m ∧ s.get R.HASH.STAT_BUSY = 1 →
    Completes (.hashFinalComplete) s (fun t => t.get (R.HASH.DIGEST_BYTES k) = ofLe (slice (sha384 m) (4 * k) 4) % 2 ^ 32 ∧
      t.get R.HASH.STAT_BUSY = 0 ∧ t.get R.HASH.STAT_DONE = 1 ∧
      t.garnet.hashCtx = none)) ∧
  (∀ (who : Requester) (s : State),
    Works s who 0x51 0x20 →
    s.get R.HASH.STAT_DONE = 1 →
    s.garnet.mslots.length = 8 →
    Completes (.hashExtend7 who) s (fun t => t.garnet.mslots = s.garnet.mslots.modify 7 (fun v => sha384 (v ++ (List.range 12).flatMap (fun k => leBytes 4 (s.get (R.HASH.DIGEST_BYTES k))))) ∧
      (s.garnet.log.length < 128 → t.garnet.log = s.garnet.log ++ [⟨7, 0x0C, 0, (List.range 12).flatMap (fun k => leBytes 4 (s.get (R.HASH.DIGEST_BYTES k)))⟩]))) ∧
  (∀ (e11 : Bool) (tag : Half) (b l d : Word) (s : State),
    l.toNat ≤ 65536 ∧ inBank3 b.toNat l.toNat = true ∧ inBank3 d.toNat 48 = true →
    Completes (.mboxHash e11 tag b l d) s (fun t => t.mem = s.mem.storeList 0 d.toNat (sha384 (s.sramList b.toNat l.toNat)) ∧
      t.garnet = s.garnet)) ∧
  (∀ (e11 : Bool) (tag : Half) (a : Word) (s : State),
    inBank3 a.toNat 48 = true →
    s.garnet.mslots.length = 8 →
    Completes (.mboxExtend7 e11 tag a) s (fun t => t.garnet.mslots = s.garnet.mslots.modify 7 (fun v => sha384 (v ++ s.sramList a.toNat 48)))) ∧
  (∀ (e11 : Bool) (tag : Half) (b : Word) (s : State),
    b.toNat < 0x20000000 →
    (s.eng (customerEngine e11)).image = true ∧ (s.eng (customerEngine e11)).mailbox = [] →
    Completes (.mboxHash e11 tag b b b) s (fun t => (t.eng (customerEngine e11)).mailbox = [Mail.mk4 7 0xB1 tag.toNat 7 0 0 0] ∧
      t.garnet = s.garnet ∧ t.mem = s.mem)) ∧
  (∀ (e11 : Bool) (tag : Half) (b : Word) (s : State),
    b.toNat < 0x20000000 →
    (s.eng (customerEngine e11)).image = true ∧ (s.eng (customerEngine e11)).mailbox = [] →
    Completes (.mboxExtend7 e11 tag b) s (fun t => (t.eng (customerEngine e11)).mailbox = [Mail.mk4 7 0xB3 tag.toNat 7 0 0 0] ∧
      t.garnet = s.garnet ∧ t.mem = s.mem)) ∧
  (∀ (e11 : Bool) (tag : Half) (b : Word) (s : State),
    b.toNat < 0x20000000 →
    (s.eng (customerEngine e11)).image = true ∧ (s.eng (customerEngine e11)).mailbox = [] →
    Completes (.mboxVerify e11 tag b) s (fun t => (t.eng (customerEngine e11)).mailbox = [Mail.mk4 7 0xB2 tag.toNat 7 0 0 0] ∧
      t.garnet = s.garnet ∧ t.mem = s.mem)) ∧
  (∀ (s : State),
    s.get (R.PWR.DOMSTAT 23) = 2 →
    s.get R.STRATA.STAT_BUSY = 0 →
    Completes (.drbgReseed) s (fun t => t.garnet.sinceSeed = 0 ∧ t.garnet.healthFail = false)) ∧
  (∀ (s : State),
    Completes (.healthTestFail) s (fun t => t.garnet.healthFail = true ∧
      t.garnet.sinceSeed = s.garnet.sinceSeed))

/-- A PKE command whose checks pass sets BUSY and is queued, one while BUSY is refused; VERIFY answers RESULT 1 for a good signature and 2 for a bad one with a valid key; SIGN writes a signature of the device's identity key and CERT the certificate, RANDOM and CHALLENGE write fresh octets and CHALLENGE holds them; CKEY_PROG stores the key hash and CKEY_REVOKE revokes CK0; a bad debug token consumes the challenge and opens nothing; the expiry of debug access closes it; a well-formed attestation REQ is taken from E7's mailbox and its quote is queued. -/
def Obligations.PublicKeyAndDebug : Prop :=
  (∀ (who : Requester) (s : State),
    Works s who 0x52 0x20 →
    s.get R.PKE.STAT_BUSY = 0 →
    inBank3 (16 * s.get R.PKE.PARAM_ADDR) 1 = true →
    s.garnet.healthFail = false →
    (s.sram (16 * s.get R.PKE.PARAM_ADDR)).toNat ≤ 1 →
    Completes (.pkeVerify who) s (fun t => t.garnet.pke = s.garnet.pke ++ [⟨12, 1, 16 * s.get R.PKE.PARAM_ADDR, 0, [], none⟩] ∧
      t.get R.PKE.STAT_BUSY = 1 ∧
      t.mem = s.mem)) ∧
  (∀ (who : Requester) (s : State),
    Works s who 0x52 0x20 →
    s.get R.PKE.STAT_BUSY = 0 →
    inBank3 (16 * s.get R.PKE.PARAM_ADDR) 1 = true →
    s.garnet.healthFail = false →
    (s.sram (16 * s.get R.PKE.PARAM_ADDR)).toNat ≤ 1 →
    Completes (.pkeSign who) s (fun t => t.garnet.pke = s.garnet.pke ++ [⟨12, 2, 16 * s.get R.PKE.PARAM_ADDR, 0, [], none⟩] ∧
      t.get R.PKE.STAT_BUSY = 1 ∧
      t.mem = s.mem)) ∧
  (∀ (who : Requester) (s : State),
    Works s who 0x52 0x20 →
    s.get R.PKE.STAT_BUSY = 0 →
    inBank3 (16 * s.get R.PKE.PARAM_ADDR) 1 = true →
    s.garnet.healthFail = false →
    (s.sram (16 * s.get R.PKE.PARAM_ADDR)).toNat ≤ 1 →
    Completes (.pkeCert who) s (fun t => t.garnet.pke = s.garnet.pke ++ [⟨12, 4, 16 * s.get R.PKE.PARAM_ADDR, 0, [], none⟩] ∧
      t.get R.PKE.STAT_BUSY = 1 ∧
      t.mem = s.mem)) ∧
  (∀ (who : Requester) (s : State),
    Works s who 0x52 0x20 →
    s.get R.PKE.STAT_BUSY = 0 →
    inBank3 (16 * s.get R.PKE.PARAM_ADDR) 1 = true →
    s.garnet.healthFail = false →
    (s.sram (16 * s.get R.PKE.PARAM_ADDR)).toNat ≤ 1 →
    Completes (.pkeRandom who) s (fun t => t.garnet.pke = s.garnet.pke ++ [⟨12, 5, 16 * s.get R.PKE.PARAM_ADDR, 0, [], none⟩] ∧
      t.get R.PKE.STAT_BUSY = 1 ∧
      t.mem = s.mem)) ∧
  (∀ (who : Requester) (s : State),
    Works s who 0x52 0x20 →
    s.get R.PKE.STAT_BUSY = 0 →
    inBank3 (16 * s.get R.PKE.PARAM_ADDR) 1 = true →
    s.garnet.healthFail = false →
    (s.sram (16 * s.get R.PKE.PARAM_ADDR)).toNat ≤ 1 →
    Completes (.pkeChallenge who) s (fun t => t.garnet.pke = s.garnet.pke ++ [⟨12, 6, 16 * s.get R.PKE.PARAM_ADDR, 0, [], none⟩] ∧
      t.get R.PKE.STAT_BUSY = 1 ∧
      t.mem = s.mem)) ∧
  (∀ (who : Requester) (s : State),
    Works s who 0x52 0x20 →
    s.get R.PKE.STAT_BUSY = 0 →
    inBank3 (16 * s.get R.PKE.PARAM_ADDR) 1 = true →
    s.garnet.healthFail = false ∧ s.garnet.pke = [] →
    8 ≤ (s.sram (16 * s.get R.PKE.PARAM_ADDR)).toNat ∧ (s.sram (16 * s.get R.PKE.PARAM_ADDR)).toNat ≤ 32 →
    s.sram (16 * s.get R.PKE.PARAM_ADDR + 1) ≠ 0 →
    Completes (.pkeQuote who) s (fun t => t.garnet.pke = [⟨12, 3, 16 * s.get R.PKE.PARAM_ADDR, 0,
          t.quoteBody (s.sramList (16 * s.get R.PKE.PARAM_ADDR + 2) (s.sram (16 * s.get R.PKE.PARAM_ADDR)).toNat) (s.sram (16 * s.get R.PKE.PARAM_ADDR + 1)).toNat, none⟩] ∧
      t.get R.PKE.STAT_BUSY = 1)) ∧
  (∀ (who : Requester) (c : List Byte) (s : State),
    Works s who 0x52 0x20 →
    s.get R.PKE.STAT_BUSY = 0 →
    inBank3 (16 * s.get R.PKE.PARAM_ADDR) 1 = true →
    s.garnet.challenge = some c →
    Completes (.pkeDebugOpen who) s (fun t => t.garnet.pke = s.garnet.pke ++ [⟨12, 7, 16 * s.get R.PKE.PARAM_ADDR, 0, [], none⟩] ∧
      t.get R.PKE.STAT_BUSY = 1)) ∧
  (∀ (who : Requester) (s : State),
    Works s who 0x52 0x20 →
    s.get R.PKE.STAT_BUSY = 0 →
    inBank3 (16 * s.get R.PKE.PARAM_ADDR) 1 = true →
    s.garnet.challenge = none →
    Completes (.pkeDebugOpen who) s (fun t => t.garnet = s.garnet ∧
      t.get (R.HDR.REASON 0x52) = 0x45)) ∧
  (∀ (who : Requester) (s : State),
    Works s who 0x52 0x20 →
    s.get R.PKE.STAT_BUSY = 0 →
    inBank3 (16 * s.get R.PKE.PARAM_ADDR) 1 = true →
    (s.sram (16 * s.get R.PKE.PARAM_ADDR)).toNat = 1 ∧ s.garnet.ck1 = none →
    Completes (.pkeCkeyProg who 0xA55A) s (fun t => t.garnet.pke = s.garnet.pke ++ [⟨12, 8, 16 * s.get R.PKE.PARAM_ADDR, 0, [], none⟩] ∧
      t.get R.PKE.STAT_BUSY = 1)) ∧
  (∀ (who : Requester) (s : State),
    Works s who 0x52 0x20 →
    s.get R.PKE.STAT_BUSY = 0 →
    inBank3 (16 * s.get R.PKE.PARAM_ADDR) 1 = true →
    s.garnet.ck1.isSome = true →
    Completes (.pkeCkeyRevoke who 0xA55A) s (fun t => t.garnet.pke = s.garnet.pke ++ [⟨12, 9, 16 * s.get R.PKE.PARAM_ADDR, 0, [], none⟩] ∧
      t.get R.PKE.STAT_BUSY = 1)) ∧
  (∀ (who : Requester) (key : Half) (s : State),
    Works s who 0x52 0x20 →
    s.get R.PKE.STAT_BUSY = 0 →
    key ≠ 0xA55A →
    Completes (.pkeCkeyProg who key) s (fun t => t.garnet = s.garnet ∧
      t.get (R.HDR.REASON 0x52) = 0x44)) ∧
  (∀ (who : Requester) (key : Half) (s : State),
    Works s who 0x52 0x20 →
    s.get R.PKE.STAT_BUSY = 0 →
    key ≠ 0xA55A →
    Completes (.pkeCkeyRevoke who key) s (fun t => t.garnet = s.garnet ∧
      t.get (R.HDR.REASON 0x52) = 0x44)) ∧
  (∀ (e11 : Bool) (tag : Half) (a : Word) (s : State),
    inBank3 a.toNat 240 = true →
    s.garnet.pke ≠ [] →
    exec (.mboxVerify e11 tag a) s = .next { s with garnet := { s.garnet with pke := s.garnet.pke ++ [⟨customerEngine e11, 1, a.toNat, tag.toNat, [], none⟩] } }) ∧
  (∀ (op : PkeOp) (s : State),
    s.garnet.pke = [op] ∧ op.who = 12 ∧ op.quote = none →
    op.op = 1 ∧ keyOk (s.sramList (op.param + 48) 96) = true →
    Completes (.pkeComplete) s (fun t => t.get R.PKE.STAT_RESULT = (if ecdsaVerify (s.sramList (op.param + 48) 96) (s.sramList op.param 48) (s.sramList (op.param + 144) 96) then 1 else 2) ∧
      t.get R.PKE.STAT_BUSY = 0 ∧
      t.garnet.pke = [] ∧ t.mem = s.mem)) ∧
  (∀ (op : PkeOp) (s : State),
    s.garnet.pke = [op] ∧ op.who = 12 ∧ op.quote = none ∧ op.op = 2 →
    Completes (.pkeComplete) s (fun t => t.mem = s.mem.storeList 0 (op.param + 48) (ecdsaSign Config.identityScalar.toNat (ofBe (s.freeBytes 48) % (bpQ - 1) + 1) (sha384 (ascii "YNS1" ++ s.sramList op.param 48))) ∧
      t.get R.PKE.STAT_BUSY = 0 ∧ t.garnet.pke = [])) ∧
  (∀ (op : PkeOp) (s : State),
    s.garnet.pke = [op] ∧ op.who = 12 ∧ op.quote = none ∧ op.op = 4 →
    Completes (.pkeComplete) s (fun t => t.mem = s.mem.storeList 0 op.param (Config.certificate (s.sram op.param).toNat) ∧
      t.get R.PKE.RESLEN_BYTES = (Config.certificate (s.sram op.param).toNat).length % 2 ^ R.PKE.RESLEN_BYTES.width ∧
      t.get R.PKE.STAT_BUSY = 0 ∧ t.garnet.pke = [])) ∧
  (∀ (op : PkeOp) (s : State),
    s.garnet.pke = [op] ∧ op.who = 12 ∧ op.quote = none →
    (op.op = 5 ∨ op.op = 6) →
    Completes (.pkeComplete) s (fun t => t.mem = s.mem.storeList 0 op.param (s.freeBytes (if op.op = 5 then 48 else 32)) ∧
      t.garnet.challenge = (if op.op = 5 then s.garnet.challenge else some (s.freeBytes 32)) ∧
      t.get R.PKE.STAT_BUSY = 0 ∧ t.garnet.pke = [])) ∧
  (∀ (op : PkeOp) (s : State),
    s.garnet.pke = [op] ∧ op.who = 12 ∧ op.quote = none →
    (op.op = 8 ∨ op.op = 9) →
    Completes (.pkeComplete) s (fun t => t.garnet.ck0Revoked = (s.garnet.ck0Revoked || decide (op.op = 9)) ∧
      t.garnet.ck1 = (if op.op = 8 ∧ s.sram op.param ≠ 0 then some (sha384 (s.sramList (op.param + 1) 96)) else s.garnet.ck1) ∧
      t.garnet.ck0 = (if op.op = 8 ∧ s.sram op.param = 0 then some (sha384 (s.sramList (op.param + 1) 96)) else s.garnet.ck0) ∧
      t.get R.PKE.STAT_BUSY = 0 ∧ t.mem = s.mem)) ∧
  (∀ (op : PkeOp) (c : List Byte) (s : State),
    s.garnet.pke = [op] ∧ op.who = 12 ∧ op.quote = none ∧ op.op = 7 →
    s.garnet.challenge = some c →
    Completes (.pkeComplete) s (fun t => t.garnet.challenge = none ∧
      t.get R.PKE.STAT_DBG = (if s.tokenOk (s.sramList op.param 144) c then 1 else s.get R.PKE.STAT_DBG) ∧
      (s.tokenOk (s.sramList op.param 144) c = true →
          t.garnet.debugEnd = s.get R.SYS.OPSEC_SEC + 60 * ofLe (slice (s.sramList op.param 144) 6 2)) ∧
      (s.tokenOk (s.sramList op.param 144) c = false → t.get (R.HDR.REASON 0x52) = 0x42 ∧ t.garnet.mslots = s.garnet.mslots))) ∧
  (∀ (s : State),
    s.get R.PKE.STAT_DBG = 1 →
    s.garnet.debugEnd ≤ s.get R.SYS.OPSEC_SEC →
    exec .debugAccessExpiry s = .next (s.setAll [(R.PKE.STAT_DBG, 0), (R.PKE.STAT_SCOPE, 0)])) ∧
  (∀ (o : Offer) (m : Mail) (l : List Mail) (s : State),
    s.engines.e7.mailbox = m :: l ∧ m.src = 6 ∧ m.type = 0x83 →
    s.msg.offers.find? (fun o => Nat.beq o.who 7 && !Nat.beq o.ends 0) = some o →
    o.kind = 1 ∧ quoteOk o = true →
    s.garnet.healthFail = false ∧ s.garnet.pke ≠ [] →
    Completes (.attestRequest) s (fun t => t.garnet.pke = s.garnet.pke ++ [⟨7, 3, 0, 0, [], some (quoteReq o)⟩] ∧
      t.engines.e7.mailbox = l))

/-- OPEN starts RECEIVING; a WRITE of an aligned block from bank 3 sets BUSY and its completion programs the staging sector and counts the block; VERIFY enters VERIFYING and its completion VERIFIED where every check passes, else FAILED with the failing check and part; SCHEDULE of a verified set enters SCHEDULED with AT, refused while the clock is not set; CANCEL takes the schedule back, or ends the session; an activation opens a COPY entry in MAINTENANCE where the checks pass and aborts by reset where they fail; its completion installs the staged set, counts it and resets the module. A command that the state does not allow is refused with STATE, one while BUSY with BUSY. -/
def Obligations.FirmwareUpdate : Prop :=
  (∀ (who : Requester) (s : State),
    Works s who 0x54 0x20 →
    s.get R.UPDATE.STAT_BUSY = 0 →
    (s.get R.UPDATE.STAT_ST = 0 ∨ s.get R.UPDATE.STAT_ST = 1 ∨ s.get R.UPDATE.STAT_ST = 3 ∨ s.get R.UPDATE.STAT_ST = 6) →
    Completes (.updateOpen who) s (fun t => t.get R.UPDATE.STAT_ST = 1 ∧
      t.get R.UPDATE.STAT_BLOCKS = 0 ∧ t.get R.UPDATE.STAGED_VALUE = 0 ∧
      t.flash = s.flash)) ∧
  (∀ (who : Requester) (s : State),
    Works s who 0x54 0x20 →
    (s.get R.UPDATE.STAT_BUSY ≠ 0 ∨ s.get R.UPDATE.STAT_ST = 5) →
    Completes (.updateOpen who) s (fun t => t.get R.UPDATE.STAT_ST = s.get R.UPDATE.STAT_ST ∧ t.update = s.update ∧ t.flash = s.flash ∧
      t.get (R.HDR.REASON 0x54) = (if s.get R.UPDATE.STAT_BUSY ≠ 0 then 0x0D else 0x40))) ∧
  (∀ (who : Requester) (s : State),
    Works s who 0x54 0x20 →
    (s.get R.UPDATE.STAT_BUSY ≠ 0 ∨ s.get R.UPDATE.STAT_ST = 5) →
    Completes (.updateWrite who) s (fun t => t.get R.UPDATE.STAT_ST = s.get R.UPDATE.STAT_ST ∧ t.update = s.update ∧ t.flash = s.flash ∧
      t.get (R.HDR.REASON 0x54) = (if s.get R.UPDATE.STAT_BUSY ≠ 0 then 0x0D else 0x40))) ∧
  (∀ (who : Requester) (s : State),
    Works s who 0x54 0x20 →
    (s.get R.UPDATE.STAT_BUSY ≠ 0 ∨ s.get R.UPDATE.STAT_ST = 5) →
    Completes (.updateVerify who) s (fun t => t.get R.UPDATE.STAT_ST = s.get R.UPDATE.STAT_ST ∧ t.update = s.update ∧ t.flash = s.flash ∧
      t.get (R.HDR.REASON 0x54) = (if s.get R.UPDATE.STAT_BUSY ≠ 0 then 0x0D else 0x40))) ∧
  (∀ (who : Requester) (s : State),
    Works s who 0x54 0x20 →
    (s.get R.UPDATE.STAT_BUSY ≠ 0 ∨ s.get R.UPDATE.STAT_ST = 5) →
    Completes (.updateSchedule who) s (fun t => t.get R.UPDATE.STAT_ST = s.get R.UPDATE.STAT_ST ∧ t.update = s.update ∧ t.flash = s.flash ∧
      t.get (R.HDR.REASON 0x54) = (if s.get R.UPDATE.STAT_BUSY ≠ 0 then 0x0D else 0x40))) ∧
  (∀ (who : Requester) (s : State),
    Works s who 0x54 0x20 →
    (s.get R.UPDATE.STAT_BUSY ≠ 0 ∨ s.get R.UPDATE.STAT_ST = 5) →
    Completes (.updateCancel who) s (fun t => t.get R.UPDATE.STAT_ST = s.get R.UPDATE.STAT_ST ∧ t.update = s.update ∧ t.flash = s.flash ∧
      t.get (R.HDR.REASON 0x54) = (if s.get R.UPDATE.STAT_BUSY ≠ 0 then 0x0D else 0x40))) ∧
  (∀ (who : Requester) (s : State),
    Works s who 0x54 0x20 →
    s.get R.UPDATE.STAT_BUSY = 0 →
    (s.get R.UPDATE.STAT_ST = 1 ∨ s.get R.UPDATE.STAT_ST = 3 ∨ s.get R.UPDATE.STAT_ST = 6) →
    s.get R.UPDATE.OFFSET_OFFSET % 4096 = 0 ∧ s.get R.UPDATE.OFFSET_OFFSET ≤ 0x7EF000 →
    inBank3 (s.get R.UPDATE.BUF_ADDR) 4096 = true →
    Completes (.updateWrite who) s (fun t => t.get R.UPDATE.STAT_ST = 1 ∧ t.get R.UPDATE.STAT_BUSY = 1 ∧
      t.update.writing = some (s.get R.UPDATE.OFFSET_OFFSET, s.sramList (s.get R.UPDATE.BUF_ADDR) 4096) ∧
      t.flash = s.flash)) ∧
  (∀ (o : Nat) (l : List Byte) (s : State),
    s.update.writing = some (o, l) →
    Completes (.updateWriteComplete ⟨0, 1, none, 0⟩ ⟨0, none, 0⟩) s (fun t => t.flash.cells = ((s.flash.erased (0x00880000 + o) false).program (0x00880000 + o) l).cells ∧
      t.update.writing = none ∧ t.get R.UPDATE.STAT_BUSY = 0 ∧
      Counted s t R.UPDATE.STAT_BLOCKS)) ∧
  (∀ (who : Requester) (s : State),
    Works s who 0x54 0x20 →
    s.get R.UPDATE.STAT_BUSY = 0 →
    (s.get R.UPDATE.STAT_ST = 1 ∨ s.get R.UPDATE.STAT_ST = 6) →
    Completes (.updateVerify who) s (fun t => t.get R.UPDATE.STAT_ST = 2 ∧ t.get R.UPDATE.STAT_BUSY = 1)) ∧
  (∀ (s : State),
    s.get R.UPDATE.STAT_ST = 2 →
    Completes (.updateVerifyComplete) s (fun t => t.get R.UPDATE.STAT_BUSY = 0 ∧
      t.get R.UPDATE.STAT_ST = (if s.verifySet true = none then 3 else 6) ∧
      (∀ f ∈ (s.verifySet true).toList, t.get (R.HDR.REASON 0x54) = f.1 % 256 ∧ t.get R.UPDATE.STAT_FAILPART = f.2 % 256 ∧ Counted s t R.UPDATE.CNT_VFAIL) ∧
      t.flash = s.flash)) ∧
  (∀ (who : Requester) (s : State),
    Works s who 0x54 0x20 →
    s.get R.UPDATE.STAT_BUSY = 0 ∧ s.get R.UPDATE.STAT_ST = 3 →
    s.get R.RTC.STAT_OSF = 0 →
    s.mode ≠ .maintenance →
    Completes (.updateSchedule who) s (fun t => t.get R.UPDATE.STAT_ST = 4 ∧
      t.update.schedAt = s.get R.UPDATE.AT_LO_SEC_L + 2 ^ 32 * s.get R.UPDATE.AT_HI_SEC_H)) ∧
  (∀ (who : Requester) (s : State),
    Works s who 0x54 0x20 →
    s.get R.UPDATE.STAT_BUSY = 0 ∧ s.get R.UPDATE.STAT_ST = 3 →
    s.get R.RTC.STAT_OSF = 1 →
    Completes (.updateSchedule who) s (fun t => t.get R.UPDATE.STAT_ST = 3 ∧ t.update = s.update ∧
      t.get (R.HDR.REASON 0x54) = 0x48)) ∧
  (∀ (who : Requester) (s : State),
    Works s who 0x54 0x20 →
    s.get R.UPDATE.STAT_BUSY = 0 →
    (s.get R.UPDATE.STAT_ST = 1 ∨ s.get R.UPDATE.STAT_ST = 3 ∨ s.get R.UPDATE.STAT_ST = 4 ∨ s.get R.UPDATE.STAT_ST = 6) →
    Completes (.updateCancel who) s (fun t => t.get R.UPDATE.STAT_ST = (if s.get R.UPDATE.STAT_ST = 4 then 3 else 0) ∧
      (s.get R.UPDATE.STAT_ST = 4 → t.update.due = false) ∧
      t.flash = s.flash)) ∧
  (∀ (s : State),
    s.get R.UPDATE.STAT_ST = 5 →
    s.mode = .maintenance ∧ s.get R.SYS.MODE_CAUSE = 3 →
    s.handsOver = false →
    s.flash.openCopy = none →
    Completes (.activationStart) s (fun t => (s.verifySet true = none ∧ t.flash = (s.flash.jopen 3 0xFF 0x00880000).1 ∧ t.update.copySeq = (s.flash.jopen 3 0xFF 0x00880000).2 ∧ t.mode = .maintenance) ∨
      (s.verifySet true ≠ none ∧ t.get R.UPDATE.STAT_ST = 6 ∧ t.get R.UPDATE.STAT_LAST = 2 ∧ t.mode = .boot))) ∧
  (∀ (s : State),
    s.get R.UPDATE.STAT_ST = 5 →
    s.mode = .service →
    s.handsOver = true ∧ s.pair.handover = false →
    Completes (.activationStart) s (fun t => t.get R.UPDATE.STAT_ST = 5 ∧ t.pair.handover = true ∧ t.mode = .service)) ∧
  (∀ (e : JEntry) (s : State),
    s.mode = .maintenance ∧ s.get R.UPDATE.STAT_ST = 5 →
    s.flash.openCopy = some e →
    Completes (.activationComplete false) s (fun t => t.mode = .boot ∧
      t.get R.UPDATE.STAT_ST = 0 ∧
      t.get R.UPDATE.STAT_LAST = (if s.update.resumed then 3 else 1) ∧
      t.garnet.rb = raiseRb s.garnet.rb s.flash.staged.parts))

/-- A record of a new event opens with the next SEQ and one repetition, the same event again only counts in the open record, and a closed record is programmed after those before it; WRITE and message 0x25 check type, length and buffer; READ and message 0x26 copy the whole records from RSEQ on that fit, in order; FLUSH and the time-out close the open record; CHALLENGE holds 32 fresh octets and writes them; CLEAR with a token uses the challenge up, and with a good one starts a clear whose record takes the next SEQ; the clear's completion drops the records before FIRST; the restart walk goes on after the last programmed record. While a walk or a clear runs submissions wait. -/
def Obligations.StrataRecorder : Prop :=
  (∀ (who : Requester) (s : State),
    Works s who 0x5C 0x38 ∧ s.get R.STRATA.STAT_BUSY = 0 →
    typeOf (12) (s.get R.STRATA.WDESC_TYPE) = true ∧ 8 ≤ s.get R.STRATA.WDESC_BLEN + 1 ∧ inBank3 (s.get R.STRATA.BUF_ADDR) (s.get R.STRATA.WDESC_BLEN + 1) = true →
    s.strata.walking = false ∧ s.get R.STRATA.STAT_CLEARING = 0 →
    s.strata.opened = none ∧ s.strata.recent = [] →
    s.strataFull (strataSize (s.get R.STRATA.WDESC_BLEN + 1)) = false →
    Completes (.strataWrite who) s (fun t => t.strata.opened = some ⟨s.get R.STRATA.NEXT_SEQ, s.get R.STRATA.WDESC_TYPE, 1, s.get R.SYS.OPSEC_SEC, s.get R.SYS.PWRCYC_COUNT, 12, s.sramList (s.get R.STRATA.BUF_ADDR) (s.get R.STRATA.WDESC_BLEN + 1), t.strata.sector, none⟩ ∧
      t.get R.STRATA.NEXT_SEQ = (s.get R.STRATA.NEXT_SEQ + 1) % 2 ^ 32 ∧
      t.get R.STRATA.STAT_OPEN = 1 ∧
      t.strata.records = s.strata.records ∧ t.mem = s.mem)) ∧
  (∀ (k : Fin 12) (tag : Half) (ty bl : Byte) (ad : Word) (s : State),
    True →
    typeOf (k.val) (ty.toNat) = true ∧ 8 ≤ bl.toNat + 1 ∧ inBank3 (ad.toNat) (bl.toNat + 1) = true →
    s.strata.walking = false ∧ s.get R.STRATA.STAT_CLEARING = 0 →
    s.strata.opened = none ∧ s.strata.recent = [] →
    s.strataFull (strataSize (bl.toNat + 1)) = false →
    Completes (.mboxStrataRecord k tag ty bl ad) s (fun t => t.strata.opened = some ⟨s.get R.STRATA.NEXT_SEQ, ty.toNat, 1, s.get R.SYS.OPSEC_SEC, s.get R.SYS.PWRCYC_COUNT, k.val, s.sramList (ad.toNat) (bl.toNat + 1), t.strata.sector, none⟩ ∧
      t.get R.STRATA.NEXT_SEQ = (s.get R.STRATA.NEXT_SEQ + 1) % 2 ^ 32 ∧
      t.get R.STRATA.STAT_OPEN = 1 ∧
      t.strata.records = s.strata.records ∧ t.mem = s.mem)) ∧
  (∀ (who : Requester) (r : StrataRec) (s : State),
    Works s who 0x5C 0x38 ∧ s.get R.STRATA.STAT_BUSY = 0 →
    0xC0 ≤ s.get R.STRATA.WDESC_TYPE ∧ 7 ≤ s.get R.STRATA.WDESC_BLEN ∧ inBank3 (s.get R.STRATA.BUF_ADDR) (s.get R.STRATA.WDESC_BLEN + 1) = true →
    s.strata.walking = false ∧ s.get R.STRATA.STAT_CLEARING = 0 →
    s.strata.opened = some r ∧ r.names = none ∧ r.reps < 0xFFFE →
    r.type = s.get R.STRATA.WDESC_TYPE ∧ r.src = 12 ∧ strataKey r.body = strataKey (s.sramList (s.get R.STRATA.BUF_ADDR) (s.get R.STRATA.WDESC_BLEN + 1)) →
    Completes (.strataWrite who) s (fun t => t.strata.opened = some { r with reps := r.reps + 1 } ∧
      t.get R.STRATA.NEXT_SEQ = s.get R.STRATA.NEXT_SEQ ∧
      t.strata.records = s.strata.records)) ∧
  (∀ (who : Requester) (s : State),
    Works s who 0x5C 0x38 ∧ s.get R.STRATA.STAT_BUSY = 0 →
    (s.get R.STRATA.WDESC_TYPE < 0xC0 ∨ s.get R.STRATA.WDESC_BLEN < 7 ∨ inBank3 (s.get R.STRATA.BUF_ADDR) (s.get R.STRATA.WDESC_BLEN + 1) = false) →
    Completes (.strataWrite who) s (fun t => t.strata = s.strata ∧
      t.get (R.HDR.REASON 0x5C) = 7)) ∧
  (∀ (who : Requester) (r : StrataRec) (s : State),
    Works s who 0x5C 0x38 ∧ s.get R.STRATA.STAT_BUSY = 0 →
    s.strata.opened = some r →
    Completes (.strataFlush who) s (fun t => t.strata.opened = none ∧
      t.strata.records = s.strata.records ++ [r] ∧
      t.get R.STRATA.STAT_OPEN = 0 ∧
      Counted s t R.STRATA.CNT_RECORDS)) ∧
  (∀ (r : StrataRec) (s : State),
    r.opsec + s.get R.STRATA.CFG_CLOSE_S ≤ s.get R.SYS.OPSEC_SEC →
    s.strata.opened = some r →
    Completes (.strataCloseTimeout) s (fun t => t.strata.opened = none ∧
      t.strata.records = s.strata.records ++ [r] ∧
      t.get R.STRATA.STAT_OPEN = 0 ∧
      Counted s t R.STRATA.CNT_RECORDS)) ∧
  (∀ (who : Requester) (l : List StrataRec) (s : State),
    Works s who 0x5C 0x38 ∧ s.get R.STRATA.STAT_BUSY = 0 →
    inBank3 (s.get R.STRATA.BUF_ADDR) (s.get R.STRATA.RLEN_BYTES) = true →
    l = (s.strata.records ++ s.strata.opened.toList).filter (fun (r : StrataRec) => max (s.get R.STRATA.RSEQ_SEQ) (s.get R.STRATA.FIRST_SEQ) ≤ r.seq) →
    Completes (.strataRead who) s (fun t => t.mem = s.mem.storeList 0 (s.get R.STRATA.BUF_ADDR) (packRecords (s.get R.STRATA.RLEN_BYTES) l).1 ∧
      t.get R.STRATA.RRES_RECORDS = (packRecords (s.get R.STRATA.RLEN_BYTES) l).2 % 2 ^ R.STRATA.RRES_RECORDS.width ∧
      t.strata = s.strata)) ∧
  (∀ (e11 : Bool) (tag : Half) (rseq n a : Word) (l : List StrataRec) (s : State),
    inBank3 a.toNat n.toNat = true ∧ 280 ≤ n.toNat ∧ n.toNat ≤ 65536 →
    l = (s.strata.records ++ s.strata.opened.toList).filter (fun (r : StrataRec) => max rseq.toNat (s.get R.STRATA.FIRST_SEQ) ≤ r.seq) →
    Completes (.mboxStrataRead e11 tag rseq n a) s (fun t => t.mem = s.mem.storeList 0 a.toNat (packRecords n.toNat l).1 ∧
      t.strata = s.strata)) ∧
  (∀ (who : Requester) (s : State),
    Works s who 0x5C 0x38 ∧ s.get R.STRATA.STAT_BUSY = 0 →
    inBank3 (s.get R.STRATA.BUF_ADDR) 32 = true →
    s.garnet.healthFail = false →
    Completes (.strataChallenge who) s (fun t => t.strata.challenge = some (s.freeBytes 32) ∧
      t.mem = s.mem.storeList 0 (s.get R.STRATA.BUF_ADDR) (s.freeBytes 32))) ∧
  (∀ (who : Requester) (c : List Byte) (s : State),
    Works s who 0x5C 0x38 ∧ s.get R.STRATA.STAT_BUSY = 0 →
    s.get R.STRATA.STAT_CLEARING = 0 →
    s.strata.challenge = some c ∧ s.strata.opened = none →
    inBank3 (s.get R.STRATA.BUF_ADDR) 144 = true →
    Completes (.strataClear who) s (fun t => t.strata.challenge = none ∧
      t.get R.STRATA.STAT_CLEARING = (if s.clearTokenOk (s.sramList (s.get R.STRATA.BUF_ADDR) 144) c then 1 else 0) ∧
      t.get R.STRATA.FIRST_SEQ = (if s.clearTokenOk (s.sramList (s.get R.STRATA.BUF_ADDR) 144) c then s.get R.STRATA.NEXT_SEQ % 2 ^ 32 else s.get R.STRATA.FIRST_SEQ) ∧
      (s.clearTokenOk (s.sramList (s.get R.STRATA.BUF_ADDR) 144) c = false → t.get (R.HDR.REASON 0x5C) = 0x41 ∧ t.strata.records = s.strata.records))) ∧
  (∀ (who : Requester) (s : State),
    Works s who 0x5C 0x38 ∧ s.get R.STRATA.STAT_BUSY = 0 →
    s.get R.STRATA.STAT_CLEARING = 0 →
    s.strata.challenge = none →
    Completes (.strataClear who) s (fun t => t.strata = s.strata ∧ t.get (R.HDR.REASON 0x5C) = 0x42)) ∧
  (∀ (s : State),
    s.get R.STRATA.STAT_CLEARING = 1 ∧ s.strata.walking = false →
    s.strata.queue = [] →
    Completes (.strataClearComplete []) s (fun t => t.get R.STRATA.STAT_CLEARING = 0 ∧
      t.strata.records = s.strata.records.filter (fun (r : StrataRec) => s.get R.STRATA.FIRST_SEQ ≤ r.seq))) ∧
  (∀ (c r : StrataRec) (s : State),
    s.strata.walking = true ∧ s.get R.STRATA.STAT_CLEARING = 0 →
    s.strata.opened = none ∧ s.strata.queue = [] →
    s.strata.records.getLast? = some r →
    (s.strata.records.filter (fun (x : StrataRec) => Nat.beq x.type 1)).getLast? = some c →
    Completes (.strataRestartWalk) s (fun t => t.strata.walking = false ∧ t.strata.records = s.strata.records ∧
      t.get R.STRATA.NEXT_SEQ = (r.seq + 1) % 2 ^ 32 ∧ t.get R.STRATA.FIRST_SEQ = c.seq % 2 ^ 32 ∧
      t.strata.start = c.sector ∧ t.strata.sector = r.sector)) ∧
  (∀ (k : Fin 12) (tag : Half) (ty bl : Byte) (ad : Word) (s : State),
    typeOf k ty.toNat = true ∧ 7 ≤ bl.toNat ∧ inBank3 ad.toNat (bl.toNat + 1) = true →
    s.strata.walking = true ∧ s.strata.queue.length < 32 →
    exec (.mboxStrataRecord k tag ty bl ad) s = .next { s with strata := { s.strata with queue := s.strata.queue ++ [⟨k, ty.toNat, s.sramList ad.toNat (bl.toNat + 1), some (k.val, tag.toNat)⟩] } })

/-- A GO of an ENABLED page queues the frame by priority and arrival, and is refused NOT_ENABLED, BAD_VALUE, BUS_FAIL or NO_RESOURCE in that order; the head goes on the bus when the result FIFO has room; a collision tries again until the fourth ends the frame with COLL; a sent frame ends SENT, goes on to its second copy, or awaits its answer; a backward frame or its absence ends it with ANSWER, NONE or an encoding error; a system failure ends every frame with BUS_FAIL; a read of RES takes the head; a write of GEARk returns its entries to unknown. -/
def Obligations.DaliFrames : Prop :=
  (∀ (who : Requester) (l24 : Bool) (prio : BitVec 3) (tw ans : Bool) (tag : Half) (s : State),
    Writes s who 0x60 0x2C →
    s.get (R.HDR.ST 0x60) = 2 ∧ s.get R.DALI.BUSSTAT_SYSFAIL = 0 →
    1 ≤ prio.toNat ∧ prio.toNat ≤ 5 ∧ s.lamp.queue.length < 8 →
    Completes (.daliGo who l24 prio tw ans tag) s (fun t => t.lamp.queue = daliPlace ⟨s.lamp.nextNum, s.get R.DALI.TXD_FRAME, l24, prio.toNat, tw, ans, tag.toNat, 0, false⟩ s.lamp.queue ∧
      t.lamp.nextNum = s.lamp.nextNum + 1 ∧
      t.lamp.results = s.lamp.results ∧ t.lamp.cur = s.lamp.cur)) ∧
  (∀ (who : Requester) (l24 : Bool) (prio : BitVec 3) (tw ans : Bool) (tag : Half) (s : State),
    Writes s who 0x60 0x2C →
    (s.get (R.HDR.ST 0x60) ≠ 2 ∨ prio = 0 ∨ 5 < prio.toNat ∨ s.get R.DALI.BUSSTAT_SYSFAIL ≠ 0 ∨ 8 ≤ s.lamp.queue.length) →
    Completes (.daliGo who l24 prio tw ans tag) s (fun t => t.lamp = s.lamp ∧
      (t.get (R.HDR.REASON 0x60) = (if s.get (R.HDR.ST 0x60) ≠ 2 then 0x41 else if prio = 0 ∨ 5 < prio.toNat then 7 else if s.get R.DALI.BUSSTAT_SYSFAIL ≠ 0 then 0x40 else 0x09)))) ∧
  (∀ (e : DaliEntry) (l : List DaliEntry) (s : State),
    s.lampOn = true ∧ s.get R.DALI.BUSSTAT_SYSFAIL = 0 →
    s.lamp.cur = none ∧ s.lamp.queue = e :: l →
    s.lamp.results.length < 8 ∧ s.get (R.HDR.ST 0x60) = 2 →
    exec .daliFrameStart s = .next { s with lamp := { s.lamp with cur := some (e, 1), queue := l } }) ∧
  (∀ (e : DaliEntry) (s : State),
    s.lamp.cur = some (e, 1) →
    3 ≤ e.tries →
    Completes (.daliCollision) s (fun t => t.lamp.results = s.lamp.results ++ [⟨0, 4, e.tag⟩] ∧
      t.lamp.cur = none ∧
      Counted s t R.DALI.CNT_COLL)) ∧
  (∀ (e : DaliEntry) (s : State),
    s.lamp.cur = some (e, 1) →
    e.tries < 3 ∧ s.get (R.HDR.ST 0x60) = 2 →
    Completes (.daliCollision) s (fun t => t.lamp.queue = daliPlace { e with tries := e.tries + 1, copied := false } s.lamp.queue ∧
      t.lamp.cur = none ∧ t.lamp.results = s.lamp.results)) ∧
  (∀ (e : DaliEntry) (s : State),
    s.lamp.cur = some (e, 1) →
    Completes (.daliFrameSent) s (fun t => t.lamp.cur = (if e.twice = true ∧ e.copied = false then some ({ e with copied := true }, 0) else if e.answer then some (e, 2) else none) ∧
      (t.lamp.results = s.lamp.results ++ (if (e.twice = true ∧ e.copied = false) ∨ e.answer = true then [] else [⟨0, 0, e.tag⟩])))) ∧
  (∀ (e : DaliEntry) (d : Byte) (s : State),
    s.lamp.cur = some (e, 2) →
    Completes (.daliBackwardFrame (some d)) s (fun t => t.lamp.results = s.lamp.results ++ [⟨d.toNat, 1, e.tag⟩] ∧
      t.lamp.cur = none)) ∧
  (∀ (e : DaliEntry) (s : State),
    s.lamp.cur = some (e, 2) →
    Completes (.daliBackwardFrame none) s (fun t => t.lamp.results = s.lamp.results ++ [⟨0, 3, e.tag⟩] ∧
      Counted s t R.DALI.CNT_FRAMING)) ∧
  (∀ (e : DaliEntry) (s : State),
    s.lamp.cur = some (e, 2) →
    Completes (.daliAnswerTimeout) s (fun t => t.lamp.results = s.lamp.results ++ [⟨0, 2, e.tag⟩] ∧
      t.lamp.cur = none)) ∧
  (∀ (b : BitVec 24) (n : BitVec 6) (s : State),
    s.lampOn = true →
    Completes (.daliForeignFrame b n) s (fun t => t.get R.DALI.FOREIGN_FRAME = b.toNat ∧ t.get R.DALI.FOREIGN_LEN = n.toNat % 2 ^ R.DALI.FOREIGN_LEN.width ∧
      t.lamp = s.lamp)) ∧
  (∀ (s : State),
    s.lampLive = true ∧ s.get R.DALI.BUSSTAT_SYSFAIL = 0 →
    s.lamp.openOn = none →
    Completes (.daliSystemFailure) s (fun t => t.lamp.results = s.lamp.results ++ (s.lamp.current ++ s.lamp.queue).map (fun e => ⟨0, 5, e.tag⟩) ∧
      t.lamp.queue = [] ∧ t.lamp.cur = none ∧
      t.get R.DALI.BUSSTAT_SYSFAIL = 1 ∧
      Counted s t R.DALI.CNT_SYSFAIL)) ∧
  (∀ (s : State),
    s.lampLive = true ∧ s.get R.DALI.BUSSTAT_SYSFAIL = 1 →
    Completes (.daliBusRecovery) s (fun t => t.get R.DALI.BUSSTAT_SYSFAIL = 0 ∧
      t.lamp = s.lamp)) ∧
  (∀ (who : Requester) (r : DaliRes) (l : List DaliRes) (s : State),
    Reaches s who 0x60 0x34 false →
    s.lamp.results = r :: l →
    Completes (.daliResultPop who) s (fun t => t.lamp.results = l ∧
      t.lastRead = r.data % 256 + 256 * (r.status % 16) + 4096 + 65536 * r.tag)) ∧
  (∀ (who : Requester) (k : Fin 4) (i : Fin 64) (s : State),
    Writes s who 0x60 (0x40 + 4 * k) →
    Completes (.daliGearClear who k) s (fun t => t.get (R.DALI.GEAR_ED i) = (if i.val / 16 = k.val then 0 else s.get (R.DALI.GEAR_ED i))))

/-- BUSCFG takes its fields and an OFF bus is then measured; the measurement ends in ON, POWERED or REVERSED by the bus voltage; an overload and its end show in BUSSTAT; VSET takes a level up to 1,000 and the output steps to it without a fade; an overload limits the output; SET and CLR queue a command, deferred in brown-out, its pulse starts and its end gives the relay its state and counts it. -/
def Obligations.DaliBusAndOutputs : Prop :=
  (∀ (who : Requester) (w : Word) (s : State),
    Writes s who 0x60 0x20 →
    s.get (R.HDR.ST 0x60) ≠ 1 →
    Completes (.daliBuscfgWrite who w) s (fun t => t.get R.DALI.BUSCFG_ON = R.DALI.BUSCFG_ON.of w.toNat ∧ t.get R.DALI.BUSCFG_LIM = R.DALI.BUSCFG_LIM.of w.toNat ∧ t.get R.DALI.BUSCFG_SHARE = R.DALI.BUSCFG_SHARE.of w.toNat ∧
      t.get R.DALI.BUSSTAT_ST = (if R.DALI.BUSCFG_ON.of w.toNat = 0 then 0 else s.get R.DALI.BUSSTAT_ST) ∧
      (R.DALI.BUSCFG_ON.of w.toNat = 1 ∧ s.get R.DALI.BUSSTAT_ST = 0 ∧ s.lampLive = true → t.lamp.measuring = true))) ∧
  (∀ (u : Half) (b i : Byte) (s : State),
    s.lampLive = true ∧ s.lamp.measuring = true →
    Completes (.daliBusMeasureDone u b i) s (fun t => t.lamp.measuring = false ∧
      t.get R.DALI.BUSSTAT_VBUS = b.toNat ∧ t.get R.DALI.BUSSTAT_IBUS = i.toNat ∧
      t.get R.DALI.BUSSTAT_ST = (if u.toInt < -40 then 3 else if 95 < u.toInt ∧ s.get R.DALI.BUSCFG_SHARE = 0 then 2 else 1))) ∧
  (∀ (b i : Byte) (s : State),
    s.lampLive = true →
    s.get R.DALI.BUSSTAT_ST = 1 →
    Completes (.daliBusOverload b i) s (fun t => t.get R.DALI.BUSSTAT_ST = 4 ∧
      t.get R.DALI.BUSSTAT_VBUS = b.toNat ∧ t.get R.DALI.BUSSTAT_IBUS = i.toNat ∧
      t.lamp = s.lamp)) ∧
  (∀ (b i : Byte) (s : State),
    s.lampLive = true →
    s.get R.DALI.BUSSTAT_ST = 4 →
    Completes (.daliOverloadEnd b i) s (fun t => t.get R.DALI.BUSSTAT_ST = 1 ∧
      t.get R.DALI.BUSSTAT_VBUS = b.toNat ∧ t.get R.DALI.BUSSTAT_IBUS = i.toNat ∧
      t.lamp = s.lamp)) ∧
  (∀ (s : State),
    s.lampLive = true →
    (s.get R.DALI.BUSSTAT_ST = 2 ∨ s.get R.DALI.BUSSTAT_ST = 3) →
    exec .daliBusRemeasure s = .next { s with lamp := { s.lamp with measuring := true } }) ∧
  (∀ (who : Requester) (w : Word) (r : BitVec 10) (s : State),
    Writes s who 0x61 0x24 →
    s.get (R.HDR.ST 0x61) = 2 ∧ s.lampLive = true ∧ s.get R.AOUT.CFG_FADE_MS = 0 →
    w.toNat ≤ 1000 →
    Completes (.aoutVsetWrite who w r) s (fun t => t.get R.AOUT.VSET_LEVEL = w.toNat ∧
      t.get R.AOUT.STAT_VOUT = (if s.get R.AOUT.CFG_MODE = 1 ∧ w.toNat < 100 then 100 else w.toNat) ∧
      t.get R.AOUT.STAT_CLAMP = (if s.get R.AOUT.CFG_MODE = 1 ∧ w.toNat < 100 then 1 else 0) ∧
      t.get R.AOUT.STAT_FADING = 0)) ∧
  (∀ (who : Requester) (w : Word) (r : BitVec 10) (s : State),
    Writes s who 0x61 0x24 →
    s.get (R.HDR.ST 0x61) = 2 →
    1000 < w.toNat ∧ w.toNat < 1024 →
    Completes (.aoutVsetWrite who w r) s (fun t => t.get R.AOUT.VSET_LEVEL = s.get R.AOUT.VSET_LEVEL ∧ t.get R.AOUT.STAT_VOUT = s.get R.AOUT.STAT_VOUT ∧
      t.get (R.HDR.REASON 0x61) = 7)) ∧
  (∀ (s : State),
    s.get (R.HDR.ST 0x61) = 2 ∧ s.lampLive = true ∧ s.get R.AOUT.STAT_FADING = 1 →
    Completes (.aoutFadeEnd) s (fun t => t.get R.AOUT.STAT_FADING = 0 ∧
      (s.get R.AOUT.CFG_MODE = 0 → t.get R.AOUT.STAT_VOUT = s.get R.AOUT.VSET_LEVEL % 2 ^ R.AOUT.STAT_VOUT.width))) ∧
  (∀ (u : BitVec 10) (s : State),
    s.lampLive = true ∧ s.get R.AOUT.STAT_FLOAT = 0 →
    Completes (.aoutOverload u) s (fun t => t.get R.AOUT.STAT_OVERLOAD = 1 ∧
      t.get R.AOUT.STAT_VOUT = u.toNat % 2 ^ R.AOUT.STAT_VOUT.width ∧
      t.get R.AOUT.VSET_LEVEL = s.get R.AOUT.VSET_LEVEL)) ∧
  (∀ (s : State),
    s.get (R.HDR.ST 0x61) = 2 ∧ s.lampLive = true ∧ s.get R.AOUT.STAT_OVERLOAD = 1 ∧ s.get R.AOUT.CFG_MODE = 0 →
    Completes (.aoutOverloadEnd) s (fun t => t.get R.AOUT.STAT_OVERLOAD = 0 ∧
      t.get R.AOUT.STAT_VOUT = s.get R.AOUT.VSET_LEVEL % 2 ^ R.AOUT.STAT_VOUT.width)) ∧
  (∀ (who : Requester) (s : State),
    Writes s who 0x61 0x30 →
    Completes (.relaySet who) s (fun t => t.lamp = { s.lamp with pend := some 1 } ∧
      t.get R.AOUT.RLYSTAT_PEND = 1 ∧
      t.get R.AOUT.RLYSTAT_DEFER = (if s.get R.PWR.SUPPLY_BROWNOUT = 0 then s.get R.AOUT.RLYSTAT_DEFER else 1) ∧
      t.get R.AOUT.RLYSTAT_STATE = s.get R.AOUT.RLYSTAT_STATE)) ∧
  (∀ (who : Requester) (s : State),
    Writes s who 0x61 0x30 →
    Completes (.relayClr who) s (fun t => t.lamp = { s.lamp with pend := some 2 } ∧
      t.get R.AOUT.RLYSTAT_PEND = 1 ∧
      t.get R.AOUT.RLYSTAT_DEFER = (if s.get R.PWR.SUPPLY_BROWNOUT = 0 then s.get R.AOUT.RLYSTAT_DEFER else 1) ∧
      t.get R.AOUT.RLYSTAT_STATE = s.get R.AOUT.RLYSTAT_STATE)) ∧
  (∀ (p : Bool) (n : Nat) (s : State),
    s.lamp.pend = some n ∧ s.lamp.pulse = none →
    s.lampOn = true ∧ s.get R.PWR.SUPPLY_BROWNOUT = 0 →
    Completes (.relayPulseStart p) s (fun t => t.lamp = { s.lamp with pulse := some n, pend := none } ∧
      t.get R.AOUT.RLYSTAT_BUSY = 1 ∧ t.get R.AOUT.RLYSTAT_PEND = 0 ∧ t.get R.AOUT.RLYSTAT_DEFER = 0 ∧
      (n = 1 → t.get R.AOUT.RLYSTAT_ZXMISS = (if s.get R.AOUT.RLYCFG_ZXSYNC ≠ 0 ∧ p = false then 1 else 0)))) ∧
  (∀ (n : Nat) (s : State),
    s.lamp.pulse = some n →
    Completes (.relayPulseEnd) s (fun t => t.get R.AOUT.RLYSTAT_STATE = (if n = 1 then 1 else 0) ∧
      t.get R.AOUT.RLYSTAT_BUSY = 0 ∧ t.get R.AOUT.RLYSTAT_MISMATCH = 0 ∧
      t.lamp.pulse = none ∧
      Counted s t R.AOUT.OPS_COUNT))

/-- A second's mean shows in PHOTO and DELAY seconds at or above DARK set the dark state; a metering window publishes its quantities and adds its energy to the 64-bit count, a reverse one to REVWH; no crossing sets NOZX; a read of SNAP and of ENERGY_LO latches the group's words for the requester; CLR_ENERGY with its key clears the counts, with another is refused; a checkpoint commits; an accepted input change shows the level and counts, more transitions than CHAT_N declare chatter, and a quiet window ends it; a stuck input is flagged. -/
def Obligations.MeteringAndInputs : Prop :=
  (∀ (m : Half) (s : State),
    s.lampLive = true ∧ s.domOn 20 = true →
    s.get R.METER.PHCFG_DARK ≤ m.toNat →
    s.lamp.darkRun + 1 = s.get R.METER.PHDLY_DELAY_S →
    Completes (.photocellSecond m) s (fun t => t.get R.METER.PHOTO_MEAN = m.toNat ∧ t.get R.METER.PHOTO_STATE = 1 ∧
      t.lamp.darkRun = s.lamp.darkRun + 1)) ∧
  (∀ (m : Half) (s : State),
    s.lampLive = true ∧ s.domOn 20 = true →
    m.toNat < s.get R.METER.PHCFG_DARK ∧ s.get R.METER.PHCFG_LIGHT < m.toNat ∧ s.get R.METER.PHDLY_DELAY_S ≠ 0 →
    Completes (.photocellSecond m) s (fun t => t.get R.METER.PHOTO_MEAN = m.toNat ∧ t.get R.METER.PHOTO_STATE = s.get R.METER.PHOTO_STATE ∧
      t.lamp.darkRun = 0 ∧ t.lamp.lightRun = 0)) ∧
  (∀ (q : MeterWindow) (s : State),
    s.lampLive = true ∧ s.bridge.silent = false ∧ s.domOn 20 = true →
    Completes (.meterWindowEnd q) s (fun t => t.get R.METER.VRMS_V = q.vrms.toNat % 2 ^ R.METER.VRMS_V.width ∧ t.get R.METER.IRMS_I = q.irms.toNat % 2 ^ R.METER.IRMS_I.width ∧
      t.get R.METER.P_MW = q.p.toNat % 2 ^ R.METER.P_MW.width ∧ t.get R.METER.STAT_REV = q.p.msb.toNat ∧
      t.get R.METER.ENERGY_LO_COUNT + 2 ^ 32 * t.get R.METER.ENERGY_HI_COUNT =
      (s.get R.METER.ENERGY_LO_COUNT + 2 ^ 32 * s.get R.METER.ENERGY_HI_COUNT + (if q.p.msb then 0 else q.energy.toNat)) % 2 ^ 64 ∧
      t.get R.METER.SNAP_WSEQ = (s.get R.METER.SNAP_WSEQ + 1) % 2 ^ R.METER.SNAP_WSEQ.width)) ∧
  (∀ (q : MeterWindow) (s : State),
    s.get R.PWR.SUPPLY_MAINS = 1 ∧ s.bridge.hold = true ∧ q.p.msb = false →
    s.bridge.inReset = false ∧ s.domOn 20 = true →
    Completes (.meterWindowEnd q) s (fun t => t.bridge.accum = (s.bridge.accum + q.energy.toNat) % 2 ^ 64 ∧
      t.get R.METER.VRMS_V = q.vrms.toNat % 2 ^ R.METER.VRMS_V.width ∧ t.get R.METER.SNAP_WSEQ = (s.get R.METER.SNAP_WSEQ + 1) % 2 ^ R.METER.SNAP_WSEQ.width ∧
      t.get R.METER.ENERGY_LO_COUNT = s.get R.METER.ENERGY_LO_COUNT ∧ t.get R.METER.ENERGY_HI_COUNT = s.get R.METER.ENERGY_HI_COUNT)) ∧
  (∀ (q : MeterWindow) (s : State),
    s.get R.PWR.SUPPLY_MAINS = 1 ∧ s.bridge.inReset = true ∧ q.p.msb = false →
    Completes (.meterWindowEnd q) s (fun t => t.bridge.accum = (s.bridge.accum + q.energy.toNat) % 2 ^ 64 ∧
      t.regs = s.regs)) ∧
  (∀ (s : State),
    s.lampLive = true ∧ s.domOn 20 = true →
    exec .meterNozxTimeout s = .next (s.set R.METER.STAT_NOZX 1)) ∧
  (∀ (who : Requester) (s : State),
    Reaches s who 0x62 0x24 false →
    Completes (.meterSnapRead who) s (fun t => t.lastRead = s.get R.METER.SNAP_WSEQ ∧
      t.lamp.snaps.find? (fun e => Nat.beq e.1 who) = some (who.val, s.meterWords) ∧
      t.regs = s.regs)) ∧
  (∀ (who : Requester) (s : State),
    Reaches s who 0x62 0x40 false →
    Completes (.energyLoRead who) s (fun t => t.lastRead = s.get R.METER.ENERGY_LO_COUNT ∧
      t.lamp.energy.look who = s.get R.METER.ENERGY_HI_COUNT + 1 ∧
      t.regs = s.regs)) ∧
  (∀ (who : Requester) (s : State),
    Works s who 0x62 0x50 →
    Completes (.meterClrEnergy who 0xA55A) s (fun t => t.get R.METER.ENERGY_LO_COUNT = 0 ∧ t.get R.METER.ENERGY_HI_COUNT = 0 ∧ t.get R.METER.REVWH_COUNT = 0)) ∧
  (∀ (who : Requester) (key : Half) (s : State),
    Works s who 0x62 0x50 →
    key ≠ 0xA55A →
    exec (.meterClrEnergy who key) s = .next ((s.set (R.HDR.REASON 0x62) 0x40).set (R.HDR.ERRINFO 0x62) 0x50)) ∧
  (∀ (s : State),
    (s.mode = .service ∨ s.mode = .outage ∨ s.mode = .commission ∨ s.mode = .maintenance) →
    exec .energyCheckpoint s = .next s.commit) ∧
  (∀ (n : Fin 4) (high : Bool) (r : Byte) (s : State),
    s.mode ≠ .field ∧ s.mode ≠ .unpowered →
    (s.get R.DIN.STAT_LEVEL).testBit n ≠ (high == s.bit (R.DIN.CFG_POL n)) →
    (s.get R.DIN.STAT_CHATTER).testBit n = false ∧ r.toNat ≤ s.get (R.DIN.CFG_CHAT_N n) →
    Completes (.dinFilteredChange n high r) s (fun t => (t.get R.DIN.STAT_LEVEL).testBit n = (high == s.bit (R.DIN.CFG_POL n)) ∧
      Counted s t (R.DIN.CNT_TRANS n) ∧
      t.get R.DIN.STAT_CHATTER = s.get R.DIN.STAT_CHATTER)) ∧
  (∀ (n : Fin 4) (high : Bool) (r : Byte) (s : State),
    s.mode ≠ .field ∧ s.mode ≠ .unpowered →
    (s.get R.DIN.STAT_LEVEL).testBit n ≠ (high == s.bit (R.DIN.CFG_POL n)) →
    (s.get R.DIN.STAT_CHATTER).testBit n = false ∧ s.get (R.DIN.CFG_CHAT_N n) < r.toNat →
    Completes (.dinFilteredChange n high r) s (fun t => (t.get R.DIN.STAT_CHATTER).testBit n = true ∧
      Counted s t (R.DIN.CNT_TRANS n))) ∧
  (∀ (n : Fin 4) (s : State),
    (s.get R.DIN.STAT_CHATTER).testBit n = true →
    Completes (.dinChatterQuiet n) s (fun t => (t.get R.DIN.STAT_CHATTER).testBit n = false ∧
      t.get R.DIN.STAT_LEVEL = s.get R.DIN.STAT_LEVEL)) ∧
  (∀ (n : Fin 4) (s : State),
    s.mode ≠ .field ∧ s.mode ≠ .unpowered ∧ s.get (R.DIN.STUCK_TIME n) ≠ 0 →
    (s.get R.DIN.STAT_LEVEL).testBit n = true ∧ (s.get R.DIN.STAT_STUCK).testBit n = false →
    Completes (.dinStuck n) s (fun t => (t.get R.DIN.STAT_STUCK).testBit n = true ∧
      t.get (R.HDR.IRQ 0x63 (4 + n)) = 1))

/-- A field session starts OPEN and READY and ends with the field; an inventory draws the tag's UID in its slot; reads answer the blocks that the state may read and error 0x10 else; a permitted write changes its four bytes and no other, counts and answers, one that is not permitted answers 0x12 and changes nothing; a request that is not for the tag changes nothing; the right password secures the session and clears FAILCNT, a wrong one counts a failure, answers 0x0F and locks, and while locked no comparison is made; MAM2 after MAM1 likewise; a torn write is completed from its shadow at the next power-up. -/
def Obligations.ContactlessTag : Prop :=
  (∀ (n : Nat) (bs : List Byte) (s : State),
    s.supply.fieldPresent = true ∧ s.nfc.checked = false ∧ s.nfc.marker = true →
    s.nfc.shadow = some ⟨.block n, bs, crc8 (leBytes 2 n ++ bs)⟩ →
    Completes (.tagPowerUp) s (fun t => t.nfc.fram = s.nfc.fram.storeList 0 (4 * n) bs ∧
      t.nfc.marker = false ∧ t.nfc.checked = true)) ∧
  (∀ (s : State),
    s.get R.NFCTAG.STAT_SESSION = 0 ∧ s.get R.NFCRD.STAT_ST = 0 →
    s.nfc.checked = true →
    Completes (.tagFieldOn) s (fun t => t.get R.NFCTAG.STAT_SESSION = 1 ∧ t.get R.NFCTAG.STAT_FIELD = 1 ∧ t.get R.NFCTAG.STAT_SEC = 0 ∧ t.get R.NFCTAG.STAT_ISOST = 0 ∧
      t.mode = (if s.mode = .unpowered then .field else s.mode) ∧
      t.nfc = { s.nfc with locked := false, mam := false, reply := none })) ∧
  (∀ (s : State),
    s.get R.NFCTAG.STAT_SESSION = 1 →
    Completes (.tagFieldOff) s (fun t => t.get R.NFCTAG.STAT_SESSION = 0 ∧ t.get R.NFCTAG.STAT_FIELD = 0 ∧ t.get R.NFCTAG.STAT_SEC = 0 ∧ t.get R.NFCTAG.STAT_ISOST = 3 ∧
      t.mode = (if s.mode = .field then .unpowered else s.mode) ∧
      t.nfc.fram = s.nfc.fram ∧ t.nfc.pwd = s.nfc.pwd ∧ t.nfc.key = s.nfc.key)) ∧
  (∀ (flags afi : Byte) (s : State),
    s.tagHears flags = true →
    s.get R.NFCTAG.STAT_ISOST ≠ 1 →
    flags.getLsbD 5 = true ∧ flags.getLsbD 4 = false ∧ s.nfc.checked = true →
    exec (.tagInventory flags afi 0 0) s =
          .next { s with nfc := { s.nfc with reply := some (0, [0x00, BitVec.ofNat 8 (s.get R.NFCTAG.CFG_DSFID)] ++ leBytes 8 tagUid) } }) ∧
  (∀ (r : TagReq) (s : State),
    s.tagHears r.flags = true ∧ s.nfc.checked = true →
    tagAddressed r = true ∧ tagSelects r = false ∧ r.uid.toNat = tagUid →
    Completes (.tagStayQuiet r) s (fun t => t.get R.NFCTAG.STAT_ISOST = 1 ∧ t.get R.NFCTAG.STAT_SEC = 0 ∧
      t.nfc = { s.nfc with reply := none })) ∧
  (∀ (r : TagReq) (n : Nat) (s : State),
    s.tagHears r.flags = true ∧ s.tagMeant r = true ∧ s.nfc.checked = true →
    n < 256 →
    (n < 1023 ∨ (1024 ≤ n ∧ s.get R.NFCTAG.STAT_SEC = 1)) →
    exec (.tagReadSingle r (BitVec.ofNat 8 n)) s = .next { s with nfc := { s.nfc with reply := some (0, 0x00 :: ((List.range 1).map (n + ·)).flatMap s.tagBlock) } }) ∧
  (∀ (r : TagReq) (n : Nat) (s : State),
    s.tagHears r.flags = true ∧ s.tagMeant r = true ∧ s.nfc.checked = true →
    n < 255 →
    (n < 1023 ∨ (1024 ≤ n ∧ s.get R.NFCTAG.STAT_SEC = 1)) →
    exec (.tagReadMultiple r (BitVec.ofNat 8 n) 1) s = .next { s with nfc := { s.nfc with reply := some (0, 0x00 :: ((List.range 2).map (n + ·)).flatMap s.tagBlock) } }) ∧
  (∀ (r : TagReq) (n : Nat) (s : State),
    s.tagHears r.flags = true ∧ s.tagMeant r = true ∧ s.nfc.checked = true →
    n < 1920 →
    (n < 1023 ∨ (1024 ≤ n ∧ s.get R.NFCTAG.STAT_SEC = 1)) →
    exec (.tagExtReadSingle r (BitVec.ofNat 16 n)) s = .next { s with nfc := { s.nfc with reply := some (0, 0x00 :: ((List.range 1).map (n + ·)).flatMap s.tagBlock) } }) ∧
  (∀ (r : TagReq) (n : Nat) (s : State),
    s.tagHears r.flags = true ∧ s.tagMeant r = true ∧ s.nfc.checked = true →
    n < 1919 →
    (n < 1023 ∨ (1024 ≤ n ∧ s.get R.NFCTAG.STAT_SEC = 1)) →
    exec (.tagExtReadMultiple r (BitVec.ofNat 16 n) 1) s = .next { s with nfc := { s.nfc with reply := some (0, 0x00 :: ((List.range 2).map (n + ·)).flatMap s.tagBlock) } }) ∧
  (∀ (r : TagReq) (n : Nat) (s : State),
    s.tagHears r.flags = true ∧ s.tagMeant r = true ∧ s.nfc.checked = true →
    1024 ≤ n ∧ n < 65536 →
    s.get R.NFCTAG.STAT_SEC = 0 →
    exec (.tagExtReadSingle r (BitVec.ofNat 16 n)) s = .next { s with nfc := { s.nfc with reply := some (0, [0x01, 0x10]) } }) ∧
  (∀ (r : TagReq) (s : State),
    (s.tagHears r.flags = false ∨ s.tagMeant r = false) →
    exec (.tagReadSingle r 3) s = .next { s with nfc := { s.nfc with reply := none } }) ∧
  (∀ (r : TagReq) (s : State),
    (s.tagHears r.flags = false ∨ s.tagMeant r = false) →
    exec (.tagWriteSingle r 3 7 none) s = .next { s with nfc := { s.nfc with reply := none } }) ∧
  (∀ (r : TagReq) (s : State),
    (s.tagHears r.flags = false ∨ s.tagMeant r = false) →
    exec (.tagGetSystemInfo r) s = .next { s with nfc := { s.nfc with reply := none } }) ∧
  (∀ (r : TagReq) (s : State),
    (s.tagHears r.flags = false ∨ s.tagMeant r = false) →
    exec (.tagPresentPwd r 0 none) s = .next { s with nfc := { s.nfc with reply := none } }) ∧
  (∀ (r : TagReq) (n : Nat) (d : Word) (s : State),
    s.tagHears r.flags = true ∧ s.tagMeant r = true ∧ s.nfc.checked = true →
    n < 256 →
    (2 ≤ n ∧ (s.get R.NFCTAG.STAT_SEC = 1 ∨ (n < 1024 ∧ s.get R.NFCTAG.CFG_NDEF_WR = 1))) →
    Completes (.tagWriteSingle r (BitVec.ofNat 8 n) d none) s (fun t => t.nfc.fram = s.nfc.fram.storeList 0 (4 * n) (leBytes 4 d.toNat) ∧
      t.nfc.reply = some (0, [0x00]) ∧ t.nfc.pwd = s.nfc.pwd ∧ t.nfc.marker = false ∧
      Counted s t R.NFCTAG.WRCNT_COUNT ∧
      t.get R.NFCTAG.LASTWR_BLOCK = n % 2 ^ R.NFCTAG.LASTWR_BLOCK.width)) ∧
  (∀ (r : TagReq) (n : Nat) (d : Word) (s : State),
    s.tagHears r.flags = true ∧ s.tagMeant r = true ∧ s.nfc.checked = true →
    n < 1920 →
    (2 ≤ n ∧ (s.get R.NFCTAG.STAT_SEC = 1 ∨ (n < 1024 ∧ s.get R.NFCTAG.CFG_NDEF_WR = 1))) →
    Completes (.tagExtWriteSingle r (BitVec.ofNat 16 n) d none) s (fun t => t.nfc.fram = s.nfc.fram.storeList 0 (4 * n) (leBytes 4 d.toNat) ∧
      t.nfc.reply = some (0, [0x00]) ∧ t.nfc.pwd = s.nfc.pwd ∧ t.nfc.marker = false ∧
      Counted s t R.NFCTAG.WRCNT_COUNT ∧
      t.get R.NFCTAG.LASTWR_BLOCK = n % 2 ^ R.NFCTAG.LASTWR_BLOCK.width)) ∧
  (∀ (r : TagReq) (n : Nat) (d : Word) (s : State),
    s.tagHears r.flags = true ∧ s.tagMeant r = true ∧ s.nfc.checked = true →
    n < 256 →
    (n < 2 ∨ (s.get R.NFCTAG.STAT_SEC = 0 ∧ (1024 ≤ n ∨ s.get R.NFCTAG.CFG_NDEF_WR = 0))) →
    exec (.tagWriteSingle r (BitVec.ofNat 8 n) d none) s = .next { s with nfc := { s.nfc with reply := some (0, [0x01, 0x12]) } }) ∧
  (∀ (r : TagReq) (n : Nat) (d : Word) (s : State),
    s.tagHears r.flags = true ∧ s.tagMeant r = true ∧ s.nfc.checked = true →
    n < 1920 →
    (n < 2 ∨ (s.get R.NFCTAG.STAT_SEC = 0 ∧ (1024 ≤ n ∨ s.get R.NFCTAG.CFG_NDEF_WR = 0))) →
    exec (.tagExtWriteSingle r (BitVec.ofNat 16 n) d none) s = .next { s with nfc := { s.nfc with reply := some (0, [0x01, 0x12]) } }) ∧
  (∀ (r : TagReq) (s : State),
    s.tagHears r.flags = true ∧ s.nfc.checked = true →
    r.uid.toNat = tagUid →
    Completes (.tagSelect r) s (fun t => t.get R.NFCTAG.STAT_ISOST = 2 ∧
      t.nfc = { s.nfc with reply := some (0, [0x00]) })) ∧
  (∀ (r : TagReq) (s : State),
    s.tagHears r.flags = true ∧ s.tagMeant r = true ∧ s.nfc.checked = true →
    Completes (.tagResetToReady r) s (fun t => t.get R.NFCTAG.STAT_ISOST = 0 ∧ t.get R.NFCTAG.STAT_SEC = s.get R.NFCTAG.STAT_SEC ∧
      t.nfc = { s.nfc with reply := some (0, [0x00]) })) ∧
  (∀ (r : TagReq) (s : State),
    s.tagHears r.flags = true ∧ s.tagMeant r = true ∧ s.nfc.checked = true →
    exec (.tagGetSystemInfo r) s = .next { s with nfc := { s.nfc with reply := some (0, [0x00, 0x07] ++ leBytes 8 tagUid ++
          [BitVec.ofNat 8 (s.get R.NFCTAG.CFG_DSFID), BitVec.ofNat 8 (s.get R.NFCTAG.CFG_AFI)] ++ [0xFF, 0x03]) } }) ∧
  (∀ (r : TagReq) (s : State),
    s.tagHears r.flags = true ∧ s.tagMeant r = true ∧ s.nfc.checked = true →
    exec (.tagExtGetSystemInfo r) s = .next { s with nfc := { s.nfc with reply := some (0, [0x00, 0x07] ++ leBytes 8 tagUid ++
          [BitVec.ofNat 8 (s.get R.NFCTAG.CFG_DSFID), BitVec.ofNat 8 (s.get R.NFCTAG.CFG_AFI)] ++ [0x7F, 0x07, 0x03]) } }) ∧
  (∀ (r : TagReq) (s : State),
    s.tagHears r.flags = true ∧ s.tagMeant r = true ∧ s.nfc.checked = true →
    exec (.tagUnsupportedCommand r) s =
          .next { s with nfc := { s.nfc with reply := if tagAddressed r = true ∨ tagSelects r = true then some (0, [0x01, 0x01]) else none } }) ∧
  (∀ (s : State),
    s.get R.NFCTAG.STAT_SESSION = 1 →
    Completes (.tagRequestCrcFailure) s (fun t => t.nfc = { s.nfc with reply := none } ∧
      (s.nfcOn = true → Counted s t R.NFCTAG.CNT_CRCERR))) ∧
  (∀ (r : TagReq) (p : BitVec 64) (s : State),
    s.tagHears r.flags = true ∧ s.tagMeant r = true ∧ s.nfc.checked = true →
    s.get R.NFCTAG.CFG_PWD_EN = 1 →
    s.get R.NFCTAG.STAT_SEC = 0 ∧ s.nfc.locked = false ∧ s.get R.NFCTAG.STAT_FAILCNT ≠ 8 →
    leBytes 8 p.toNat = s.nfc.pwd →
    Completes (.tagPresentPwd r p none) s (fun t => t.get R.NFCTAG.STAT_SEC = 1 ∧ t.get R.NFCTAG.STAT_FAILCNT = 0 ∧
      t.nfc = { s.nfc with mam := false, reply := some (0, [0x00]) })) ∧
  (∀ (r : TagReq) (s : State),
    s.tagHears r.flags = true ∧ s.tagMeant r = true ∧ s.nfc.checked = true →
    s.get R.NFCTAG.CFG_AES_EN = 1 →
    s.get R.NFCTAG.STAT_SEC = 0 ∧ s.nfc.locked = false ∧ s.get R.NFCTAG.STAT_FAILCNT ≠ 8 →
    s.nfc.mam = true →
    Completes (.tagAuthenticateMam2 r true none) s (fun t => t.get R.NFCTAG.STAT_SEC = 1 ∧ t.get R.NFCTAG.STAT_FAILCNT = 0 ∧
      t.nfc = { s.nfc with mam := false, reply := some (0, [0x00]) })) ∧
  (∀ (r : TagReq) (p : BitVec 64) (s : State),
    s.tagHears r.flags = true ∧ s.tagMeant r = true ∧ s.nfc.checked = true →
    s.get R.NFCTAG.CFG_PWD_EN = 1 →
    s.get R.NFCTAG.STAT_SEC = 0 ∧ s.nfc.locked = false ∧ s.get R.NFCTAG.STAT_FAILCNT < 8 →
    leBytes 8 p.toNat ≠ s.nfc.pwd →
    Completes (.tagPresentPwd r p none) s (fun t => t.get R.NFCTAG.STAT_SEC = 0 ∧ t.get R.NFCTAG.STAT_FAILCNT = s.get R.NFCTAG.STAT_FAILCNT + 1 ∧ t.get R.NFCTAG.STAT_LOCKOUT = 1 ∧
      t.nfc = { s.nfc with locked := true, mam := false, reply := some (0, [0x01, 0x0F]) })) ∧
  (∀ (r : TagReq) (b : Bool) (s : State),
    s.tagHears r.flags = true ∧ s.tagMeant r = true ∧ s.nfc.checked = true →
    s.get R.NFCTAG.CFG_AES_EN = 1 →
    s.get R.NFCTAG.STAT_SEC = 0 ∧ s.nfc.locked = false ∧ s.get R.NFCTAG.STAT_FAILCNT < 8 →
    (b = false ∨ s.nfc.mam = false) →
    Completes (.tagAuthenticateMam2 r b none) s (fun t => t.get R.NFCTAG.STAT_SEC = 0 ∧ t.get R.NFCTAG.STAT_FAILCNT = s.get R.NFCTAG.STAT_FAILCNT + 1 ∧ t.get R.NFCTAG.STAT_LOCKOUT = 1 ∧
      t.nfc = { s.nfc with locked := true, mam := false, reply := some (0, [0x01, 0x0F]) })) ∧
  (∀ (r : TagReq) (p : BitVec 64) (cut : Option (Fin 6)) (s : State),
    s.tagHears r.flags = true ∧ s.tagMeant r = true ∧ s.nfc.checked = true →
    s.get R.NFCTAG.CFG_PWD_EN = 1 ∧ s.get R.NFCTAG.STAT_SEC = 0 →
    (s.nfc.locked = true ∨ s.get R.NFCTAG.STAT_FAILCNT = 8) →
    exec (.tagPresentPwd r p cut) s = .next { s with nfc := { s.nfc with reply := some (0, [0x01, 0x0F]) } }) ∧
  (∀ (r : TagReq) (s : State),
    s.tagHears r.flags = true ∧ s.tagMeant r = true ∧ s.nfc.checked = true →
    s.get R.NFCTAG.CFG_AES_EN = 1 ∧ s.nfc.locked = false ∧ s.get R.NFCTAG.STAT_FAILCNT ≠ 8 →
    Completes (.tagAuthenticateMam1 r 0) s (fun t => t.nfc = { s.nfc with mam := true, reply := some (0, 0x00 :: s.freeBytes 16) } ∧
      t.regs = s.regs)) ∧
  (∀ (r : TagReq) (p : BitVec 64) (s : State),
    s.tagHears r.flags = true ∧ s.tagMeant r = true ∧ s.nfc.checked = true →
    s.get R.NFCTAG.STAT_SEC = 1 →
    Completes (.tagWritePwd r p none) s (fun t => t.nfc.pwd = leBytes 8 p.toNat ∧ t.nfc.fram = s.nfc.fram ∧
      t.nfc.reply = some (0, [0x00]) ∧
      Counted s t R.NFCTAG.WRCNT_COUNT)) ∧
  (∀ (s : State),
    s.get R.NFCTAG.STAT_SESSION = 1 →
    Completes (.tagLockoutExpiry) s (fun t => t.nfc = { s.nfc with locked := false } ∧
      t.get R.NFCTAG.STAT_LOCKOUT = (if s.get R.NFCTAG.STAT_FAILCNT = 8 then 1 else 0)))

/-- The owner reads any block and writes those from 2 on; a SECCMD with its key loads the staged password or key or clears FAILCNT and clears the staging, with another key it changes nothing of them; a read of WRCNT clears it; the reader's field comes on over GUARD, an exchange or inventory held in GUARD starts when it has elapsed, and one at READY at once; a response, a time-out, an abort and FIELD_OFF end it with their results; an external field refuses it; N measurements beyond the threshold declare an approach or a release, HOLD_S a recalibration, and E0's hold on NFC ends 10 s after the release. -/
def Obligations.ReaderAndProximity : Prop :=
  (∀ (who : Requester) (s : State),
    Works s who 0x69 0x38 →
    s.nfc.checked = true ∧ 2 ≤ s.get R.NFCTAG.TADDR_BLOCK →
    Completes (.tagOwnerRead who) s (fun t => t.get R.NFCTAG.TDATA_DATA = ofLe (s.nfc.fram.lookList 0 (4 * s.get R.NFCTAG.TADDR_BLOCK) 4) % 2 ^ 32 ∧
      t.nfc = s.nfc)) ∧
  (∀ (who : Requester) (s : State),
    Works s who 0x69 0x38 →
    s.nfc.checked = true ∧ 2 ≤ s.get R.NFCTAG.TADDR_BLOCK →
    Completes (.tagOwnerWrite who none) s (fun t => t.nfc.fram = s.nfc.fram.storeList 0 (4 * s.get R.NFCTAG.TADDR_BLOCK) (leBytes 4 (s.get R.NFCTAG.TDATA_DATA)) ∧
      t.nfc.marker = false ∧ t.nfc.pwd = s.nfc.pwd ∧ t.regs = s.regs)) ∧
  (∀ (who : Requester) (cut : Option (Fin 6)) (s : State),
    Works s who 0x69 0x38 →
    s.nfc.checked = true ∧ s.get R.NFCTAG.TADDR_BLOCK ≤ 1 →
    Completes (.tagOwnerWrite who cut) s (fun t => t.nfc = s.nfc ∧
      t.get (R.HDR.REASON 0x69) = 8)) ∧
  (∀ (who : Requester) (s : State),
    Works s who 0x69 0x3C →
    s.nfc.checked = true ∧ s.get R.NFCTAG.STAT_SEC = 0 →
    Completes (.tagLoadPwd who 0xA55A) s (fun t => t.nfc = { s.nfc with pwd := s.nfc.stagedBytes 0 2, staged := [] } ∧
      t.get R.NFCTAG.STAT_FAILCNT = s.get R.NFCTAG.STAT_FAILCNT)) ∧
  (∀ (who : Requester) (s : State),
    Works s who 0x69 0x3C →
    s.nfc.checked = true ∧ s.get R.NFCTAG.STAT_SEC = 0 →
    Completes (.tagLoadKey who 0xA55A) s (fun t => t.nfc = { s.nfc with key := s.nfc.stagedBytes 2 4, staged := [] } ∧
      t.get R.NFCTAG.STAT_FAILCNT = s.get R.NFCTAG.STAT_FAILCNT)) ∧
  (∀ (who : Requester) (s : State),
    Works s who 0x69 0x3C →
    s.nfc.checked = true ∧ s.get R.NFCTAG.STAT_SEC = 0 →
    Completes (.tagClrFail who 0xA55A) s (fun t => t.nfc = { s.nfc with staged := [] } ∧
      t.get R.NFCTAG.STAT_FAILCNT = 0)) ∧
  (∀ (who : Requester) (key : Half) (s : State),
    Works s who 0x69 0x3C →
    s.nfc.checked = true ∧ key ≠ 0xA55A →
    Completes (.tagLoadPwd who key) s (fun t => t.nfc = { s.nfc with staged := [] } ∧ t.get R.NFCTAG.STAT_FAILCNT = s.get R.NFCTAG.STAT_FAILCNT ∧
      t.get (R.HDR.REASON 0x69) = 0x41)) ∧
  (∀ (who : Requester) (key : Half) (s : State),
    Works s who 0x69 0x3C →
    s.nfc.checked = true ∧ key ≠ 0xA55A →
    Completes (.tagLoadKey who key) s (fun t => t.nfc = { s.nfc with staged := [] } ∧ t.get R.NFCTAG.STAT_FAILCNT = s.get R.NFCTAG.STAT_FAILCNT ∧
      t.get (R.HDR.REASON 0x69) = 0x41)) ∧
  (∀ (who : Requester) (key : Half) (s : State),
    Works s who 0x69 0x3C →
    s.nfc.checked = true ∧ key ≠ 0xA55A →
    Completes (.tagClrFail who key) s (fun t => t.nfc = { s.nfc with staged := [] } ∧ t.get R.NFCTAG.STAT_FAILCNT = s.get R.NFCTAG.STAT_FAILCNT ∧
      t.get (R.HDR.REASON 0x69) = 0x41)) ∧
  (∀ (who : Requester) (s : State),
    Reaches s who 0x69 0x5C false →
    s.nfc.checked = true →
    Completes (.tagWrcntRead who) s (fun t => t.lastRead = s.get R.NFCTAG.WRCNT_COUNT ∧ t.get R.NFCTAG.WRCNT_COUNT = 0 ∧
      t.nfc = s.nfc)) ∧
  (∀ (who : Requester) (s : State),
    Works s who 0x68 0x24 →
    s.get R.PWR.SUPPLY_BROWNOUT = 0 ∧ s.get R.NFCTAG.STAT_SESSION = 0 ∧ s.get R.NFCRD.STAT_ST = 0 →
    Completes (.readerFieldOn who false) s (fun t => t.get R.NFCRD.STAT_ST = 1 ∧ t.get R.NFCRD.STAT_EXTFIELD = 0 ∧
      t.nfc = { s.nfc with op := 0 })) ∧
  (∀ (who : Requester) (s : State),
    Works s who 0x68 0x24 →
    s.get R.PWR.SUPPLY_BROWNOUT = 0 ∧ s.get R.NFCTAG.STAT_SESSION = 0 →
    s.get R.NFCRD.STAT_ST = 0 →
    Completes (.readerFieldOn who true) s (fun t => t.get R.NFCRD.STAT_ST = 0 ∧ t.get R.NFCRD.STAT_EXTFIELD = 1 ∧
      t.get (R.HDR.REASON 0x68) = 0x41 ∧ t.nfc = s.nfc ∧
      Counted s t R.NFCRD.CNT_EXTF)) ∧
  (∀ (who : Requester) (s : State),
    Works s who 0x68 0x24 →
    s.get R.PWR.SUPPLY_BROWNOUT = 0 ∧ s.get R.NFCTAG.STAT_SESSION = 0 →
    s.get R.NFCRD.STAT_ST = 0 ∧ 1 ≤ s.get R.NFCRD.TXLEN_LEN ∧ s.get R.NFCRD.TXLEN_LEN ≤ 64 →
    Completes (.readerXfer who true) s (fun t => t.get R.NFCRD.STAT_ST = 0 ∧ t.get R.NFCRD.STAT_EXTFIELD = 1 ∧
      t.get (R.HDR.REASON 0x68) = 0x41 ∧ t.nfc = s.nfc ∧
      Counted s t R.NFCRD.CNT_EXTF)) ∧
  (∀ (who : Requester) (s : State),
    Works s who 0x68 0x24 →
    s.get R.PWR.SUPPLY_BROWNOUT = 0 ∧ s.get R.NFCTAG.STAT_SESSION = 0 →
    s.get R.NFCRD.STAT_ST = 0 ∧ invRoom (s.get R.NFCRD.INV_ADDR) (s.get R.NFCRD.INVCFG_MAX) = true →
    Completes (.readerInventory who true) s (fun t => t.get R.NFCRD.STAT_ST = 0 ∧ t.get R.NFCRD.STAT_EXTFIELD = 1 ∧
      t.get (R.HDR.REASON 0x68) = 0x41 ∧ t.nfc = s.nfc ∧
      Counted s t R.NFCRD.CNT_EXTF)) ∧
  (∀ (who : Requester) (s : State),
    Works s who 0x68 0x24 →
    s.get R.PWR.SUPPLY_BROWNOUT = 0 ∧ s.get R.NFCTAG.STAT_SESSION = 0 →
    1 ≤ s.get R.NFCRD.TXLEN_LEN ∧ s.get R.NFCRD.TXLEN_LEN ≤ 64 →
    s.get R.NFCRD.STAT_ST < 3 →
    Completes (.readerXfer who false) s (fun t => t.nfc = { s.nfc with op := 3 } ∧
      t.get R.NFCRD.STAT_ST = (if s.get R.NFCRD.STAT_ST = 2 then 3 else 1))) ∧
  (∀ (who : Requester) (s : State),
    Works s who 0x68 0x24 →
    s.get R.PWR.SUPPLY_BROWNOUT = 0 ∧ s.get R.NFCTAG.STAT_SESSION = 0 →
    invRoom (s.get R.NFCRD.INV_ADDR) (s.get R.NFCRD.INVCFG_MAX) = true →
    s.get R.NFCRD.STAT_ST < 3 →
    Completes (.readerInventory who false) s (fun t => t.nfc = { s.nfc with op := 4 } ∧
      t.get R.NFCRD.STAT_ST = (if s.get R.NFCRD.STAT_ST = 2 then 3 else 1))) ∧
  (∀ (who : Requester) (s : State),
    Works s who 0x68 0x24 →
    s.get R.PWR.SUPPLY_BROWNOUT = 0 ∧ s.get R.NFCTAG.STAT_SESSION = 0 ∧ s.get R.NFCRD.STAT_ST = 3 →
    Completes (.readerFieldOff who) s (fun t => t.get R.NFCRD.STAT_ST = 0 ∧ t.get R.NFCRD.XRES_RESULT = 6 ∧ t.get R.NFCRD.XRES_RXLEN = 0 ∧
      t.nfc = { s.nfc with op := 0 })) ∧
  (∀ (who : Requester) (s : State),
    Works s who 0x68 0x24 →
    s.get R.PWR.SUPPLY_BROWNOUT = 0 ∧ s.get R.NFCTAG.STAT_SESSION = 0 ∧ s.get R.NFCRD.STAT_ST = 3 →
    Completes (.readerAbort who) s (fun t => t.get R.NFCRD.STAT_ST = 2 ∧ t.get R.NFCRD.XRES_RESULT = 6 ∧ t.get R.NFCRD.XRES_RXLEN = 0 ∧
      t.nfc = { s.nfc with op := 0 })) ∧
  (∀ (s : State),
    s.get R.NFCRD.STAT_ST = 1 →
    Completes (.readerGuardElapsed) s (fun t => t.get R.NFCRD.STAT_ST = (if s.nfc.op = 0 then 2 else 3) ∧
      t.nfc = s.nfc)) ∧
  (∀ (b0 b1 b2 b3 : Byte) (s : State),
    s.get R.NFCRD.STAT_ST = 3 ∧ s.nfc.op = 3 →
    Completes (.readerExchangeEnd (.response [b0, b1, b2, b3])) s (fun t => t.get R.NFCRD.XRES_RESULT = 0 ∧ t.get R.NFCRD.XRES_RXLEN = 4 ∧ t.get R.NFCRD.STAT_ST = 2 ∧
      t.get (R.NFCRD.BUF_DATA 0) = ofLe [b0, b1, b2, b3] ∧
      t.get R.NFCRD.XRES_ERRFLAG = (b0.getLsbD 0).toNat ∧
      (∀ k : Fin 16, k.val ≠ 0 → t.get (R.NFCRD.BUF_DATA k) = s.get (R.NFCRD.BUF_DATA k)))) ∧
  (∀ (s : State),
    s.get R.NFCRD.STAT_ST = 3 ∧ s.nfc.op = 3 →
    Completes (.readerExchangeEnd .crcError) s (fun t => t.get R.NFCRD.XRES_RESULT = 2 ∧ t.get R.NFCRD.XRES_RXLEN = 0 ∧ t.get R.NFCRD.STAT_ST = 2 ∧
      Counted s t R.NFCRD.CNT_CRCERR)) ∧
  (∀ (s : State),
    s.get R.NFCRD.STAT_ST = 3 ∧ s.nfc.op = 3 →
    Completes (.readerExchangeEnd .collision) s (fun t => t.get R.NFCRD.XRES_RESULT = 3 ∧ t.get R.NFCRD.XRES_RXLEN = 0 ∧ t.get R.NFCRD.STAT_ST = 2 ∧
      Counted s t R.NFCRD.CNT_COLL)) ∧
  (∀ (s : State),
    s.get R.NFCRD.STAT_ST = 3 ∧ s.nfc.op = 3 →
    Completes (.readerResponseTimeout) s (fun t => t.get R.NFCRD.XRES_RESULT = 1 ∧ t.get R.NFCRD.XRES_RXLEN = 0 ∧ t.get R.NFCRD.STAT_ST = 2 ∧
      Counted s t R.NFCRD.CNT_TIMEOUT)) ∧
  (∀ (s : State),
    s.get R.NFCRD.STAT_ST = 3 ∧ s.nfc.op = 4 →
    Completes (.readerExchangeEnd (.rounds [List.replicate 16 .empty])) s (fun t => t.get R.NFCRD.INVRES_FOUND = 0 ∧ t.get R.NFCRD.STAT_ST = 2 ∧
      t.mem = s.mem)) ∧
  (∀ (s : State),
    (s.get R.NFCRD.STAT_ST = 1 ∨ s.get R.NFCRD.STAT_ST = 2) →
    Completes (.readerIdleTimeout) s (fun t => t.get R.NFCRD.STAT_ST = 0 ∧
      t.nfc = { s.nfc with op := 0 })) ∧
  (∀ (c : Half) (s : State),
    s.get R.CSENSE.CFG_METHOD = 1 ∧ s.mode ≠ .field ∧ s.mode ≠ .unpowered →
    s.get R.CSENSE.STAT_NEAR = 0 ∧ s.nfc.base / 256 + s.get R.CSENSE.THR_DELTA ≤ c.toNat →
    s.nfc.run + 1 = s.get R.CSENSE.CFG_N →
    Completes (.csenseSample c) s (fun t => t.get R.CSENSE.STAT_NEAR = 1 ∧ t.get R.CSENSE.COUNT_RAW = c.toNat ∧
      Counted s t R.CSENSE.CNT_APPROACH ∧
      t.nfc.base = s.nfc.base + c.toNat - s.nfc.base / 256)) ∧
  (∀ (c : Half) (s : State),
    s.get R.CSENSE.CFG_METHOD = 1 ∧ s.mode ≠ .field ∧ s.mode ≠ .unpowered →
    s.get R.CSENSE.STAT_NEAR = 0 ∧ c.toNat < s.nfc.base / 256 + s.get R.CSENSE.THR_DELTA →
    Completes (.csenseSample c) s (fun t => t.get R.CSENSE.STAT_NEAR = 0 ∧ t.nfc.run = 0 ∧
      t.nfc.base = s.nfc.base + c.toNat - s.nfc.base / 256 ∧
      t.get R.CSENSE.COUNT_BASE = t.nfc.base / 256 % 2 ^ R.CSENSE.COUNT_BASE.width)) ∧
  (∀ (c : Half) (s : State),
    s.get R.CSENSE.CFG_METHOD = 2 ∧ s.doms.auto.any (Nat.beq 22) = true →
    s.get R.NFCTAG.STAT_FIELD = 0 ∧ s.get R.NFCRD.STAT_ST = 0 ∧ s.get R.PWR.SUPPLY_BROWNOUT = 0 →
    s.get R.CSENSE.STAT_NEAR = 0 ∧ s.get R.CSENSE.THR_PINGDB ≤ c.toNat ∧ s.nfc.run + 1 = s.get R.CSENSE.CFG_N →
    Completes (.csensePing c false) s (fun t => t.get R.CSENSE.STAT_NEAR = 1 ∧
      Counted s t R.CSENSE.CNT_APPROACH)) ∧
  (∀ (s : State),
    s.get R.CSENSE.STAT_NEAR = 1 →
    Completes (.csenseHoldExpiry) s (fun t => t.get R.CSENSE.STAT_NEAR = 0 ∧ t.get R.CSENSE.STAT_RECAL = 1 ∧
      t.nfc.base = 256 * s.get R.CSENSE.COUNT_RAW ∧
      Counted s t R.CSENSE.CNT_RECAL)) ∧
  (∀ (s : State),
    s.nfc.held = true ∧ s.get R.CSENSE.STAT_NEAR = 0 →
    s.mode = .service ∧ s.get R.PWR.HOSTREQ_NFC = 0 →
    Completes (.nfcHoldExpiry) s (fun t => t.nfc = { s.nfc with held := false } ∧
      t.doms.auto.any (Nat.beq 22) = true ∧
      t.regs = s.regs))

/-- For every command c and state s, step of s with c put at the front of its queue is exec of c on s with the queue as it was; on an empty queue the block idles over one LF edge, which changes nothing while the timers are not stitched and no sample run goes on (log entry 5: the model's choice). -/
def Obligations.StepTakesTheFront : Prop :=
  (∀ (c : Instr) (s : State),
    step { s with pending := c :: s.pending } = exec c s) ∧
  (∀ (s : State),
    s.pending = [] →
    step s = .next s.lfEdge) ∧
  (∀ (s : State),
    s.pending = [] →
    s.bit R.CLK.STAT_STITCHING = false →
    (∀ n < 8, s.doms.asqLeft.look n = 0) →
    step s = .next s)

/-- After reset the mode is BOOT with RESET_CAUSE.POR set, every field of the register tables holds its Reset value, every mapped page has IRQ_MASK of ones, LOCK 0 and no interrupt pending, and the field table, shared SRAM and the flash array are in their canonical form. That the shared SRAM and the queue are empty and the engines hold nothing is the model's choice (log entries 3 and 5). -/
def Obligations.ResetState : Prop :=
  (State.reset.mode = .boot ∧ State.reset.get R.SYS.RESET_CAUSE_POR = 1 ∧
    Canonical State.reset = true ∧
    State.reset.mem = [] ∧ State.reset.pending = []) ∧
  (∀ (p : Nat) (r : Row),
    p ∈ mappedPages ∧ r ∈ pageRows p →
    State.reset.get r.fld = r.rst) ∧
  (∀ (p b : Nat),
    p ∈ mappedPages ∧ winPage p = false ∧ b < 32 →
    State.reset.get (R.HDR.LOCK p) = 0 ∧ State.reset.get (R.HDR.IRQ p b) = 0)

/-- A host's write to a reserved page records UNMAPPED, to a page that is not its own NOT_OWNER, to a SECURE page SECURE_DENY, outside SYS in BOOT BOOTING, each in HOSTIF.LASTREF with the address and WR set, counted, with nothing stored anywhere; an engine's is recorded on its own ENG page; a write to a mains-side page with mains absent or the bridge silent records DOMAIN_OFF, its address in PWR.ERRINFO and OFFACC; in HOLD, FIELD and without power an access changes nothing; SOFTRST of a locked page records LOCKED and changes nothing else; a write to CTL leaves LOCK set and EN as it was. -/
def Obligations.RefusedAccesses : Prop :=
  (∀ (page off : Byte) (value : Word) (s : State),
    s.alive ∧ s.mode ≠ .boot →
    mapped page.toNat = false ∧ winPage page.toNat = false →
    Completes (.registerWrite 12 page off value) s (fun t => t.get R.HOSTIF.LASTREF_REASON = 0x0E ∧ t.get R.HOSTIF.LASTREF_ADDR = page.toNat * 256 + off.toNat / 4 * 4 ∧ t.get R.HOSTIF.LASTREF_WR = 1 ∧
      Counted s t R.HOSTIF.REFCNT_COUNT ∧ t.spi.err = true ∧
      t.mem = s.mem ∧ t.flash = s.flash ∧ t.garnet = s.garnet ∧ t.ret = s.ret ∧ t.mode = s.mode)) ∧
  (∀ (page off : Byte) (value : Word) (s : State),
    s.alive ∧ s.mode ≠ .boot →
    mapped page.toNat ∧ winPage page.toNat = false →
    s.secureAt page.toNat (off.toNat / 4 * 4) = false ∧ s.ownerOf page.toNat (off.toNat / 4 * 4) ≠ 12 →
    openRegister page.toNat (off.toNat / 4 * 4) = false ∧ faultHostWrite page.toNat (off.toNat / 4 * 4) = false ∧ page ≠ 0x58 →
    Completes (.registerWrite 12 page off value) s (fun t => t.get R.HOSTIF.LASTREF_REASON = 0x01 ∧ t.get R.HOSTIF.LASTREF_ADDR = page.toNat * 256 + off.toNat / 4 * 4 ∧ t.get R.HOSTIF.LASTREF_WR = 1 ∧
      Counted s t R.HOSTIF.REFCNT_COUNT ∧ t.spi.err = true ∧
      t.mem = s.mem ∧ t.flash = s.flash ∧ t.garnet = s.garnet ∧ t.ret = s.ret ∧ t.mode = s.mode)) ∧
  (∀ (page off : Byte) (value : Word) (s : State),
    s.alive ∧ s.mode ≠ .boot →
    mapped page.toNat ∧ winPage page.toNat = false →
    s.secureAt page.toNat (off.toNat / 4 * 4) ∧ s.ownerOf page.toNat (off.toNat / 4 * 4) ≠ 12 →
    openRegister page.toNat (off.toNat / 4 * 4) = false →
    Completes (.registerWrite 12 page off value) s (fun t => t.get R.HOSTIF.LASTREF_REASON = 0x02 ∧ t.get R.HOSTIF.LASTREF_ADDR = page.toNat * 256 + off.toNat / 4 * 4 ∧ t.get R.HOSTIF.LASTREF_WR = 1 ∧
      t.mem = s.mem ∧ t.flash = s.flash ∧ t.garnet = s.garnet ∧ t.ret = s.ret ∧ t.mode = s.mode)) ∧
  (∀ (page off : Byte) (value : Word) (s : State),
    s.alive ∧ s.mode = .boot →
    page ≠ 0 ∧ winPage page.toNat = false →
    Completes (.registerWrite 12 page off value) s (fun t => t.get R.HOSTIF.LASTREF_REASON = 0x04 ∧ t.get R.HOSTIF.LASTREF_ADDR = page.toNat * 256 + off.toNat / 4 * 4 ∧ t.get R.HOSTIF.LASTREF_WR = 1 ∧
      t.mem = s.mem ∧ t.flash = s.flash ∧ t.garnet = s.garnet ∧ t.ret = s.ret ∧ t.mode = s.mode)) ∧
  (∀ (who : Requester) (page off : Byte) (value : Word) (s : State),
    s.alive ∧ who ≠ 12 →
    mapped page.toNat = false ∧ winPage page.toNat = false →
    Completes (.registerWrite who page off value) s (fun t => t.get (R.ENG.LASTREF_REASON who) = 0x0E ∧ t.get (R.ENG.LASTREF_ADDR who) = page.toNat * 256 + off.toNat / 4 * 4 ∧ t.get (R.ENG.LASTREF_WR who) = 1 ∧
      Counted s t (R.ENG.REFCNT_COUNT who) ∧
      t.mem = s.mem ∧ t.flash = s.flash ∧ t.garnet = s.garnet ∧ t.ret = s.ret ∧ t.spi = s.spi)) ∧
  (∀ (off : Byte) (value : Word) (s : State),
    s.alive ∧ s.mode ≠ .boot →
    s.ownerOf 0x60 (off.toNat / 4 * 4) = 12 →
    (s.get R.PWR.SUPPLY_MAINS = 0 ∨ s.bridge.silent = true) →
    Completes (.registerWrite 12 0x60 off value) s (fun t => t.get R.HOSTIF.LASTREF_REASON = 0x06 ∧ t.get R.HOSTIF.LASTREF_ADDR = 0x6000 + off.toNat / 4 * 4 ∧
      t.get (R.HDR.ERRINFO 0x02) = 0x40006000 + off.toNat / 4 * 4 ∧ t.get (R.HDR.IRQ 0x02 0) = 1 ∧
      t.mem = s.mem ∧ t.lamp = s.lamp ∧ t.bridge = s.bridge)) ∧
  (∀ (who : Requester) (page off : Byte) (value : Word) (s : State),
    (s.mode = .hold ∨ s.mode = .field ∨ s.mode = .unpowered) →
    exec (.registerWrite who page off value) s = .next s) ∧
  (∀ (who : Requester) (page : Byte) (s : State),
    Writes s who page.toNat 0x04 →
    alwaysOn page.toNat = false ∧ s.get (R.HDR.LOCK page.toNat) = 1 →
    Completes (.pageSoftrst who page) s (fun t => t = (s.set (R.HDR.REASON page.toNat) 0x03).set (R.HDR.ERRINFO page.toNat) 0x04)) ∧
  (∀ (who : Requester) (page : Byte) (value : Word) (s : State),
    Writes s who page.toNat 0x04 ∧ hasReg page.toNat 0x04 →
    winPage page.toNat = false ∧ engPage page.toNat = false ∧ alwaysOn page.toNat = false →
    s.get (R.HDR.LOCK page.toNat) = 1 ∧ s.get (R.HDR.ST page.toNat) = 2 →
    Completes (.registerWrite who page 0x04 value) s (fun t => t.get (R.HDR.LOCK page.toNat) = 1 ∧ t.get (R.HDR.EN page.toNat) = s.get (R.HDR.EN page.toNat) ∧ t.get (R.HDR.ST page.toNat) = 2 ∧
      t.mem = s.mem ∧ t.pending = s.pending))

/-- For every command c with any operands and every state s, exec of c on s answers a next state, with no hypothesis: neither a fault nor a refusal of the model ends it, and what an access or a condition turns away is turned away as the spec says, in a next state. The queue of that state is the queue of s: commands come from outside only, whatever module reset, power loss or boot they bring about. -/
def Obligations.QueueKept : Prop :=
  ∀ (c : Instr) (s : State),
    ∃ t, exec c s = .next t ∧ t.pending = s.pending

/-- From every state whose field table, shared SRAM and flash array are in canonical form (addresses strictly rising, nothing listed that reads as the unlisted value), a step answers a next state, one whose field table, shared SRAM and flash array are in canonical form: equal contents stay equal data. Reset memory has the form (ResetState). -/
def Obligations.CanonicalKept : Prop :=
  ∀ (s : State),
    Canonical s = true →
    ∃ t, step s = .next t ∧ Canonical t = true
end

