-- ==== Sys2Proof/Laws/Bool.lean ====
section
/-!
SUPPORT. The Boolean comparisons of the model as propositions: rewrite with these and a `bif` becomes an `if`.
-/

namespace Sys2Proof.Machine

theorem natBeq (a b : Nat) : Nat.beq a b = decide (a = b) := by
  by_cases h : a = b
  · subst h; simp
  · have : Nat.beq a b ≠ true := fun e => h (Nat.eq_of_beq_eq_true e)
    simp [h, this]

theorem natBle (a b : Nat) : Nat.ble a b = decide (a ≤ b) := by
  by_cases h : a ≤ b
  · simp [h]
  · have : Nat.ble a b ≠ true := fun e => h (Nat.le_of_ble_eq_true e)
    simp [h, this]

theorem natBlt (a b : Nat) : Nat.blt a b = decide (a < b) := by
  rw [Nat.blt, natBle]; rfl

theorem bifIte {α : Sort _} (p : Prop) [Decidable p] (x y : α) : (bif decide p then x else y) = if p then x else y := by
  by_cases h : p <;> simp [h]

end Sys2Proof.Machine
end

