-- ==== Sys2Proof/Laws/Regs.lean ====
section
/-!
SUPPORT. The field table: reading after writing, and its canonical form.
-/

namespace Sys2Proof.Machine

/-! ### Reading after writing -/

theorem Regs.look_list (r : Regs) (a v b : Nat) : (Regs.list a v r).look b = if a = b then v else r.look b := by
  induction r with
  | nil => simp only [Regs.list, Regs.look, natBeq, bifIte]
  | cons c r ih =>
    obtain ⟨k, w⟩ := c
    simp only [Regs.list, natBlt, natBeq, bifIte]
    by_cases h1 : a < k
    · simp only [h1, if_true, Regs.look, natBeq, bifIte]
    · by_cases h3 : k = a
      · subst h3
        simp only [h1, if_false, if_true, Regs.look, natBeq, bifIte]
        by_cases h2 : k = b <;> simp [h2]
      · simp only [h1, h3, if_false, Regs.look, ih, natBeq, bifIte]
        by_cases h4 : k = b
        · subst h4; simp [Ne.symm h3]
        · simp [h4]

theorem Regs.look_drop (r : Regs) (a b : Nat) :
    Regs.look (r.filter (fun kv => !Nat.beq kv.1 a)) b = if a = b then 0 else r.look b := by
  induction r with
  | nil => simp [Regs.look]
  | cons c r ih =>
    obtain ⟨k, w⟩ := c
    by_cases h3 : k = a
    · subst h3
      simp only [List.filter, Nat.beq_refl, Bool.not_true]
      rw [ih]; simp only [Regs.look, natBeq, bifIte]
      by_cases h2 : k = b <;> simp [h2]
    · have h3' : Nat.beq k a = false := by rw [natBeq]; simp [h3]
      simp only [List.filter, h3', Bool.not_false, Regs.look]
      rw [ih]; simp only [natBeq, bifIte]
      by_cases h4 : k = b
      · subst h4; simp [Ne.symm h3]
      · simp [h4]

/-- A field table after one field is given a value: that field reads it, every other field reads as before. -/
theorem Regs.look_put (r : Regs) (a v b : Nat) : (r.put a v).look b = if a = b then v else r.look b := by
  simp only [Regs.put, natBeq, bifIte]
  by_cases h : v = 0
  · subst h; simp only [if_true]; simpa only [natBeq] using Regs.look_drop r a b
  · simp only [h, if_false]; exact Regs.look_list r a v b

/-- A field after a write to a field. -/
theorem State.get_set (s : State) (f g : Fld) (v : Nat) :
    (s.set f v).get g = if f.key = g.key then v % 2 ^ f.width else s.get g := Regs.look_put _ _ _ _

@[simp] theorem State.get_set_self (s : State) (f : Fld) (v : Nat) : (s.set f v).get f = v % 2 ^ f.width := by
  simp [State.get_set]

theorem State.get_set_ne (s : State) (f g : Fld) (v : Nat) (h : f.key ≠ g.key) : (s.set f v).get g = s.get g := by
  simp [State.get_set, h]

/-- Several writes that all miss a field. -/
theorem State.get_setAll_ne (s : State) (l : List (Fld × Nat)) (g : Fld) (h : ∀ x ∈ l, x.1.key ≠ g.key) :
    (s.setAll l).get g = s.get g := by
  induction l generalizing s with
  | nil => rfl
  | cons c l ih =>
    obtain ⟨f, v⟩ := c
    rw [State.setAll, ih _ (fun x hx => h x (List.mem_cons_of_mem _ hx))]
    exact State.get_set_ne s f g v (h (f, v) (List.mem_cons_self ..))

/-! ### The canonical form -/

theorem Regs.wfFrom_mono (r : Regs) {a b : Nat} (h : a ≤ b) (w : Regs.wfFrom b r = true) : Regs.wfFrom a r = true := by
  cases r with
  | nil => rfl
  | cons c r =>
    obtain ⟨k, v⟩ := c
    simp only [Regs.wfFrom, Bool.and_eq_true, Nat.ble_eq] at w ⊢
    exact ⟨⟨by omega, w.1.2⟩, w.2⟩

theorem Regs.wf_list (r : Regs) (lo a v : Nat) (hv : v ≠ 0) (ha : lo ≤ a) (w : Regs.wfFrom lo r = true) :
    Regs.wfFrom lo (Regs.list a v r) = true := by
  induction r generalizing lo with
  | nil => simp [Regs.list, Regs.wfFrom, ha, hv, natBeq]
  | cons c r ih =>
    obtain ⟨k, x⟩ := c
    simp only [Regs.wfFrom, Bool.and_eq_true, Nat.ble_eq, natBeq, Bool.not_eq_true', decide_eq_false_iff_not] at w
    obtain ⟨⟨w1, w2⟩, w3⟩ := w
    simp only [Regs.list, natBlt, natBeq, bifIte]
    by_cases h1 : a < k
    · simp only [h1, if_true, Regs.wfFrom, Bool.and_eq_true, Nat.ble_eq, natBeq, Bool.not_eq_true', decide_eq_false_iff_not]
      exact ⟨⟨ha, hv⟩, ⟨by omega, w2⟩, w3⟩
    · by_cases h3 : k = a
      · subst h3
        simp only [h1, if_false, if_true, Regs.wfFrom, Bool.and_eq_true, Nat.ble_eq, natBeq, Bool.not_eq_true', decide_eq_false_iff_not]
        exact ⟨⟨ha, hv⟩, w3⟩
      · simp only [h1, h3, if_false, Regs.wfFrom, Bool.and_eq_true, Nat.ble_eq, natBeq, Bool.not_eq_true', decide_eq_false_iff_not]
        exact ⟨⟨w1, w2⟩, ih (k + 1) (by omega) w3⟩

theorem Regs.wf_filter (r : Regs) (p : Nat × Nat → Bool) (lo : Nat) (w : Regs.wfFrom lo r = true) :
    Regs.wfFrom lo (r.filter p) = true := by
  induction r generalizing lo with
  | nil => rfl
  | cons c r ih =>
    obtain ⟨k, x⟩ := c
    simp only [Regs.wfFrom, Bool.and_eq_true, Nat.ble_eq] at w
    obtain ⟨⟨w1, w2⟩, w3⟩ := w
    cases hp : p (k, x) with
    | true =>
      simp only [List.filter, hp, Regs.wfFrom, Bool.and_eq_true, Nat.ble_eq]
      exact ⟨⟨w1, w2⟩, ih _ w3⟩
    | false =>
      simp only [List.filter, hp]
      exact Regs.wfFrom_mono _ (by omega) (ih _ w3)

/-- A write keeps the canonical form of the field table. -/
theorem Regs.wf_put (r : Regs) (a v : Nat) (w : r.wf = true) : (r.put a v).wf = true := by
  simp only [Regs.put, natBeq, bifIte]
  by_cases h : v = 0
  · simp only [h, if_true]; exact Regs.wf_filter r _ 0 w
  · simp only [h, if_false]; exact Regs.wf_list r 0 a v h (Nat.zero_le _) w

/-- A write of a field keeps it. -/
theorem State.wf_set (s : State) (f : Fld) (v : Nat) (w : s.regs.wf = true) : (s.set f v).regs.wf = true := Regs.wf_put _ _ _ w

end Sys2Proof.Machine
end

