-- ==== Sys2Proof/Laws/State.lean ====
section
/-!
SUPPORT. One lemma per field of State per shared update, so that no proof unfolds a record update.
-/

namespace Sys2Proof.Machine

/-! ### set -/

@[simp] theorem State.set_mode (s : State) (f : Fld) (v : Nat) : (s.set f v).mode = s.mode := rfl
@[simp] theorem State.set_modes (s : State) (f : Fld) (v : Nat) : (s.set f v).modes = s.modes := rfl
@[simp] theorem State.set_bridge (s : State) (f : Fld) (v : Nat) : (s.set f v).bridge = s.bridge := rfl
@[simp] theorem State.set_supply (s : State) (f : Fld) (v : Nat) : (s.set f v).supply = s.supply := rfl
@[simp] theorem State.set_ret (s : State) (f : Fld) (v : Nat) : (s.set f v).ret = s.ret := rfl
@[simp] theorem State.set_doms (s : State) (f : Fld) (v : Nat) : (s.set f v).doms = s.doms := rfl
@[simp] theorem State.set_spi (s : State) (f : Fld) (v : Nat) : (s.set f v).spi = s.spi := rfl
@[simp] theorem State.set_compat (s : State) (f : Fld) (v : Nat) : (s.set f v).compat = s.compat := rfl
@[simp] theorem State.set_engines (s : State) (f : Fld) (v : Nat) : (s.set f v).engines = s.engines := rfl
@[simp] theorem State.set_cluster (s : State) (f : Fld) (v : Nat) : (s.set f v).cluster = s.cluster := rfl
@[simp] theorem State.set_fabric (s : State) (f : Fld) (v : Nat) : (s.set f v).fabric = s.fabric := rfl
@[simp] theorem State.set_rtc (s : State) (f : Fld) (v : Nat) : (s.set f v).rtc = s.rtc := rfl
@[simp] theorem State.set_dma (s : State) (f : Fld) (v : Nat) : (s.set f v).dma = s.dma := rfl
@[simp] theorem State.set_flash (s : State) (f : Fld) (v : Nat) : (s.set f v).flash = s.flash := rfl
@[simp] theorem State.set_garnet (s : State) (f : Fld) (v : Nat) : (s.set f v).garnet = s.garnet := rfl
@[simp] theorem State.set_update (s : State) (f : Fld) (v : Nat) : (s.set f v).update = s.update := rfl
@[simp] theorem State.set_strata (s : State) (f : Fld) (v : Nat) : (s.set f v).strata = s.strata := rfl
@[simp] theorem State.set_mem (s : State) (f : Fld) (v : Nat) : (s.set f v).mem = s.mem := rfl
@[simp] theorem State.set_radio (s : State) (f : Fld) (v : Nat) : (s.set f v).radio = s.radio := rfl
@[simp] theorem State.set_plc (s : State) (f : Fld) (v : Nat) : (s.set f v).plc = s.plc := rfl
@[simp] theorem State.set_sched (s : State) (f : Fld) (v : Nat) : (s.set f v).sched = s.sched := rfl
@[simp] theorem State.set_mesh (s : State) (f : Fld) (v : Nat) : (s.set f v).mesh = s.mesh := rfl
@[simp] theorem State.set_assoc (s : State) (f : Fld) (v : Nat) : (s.set f v).assoc = s.assoc := rfl
@[simp] theorem State.set_msg (s : State) (f : Fld) (v : Nat) : (s.set f v).msg = s.msg := rfl
@[simp] theorem State.set_pair (s : State) (f : Fld) (v : Nat) : (s.set f v).pair = s.pair := rfl
@[simp] theorem State.set_keys (s : State) (f : Fld) (v : Nat) : (s.set f v).keys = s.keys := rfl
@[simp] theorem State.set_lastRead (s : State) (f : Fld) (v : Nat) : (s.set f v).lastRead = s.lastRead := rfl
@[simp] theorem State.set_lamp (s : State) (f : Fld) (v : Nat) : (s.set f v).lamp = s.lamp := rfl
@[simp] theorem State.set_nfc (s : State) (f : Fld) (v : Nat) : (s.set f v).nfc = s.nfc := rfl
@[simp] theorem State.set_freeCount (s : State) (f : Fld) (v : Nat) : (s.set f v).freeCount = s.freeCount := rfl
@[simp] theorem State.set_pending (s : State) (f : Fld) (v : Nat) : (s.set f v).pending = s.pending := rfl

/-! ### setBit -/

@[simp] theorem State.setBit_mode (s : State) (f : Fld) (b : Bool) : (s.setBit f b).mode = s.mode := rfl
@[simp] theorem State.setBit_modes (s : State) (f : Fld) (b : Bool) : (s.setBit f b).modes = s.modes := rfl
@[simp] theorem State.setBit_bridge (s : State) (f : Fld) (b : Bool) : (s.setBit f b).bridge = s.bridge := rfl
@[simp] theorem State.setBit_supply (s : State) (f : Fld) (b : Bool) : (s.setBit f b).supply = s.supply := rfl
@[simp] theorem State.setBit_ret (s : State) (f : Fld) (b : Bool) : (s.setBit f b).ret = s.ret := rfl
@[simp] theorem State.setBit_doms (s : State) (f : Fld) (b : Bool) : (s.setBit f b).doms = s.doms := rfl
@[simp] theorem State.setBit_spi (s : State) (f : Fld) (b : Bool) : (s.setBit f b).spi = s.spi := rfl
@[simp] theorem State.setBit_compat (s : State) (f : Fld) (b : Bool) : (s.setBit f b).compat = s.compat := rfl
@[simp] theorem State.setBit_engines (s : State) (f : Fld) (b : Bool) : (s.setBit f b).engines = s.engines := rfl
@[simp] theorem State.setBit_cluster (s : State) (f : Fld) (b : Bool) : (s.setBit f b).cluster = s.cluster := rfl
@[simp] theorem State.setBit_fabric (s : State) (f : Fld) (b : Bool) : (s.setBit f b).fabric = s.fabric := rfl
@[simp] theorem State.setBit_rtc (s : State) (f : Fld) (b : Bool) : (s.setBit f b).rtc = s.rtc := rfl
@[simp] theorem State.setBit_dma (s : State) (f : Fld) (b : Bool) : (s.setBit f b).dma = s.dma := rfl
@[simp] theorem State.setBit_flash (s : State) (f : Fld) (b : Bool) : (s.setBit f b).flash = s.flash := rfl
@[simp] theorem State.setBit_garnet (s : State) (f : Fld) (b : Bool) : (s.setBit f b).garnet = s.garnet := rfl
@[simp] theorem State.setBit_update (s : State) (f : Fld) (b : Bool) : (s.setBit f b).update = s.update := rfl
@[simp] theorem State.setBit_strata (s : State) (f : Fld) (b : Bool) : (s.setBit f b).strata = s.strata := rfl
@[simp] theorem State.setBit_mem (s : State) (f : Fld) (b : Bool) : (s.setBit f b).mem = s.mem := rfl
@[simp] theorem State.setBit_radio (s : State) (f : Fld) (b : Bool) : (s.setBit f b).radio = s.radio := rfl
@[simp] theorem State.setBit_plc (s : State) (f : Fld) (b : Bool) : (s.setBit f b).plc = s.plc := rfl
@[simp] theorem State.setBit_sched (s : State) (f : Fld) (b : Bool) : (s.setBit f b).sched = s.sched := rfl
@[simp] theorem State.setBit_mesh (s : State) (f : Fld) (b : Bool) : (s.setBit f b).mesh = s.mesh := rfl
@[simp] theorem State.setBit_assoc (s : State) (f : Fld) (b : Bool) : (s.setBit f b).assoc = s.assoc := rfl
@[simp] theorem State.setBit_msg (s : State) (f : Fld) (b : Bool) : (s.setBit f b).msg = s.msg := rfl
@[simp] theorem State.setBit_pair (s : State) (f : Fld) (b : Bool) : (s.setBit f b).pair = s.pair := rfl
@[simp] theorem State.setBit_keys (s : State) (f : Fld) (b : Bool) : (s.setBit f b).keys = s.keys := rfl
@[simp] theorem State.setBit_lastRead (s : State) (f : Fld) (b : Bool) : (s.setBit f b).lastRead = s.lastRead := rfl
@[simp] theorem State.setBit_lamp (s : State) (f : Fld) (b : Bool) : (s.setBit f b).lamp = s.lamp := rfl
@[simp] theorem State.setBit_nfc (s : State) (f : Fld) (b : Bool) : (s.setBit f b).nfc = s.nfc := rfl
@[simp] theorem State.setBit_freeCount (s : State) (f : Fld) (b : Bool) : (s.setBit f b).freeCount = s.freeCount := rfl
@[simp] theorem State.setBit_pending (s : State) (f : Fld) (b : Bool) : (s.setBit f b).pending = s.pending := rfl

/-! ### bump -/

@[simp] theorem State.bump_mode (s : State) (f : Fld) (n : Nat) : (s.bump f n).mode = s.mode := rfl
@[simp] theorem State.bump_modes (s : State) (f : Fld) (n : Nat) : (s.bump f n).modes = s.modes := rfl
@[simp] theorem State.bump_bridge (s : State) (f : Fld) (n : Nat) : (s.bump f n).bridge = s.bridge := rfl
@[simp] theorem State.bump_supply (s : State) (f : Fld) (n : Nat) : (s.bump f n).supply = s.supply := rfl
@[simp] theorem State.bump_ret (s : State) (f : Fld) (n : Nat) : (s.bump f n).ret = s.ret := rfl
@[simp] theorem State.bump_doms (s : State) (f : Fld) (n : Nat) : (s.bump f n).doms = s.doms := rfl
@[simp] theorem State.bump_spi (s : State) (f : Fld) (n : Nat) : (s.bump f n).spi = s.spi := rfl
@[simp] theorem State.bump_compat (s : State) (f : Fld) (n : Nat) : (s.bump f n).compat = s.compat := rfl
@[simp] theorem State.bump_engines (s : State) (f : Fld) (n : Nat) : (s.bump f n).engines = s.engines := rfl
@[simp] theorem State.bump_cluster (s : State) (f : Fld) (n : Nat) : (s.bump f n).cluster = s.cluster := rfl
@[simp] theorem State.bump_fabric (s : State) (f : Fld) (n : Nat) : (s.bump f n).fabric = s.fabric := rfl
@[simp] theorem State.bump_rtc (s : State) (f : Fld) (n : Nat) : (s.bump f n).rtc = s.rtc := rfl
@[simp] theorem State.bump_dma (s : State) (f : Fld) (n : Nat) : (s.bump f n).dma = s.dma := rfl
@[simp] theorem State.bump_flash (s : State) (f : Fld) (n : Nat) : (s.bump f n).flash = s.flash := rfl
@[simp] theorem State.bump_garnet (s : State) (f : Fld) (n : Nat) : (s.bump f n).garnet = s.garnet := rfl
@[simp] theorem State.bump_update (s : State) (f : Fld) (n : Nat) : (s.bump f n).update = s.update := rfl
@[simp] theorem State.bump_strata (s : State) (f : Fld) (n : Nat) : (s.bump f n).strata = s.strata := rfl
@[simp] theorem State.bump_mem (s : State) (f : Fld) (n : Nat) : (s.bump f n).mem = s.mem := rfl
@[simp] theorem State.bump_radio (s : State) (f : Fld) (n : Nat) : (s.bump f n).radio = s.radio := rfl
@[simp] theorem State.bump_plc (s : State) (f : Fld) (n : Nat) : (s.bump f n).plc = s.plc := rfl
@[simp] theorem State.bump_sched (s : State) (f : Fld) (n : Nat) : (s.bump f n).sched = s.sched := rfl
@[simp] theorem State.bump_mesh (s : State) (f : Fld) (n : Nat) : (s.bump f n).mesh = s.mesh := rfl
@[simp] theorem State.bump_assoc (s : State) (f : Fld) (n : Nat) : (s.bump f n).assoc = s.assoc := rfl
@[simp] theorem State.bump_msg (s : State) (f : Fld) (n : Nat) : (s.bump f n).msg = s.msg := rfl
@[simp] theorem State.bump_pair (s : State) (f : Fld) (n : Nat) : (s.bump f n).pair = s.pair := rfl
@[simp] theorem State.bump_keys (s : State) (f : Fld) (n : Nat) : (s.bump f n).keys = s.keys := rfl
@[simp] theorem State.bump_lastRead (s : State) (f : Fld) (n : Nat) : (s.bump f n).lastRead = s.lastRead := rfl
@[simp] theorem State.bump_lamp (s : State) (f : Fld) (n : Nat) : (s.bump f n).lamp = s.lamp := rfl
@[simp] theorem State.bump_nfc (s : State) (f : Fld) (n : Nat) : (s.bump f n).nfc = s.nfc := rfl
@[simp] theorem State.bump_freeCount (s : State) (f : Fld) (n : Nat) : (s.bump f n).freeCount = s.freeCount := rfl
@[simp] theorem State.bump_pending (s : State) (f : Fld) (n : Nat) : (s.bump f n).pending = s.pending := rfl

/-! ### bumpWrap -/

@[simp] theorem State.bumpWrap_mode (s : State) (f : Fld) (n : Nat) : (s.bumpWrap f n).mode = s.mode := rfl
@[simp] theorem State.bumpWrap_modes (s : State) (f : Fld) (n : Nat) : (s.bumpWrap f n).modes = s.modes := rfl
@[simp] theorem State.bumpWrap_bridge (s : State) (f : Fld) (n : Nat) : (s.bumpWrap f n).bridge = s.bridge := rfl
@[simp] theorem State.bumpWrap_supply (s : State) (f : Fld) (n : Nat) : (s.bumpWrap f n).supply = s.supply := rfl
@[simp] theorem State.bumpWrap_ret (s : State) (f : Fld) (n : Nat) : (s.bumpWrap f n).ret = s.ret := rfl
@[simp] theorem State.bumpWrap_doms (s : State) (f : Fld) (n : Nat) : (s.bumpWrap f n).doms = s.doms := rfl
@[simp] theorem State.bumpWrap_spi (s : State) (f : Fld) (n : Nat) : (s.bumpWrap f n).spi = s.spi := rfl
@[simp] theorem State.bumpWrap_compat (s : State) (f : Fld) (n : Nat) : (s.bumpWrap f n).compat = s.compat := rfl
@[simp] theorem State.bumpWrap_engines (s : State) (f : Fld) (n : Nat) : (s.bumpWrap f n).engines = s.engines := rfl
@[simp] theorem State.bumpWrap_cluster (s : State) (f : Fld) (n : Nat) : (s.bumpWrap f n).cluster = s.cluster := rfl
@[simp] theorem State.bumpWrap_fabric (s : State) (f : Fld) (n : Nat) : (s.bumpWrap f n).fabric = s.fabric := rfl
@[simp] theorem State.bumpWrap_rtc (s : State) (f : Fld) (n : Nat) : (s.bumpWrap f n).rtc = s.rtc := rfl
@[simp] theorem State.bumpWrap_dma (s : State) (f : Fld) (n : Nat) : (s.bumpWrap f n).dma = s.dma := rfl
@[simp] theorem State.bumpWrap_flash (s : State) (f : Fld) (n : Nat) : (s.bumpWrap f n).flash = s.flash := rfl
@[simp] theorem State.bumpWrap_garnet (s : State) (f : Fld) (n : Nat) : (s.bumpWrap f n).garnet = s.garnet := rfl
@[simp] theorem State.bumpWrap_update (s : State) (f : Fld) (n : Nat) : (s.bumpWrap f n).update = s.update := rfl
@[simp] theorem State.bumpWrap_strata (s : State) (f : Fld) (n : Nat) : (s.bumpWrap f n).strata = s.strata := rfl
@[simp] theorem State.bumpWrap_mem (s : State) (f : Fld) (n : Nat) : (s.bumpWrap f n).mem = s.mem := rfl
@[simp] theorem State.bumpWrap_radio (s : State) (f : Fld) (n : Nat) : (s.bumpWrap f n).radio = s.radio := rfl
@[simp] theorem State.bumpWrap_plc (s : State) (f : Fld) (n : Nat) : (s.bumpWrap f n).plc = s.plc := rfl
@[simp] theorem State.bumpWrap_sched (s : State) (f : Fld) (n : Nat) : (s.bumpWrap f n).sched = s.sched := rfl
@[simp] theorem State.bumpWrap_mesh (s : State) (f : Fld) (n : Nat) : (s.bumpWrap f n).mesh = s.mesh := rfl
@[simp] theorem State.bumpWrap_assoc (s : State) (f : Fld) (n : Nat) : (s.bumpWrap f n).assoc = s.assoc := rfl
@[simp] theorem State.bumpWrap_msg (s : State) (f : Fld) (n : Nat) : (s.bumpWrap f n).msg = s.msg := rfl
@[simp] theorem State.bumpWrap_pair (s : State) (f : Fld) (n : Nat) : (s.bumpWrap f n).pair = s.pair := rfl
@[simp] theorem State.bumpWrap_keys (s : State) (f : Fld) (n : Nat) : (s.bumpWrap f n).keys = s.keys := rfl
@[simp] theorem State.bumpWrap_lastRead (s : State) (f : Fld) (n : Nat) : (s.bumpWrap f n).lastRead = s.lastRead := rfl
@[simp] theorem State.bumpWrap_lamp (s : State) (f : Fld) (n : Nat) : (s.bumpWrap f n).lamp = s.lamp := rfl
@[simp] theorem State.bumpWrap_nfc (s : State) (f : Fld) (n : Nat) : (s.bumpWrap f n).nfc = s.nfc := rfl
@[simp] theorem State.bumpWrap_freeCount (s : State) (f : Fld) (n : Nat) : (s.bumpWrap f n).freeCount = s.freeCount := rfl
@[simp] theorem State.bumpWrap_pending (s : State) (f : Fld) (n : Nat) : (s.bumpWrap f n).pending = s.pending := rfl

/-! ### sramStore -/

@[simp] theorem State.sramStore_regs (s : State) (a : Nat) (bs : List Byte) : (s.sramStore a bs).regs = s.regs := rfl
@[simp] theorem State.sramStore_mode (s : State) (a : Nat) (bs : List Byte) : (s.sramStore a bs).mode = s.mode := rfl
@[simp] theorem State.sramStore_modes (s : State) (a : Nat) (bs : List Byte) : (s.sramStore a bs).modes = s.modes := rfl
@[simp] theorem State.sramStore_bridge (s : State) (a : Nat) (bs : List Byte) : (s.sramStore a bs).bridge = s.bridge := rfl
@[simp] theorem State.sramStore_supply (s : State) (a : Nat) (bs : List Byte) : (s.sramStore a bs).supply = s.supply := rfl
@[simp] theorem State.sramStore_ret (s : State) (a : Nat) (bs : List Byte) : (s.sramStore a bs).ret = s.ret := rfl
@[simp] theorem State.sramStore_doms (s : State) (a : Nat) (bs : List Byte) : (s.sramStore a bs).doms = s.doms := rfl
@[simp] theorem State.sramStore_spi (s : State) (a : Nat) (bs : List Byte) : (s.sramStore a bs).spi = s.spi := rfl
@[simp] theorem State.sramStore_compat (s : State) (a : Nat) (bs : List Byte) : (s.sramStore a bs).compat = s.compat := rfl
@[simp] theorem State.sramStore_engines (s : State) (a : Nat) (bs : List Byte) : (s.sramStore a bs).engines = s.engines := rfl
@[simp] theorem State.sramStore_cluster (s : State) (a : Nat) (bs : List Byte) : (s.sramStore a bs).cluster = s.cluster := rfl
@[simp] theorem State.sramStore_fabric (s : State) (a : Nat) (bs : List Byte) : (s.sramStore a bs).fabric = s.fabric := rfl
@[simp] theorem State.sramStore_rtc (s : State) (a : Nat) (bs : List Byte) : (s.sramStore a bs).rtc = s.rtc := rfl
@[simp] theorem State.sramStore_dma (s : State) (a : Nat) (bs : List Byte) : (s.sramStore a bs).dma = s.dma := rfl
@[simp] theorem State.sramStore_flash (s : State) (a : Nat) (bs : List Byte) : (s.sramStore a bs).flash = s.flash := rfl
@[simp] theorem State.sramStore_garnet (s : State) (a : Nat) (bs : List Byte) : (s.sramStore a bs).garnet = s.garnet := rfl
@[simp] theorem State.sramStore_update (s : State) (a : Nat) (bs : List Byte) : (s.sramStore a bs).update = s.update := rfl
@[simp] theorem State.sramStore_strata (s : State) (a : Nat) (bs : List Byte) : (s.sramStore a bs).strata = s.strata := rfl
@[simp] theorem State.sramStore_radio (s : State) (a : Nat) (bs : List Byte) : (s.sramStore a bs).radio = s.radio := rfl
@[simp] theorem State.sramStore_plc (s : State) (a : Nat) (bs : List Byte) : (s.sramStore a bs).plc = s.plc := rfl
@[simp] theorem State.sramStore_sched (s : State) (a : Nat) (bs : List Byte) : (s.sramStore a bs).sched = s.sched := rfl
@[simp] theorem State.sramStore_mesh (s : State) (a : Nat) (bs : List Byte) : (s.sramStore a bs).mesh = s.mesh := rfl
@[simp] theorem State.sramStore_assoc (s : State) (a : Nat) (bs : List Byte) : (s.sramStore a bs).assoc = s.assoc := rfl
@[simp] theorem State.sramStore_msg (s : State) (a : Nat) (bs : List Byte) : (s.sramStore a bs).msg = s.msg := rfl
@[simp] theorem State.sramStore_pair (s : State) (a : Nat) (bs : List Byte) : (s.sramStore a bs).pair = s.pair := rfl
@[simp] theorem State.sramStore_keys (s : State) (a : Nat) (bs : List Byte) : (s.sramStore a bs).keys = s.keys := rfl
@[simp] theorem State.sramStore_lastRead (s : State) (a : Nat) (bs : List Byte) : (s.sramStore a bs).lastRead = s.lastRead := rfl
@[simp] theorem State.sramStore_lamp (s : State) (a : Nat) (bs : List Byte) : (s.sramStore a bs).lamp = s.lamp := rfl
@[simp] theorem State.sramStore_nfc (s : State) (a : Nat) (bs : List Byte) : (s.sramStore a bs).nfc = s.nfc := rfl
@[simp] theorem State.sramStore_freeCount (s : State) (a : Nat) (bs : List Byte) : (s.sramStore a bs).freeCount = s.freeCount := rfl
@[simp] theorem State.sramStore_pending (s : State) (a : Nat) (bs : List Byte) : (s.sramStore a bs).pending = s.pending := rfl

/-! ### setEng -/

@[simp] theorem State.setEng_regs (s : State) (k : Nat) (e : Engine) : (s.setEng k e).regs = s.regs := rfl
@[simp] theorem State.setEng_mode (s : State) (k : Nat) (e : Engine) : (s.setEng k e).mode = s.mode := rfl
@[simp] theorem State.setEng_modes (s : State) (k : Nat) (e : Engine) : (s.setEng k e).modes = s.modes := rfl
@[simp] theorem State.setEng_bridge (s : State) (k : Nat) (e : Engine) : (s.setEng k e).bridge = s.bridge := rfl
@[simp] theorem State.setEng_supply (s : State) (k : Nat) (e : Engine) : (s.setEng k e).supply = s.supply := rfl
@[simp] theorem State.setEng_ret (s : State) (k : Nat) (e : Engine) : (s.setEng k e).ret = s.ret := rfl
@[simp] theorem State.setEng_doms (s : State) (k : Nat) (e : Engine) : (s.setEng k e).doms = s.doms := rfl
@[simp] theorem State.setEng_spi (s : State) (k : Nat) (e : Engine) : (s.setEng k e).spi = s.spi := rfl
@[simp] theorem State.setEng_compat (s : State) (k : Nat) (e : Engine) : (s.setEng k e).compat = s.compat := rfl
@[simp] theorem State.setEng_cluster (s : State) (k : Nat) (e : Engine) : (s.setEng k e).cluster = s.cluster := rfl
@[simp] theorem State.setEng_fabric (s : State) (k : Nat) (e : Engine) : (s.setEng k e).fabric = s.fabric := rfl
@[simp] theorem State.setEng_rtc (s : State) (k : Nat) (e : Engine) : (s.setEng k e).rtc = s.rtc := rfl
@[simp] theorem State.setEng_dma (s : State) (k : Nat) (e : Engine) : (s.setEng k e).dma = s.dma := rfl
@[simp] theorem State.setEng_flash (s : State) (k : Nat) (e : Engine) : (s.setEng k e).flash = s.flash := rfl
@[simp] theorem State.setEng_garnet (s : State) (k : Nat) (e : Engine) : (s.setEng k e).garnet = s.garnet := rfl
@[simp] theorem State.setEng_update (s : State) (k : Nat) (e : Engine) : (s.setEng k e).update = s.update := rfl
@[simp] theorem State.setEng_strata (s : State) (k : Nat) (e : Engine) : (s.setEng k e).strata = s.strata := rfl
@[simp] theorem State.setEng_mem (s : State) (k : Nat) (e : Engine) : (s.setEng k e).mem = s.mem := rfl
@[simp] theorem State.setEng_radio (s : State) (k : Nat) (e : Engine) : (s.setEng k e).radio = s.radio := rfl
@[simp] theorem State.setEng_plc (s : State) (k : Nat) (e : Engine) : (s.setEng k e).plc = s.plc := rfl
@[simp] theorem State.setEng_sched (s : State) (k : Nat) (e : Engine) : (s.setEng k e).sched = s.sched := rfl
@[simp] theorem State.setEng_mesh (s : State) (k : Nat) (e : Engine) : (s.setEng k e).mesh = s.mesh := rfl
@[simp] theorem State.setEng_assoc (s : State) (k : Nat) (e : Engine) : (s.setEng k e).assoc = s.assoc := rfl
@[simp] theorem State.setEng_msg (s : State) (k : Nat) (e : Engine) : (s.setEng k e).msg = s.msg := rfl
@[simp] theorem State.setEng_pair (s : State) (k : Nat) (e : Engine) : (s.setEng k e).pair = s.pair := rfl
@[simp] theorem State.setEng_keys (s : State) (k : Nat) (e : Engine) : (s.setEng k e).keys = s.keys := rfl
@[simp] theorem State.setEng_lastRead (s : State) (k : Nat) (e : Engine) : (s.setEng k e).lastRead = s.lastRead := rfl
@[simp] theorem State.setEng_lamp (s : State) (k : Nat) (e : Engine) : (s.setEng k e).lamp = s.lamp := rfl
@[simp] theorem State.setEng_nfc (s : State) (k : Nat) (e : Engine) : (s.setEng k e).nfc = s.nfc := rfl
@[simp] theorem State.setEng_freeCount (s : State) (k : Nat) (e : Engine) : (s.setEng k e).freeCount = s.freeCount := rfl
@[simp] theorem State.setEng_pending (s : State) (k : Nat) (e : Engine) : (s.setEng k e).pending = s.pending := rfl

/-! ### modEng -/

@[simp] theorem State.modEng_regs (s : State) (k : Nat) (f : Engine → Engine) : (s.modEng k f).regs = s.regs := rfl
@[simp] theorem State.modEng_mode (s : State) (k : Nat) (f : Engine → Engine) : (s.modEng k f).mode = s.mode := rfl
@[simp] theorem State.modEng_modes (s : State) (k : Nat) (f : Engine → Engine) : (s.modEng k f).modes = s.modes := rfl
@[simp] theorem State.modEng_bridge (s : State) (k : Nat) (f : Engine → Engine) : (s.modEng k f).bridge = s.bridge := rfl
@[simp] theorem State.modEng_supply (s : State) (k : Nat) (f : Engine → Engine) : (s.modEng k f).supply = s.supply := rfl
@[simp] theorem State.modEng_ret (s : State) (k : Nat) (f : Engine → Engine) : (s.modEng k f).ret = s.ret := rfl
@[simp] theorem State.modEng_doms (s : State) (k : Nat) (f : Engine → Engine) : (s.modEng k f).doms = s.doms := rfl
@[simp] theorem State.modEng_spi (s : State) (k : Nat) (f : Engine → Engine) : (s.modEng k f).spi = s.spi := rfl
@[simp] theorem State.modEng_compat (s : State) (k : Nat) (f : Engine → Engine) : (s.modEng k f).compat = s.compat := rfl
@[simp] theorem State.modEng_cluster (s : State) (k : Nat) (f : Engine → Engine) : (s.modEng k f).cluster = s.cluster := rfl
@[simp] theorem State.modEng_fabric (s : State) (k : Nat) (f : Engine → Engine) : (s.modEng k f).fabric = s.fabric := rfl
@[simp] theorem State.modEng_rtc (s : State) (k : Nat) (f : Engine → Engine) : (s.modEng k f).rtc = s.rtc := rfl
@[simp] theorem State.modEng_dma (s : State) (k : Nat) (f : Engine → Engine) : (s.modEng k f).dma = s.dma := rfl
@[simp] theorem State.modEng_flash (s : State) (k : Nat) (f : Engine → Engine) : (s.modEng k f).flash = s.flash := rfl
@[simp] theorem State.modEng_garnet (s : State) (k : Nat) (f : Engine → Engine) : (s.modEng k f).garnet = s.garnet := rfl
@[simp] theorem State.modEng_update (s : State) (k : Nat) (f : Engine → Engine) : (s.modEng k f).update = s.update := rfl
@[simp] theorem State.modEng_strata (s : State) (k : Nat) (f : Engine → Engine) : (s.modEng k f).strata = s.strata := rfl
@[simp] theorem State.modEng_mem (s : State) (k : Nat) (f : Engine → Engine) : (s.modEng k f).mem = s.mem := rfl
@[simp] theorem State.modEng_radio (s : State) (k : Nat) (f : Engine → Engine) : (s.modEng k f).radio = s.radio := rfl
@[simp] theorem State.modEng_plc (s : State) (k : Nat) (f : Engine → Engine) : (s.modEng k f).plc = s.plc := rfl
@[simp] theorem State.modEng_sched (s : State) (k : Nat) (f : Engine → Engine) : (s.modEng k f).sched = s.sched := rfl
@[simp] theorem State.modEng_mesh (s : State) (k : Nat) (f : Engine → Engine) : (s.modEng k f).mesh = s.mesh := rfl
@[simp] theorem State.modEng_assoc (s : State) (k : Nat) (f : Engine → Engine) : (s.modEng k f).assoc = s.assoc := rfl
@[simp] theorem State.modEng_msg (s : State) (k : Nat) (f : Engine → Engine) : (s.modEng k f).msg = s.msg := rfl
@[simp] theorem State.modEng_pair (s : State) (k : Nat) (f : Engine → Engine) : (s.modEng k f).pair = s.pair := rfl
@[simp] theorem State.modEng_keys (s : State) (k : Nat) (f : Engine → Engine) : (s.modEng k f).keys = s.keys := rfl
@[simp] theorem State.modEng_lastRead (s : State) (k : Nat) (f : Engine → Engine) : (s.modEng k f).lastRead = s.lastRead := rfl
@[simp] theorem State.modEng_lamp (s : State) (k : Nat) (f : Engine → Engine) : (s.modEng k f).lamp = s.lamp := rfl
@[simp] theorem State.modEng_nfc (s : State) (k : Nat) (f : Engine → Engine) : (s.modEng k f).nfc = s.nfc := rfl
@[simp] theorem State.modEng_freeCount (s : State) (k : Nat) (f : Engine → Engine) : (s.modEng k f).freeCount = s.freeCount := rfl
@[simp] theorem State.modEng_pending (s : State) (k : Nat) (f : Engine → Engine) : (s.modEng k f).pending = s.pending := rfl

/-! ### spend -/

@[simp] theorem State.spend_regs (s : State) (n : Nat) : (s.spend n).regs = s.regs := rfl
@[simp] theorem State.spend_mode (s : State) (n : Nat) : (s.spend n).mode = s.mode := rfl
@[simp] theorem State.spend_modes (s : State) (n : Nat) : (s.spend n).modes = s.modes := rfl
@[simp] theorem State.spend_bridge (s : State) (n : Nat) : (s.spend n).bridge = s.bridge := rfl
@[simp] theorem State.spend_supply (s : State) (n : Nat) : (s.spend n).supply = s.supply := rfl
@[simp] theorem State.spend_ret (s : State) (n : Nat) : (s.spend n).ret = s.ret := rfl
@[simp] theorem State.spend_doms (s : State) (n : Nat) : (s.spend n).doms = s.doms := rfl
@[simp] theorem State.spend_spi (s : State) (n : Nat) : (s.spend n).spi = s.spi := rfl
@[simp] theorem State.spend_compat (s : State) (n : Nat) : (s.spend n).compat = s.compat := rfl
@[simp] theorem State.spend_engines (s : State) (n : Nat) : (s.spend n).engines = s.engines := rfl
@[simp] theorem State.spend_cluster (s : State) (n : Nat) : (s.spend n).cluster = s.cluster := rfl
@[simp] theorem State.spend_fabric (s : State) (n : Nat) : (s.spend n).fabric = s.fabric := rfl
@[simp] theorem State.spend_rtc (s : State) (n : Nat) : (s.spend n).rtc = s.rtc := rfl
@[simp] theorem State.spend_dma (s : State) (n : Nat) : (s.spend n).dma = s.dma := rfl
@[simp] theorem State.spend_flash (s : State) (n : Nat) : (s.spend n).flash = s.flash := rfl
@[simp] theorem State.spend_garnet (s : State) (n : Nat) : (s.spend n).garnet = s.garnet := rfl
@[simp] theorem State.spend_update (s : State) (n : Nat) : (s.spend n).update = s.update := rfl
@[simp] theorem State.spend_strata (s : State) (n : Nat) : (s.spend n).strata = s.strata := rfl
@[simp] theorem State.spend_mem (s : State) (n : Nat) : (s.spend n).mem = s.mem := rfl
@[simp] theorem State.spend_radio (s : State) (n : Nat) : (s.spend n).radio = s.radio := rfl
@[simp] theorem State.spend_plc (s : State) (n : Nat) : (s.spend n).plc = s.plc := rfl
@[simp] theorem State.spend_sched (s : State) (n : Nat) : (s.spend n).sched = s.sched := rfl
@[simp] theorem State.spend_mesh (s : State) (n : Nat) : (s.spend n).mesh = s.mesh := rfl
@[simp] theorem State.spend_assoc (s : State) (n : Nat) : (s.spend n).assoc = s.assoc := rfl
@[simp] theorem State.spend_msg (s : State) (n : Nat) : (s.spend n).msg = s.msg := rfl
@[simp] theorem State.spend_pair (s : State) (n : Nat) : (s.spend n).pair = s.pair := rfl
@[simp] theorem State.spend_keys (s : State) (n : Nat) : (s.spend n).keys = s.keys := rfl
@[simp] theorem State.spend_lastRead (s : State) (n : Nat) : (s.spend n).lastRead = s.lastRead := rfl
@[simp] theorem State.spend_lamp (s : State) (n : Nat) : (s.spend n).lamp = s.lamp := rfl
@[simp] theorem State.spend_nfc (s : State) (n : Nat) : (s.spend n).nfc = s.nfc := rfl
@[simp] theorem State.spend_pending (s : State) (n : Nat) : (s.spend n).pending = s.pending := rfl

/-! ### fresh -/

@[simp] theorem State.fresh_regs (s : State) : (s.fresh).regs = s.regs := rfl
@[simp] theorem State.fresh_mode (s : State) : (s.fresh).mode = s.mode := rfl
@[simp] theorem State.fresh_modes (s : State) : (s.fresh).modes = s.modes := rfl
@[simp] theorem State.fresh_bridge (s : State) : (s.fresh).bridge = s.bridge := rfl
@[simp] theorem State.fresh_supply (s : State) : (s.fresh).supply = s.supply := rfl
@[simp] theorem State.fresh_ret (s : State) : (s.fresh).ret = s.ret := rfl
@[simp] theorem State.fresh_doms (s : State) : (s.fresh).doms = s.doms := rfl
@[simp] theorem State.fresh_spi (s : State) : (s.fresh).spi = s.spi := rfl
@[simp] theorem State.fresh_compat (s : State) : (s.fresh).compat = s.compat := rfl
@[simp] theorem State.fresh_engines (s : State) : (s.fresh).engines = s.engines := rfl
@[simp] theorem State.fresh_cluster (s : State) : (s.fresh).cluster = s.cluster := rfl
@[simp] theorem State.fresh_fabric (s : State) : (s.fresh).fabric = s.fabric := rfl
@[simp] theorem State.fresh_rtc (s : State) : (s.fresh).rtc = s.rtc := rfl
@[simp] theorem State.fresh_dma (s : State) : (s.fresh).dma = s.dma := rfl
@[simp] theorem State.fresh_flash (s : State) : (s.fresh).flash = s.flash := rfl
@[simp] theorem State.fresh_garnet (s : State) : (s.fresh).garnet = s.garnet := rfl
@[simp] theorem State.fresh_update (s : State) : (s.fresh).update = s.update := rfl
@[simp] theorem State.fresh_strata (s : State) : (s.fresh).strata = s.strata := rfl
@[simp] theorem State.fresh_mem (s : State) : (s.fresh).mem = s.mem := rfl
@[simp] theorem State.fresh_radio (s : State) : (s.fresh).radio = s.radio := rfl
@[simp] theorem State.fresh_plc (s : State) : (s.fresh).plc = s.plc := rfl
@[simp] theorem State.fresh_sched (s : State) : (s.fresh).sched = s.sched := rfl
@[simp] theorem State.fresh_mesh (s : State) : (s.fresh).mesh = s.mesh := rfl
@[simp] theorem State.fresh_assoc (s : State) : (s.fresh).assoc = s.assoc := rfl
@[simp] theorem State.fresh_msg (s : State) : (s.fresh).msg = s.msg := rfl
@[simp] theorem State.fresh_pair (s : State) : (s.fresh).pair = s.pair := rfl
@[simp] theorem State.fresh_keys (s : State) : (s.fresh).keys = s.keys := rfl
@[simp] theorem State.fresh_lastRead (s : State) : (s.fresh).lastRead = s.lastRead := rfl
@[simp] theorem State.fresh_lamp (s : State) : (s.fresh).lamp = s.lamp := rfl
@[simp] theorem State.fresh_nfc (s : State) : (s.fresh).nfc = s.nfc := rfl
@[simp] theorem State.fresh_pending (s : State) : (s.fresh).pending = s.pending := rfl

/-! ### refuse -/

@[simp] theorem State.refuse_mode (s : State) (p r i : Nat) : (s.refuse p r i).mode = s.mode := rfl
@[simp] theorem State.refuse_modes (s : State) (p r i : Nat) : (s.refuse p r i).modes = s.modes := rfl
@[simp] theorem State.refuse_bridge (s : State) (p r i : Nat) : (s.refuse p r i).bridge = s.bridge := rfl
@[simp] theorem State.refuse_supply (s : State) (p r i : Nat) : (s.refuse p r i).supply = s.supply := rfl
@[simp] theorem State.refuse_ret (s : State) (p r i : Nat) : (s.refuse p r i).ret = s.ret := rfl
@[simp] theorem State.refuse_doms (s : State) (p r i : Nat) : (s.refuse p r i).doms = s.doms := rfl
@[simp] theorem State.refuse_spi (s : State) (p r i : Nat) : (s.refuse p r i).spi = s.spi := rfl
@[simp] theorem State.refuse_compat (s : State) (p r i : Nat) : (s.refuse p r i).compat = s.compat := rfl
@[simp] theorem State.refuse_engines (s : State) (p r i : Nat) : (s.refuse p r i).engines = s.engines := rfl
@[simp] theorem State.refuse_cluster (s : State) (p r i : Nat) : (s.refuse p r i).cluster = s.cluster := rfl
@[simp] theorem State.refuse_fabric (s : State) (p r i : Nat) : (s.refuse p r i).fabric = s.fabric := rfl
@[simp] theorem State.refuse_rtc (s : State) (p r i : Nat) : (s.refuse p r i).rtc = s.rtc := rfl
@[simp] theorem State.refuse_dma (s : State) (p r i : Nat) : (s.refuse p r i).dma = s.dma := rfl
@[simp] theorem State.refuse_flash (s : State) (p r i : Nat) : (s.refuse p r i).flash = s.flash := rfl
@[simp] theorem State.refuse_garnet (s : State) (p r i : Nat) : (s.refuse p r i).garnet = s.garnet := rfl
@[simp] theorem State.refuse_update (s : State) (p r i : Nat) : (s.refuse p r i).update = s.update := rfl
@[simp] theorem State.refuse_strata (s : State) (p r i : Nat) : (s.refuse p r i).strata = s.strata := rfl
@[simp] theorem State.refuse_mem (s : State) (p r i : Nat) : (s.refuse p r i).mem = s.mem := rfl
@[simp] theorem State.refuse_radio (s : State) (p r i : Nat) : (s.refuse p r i).radio = s.radio := rfl
@[simp] theorem State.refuse_plc (s : State) (p r i : Nat) : (s.refuse p r i).plc = s.plc := rfl
@[simp] theorem State.refuse_sched (s : State) (p r i : Nat) : (s.refuse p r i).sched = s.sched := rfl
@[simp] theorem State.refuse_mesh (s : State) (p r i : Nat) : (s.refuse p r i).mesh = s.mesh := rfl
@[simp] theorem State.refuse_assoc (s : State) (p r i : Nat) : (s.refuse p r i).assoc = s.assoc := rfl
@[simp] theorem State.refuse_msg (s : State) (p r i : Nat) : (s.refuse p r i).msg = s.msg := rfl
@[simp] theorem State.refuse_pair (s : State) (p r i : Nat) : (s.refuse p r i).pair = s.pair := rfl
@[simp] theorem State.refuse_keys (s : State) (p r i : Nat) : (s.refuse p r i).keys = s.keys := rfl
@[simp] theorem State.refuse_lastRead (s : State) (p r i : Nat) : (s.refuse p r i).lastRead = s.lastRead := rfl
@[simp] theorem State.refuse_lamp (s : State) (p r i : Nat) : (s.refuse p r i).lamp = s.lamp := rfl
@[simp] theorem State.refuse_nfc (s : State) (p r i : Nat) : (s.refuse p r i).nfc = s.nfc := rfl
@[simp] theorem State.refuse_freeCount (s : State) (p r i : Nat) : (s.refuse p r i).freeCount = s.freeCount := rfl
@[simp] theorem State.refuse_pending (s : State) (p r i : Nat) : (s.refuse p r i).pending = s.pending := rfl

/-! ### setAll -/

@[simp] theorem State.setAll_mode (s : State) (l : List (Fld × Nat)) : (s.setAll l).mode = s.mode := by
  induction l generalizing s with
  | nil => rfl
  | cons c l ih => exact ih _
@[simp] theorem State.setAll_modes (s : State) (l : List (Fld × Nat)) : (s.setAll l).modes = s.modes := by
  induction l generalizing s with
  | nil => rfl
  | cons c l ih => exact ih _
@[simp] theorem State.setAll_bridge (s : State) (l : List (Fld × Nat)) : (s.setAll l).bridge = s.bridge := by
  induction l generalizing s with
  | nil => rfl
  | cons c l ih => exact ih _
@[simp] theorem State.setAll_supply (s : State) (l : List (Fld × Nat)) : (s.setAll l).supply = s.supply := by
  induction l generalizing s with
  | nil => rfl
  | cons c l ih => exact ih _
@[simp] theorem State.setAll_ret (s : State) (l : List (Fld × Nat)) : (s.setAll l).ret = s.ret := by
  induction l generalizing s with
  | nil => rfl
  | cons c l ih => exact ih _
@[simp] theorem State.setAll_doms (s : State) (l : List (Fld × Nat)) : (s.setAll l).doms = s.doms := by
  induction l generalizing s with
  | nil => rfl
  | cons c l ih => exact ih _
@[simp] theorem State.setAll_spi (s : State) (l : List (Fld × Nat)) : (s.setAll l).spi = s.spi := by
  induction l generalizing s with
  | nil => rfl
  | cons c l ih => exact ih _
@[simp] theorem State.setAll_compat (s : State) (l : List (Fld × Nat)) : (s.setAll l).compat = s.compat := by
  induction l generalizing s with
  | nil => rfl
  | cons c l ih => exact ih _
@[simp] theorem State.setAll_engines (s : State) (l : List (Fld × Nat)) : (s.setAll l).engines = s.engines := by
  induction l generalizing s with
  | nil => rfl
  | cons c l ih => exact ih _
@[simp] theorem State.setAll_cluster (s : State) (l : List (Fld × Nat)) : (s.setAll l).cluster = s.cluster := by
  induction l generalizing s with
  | nil => rfl
  | cons c l ih => exact ih _
@[simp] theorem State.setAll_fabric (s : State) (l : List (Fld × Nat)) : (s.setAll l).fabric = s.fabric := by
  induction l generalizing s with
  | nil => rfl
  | cons c l ih => exact ih _
@[simp] theorem State.setAll_rtc (s : State) (l : List (Fld × Nat)) : (s.setAll l).rtc = s.rtc := by
  induction l generalizing s with
  | nil => rfl
  | cons c l ih => exact ih _
@[simp] theorem State.setAll_dma (s : State) (l : List (Fld × Nat)) : (s.setAll l).dma = s.dma := by
  induction l generalizing s with
  | nil => rfl
  | cons c l ih => exact ih _
@[simp] theorem State.setAll_flash (s : State) (l : List (Fld × Nat)) : (s.setAll l).flash = s.flash := by
  induction l generalizing s with
  | nil => rfl
  | cons c l ih => exact ih _
@[simp] theorem State.setAll_garnet (s : State) (l : List (Fld × Nat)) : (s.setAll l).garnet = s.garnet := by
  induction l generalizing s with
  | nil => rfl
  | cons c l ih => exact ih _
@[simp] theorem State.setAll_update (s : State) (l : List (Fld × Nat)) : (s.setAll l).update = s.update := by
  induction l generalizing s with
  | nil => rfl
  | cons c l ih => exact ih _
@[simp] theorem State.setAll_strata (s : State) (l : List (Fld × Nat)) : (s.setAll l).strata = s.strata := by
  induction l generalizing s with
  | nil => rfl
  | cons c l ih => exact ih _
@[simp] theorem State.setAll_mem (s : State) (l : List (Fld × Nat)) : (s.setAll l).mem = s.mem := by
  induction l generalizing s with
  | nil => rfl
  | cons c l ih => exact ih _
@[simp] theorem State.setAll_radio (s : State) (l : List (Fld × Nat)) : (s.setAll l).radio = s.radio := by
  induction l generalizing s with
  | nil => rfl
  | cons c l ih => exact ih _
@[simp] theorem State.setAll_plc (s : State) (l : List (Fld × Nat)) : (s.setAll l).plc = s.plc := by
  induction l generalizing s with
  | nil => rfl
  | cons c l ih => exact ih _
@[simp] theorem State.setAll_sched (s : State) (l : List (Fld × Nat)) : (s.setAll l).sched = s.sched := by
  induction l generalizing s with
  | nil => rfl
  | cons c l ih => exact ih _
@[simp] theorem State.setAll_mesh (s : State) (l : List (Fld × Nat)) : (s.setAll l).mesh = s.mesh := by
  induction l generalizing s with
  | nil => rfl
  | cons c l ih => exact ih _
@[simp] theorem State.setAll_assoc (s : State) (l : List (Fld × Nat)) : (s.setAll l).assoc = s.assoc := by
  induction l generalizing s with
  | nil => rfl
  | cons c l ih => exact ih _
@[simp] theorem State.setAll_msg (s : State) (l : List (Fld × Nat)) : (s.setAll l).msg = s.msg := by
  induction l generalizing s with
  | nil => rfl
  | cons c l ih => exact ih _
@[simp] theorem State.setAll_pair (s : State) (l : List (Fld × Nat)) : (s.setAll l).pair = s.pair := by
  induction l generalizing s with
  | nil => rfl
  | cons c l ih => exact ih _
@[simp] theorem State.setAll_keys (s : State) (l : List (Fld × Nat)) : (s.setAll l).keys = s.keys := by
  induction l generalizing s with
  | nil => rfl
  | cons c l ih => exact ih _
@[simp] theorem State.setAll_lastRead (s : State) (l : List (Fld × Nat)) : (s.setAll l).lastRead = s.lastRead := by
  induction l generalizing s with
  | nil => rfl
  | cons c l ih => exact ih _
@[simp] theorem State.setAll_lamp (s : State) (l : List (Fld × Nat)) : (s.setAll l).lamp = s.lamp := by
  induction l generalizing s with
  | nil => rfl
  | cons c l ih => exact ih _
@[simp] theorem State.setAll_nfc (s : State) (l : List (Fld × Nat)) : (s.setAll l).nfc = s.nfc := by
  induction l generalizing s with
  | nil => rfl
  | cons c l ih => exact ih _
@[simp] theorem State.setAll_freeCount (s : State) (l : List (Fld × Nat)) : (s.setAll l).freeCount = s.freeCount := by
  induction l generalizing s with
  | nil => rfl
  | cons c l ih => exact ih _
@[simp] theorem State.setAll_pending (s : State) (l : List (Fld × Nat)) : (s.setAll l).pending = s.pending := by
  induction l generalizing s with
  | nil => rfl
  | cons c l ih => exact ih _

/-! ### flags -/

@[simp] theorem State.flags_mode (s : State) (l : List (Nat × Nat)) : (s.flags l).mode = s.mode := by
  induction l generalizing s with
  | nil => rfl
  | cons c l ih => exact ih _
@[simp] theorem State.flags_modes (s : State) (l : List (Nat × Nat)) : (s.flags l).modes = s.modes := by
  induction l generalizing s with
  | nil => rfl
  | cons c l ih => exact ih _
@[simp] theorem State.flags_bridge (s : State) (l : List (Nat × Nat)) : (s.flags l).bridge = s.bridge := by
  induction l generalizing s with
  | nil => rfl
  | cons c l ih => exact ih _
@[simp] theorem State.flags_supply (s : State) (l : List (Nat × Nat)) : (s.flags l).supply = s.supply := by
  induction l generalizing s with
  | nil => rfl
  | cons c l ih => exact ih _
@[simp] theorem State.flags_ret (s : State) (l : List (Nat × Nat)) : (s.flags l).ret = s.ret := by
  induction l generalizing s with
  | nil => rfl
  | cons c l ih => exact ih _
@[simp] theorem State.flags_doms (s : State) (l : List (Nat × Nat)) : (s.flags l).doms = s.doms := by
  induction l generalizing s with
  | nil => rfl
  | cons c l ih => exact ih _
@[simp] theorem State.flags_spi (s : State) (l : List (Nat × Nat)) : (s.flags l).spi = s.spi := by
  induction l generalizing s with
  | nil => rfl
  | cons c l ih => exact ih _
@[simp] theorem State.flags_compat (s : State) (l : List (Nat × Nat)) : (s.flags l).compat = s.compat := by
  induction l generalizing s with
  | nil => rfl
  | cons c l ih => exact ih _
@[simp] theorem State.flags_engines (s : State) (l : List (Nat × Nat)) : (s.flags l).engines = s.engines := by
  induction l generalizing s with
  | nil => rfl
  | cons c l ih => exact ih _
@[simp] theorem State.flags_cluster (s : State) (l : List (Nat × Nat)) : (s.flags l).cluster = s.cluster := by
  induction l generalizing s with
  | nil => rfl
  | cons c l ih => exact ih _
@[simp] theorem State.flags_fabric (s : State) (l : List (Nat × Nat)) : (s.flags l).fabric = s.fabric := by
  induction l generalizing s with
  | nil => rfl
  | cons c l ih => exact ih _
@[simp] theorem State.flags_rtc (s : State) (l : List (Nat × Nat)) : (s.flags l).rtc = s.rtc := by
  induction l generalizing s with
  | nil => rfl
  | cons c l ih => exact ih _
@[simp] theorem State.flags_dma (s : State) (l : List (Nat × Nat)) : (s.flags l).dma = s.dma := by
  induction l generalizing s with
  | nil => rfl
  | cons c l ih => exact ih _
@[simp] theorem State.flags_flash (s : State) (l : List (Nat × Nat)) : (s.flags l).flash = s.flash := by
  induction l generalizing s with
  | nil => rfl
  | cons c l ih => exact ih _
@[simp] theorem State.flags_garnet (s : State) (l : List (Nat × Nat)) : (s.flags l).garnet = s.garnet := by
  induction l generalizing s with
  | nil => rfl
  | cons c l ih => exact ih _
@[simp] theorem State.flags_update (s : State) (l : List (Nat × Nat)) : (s.flags l).update = s.update := by
  induction l generalizing s with
  | nil => rfl
  | cons c l ih => exact ih _
@[simp] theorem State.flags_strata (s : State) (l : List (Nat × Nat)) : (s.flags l).strata = s.strata := by
  induction l generalizing s with
  | nil => rfl
  | cons c l ih => exact ih _
@[simp] theorem State.flags_mem (s : State) (l : List (Nat × Nat)) : (s.flags l).mem = s.mem := by
  induction l generalizing s with
  | nil => rfl
  | cons c l ih => exact ih _
@[simp] theorem State.flags_radio (s : State) (l : List (Nat × Nat)) : (s.flags l).radio = s.radio := by
  induction l generalizing s with
  | nil => rfl
  | cons c l ih => exact ih _
@[simp] theorem State.flags_plc (s : State) (l : List (Nat × Nat)) : (s.flags l).plc = s.plc := by
  induction l generalizing s with
  | nil => rfl
  | cons c l ih => exact ih _
@[simp] theorem State.flags_sched (s : State) (l : List (Nat × Nat)) : (s.flags l).sched = s.sched := by
  induction l generalizing s with
  | nil => rfl
  | cons c l ih => exact ih _
@[simp] theorem State.flags_mesh (s : State) (l : List (Nat × Nat)) : (s.flags l).mesh = s.mesh := by
  induction l generalizing s with
  | nil => rfl
  | cons c l ih => exact ih _
@[simp] theorem State.flags_assoc (s : State) (l : List (Nat × Nat)) : (s.flags l).assoc = s.assoc := by
  induction l generalizing s with
  | nil => rfl
  | cons c l ih => exact ih _
@[simp] theorem State.flags_msg (s : State) (l : List (Nat × Nat)) : (s.flags l).msg = s.msg := by
  induction l generalizing s with
  | nil => rfl
  | cons c l ih => exact ih _
@[simp] theorem State.flags_pair (s : State) (l : List (Nat × Nat)) : (s.flags l).pair = s.pair := by
  induction l generalizing s with
  | nil => rfl
  | cons c l ih => exact ih _
@[simp] theorem State.flags_keys (s : State) (l : List (Nat × Nat)) : (s.flags l).keys = s.keys := by
  induction l generalizing s with
  | nil => rfl
  | cons c l ih => exact ih _
@[simp] theorem State.flags_lastRead (s : State) (l : List (Nat × Nat)) : (s.flags l).lastRead = s.lastRead := by
  induction l generalizing s with
  | nil => rfl
  | cons c l ih => exact ih _
@[simp] theorem State.flags_lamp (s : State) (l : List (Nat × Nat)) : (s.flags l).lamp = s.lamp := by
  induction l generalizing s with
  | nil => rfl
  | cons c l ih => exact ih _
@[simp] theorem State.flags_nfc (s : State) (l : List (Nat × Nat)) : (s.flags l).nfc = s.nfc := by
  induction l generalizing s with
  | nil => rfl
  | cons c l ih => exact ih _
@[simp] theorem State.flags_freeCount (s : State) (l : List (Nat × Nat)) : (s.flags l).freeCount = s.freeCount := by
  induction l generalizing s with
  | nil => rfl
  | cons c l ih => exact ih _
@[simp] theorem State.flags_pending (s : State) (l : List (Nat × Nat)) : (s.flags l).pending = s.pending := by
  induction l generalizing s with
  | nil => rfl
  | cons c l ih => exact ih _

end Sys2Proof.Machine
end

