-- ==== Sys2Proof/Laws/Access.lean ====
section
/-!
SUPPORT. Accesses: one that nothing refuses goes through and leaves the state as it was; a command written there has its effect.
-/

namespace Sys2Proof.Machine

open Sys2Proof

theorem wakeFor_on (s : State) (k src : Nat) (h : s.domOn k = true) : s.wakeFor k src = (s, true) := by
  simp [State.wakeFor, h]

/-- A domain that is ON has nothing to wake. -/
theorem wakeDomain_on (s : State) (k src : Nat) (h : s.domOn k = true) : s.wakeDomain k src = s := by
  have h2 : s.dom k = 2 := Nat.eq_of_beq_eq_true h
  simp only [State.wakeDomain, h2]
  rfl

/-- An access that nothing refuses. -/
theorem guard_reaches {s : State} {who p off : Nat} {wr : Bool} (h : Reaches s who p off wr = true) :
    s.guard who p off wr = (s, true) := by
  simp only [Reaches, Bool.and_eq_true, Bool.not_eq_true', Bool.or_eq_true] at h
  obtain ⟨⟨⟨⟨⟨⟨h1, h0⟩, h2⟩, h3⟩, h4⟩, h5⟩, h6⟩ := h
  unfold State.guard
  simp only [wakeDomain_on _ _ _ h0, h1, h2, h3, h4, h5, Bool.not_true, cond_false]
  rcases h6 with h6 | h6
  · simp only [h6, cond_true]
  · rw [wakeFor_on _ _ _ h6]
    cases Nat.beq (regDomain p off) 0 <;> rfl

/-- A write that takes effect. -/
theorem guarded_writes {s : State} {who p off : Nat} (f : State → State) (h : Writes s who p off = true) :
    s.guarded who p off f = f s := by
  simp only [Writes, Bool.and_eq_true, Bool.not_eq_true'] at h
  obtain ⟨⟨h1, h2⟩, h3⟩ := h
  unfold State.guarded
  simp only [guard_reaches h1, h2, h3, Bool.not_false, Bool.and_true, cond_true, cond_false]

/-- A command of a page whose function runs. -/
theorem operate_works {s : State} {who p off : Nat} (f : State → State) (h : Works s who p off = true) :
    s.operate who p off f = f s := by
  simp only [Works, Bool.and_eq_true] at h
  unfold State.operate
  rw [guarded_writes _ h.1]
  have := h.2
  simp only [Live] at this
  simp only [State.ready, this, cond_true]

theorem writeCmd_writes {s : State} {who p off : Nat} (f : State → State) (h : Writes s who p off = true) :
    s.writeCmd who p off f = .next (f s) := by rw [State.writeCmd, guarded_writes f h]

theorem command_works {s : State} {who p off : Nat} (f : State → State) (h : Works s who p off = true) :
    s.command who p off f = .next (f s) := by rw [State.command, operate_works f h]

end Sys2Proof.Machine
end

