-- ==== Sys2Proof/Laws/Flint.lean ====
section
/-!
SUPPORT. An engine that runs an instruction with nothing wrong at its fetch: what the step does.
-/

namespace Sys2Proof.Machine
open Sys2Proof

theorem Engines.get_put (es : Engines) (k : Fin 12) (e : Engine) : (es.put k e).get k = e := by
  revert k; intro k; match k with
  | 0 => rfl | 1 => rfl | 2 => rfl | 3 => rfl | 4 => rfl | 5 => rfl | 6 => rfl | 7 => rfl | 8 => rfl | 9 => rfl | 10 => rfl | 11 => rfl
theorem Engines.put_put (es : Engines) (k : Fin 12) (e f : Engine) : (es.put k e).put k f = es.put k f := by
  match k with
  | 0 => rfl | 1 => rfl | 2 => rfl | 3 => rfl | 4 => rfl | 5 => rfl | 6 => rfl | 7 => rfl | 8 => rfl | 9 => rfl | 10 => rfl | 11 => rfl
@[simp] theorem State.eng_setEng (s : State) (k : Fin 12) (e : Engine) : (s.setEng k e).eng k = e := Engines.get_put _ k e
@[simp] theorem State.setEng_setEng (s : State) (k : Fin 12) (e f : Engine) : (s.setEng k e).setEng k f = s.setEng k f := by
  simp [State.setEng, Engines.put_put]

theorem flint_eq {s : State} {k : Fin 12} {n : Nat} {cond : BitVec 3} {op : FOp} (hr : Runs s k n) (hp : Passes s k cond)
    (hn : op.words (s.eng k) = n) (hi : (s.eng k).illegal op = false) (hd : s.brkClosed op = false) {u : State}
    (hu : (Past s k n id).flintOp k (s.eng k).pc.toNat op = .ok u) (hc : u.cluster.stepping = s.cluster.stepping) : s.flint k cond op = u := by
  simp only [Runs, Bool.and_eq_true, Bool.not_eq_true', decide_eq_true_eq, Option.isNone_iff_eq_none] at hr
  obtain ⟨⟨⟨h1, h2⟩, h3⟩, h4⟩ := hr
  have hb : s.stepBegin k = s := by simp [State.stepBegin, h2]
  have hp' : ((!(s.eng k).kfmt) && !(s.eng k).flags.holds cond) = false := by
    simp only [Passes, Bool.or_eq_true] at hp; rcases hp with h | h <;> simp [h]
  have ht : s.flintTry k cond op = .ok u := by
    rw [← hu]; simp only [State.flintTry]; rw [hn, h4]; simp only [hi, hd, Bool.or_false, hp', cond_false]; rfl
  unfold State.flint State.flintRun
  rw [h1, cond_true]
  simp only [hb, ht, State.stepEnd, hc, h3, cond_false]

theorem flint_effect {s : State} {k : Fin 12} {n : Nat} {cond : BitVec 3} {op : FOp} {f : Engine → Engine} (hr : Runs s k n)
    (hp : Passes s k cond) (hn : op.words (s.eng k) = n) (hi : (s.eng k).illegal op = false) (hd : s.brkClosed op = false)
    (he : (Past s k n id).flintOp k (s.eng k).pc.toNat op = .ok ((Past s k n id).setEng k (f ((Past s k n id).eng k)))) :
    s.flint k cond op = Past s k n f := by
  have := flint_eq hr hp hn hi hd he rfl
  rw [this]; simp [Past]

theorem passes_skips (s : State) (k : Nat) (cond : BitVec 3) : Passes s k cond = !Skips s k cond := by
  unfold Passes Skips CpuFlags.holds
  cases (s.eng k).kfmt
  · simp only [Bool.false_or, Bool.not_false, Bool.true_and]
    split <;> simp_all
  · rfl

theorem flint_skips {s : State} {k : Fin 12} {n : Nat} {cond : BitVec 3} {op : FOp} (hr : Runs s k n) (hs : Skips s k cond)
    (hn : op.words (s.eng k) = n) (hi : (s.eng k).illegal op = false) (hd : s.brkClosed op = false) : s.flint k cond op = Past s k n id := by
  simp only [Runs, Bool.and_eq_true, Bool.not_eq_true', decide_eq_true_eq, Option.isNone_iff_eq_none] at hr
  obtain ⟨⟨⟨h1, h2⟩, h3⟩, h4⟩ := hr
  have hb : s.stepBegin k = s := by simp [State.stepBegin, h2]
  have hp' : ((!(s.eng k).kfmt) && !(s.eng k).flags.holds cond) = true := by
    have := passes_skips s k cond; rw [hs] at this
    simp only [Passes, Bool.not_true, Bool.or_eq_false_iff] at this; simp [this]
  have ht : s.flintTry k cond op = .ok (Past s k n id) := by
    simp only [State.flintTry]; rw [hn, h4]; simp only [hi, hd, Bool.or_false, hp', cond_false, cond_true]; rfl
  unfold State.flint State.flintRun
  rw [h1, cond_true]
  have hq : (Past s k n id).cluster.stepping.any (Nat.beq k) = false := h3
  simp only [hb, ht, State.stepEnd, hq, cond_false]

end Sys2Proof.Machine
end

