-- ==== Sys2Proof/Laws/Memory.lean ====
section
/-!
SUPPORT. The byte memories: reading after writing, and the canonical form that every operation keeps.
-/

namespace Sys2Proof.Machine

/-! ### Reading after writing -/

theorem Memory.look_list (d : Byte) (m : Memory) (a : Nat) (v : Byte) (b : Nat) :
    (Memory.list a v m).look d b = if a = b then v else Memory.look d m b := by
  induction m with
  | nil => simp only [Memory.list, Memory.look, natBeq, bifIte]
  | cons c r ih =>
    obtain ⟨k, w⟩ := c
    simp only [Memory.list, natBlt, natBeq, bifIte]
    by_cases h1 : a < k
    · simp only [h1, if_true, Memory.look, natBeq, bifIte]
    · by_cases h3 : k = a
      · subst h3
        simp only [h1, if_false, if_true, Memory.look, natBeq, bifIte]
        by_cases h2 : k = b <;> simp [h2]
      · simp only [h1, h3, if_false, Memory.look, ih, natBeq, bifIte]
        by_cases h4 : k = b
        · subst h4; simp [Ne.symm h3]
        · simp [h4]

/-- Cells that a filter drops read as the unlisted byte, the others as before. -/
theorem Memory.look_filter (d : Byte) (m : Memory) (p : Nat → Bool) (b : Nat) :
    Memory.look d (m.filter (fun c => p c.1)) b = if p b = true then Memory.look d m b else d := by
  induction m with
  | nil => simp [Memory.look]
  | cons c r ih =>
    obtain ⟨k, w⟩ := c
    cases hp : p k with
    | true =>
      simp only [List.filter, hp, Memory.look]
      rw [ih]; simp only [natBeq, bifIte]
      by_cases h4 : k = b
      · subst h4; simp [hp]
      · simp [h4]
    | false =>
      simp only [List.filter, hp, Memory.look]
      rw [ih]; simp only [natBeq, bifIte]
      by_cases h4 : k = b
      · subst h4; simp [hp]
      · simp [h4]

/-- A byte read after a store: the stored one at its address, else as before. -/
theorem Memory.look_store (d : Byte) (m : Memory) (a : Nat) (v : Byte) (b : Nat) :
    (Memory.store d m a v).look d b = if a = b then v else Memory.look d m b := by
  unfold Memory.store
  by_cases h : v = d
  · subst h
    rw [beq_self_eq_true, cond_true, Memory.look_filter _ _ (fun k => !Nat.beq k a)]
    simp only [natBeq]
    by_cases hb : a = b
    · subst hb; simp
    · simp [hb, Ne.symm hb]
  · have : (v == d) = false := by simpa using h
    rw [this, cond_false]; exact Memory.look_list d m a v b

/-- Bytes stored at rising addresses: inside the stretch the byte of that place, outside as before. -/
theorem Memory.look_storeList (d : Byte) (m : Memory) (a : Nat) (bs : List Byte) (b : Nat) :
    (Memory.storeList d m a bs).look d b =
      if a ≤ b ∧ b < a + bs.length then bs.getD (b - a) d else Memory.look d m b := by
  induction bs generalizing m a with
  | nil => simp [Memory.storeList]
  | cons v bs ih =>
    rw [Memory.storeList, ih, Memory.look_store]
    by_cases h1 : a = b
    · subst h1
      simp
    · by_cases h2 : a + 1 ≤ b ∧ b < a + 1 + bs.length
      · have h3 : a ≤ b ∧ b < a + (bs.length + 1) := by omega
        have h4 : b - a = (b - (a + 1)) + 1 := by omega
        simp only [h2, h3, List.length_cons, and_self, if_true]
        rw [h4]; rfl
      · have h3 : ¬ (a ≤ b ∧ b < a + (bs.length + 1)) := by omega
        simp only [h2, h3, h1, List.length_cons, if_false]

/-! ### The canonical form -/

theorem Memory.wfFrom_mono (d : Byte) (m : Memory) {a b : Nat} (h : a ≤ b) (w : Memory.wfFrom d b m = true) :
    Memory.wfFrom d a m = true := by
  cases m with
  | nil => rfl
  | cons c r =>
    obtain ⟨k, v⟩ := c
    simp only [Memory.wfFrom, Bool.and_eq_true, Nat.ble_eq] at w ⊢
    exact ⟨⟨by omega, w.1.2⟩, w.2⟩

theorem Memory.wf_list (d : Byte) (m : Memory) (lo a : Nat) (v : Byte) (hv : (v == d) = false) (ha : lo ≤ a)
    (w : Memory.wfFrom d lo m = true) : Memory.wfFrom d lo (Memory.list a v m) = true := by
  induction m generalizing lo with
  | nil => simp [Memory.list, Memory.wfFrom, ha, hv]
  | cons c r ih =>
    obtain ⟨k, x⟩ := c
    simp only [Memory.wfFrom, Bool.and_eq_true, Nat.ble_eq] at w
    obtain ⟨⟨w1, w2⟩, w3⟩ := w
    simp only [Memory.list, natBlt, natBeq, bifIte]
    by_cases h1 : a < k
    · simp only [h1, if_true, Memory.wfFrom, Bool.and_eq_true, Nat.ble_eq]
      exact ⟨⟨ha, by simp [hv]⟩, ⟨by omega, w2⟩, w3⟩
    · by_cases h3 : k = a
      · subst h3
        simp only [h1, if_false, if_true, Memory.wfFrom, Bool.and_eq_true, Nat.ble_eq]
        exact ⟨⟨ha, by simp [hv]⟩, w3⟩
      · simp only [h1, h3, if_false, Memory.wfFrom, Bool.and_eq_true, Nat.ble_eq]
        exact ⟨⟨w1, w2⟩, ih (k + 1) (by omega) w3⟩

theorem Memory.wf_filter (d : Byte) (m : Memory) (p : Nat × Byte → Bool) (lo : Nat) (w : Memory.wfFrom d lo m = true) :
    Memory.wfFrom d lo (m.filter p) = true := by
  induction m generalizing lo with
  | nil => rfl
  | cons c r ih =>
    obtain ⟨k, x⟩ := c
    simp only [Memory.wfFrom, Bool.and_eq_true, Nat.ble_eq] at w
    obtain ⟨⟨w1, w2⟩, w3⟩ := w
    cases hp : p (k, x) with
    | true =>
      simp only [List.filter, hp, Memory.wfFrom, Bool.and_eq_true, Nat.ble_eq]
      exact ⟨⟨w1, w2⟩, ih _ w3⟩
    | false =>
      simp only [List.filter, hp]
      exact Memory.wfFrom_mono d _ (by omega) (ih _ w3)

/-- A store keeps the canonical form. -/
theorem Memory.wf_store (d : Byte) (m : Memory) (a : Nat) (v : Byte) (w : Memory.wf d m = true) :
    Memory.wf d (Memory.store d m a v) = true := by
  unfold Memory.store
  cases h : v == d with
  | true => rw [cond_true]; exact Memory.wf_filter d m _ 0 w
  | false => rw [cond_false]; exact Memory.wf_list d m 0 a v h (Nat.zero_le _) w

/-- So do stores of several bytes. -/
theorem Memory.wf_storeList (d : Byte) (m : Memory) (a : Nat) (bs : List Byte) (w : Memory.wf d m = true) :
    Memory.wf d (Memory.storeList d m a bs) = true := by
  induction bs generalizing m a with
  | nil => exact w
  | cons v bs ih => exact ih _ _ (Memory.wf_store d m a v w)

/-- So does clearing a stretch. -/
theorem Memory.wf_clearRange (d : Byte) (m : Memory) (lo hi : Nat) (w : Memory.wf d m = true) :
    Memory.wf d (Memory.clearRange m lo hi) = true := Memory.wf_filter d m _ 0 w

/-- Shared SRAM after a store of bytes. -/
theorem State.sram_store (s : State) (a : Nat) (bs : List Byte) (b : Nat) :
    (s.sramStore a bs).sram b = if a ≤ b ∧ b < a + bs.length then bs.getD (b - a) 0 else s.sram b :=
  Memory.look_storeList _ _ _ _ _

end Sys2Proof.Machine
end

