-- ==== Sys2Proof/Laws/Frame.lean ====
section
/-!
SUPPORT. What a function on states may change: `Frame ps s t` says that from `s` to `t` nothing outside the pieces `ps` changes and
that the canonical forms are kept. Every function of the model gets one lemma of this form; they compose.
-/

namespace Sys2Proof

open Sys2Proof.Machine

theorem Piece.same_refl (p : Piece) (s : State) : p.same s s := by cases p <;> rfl

theorem Piece.same_trans (p : Piece) {s t u : State} (h : p.same s t) (k : p.same t u) : p.same s u := by
  cases p <;> exact Eq.trans k h

end Sys2Proof

namespace Sys2Proof.Machine

open Sys2Proof

/-- Nothing outside `ps` changes, and the canonical forms are kept. -/
def Frame (ps : List Piece) (s t : State) : Prop := Within ps s t ∧ (Canonical s = true → Canonical t = true)

theorem Frame.refl {ps : List Piece} (s : State) : Frame ps s s := ⟨fun p _ => p.same_refl s, id⟩

theorem Frame.after {ps qs : List Piece} {s t u : State} (k : Frame qs t u) (h : Frame ps s t) (q : qs ⊆ ps) : Frame ps s u :=
  ⟨fun p hp => p.same_trans (h.1 p hp) (k.1 p (fun m => hp (q m))), fun c => k.2 (h.2 c)⟩

theorem Frame.mono {ps qs : List Piece} {s t : State} (k : Frame qs s t) (q : qs ⊆ ps) : Frame ps s t := k.after (Frame.refl s) q

/-- The outcome is a next state within the pieces. -/
structure Ends (ps : List Piece) (s : State) (o : Host.Outcome State Fault Refusal) : Prop where
  within : ∀ t, o = .next t → Frame ps s t

theorem Ends.next {ps : List Piece} {s t : State} (h : Frame ps s t) : Ends ps s (.next t) := ⟨fun u e => by
  cases e; exact h⟩

theorem Ends.mono {ps qs : List Piece} {s : State} {o : Host.Outcome State Fault Refusal} (k : Ends qs s o) (q : qs ⊆ ps) :
    Ends ps s o := ⟨fun u e => (k.within u e).mono q⟩

theorem Ends.cond {ps : List Piece} {s : State} {x y : Host.Outcome State Fault Refusal} (b : Bool) (hx : Ends ps s x)
    (hy : Ends ps s y) : Ends ps s (bif b then x else y) := by cases b <;> assumption

theorem subOf {ps qs : List Piece} (h : (qs.all (fun p => ps.contains p)) = true) : qs ⊆ ps := fun p hp => by
  simpa using List.all_eq_true.mp h p hp

theorem Frame.eqOf {ps : List Piece} {s t u : State} (h : ∀ p, p ∉ ps → p.same t u) (k : Canonical u = Canonical t) :
    Frame ps s u = Frame ps s t := by
  apply propext
  constructor
  · exact fun f => ⟨fun p hp => by have a := f.1 p hp; have b := h p hp; revert a b; cases p <;> exact fun a b => b.symm.trans a, fun c => k ▸ f.2 c⟩
  · exact fun f => ⟨fun p hp => p.same_trans (f.1 p hp) (h p hp), fun c => k ▸ f.2 c⟩

/-! ### Choices and repetitions -/

theorem Frame.cond {ps : List Piece} {s x y : State} (b : Bool) (hx : Frame ps s x) (hy : Frame ps s y) :
    Frame ps s (bif b then x else y) := by cases b <;> assumption

theorem Frame.ite {ps : List Piece} {s x y : State} (c : Prop) [Decidable c] (hx : Frame ps s x) (hy : Frame ps s y) :
    Frame ps s (if c then x else y) := by split <;> assumption

theorem Frame.condFst {α : Type} {ps : List Piece} {s : State} {x y : State × α} (b : Bool) (hx : Frame ps s x.1)
    (hy : Frame ps s y.1) : Frame ps s (bif b then x else y).1 := by cases b <;> assumption

theorem fstMk {α β : Type} (x : α) (y : β) : (x, y).1 = x := rfl

theorem Frame.onlyIf {ps : List Piece} {s t : State} (b : Bool) (f : State → State) (h : Frame ps s t)
    (hf : ∀ u, Frame ps s u → Frame ps s (f u)) : Frame ps s (t.onlyIf b f) := by
  unfold State.onlyIf; exact Frame.cond b (hf t h) h

theorem Frame.foldl {α : Type} {ps : List Piece} {s t : State} (l : List α) (f : State → α → State) (h : Frame ps s t)
    (hf : ∀ u a, Frame ps s u → Frame ps s (f u a)) : Frame ps s (l.foldl f t) := by
  induction l generalizing t with
  | nil => exact h
  | cons a l ih => exact ih (hf t a h)

theorem Frame.foldlFst {α β : Type} {ps : List Piece} {s : State} {t : State × β} (l : List α) (f : State × β → α → State × β)
    (h : Frame ps s t.1) (hf : ∀ u a, Frame ps s u.1 → Frame ps s (f u a).1) : Frame ps s (l.foldl f t).1 := by
  induction l generalizing t with
  | nil => exact h
  | cons a l ih => exact ih (hf t a h)

theorem Frame.each {α : Type} {ps : List Piece} {s t : State} (l : List α) (f : α → State → State) (h : Frame ps s t)
    (hf : ∀ a u, Frame ps s u → Frame ps s (f a u)) : Frame ps s (t.each l f) :=
  Frame.foldl l _ h (fun u a => hf a u)

/-! ### The field table -/

theorem Frame.setRegs (t : State) (r : Regs) (h : t.regs.wf = true → r.wf = true) : Frame [.regs] t { t with regs := r } :=
  ⟨fun p hp => by cases p <;> first | rfl | exact absurd (by decide) hp, fun c => by
    simp only [Canonical, Bool.and_eq_true] at c ⊢; exact ⟨⟨h c.1.1, c.1.2⟩, c.2⟩⟩

theorem Frame.set (t : State) (f : Fld) (v : Nat) : Frame [.regs] t (t.set f v) := Frame.setRegs t _ (Regs.wf_put _ _ _)

theorem Frame.setBit (t : State) (f : Fld) (b : Bool) : Frame [.regs] t (t.setBit f b) := Frame.set ..
theorem Frame.bump (t : State) (f : Fld) (n : Nat) : Frame [.regs] t (t.bump f n) := Frame.set ..
theorem Frame.bumpWrap (t : State) (f : Fld) (n : Nat) : Frame [.regs] t (t.bumpWrap f n) := Frame.set ..

theorem Frame.setAll (t : State) (l : List (Fld × Nat)) : Frame [.regs] t (t.setAll l) := by
  induction l generalizing t with
  | nil => exact Frame.refl t
  | cons c l ih => exact (ih _).after (Frame.set t c.1 c.2) (List.Subset.refl _)

theorem Frame.flags (t : State) (l : List (Nat × Nat)) : Frame [.regs] t (t.flags l) := by
  induction l generalizing t with
  | nil => exact Frame.refl t
  | cons c l ih => exact (ih _).after (Frame.set t _ 1) (List.Subset.refl _)

/-! ### Shared SRAM -/

theorem Frame.setMem (t : State) (m : Memory) (h : Memory.wf 0 t.mem = true → Memory.wf 0 m = true) :
    Frame [.mem] t { t with mem := m } :=
  ⟨fun p hp => by cases p <;> first | rfl | exact absurd (by decide) hp, fun c => by
    simp only [Canonical, Bool.and_eq_true] at c ⊢; exact ⟨⟨c.1.1, h c.1.2⟩, c.2⟩⟩

theorem Frame.sramStore (t : State) (a : Nat) (bs : List Byte) : Frame [.mem] t (t.sramStore a bs) :=
  Frame.setMem t _ (Memory.wf_storeList 0 _ a bs)

/-! ### Updates of whole pieces -/

theorem Frame.updE_assoc {ps : List Piece} {s t : State} {x0 : AssocSt} (hp : ([.assoc] : List Piece).all (fun p => ps.contains p) = true) :
    Frame ps s { t with assoc := x0 } = Frame ps s t :=
  Frame.eqOf (fun p hq => by cases p <;> first | rfl | exact absurd (subOf hp (by decide)) hq) rfl

theorem Frame.updE_assoc_msg {ps : List Piece} {s t : State} {x0 : AssocSt} {x1 : MsgSt} (hp : ([.assoc, .msg] : List Piece).all (fun p => ps.contains p) = true) :
    Frame ps s { t with assoc := x0, msg := x1 } = Frame ps s t :=
  Frame.eqOf (fun p hq => by cases p <;> first | rfl | exact absurd (subOf hp (by decide)) hq) rfl

theorem Frame.updE_bridge {ps : List Piece} {s t : State} {x0 : Bridge} (hp : ([.bridge] : List Piece).all (fun p => ps.contains p) = true) :
    Frame ps s { t with bridge := x0 } = Frame ps s t :=
  Frame.eqOf (fun p hq => by cases p <;> first | rfl | exact absurd (subOf hp (by decide)) hq) rfl

theorem Frame.updE_bridge_lamp {ps : List Piece} {s t : State} {x0 : Bridge} {x1 : Lamp} (hp : ([.bridge, .lamp] : List Piece).all (fun p => ps.contains p) = true) :
    Frame ps s { t with bridge := x0, lamp := x1 } = Frame ps s t :=
  Frame.eqOf (fun p hq => by cases p <;> first | rfl | exact absurd (subOf hp (by decide)) hq) rfl

theorem Frame.updE_cluster {ps : List Piece} {s t : State} {x0 : Cluster} (hp : ([.cluster] : List Piece).all (fun p => ps.contains p) = true) :
    Frame ps s { t with cluster := x0 } = Frame ps s t :=
  Frame.eqOf (fun p hq => by cases p <;> first | rfl | exact absurd (subOf hp (by decide)) hq) rfl

theorem Frame.updE_compat {ps : List Piece} {s t : State} {x0 : Compat} (hp : ([.compat] : List Piece).all (fun p => ps.contains p) = true) :
    Frame ps s { t with compat := x0 } = Frame ps s t :=
  Frame.eqOf (fun p hq => by cases p <;> first | rfl | exact absurd (subOf hp (by decide)) hq) rfl

theorem Frame.updE_dma {ps : List Piece} {s t : State} {x0 : List Channel} (hp : ([.dma] : List Piece).all (fun p => ps.contains p) = true) :
    Frame ps s { t with dma := x0 } = Frame ps s t :=
  Frame.eqOf (fun p hq => by cases p <;> first | rfl | exact absurd (subOf hp (by decide)) hq) rfl

theorem Frame.updE_doms {ps : List Piece} {s t : State} {x0 : Domains} (hp : ([.doms] : List Piece).all (fun p => ps.contains p) = true) :
    Frame ps s { t with doms := x0 } = Frame ps s t :=
  Frame.eqOf (fun p hq => by cases p <;> first | rfl | exact absurd (subOf hp (by decide)) hq) rfl

theorem Frame.updE_doms_nfc {ps : List Piece} {s t : State} {x0 : Domains} {x1 : Nfc} (hp : ([.doms, .nfc] : List Piece).all (fun p => ps.contains p) = true) :
    Frame ps s { t with doms := x0, nfc := x1 } = Frame ps s t :=
  Frame.eqOf (fun p hq => by cases p <;> first | rfl | exact absurd (subOf hp (by decide)) hq) rfl

theorem Frame.updE_engines {ps : List Piece} {s t : State} {x0 : Engines} (hp : ([.engines] : List Piece).all (fun p => ps.contains p) = true) :
    Frame ps s { t with engines := x0 } = Frame ps s t :=
  Frame.eqOf (fun p hq => by cases p <;> first | rfl | exact absurd (subOf hp (by decide)) hq) rfl

theorem Frame.updE_fabric {ps : List Piece} {s t : State} {x0 : Fabric} (hp : ([.fabric] : List Piece).all (fun p => ps.contains p) = true) :
    Frame ps s { t with fabric := x0 } = Frame ps s t :=
  Frame.eqOf (fun p hq => by cases p <;> first | rfl | exact absurd (subOf hp (by decide)) hq) rfl

theorem Frame.upd_flash (t : State) (x0 : Flash) (hflash : Memory.wf 0xFF t.flash.cells = true → Memory.wf 0xFF x0.cells = true) :
    Frame [.flash] t { t with flash := x0 } :=
  ⟨fun p hp => by cases p <;> first | rfl | exact absurd (by decide) hp, fun c => by
    simp only [Canonical, Bool.and_eq_true] at c ⊢; exact ⟨⟨c.1.1, c.1.2⟩, hflash c.2⟩⟩

theorem Frame.updE_freeCount {ps : List Piece} {s t : State} {x0 : Nat} (hp : ([.freeCount] : List Piece).all (fun p => ps.contains p) = true) :
    Frame ps s { t with freeCount := x0 } = Frame ps s t :=
  Frame.eqOf (fun p hq => by cases p <;> first | rfl | exact absurd (subOf hp (by decide)) hq) rfl

theorem Frame.updE_garnet {ps : List Piece} {s t : State} {x0 : Garnet} (hp : ([.garnet] : List Piece).all (fun p => ps.contains p) = true) :
    Frame ps s { t with garnet := x0 } = Frame ps s t :=
  Frame.eqOf (fun p hq => by cases p <;> first | rfl | exact absurd (subOf hp (by decide)) hq) rfl

theorem Frame.updE_keys {ps : List Piece} {s t : State} {x0 : List KeySlot} (hp : ([.keys] : List Piece).all (fun p => ps.contains p) = true) :
    Frame ps s { t with keys := x0 } = Frame ps s t :=
  Frame.eqOf (fun p hq => by cases p <;> first | rfl | exact absurd (subOf hp (by decide)) hq) rfl

theorem Frame.updE_lamp {ps : List Piece} {s t : State} {x0 : Lamp} (hp : ([.lamp] : List Piece).all (fun p => ps.contains p) = true) :
    Frame ps s { t with lamp := x0 } = Frame ps s t :=
  Frame.eqOf (fun p hq => by cases p <;> first | rfl | exact absurd (subOf hp (by decide)) hq) rfl

theorem Frame.updE_lastRead {ps : List Piece} {s t : State} {x0 : Nat} (hp : ([.lastRead] : List Piece).all (fun p => ps.contains p) = true) :
    Frame ps s { t with lastRead := x0 } = Frame ps s t :=
  Frame.eqOf (fun p hq => by cases p <;> first | rfl | exact absurd (subOf hp (by decide)) hq) rfl

theorem Frame.upd_mem (t : State) (x0 : Memory) (hmem : Memory.wf 0 t.mem = true → Memory.wf 0 x0 = true) :
    Frame [.mem] t { t with mem := x0 } :=
  ⟨fun p hp => by cases p <;> first | rfl | exact absurd (by decide) hp, fun c => by
    simp only [Canonical, Bool.and_eq_true] at c ⊢; exact ⟨⟨c.1.1, hmem c.1.2⟩, c.2⟩⟩

theorem Frame.upd_mem_sched_assoc_msg_pair_keys (t : State) (x0 : Memory) (x1 : Sched) (x2 : AssocSt) (x3 : MsgSt) (x4 : Pair) (x5 : List KeySlot) (hmem : Memory.wf 0 t.mem = true → Memory.wf 0 x0 = true) :
    Frame [.mem, .sched, .assoc, .msg, .pair, .keys] t { t with mem := x0, sched := x1, assoc := x2, msg := x3, pair := x4, keys := x5 } :=
  ⟨fun p hp => by cases p <;> first | rfl | exact absurd (by decide) hp, fun c => by
    simp only [Canonical, Bool.and_eq_true] at c ⊢; exact ⟨⟨c.1.1, hmem c.1.2⟩, c.2⟩⟩

theorem Frame.updE_mesh {ps : List Piece} {s t : State} {x0 : Mesh} (hp : ([.mesh] : List Piece).all (fun p => ps.contains p) = true) :
    Frame ps s { t with mesh := x0 } = Frame ps s t :=
  Frame.eqOf (fun p hq => by cases p <;> first | rfl | exact absurd (subOf hp (by decide)) hq) rfl

theorem Frame.updE_mode {ps : List Piece} {s t : State} {x0 : Mode} (hp : ([.mode] : List Piece).all (fun p => ps.contains p) = true) :
    Frame ps s { t with mode := x0 } = Frame ps s t :=
  Frame.eqOf (fun p hq => by cases p <;> first | rfl | exact absurd (subOf hp (by decide)) hq) rfl

theorem Frame.updE_mode_supply {ps : List Piece} {s t : State} {x0 : Mode} {x1 : Supply} (hp : ([.mode, .supply] : List Piece).all (fun p => ps.contains p) = true) :
    Frame ps s { t with mode := x0, supply := x1 } = Frame ps s t :=
  Frame.eqOf (fun p hq => by cases p <;> first | rfl | exact absurd (subOf hp (by decide)) hq) rfl

theorem Frame.updE_modes {ps : List Piece} {s t : State} {x0 : ModeSt} (hp : ([.modes] : List Piece).all (fun p => ps.contains p) = true) :
    Frame ps s { t with modes := x0 } = Frame ps s t :=
  Frame.eqOf (fun p hq => by cases p <;> first | rfl | exact absurd (subOf hp (by decide)) hq) rfl

theorem Frame.updE_msg {ps : List Piece} {s t : State} {x0 : MsgSt} (hp : ([.msg] : List Piece).all (fun p => ps.contains p) = true) :
    Frame ps s { t with msg := x0 } = Frame ps s t :=
  Frame.eqOf (fun p hq => by cases p <;> first | rfl | exact absurd (subOf hp (by decide)) hq) rfl

theorem Frame.updE_msg_lastRead {ps : List Piece} {s t : State} {x0 : MsgSt} {x1 : Nat} (hp : ([.msg, .lastRead] : List Piece).all (fun p => ps.contains p) = true) :
    Frame ps s { t with msg := x0, lastRead := x1 } = Frame ps s t :=
  Frame.eqOf (fun p hq => by cases p <;> first | rfl | exact absurd (subOf hp (by decide)) hq) rfl

theorem Frame.updE_msg_pair {ps : List Piece} {s t : State} {x0 : MsgSt} {x1 : Pair} (hp : ([.msg, .pair] : List Piece).all (fun p => ps.contains p) = true) :
    Frame ps s { t with msg := x0, pair := x1 } = Frame ps s t :=
  Frame.eqOf (fun p hq => by cases p <;> first | rfl | exact absurd (subOf hp (by decide)) hq) rfl

theorem Frame.updE_nfc {ps : List Piece} {s t : State} {x0 : Nfc} (hp : ([.nfc] : List Piece).all (fun p => ps.contains p) = true) :
    Frame ps s { t with nfc := x0 } = Frame ps s t :=
  Frame.eqOf (fun p hq => by cases p <;> first | rfl | exact absurd (subOf hp (by decide)) hq) rfl

theorem Frame.updE_pair {ps : List Piece} {s t : State} {x0 : Pair} (hp : ([.pair] : List Piece).all (fun p => ps.contains p) = true) :
    Frame ps s { t with pair := x0 } = Frame ps s t :=
  Frame.eqOf (fun p hq => by cases p <;> first | rfl | exact absurd (subOf hp (by decide)) hq) rfl

theorem Frame.updE_plc {ps : List Piece} {s t : State} {x0 : Plc} (hp : ([.plc] : List Piece).all (fun p => ps.contains p) = true) :
    Frame ps s { t with plc := x0 } = Frame ps s t :=
  Frame.eqOf (fun p hq => by cases p <;> first | rfl | exact absurd (subOf hp (by decide)) hq) rfl

theorem Frame.updE_plc_sched {ps : List Piece} {s t : State} {x0 : Plc} {x1 : Sched} (hp : ([.plc, .sched] : List Piece).all (fun p => ps.contains p) = true) :
    Frame ps s { t with plc := x0, sched := x1 } = Frame ps s t :=
  Frame.eqOf (fun p hq => by cases p <;> first | rfl | exact absurd (subOf hp (by decide)) hq) rfl

theorem Frame.updE_radio {ps : List Piece} {s t : State} {x0 : Radio} (hp : ([.radio] : List Piece).all (fun p => ps.contains p) = true) :
    Frame ps s { t with radio := x0 } = Frame ps s t :=
  Frame.eqOf (fun p hq => by cases p <;> first | rfl | exact absurd (subOf hp (by decide)) hq) rfl

theorem Frame.upd_regs (t : State) (x0 : Regs) (hregs : t.regs.wf = true → x0.wf = true) :
    Frame [.regs] t { t with regs := x0 } :=
  ⟨fun p hp => by cases p <;> first | rfl | exact absurd (by decide) hp, fun c => by
    simp only [Canonical, Bool.and_eq_true] at c ⊢; exact ⟨⟨hregs c.1.1, c.1.2⟩, c.2⟩⟩

theorem Frame.upd_regs_mode (t : State) (x0 : Regs) (x1 : Mode) (hregs : t.regs.wf = true → x0.wf = true) :
    Frame [.regs, .mode] t { t with regs := x0, mode := x1 } :=
  ⟨fun p hp => by cases p <;> first | rfl | exact absurd (by decide) hp, fun c => by
    simp only [Canonical, Bool.and_eq_true] at c ⊢; exact ⟨⟨hregs c.1.1, c.1.2⟩, c.2⟩⟩

theorem Frame.upd_regs_ret_pair_keys_lamp (t : State) (x0 : Regs) (x1 : Retained) (x2 : Pair) (x3 : List KeySlot) (x4 : Lamp) (hregs : t.regs.wf = true → x0.wf = true) :
    Frame [.regs, .ret, .pair, .keys, .lamp] t { t with regs := x0, ret := x1, pair := x2, keys := x3, lamp := x4 } :=
  ⟨fun p hp => by cases p <;> first | rfl | exact absurd (by decide) hp, fun c => by
    simp only [Canonical, Bool.and_eq_true] at c ⊢; exact ⟨⟨hregs c.1.1, c.1.2⟩, c.2⟩⟩

theorem Frame.updE_ret {ps : List Piece} {s t : State} {x0 : Retained} (hp : ([.ret] : List Piece).all (fun p => ps.contains p) = true) :
    Frame ps s { t with ret := x0 } = Frame ps s t :=
  Frame.eqOf (fun p hq => by cases p <;> first | rfl | exact absurd (subOf hp (by decide)) hq) rfl

theorem Frame.updE_ret_keys {ps : List Piece} {s t : State} {x0 : Retained} {x1 : List KeySlot} (hp : ([.ret, .keys] : List Piece).all (fun p => ps.contains p) = true) :
    Frame ps s { t with ret := x0, keys := x1 } = Frame ps s t :=
  Frame.eqOf (fun p hq => by cases p <;> first | rfl | exact absurd (subOf hp (by decide)) hq) rfl

theorem Frame.updE_ret_mesh {ps : List Piece} {s t : State} {x0 : Retained} {x1 : Mesh} (hp : ([.ret, .mesh] : List Piece).all (fun p => ps.contains p) = true) :
    Frame ps s { t with ret := x0, mesh := x1 } = Frame ps s t :=
  Frame.eqOf (fun p hq => by cases p <;> first | rfl | exact absurd (subOf hp (by decide)) hq) rfl

theorem Frame.updE_rtc {ps : List Piece} {s t : State} {x0 : Rtc} (hp : ([.rtc] : List Piece).all (fun p => ps.contains p) = true) :
    Frame ps s { t with rtc := x0 } = Frame ps s t :=
  Frame.eqOf (fun p hq => by cases p <;> first | rfl | exact absurd (subOf hp (by decide)) hq) rfl

theorem Frame.updE_rtc_lastRead {ps : List Piece} {s t : State} {x0 : Rtc} {x1 : Nat} (hp : ([.rtc, .lastRead] : List Piece).all (fun p => ps.contains p) = true) :
    Frame ps s { t with rtc := x0, lastRead := x1 } = Frame ps s t :=
  Frame.eqOf (fun p hq => by cases p <;> first | rfl | exact absurd (subOf hp (by decide)) hq) rfl

theorem Frame.updE_sched {ps : List Piece} {s t : State} {x0 : Sched} (hp : ([.sched] : List Piece).all (fun p => ps.contains p) = true) :
    Frame ps s { t with sched := x0 } = Frame ps s t :=
  Frame.eqOf (fun p hq => by cases p <;> first | rfl | exact absurd (subOf hp (by decide)) hq) rfl

theorem Frame.updE_sched_keys {ps : List Piece} {s t : State} {x0 : Sched} {x1 : List KeySlot} (hp : ([.sched, .keys] : List Piece).all (fun p => ps.contains p) = true) :
    Frame ps s { t with sched := x0, keys := x1 } = Frame ps s t :=
  Frame.eqOf (fun p hq => by cases p <;> first | rfl | exact absurd (subOf hp (by decide)) hq) rfl

theorem Frame.updE_sched_lastRead {ps : List Piece} {s t : State} {x0 : Sched} {x1 : Nat} (hp : ([.sched, .lastRead] : List Piece).all (fun p => ps.contains p) = true) :
    Frame ps s { t with sched := x0, lastRead := x1 } = Frame ps s t :=
  Frame.eqOf (fun p hq => by cases p <;> first | rfl | exact absurd (subOf hp (by decide)) hq) rfl

theorem Frame.updE_sched_mesh {ps : List Piece} {s t : State} {x0 : Sched} {x1 : Mesh} (hp : ([.sched, .mesh] : List Piece).all (fun p => ps.contains p) = true) :
    Frame ps s { t with sched := x0, mesh := x1 } = Frame ps s t :=
  Frame.eqOf (fun p hq => by cases p <;> first | rfl | exact absurd (subOf hp (by decide)) hq) rfl

theorem Frame.updE_sched_pair {ps : List Piece} {s t : State} {x0 : Sched} {x1 : Pair} (hp : ([.sched, .pair] : List Piece).all (fun p => ps.contains p) = true) :
    Frame ps s { t with sched := x0, pair := x1 } = Frame ps s t :=
  Frame.eqOf (fun p hq => by cases p <;> first | rfl | exact absurd (subOf hp (by decide)) hq) rfl

theorem Frame.updE_spi {ps : List Piece} {s t : State} {x0 : Spi} (hp : ([.spi] : List Piece).all (fun p => ps.contains p) = true) :
    Frame ps s { t with spi := x0 } = Frame ps s t :=
  Frame.eqOf (fun p hq => by cases p <;> first | rfl | exact absurd (subOf hp (by decide)) hq) rfl

theorem Frame.updE_strata {ps : List Piece} {s t : State} {x0 : Strata} (hp : ([.strata] : List Piece).all (fun p => ps.contains p) = true) :
    Frame ps s { t with strata := x0 } = Frame ps s t :=
  Frame.eqOf (fun p hq => by cases p <;> first | rfl | exact absurd (subOf hp (by decide)) hq) rfl

theorem Frame.updE_supply {ps : List Piece} {s t : State} {x0 : Supply} (hp : ([.supply] : List Piece).all (fun p => ps.contains p) = true) :
    Frame ps s { t with supply := x0 } = Frame ps s t :=
  Frame.eqOf (fun p hq => by cases p <;> first | rfl | exact absurd (subOf hp (by decide)) hq) rfl

theorem Frame.updE_update {ps : List Piece} {s t : State} {x0 : Update} (hp : ([.update] : List Piece).all (fun p => ps.contains p) = true) :
    Frame ps s { t with update := x0 } = Frame ps s t :=
  Frame.eqOf (fun p hq => by cases p <;> first | rfl | exact absurd (subOf hp (by decide)) hq) rfl

end Sys2Proof.Machine
end

