-- ==== Sys2Proof/WellFormed.lean ====
section
/-!
DEFINITION. Which commands are well formed: operands that their types leave wider than the spec does stay in the spec's range.
-/

namespace Sys2Proof


/-- The command codes of the YN4100 set (R158). -/
def compatCommand (cmd : Nat) : Bool :=
  [0x01, 0x02, 0x03, 0x10, 0x11, 0x12, 0x20, 0x30, 0x31, 0x32, 0x40, 0x41, 0x50, 0x60, 0x61, 0x7E, 0x7F].any (Nat.beq cmd)
/-- The command is well formed. -/
def Instr.wf : Instr → Bool
  | .bridgeFrameReceived _ _ => true
  | .mainsPageAccessComplete => true
  | .bridgeSilenceTimeout => true
  | .mainsBridgeHold => true
  | .aoutHoldTimeout => true
  | .bridgeRecovery => true
  | .bridgeRestart => true
  | .zeroCrossingTimestamp _ _ _ _ => true
  | .zeroCrossingMiss => true
  | .mainsPresent _ _ _ => true
  | .mainsLost _ _ => true
  | .lastGaspComplete => true
  | .brownoutStart _ => true
  | .brownoutEnd _ => true
  | .overvoltage _ _ => true
  | .supplyFault => true
  | .supplyRestart => true
  | .vbakUsable _ => true
  | .vbakUnusable _ => true
  | .v3outUndervoltage => true
  | .v3outRetry => true
  | .rstnLow => true
  | .resetFrameReceived => true
  | .fieldPresent => true
  | .fieldRemoved => true
  | .bootResetRelease _ _ => true
  | .bootComplete _ => true
  | .modeReqHold _ _ _ => true
  | .modeReqCommission _ _ _ => true
  | .modeReqService _ _ _ => true
  | .modeReqMaintenance _ _ _ => true
  | .maintenanceWorkComplete => true
  | .outageLimitExpiry => true
  | .holdWakeExpiry => true
  | .retCommit _ => true
  | .retCommitComplete _ => true
  | .opsecSecond => true
  | .faultCapture _ _ _ _ => true
  | .faultDone _ => true
  | .faultHandlerTimeout => true
  | .xoFail => true
  | .lfStop _ => true
  | .lfReturn => true
  | .domcmdOff _ _ _ => true
  | .domcmdRetention _ _ _ => true
  | .domcmdOn _ _ _ => true
  | .domcmdAuto _ _ _ => true
  | .domainIdleEntry _ _ _ => true
  | .domainWake _ _ => true
  | .domainWakeReady _ => true
  | .pwrHostreqWrite _ _ => true
  | .hostWakeRise _ => true
  | .asqPeriod _ _ => true
  | .fastClockStop => true
  | .fastClockReady => true
  | .clkHostreqWrite _ _ => true
  | .stitchUpdate => true
  | .pageEnable _ _ => true
  | .pageCheckComplete _ => true
  | .pageDisable _ _ => true
  | .pageStopComplete _ => true
  | .pageSoftrst _ _ => true
  | .pageLock _ _ => true
  | .registerWrite _ _ _ _ => true
  | .ownerAssign _ _ => true
  | .spiRd1 addr _ _ => Nat.beq (addr.toNat % 4) 0
  | .spiWr1 addr _ => Nat.beq (addr.toNat % 4) 0
  | .spiRdq addr _ _ => Nat.beq (addr.toNat % 4) 0
  | .spiWrq addr _ => Nat.beq (addr.toNat % 4) 0
  | .spiRdstat => true
  | .spiEnqpi => true
  | .spiExqpi => true
  | .spiRsten => true
  | .spiRstif => true
  | .heldReadComplete => true
  | .postedWriteDrain => true
  | .siteCommit _ => true
  | .uartFrameGap => true
  | .compatPing _ _ payload => Nat.ble payload.length 248
  | .compatGetInfo _ _ payload => Nat.ble payload.length 248
  | .compatReset _ _ payload => Nat.ble payload.length 248
  | .compatSetRegion _ _ payload => Nat.ble payload.length 248
  | .compatSetRole _ _ payload => Nat.ble payload.length 248
  | .compatJoin _ _ payload => Nat.ble payload.length 248
  | .compatSend _ _ payload => Nat.ble payload.length 248
  | .compatLampSet _ _ payload => Nat.ble payload.length 248
  | .compatLampGet _ _ payload => Nat.ble payload.length 248
  | .compatMeterGet _ _ payload => Nat.ble payload.length 248
  | .compatTimeSet _ _ payload => Nat.ble payload.length 248
  | .compatTimeGet _ _ payload => Nat.ble payload.length 248
  | .compatFwBlock _ _ payload => Nat.ble payload.length 248
  | .compatRegRead _ _ payload => Nat.ble payload.length 248
  | .compatRegWrite _ _ payload => Nat.ble payload.length 248
  | .compatAck _ _ payload => Nat.ble payload.length 248
  | .compatSetBaud _ _ payload => Nat.ble payload.length 248
  | .indicationResend => true
  | .fwBlockDeferredWrite => true
  | .chainCalComplete _ _ => true
  | .rfcalRun _ _ => true
  | .tempCheck _ _ _ => true
  | .tempSetComplete _ _ _ => true
  | .cellArm _ _ => true
  | .energyDetect _ _ => true
  | .qualifierTimeout _ => true
  | .preambleQualified _ _ _ => true
  | .laneDetect _ => true
  | .sfdDetected _ _ => true
  | .sfdTimeout _ => true
  | .phrReceived _ _ _ => true
  | .rfFrameEnd _ _ _ => true
  | .rxWindowClose _ => true
  | .rfTxStart _ _ => true
  | .rfTxEnd _ => true
  | .txDeferredStart _ _ _ => true
  | .micaWakeMatch _ _ => true
  | .plcPreambleDetect _ => true
  | .plcMTimeout => true
  | .plcFchDecoded _ _ => true
  | .plcFrameEnd _ _ _ _ => true
  | .plcRxWindowClose => true
  | .plcTxStart _ => true
  | .plcTxEnd _ => true
  | .plcTxDeferredStart _ _ => true
  | .driverThermalChange _ => true
  | .soundingRunComplete bins => Nat.beq bins.length 16
  | .tonemapRegenOne _ => true
  | .tonemapRegenAll _ => true
  | .prevVersionExpiry _ => true
  | .slotBoundary => true
  | .slotframeBoundary => true
  | .mediumLeavesService _ => true
  | .cellcmdAdd _ => true
  | .cellcmdDel _ _ => true
  | .cellcmdRead _ _ => true
  | .cellcmdDeleteSf _ => true
  | .schedTime0Read _ _ => true
  | .ackMissed _ => true
  | .keepaliveDue => true
  | .resyncExpiry _ _ => true
  | .pollDue => true
  | .pollResponseEnd => true
  | .childPollTimeout _ => true
  | .linksecKeyLoad _ => true
  | .linksecKeyErase _ => true
  | .meshScan _ => true
  | .meshJoin _ _ => true
  | .meshJoinBest _ => true
  | .meshAbort _ => true
  | .scanTimeout => true
  | .joinWaitExpiry => true
  | .meshcmdJoinRelay => true
  | .meshcmdJoinAnswer => true
  | .meshcmdParentUpdate => true
  | .meshcmdLeave => true
  | .meshcmdRouteErr => true
  | .assocLookup _ => true
  | .assocPreload _ => true
  | .assocApprove _ _ => true
  | .assocDeny _ _ => true
  | .assocDelete _ _ => true
  | .assocNextPending _ _ => true
  | .assocRehash _ => true
  | .rehashComplete => true
  | .approveTimeout _ => true
  | .entryStale _ => true
  | .snapstotAppend => true
  | .tableRestoreComplete => true
  | .msgSend _ => true
  | .msgCancel _ => true
  | .msgSendComplete => true
  | .mboxMsgSend _ _ _ _ _ _ => true
  | .mboxMsgCancel _ _ _ => true
  | .messageAdmitted _ => true
  | .reassemblyTimeout _ _ => true
  | .rxtailWrite _ _ => true
  | .attemptTimeout _ => true
  | .attemptStart _ => true
  | .messageExpired _ => true
  | .msgDonePop _ => true
  | .basaltHello _ _ => true
  | .basaltHeartbeat _ _ => true
  | .basaltAck _ => true
  | .basaltCopy _ _ _ => true
  | .basaltRecord _ _ _ => true
  | .basaltHandover _ _ _ => true
  | .heartbeatSend _ => true
  | .helloSend => true
  | .basaltRetxTimeout => true
  | .partnerSilence _ => true
  | .pairPresChange _ => true
  | .onairCheckEnd _ => true
  | .gatedAckTimeout => true
  | .reserveReportTimeout => true
  | .bulkCopyComplete => true
  | .pairHandover _ _ => true
  | .pairResync _ _ => true
  | .mov _ _ _ _ => true
  | .add _ _ _ _ => true
  | .adc _ _ _ _ => true
  | .sub _ _ _ _ => true
  | .sbc _ _ _ _ => true
  | .and _ _ _ _ => true
  | .or _ _ _ _ => true
  | .xor _ _ _ _ => true
  | .cmp _ _ _ _ => true
  | .tst _ _ _ _ => true
  | .inc _ _ _ => true
  | .dec _ _ _ => true
  | .not _ _ _ => true
  | .neg _ _ _ => true
  | .shl _ _ _ => true
  | .shr _ _ _ => true
  | .asr _ _ _ => true
  | .rol _ _ _ => true
  | .ror _ _ _ => true
  | .swap _ _ _ => true
  | .clr _ _ _ => true
  | .addw _ _ _ _ => true
  | .subw _ _ _ _ => true
  | .cmpw _ _ _ _ => true
  | .movw _ _ _ _ => true
  | .movp _ _ _ _ => true
  | .addp _ _ _ _ => true
  | .movpw _ _ _ _ => true
  | .movwp _ _ _ _ => true
  | .ld _ _ _ _ => true
  | .st _ _ _ _ => true
  | .ldw _ _ _ _ => true
  | .stw _ _ _ _ => true
  | .push _ _ _ => true
  | .pop _ _ _ => true
  | .pushp _ _ _ => true
  | .popp _ _ _ => true
  | .pushw _ _ _ => true
  | .popw _ _ _ => true
  | .br _ _ _ => true
  | .bra _ _ => true
  | .jmp _ _ _ => true
  | .call _ _ _ => true
  | .ret _ _ => true
  | .djnz _ _ _ _ => true
  | .nop _ _ => true
  | .wait _ _ => true
  | .waitWake _ => true
  | .pushf _ _ => true
  | .popf _ _ => true
  | .movsp _ _ _ => true
  | .brk _ _ => true
  | .clc _ _ => true
  | .sec _ _ => true
  | .clv _ _ => true
  | .btst _ _ _ _ => true
  | .bset _ _ _ _ => true
  | .bclr _ _ _ _ => true
  | .btgl _ _ _ _ => true
  | .mulu _ _ _ _ => true
  | .cbeq _ _ _ => true
  | .cbne _ _ _ => true
  | .cblt _ _ _ => true
  | .cbge _ _ _ => true
  | .cbeqw _ _ _ _ => true
  | .cbnew _ _ _ _ => true
  | .cbltw _ _ _ _ => true
  | .cbgew _ _ _ _ => true
  | .customInstruction _ _ _ _ _ => true
  | .mcodeOpen _ => true
  | .mcodeCommit _ => true
  | .mcodeDataAccess _ _ => true
  | .mcodeScrub _ _ => true
  | .mailboxSend _ _ => true
  | .mailboxPop _ => true
  | .engineRelease _ _ => true
  | .engineStop _ _ => true
  | .engineWdogExpiry _ => true
  | .debugHalt _ _ => true
  | .debugResume _ _ => true
  | .debugStep _ _ => true
  | .breakpointMatch _ => true
  | .dbgRd1 _ _ => true
  | .dbgWr1 _ _ => true
  | .dbgRdstat => true
  | .collectPost _ _ _ _ => true
  | .collectPop _ => true
  | .collectResponse _ _ => true
  | .collectRespRead _ => true
  | .e10LampSet => true
  | .e10LampGet => true
  | .lampGetTimeout => true
  | .quartzEventDelivery _ => true
  | .swevSignal _ => true
  | .hostSignal _ => true
  | .eventPendClear _ _ _ => true
  | .selectorWrite _ _ _ => true
  | .tapWrite _ _ _ => true
  | .timerGo _ => true
  | .timerReset _ _ => true
  | .timCmpWrite _ _ _ _ => true
  | .timCfgWrite _ _ _ => true
  | .compareMatch _ _ => true
  | .capRead _ _ => true
  | .rtcSecond _ => true
  | .rtcCntRead _ _ => true
  | .rtcCommitCount _ _ => true
  | .rtcCommitCalendar _ _ => true
  | .rtcCommitLand _ _ => true
  | .rtcShift _ _ _ => true
  | .rtcShiftDone => true
  | .alarmCtlWrite _ _ _ => true
  | .chargerDone => true
  | .chargerRestart => true
  | .chgWrite _ _ => true
  | .dmaRunSet _ _ => true
  | .dmaRunClear _ _ => true
  | .dmaPoke _ _ => true
  | .dmaTrigger _ => true
  | .dmaDescriptorComplete _ => true
  | .dmaBusError _ _ _ => true
  | .dmaClear _ => true
  | .flashRead _ _ => true
  | .flashProgram _ _ _ => true
  | .flashEraseS _ _ _ => true
  | .flashEraseB _ _ _ => true
  | .flashPoll _ _ => true
  | .flashSuspend _ _ _ => true
  | .flashResume _ _ => true
  | .flashSwap _ _ => true
  | .flashJopen _ _ => true
  | .flashJclose _ _ => true
  | .flashEraseComplete _ => true
  | .storeRead _ => true
  | .storeProgram _ => true
  | .storeErase _ _ => true
  | .storeCommandComplete _ _ => true
  | .mboxStoreRead _ _ _ _ _ => true
  | .mboxStoreProgram _ _ _ _ _ => true
  | .mboxStoreErase _ _ _ _ _ => true
  | .mboxAesBlock _ _ _ _ _ _ => true
  | .mboxHash _ _ _ _ _ => true
  | .mboxVerify _ _ _ => true
  | .mboxExtend7 _ _ _ => true
  | .drbgReseed => true
  | .healthTestFail => true
  | .cipherKeyLoad _ => true
  | .cipherKeyErase _ => true
  | .cipherGo _ _ _ => true
  | .aesComplete => true
  | .hashInit _ => true
  | .hashDataWrite _ _ => true
  | .hashFinal _ _ => true
  | .hashFinalComplete => true
  | .hashExtend7 _ => true
  | .pkeVerify _ => true
  | .pkeSign _ => true
  | .pkeQuote _ => true
  | .pkeCert _ => true
  | .pkeRandom _ => true
  | .pkeChallenge _ => true
  | .pkeDebugOpen _ => true
  | .pkeCkeyProg _ _ => true
  | .pkeCkeyRevoke _ _ => true
  | .pkeComplete => true
  | .attestRequest => true
  | .debugAccessExpiry => true
  | .updateOpen _ => true
  | .updateWrite _ => true
  | .updateWriteComplete _ _ => true
  | .updateVerify _ => true
  | .updateVerifyComplete => true
  | .updateSchedule _ => true
  | .updateCancel _ => true
  | .activationStart => true
  | .activationComplete _ => true
  | .strataWrite _ => true
  | .strataRead _ => true
  | .strataChallenge _ => true
  | .strataClear _ => true
  | .strataFlush _ => true
  | .mboxStrataRecord _ _ _ _ _ => true
  | .mboxStrataRead _ _ _ _ _ => true
  | .strataCloseTimeout => true
  | .strataRestartWalk => true
  | .strataClearComplete _ => true
  | .daliGo _ _ _ _ _ _ => true
  | .daliFrameStart => true
  | .daliCollision => true
  | .daliFrameSent => true
  | .daliBackwardFrame _ => true
  | .daliAnswerTimeout => true
  | .daliForeignFrame _ _ => true
  | .daliSystemFailure => true
  | .daliBusRecovery => true
  | .daliResultPop _ => true
  | .daliGearClear _ _ => true
  | .daliBuscfgWrite _ _ => true
  | .daliBusMeasureDone _ _ _ => true
  | .daliBusOverload _ _ => true
  | .daliOverloadEnd _ _ => true
  | .daliBusRemeasure => true
  | .aoutVsetWrite _ _ _ => true
  | .aoutFadeEnd => true
  | .aoutOverload _ => true
  | .aoutOverloadEnd => true
  | .relaySet _ => true
  | .relayClr _ => true
  | .relayPulseStart _ => true
  | .relayPulseEnd => true
  | .photocellSecond _ => true
  | .meterWindowEnd _ => true
  | .meterNozxTimeout => true
  | .meterSnapRead _ => true
  | .energyLoRead _ => true
  | .meterClrEnergy _ _ => true
  | .energyCheckpoint => true
  | .dinFilteredChange _ _ _ => true
  | .dinChatterQuiet _ => true
  | .dinStuck _ => true
  | .tagPowerUp => true
  | .tagFieldOn => true
  | .tagFieldOff => true
  | .tagInventory _ _ _ _ => true
  | .tagStayQuiet _ => true
  | .tagReadSingle _ _ => true
  | .tagReadMultiple _ _ _ => true
  | .tagWriteSingle _ _ _ _ => true
  | .tagSelect _ => true
  | .tagResetToReady _ => true
  | .tagGetSystemInfo _ => true
  | .tagExtReadSingle _ _ => true
  | .tagExtReadMultiple _ _ _ => true
  | .tagExtWriteSingle _ _ _ _ => true
  | .tagExtGetSystemInfo _ => true
  | .tagAuthenticateMam1 _ _ => true
  | .tagAuthenticateMam2 _ _ _ => true
  | .tagPresentPwd _ _ _ => true
  | .tagWritePwd _ _ _ => true
  | .tagUnsupportedCommand _ => true
  | .tagLockoutExpiry => true
  | .tagOwnerRead _ => true
  | .tagOwnerWrite _ _ => true
  | .tagLoadPwd _ _ => true
  | .tagLoadKey _ _ => true
  | .tagClrFail _ _ => true
  | .tagWrcntRead _ => true
  | .readerFieldOn _ _ => true
  | .readerFieldOff _ => true
  | .readerXfer _ _ => true
  | .readerInventory _ _ => true
  | .readerAbort _ => true
  | .readerGuardElapsed => true
  | .readerExchangeEnd _ => true
  | .readerResponseTimeout => true
  | .readerIdleTimeout => true
  | .csenseSample _ => true
  | .csensePing _ _ => true
  | .csenseHoldExpiry => true
  | .nfcHoldExpiry => true
  | .offlineSupplyUp => true
  | .supplyHoldUpEnd => true
  | .wakeCallEnd => true
  | .wakeCallCheckFailure => true
  | .basaltFrameDiscard _ _ => true
  | .uartFrameDiscard _ _ => true
  | .compatUnknownCommand _ cmd _ payload => Nat.ble payload.length 248 && !compatCommand cmd.toNat
  | .spiUnknownCommand _ => true
  | .tagRequestCrcFailure => true
  | .reservedOpcode _ _ _ => true
  | .msgRestoreComplete => true
  | .keptRspExpiry _ _ => true
  | .lfMeasurementUpdate _ => true

end Sys2Proof
end

