-- ==== Sys2Proof/Tests/Slice0.lean ====
section
/-!
SUPPORT. Own tests: ill-formed commands, worked examples of the manual, and for every statement with hypotheses a state that meets them.
-/

open Sys2Proof Sys2Proof.Machine

/-! ### A small state to test on -/

/-- Every page ENABLED and owned by E0, every domain ON, mains present, nothing else: a state in SERVICE on which commands take effect. -/
def demoRegs : Regs :=
  (mappedPages.filter (Nat.ble · 2)).map (fun p => ((R.HDR.ST p).key, 2)) ++
    (List.range 27).map (fun k => ((R.PWR.DOMSTAT k).key, 2)) ++ [(R.PWR.SUPPLY_MAINS.key, 1)] ++
    (mappedPages.filter (Nat.blt 2 ·)).map (fun p => ((R.HDR.ST p).key, 2))

/-- E10 and E0 run. -/
def demoEngine (k : Nat) : Engine :=
  { Engine.reset k with run := .running, image := true, kfmt := false, sp := 0x4000, pc := 0, p := ⟨0, 0, 0, 0x100⟩ }

/-- The state of the witnesses. -/
def demo : State :=
  { State.reset with
    mode := .service, regs := demoRegs,
    engines := { Engines.reset with e0 := demoEngine 0, e10 := demoEngine 10 } }

/-- The same with E10 in K-format. -/
def demoK : State := demo.modEng 10 (fun e => { e with kfmt := true })

/-- HOLD with an identity in retention RAM, VBAK up, a wake radio listening for call 7. -/
def demoHold : State :=
  let s := demo.setAll [(R.MICA.STAT_LISTEN, 1), (R.MICA.ID0_ID, 7), (R.PWR.DOMSTAT 17, 1), (R.PWR.SUPPLY_VBAK, 104), (R.SYS.HOLD_WAKE_MIN, 10)]
  { s with mode := .hold, ret := { s.ret with quartz := { RetRecord.blank with valid := true, version := Config.formatVersion, identity := some ⟨1, 2⟩ } } }

/-- Compatibility mode with E9 running; the host owns the HOSTIF page, an RTC commit is free. -/
def demoUart : State :=
  { demo with
    supply := { demo.supply with compatSel := true },
    engines := { demo.engines with e9 := demoEngine 9 } }.setAll [(R.HDR.OWNER 1, 12), (R.HDR.OWNER 0x28, 12), (R.HOSTIF.CFG_WAIT, 8)]

/-- The same in a mesh, able to send. -/
def demoSend : State := demoUart.setAll [(R.MESH.STAT_JOIN_ST, 4), (R.MSG.CFG_FRAGBODY, 100)]

/-- The same with no page enabled that a site fact concerns. -/
def demoSite : State :=
  demoUart.setAll ([0x30, 0x31, 0x34, 0x38, 0x3A, 0x3B, 0x3C, 0x40, 0x44, 0x45, 0x48, 0x4C].map (fun p => (R.HDR.ST p, 0)))

/-- A neighbour. -/
def demoNbr : Nbr := { freshNbr 0 with ext := 0x55, short := 0x4001, role := 1, sync := 1, verified := true }

/-- A router in a network of RF channels, with one neighbour and a network key. -/
def demoNet : State :=
  { demo with
    ret := { demo.ret with profile := { demo.ret.profile with region := 1, bandplan := 1, role := 2 } },
    keys := [({ idx := 1, valid := true, key := [], counter := 5, blockEnd := 100, nextEnd := 100 } : KeySlot)] ++ List.replicate 15 KeySlot.empty,
    sched := { demo.sched with nbrs := [demoNbr], hop := [0, 1, 2] } }.setAll
    [(R.MESH.STAT_JOIN_ST, 4), (R.MESH.ID0_SHORT, 0x4002), (R.MESH.ID0_PAN, 7)]

/-- RF-A has the bank. -/
def demoBank : State :=
  { (demoNet.setAll [(R.PHYRF.STAT_BANKCH, 1), (R.PHYRF.STAT_HOLD, 7), (R.RF.STAT_CH_ST 0, 3)]) with
    radio := { demo.radio with airA := { demo.radio.airA with winOpen := true }, inForce := [((R.PHYRF.SRCH_LANES).key, 0x3F)] } }

/-- A frame has come in on both RF chains up to its PHR. -/
def demoPhr : State :=
  let a := { demo.radio.airA with winOpen := true, det := .phr }
  { (demoNet.setAll [(R.RF.STAT_CH_ST 0, 4), (R.RF.STAT_CH_ST 1, 4), (R.PLCPHY.STAT_ST, 3)]) with
    radio := { demo.radio with airA := a, airB := a, airP := a } }

/-- A secured data frame for this node. -/
def demoFrame : AirFrame :=
  { version := 2, kind := .data, pan := 7, ext := none, src := 0x4001, dst := 0x4002, seq := 9, level := 5, keyIdx := 1, counter := 50,
    mic := true, fcs := true, pending := false, sync := none, tone := none, mesh := none, join := [], payload := [], len := 30 }

def demoRx : RxInfo := ⟨0xC0, 10, 0, 0⟩

/-- A wake call to neighbour 3. -/
def demoCall : WakeCall := ⟨3, 4, [], 868100, 8, 20⟩

/-- A frame armed on every medium. -/
def demoAttempt : Attempt := ⟨1, 0, 1, 0, 2000, 2, false, false⟩
def demoTx : State :=
  let a := { demo.radio.airA with armed := .tx demoAttempt }
  { (demoNet.setAll [(R.RF.STAT_CH_ST 0, 2), (R.RF.STAT_CH_ST 1, 2), (R.PLCPHY.STAT_ST, 1)]) with
    radio := { demo.radio with airA := a, airB := a, airP := a }, bridge := { demo.bridge with inReset := false, hold := false },
    sched := { demoNet.sched with queue := [{ LinkFrame.blank with num := 1, dest := 0, ctr := some 3, cls := 2 }] } }

/-- A TX cell to the neighbour, and a slot in which RF-A is in service. -/
def demoCell : Cell := ⟨0, 0, 0, 0, 8, 1, 0, 2000, 0, 0, 1, false, false, 1⟩
def demoQueued : LinkFrame := { LinkFrame.blank with num := 1, dest := 0, cls := 2 }
def demoSlot : State :=
  { (demoNet.set (R.RF.STAT_CH_ST 0) 2) with
    radio := { demo.radio with airA := { demo.radio.airA with inSvc := true }, inForce := [((R.PHYRF.PROF_CFG_MODE 0).key, 4)] },
    sched := { demoNet.sched with cells := [demoCell], queue := [demoQueued] } }

/-- A COORDINATOR without a pair: one JOINED node under this one, one PENDING behind it, one PRELOADED. -/
def demoCoord : State :=
  { demoNet with
    ret := { demoNet.ret with profile := { demoNet.ret.profile with role := 3, pairEn := 0 } },
    assoc := { demo.assoc with
      salt := some (1, 2), index := [(8484, 0), (8906, 1), (19760, 2)],
      table := [{ freshAssoc 0 0x55 with state := 3 }, { freshAssoc 1 0x66 with state := 2, relay := 1 }, { freshAssoc 2 0x77 with state := 1 }] } }.setAll
    [(R.MESH.ID0_SHORT, 0)]

/-- A mesh command in E5's mailbox. -/
def demoMesh (s : State) (body : List Byte) (peer : Nat) : State :=
  { s with
    engines := { s.engines with e5 := { s.engines.e5 with mailbox := [Mail.mk4 6 0x83 0 0 1 0 0] } },
    msg := { s.msg with offers := [⟨5, peer, 1, 1, 4, 1, 1, body, 1, false⟩] } }

/-- A scan result that admits. -/
def demoResult : ScanRes := ⟨7, 0x10, 0x99, 256, 1, true, true, 7, 7, 0xC0, 0x80, 0x80, 0, 0, 10, 0, 5, 0x99, false⟩

/-- A host's TELEMETRY message of kind MSG to node 5. -/
def demoMsg : Msg :=
  { num := 1, who := 12, tag := 0, dest := 5, cls := 2, kind := 0, ptype := 0, body := [1, 2], answers := 0, sess := 0, msgid := 0,
    born := 0, attempts := 0, phase := 0, parked := 0, left := [], nofit := 0, done := none }

/-- A module that links, with a pair key. -/
def demoPair : State :=
  { demo.set R.PAIR.STAT_PST 1 with keys := [({ idx := 0xFE, valid := true, key := [1, 2, 3, 4, 5, 6, 7, 8, 9, 10, 11, 12, 13, 14, 15, 16], counter := 0, blockEnd := 0, nextEnd := 0 } : KeySlot)] }
theorem demoPair_check : demoPair.keyCheck ≠ 0 := by decide +kernel

/-- E10 with a customer instruction: G1 takes G2 XOR the register that X names. -/
def demoCustom : State :=
  demo.modEng 10 (fun e => { e with mc := .measured, decode := [(3, 0x12240)], micro := [(0x40, 0x11286C00)] })

/-- What its one micro-word leaves. -/
def demoMicro : MicroRun :=
  ⟨Past demoCustom 10 1 id,
    { g := (demoCustom.eng 10).g, p := (demoCustom.eng 10).p, flags := { (demoCustom.eng 10).flags with z := true }, t0 := 0, t1 := 0,
      u := ⟨false, true, false, false⟩, buf := [], sp := 0x4000, x := 5, ext := 0, xuse := 1, fmask := 2 }⟩

/-- E3 in reset with an empty microcode table and a digest. -/
def demoTableOf (d : List Byte) : State :=
  (demo.set R.MCODE.SEL_ENG 3).setEng 3 { Engine.reset 3 with mc := .measured, mcDigest := d, mcBoot := some d }
theorem demoTableOf_boot (d : List Byte) : ((demoTableOf d).eng 3).mcBoot = some d := rfl
theorem demoTableOf_digest (d : List Byte) : ((demoTableOf d).eng 3).mcDigest = d := rfl

/-- The digest is the table's own. -/
def demoTable : State := demoTableOf (Engine.reset 3).tableDigest
theorem demoTable_works : Works demoTable (0 : Requester) 0x1C 0x2C = true := by decide +kernel
theorem demoTable_reset : demoTable.get R.MCODE.SEL_ENG < 12 ∧ (demoTable.eng (demoTable.get R.MCODE.SEL_ENG)).run = .reset := by decide +kernel
theorem demoTable_mode : demoTable.mode ≠ .boot := by decide
theorem demoTable_load : (demoTable.eng (demoTable.get R.MCODE.SEL_ENG)).loadFail = none := by decide +kernel
theorem demoTable_sel : demoTable.get R.MCODE.SEL_ENG = 3 := by decide +kernel
theorem tableDigest_of (e f : Engine) (h : e.decode = f.decode) (g : e.micro = f.micro) : e.tableDigest = f.tableDigest := by
  unfold Engine.tableDigest Engine.entry Engine.microWord; rw [h, g]
theorem demoTable_own : (demoTable.eng 3).tableDigest = (Engine.reset 3).tableDigest := tableDigest_of _ _ rfl rfl
theorem demoTable_digest :
    (demoTable.eng (demoTable.get R.MCODE.SEL_ENG)).mcBoot = some (demoTable.eng (demoTable.get R.MCODE.SEL_ENG)).tableDigest := by
  rw [demoTable_sel, demoTable_own]; exact demoTableOf_boot _
theorem demoTable_on : demoTable.get (R.PWR.DOMSTAT (5 + (3 : Fin 12))) = 2 := by decide +kernel
theorem demoTable_measured :
    (demoTable.eng (3 : Fin 12)).mc = .measured ∧ (demoTable.eng (3 : Fin 12)).tableDigest = (demoTable.eng (3 : Fin 12)).mcDigest :=
  ⟨rfl, demoTable_own.trans (demoTableOf_digest _).symm⟩

/-- DMA channel 3 at a ring whose first descriptor copies 16 bytes, in state `st`. -/
def demoDesc (st : Nat) : State :=
  { demo.setAll [(R.DMA.RING_BASE 3, 0x2000000), (R.DMA.STAT_ST 3, st)] with
    mem := Memory.storeList 0 [] 0x20000000 (leBytes 4 0x20000100 ++ leBytes 4 0x20000200 ++ leBytes 4 16 ++ leBytes 4 1141),
    dma := List.replicate 16 Channel.idle }

/-- The same, ACTIVE, with two bytes to copy that are not 0. -/
def demoCopy : State :=
  { demoDesc 3 with
    mem := Memory.store 0 (Memory.store 0 (demoDesc 3).mem 0x20000100 7) 0x2000010F 8,
    dma := (List.replicate 16 Channel.idle).modify 3 (fun c => { c with desc := some ⟨0x20000100, 0x20000200, 16, 1141⟩ }) }

/-- A PKE VERIFY under a key that is the curve's base point. -/
def demoVerify : State :=
  { demo with
    mem := Memory.storeList 0 [] 0x20180030 (beBytes 48 bpX ++ beBytes 48 bpY),
    garnet := { demo.garnet with pke := [⟨12, 1, 0x20180000, 0, [], none⟩] } }
theorem demoVerify_key : keyOk (demoVerify.sramList (0x20180000 + 48) 96) = true := by decide +kernel

/-- The mains side configured, and a DALI frame that awaits an answer. -/
def demoLamp : State := { demo with bridge := { demo.bridge with inReset := false, silent := false, hold := false } }
def demoDali : DaliEntry := ⟨1, 0xFF90, false, 3, false, true, 7, 0, false⟩
def demoWindow : MeterWindow := ⟨23000, 500, 100000, 5, 900, 5000, 1, 2, 77, false, false, true⟩

/-- A field session of the tag, which is READY. -/
def demoTag : State := { demo.set R.NFCTAG.STAT_SESSION 1 with nfc := { demo.nfc with checked := true } }
theorem tagUid_toNat : (BitVec.ofNat 64 tagUid).toNat = tagUid := by
  rw [BitVec.toNat_ofNat]
  exact Nat.mod_eq_of_lt (BitVec.isLt _)

/-! ### Ill-formed commands are refused by name -/

theorem test_wf_read_address : Instr.wf (.spiRd1 0x2002 1 .inTime) = false := by decide
theorem test_wf_write_address : Instr.wf (.spiWr1 0x2001 []) = false := by decide
theorem test_wf_quad_read_address : Instr.wf (.spiRdq 0x2003 1 .inTime) = false := by decide
theorem test_wf_quad_write_address : Instr.wf (.spiWrq 0x2002 []) = false := by decide
theorem test_wf_noise_bins : Instr.wf (.soundingRunComplete []) = false := by decide
theorem test_wf_known_command : Instr.wf (.compatUnknownCommand 0 0x31 false []) = false := by decide
theorem test_wf_unknown_long : Instr.wf (.compatUnknownCommand 0 0x77 false (zeros 249)) = false := by decide +kernel
theorem test_wf_payloads :
    ([Instr.compatPing 0 false (zeros 249), .compatGetInfo 0 false (zeros 249), .compatReset 0 false (zeros 249),
      .compatSetRegion 0 false (zeros 249), .compatSetRole 0 false (zeros 249), .compatJoin 0 false (zeros 249),
      .compatSend 0 false (zeros 249), .compatLampSet 0 false (zeros 249), .compatLampGet 0 false (zeros 249),
      .compatMeterGet 0 false (zeros 249), .compatTimeSet 0 false (zeros 249), .compatTimeGet 0 false (zeros 249),
      .compatFwBlock 0 false (zeros 249), .compatRegRead 0 false (zeros 249), .compatRegWrite 0 false (zeros 249),
      .compatAck 0 false (zeros 249), .compatSetBaud 0 false (zeros 249)]).all (fun c => !c.wf) = true := by decide +kernel
theorem test_wf_good : (Instr.wf (.spiRd1 0x2004 1 .inTime) && Instr.wf (.compatPing 0 false (zeros 248))) = true := by decide +kernel

/-! ### Steps -/

/-- An empty queue: the block idles over one LF edge. -/
theorem test_step_idle :
    (match step State.reset with | .next t => decide (t.mode = .boot) && t.pending.isEmpty | _ => false) = true := by decide +kernel

/-- On an LF edge a running timer goes on by the integer carry of the nominal STITCH, 1,464 counts (R121). -/
theorem test_stitched_timer :
    (match step (demo.setAll [(R.CLK.STAT_STITCHING, 1), (R.CLK.STITCH_INC, 0x05B8D800), (R.TIM.STAT_RUN 0, 1)]) with
      | .next t => Nat.beq (t.get (R.TIM.CNT_COUNT 0)) 1464 && Nat.beq t.doms.stitchFrac 0xD800
      | _ => false) = true := by decide +kernel

/-- The command at the front runs with the queue's rest. -/
theorem test_step_front :
    (match step { demoHold with pending := [.registerWrite 12 0x60 0x20 7, .supplyFault] } with
      | .next t => decide (t.pending = [.supplyFault])
      | _ => false) = true := by decide +kernel

/-! ### Worked examples of the manual -/

/-- The CRC-8 of the worked example under R410: 0x31 gives 0x97. -/
theorem test_crc8 : crc8 [0x31] = 0x97 := by decide +kernel

/-- E10 with the microcode of that example, G0 = 0 and G5 = 0x31. -/
def demoCrc : State :=
  demo.modEng 10 (fun e => { e with
    mc := .measured, decode := [(3, 0x00012240)], g := (e.g.put 0 0).put 5 0x31,
    micro := [(0x40, 0x10086000), (0x41, 0x1BCF0008), (0x42, 0x100F7000), (0x43, 0x100C6307), (0x44, 0x1BBC3001),
      (0x45, 0x50000242), (0x46, 0x100F0C00)] })

/-- The instruction CRC8 G5 leaves G0 = 0x97 and Z = 0. -/
theorem test_crc8_instruction :
    (match demoCrc.custom 10 0 3 5 0 with
      | .ok t => (t.eng 10).g.get 0 == 0x97 && !(t.eng 10).flags.z
      | .error _ => false) = true := by decide +kernel

/-- The end of February 2100 (ch. 17): the second 3 160 857 599 is Sunday 2100-02-28 23:59:59, the next Monday 2100-03-01. -/
theorem test_calendar_before : (calOf 3160857599).word0 = 59 + 2 ^ 8 * 59 + 2 ^ 16 * 23 + 2 ^ 24 * 7 := by decide +kernel
theorem test_calendar_after :
    (calOf 3160857600).word0 = 2 ^ 24 * 1 ∧ (calOf 3160857600).word1 = 1 + 2 ^ 8 * 3 + 2 ^ 16 * 2100 := by decide +kernel

/-! ### Published vectors -/

/-- FIPS 197, appendix C.1. -/
theorem test_aes128 :
    aesEncrypt (beBytes 16 0x000102030405060708090A0B0C0D0E0F) false (beBytes 16 0x00112233445566778899AABBCCDDEEFF)
      = beBytes 16 0x69C4E0D86A7B0430D8CDB78070B4C55A := by decide +kernel

/-! ### Single commands by hand -/

/-- ADD wraps: 0xFF + 1 is 0 with C and Z set, N and V clear (R392). -/
theorem test_add_wraps :
    (match exec (.add 10 0 2 (.imm 1)) (demo.modEng 10 (fun e => { e with g := e.g.put 2 0xFF })) with
      | .next t => (t.eng 10).g.get 2 == 0 && decide ((t.eng 10).flags = ⟨true, true, false, false⟩) && (t.eng 10).pc == 4
      | _ => false) = true := by decide +kernel

/-- A host write to a reserved page records UNMAPPED with its address (R135, R139). -/
theorem test_unmapped :
    (match exec (.registerWrite 12 0xE0 0x24 7) demo with
      | .next t => Nat.beq (t.get R.HOSTIF.LASTREF_REASON) 0x0E && Nat.beq (t.get R.HOSTIF.LASTREF_ADDR) 0xE024
      | _ => false) = true := by decide +kernel

/-- STAY_QUIET of a tag keeps it silent to an inventory (R569). -/
theorem test_quiet_inventory :
    (match exec (.tagInventory 0x26 0 0 0) (demoTag.set R.NFCTAG.STAT_ISOST 1) with
      | .next t => t.nfc.reply.isNone
      | _ => false) = true := by decide +kernel

/-! ### Witnesses -/

/-- The hypotheses of `Obligations.BridgeAndZeroCrossing` can be met, clause by clause. -/
theorem witness_BridgeAndZeroCrossing_0 :
  ∃ (s : State), (s.bit R.PWR.SUPPLY_MAINS) :=
  ⟨demo, by decide⟩
theorem witness_BridgeAndZeroCrossing_1 :
  ∃ (s : State), (s.bit R.PWR.SUPPLY_MAINS) :=
  ⟨demo, by decide⟩
theorem witness_BridgeAndZeroCrossing_2 :
  ∃ (s : State), (s.bit R.PWR.SUPPLY_MAINS) ∧ (s.bridge.silent) :=
  ⟨demo.modBridge (fun b => { b with silent := true }), by decide⟩
theorem witness_BridgeAndZeroCrossing_3 :
  ∃ (rest : List BusReq) (s : State), (s.bridge.inflight = ⟨12, 0x6124, none⟩ :: rest) ∧ (Reaches { s with bridge := { s.bridge with inflight := rest } } 12 0x61 0x24 false) :=
  ⟨[], { demo with bridge := { demo.bridge with inflight := [⟨12, 0x6124, none⟩] } }.set (R.HDR.OWNER 0x61) 12, by decide⟩
theorem witness_BridgeAndZeroCrossing_4 :
  ∃ (s : State), (s.bit R.PWR.SUPPLY_MAINS) ∧ (s.bridge.silent = false) ∧ (s.bridge.inflight = []) ∧ (s.get R.FAULT.STATUS_ACTIVE = 0) :=
  ⟨demo, by decide⟩
theorem witness_BridgeAndZeroCrossing_5 :
  ∃ (s : State), (s.bit R.PWR.SUPPLY_MAINS) ∧ (s.bridge.hold = false) :=
  ⟨demo, by decide⟩
theorem witness_BridgeAndZeroCrossing_6 :
  ∃ (s : State), (s.bridge.hold) :=
  ⟨demo.modBridge (fun b => { b with hold := true }), by decide⟩
theorem witness_BridgeAndZeroCrossing_7 :
  ∃ (s : State), (s.bit R.PWR.SUPPLY_MAINS) ∧ (s.bridge.silent) ∧ (s.bridge.resetDue = false) ∧ (s.bridge.inReset = false) :=
  ⟨demo.modBridge (fun b => { b with silent := true, inReset := false }), by decide⟩
theorem witness_BridgeAndZeroCrossing_8 :
  ∃ (s : State), (s.bridge.silent) ∧ (s.get R.FAULT.STATUS_ACTIVE = 0) ∧ (s.get R.FAULT.STATUS_SVALID = 0) :=
  ⟨demo.modBridge (fun b => { b with silent := true }), by decide⟩
theorem witness_BridgeAndZeroCrossing_9 :
  ∃ (s : State), (s.bridge.silent = false) ∧ (s.bridge.cfgDue) ∧ (s.bridge.resetDue = false) ∧ (s.bit R.PWR.SUPPLY_MAINS) :=
  ⟨demo.modBridge (fun b => { b with cfgDue := true }), by decide⟩
theorem witness_BridgeAndZeroCrossing_10 :
  ∃ (s : State), (s.bridge.resetDue) ∧ (s.bridge.silent = false) :=
  ⟨demo.modBridge (fun b => { b with resetDue := true }), by decide⟩
theorem witness_BridgeAndZeroCrossing_11 :
  ∃ (err : Half) (s : State), (s.zxOn) ∧ (s.bridge.silent = false) ∧ (10 * s.get R.PLCAFE.CFG_OUTLIER < err.toInt.natAbs) :=
  ⟨300, demo, by decide⟩
theorem witness_BridgeAndZeroCrossing_12 :
  ∃ (err : Half) (s : State), (s.zxOn) ∧ (s.bridge.silent = false) ∧ (err.toInt.natAbs ≤ 10 * s.get R.PLCAFE.CFG_OUTLIER) :=
  ⟨0, demo, by decide⟩
theorem witness_BridgeAndZeroCrossing_13 :
  ∃ (s : State), (s.zxOn) :=
  ⟨demo, by decide⟩

/-- The hypotheses of `Obligations.SupplyAndMains` can be met, clause by clause. -/
theorem witness_SupplyAndMains_0 :
  ∃ (h1 : HalfCycle) (h2 : HalfCycle) (h3 : HalfCycle) (s : State), (halfGood h1 ∧ halfGood h2 ∧ halfGood h3) ∧ (s.supply.shutdown = false) ∧ (s.mode = .outage) ∧ (s.get R.PWR.SUPPLY_MAINS = 0) ∧ (s.modes.lastGasp = false) :=
  ⟨⟨10000, 325, 230⟩, ⟨10000, 325, 230⟩, ⟨10000, 325, 230⟩, { demo with mode := .outage }.set R.PWR.SUPPLY_MAINS 0, by decide⟩
theorem witness_SupplyAndMains_1 :
  ∃ (h1 : HalfCycle) (h2 : HalfCycle) (h3 : HalfCycle) (s : State), (halfGood h1 ∧ halfGood h2 ∧ halfGood h3) ∧ (s.supply.shutdown = false) ∧ (s.mode = .hold ∨ s.mode = .unpowered ∨ s.mode = .field) ∧ (s.get R.PWR.SUPPLY_MAINS = 0) :=
  ⟨⟨7500, 113, 80⟩, ⟨11500, 113, 80⟩, ⟨10000, 450, 320⟩, { demo with mode := .hold }.set R.PWR.SUPPLY_MAINS 0, by decide⟩
theorem witness_SupplyAndMains_2 :
  ∃ (h1 : HalfCycle) (h2 : HalfCycle) (h3 : HalfCycle), (¬ (halfGood h1 ∧ halfGood h2 ∧ halfGood h3)) :=
  ⟨⟨10000, 325, 230⟩, ⟨10000, 112, 79⟩, ⟨10000, 325, 230⟩, by decide⟩
theorem witness_SupplyAndMains_3 :
  ∃ (half : HalfCycle), (99 ≤ half.peak.toNat) :=
  ⟨⟨10000, 99, 70⟩, by decide⟩
theorem witness_SupplyAndMains_4 :
  ∃ (half : Option HalfCycle) (s : State), (halfLost half) ∧ (s.mode = .service) ∧ (s.bit R.PWR.SUPPLY_MAINS) ∧ (s.get R.PWR.SUPPLY_VBAK_OK = 0) :=
  ⟨none, demo, by decide⟩
theorem witness_SupplyAndMains_5 :
  ∃ (half : Option HalfCycle) (s : State), (halfLost half) ∧ (s.mode = .service) ∧ (s.bit R.PWR.SUPPLY_MAINS) ∧ (s.bit R.PWR.SUPPLY_VBAK_OK) :=
  ⟨none, demo.set R.PWR.SUPPLY_VBAK_OK 1, by decide⟩
theorem witness_SupplyAndMains_6 :
  ∃ (half : Option HalfCycle) (s : State), (halfLost half) ∧ (s.mode = .commission ∨ s.mode = .maintenance ∨ s.mode = .boot) ∧ (s.bit R.PWR.SUPPLY_MAINS) ∧ (s.bit R.PWR.SUPPLY_VBAK_OK) :=
  ⟨some ⟨10000, 98, 70⟩, { demo with mode := .boot }.set R.PWR.SUPPLY_VBAK_OK 1, by decide⟩
theorem witness_SupplyAndMains_7 :
  ∃ (rms : Half) (s : State), (320 < rms.toNat) ∧ (s.get R.PWR.SUPPLY_MAINS = 0) :=
  ⟨321, demo.set R.PWR.SUPPLY_MAINS 0, by decide⟩
theorem witness_SupplyAndMains_8 :
  ∃ (rms : Half) (s : State), (s.bit R.PWR.SUPPLY_MAINS) ∧ (s.get R.PWR.SUPPLY_BROWNOUT = 0) ∧ (70 ≤ rms.toNat ∧ rms.toNat < 85) :=
  ⟨84, demo, by decide⟩
theorem witness_SupplyAndMains_9 :
  ∃ (rms : Half) (s : State), (s.bit R.PWR.SUPPLY_BROWNOUT) ∧ (85 ≤ rms.toNat) :=
  ⟨85, demo.set R.PWR.SUPPLY_BROWNOUT 1, by decide⟩
theorem witness_SupplyAndMains_10 :
  ∃ (s : State), (s.supply.up) ∧ (s.mode = .service ∨ s.mode = .commission ∨ s.mode = .maintenance) ∧ (s.get R.FAULT.STATUS_ACTIVE = 0) :=
  ⟨demo, by decide⟩
theorem witness_SupplyAndMains_11 :
  ∃ (s : State), (s.supply.shutdown) :=
  ⟨demo.modSupply (fun p => { p with shutdown := true }), by decide⟩
theorem witness_SupplyAndMains_12 :
  ∃ (s : State), (s.supply.up = false) ∧ (s.supply.shutdown = false) ∧ (s.supply.v3wait = false) :=
  ⟨demo.modSupply (fun p => { p with up := false }), by decide⟩
theorem witness_SupplyAndMains_13 :
  ∃ (volts : Byte) (s : State), (88 < volts.toNat) ∧ (s.mode = .unpowered ∨ s.mode = .field) :=
  ⟨89, { demo with mode := .unpowered }, by decide⟩
theorem witness_SupplyAndMains_14 :
  ∃ (volts : Byte) (s : State), (88 < volts.toNat) ∧ (s.mode ≠ .unpowered ∧ s.mode ≠ .field) :=
  ⟨255, demo, by decide⟩
theorem witness_SupplyAndMains_15 :
  ∃ (volts : Byte) (s : State), (volts.toNat < 80) ∧ (s.mode = .hold ∨ (s.mode = .outage ∧ s.get R.PWR.SUPPLY_MAINS = 0)) ∧ (s.supply.fieldPresent = false) :=
  ⟨79, { demo with mode := .hold }, by decide⟩
theorem witness_SupplyAndMains_16 :
  ∃ (s : State), (s.supply.v3on) ∧ (s.get R.FAULT.STATUS_ACTIVE = 0) :=
  ⟨demo, by decide⟩
theorem witness_SupplyAndMains_17 :
  ∃ (s : State), (s.supply.v3wait) ∧ (s.supply.up) :=
  ⟨demo.modSupply (fun p => { p with up := true, v3wait := true }), by decide⟩
theorem witness_SupplyAndMains_18 :
  ∃ (s : State), (s.supply.v3wait) ∧ (s.supply.up = false) ∧ (s.mode = .outage) ∧ (s.bit R.PWR.V3OUT_OUTAGE_EN) :=
  ⟨{ demo.set R.PWR.V3OUT_OUTAGE_EN 1 with mode := .outage, supply := { demo.supply with up := false, v3wait := true } }, by decide⟩
theorem witness_SupplyAndMains_19 :
  ∃ (s : State), (s.get R.PWR.SUPPLY_MAINS = 0) ∧ (s.get R.PWR.SUPPLY_VBAK_OK = 0) ∧ (s.running) ∧ (s.supply.fieldPresent = false) :=
  ⟨demo.set R.PWR.SUPPLY_MAINS 0, by decide⟩
theorem witness_SupplyAndMains_20 :
  ∃ (s : State), (s.mode = .service ∨ s.mode = .commission ∨ s.mode = .maintenance ∨ s.mode = .boot) :=
  ⟨demo, by decide⟩
theorem witness_SupplyAndMains_21 :
  ∃ (s : State), (s.mode = .unpowered) ∧ (s.get R.NFCTAG.STAT_SESSION = 0) :=
  ⟨{ demo with mode := .unpowered }, by decide⟩
theorem witness_SupplyAndMains_22 :
  ∃ (s : State), (s.mode = .field) :=
  ⟨{ demo with mode := .field }, by decide⟩

/-- The hypotheses of `Obligations.ModesAndReset` can be met, clause by clause. -/
theorem witness_ModesAndReset_0 :
  ∃ (s : State), (s.mode = .boot) ∧ (s.supply.shutdown = false) ∧ ((s.eng 0).run = .reset) :=
  ⟨{ demo with mode := .boot, engines := Engines.reset }, by decide⟩
theorem witness_ModesAndReset_1 :
  ∃ (s : State), (s.mode = .boot) ∧ ((s.eng 0).run ≠ .reset) ∧ (s.flash.openCopy = none) ∧ (s.modes.bootVerifyFail = false) ∧ (s.ret.escLoop = false) :=
  ⟨{ demo with mode := .boot }, by decide⟩
theorem witness_ModesAndReset_2 :
  ∃ (s : State), (s.mode = .boot) ∧ ((s.eng 0).run ≠ .reset) ∧ (s.flash.openCopy.isSome ∨ s.modes.bootVerifyFail ∨ s.ret.escLoop) :=
  ⟨{ demo with mode := .boot, modes := { demo.modes with bootVerifyFail := true } }, by decide⟩
theorem witness_ModesAndReset_3 :
  ∃ (who : Requester) (s : State), (Writes s who 0x00 0x24) ∧ (s.mode = .outage) ∧ (s.get R.PWR.SUPPLY_MAINS = 0) :=
  ⟨0, { demo with mode := .outage }.set R.PWR.SUPPLY_MAINS 0, by decide⟩
theorem witness_ModesAndReset_4 :
  ∃ (who : Requester) (s : State), (Writes s who 0x00 0x24) ∧ (s.mode = .service) :=
  ⟨0, demo, by decide⟩
theorem witness_ModesAndReset_5 :
  ∃ (who : Requester) (s : State), (Writes s who 0x00 0x24) ∧ (s.mode = .commission) ∧ (s.joined) :=
  ⟨0, { demo with mode := .commission }.setAll [(R.MESH.STAT_JOIN_ST, 4)], by decide⟩
theorem witness_ModesAndReset_6 :
  ∃ (who : Requester) (s : State), (Writes s who 0x00 0x24) ∧ (s.mode = .maintenance) :=
  ⟨0, { demo with mode := .maintenance }, by decide⟩
theorem witness_ModesAndReset_7 :
  ∃ (who : Requester) (s : State), (Writes s who 0x00 0x24) ∧ (s.mode = .service ∨ s.mode = .commission) :=
  ⟨0, demo, by decide⟩
theorem witness_ModesAndReset_8 :
  ∃ (s : State), (s.mode = .maintenance) ∧ (s.session ≠ 5) :=
  ⟨{ demo with mode := .maintenance }, by decide⟩
theorem witness_ModesAndReset_9 :
  ∃ (s : State), (s.mode = .outage) ∧ (s.modes.limitOn) ∧ (s.get R.PWR.SUPPLY_MAINS = 0) :=
  ⟨{ demo with mode := .outage, modes := { demo.modes with limitOn := true } }.set R.PWR.SUPPLY_MAINS 0, by decide⟩
theorem witness_ModesAndReset_10 :
  ∃ (s : State), (s.mode = .outage) ∧ (s.modes.micaWake) ∧ (s.get R.PWR.SUPPLY_MAINS = 0) :=
  ⟨{ demo with mode := .outage, modes := { demo.modes with micaWake := true } }.set R.PWR.SUPPLY_MAINS 0, by decide⟩
theorem witness_ModesAndReset_11 :
  ∃ (s : State), (s.modes.lastGasp) ∧ (s.sched.gasp = none) :=
  ⟨{ demo with modes := { demo.modes with lastGasp := true } }, by decide⟩
theorem witness_ModesAndReset_12 :
  ∃ (id : Word) (s : State), (s.micaSwitch) ∧ (s.bit R.MICA.STAT_LISTEN) ∧ (s.micaIds id.toNat) ∧ (s.mode ≠ .hold) :=
  ⟨7, demo.setAll [(R.MICA.STAT_LISTEN, 1), (R.MICA.ID0_ID, 7), (R.PWR.DOMSTAT 17, 1)], by decide⟩
theorem witness_ModesAndReset_13 :
  ∃ (id : Word) (s : State), (s.micaSwitch) ∧ (s.bit R.MICA.STAT_LISTEN) ∧ (s.micaIds id.toNat) ∧ (s.mode = .hold) ∧ (s.ret.quartz.usable) ∧ (s.ret.quartz.identity.isSome ∧ 104 ≤ s.get R.PWR.SUPPLY_VBAK ∧ s.get R.SYS.HOLD_WAKE_MIN ≠ 0) :=
  ⟨7, demoHold, by decide, by decide, by decide, by decide, Nat.beq_refl Config.formatVersion, by decide⟩

/-- The hypotheses of `Obligations.RetainedSettingsAndFaults` can be met, clause by clause. -/
theorem witness_RetainedSettingsAndFaults_0 :
  ∃ (who : Requester) (s : State), (Writes s who 0x05 0x20) ∧ (s.get R.RET.STAT_BUSY = 0) :=
  ⟨0, demo, by decide⟩
theorem witness_RetainedSettingsAndFaults_1 :
  ∃ (s : State), (s.bit R.RET.STAT_BUSY) ∧ (s.ret.again = false) :=
  ⟨demo.set R.RET.STAT_BUSY 1, by decide⟩
theorem witness_RetainedSettingsAndFaults_2 :
  ∃ (s : State), (s.running) :=
  ⟨demo, by decide⟩
theorem witness_RetainedSettingsAndFaults_3 :
  ∃ (src : BitVec 4) (s : State), (s.alive) ∧ (src.toNat < 12 ∨ src.toNat = 15) ∧ (s.get R.FAULT.STATUS_ACTIVE = 0) :=
  ⟨5, demo, by decide⟩
theorem witness_RetainedSettingsAndFaults_4 :
  ∃ (src : BitVec 4) (s : State), (s.alive) ∧ ((src.toNat ≠ 0 ∧ src.toNat < 12) ∨ src.toNat = 15) ∧ (s.bit R.FAULT.STATUS_ACTIVE) ∧ (s.get R.FAULT.STATUS_SVALID = 0) :=
  ⟨5, demo.set R.FAULT.STATUS_ACTIVE 1, by decide⟩
theorem witness_RetainedSettingsAndFaults_5 :
  ∃ (s : State), (s.bit R.FAULT.STATUS_ACTIVE) :=
  ⟨demo.set R.FAULT.STATUS_ACTIVE 1, by decide⟩
theorem witness_RetainedSettingsAndFaults_6 :
  ∃ (s : State), (s.alive) ∧ (s.mode = .service ∨ s.mode = .commission ∨ s.mode = .maintenance ∨ s.mode = .boot) ∧ (s.bit R.CLK.STAT_XO_ON) ∧ (s.get R.FAULT.STATUS_ACTIVE = 0) :=
  ⟨demo.set R.CLK.STAT_XO_ON 1, by decide⟩
theorem witness_RetainedSettingsAndFaults_7 :
  ∃ (s : State), (s.mode ≠ .unpowered ∧ s.mode ≠ .field) :=
  ⟨demo, by decide⟩
theorem witness_RetainedSettingsAndFaults_8 :
  ∃ (s : State), (s.rtc.stopped) :=
  ⟨{ demo with rtc := { demo.rtc with stopped := true } }, by decide⟩

/-- The hypotheses of `Obligations.DomainsAndClocks` can be met, clause by clause. -/
theorem witness_DomainsAndClocks_0 :
  ∃ (idx : BitVec 5) (s : State), (Writes s 0 0x02 0x28) ∧ (idx.toNat ≤ 26 ∧ (idx.toNat ≠ 21 ∨ s.bit R.PWR.SUPPLY_MAINS = false)) ∧ (5 ≤ idx.toNat ∧ idx.toNat ≤ 16 → (s.eng (idx.toNat - 5)).mailbox = []) ∧ (s.dom idx.toNat = 2) :=
  ⟨20, demo, by decide⟩
theorem witness_DomainsAndClocks_1 :
  ∃ (idx : BitVec 5) (s : State), (Writes s 0 0x02 0x28) ∧ (idx.toNat ≤ 26 ∧ (idx.toNat ≠ 21 ∨ s.bit R.PWR.SUPPLY_MAINS = false)) ∧ (5 ≤ idx.toNat ∧ idx.toNat ≤ 16 → (s.eng (idx.toNat - 5)).mailbox = []) ∧ (s.dom idx.toNat = 1) :=
  ⟨20, demo.set (R.PWR.DOMSTAT 20) 1, by decide⟩
theorem witness_DomainsAndClocks_2 :
  ∃ (idx : BitVec 5) (s : State), (Writes s 0 0x02 0x28) ∧ (idx.toNat ≤ 26) ∧ (s.dom idx.toNat = 2) :=
  ⟨20, demo, by decide⟩
theorem witness_DomainsAndClocks_3 :
  ∃ (idx : BitVec 5) (s : State), (Writes s 0 0x02 0x28) ∧ (idx.toNat < 5 ∨ (16 < idx.toNat ∧ idx.toNat ≤ 26)) ∧ (s.powered idx.toNat) :=
  ⟨20, demo, by decide⟩
theorem witness_DomainsAndClocks_4 :
  ∃ (idx : BitVec 5) (s : State), (Writes s 0 0x02 0x28) ∧ (idx.toNat < 5 ∨ (16 < idx.toNat ∧ idx.toNat ≤ 26)) ∧ (s.powered idx.toNat) :=
  ⟨20, demo, by decide⟩
theorem witness_DomainsAndClocks_5 :
  ∃ (idx : BitVec 5) (s : State), (idx.toNat ≤ 26) ∧ (s.dom idx.toNat = 2) ∧ (s.doms.lfHold = false) ∧ (s.idle idx.toNat) ∧ (s.doms.auto.any (Nat.beq idx.toNat)) ∧ (s.doms.entering = []) :=
  ⟨20, demo.modDoms (fun d => { d with auto := [20] }), by decide⟩
theorem witness_DomainsAndClocks_6 :
  ∃ (idx : BitVec 5) (to_ : Nat) (s : State), (idx.toNat ≤ 26) ∧ (s.doms.entering = [(idx.toNat, to_)]) ∧ (s.dom idx.toNat = 3) ∧ (s.doms.lfHold = false) ∧ (s.idle idx.toNat) ∧ (to_ ≤ 1) :=
  ⟨20, 0, (demo.set (R.PWR.DOMSTAT 20) 3).modDoms (fun d => { d with entering := [(20, 0)] }), by decide⟩
theorem witness_DomainsAndClocks_7 :
  ∃ (idx : BitVec 5) (s : State), (idx.toNat ≤ 26) ∧ (s.dom idx.toNat = 2) ∧ (s.doms.lfHold = false) ∧ (s.idle idx.toNat) ∧ (s.doms.auto.any (Nat.beq idx.toNat)) ∧ (s.doms.entering = []) :=
  ⟨20, demo.modDoms (fun d => { d with auto := [20] }), by decide⟩
theorem witness_DomainsAndClocks_8 :
  ∃ (idx : BitVec 5) (s : State), (idx.toNat ≤ 26) ∧ (s.alive) ∧ (s.dom idx.toNat = 1) :=
  ⟨20, demo.set (R.PWR.DOMSTAT 20) 1, by decide⟩
theorem witness_DomainsAndClocks_9 :
  ∃ (idx : BitVec 5) (s : State), (idx.toNat ≤ 26) ∧ (s.dom idx.toNat = 3) ∧ (s.doms.entering = []) ∧ (s.bit R.CLK.STAT_PLL_LOCK) :=
  ⟨20, (demo.set (R.PWR.DOMSTAT 20) 3).set R.CLK.STAT_PLL_LOCK 1, by decide⟩
theorem witness_DomainsAndClocks_10 :
  ∃ (who : Requester) (s : State), (Writes s who 0x02 0x30) ∧ (s.mode = .service) :=
  ⟨0, demo, by decide⟩
theorem witness_DomainsAndClocks_11 :
  ∃ (s : State), (s.hostWakes) :=
  ⟨demo, by decide⟩
theorem witness_DomainsAndClocks_12 :
  ∃ (n : Fin 8) (samples : List Half) (s : State), (s.mode ≠ .unpowered ∧ s.mode ≠ .field ∧ s.mode ≠ .hold) ∧ (s.bit (R.PWR.ASQ_CFG_EN n)) ∧ (s.get (R.PWR.ASQ_CFG_SRC n) ≠ 0 ∧ s.get (R.PWR.ASQ_CFG_SRC n) ≠ 2) ∧ (s.asqHit n ((samples.map BitVec.toNat).sum / max 1 samples.length)) :=
  ⟨3, [10], demo.setAll [(R.PWR.ASQ_CFG_EN 3, 1), (R.PWR.ASQ_CFG_SRC 3, 1)], by decide⟩
theorem witness_DomainsAndClocks_13 :
  ∃ (s : State), (s.clockNeed = false) ∧ (s.get R.CLK.HOSTREQ_PLL = 0) ∧ (s.doms.lfHold = false) ∧ (s.bit R.CLK.STAT_XO_ON) :=
  ⟨{ demo with regs := [(R.CLK.STAT_XO_ON.key, 1)] }, by decide⟩
theorem witness_DomainsAndClocks_14 :
  ∃ (s : State), (s.bit R.CLK.STAT_XO_ON) ∧ (s.clockNeed) :=
  ⟨demo.set R.CLK.STAT_XO_ON 1, by decide⟩
theorem witness_DomainsAndClocks_15 :
  ∃ (who : Requester) (s : State), (Writes s who 0x03 0x24) :=
  ⟨0, demo, by decide⟩
theorem witness_DomainsAndClocks_16 :
  ∃ (s : State), (s.get R.CLK.LFMEAS_COUNT ≠ 0) ∧ (s.dom 9 ≠ 0) :=
  ⟨demo.set R.CLK.LFMEAS_COUNT 40000000, by decide⟩
theorem witness_DomainsAndClocks_17 :
  ∃ (s : State), (s.bit R.CLK.STAT_XO_ON) ∧ (s.rtc.stopped = false) :=
  ⟨demo.set R.CLK.STAT_XO_ON 1, by decide⟩

/-- The hypotheses of `Obligations.FaultDoneAndBusyCommit` can be met, clause by clause. -/
theorem witness_FaultDoneAndBusyCommit_0 :
  ∃ (s : State), (Writes s 0 0x04 0x3C) ∧ (s.bit R.FAULT.STATUS_ACTIVE) ∧ (s.bit R.FAULT.STATUS_SVALID = false) :=
  ⟨demo.setAll [(R.FAULT.STATUS_ACTIVE, 1), (R.FAULT.P_INFO_CAUSE, 3), (R.FAULT.P_INFO_SRC, 10)], by decide⟩
theorem witness_FaultDoneAndBusyCommit_1 :
  ∃ (s : State), (Writes s 0 0x04 0x3C) ∧ (s.bit R.FAULT.STATUS_ACTIVE) ∧ (s.bit R.FAULT.STATUS_SVALID) :=
  ⟨demo.setAll [(R.FAULT.STATUS_ACTIVE, 1), (R.FAULT.STATUS_SVALID, 1), (R.FAULT.P_INFO_CAUSE, 3), (R.FAULT.P_INFO_SRC, 10)], by decide⟩
theorem witness_FaultDoneAndBusyCommit_2 :
  ∃ (who : Requester) (s : State), (Writes s who 0x05 0x20) ∧ (s.bit R.RET.STAT_BUSY) :=
  ⟨0, demo.set R.RET.STAT_BUSY 1, by decide⟩

/-- The hypotheses of `Obligations.PagesAndProfile` can be met, clause by clause. -/
theorem witness_PagesAndProfile_0 :
  ∃ (who : Requester) (page : Byte) (s : State), (Writes s who page.toNat 0x04) ∧ (alwaysOn page.toNat = false ∧ engPage page.toNat = false) ∧ (s.get (R.HDR.ST page.toNat) = 0) :=
  ⟨0, 0x60, demo.set (R.HDR.ST 0x60) 0, by decide⟩
theorem witness_PagesAndProfile_1 :
  ∃ (page : Byte) (s : State), (s.get (R.HDR.ST page.toNat) = 1) ∧ (s.enableFails page.toNat = none) :=
  ⟨0x60, demo.set (R.HDR.ST 0x60) 1, by decide⟩
theorem witness_PagesAndProfile_2 :
  ∃ (page : Byte) (reason : Nat) (info : Nat) (s : State), (s.get (R.HDR.ST page.toNat) = 1) ∧ (s.enableFails page.toNat = some (reason, info)) :=
  ⟨0x60, 3, 0, (demo.set (R.HDR.ST 0x60) 1).set (R.HDR.LOCK 0x60) 1, by decide⟩
theorem witness_PagesAndProfile_3 :
  ∃ (who : Requester) (page : Byte) (s : State), (Writes s who page.toNat 0x04) ∧ (alwaysOn page.toNat = false ∧ engPage page.toNat = false) ∧ (s.get (R.HDR.ST page.toNat) = 2) ∧ (s.get (R.HDR.LOCK page.toNat) = 0) :=
  ⟨0, 0x68, demo, by decide⟩
theorem witness_PagesAndProfile_4 :
  ∃ (page : Byte) (s : State), (s.get (R.HDR.ST page.toNat) = 3) ∧ (s.working page.toNat = false) :=
  ⟨0x60, demo.set (R.HDR.ST 0x60) 3, by decide⟩
theorem witness_PagesAndProfile_5 :
  ∃ (who : Requester) (page : Byte) (s : State), (Writes s who page.toNat 0x04) ∧ (alwaysOn page.toNat = false) ∧ (s.get (R.HDR.LOCK page.toNat) = 0) ∧ (s.get (R.HDR.ST page.toNat) = 0) :=
  ⟨0, 0x60, demo.set (R.HDR.ST 0x60) 0, by decide⟩
theorem witness_PagesAndProfile_6 :
  ∃ (who : Requester) (page : Byte) (s : State), (Writes s who page.toNat 0x04) :=
  ⟨0, 0x60, demo, by decide⟩
theorem witness_PagesAndProfile_7 :
  ∃ (who : Requester) (value : Word) (s : State), (Writes s who 0x01 0x34) ∧ (assignable (R.HOSTIF.ASSIGN_PAGE.of value.toNat)) ∧ (10 ≤ R.HOSTIF.ASSIGN_OWNER.of value.toNat ∧ R.HOSTIF.ASSIGN_OWNER.of value.toNat ≤ 12) ∧ (s.get (R.HDR.ST (R.HOSTIF.ASSIGN_PAGE.of value.toNat)) = 0) ∧ ((s.eng (R.HOSTIF.ASSIGN_OWNER.of value.toNat)).image ∨ R.HOSTIF.ASSIGN_OWNER.of value.toNat = 12) :=
  ⟨0, BitVec.ofNat 32 (R.HOSTIF.ASSIGN_PAGE.place 0x60 + R.HOSTIF.ASSIGN_OWNER.place 12), demo.set (R.HDR.ST 0x60) 0, by decide⟩
theorem witness_PagesAndProfile_8 :
  ∃ (who : Requester) (s : State), (Writes s who 0x01 0xC0) ∧ (s.stagedProfile.bad = none) ∧ (s.depends s.stagedProfile = none) :=
  ⟨0, { demo with ret := { demo.ret with profile := { Profile.none with facts := 0x80 } } }, by decide⟩
theorem witness_PagesAndProfile_9 :
  ∃ (who : Requester) (page : Byte) (s : State), (Writes s who page.toNat 0x10) ∧ (winPage page.toNat = false) ∧ (hasReg page.toNat 0x10) :=
  ⟨0, 0x60, demo, by decide⟩
theorem witness_PagesAndProfile_10 :
  ∃ (off : Byte) (s : State), (s.alive ∧ s.mode ≠ .boot ∧ s.domOn 25 ∧ s.domOn 4) ∧ (inBank3 (256 * s.get (R.HOSTIF.WIN_BASE 0) + off.toNat / 4 * 4) 4) :=
  ⟨0x10, demo.set (R.HOSTIF.WIN_BASE 0) 0x201800, by decide⟩

/-- The hypotheses of `Obligations.SpiTransactions` can be met, clause by clause. -/
theorem witness_SpiTransactions_0 :
  ∃ (s : State), (SpiUp s) ∧ (s.spi.wfifo.length < 64) :=
  ⟨demo, by decide⟩
theorem witness_SpiTransactions_1 :
  ∃ (s : State), (SpiUp s) ∧ (s.spi.wfifo.length < 64) :=
  ⟨demo, by decide⟩
theorem witness_SpiTransactions_2 :
  ∃ (p : Posted) (rest : List Posted) (s : State), (s.alive ∧ s.domOn 25) ∧ (s.spi.wfifo = p :: rest) ∧ (p.pass = []) :=
  ⟨⟨0x0110, 5, []⟩, [], demo.modSpi (fun x => { x with wfifo := [⟨0x0110, 5, []⟩] }), by decide⟩
theorem witness_SpiTransactions_3 :
  ∃ (s : State), (SpiUp s) ∧ (s.spi.wfifo = []) ∧ (s.spi.held = none) ∧ (Reaches s 12 0x00 0x00 false) :=
  ⟨demo.setAll [(R.HDR.OWNER 0, 12)], by decide⟩
theorem witness_SpiTransactions_4 :
  ∃ (s : State), (SpiUp s) ∧ (s.spi.wfifo = []) ∧ (s.spi.held = none) ∧ (Reaches s 12 0x00 0x00 false) :=
  ⟨demo.setAll [(R.HDR.OWNER 0, 12)], by decide⟩
theorem witness_SpiTransactions_5 :
  ∃ (s : State), (SpiUp s) ∧ (s.spi.wfifo = []) ∧ (s.spi.held = none) :=
  ⟨demo, by decide⟩
theorem witness_SpiTransactions_6 :
  ∃ (s : State), (SpiUp s) ∧ (s.spi.wfifo = []) ∧ (s.spi.held = none) :=
  ⟨demo, by decide⟩
theorem witness_SpiTransactions_7 :
  ∃ (s : State), (s.spi.held = some (0, none)) ∧ (Reaches s 12 0x00 0x00 false) :=
  ⟨(demo.setAll [(R.HDR.OWNER 0, 12)]).modSpi (fun x => { x with held := some (0, none) }), by decide⟩
theorem witness_SpiTransactions_8 :
  ∃ (s : State), (SpiUp s) :=
  ⟨demo, by decide⟩
theorem witness_SpiTransactions_9 :
  ∃ (s : State), (SpiUp s) :=
  ⟨demo, by decide⟩
theorem witness_SpiTransactions_10 :
  ∃ (s : State), (SpiUp s) :=
  ⟨demo, by decide⟩
theorem witness_SpiTransactions_11 :
  ∃ (s : State), (SpiUp s) :=
  ⟨demo, by decide⟩
theorem witness_SpiTransactions_12 :
  ∃ (s : State), (SpiUp s) ∧ (s.spi.rstEn) :=
  ⟨demo.modSpi (fun x => { x with rstEn := true }), by decide⟩
theorem witness_SpiTransactions_13 :
  ∃ (code : Byte) (s : State), (SpiUp s) ∧ (code ∉ ([0x03, 0x02, 0xEB, 0x32, 0x05, 0x38, 0x66, 0x99] : List Byte)) ∧ (code ≠ 0xF5 ∨ s.get R.HOSTIF.CFG_QPI = 0) :=
  ⟨0x77, demo, by decide⟩

/-- The hypotheses of `Obligations.UartCommands` can be met, clause by clause. -/
theorem witness_UartCommands_0 :
  ∃ (seq : Byte) (soon : Bool) (payload : List Byte) (s : State), (UartFresh s seq 0x01 soon) ∧ (payload.length ≤ 247) :=
  ⟨1, true, [1, 2], demoUart, by decide⟩
theorem witness_UartCommands_1 :
  ∃ (seq : Byte) (soon : Bool) (s : State), (UartFresh s seq 0x02 soon) :=
  ⟨1, true, demoUart, by decide⟩
theorem witness_UartCommands_2 :
  ∃ (seq : Byte) (soon : Bool) (s : State), (UartFresh s seq 0x03 soon) ∧ (s.mode = .service ∨ s.mode = .commission ∨ s.mode = .maintenance) :=
  ⟨1, true, demoUart, by decide⟩
theorem witness_UartCommands_3 :
  ∃ (seq : Byte) (a : Byte) (b : Byte) (soon : Bool) (s : State), (UartFresh s seq 0x10 soon) ∧ (s.mode ≠ .outage) ∧ (((UartTaken s seq 0x10).tryOps [hostWrite 0x01 0xA0 (a.toNat + 256 * b.toNat), hostWrite 0x01 0xC0 1]).2 = 0) :=
  ⟨1, 1, 0, false, demoSite, by decide⟩
theorem witness_UartCommands_4 :
  ∃ (seq : Byte) (role : Byte) (soon : Bool) (s : State), (UartFresh s seq 0x11 soon) ∧ (s.mode ≠ .outage) ∧ (role.toNat ≤ 3) ∧ (((UartTaken s seq 0x11).tryOps [hostWrite 0x01 0xB0 (role.toNat + R.HOSTIF.S_ROLE_PAIR_EN.place (s.get R.HOSTIF.S_ROLE_PAIR_EN)), hostWrite 0x01 0xB4 0, hostWrite 0x01 0xC0 1]).2 = 0) :=
  ⟨1, 2, false, demoSite, by decide⟩
theorem witness_UartCommands_5 :
  ∃ (seq : Byte) (lat : Word) (lon : Word) (soon : Bool) (s : State), (UartFresh s seq 0x12 soon) ∧ (s.mode = .service) ∧ (((UartTaken s seq 0x12).tryOps [hostWrite 0x01 0xA8 lat.toNat, hostWrite 0x01 0xAC lon.toNat, hostWrite 0x01 0xC0 1]).2 = 0) :=
  ⟨1, 5, 7, false, demoSite, by decide⟩
theorem witness_UartCommands_6 :
  ∃ (seq : Byte) (a : Byte) (b : Byte) (cls : Fin 4) (data : List Byte) (soon : Bool) (s : State), (UartFresh s seq 0x20 soon) ∧ (data.length ≤ 245) ∧ (s.hasMesh) ∧ (s.enabled 0x48) ∧ (s.sendCheck ⟨a.toNat + 256 * b.toNat, cls, (s.compatMsg (a.toNat + 256 * b.toNat) cls data).kind, (s.compatMsg (a.toNat + 256 * b.toNat) cls data).ptype, 0, data.length, 0⟩ = 0) :=
  ⟨1, 5, 0, 0, [1], false, demoSend, by decide⟩
theorem witness_UartCommands_7 :
  ∃ (seq : Byte) (level : Byte) (soon : Bool) (s : State), (UartFresh s seq 0x30 soon) ∧ (s.bit R.PWR.SUPPLY_MAINS) ∧ (level.toNat < 255) ∧ ((s.eng 10).image) ∧ ((s.eng 10).mailbox.length < 8) :=
  ⟨1, 254, false, demoUart, by decide⟩
theorem witness_UartCommands_8 :
  ∃ (seq : Byte) (soon : Bool) (s : State), (UartFresh s seq 0x31 soon) ∧ (s.bit R.PWR.SUPPLY_MAINS) ∧ ((s.eng 10).image) ∧ ((s.eng 10).mailbox.length < 8) :=
  ⟨1, false, demoUart, by decide⟩
theorem witness_UartCommands_9 :
  ∃ (seq : Byte) (soon : Bool) (s : State), (UartFresh s seq 0x32 soon) ∧ (s.bit R.PWR.SUPPLY_MAINS) ∧ (Reaches s 12 0x62 0x28 false) :=
  ⟨1, false, demoUart.set (R.HDR.OWNER 0x62) 12, by decide⟩
theorem witness_UartCommands_10 :
  ∃ (seq : Byte) (sec : BitVec 33) (soon : Bool) (s : State), (UartFresh s seq 0x40 soon) ∧ (((UartTaken s seq 0x40).tryOp 0x28 (fun s => s.guarded 12 0x28 0x40 (fun s => s.commitCount 12 sec.toNat 0))).2 = 0) :=
  ⟨1, 5, false, demoUart, by decide⟩
theorem witness_UartCommands_11 :
  ∃ (seq : Byte) (soon : Bool) (s : State), (UartFresh s seq 0x41 soon) :=
  ⟨1, false, demoUart, by decide⟩
theorem witness_UartCommands_12 :
  ∃ (seq : Byte) (block : Nat) (chunk : Nat) (data : List Byte) (soon : Bool) (s : State), (UartFresh s seq 0x50 soon) ∧ (s.mode ≠ .outage) ∧ (s.update.waiting = none) ∧ (s.update.refused = none) ∧ (s.update.gather = none) ∧ (block < 2 ^ 19 ∧ chunk < 32) ∧ (data.length = 128) :=
  ⟨1, 3, 31, List.replicate 128 7, false, demoUart, by decide, by decide, by decide, by decide, by decide, by decide, List.length_replicate⟩
theorem witness_UartCommands_13 :
  ∃ (seq : Byte) (soon : Bool) (s : State), (UartFresh s seq 0x60 soon) ∧ (Reaches s 12 0x00 0x00 false) ∧ (Reaches (s.setAll [(R.HDR.REASON 0, 0), (R.HOSTIF.LASTREF_REASON, 0)]) 12 0x00 0x00 false) :=
  ⟨1, false, demoUart.set (R.HDR.OWNER 0) 12, by decide⟩
theorem witness_UartCommands_14 :
  ∃ (seq : Byte) (addr : Half) (w : Word) (soon : Bool) (s : State), (UartFresh s seq 0x61 soon) ∧ (((UartTaken s seq 0x61).tryOp (addr.toNat / 256) (fun t => t.regWrite 12 (addr.toNat / 256) (addr.toNat % 256) w.toNat)).2 = 0) :=
  ⟨1, 0x0110, 5, false, demoUart, by decide⟩
theorem witness_UartCommands_15 :
  ∃ (seq : Byte) (cmd : Nat) (bytes : List Byte) (rest : List UartFrame) (soon : Bool) (s : State), (UartFresh s seq 0x7E soon) ∧ (s.compat.queue = ⟨seq.toNat, cmd, bytes⟩ :: rest) ∧ (s.compat.waiting = []) ∧ (s.msg.offers = []) :=
  ⟨1, 0xC2, [1], [], false, demoUart.modCompat (fun c => { c with queue := [⟨1, 0xC2, [1]⟩] }), by decide⟩
theorem witness_UartCommands_16 :
  ∃ (seq : Byte) (rate : Byte) (soon : Bool) (s : State), (UartFresh s seq 0x7F soon) ∧ (rate.toNat ≤ 9) :=
  ⟨1, 9, false, demoUart, by decide⟩
theorem witness_UartCommands_17 :
  ∃ (seq : Byte) (code : Byte) (soon : Bool) (s : State), (UartFresh s seq code.toNat soon) ∧ (code ∉ ([0x01, 0x02, 0x03, 0x10, 0x11, 0x12, 0x20, 0x30, 0x31, 0x32, 0x40, 0x41, 0x50, 0x60, 0x61, 0x7E, 0x7F] : List Byte)) :=
  ⟨1, 0x13, false, demoUart, by decide⟩
theorem witness_UartCommands_18 :
  ∃ (s : State), (s.e9Serves) ∧ (s.domOn 0 ∧ s.domOn 14 ∧ s.domOn 25) :=
  ⟨demoUart, by decide⟩
theorem witness_UartCommands_19 :
  ∃ (bytes : List Byte) (s : State), (s.e9Serves) ∧ (s.domOn 0 ∧ s.domOn 14 ∧ s.domOn 25) ∧ (uartFrame? bytes = none) :=
  ⟨[0xA5, 0, 1, 1, 0, 0], demoUart, by decide +kernel⟩
theorem witness_UartCommands_20 :
  ∃ (seq : Byte) (payload : List Byte) (soon : Bool) (s : State), (UartFresh s seq 0x01 soon) ∧ (payload.length ≤ 247) :=
  ⟨1, [7], false, demoUart, by decide⟩
theorem witness_UartCommands_21 :
  ∃ (s : State), (s.e9Serves) ∧ (s.compat.queue ≠ []) ∧ (s.compat.resends < 3) :=
  ⟨demoUart.modCompat (fun c => { c with queue := [⟨1, 0xC2, [1]⟩] }), by decide⟩
theorem witness_UartCommands_22 :
  ∃ (block : Nat) (data : List Byte) (s : State), (s.update.waiting = some (block, data)) ∧ (s.get R.UPDATE.STAT_BUSY = 0) ∧ ((s.stageWrite block data).2 = 0) :=
  ⟨0, [0], { demo with update := { demo.update with waiting := some (0, [0]) } }.set R.UPDATE.STAT_ST 1, by decide⟩

/-- The hypotheses of `Obligations.RfCalibration` can be met, clause by clause. -/
theorem witness_RfCalibration_0 :
  ∃ (c : Chain) (r : CalResult) (vco : Half) (s : State), (s.get (R.RF.STAT_CH_ST (chainIdx c)) = 1) ∧ ((s.chain c).tempRun = false) ∧ (calFailed 0 5 r = none) ∧ (r.vco = some vco) :=
  ⟨.b, ⟨30, some 1, some 2, some 3, some (4, 5), some (6, 7)⟩, 2, demo.set (R.RF.STAT_CH_ST 1) 1, by decide⟩
theorem witness_RfCalibration_1 :
  ∃ (c : Chain) (r : CalResult) (k : Nat) (s : State), (s.get (R.RF.STAT_CH_ST (chainIdx c)) = 1) ∧ ((s.chain c).tempRun = false) ∧ (calFailed 0 5 r = some k) ∧ (s.get (failRunFld c) < 2) :=
  ⟨.b, ⟨30, some 1, none, some 3, some (4, 5), some (6, 7)⟩, 1, demo.set (R.RF.STAT_CH_ST 1) 1, by decide⟩
theorem witness_RfCalibration_2 :
  ∃ (value : Word) (c : Chain) (s : State), (Works s 0 0x32 0x20) ∧ (R.RFCAL.CMD_GO.of value.toNat = 1) ∧ (R.RFCAL.CMD_CHAIN.of value.toNat = chainIdx c) ∧ (s.gapOn c = true) :=
  ⟨2, .a, demo.set (R.RF.STAT_CH_ST 0) 2, by decide⟩
theorem witness_RfCalibration_3 :
  ∃ (c : Chain) (temp : Byte) (s : State), (s.get (R.RF.STAT_CH_ST (chainIdx c)) = 2) ∧ (s.dom (medDomain (chainMed c)) ≠ 0) ∧ ((s.chain c).calDue = false ∧ (s.chain c).tempRun = false) ∧ (¬ ((BitVec.ofNat 8 (s.get (tempFld c))).toInt - temp.toInt).natAbs < 8) :=
  ⟨.a, 40, demo.set (R.RF.STAT_CH_ST 0) 2, by decide⟩
theorem witness_RfCalibration_4 :
  ∃ (c : Chain) (temp : Byte) (s : State), (s.get (R.RF.STAT_CH_ST (chainIdx c)) ≠ 0) ∧ (s.dom (medDomain (chainMed c)) ≠ 0) ∧ ((s.chain c).tempRun = false) ∧ (¬ ((BitVec.ofNat 8 (s.get (tempFld c))).toInt - temp.toInt).natAbs < 8) :=
  ⟨.a, 40, demo.set (R.RF.STAT_CH_ST 0) 3, by decide⟩
theorem witness_RfCalibration_5 :
  ∃ (c : Chain) (r : CalResult) (s : State), (s.get (R.RF.STAT_CH_ST (chainIdx c)) = 1) ∧ ((s.chain c).tempRun = true ∧ (s.chain c).tempBad = none) ∧ (calFailed (s.chain c).tempStep 5 r = none) :=
  ⟨.b, ⟨30, some 1, some 2, some 3, some (4, 5), some (6, 7)⟩, (demo.set (R.RF.STAT_CH_ST 1) 1).modChain .b (fun x => { x with tempRun := true }), by decide⟩

/-- The hypotheses of `Obligations.RfReception` can be met, clause by clause. -/
theorem witness_RfReception_0 :
  ∃ (m : Medium) (nbr : Nat) (chan : Nat) (prof : Nat) (s : State), ((s.air m).armed = .rx nbr chan prof) ∧ (s.tempTakes m = none) ∧ (s.nbr? nbr = none) ∧ ((s.wakeMedium m).phy m = 2) ∧ (((s.wakeMedium m).armed m true).spaced = true) :=
  ⟨.rfB, 255, 2, 1, (demo.set (R.RF.STAT_CH_ST 1) 2).modAir .rfB (fun a => { a with armed := .rx 255 2 1 }), by decide⟩
theorem witness_RfReception_1 :
  ∃ (c : Chain) (rssi : Byte) (s : State), (s.phy (chainMed c) = 3) ∧ ((s.air (chainMed c)).winOpen = true ∧ (s.air (chainMed c)).det = .none) ∧ (s.onBank c = false) ∧ (s.edThr c ≤ rssi.toInt) :=
  ⟨.a, 5, (demo.set (R.RF.STAT_CH_ST 0) 3).modAir .rfA (fun a => { a with winOpen := true }), by decide⟩
theorem witness_RfReception_2 :
  ∃ (c : Chain) (s : State), ((s.air (chainMed c)).det = .energy) :=
  ⟨.a, demo.modAir .rfA (fun a => { a with det := .energy }), by decide⟩
theorem witness_RfReception_3 :
  ∃ (c : Chain) (score : Byte) (freq : Half) (s : State), ((s.air (chainMed c)).det = .energy) ∧ (s.now (R.PHYRF.PROF_THR_QUAL (s.rxProf c)) ≤ score.toNat) ∧ (-2500 ≤ freq.toInt ∧ freq.toInt ≤ 2500) :=
  ⟨.a, 200, 2500, demo.modAir .rfA (fun a => { a with det := .energy }), by decide⟩
theorem witness_RfReception_4 :
  ∃ (freq : Half), (freq.toInt < -2500 ∨ 2500 < freq.toInt) :=
  ⟨2501, by decide⟩
theorem witness_RfReception_5 :
  ∃ (hits : List (Fin 6 × Byte × Half)) (lane : Nat) (v : Nat) (s : State), (s.bankCh = 1) ∧ ((s.air .rfA).winOpen = true) ∧ (s.get R.PHYRF.STAT_HOLD = 7) ∧ (s.laneWinner ((hits.filter (fun h => s.laneOn h.1.val && Nat.ble (s.now (R.PHYRF.SCORE_T h.1.val)) h.2.1.toNat && afcOk h.2.2)).map (fun h => (h.1.val, h.2.1.toNat))) = some (lane, v)) :=
  ⟨[(2, 9, 100)], 2, 9, demoBank, by decide⟩
theorem witness_RfReception_6 :
  ∃ (hits : List (Fin 6 × Byte × Half)), (∀ h ∈ hits, h.2.2.toInt < -2500 ∨ 2500 < h.2.2.toInt) :=
  ⟨[(2, 9, 2501)], by simp⟩
theorem witness_RfReception_7 :
  ∃ (c : Chain) (s : State), ((s.air (chainMed c)).det = .qualified) :=
  ⟨.b, demo.modAir .rfB (fun a => { a with det := .qualified }), by decide⟩
theorem witness_RfReception_8 :
  ∃ (c : Chain) (s : State), ((s.air (chainMed c)).det = .qualified) ∧ ((s.air (chainMed c)).winOpen = true) :=
  ⟨.b, demo.modAir .rfB (fun a => { a with det := .qualified, winOpen := true }), by decide⟩
theorem witness_RfReception_9 :
  ∃ (c : Chain) (phr : Phr) (s : State), ((s.air (chainMed c)).det = .sfd) ∧ (phrBad (s.air (chainMed c)).mode phr = false) :=
  ⟨.b, ⟨30, true, false, false, 0, 0, true⟩, demo.modAir .rfB (fun a => { a with det := .sfd }), by decide⟩
theorem witness_RfReception_10 :
  ∃ (c : Chain) (phr : Phr) (s : State), ((s.air (chainMed c)).det = .sfd) ∧ ((s.air (chainMed c)).winOpen = true) ∧ (phrBad (s.air (chainMed c)).mode phr = true) :=
  ⟨.b, ⟨2, true, false, false, 0, 0, true⟩, demo.modAir .rfB (fun a => { a with det := .sfd, winOpen := true }), by decide⟩
theorem witness_RfReception_11 :
  ∃ (c : Chain) (s : State), ((s.air (chainMed c)).winOpen = true) ∧ ((s.air (chainMed c)).await = none) ∧ ((s.air (chainMed c)).det = .sfd ∨ (s.air (chainMed c)).det = .qualified ∨ (s.air (chainMed c)).det = .phr) :=
  ⟨.b, demo.modAir .rfB (fun a => { a with det := .sfd, winOpen := true }), by decide⟩
theorem witness_RfReception_12 :
  ∃ (c : Chain) (s : State), ((s.air (chainMed c)).winOpen = true) ∧ ((s.air (chainMed c)).await = none) ∧ ((s.air (chainMed c)).det = .none ∨ (s.air (chainMed c)).det = .energy) ∧ (s.phy (chainMed c) = 3) :=
  ⟨.b, (demo.set (R.RF.STAT_CH_ST 1) 3).modAir .rfB (fun a => { a with winOpen := true }), by decide⟩
theorem witness_RfReception_13 :
  ∃ (c : Chain) (f : AirFrame) (s : State), (s.phy (chainMed c) = 4) ∧ ((s.air (chainMed c)).det = .phr) ∧ (f.fcs = false) :=
  ⟨.a, { demoFrame with fcs := false }, demoPhr, by decide⟩
theorem witness_RfReception_14 :
  ∃ (c : Chain) (f : AirFrame) (s : State), (s.phy (chainMed c) = 4) ∧ ((s.air (chainMed c)).det = .phr ∧ (s.air (chainMed c)).await = none ∧ (s.air (chainMed c)).alarmRx = false) ∧ (f.fcs = true) ∧ (s.forUs f = false) ∧ (s.ownNet f = false) :=
  ⟨.a, { demoFrame with dst := 0x77 }, demoPhr, by decide⟩

/-- The hypotheses of `Obligations.FrameAcceptance` can be met, clause by clause. -/
theorem witness_FrameAcceptance_0 :
  ∃ (c : Chain) (f : AirFrame) (s : State), (HeardBy s c f) ∧ (s.readsOpen f = false) ∧ (s.versionOk (chainMed c) f = false) :=
  ⟨.a, { demoFrame with version := 1 }, demoPhr, by decide⟩
theorem witness_FrameAcceptance_1 :
  ∃ (c : Chain) (f : AirFrame) (s : State), (HeardBy s c f) ∧ (s.readsOpen f = false) ∧ (s.versionOk (chainMed c) f = true) ∧ (f.level = 0 ∧ f.version = 2) :=
  ⟨.a, { demoFrame with level := 0 }, demoPhr, by decide⟩
theorem witness_FrameAcceptance_2 :
  ∃ (c : Chain) (f : AirFrame) (s : State), (HeardBy s c f) ∧ (s.readsOpen f = false) ∧ (s.versionOk (chainMed c) f = true) ∧ (f.level = 1 ∨ 5 ≤ f.level.toNat) ∧ (s.slotOf f.keyIdx.toNat = none) ∧ ((s.srcNbr f).isSome = true) :=
  ⟨.a, { demoFrame with keyIdx := 9 }, demoPhr, by decide⟩
theorem witness_FrameAcceptance_3 :
  ∃ (c : Chain) (f : AirFrame) (s : State), (HeardBy s c f) ∧ (s.readsOpen f = false) ∧ (s.versionOk (chainMed c) f = true) ∧ (f.level = 1 ∨ 5 ≤ f.level.toNat) ∧ (f.keyIdx.toNat < 0xFE) ∧ ((s.slotOf f.keyIdx.toNat).isSome = true) ∧ (f.mic = false) ∧ ((s.srcNbr f).isSome = true) :=
  ⟨.a, { demoFrame with mic := false }, demoPhr, by decide⟩
theorem witness_FrameAcceptance_4 :
  ∃ (c : Chain) (f : AirFrame) (k : Byte) (n : Nbr) (s : State), (HeardBy s c f) ∧ (s.readsOpen f = false) ∧ (s.versionOk (chainMed c) f = true) ∧ (f.level = 1 ∨ 5 ≤ f.level.toNat) ∧ (f.keyIdx.toNat < 0xFE) ∧ ((s.slotOf f.keyIdx.toNat).isSome = true) ∧ (f.mic = true) ∧ (f.kind = .command k ∧ k.toNat ≠ 1 ∧ k.toNat ≠ 2 ∧ k.toNat ≠ 4) ∧ (f.sync = none ∧ f.tone = none ∧ f.dst ≠ 0xFFFF) ∧ (s.srcNbr f = some n) ∧ (∀ e ∈ n.hwm, e.2 < f.counter.toNat) ∧ (∀ x ∈ n.recs, x.seq ≠ f.seq.toNat) :=
  ⟨.a, { demoFrame with kind := .command 9 }, 9, demoNbr, demoPhr, by decide⟩

/-- The hypotheses of `Obligations.RfTransmission` can be met, clause by clause. -/
theorem witness_RfTransmission_0 :
  ∃ (c : Chain) (x : TxSample) (a : Attempt) (f : LinkFrame) (s : State), (s.phy (chainMed c) = 2 ∨ s.phy (chainMed c) = 3) ∧ (s.domOn (medDomain (chainMed c)) = true) ∧ (SendReady s (chainMed c) a f) ∧ ((s.sampled c x).txStop c (Nat.beq f.cls 0) false a.chan ((s.sampled c x).frameUs (chainMed c) a f ((s.sampled c x).frameTone (chainMed c) a.cell f).1.length) x = none) ∧ (((s.sampled c x).giveCounter f).2 = true) ∧ (s.enabled (medPage (chainMed c)) = true ∧ x.settling = false) ∧ (s.bit R.PWR.SUPPLY_BROWNOUT = false) :=
  ⟨.b, ⟨false, true, false, 0x80, 50, 104⟩, demoAttempt, { LinkFrame.blank with num := 1, dest := 0, ctr := some 3, cls := 2 }, demoTx, by decide⟩
theorem witness_RfTransmission_1 :
  ∃ (c : Chain) (x : TxSample) (a : Attempt) (s : State), (s.phy (chainMed c) = 4 ∨ s.phy (chainMed c) = 1 ∨ s.phy (chainMed c) = 2 ∧ x.settling = true) ∧ (s.domOn (medDomain (chainMed c)) = true) ∧ (s.enabled (medPage (chainMed c)) = true) ∧ ((s.air (chainMed c)).armed = .tx a ∧ (s.air (chainMed c)).ackDue = none) ∧ (s.sends (chainMed c) = false) :=
  ⟨.b, ⟨false, true, false, 0x80, 50, 104⟩, demoAttempt, demoTx.set (R.RF.STAT_CH_ST 1) 4, by decide⟩
theorem witness_RfTransmission_2 :
  ∃ (c : Chain) (x : TxSample) (a : Attempt) (f : LinkFrame) (r : Nat) (s : State), (s.phy (chainMed c) = 2 ∨ s.phy (chainMed c) = 3) ∧ (s.domOn (medDomain (chainMed c)) = true) ∧ (SendReady s (chainMed c) a f) ∧ ((s.sampled c x).txStop c (Nat.beq f.cls 0) false a.chan ((s.sampled c x).frameUs (chainMed c) a f ((s.sampled c x).frameTone (chainMed c) a.cell f).1.length) x = some r) ∧ (r ≠ 0x45) ∧ (s.enabled (medPage (chainMed c)) = true ∧ x.settling = false) :=
  ⟨.b, ⟨false, true, false, 0x80, 50, 104⟩, demoAttempt, { LinkFrame.blank with num := 1, dest := 0, ctr := some 3, cls := 2 }, 0x46, { demoTx with mode := .outage }.setAll [(R.PWR.SUPPLY_BROWNOUT, 1)] |>.modAir .rfA (fun a => { a with acking := true }), by decide⟩
theorem witness_RfTransmission_3 :
  ∃ (c : Chain) (late : Half) (x : TxSample) (a : Attempt) (s : State), ((s.air (chainMed c)).armed = .tx a ∧ (s.air (chainMed c)).deferred = true) ∧ (s.sends (chainMed c) = false ∧ (s.air (chainMed c)).ackDue = none) ∧ (s.phy (chainMed c) = 2 ∨ s.phy (chainMed c) = 3) ∧ (s.enabled (medPage (chainMed c)) = true ∧ x.settling = false) ∧ (200 < late.toNat) :=
  ⟨.b, 201, ⟨false, true, false, 0x80, 50, 104⟩, demoAttempt, demoTx.modAir .rfB (fun a => { a with deferred := true }), by decide⟩
theorem witness_RfTransmission_4 :
  ∃ (c : Chain) (late : Half) (x : TxSample) (a : Attempt) (f : LinkFrame) (s : State), (SendReady s (chainMed c) a f) ∧ ((s.air (chainMed c)).deferred = true) ∧ (s.phy (chainMed c) = 2 ∨ s.phy (chainMed c) = 3) ∧ (0 < late.toNat ∧ late.toNat ≤ 200) ∧ ((s.sampled c x).txStop c (Nat.beq f.cls 0) false a.chan ((s.sampled c x).frameUs (chainMed c) a f ((s.sampled c x).frameTone (chainMed c) a.cell f).1.length) x = none) ∧ (((s.sampled c x).giveCounter f).2 = true) ∧ (s.enabled (medPage (chainMed c)) = true ∧ x.settling = false) ∧ (s.bit R.PWR.SUPPLY_BROWNOUT = false) :=
  ⟨.b, 20, ⟨false, true, false, 0x80, 50, 104⟩, demoAttempt, { LinkFrame.blank with num := 1, dest := 0, ctr := some 3, cls := 2 }, demoTx.modAir .rfB (fun a => { a with deferred := true }), by decide⟩
theorem witness_RfTransmission_5 :
  ∃ (c : Chain) (a : Attempt) (f : LinkFrame) (s : State), (s.phy (chainMed c) = 5) ∧ (s.radio.calling = none) ∧ ((s.air (chainMed c)).sending = some a) ∧ (s.frame? a.frame = some f) ∧ (f.acked = true) :=
  ⟨.b, demoAttempt, { LinkFrame.blank with num := 1, dest := 0, ctr := some 3, cls := 2 }, (demoTx.set (R.RF.STAT_CH_ST 1) 5).modAir .rfB (fun k => { k with sending := some demoAttempt }), by decide⟩
theorem witness_RfTransmission_6 :
  ∃ (c : Chain) (a : Attempt) (f : LinkFrame) (s : State), (s.phy (chainMed c) = 5) ∧ (s.radio.calling = none) ∧ ((s.air (chainMed c)).sending = some a) ∧ (s.frame? a.frame = some f) ∧ (f.acked = false) ∧ (f.msg = 0) :=
  ⟨.b, demoAttempt, { LinkFrame.blank with num := 1, dest := 300, cls := 2 }, { (demoTx.set (R.RF.STAT_CH_ST 1) 5).modAir .rfB (fun k => { k with sending := some demoAttempt }) with sched := { demoTx.sched with queue := [{ LinkFrame.blank with num := 1, dest := 300, cls := 2 }] } }, by decide⟩
theorem witness_RfTransmission_7 :
  ∃ (w : WakeCall) (s : State), (s.radio.calling = some w) :=
  ⟨demoCall, { demo with radio := { demo.radio with calling := some demoCall } }, by decide⟩
theorem witness_RfTransmission_8 :
  ∃ (s : State), (s.micaSwitch = true) ∧ (s.bit R.MICA.STAT_LISTEN = true) :=
  ⟨demoHold, by decide⟩

/-- The hypotheses of `Obligations.PlcPhy` can be met, clause by clause. -/
theorem witness_PlcPhy_0 :
  ∃ (score : Byte) (s : State), (s.get R.PLCPHY.STAT_ST = 2) ∧ ((s.air .plc).winOpen = true ∧ (s.air .plc).det = .none) ∧ (s.now R.PLCPHY.CFG_DETTHR ≤ score.toNat) :=
  ⟨9, (demo.set R.PLCPHY.STAT_ST 2).modAir .plc (fun a => { a with winOpen := true }), by decide⟩
theorem witness_PlcPhy_1 :
  ∃ (s : State), ((s.air .plc).det = .energy) ∧ ((s.air .plc).winOpen = true) :=
  ⟨demo.modAir .plc (fun a => { a with winOpen := true, det := .energy }), by decide⟩
theorem witness_PlcPhy_2 :
  ∃ (bits : BitVec 40) (s : State), ((s.air .plc).det = .energy) ∧ (fchCrcOk bits.toNat = true) ∧ (bits.toNat / 2 ^ 12 % 4 = 0 ∧ bits.toNat / 2 ^ 10 % 4 = 0 ∧ 5 ≤ bits.toNat % 1024) :=
  ⟨BitVec.ofNat 40 (fchWord 20 0 0 0 0), demo.modAir .plc (fun a => { a with det := .energy }), by decide +kernel⟩
theorem witness_PlcPhy_3 :
  ∃ (bits : BitVec 40) (s : State), ((s.air .plc).det = .energy) ∧ ((s.air .plc).winOpen = true) ∧ (fchCrcOk bits.toNat = false ∨ bits.toNat / 2 ^ 10 % 4 = 3 ∨ bits.toNat / 2 ^ 12 % 4 = 3 ∨ bits.toNat % 1024 < 5 ∨ (bits.toNat / 2 ^ 12 % 4 = 0 ∧ bits.toNat / 2 ^ 10 % 4 ≠ 0)) :=
  ⟨BitVec.ofNat 40 (fchWord 4 0 0 0 0), demo.modAir .plc (fun a => { a with winOpen := true, det := .energy }), by decide +kernel⟩
theorem witness_PlcPhy_4 :
  ∃ (bits : BitVec 40) (s : State), ((s.air .plc).det = .energy) ∧ ((s.air .plc).winOpen = true) ∧ (fchCrcOk bits.toNat = true) ∧ ((bits.toNat / 2 ^ 12 % 4 = 1 ∨ bits.toNat / 2 ^ 12 % 4 = 2) ∧ bits.toNat / 2 ^ 10 % 4 ≠ 3 ∧ 5 ≤ bits.toNat % 1024) ∧ (s.slot? (bits.toNat / 2 ^ 14 % 32) = none) :=
  ⟨BitVec.ofNat 40 (fchWord 20 1 1 0 0), demo.modAir .plc (fun a => { a with winOpen := true, det := .energy }), by decide +kernel⟩
theorem witness_PlcPhy_5 :
  ∃ (s : State), (s.get R.PLCPHY.STAT_ST = 3) ∧ ((s.air .plc).det = .phr) ∧ ((s.air .plc).winOpen = true) :=
  ⟨demoPhr, by decide⟩
theorem witness_PlcPhy_6 :
  ∃ (f : AirFrame) (s : State), (s.get R.PLCPHY.STAT_ST = 3) ∧ ((s.air .plc).det = .phr ∧ (s.air .plc).await = none) ∧ (f.fcs = true) ∧ (s.forUs f = false) ∧ (s.ownNet f = false) ∧ (s.srcNbr f = none) :=
  ⟨{ demoFrame with dst := 0x77, src := 0x99 }, demoPhr, by decide⟩
theorem witness_PlcPhy_7 :
  ∃ (s : State), ((s.air .plc).winOpen = true ∧ (s.air .plc).await = none) ∧ ((s.air .plc).det = .phr) :=
  ⟨demoPhr, by decide⟩
theorem witness_PlcPhy_8 :
  ∃ (a : Attempt) (f : LinkFrame) (s : State), (s.get R.PLCPHY.STAT_ST = 1 ∨ s.get R.PLCPHY.STAT_ST = 2) ∧ (SendReady s .plc a f) ∧ (s.enabled 0x3B = true) ∧ (s.driverOff = false) ∧ (s.bit R.PWR.SUPPLY_BROWNOUT = false) ∧ ((s.giveCounter f).2 = true) :=
  ⟨demoAttempt, { LinkFrame.blank with num := 1, dest := 0, ctr := some 3, cls := 2 }, demoTx, by decide⟩
theorem witness_PlcPhy_9 :
  ∃ (a : Attempt) (f : LinkFrame) (s : State), (s.get R.PLCPHY.STAT_ST = 1 ∨ s.get R.PLCPHY.STAT_ST = 2) ∧ (SendReady s .plc a f) ∧ (s.enabled 0x3B = true) ∧ (s.driverOff = true) :=
  ⟨demoAttempt, { LinkFrame.blank with num := 1, dest := 0, ctr := some 3, cls := 2 }, demoTx.set R.PWR.SUPPLY_OVERVOLT 1, by decide⟩
theorem witness_PlcPhy_10 :
  ∃ (a : Attempt) (f : LinkFrame) (s : State), (s.get R.PLCPHY.STAT_ST = 4) ∧ ((s.air .plc).sending = some a) ∧ (s.frame? a.frame = some f) ∧ (f.acked = true) :=
  ⟨demoAttempt, { LinkFrame.blank with num := 1, dest := 0, ctr := some 3, cls := 2 }, (demoTx.set R.PLCPHY.STAT_ST 4).modAir .plc (fun k => { k with sending := some demoAttempt }), by decide⟩
theorem witness_PlcPhy_11 :
  ∃ (late : Half) (a : Attempt) (s : State), ((s.air .plc).armed = .tx a ∧ (s.air .plc).deferred = true) ∧ (s.sends .plc = false ∧ (s.air .plc).ackDue = none) ∧ (s.enabled 0x3B = true) ∧ (s.get R.PLCPHY.STAT_ST = 1 ∨ s.get R.PLCPHY.STAT_ST = 2) ∧ (200 < late.toNat) :=
  ⟨201, demoAttempt, demoTx.modAir .plc (fun a => { a with deferred := true }), by decide⟩
theorem witness_PlcPhy_12 :
  ∃ (late : Half) (a : Attempt) (f : LinkFrame) (s : State), (SendReady s .plc a f) ∧ ((s.air .plc).deferred = true) ∧ (s.get R.PLCPHY.STAT_ST = 1 ∨ s.get R.PLCPHY.STAT_ST = 2) ∧ (late.toNat ≤ 200) ∧ (s.enabled 0x3B = true) ∧ (s.driverOff = false) ∧ (s.bit R.PWR.SUPPLY_BROWNOUT = false) ∧ ((s.giveCounter f).2 = true) :=
  ⟨20, demoAttempt, { LinkFrame.blank with num := 1, dest := 0, ctr := some 3, cls := 2 }, demoTx.modAir .plc (fun a => { a with deferred := true }), by decide⟩
theorem witness_PlcPhy_13 :
  ∃ (temp : Byte) (s : State), (125 < temp.toNat) ∧ (s.bit R.PLCAFE.STAT_THERM = false) :=
  ⟨126, demo, by decide⟩
theorem witness_PlcPhy_14 :
  ∃ (temp : Byte) (s : State), (temp.toNat < 110) ∧ (s.bit R.PLCAFE.STAT_THERM = true) :=
  ⟨109, demo.set R.PLCAFE.STAT_THERM 1, by decide⟩

/-- The hypotheses of `Obligations.SoundingAndToneMaps` can be met, clause by clause. -/
theorem witness_SoundingAndToneMaps_0 :
  ∃ (bins : List (Byte × List Half)) (s : State), (s.isLocked = true) ∧ (∀ b ∈ List.range 16, 4 ≤ (bins.getD b (0, [])).1.toNat) ∧ (s.enabled 0x3B = true) ∧ (s.now R.PLCPHY.SOUND_NSOUND ≤ s.get R.PLCPHY.SNDSTAT_HC) ∧ (s.plc.slots = []) :=
  ⟨List.replicate 16 (4, []), demo.setAll [(R.SCHED.STAT_TIMING, 2), (R.PLCPHY.SNDSTAT_HC, 200)], by decide⟩
theorem witness_SoundingAndToneMaps_1 :
  ∃ (who : Requester) (ts : ToneSlot) (s : State), (Works s who 0x3C 0xA0) ∧ (s.bit R.TONEMAP.STAT_GEN = false) ∧ (s.slot? (s.get R.TONEMAP.SEL_SLOT) = some ts) ∧ (s.canGen ts = true) :=
  ⟨0, freshSlot 0 3 [1] 5, { demo with plc := { demo.plc with noise := [[1]], slots := [(0, freshSlot 0 3 [1] 5)] } }, by decide⟩
theorem witness_SoundingAndToneMaps_2 :
  ∃ (who : Requester) (i : Nat) (ts : ToneSlot) (s : State), (Works s who 0x3C 0xA0) ∧ (s.bit R.TONEMAP.STAT_GEN = false) ∧ (s.plc.slots = [(i, ts)]) ∧ (s.canGen ts = true) :=
  ⟨0, 0, freshSlot 0 3 [1] 5, { demo with plc := { demo.plc with noise := [[1]], slots := [(0, freshSlot 0 3 [1] 5)] } }, by decide⟩
theorem witness_SoundingAndToneMaps_3 :
  ∃ (slot : Fin 32) (ts : ToneSlot) (s : State), (s.slot? slot = some ts) ∧ (ts.issued + 256 ≤ s.sched.asn) ∧ (ts.prev.isSome = true) :=
  ⟨0, { freshSlot 0 3 [1] 5 with prev := some ⟨1, 0, [], []⟩ }, { demo with plc := { demo.plc with slots := [(0, { freshSlot 0 3 [1] 5 with prev := some ⟨1, 0, [], []⟩ })] }, sched := { demo.sched with asn := 261 } }, by decide⟩

/-- The hypotheses of `Obligations.SlotsAndBoundaries` can be met, clause by clause. -/
theorem witness_SlotsAndBoundaries_0 :
  ∃ (s : State), (s.get R.SCHED.STAT_TIMING ≠ 0) ∧ (s.sched.origin = false) :=
  ⟨demoNet.set R.SCHED.STAT_TIMING 1, by decide⟩
theorem witness_SlotsAndBoundaries_1 :
  ∃ (s : State), (s.get R.SCHED.STAT_TIMING ≠ 0) :=
  ⟨demoNet.set R.SCHED.STAT_TIMING 1, by decide⟩
theorem witness_SlotsAndBoundaries_2 :
  ∃ (m : Medium) (s : State), ((s.air m).sending = none ∧ (s.air m).acking = false) ∧ (s.phy m ≠ 4) :=
  ⟨.rfA, demoTx, by decide⟩
theorem witness_SlotsAndBoundaries_3 :
  ∃ (m : Medium) (a : Attempt) (f : LinkFrame) (s : State), ((s.air m).await = some a) ∧ (s.frame? a.frame = some f) ∧ (s.nbrOf f = none) ∧ (∀ k ∈ media3, k ≠ m → (s.air k).armed = .idle ∧ (s.air k).await = none ∧ (s.air k).sending = none) ∧ (a.shared = false ∧ a.alarm = false ∧ f.joinKey = false) ∧ (f.kind = .data ∧ f.tries < s.retries f.cls) :=
  ⟨.rfB, demoAttempt, { LinkFrame.blank with num := 1, dest := 9, cls := 2 }, { demo with radio := { demo.radio with airB := { demo.radio.airB with await := some demoAttempt }, inForce := [(R.LINK.RETRY_TELEMETRY.key, 3)] }, sched := { demo.sched with queue := [{ LinkFrame.blank with num := 1, dest := 9, cls := 2 }] } }, by decide⟩
theorem witness_SlotsAndBoundaries_4 :
  ∃ (i : Nat) (n : Nbr) (s : State), (s.source = some i) ∧ (s.nbr? i = some n) ∧ (s.get R.SCHED.STAT_TIMING = 1) ∧ (s.mode = .service) ∧ (s.now R.SCHED.CFG_KA_S ≤ s.age n) :=
  ⟨0, demoNbr, demoNet.set R.SCHED.STAT_TIMING 1, by decide⟩
theorem witness_SlotsAndBoundaries_5 :
  ∃ (nbr : Byte) (x : TxSample) (r : Resync) (n : Nbr) (s : State), (s.sched.resyncs.find? (fun (r : Resync) => Nat.beq r.nbr nbr.toNat) = some r) ∧ (s.nbr? r.nbr = some n) ∧ (r.until_ ≤ s.sched.asn) ∧ (n.outage = true ∧ r.called = false) ∧ (s.maySend = true ∧ s.serviceable .rfA = true) ∧ (s.radio.calling = none) ∧ (s.canCall = true) ∧ ((((s.quiet .rfA).wakeMedium .rfA).sampled .a x).txStop .a false false ((((s.quiet .rfA).wakeMedium .rfA).sampled .a x).micaChan) (1000 * s.get R.MICA.CFG_CALLMS) x = none) :=
  ⟨0, ⟨false, true, false, 0x80, 50, 104⟩, ⟨0, 0, false⟩, { demoNbr with outage := true }, { demoNet.set (R.RF.STAT_CH_ST 0) 2 with sched := { demoNet.sched with resyncs := [⟨0, 0, false⟩], nbrs := [{ demoNbr with outage := true }] } }, by decide⟩
theorem witness_SlotsAndBoundaries_6 :
  ∃ (i : Nat) (s : State), (s.mode = .outage) ∧ (s.get R.SCHED.STAT_TIMING ≠ 0) ∧ (s.source = some i) :=
  ⟨0, { demoNet.set R.SCHED.STAT_TIMING 1 with mode := .outage }, by decide⟩
theorem witness_SlotsAndBoundaries_7 :
  ∃ (nbr : Byte) (n : Nbr) (s : State), (s.nbr? nbr.toNat = some n) ∧ (n.child = true ∧ n.sleepy = true ∧ n.sync ≤ 1) ∧ (n.pollS ≠ 0 ∧ n.polled + 3 * n.pollS ≤ s.get R.SYS.OPSEC_SEC) ∧ (s.buffered n.idx = []) :=
  ⟨0, { demoNbr with child := true, sleepy := true, pollS := 10 }, { demoNet.set R.SYS.OPSEC_SEC 30 with sched := { demoNet.sched with nbrs := [{ demoNbr with child := true, sleepy := true, pollS := 10 }] } }, by decide⟩

/-- The hypotheses of `Obligations.CellsAndKeys` can be met, clause by clause. -/
theorem witness_CellsAndKeys_0 :
  ∃ (who : Requester) (i : Nat) (s : State), (Works s who 0x40 0x80) ∧ (s.standby = false) ∧ (s.cellBad s.cellData = 0) ∧ (i < 2048) ∧ (∀ d ∈ s.sched.cells, d.idx ≠ i) ∧ (∀ j < i, s.sched.cells.any (fun d => Nat.beq d.idx j) = true) :=
  ⟨0, 0, demo.setAll [(R.SCHED.CELLD0_LEN, 1), (R.SCHED.CELLD1_TYPE, 1), (R.SCHED.CELLD1_MEDIA, 1), (R.SCHED.CELLD1_TXOFF, 2000), (R.SCHED.SF_LEN 0, 10), (R.PHYRF.PROF_CFG_MODE 0, 1)], by decide⟩
theorem witness_CellsAndKeys_1 :
  ∃ (who : Requester) (s : State), (Works s who 0x40 0x80) ∧ (s.standby = false) ∧ (s.cellBad s.cellData ≠ 0) :=
  ⟨0, demo, by decide⟩
theorem witness_CellsAndKeys_2 :
  ∃ (who : Requester) (idx : BitVec 11) (c : Cell) (s : State), (Works s who 0x40 0x80) ∧ (s.standby = false) ∧ (s.cell? idx.toNat = some c) ∧ (c.state = 0) :=
  ⟨0, 0, { demoCell with state := 0 }, { demo with sched := { demo.sched with cells := [{ demoCell with state := 0 }] } }, by decide⟩
theorem witness_CellsAndKeys_3 :
  ∃ (who : Requester) (idx : BitVec 11) (c : Cell) (s : State), (Works s who 0x40 0x80) ∧ (s.cell? idx.toNat = some c) :=
  ⟨0, 0, demoCell, { demo with sched := { demo.sched with cells := [demoCell] } }, by decide⟩
theorem witness_CellsAndKeys_4 :
  ∃ (who : Requester) (s : State), (Works s who 0x40 0x80) ∧ (s.standby = false) ∧ (s.mirroring = false) ∧ (s.bit (R.SCHED.SF_EN (s.get R.SCHED.CELLD0_SF)) = false) ∧ (∀ c ∈ s.sched.cells, c.state ≠ 2) :=
  ⟨0, { demo with sched := { demo.sched with cells := [demoCell] } }, by decide⟩
theorem witness_CellsAndKeys_5 :
  ∃ (who : Requester) (s : State), (Reaches s who 0x40 0x2C false) ∧ (s.get R.SCHED.STAT_TIMING ≠ 0) :=
  ⟨0, demo.set R.SCHED.STAT_TIMING 1, by decide⟩
theorem witness_CellsAndKeys_6 :
  ∃ (who : Requester) (s : State), (Works s who 0x42 0x3C) ∧ ((s.key (s.get R.LINKSEC.KEYSEL_SLOT)).valid = false) ∧ ((s.key (s.get R.LINKSEC.KEYSEL_SLOT)).idx ≠ 0) ∧ (s.slotOf (s.key (s.get R.LINKSEC.KEYSEL_SLOT)).idx = none) ∧ (s.get R.LINKSEC.KEYSEL_SLOT < s.keys.length) :=
  ⟨0, { demo with keys := [{ KeySlot.empty with idx := 3 }] }, by decide⟩
theorem witness_CellsAndKeys_7 :
  ∃ (who : Requester) (s : State), (Works s who 0x42 0x3C) ∧ (s.get R.LINKSEC.KEYSEL_SLOT ≠ s.get R.LINKSEC.TXKEY_NET) ∧ (s.bit R.LINKSEC.KSW1_ARM = false) :=
  ⟨0, demo.set R.LINKSEC.KEYSEL_SLOT 2, by decide⟩

/-- The hypotheses of `Obligations.KeyRefusals` can be met, clause by clause. -/
theorem witness_KeyRefusals_0 :
  ∃ (who : Requester) (s : State), (Works s who 0x42 0x3C) ∧ ((s.key (s.get R.LINKSEC.KEYSEL_SLOT)).valid = true) :=
  ⟨0, demoNet, by decide⟩
theorem witness_KeyRefusals_1 :
  ∃ (who : Requester) (s : State), (Works s who 0x42 0x3C) ∧ ((s.key (s.get R.LINKSEC.KEYSEL_SLOT)).valid = false) ∧ ((s.key (s.get R.LINKSEC.KEYSEL_SLOT)).idx = 0) :=
  ⟨0, demo, by decide⟩
theorem witness_KeyRefusals_2 :
  ∃ (who : Requester) (s : State), (Works s who 0x42 0x3C) ∧ ((s.key (s.get R.LINKSEC.KEYSEL_SLOT)).valid = false) ∧ ((s.key (s.get R.LINKSEC.KEYSEL_SLOT)).idx ≠ 0) ∧ ((s.slotOf (s.key (s.get R.LINKSEC.KEYSEL_SLOT)).idx).isSome = true) :=
  ⟨0, { demoNet.set R.LINKSEC.KEYSEL_SLOT 1 with keys := [({ KeySlot.empty with idx := 3, valid := true } : KeySlot), { KeySlot.empty with idx := 3 }] }, by decide⟩
theorem witness_KeyRefusals_3 :
  ∃ (who : Requester) (s : State), (Works s who 0x42 0x3C) ∧ (s.get R.LINKSEC.KEYSEL_SLOT = s.get R.LINKSEC.TXKEY_NET ∨ (s.bit R.LINKSEC.KSW1_ARM = true ∧ s.get R.LINKSEC.KEYSEL_SLOT = s.get R.LINKSEC.KSW1_NEXT)) :=
  ⟨0, demoNet, by decide⟩

/-- The hypotheses of `Obligations.MediumChoice` can be met, clause by clause. -/
theorem witness_MediumChoice_0 :
  ∃ (s : State) (c : Cell) (f : LinkFrame) (m : Medium), (s.cheapest c f none = some m) :=
  ⟨demoSlot, demoCell, demoQueued, .rfA, by decide⟩

/-- The hypotheses of `Obligations.JoiningANetwork` can be met, clause by clause. -/
theorem witness_JoiningANetwork_0 :
  ∃ (who : Requester) (s : State), (Works s who 0x44 0x34) ∧ (s.joinSt = 0 ∨ s.joinSt = 2 ∨ s.joinSt = 5) :=
  ⟨0, demo, by decide⟩
theorem witness_JoiningANetwork_1 :
  ∃ (who : Requester) (r : ScanRes) (n : Nbr) (s : State), (Works s who 0x44 0x34) ∧ (s.joinSt = 2) ∧ (s.mesh.results[0]? = some r) ∧ (r.admits = true) ∧ (s.freeKeySlot.isSome = true) ∧ (s.sfConflict r = false) ∧ ((s.needNbr r.ext).2 = some n) ∧ (n.idx < 256) :=
  ⟨0, demoResult, { freshNbr 0 with ext := 0x99, pan := 0 }, { demo.set R.MESH.STAT_JOIN_ST 2 with mesh := { demo.mesh with results := [demoResult] }, keys := [KeySlot.empty] }, by decide⟩
theorem witness_JoiningANetwork_2 :
  ∃ (who : Requester) (r : ScanRes) (n : Nbr) (s : State), (Works s who 0x44 0x34) ∧ (s.joinSt = 2) ∧ (s.mesh.results.find? (fun r => r.admits) = some r) ∧ (r.admits = true) ∧ (s.freeKeySlot.isSome = true) ∧ (s.sfConflict r = false) ∧ ((s.needNbr r.ext).2 = some n) ∧ (n.idx < 256) :=
  ⟨0, demoResult, { freshNbr 0 with ext := 0x99, pan := 0 }, { demo.set R.MESH.STAT_JOIN_ST 2 with mesh := { demo.mesh with results := [demoResult] }, keys := [KeySlot.empty] }, by decide⟩
theorem witness_JoiningANetwork_3 :
  ∃ (who : Requester) (s : State), (Works s who 0x44 0x34) ∧ (s.joinSt = 1) :=
  ⟨0, demo.set R.MESH.STAT_JOIN_ST 1, by decide⟩
theorem witness_JoiningANetwork_4 :
  ∃ (s : State), (s.joinSt = 1) ∧ (s.compat.joining = false) :=
  ⟨demo.set R.MESH.STAT_JOIN_ST 1, by decide⟩
theorem witness_JoiningANetwork_5 :
  ∃ (r : ScanRes) (s : State), (s.mesh.target = some r) ∧ (s.joinSt = 3) ∧ (s.mesh.tries < s.get R.MESH.JOINWAIT_TRIES) :=
  ⟨demoResult, { demo.setAll [(R.MESH.STAT_JOIN_ST, 3), (R.MESH.JOINWAIT_TRIES, 3)] with mesh := { demo.mesh with target := some demoResult, tries := 1 } }, by decide⟩
theorem witness_JoiningANetwork_6 :
  ∃ (r : ScanRes) (s : State), (s.mesh.target = some r) ∧ (s.joinSt = 3) ∧ (s.get R.MESH.JOINWAIT_TRIES ≤ s.mesh.tries) :=
  ⟨demoResult, { demo.setAll [(R.MESH.STAT_JOIN_ST, 3), (R.MESH.JOINWAIT_TRIES, 1)] with mesh := { demo.mesh with target := some demoResult, tries := 1 } }, by decide⟩

/-- The hypotheses of `Obligations.MeshCommands` can be met, clause by clause. -/
theorem witness_MeshCommands_0 :
  ∃ (o : Offer) (e : Assoc) (s : State), (s.isCoord = true ∧ s.assoc.busy = false) ∧ (MeshHead s 0x01 o) ∧ (o.peer ≠ 0) ∧ ((s.mailPop 5).lookupExt (o.field 0 8) = some e) ∧ (e.state = 1) :=
  ⟨⟨5, 1, 1, 1, 4, 1, 1, [1, 0x77, 0, 0, 0, 0, 0, 0, 0, 1, 0, 0, 0, 0, 0, 0, 0], 1, false⟩, { freshAssoc 2 0x77 with state := 1 }, demoMesh demoCoord [1, 0x77, 0, 0, 0, 0, 0, 0, 0, 1, 0, 0, 0, 0, 0, 0, 0] 1, by decide⟩
theorem witness_MeshCommands_1 :
  ∃ (o : Offer) (r : Relay) (s : State), (MeshHead s 0x02 o) ∧ ((s.mailPop 5).mesh.relays.find? (fun r => Nat.beq r.ext (o.field 0 8)) = some r) ∧ (o.field 8 1 ≠ 0) :=
  ⟨⟨5, 0, 1, 1, 4, 1, 1, [2, 0x77, 0, 0, 0, 0, 0, 0, 0, 2, 0xFF, 0xFF], 1, false⟩, ⟨0x77, false, 1, 0, 0⟩, demoMesh { demoNet with mesh := { demoNet.mesh with relays := [⟨0x77, false, 1, 0, 0⟩] } } [2, 0x77, 0, 0, 0, 0, 0, 0, 0, 2, 0xFF, 0xFF] 0, by decide⟩
theorem witness_MeshCommands_2 :
  ∃ (o : Offer) (e : Assoc) (s : State), (s.isCoord = true) ∧ (MeshHead s 0x03 o) ∧ (o.field 0 2 = 0 ∧ o.peer ≠ 0) ∧ ((s.mailPop 5).assocOf o.peer = some e) ∧ (e.state = 3) :=
  ⟨⟨5, 1, 1, 1, 4, 1, 1, [3, 0, 0, 1], 1, false⟩, { freshAssoc 0 0x55 with state := 3 }, demoMesh demoCoord [3, 0, 0, 1] 1, by decide⟩
theorem witness_MeshCommands_3 :
  ∃ (o : Offer) (e : Assoc) (s : State), ((s.mailPop 5).isCoord = true) ∧ (MeshHead s 0x04 o) ∧ ((s.mailPop 5).lookupExt (o.field 0 8) = some e) :=
  ⟨⟨5, 1, 1, 1, 4, 1, 1, [4, 0x55, 0, 0, 0, 0, 0, 0, 0], 1, false⟩, { freshAssoc 0 0x55 with state := 3 }, demoMesh demoCoord [4, 0x55, 0, 0, 0, 0, 0, 0, 0] 1, by decide⟩
theorem witness_MeshCommands_4 :
  ∃ (o : Offer) (e : Assoc) (s : State), (s.isCoord = true) ∧ (MeshHead s 0x05 o) ∧ ((s.mailPop 5).assocOf (o.field 0 2) = some e) :=
  ⟨⟨5, 1, 1, 1, 4, 1, 1, [5, 1, 0, 0, 0], 1, false⟩, { freshAssoc 0 0x55 with state := 3 }, demoMesh demoCoord [5, 1, 0, 0, 0] 1, by decide⟩

/-- The hypotheses of `Obligations.AssociationTable` can be met, clause by clause. -/
theorem witness_AssociationTable_0 :
  ∃ (who : Requester) (e : Assoc) (s : State), (Works s who 0x45 0x28) ∧ (s.standby = false ∧ s.assoc.busy = false) ∧ (s.lookupExt s.stagedExt = some e) :=
  ⟨0, { freshAssoc 1 0x66 with state := 2, relay := 1 }, demoCoord.set (R.ASSOC.EXT_ADDR 0) 0x66, by decide⟩
theorem witness_AssociationTable_1 :
  ∃ (who : Requester) (e : Assoc) (s : State), (Works s who 0x45 0x28) ∧ (s.standby = false ∧ s.assoc.busy = false) ∧ (s.assoc.table.find? (fun e => Nat.ble 0 e.idx && Nat.beq e.state 2) = some e) :=
  ⟨0, { freshAssoc 1 0x66 with state := 2, relay := 1 }, demoCoord, by decide⟩
theorem witness_AssociationTable_2 :
  ∃ (who : Requester) (s : State), (Works s who 0x45 0x28) ∧ (s.standby = false ∧ s.assoc.busy = false) ∧ (s.lookupExt s.stagedExt = none) :=
  ⟨0, demoCoord.set (R.ASSOC.EXT_ADDR 0) 0x68, by decide⟩
theorem witness_AssociationTable_3 :
  ∃ (who : Requester) (s : State), (Works s who 0x45 0x28) ∧ (s.standby = false ∧ s.assoc.busy = false) ∧ (s.assoc.table.find? (fun e => Nat.ble 3 e.idx && Nat.beq e.state 2) = none) :=
  ⟨0, demoCoord, by decide⟩
theorem witness_AssociationTable_4 :
  ∃ (who : Requester) (e : Assoc) (s : State), (Works s who 0x45 0x28) ∧ (s.standby = false ∧ s.assoc.busy = false) ∧ (s.lookupExt s.stagedExt = none) ∧ ((s.allocate s.stagedExt).2 = some e) :=
  ⟨0, freshAssoc 3 0x88, demoCoord.set (R.ASSOC.EXT_ADDR 0) 0x88, by decide⟩
theorem witness_AssociationTable_5 :
  ∃ (who : Requester) (idx : BitVec 14) (e : Assoc) (s : State), (Works s who 0x45 0x28) ∧ (s.standby = false ∧ s.assoc.busy = false) ∧ (s.assoc? idx.toNat = some e) ∧ (e.state = 2 ∧ e.relay ≠ 0) :=
  ⟨0, 1, { freshAssoc 1 0x66 with state := 2, relay := 1 }, demoCoord, by decide⟩
theorem witness_AssociationTable_6 :
  ∃ (who : Requester) (idx : BitVec 14) (e : Assoc) (s : State), (Works s who 0x45 0x28 ∧ s.standby = false ∧ s.assoc.busy = false) ∧ (s.assoc? idx.toNat = some e) ∧ (e.state = 2 ∧ e.relay ≠ 0) :=
  ⟨0, 1, { freshAssoc 1 0x66 with state := 2, relay := 1 }, demoCoord, by decide⟩
theorem witness_AssociationTable_7 :
  ∃ (idx : BitVec 14) (e : Assoc) (s : State), (s.assoc.busy = false) ∧ (s.assoc? idx.toNat = some e) ∧ (e.state = 2 ∧ e.relay ≠ 0) :=
  ⟨1, { freshAssoc 1 0x66 with state := 2, relay := 1 }, demoCoord, by decide⟩
theorem witness_AssociationTable_8 :
  ∃ (who : Requester) (idx : BitVec 14) (e : Assoc) (s : State), (Works s who 0x45 0x28) ∧ (s.standby = false ∧ s.assoc.busy = false) ∧ (s.assoc? idx.toNat = some e) ∧ (e.state = 1) :=
  ⟨0, 2, { freshAssoc 2 0x77 with state := 1 }, demoCoord, by decide⟩
theorem witness_AssociationTable_9 :
  ∃ (who : Requester) (s : State), (Works s who 0x45 0x28) ∧ (s.standby = false ∧ s.assoc.busy = false) :=
  ⟨0, demoCoord, by decide⟩
theorem witness_AssociationTable_10 :
  ∃ (s : State), (s.assoc.busy = true) :=
  ⟨{ demoCoord with assoc := { demoCoord.assoc with busy := true } }, by decide⟩
theorem witness_AssociationTable_11 :
  ∃ (idx : BitVec 14) (e : Assoc) (s : State), (s.assoc? idx.toNat = some e) ∧ (e.state ≠ 0 ∧ e.stale = false) ∧ (e.seen + 86400 * s.get R.ASSOC.CFG_AGE_D < s.get R.SYS.OPSEC_SEC) :=
  ⟨0, { freshAssoc 0 0x55 with state := 3 }, demoCoord.set R.SYS.OPSEC_SEC 9, by decide⟩
theorem witness_AssociationTable_12 :
  ∃ (b : SnapBase) (s : State), (s.enabled 0x45 = true) ∧ (s.assoc.snapA = some b) ∧ (s.assoc.snapLog.length + s.assoc.dirty.length < 87381) :=
  ⟨⟨1, (1, 2), []⟩, { demoCoord with assoc := { demoCoord.assoc with snapA := some ⟨1, (1, 2), []⟩, dirty := [1] } }, by decide⟩
theorem witness_AssociationTable_13 :
  ∃ (s : State), (s.bit R.ASSOC.STAT_RESTORING = true) ∧ (s.bank0Ok = true) :=
  ⟨{ demoCoord.set R.ASSOC.STAT_RESTORING 1 with assoc := { demoCoord.assoc with live := true, table := [], index := [] } }, by decide⟩
theorem witness_AssociationTable_14 :
  ∃ (s : State), (s.bit R.ASSOC.STAT_RESTORING = true) ∧ (s.bank0Ok = false) ∧ (s.assoc.snapA = none ∧ s.assoc.snapB = none) :=
  ⟨demoCoord.set R.ASSOC.STAT_RESTORING 1, by decide⟩

/-- The hypotheses of `Obligations.MessageCommands` can be met, clause by clause. -/
theorem witness_MessageCommands_0 :
  ∃ (who : Requester) (s : State), (Works s who 0x48 0x48) ∧ (s.msg.cmd = none) ∧ (s.sendCheck s.txDesc = 0) ∧ (inBank3 s.txDesc.addr s.txDesc.len = true) :=
  ⟨0, demoSend.setAll [(R.MSG.TXD0_DEST, 5), (R.MSG.TXD1_ADDR, 0x20180000), (R.MSG.TXD2_LEN, 4)], by decide⟩
theorem witness_MessageCommands_1 :
  ∃ (who : Requester) (s : State), (Works s who 0x48 0x48) ∧ (s.msg.cmd = none) ∧ (s.sendCheck s.txDesc ≠ 0) :=
  ⟨0, demoSend.setAll [(R.MSG.TXD0_DEST, 0xFFFE)], by decide⟩
theorem witness_MessageCommands_2 :
  ∃ (m : Msg) (s : State), (s.msg.cmd = some m) ∧ (s.mirroring = false) ∧ (s.queueFull m.body.length = false) ∧ (m.who = 12 ∧ s.msg? m.num = none) :=
  ⟨demoMsg, { demoSend with msg := { demoSend.msg with cmd := some demoMsg } }, by decide⟩
theorem witness_MessageCommands_3 :
  ∃ (e : Fin 12) (txd0 : Word) (txd1 : Word) (txd2 : Word) (txd3 : Word) (s : State), (s.enabled 0x48 = true) ∧ (s.mirroring = false) ∧ (s.sendCheck (Desc4.ofWords txd0.toNat txd1.toNat txd2.toNat txd3.toNat) = 0) ∧ (inSlice e txd1.toNat (txd2.toNat % 2 ^ 12) = true) ∧ (s.queueFull (txd2.toNat % 2 ^ 12) = false) ∧ (s.msg? s.msg.nextNum = none) :=
  ⟨10, 5, 0x200FA000, 4, 0, demoSend, by decide⟩
theorem witness_MessageCommands_4 :
  ∃ (txd0 : Word) (txd1 : Word) (txd2 : Word) (txd3 : Word) (s : State), (s.enabled 0x48 = true) ∧ (s.sendCheck (Desc4.ofWords txd0.toNat txd1.toNat txd2.toNat txd3.toNat) ≠ 0) :=
  ⟨0xFFFE, 0x200FA000, 4, 0, demoSend, by decide⟩
theorem witness_MessageCommands_5 :
  ∃ (who : Requester) (m : Msg) (s : State), (Works s who 0x48 0x48) ∧ (s.mirroring = false) ∧ (s.msg.queue.find? (fun m => Nat.beq m.who 12 && unresolved m && Nat.beq m.msgid (s.get R.MSG.TXD3_MSGID)) = some m) ∧ (s.msg? m.num = some m) ∧ (s.msg.fifo.length < 64) :=
  ⟨0, { demoMsg with msgid := 3, phase := 1 }, { demoSend.set R.MSG.TXD3_MSGID 3 with msg := { demoSend.msg with queue := [{ demoMsg with msgid := 3, phase := 1 }] } }, by decide⟩
theorem witness_MessageCommands_6 :
  ∃ (e : Fin 12) (msgid : Word) (m : Msg) (s : State), (s.mirroring = false) ∧ (s.msg.queue.find? (fun m => Nat.beq m.who e && unresolved m && Nat.beq m.msgid msgid.toNat) = some m) ∧ (s.msg? m.num = some m) ∧ ((s.eng e).image = true ∧ (s.eng e).mailbox.length < 8) :=
  ⟨10, 3, { demoMsg with who := 10, msgid := 3, phase := 1 }, { demoSend with msg := { demoSend.msg with queue := [{ demoMsg with who := 10, msgid := 3, phase := 1 }] } }, by decide⟩
theorem witness_MessageCommands_7 :
  ∃ (rec : Word) (m : Msg) (s : State), (s.msg? rec.toNat = some m) ∧ (s.mirroring = false) ∧ (m.who = 12 ∧ m.done = none) ∧ (s.msg.fifo.length < 64) ∧ (m.born + 60 * s.get (R.MSG.CLS_LIFE_MIN m.cls) ≤ s.get R.SYS.OPSEC_SEC) :=
  ⟨1, { demoMsg with msgid := 3, phase := 1 }, { demoSend with msg := { demoSend.msg with queue := [{ demoMsg with msgid := 3, phase := 1 }] } }, by decide⟩
theorem witness_MessageCommands_8 :
  ∃ (rec : Word) (m : Msg) (p : Peer) (s : State), (s.msg? rec.toNat = some m) ∧ (m.phase = 0 ∧ m.kind = 0 ∧ m.who = 12) ∧ (s.peer? m.dest = some p) ∧ (p.txSess ≠ 0 ∧ p.nextId ≤ p.blockEnd ∧ p.nextId < 2 ^ 32) ∧ (s.msg.queue.filter (fun x => unresolved x && Nat.beq x.dest m.dest) = []) ∧ (0 < s.get R.MSG.CFG_INFLIGHT) ∧ (s.joined = false) :=
  ⟨1, demoMsg, { freshPeer 5 with txSess := 9, blockEnd := 256 }, { demoSend.setAll [(R.MSG.CFG_INFLIGHT, 4), (R.MESH.STAT_JOIN_ST, 0)] with msg := { demoSend.msg with queue := [demoMsg], peers := [{ freshPeer 5 with txSess := 9, blockEnd := 256 }] } }, by decide⟩
theorem witness_MessageCommands_9 :
  ∃ (rec : Word) (m : Msg) (s : State), (s.msg? rec.toNat = some m) ∧ (m.phase = 1 ∧ m.left = []) ∧ (m.attempts < s.get (R.MSG.CLS_ATTEMPTS m.cls)) :=
  ⟨1, { demoMsg with msgid := 3, phase := 1 }, { demoSend.set (R.MSG.CLS_ATTEMPTS 2) 3 with msg := { demoSend.msg with queue := [{ demoMsg with msgid := 3, phase := 1 }] } }, by decide⟩
theorem witness_MessageCommands_10 :
  ∃ (rec : Word) (m : Msg) (s : State), (s.msg? rec.toNat = some m) ∧ (m.phase = 1 ∧ m.left = [] ∧ m.who = 12 ∧ m.done = none) ∧ (s.get (R.MSG.CLS_ATTEMPTS m.cls) ≤ m.attempts) ∧ (s.mirroring = false ∧ s.msg.fifo.length < 64) :=
  ⟨1, { demoMsg with msgid := 3, phase := 1 }, { demoSend with msg := { demoSend.msg with queue := [{ demoMsg with msgid := 3, phase := 1 }] } }, by decide⟩
theorem witness_MessageCommands_11 :
  ∃ (rec : Word) (m : Msg) (s : State), (s.msg? rec.toNat = some m) ∧ (m.phase = 2 ∧ m.done = none ∧ m.parked = 0) ∧ (s.joined = false) :=
  ⟨1, { demoMsg with msgid := 3, phase := 2 }, { demoSend.set R.MESH.STAT_JOIN_ST 0 with msg := { demoSend.msg with queue := [{ demoMsg with msgid := 3, phase := 2 }] } }, by decide⟩
theorem witness_MessageCommands_12 :
  ∃ (rec : Word) (m : Msg) (n : Nbr) (s : State), (s.msg? rec.toNat = some m) ∧ (m.phase = 2 ∧ m.body = [] ∧ m.kind = 0) ∧ (s.joined = true ∧ s.isCoord = false ∧ s.mode = .service) ∧ (m.dest ≠ 0xFFFF) ∧ (s.parent = some n) ∧ (n.child = false) :=
  ⟨1, { demoMsg with msgid := 3, phase := 2, body := [] }, demoNbr, { demoNet with mesh := { demoNet.mesh with pset := [0] }, msg := { demoNet.msg with queue := [{ demoMsg with msgid := 3, phase := 2, body := [] }] } }, by decide⟩
theorem witness_MessageCommands_13 :
  ∃ (who : Requester) (d : Done) (l : List Done) (s : State), (Reaches s who 0x48 0x64 false) ∧ (s.msg.fifo = d :: l) ∧ (s.msg.queue.filter (fun m => m.done.isSome) = []) :=
  ⟨0, ⟨3, 0, 2⟩, [], { demoSend with msg := { demoSend.msg with fifo := [⟨3, 0, 2⟩] } }, by decide⟩

/-- The hypotheses of `Obligations.ReceptionAndRestore` can be met, clause by clause. -/
theorem witness_ReceptionAndRestore_0 :
  ∃ (s : State) (src : Nat) (pay : List Byte) (p : Peer), (pay.length = 12) ∧ ((pay.getD 0 0).toNat % 8 = 0) ∧ ((pay.getD 10 0).toNat = 1 ∧ (pay.getD 11 0).toNat = 0 ∧ (pay.getD 8 0).toNat = 0 ∧ (pay.getD 9 0).toNat = 0) ∧ (s.peer? src = some p) ∧ (p.cur = (pay.getD 1 0).toNat + 256 * (pay.getD 2 0).toNat) ∧ (ofLe (slice pay 3 4) ≤ p.high ∧ p.high < ofLe (slice pay 3 4) + 64) ∧ (p.map.testBit (p.high - ofLe (slice pay 3 4)) = true) :=
  ⟨{ demoSend with msg := { demoSend.msg with peers := [{ freshPeer 5 with cur := 9, high := 3, map := 1 }] } }, 5, [0, 9, 0, 3, 0, 0, 0, 0, 0, 0, 1, 0], { freshPeer 5 with cur := 9, high := 3, map := 1 }, by decide⟩
theorem witness_ReceptionAndRestore_1 :
  ∃ (peer : Half) (msgid : Word) (s : State), (s.msg.contexts.any (fun c => Nat.beq c.peer peer.toNat && Nat.beq c.msgid msgid.toNat && !c.complete) = true) :=
  ⟨5, 3, { demoSend with msg := { demoSend.msg with contexts := [⟨5, 9, 3, 0, 1, 0, 10, [], []⟩] } }, by decide⟩
theorem witness_ReceptionAndRestore_2 :
  ∃ (who : Requester) (value : Word) (s : State), (Writes s who 0x48 0x5C) ∧ (s.msg.offers = []) ∧ (R.MSG.RXTAIL_OFFSET.of value.toNat < s.get R.MSG.RXSIZE_BYTES) ∧ (s.get R.MSG.RXTAIL_OFFSET ≤ R.MSG.RXTAIL_OFFSET.of value.toNat) ∧ (R.MSG.RXTAIL_OFFSET.of value.toNat ≤ s.get R.MSG.RXHEAD_OFFSET ∧ s.get R.MSG.RXHEAD_OFFSET < s.get R.MSG.RXSIZE_BYTES) :=
  ⟨0, 32, demoSend.setAll [(R.MSG.RXSIZE_BYTES, 256), (R.MSG.RXHEAD_OFFSET, 64)], by decide⟩
theorem witness_ReceptionAndRestore_3 :
  ∃ (who : Requester) (value : Word) (s : State), (Writes s who 0x48 0x5C) ∧ (max (s.get R.MSG.RXSIZE_BYTES) 1 ≤ R.MSG.RXTAIL_OFFSET.of value.toNat) :=
  ⟨0, 256, demoSend.setAll [(R.MSG.RXSIZE_BYTES, 256), (R.MSG.RXHEAD_OFFSET, 64)], by decide⟩
theorem witness_ReceptionAndRestore_4 :
  ∃ (e : Fin 12) (m : Mail) (l : List Mail) (s : State), ((s.eng e).mailbox = m :: l) ∧ (m.type ≠ 0x83) ∧ (s.msg.offers = [] ∧ s.msg.queue.filter (fun m => m.done.isSome) = []) :=
  ⟨10, ⟨0, 1, 2, 3, 4⟩, [], demo.modEng 10 (fun e => { e with mailbox := [⟨0, 1, 2, 3, 4⟩] }), by decide⟩
theorem witness_ReceptionAndRestore_5 :
  ∃ (s : State), (s.bit R.MSG.STAT_RESTORING = true) :=
  ⟨{ demoSend.set R.MSG.STAT_RESTORING 1 with msg := { demoSend.msg with queue := [{ demoMsg with msgid := 3, phase := 1 }] } }, by decide⟩

/-- The hypotheses of `Obligations.PairLink` can be met, clause by clause. -/
theorem witness_PairLink_0 :
  ∃ (h : Hello) (s : State), (s.pst ≠ 0) ∧ (s.pair.unacked = []) ∧ (h.check = 0 ∨ h.check ≠ s.keyCheck) :=
  ⟨⟨true, false, 9, 9, 0, false, 0, 0⟩, demo.set R.PAIR.STAT_PST 1, by decide⟩
theorem witness_PairLink_1 :
  ∃ (h : Hello) (s : State), (s.pst = 1) ∧ (s.get R.PAIR.STAT_ROLE = 0) ∧ (s.pair.unacked = []) ∧ (h.check ≠ 0 ∧ h.check = s.keyCheck) ∧ (h.config = s.configCrc) ∧ (h.primary = true ∧ h.netaddr ≠ 0) :=
  ⟨⟨true, false, 9, 9, 0, false, demoPair.configCrc, demoPair.keyCheck⟩, demoPair, by decide, by decide, by decide, ⟨demoPair_check, rfl⟩, rfl, by decide⟩
theorem witness_PairLink_2 :
  ∃ (s : State), (s.pst = 1 ∨ s.pst = 2 ∨ s.pst = 3 ∨ s.pst = 7) :=
  ⟨demo.set R.PAIR.STAT_PST 1, by decide⟩
theorem witness_PairLink_3 :
  ∃ (s : State), (s.pst ≠ 0) :=
  ⟨demo.set R.PAIR.STAT_PST 1, by decide⟩
theorem witness_PairLink_4 :
  ∃ (h : Heartbeat) (s : State), (s.pst = 6 ∨ s.pst = 5) ∧ (s.pair.unacked = []) ∧ (h.sees = 3) :=
  ⟨⟨77, 5, 1, 1, 3, 2, 0⟩, demo.set R.PAIR.STAT_PST 6, by decide⟩
theorem witness_PairLink_5 :
  ∃ (ack : Half) (i : Nat) (s : State), (s.pst ≠ 0) ∧ (s.pair.unacked.findIdx? (fun f => Nat.beq f.1 ack.toNat) = some i) ∧ (s.pair.gated = [] ∧ s.pair.copy = []) ∧ (∀ f ∈ s.pair.unacked, f.2.isSome = true) :=
  ⟨2, 1, { demo.set R.PAIR.STAT_PST 4 with pair := { demo.pair with unacked := [(1, some (.noCell 1)), (2, some (.noCell 2)), (3, some (.noCell 3))] } }, by decide⟩
theorem witness_PairLink_6 :
  ∃ (seq : Half) (s : State), (s.pst = 5) ∧ (s.pair.unacked = [] ∧ s.pair.held = []) ∧ (seq.toNat = s.pair.rxSeq % 0xFFFF + 1) :=
  ⟨1, demo.set R.PAIR.STAT_PST 5, by decide⟩
theorem witness_PairLink_7 :
  ∃ (seq : Half) (s : State), (s.pst = 6) ∧ (s.pair.unacked = [] ∧ s.pair.held = []) ∧ (seq.toNat = s.pair.rxSeq % 0xFFFF + 1) :=
  ⟨1, demo.set R.PAIR.STAT_PST 6, by decide⟩
theorem witness_PairLink_8 :
  ∃ (seq : Half) (s : State), (s.pst = 5) ∧ (s.pair.unacked = []) ∧ (seq.toNat ≠ s.pair.rxSeq % 0xFFFF + 1) :=
  ⟨3, demo.set R.PAIR.STAT_PST 5, by decide⟩
theorem witness_PairLink_9 :
  ∃ (seq : Half) (s : State), (s.pst = 6) ∧ (s.pair.unacked = []) ∧ (seq.toNat ≠ s.pair.rxSeq % 0xFFFF + 1) :=
  ⟨3, demo.set R.PAIR.STAT_PST 6, by decide⟩
theorem witness_PairLink_10 :
  ∃ (s : State), (s.pair.unacked ≠ []) :=
  ⟨{ demo with pair := { demo.pair with unacked := [(1, none)] } }, by decide⟩
theorem witness_PairLink_11 :
  ∃ (violation : Bool) (octets : List Byte) (s : State), (s.pst ≠ 0) ∧ (violation = true ∨ basaltGood octets = false) :=
  ⟨true, [], demo.set R.PAIR.STAT_PST 1, by decide⟩
theorem witness_PairLink_12 :
  ∃ (s : State), (s.pst = 4) ∧ (s.get R.PAIR.STAT_PARTNER = 2) ∧ (s.pair.copy = [] ∧ s.pair.copied = false ∧ s.pair.blockSeqs = []) ∧ (s.pair.unacked.length < 64) :=
  ⟨demo.setAll [(R.PAIR.STAT_PST, 4), (R.PAIR.STAT_PARTNER, 2)], by decide⟩

/-- The hypotheses of `Obligations.TakeoverAndHandover` can be met, clause by clause. -/
theorem witness_TakeoverAndHandover_0 :
  ∃ (s : State), (s.pst = 6) ∧ (s.qualified = true) ∧ (s.supply.pairPresLow = true) :=
  ⟨{ demo.set R.PAIR.STAT_PST 6 with supply := { demo.supply with pairPresLow := true }, pair := { demo.pair with hbIn := true } }, by decide⟩
theorem witness_TakeoverAndHandover_1 :
  ∃ (s : State), (s.pst = 4) ∧ (s.pair.gated = []) :=
  ⟨demo.set R.PAIR.STAT_PST 4, by decide⟩
theorem witness_TakeoverAndHandover_2 :
  ∃ (s : State), (s.pst = 2) ∧ (s.pair.copied = false ∧ s.pair.held = []) :=
  ⟨demo.set R.PAIR.STAT_PST 2, by decide⟩
theorem witness_TakeoverAndHandover_3 :
  ∃ (seq : Half) (s : State), (s.pst = 6) ∧ (s.pair.unacked = []) ∧ (seq.toNat = s.pair.rxSeq % 0xFFFF + 1) :=
  ⟨1, demo.set R.PAIR.STAT_PST 6, by decide⟩
theorem witness_TakeoverAndHandover_4 :
  ∃ (low : Bool) (s : State), (s.supply.pairPresLow ≠ low) ∧ (s.pst = 0) :=
  ⟨true, demo, by decide⟩
theorem witness_TakeoverAndHandover_5 :
  ∃ (s : State), (s.supply.pairPresLow = true) ∧ (s.pst = 1) :=
  ⟨{ demo.set R.PAIR.STAT_PST 1 with supply := { demo.supply with pairPresLow := true } }, by decide⟩
theorem witness_TakeoverAndHandover_6 :
  ∃ (s : State), (s.pair.gated ≠ []) :=
  ⟨{ demo.setAll [(R.PAIR.STAT_PST, 4), (R.PAIR.STAT_PARTNER, 3)] with pair := { demo.pair with gated := [⟨1, .noCell 1, none⟩] } }, by decide⟩
theorem witness_TakeoverAndHandover_7 :
  ∃ (s : State), (s.pair.blockSeqs ≠ []) ∧ (s.pair.gated = []) :=
  ⟨{ demo.setAll [(R.PAIR.STAT_PST, 4), (R.PAIR.STAT_PARTNER, 3)] with pair := { demo.pair with blockSeqs := [(1, 0, 5)] } }, by decide⟩
theorem witness_TakeoverAndHandover_8 :
  ∃ (who : Requester) (s : State), (Works s who 0x4C 0x28) ∧ (s.pst = 4 ∧ s.isPrimary = true) ∧ (s.get R.PAIR.STAT_PARTNER = 3) ∧ (s.pair.handover = false) :=
  ⟨0, demo.setAll [(R.PAIR.STAT_PST, 4), (R.PAIR.STAT_PARTNER, 3), (R.PAIR.STAT_ROLE, 1)], by decide⟩
theorem witness_TakeoverAndHandover_9 :
  ∃ (who : Requester) (key : Half) (s : State), (Works s who 0x4C 0x28) ∧ (key ≠ 0xA55A) :=
  ⟨0, 3, demo, by decide⟩
theorem witness_TakeoverAndHandover_10 :
  ∃ (who : Requester) (key : Half) (s : State), (Works s who 0x4C 0x28) ∧ (key ≠ 0xA55A) :=
  ⟨0, 3, demo, by decide⟩
theorem witness_TakeoverAndHandover_11 :
  ∃ (who : Requester) (s : State), (Works s who 0x4C 0x28) ∧ (s.pst = 6) :=
  ⟨0, demo.set R.PAIR.STAT_PST 6, by decide⟩

/-- The hypotheses of `Obligations.FlintByteArithmetic` can be met, clause by clause. -/
theorem witness_FlintByteArithmetic_0 :
  ∃ (k : Fin 12) (cond : BitVec 3) (src : Src8) (s : State), (Runs s k (words8 src)) ∧ (Passes s k cond) :=
  ⟨10, 0, .reg 2, demo, by decide⟩
theorem witness_FlintByteArithmetic_1 :
  ∃ (k : Fin 12) (cond : BitVec 3) (src : Src8) (s : State), (Runs s k (words8 src)) ∧ (Passes s k cond) :=
  ⟨10, 0, .imm 2, demo, by decide⟩
theorem witness_FlintByteArithmetic_2 :
  ∃ (k : Fin 12) (cond : BitVec 3) (src : Src8) (s : State), (Runs s k (words8 src)) ∧ (Passes s k cond) :=
  ⟨10, 0, .imm 2, demo, by decide⟩
theorem witness_FlintByteArithmetic_3 :
  ∃ (k : Fin 12) (cond : BitVec 3) (src : Src8) (s : State), (Runs s k (words8 src)) ∧ (Passes s k cond) :=
  ⟨10, 0, .imm 2, demo, by decide⟩
theorem witness_FlintByteArithmetic_4 :
  ∃ (k : Fin 12) (cond : BitVec 3) (src : Src8) (s : State), (Runs s k (words8 src)) ∧ (Passes s k cond) :=
  ⟨10, 0, .imm 2, demo, by decide⟩
theorem witness_FlintByteArithmetic_5 :
  ∃ (k : Fin 12) (cond : BitVec 3) (src : Src8) (s : State), (Runs s k (words8 src)) ∧ (Passes s k cond) :=
  ⟨10, 0, .reg 2, demo, by decide⟩
theorem witness_FlintByteArithmetic_6 :
  ∃ (k : Fin 12) (cond : BitVec 3) (src : Src8) (s : State), (Runs s k (words8 src)) ∧ (Passes s k cond) :=
  ⟨10, 0, .reg 2, demo, by decide⟩
theorem witness_FlintByteArithmetic_7 :
  ∃ (k : Fin 12) (cond : BitVec 3) (src : Src8) (s : State), (Runs s k (words8 src)) ∧ (Passes s k cond) :=
  ⟨10, 0, .reg 2, demo, by decide⟩
theorem witness_FlintByteArithmetic_8 :
  ∃ (k : Fin 12) (cond : BitVec 3) (src : Src8) (s : State), (Runs s k (words8 src)) ∧ (Passes s k cond) :=
  ⟨10, 0, .reg 2, demo, by decide⟩
theorem witness_FlintByteArithmetic_9 :
  ∃ (k : Fin 12) (cond : BitVec 3) (src : Src8) (s : State), (Runs s k (words8 src)) ∧ (Passes s k cond) :=
  ⟨10, 0, .reg 2, demo, by decide⟩

/-- The hypotheses of `Obligations.FlintUnary` can be met, clause by clause. -/
theorem witness_FlintUnary_0 :
  ∃ (k : Fin 12) (cond : BitVec 3) (s : State), (Runs s k 1) ∧ (Passes s k cond) :=
  ⟨10, 0, demo, by decide⟩
theorem witness_FlintUnary_1 :
  ∃ (k : Fin 12) (cond : BitVec 3) (s : State), (Runs s k 1) ∧ (Passes s k cond) :=
  ⟨10, 0, demo, by decide⟩
theorem witness_FlintUnary_2 :
  ∃ (k : Fin 12) (cond : BitVec 3) (s : State), (Runs s k 1) ∧ (Passes s k cond) :=
  ⟨10, 0, demo, by decide⟩
theorem witness_FlintUnary_3 :
  ∃ (k : Fin 12) (cond : BitVec 3) (s : State), (Runs s k 1) ∧ (Passes s k cond) :=
  ⟨10, 0, demo, by decide⟩
theorem witness_FlintUnary_4 :
  ∃ (k : Fin 12) (cond : BitVec 3) (s : State), (Runs s k 1) ∧ (Passes s k cond) :=
  ⟨10, 0, demo, by decide⟩
theorem witness_FlintUnary_5 :
  ∃ (k : Fin 12) (cond : BitVec 3) (s : State), (Runs s k 1) ∧ (Passes s k cond) :=
  ⟨10, 0, demo, by decide⟩
theorem witness_FlintUnary_6 :
  ∃ (k : Fin 12) (cond : BitVec 3) (s : State), (Runs s k 1) ∧ (Passes s k cond) :=
  ⟨10, 0, demo, by decide⟩
theorem witness_FlintUnary_7 :
  ∃ (k : Fin 12) (cond : BitVec 3) (s : State), (Runs s k 1) ∧ (Passes s k cond) :=
  ⟨10, 0, demo, by decide⟩
theorem witness_FlintUnary_8 :
  ∃ (k : Fin 12) (cond : BitVec 3) (s : State), (Runs s k 1) ∧ (Passes s k cond) :=
  ⟨10, 0, demo, by decide⟩
theorem witness_FlintUnary_9 :
  ∃ (k : Fin 12) (cond : BitVec 3) (s : State), (Runs s k 1) ∧ (Passes s k cond) :=
  ⟨10, 0, demo, by decide⟩
theorem witness_FlintUnary_10 :
  ∃ (k : Fin 12) (cond : BitVec 3) (s : State), (Runs s k 1) ∧ (Passes s k cond) :=
  ⟨10, 0, demo, by decide⟩

/-- The hypotheses of `Obligations.FlintWordsAndPointers` can be met, clause by clause. -/
theorem witness_FlintWordsAndPointers_0 :
  ∃ (k : Fin 12) (cond : BitVec 3) (src : Src16) (s : State), (Runs s k (words16 src)) ∧ (Passes s k cond) :=
  ⟨10, 0, .reg 2, demo, by decide⟩
theorem witness_FlintWordsAndPointers_1 :
  ∃ (k : Fin 12) (cond : BitVec 3) (src : Src16) (s : State), (Runs s k (words16 src)) ∧ (Passes s k cond) :=
  ⟨10, 0, .imm 2, demo, by decide⟩
theorem witness_FlintWordsAndPointers_2 :
  ∃ (k : Fin 12) (cond : BitVec 3) (src : Src16) (s : State), (Runs s k (words16 src)) ∧ (Passes s k cond) :=
  ⟨10, 0, .imm 2, demo, by decide⟩
theorem witness_FlintWordsAndPointers_3 :
  ∃ (k : Fin 12) (cond : BitVec 3) (src : Src16) (s : State), (Runs s k (words16 src)) ∧ (Passes s k cond) :=
  ⟨10, 0, .imm 2, demo, by decide⟩
theorem witness_FlintWordsAndPointers_4 :
  ∃ (k : Fin 12) (cond : BitVec 3) (s : State), (Runs s k 1) ∧ (Passes s k cond) :=
  ⟨10, 0, demo, by decide⟩
theorem witness_FlintWordsAndPointers_5 :
  ∃ (k : Fin 12) (cond : BitVec 3) (src : Src16) (s : State), (Runs s k (words16 src)) ∧ (Passes s k cond) :=
  ⟨10, 0, .imm 2, demo, by decide⟩
theorem witness_FlintWordsAndPointers_6 :
  ∃ (k : Fin 12) (cond : BitVec 3) (src : Src16) (s : State), (Runs s k (words16 src)) ∧ (Passes s k cond) :=
  ⟨10, 0, .imm 2, demo, by decide⟩
theorem witness_FlintWordsAndPointers_7 :
  ∃ (k : Fin 12) (cond : BitVec 3) (s : State), (Runs s k 1) ∧ (Passes s k cond) :=
  ⟨10, 0, demo, by decide⟩
theorem witness_FlintWordsAndPointers_8 :
  ∃ (k : Fin 12) (cond : BitVec 3) (s : State), (Runs s k 1) ∧ (Passes s k cond) :=
  ⟨10, 0, demo, by decide⟩
theorem witness_FlintWordsAndPointers_9 :
  ∃ (k : Fin 12) (cond : BitVec 3) (s : State), (Runs s k 1) ∧ (Passes s k cond) :=
  ⟨10, 0, demo, by decide⟩

/-- The hypotheses of `Obligations.FlintBitsAndFlags` can be met, clause by clause. -/
theorem witness_FlintBitsAndFlags_0 :
  ∃ (k : Fin 12) (cond : BitVec 3) (s : State), (Runs s k 1) ∧ (Passes s k cond) :=
  ⟨10, 0, demo, by decide⟩
theorem witness_FlintBitsAndFlags_1 :
  ∃ (k : Fin 12) (cond : BitVec 3) (s : State), (Runs s k 1) ∧ (Passes s k cond) :=
  ⟨10, 0, demo, by decide⟩
theorem witness_FlintBitsAndFlags_2 :
  ∃ (k : Fin 12) (cond : BitVec 3) (s : State), (Runs s k 1) ∧ (Passes s k cond) :=
  ⟨10, 0, demo, by decide⟩
theorem witness_FlintBitsAndFlags_3 :
  ∃ (k : Fin 12) (cond : BitVec 3) (s : State), (Runs s k 1) ∧ (Passes s k cond) :=
  ⟨10, 0, demo, by decide⟩
theorem witness_FlintBitsAndFlags_4 :
  ∃ (k : Fin 12) (cond : BitVec 3) (s : State), (Runs s k 1) ∧ (Passes s k cond) :=
  ⟨10, 0, demo, by decide⟩
theorem witness_FlintBitsAndFlags_5 :
  ∃ (k : Fin 12) (cond : BitVec 3) (s : State), (Runs s k 1) ∧ (Passes s k cond) :=
  ⟨10, 0, demo, by decide⟩
theorem witness_FlintBitsAndFlags_6 :
  ∃ (k : Fin 12) (cond : BitVec 3) (s : State), (Runs s k 1) ∧ (Passes s k cond) :=
  ⟨10, 0, demo, by decide⟩
theorem witness_FlintBitsAndFlags_7 :
  ∃ (k : Fin 12) (cond : BitVec 3) (s : State), (Runs s k 1) ∧ (Passes s k cond) :=
  ⟨10, 0, demo, by decide⟩

/-- The hypotheses of `Obligations.FlintLocalLoadsAndStores` can be met, clause by clause. -/
theorem witness_FlintLocalLoadsAndStores_0 :
  ∃ (k : Fin 12) (cond : BitVec 3) (ea : Ea) (s : State), (Runs s k (wordsEa ea)) ∧ (Passes s k cond) ∧ ((eaAddress ea (s.eng k).p (s.eng k).sp 1).toNat < 0x8000) :=
  ⟨10, 0, .inc 2, demo, by decide⟩
theorem witness_FlintLocalLoadsAndStores_1 :
  ∃ (k : Fin 12) (cond : BitVec 3) (ea : Ea) (s : State), (Runs s k (wordsEa ea)) ∧ (Passes s k cond) ∧ ((eaAddress ea (s.eng k).p (s.eng k).sp 1).toNat < 0x8000) :=
  ⟨10, 0, .inc 2, demo, by decide⟩
theorem witness_FlintLocalLoadsAndStores_2 :
  ∃ (k : Fin 12) (cond : BitVec 3) (ea : Ea) (s : State), (Runs s k (wordsEa ea)) ∧ (Passes s k cond) ∧ ((eaAddress ea (s.eng k).p (s.eng k).sp 2).toNat + 1 < 0x8000) :=
  ⟨10, 0, .abs 0x7FFE, demo, by decide⟩
theorem witness_FlintLocalLoadsAndStores_3 :
  ∃ (k : Fin 12) (cond : BitVec 3) (ea : Ea) (s : State), (Runs s k (wordsEa ea)) ∧ (Passes s k cond) ∧ ((eaAddress ea (s.eng k).p (s.eng k).sp 2).toNat + 1 < 0x8000) :=
  ⟨10, 0, .dec 3, demo, by decide⟩

/-- The hypotheses of `Obligations.FlintStack` can be met, clause by clause. -/
theorem witness_FlintStack_0 :
  ∃ (k : Fin 12) (cond : BitVec 3) (s : State), (Runs s k 1) ∧ (Passes s k cond) ∧ (1 ≤ (s.eng k).sp.toNat ∧ (s.eng k).sp.toNat ≤ 0x8000) :=
  ⟨10, 0, demo, by decide⟩
theorem witness_FlintStack_1 :
  ∃ (k : Fin 12) (cond : BitVec 3) (s : State), (Runs s k 1) ∧ (Passes s k cond) ∧ (1 ≤ (s.eng k).sp.toNat ∧ (s.eng k).sp.toNat ≤ 0x8000) :=
  ⟨10, 0, demo, by decide⟩
theorem witness_FlintStack_2 :
  ∃ (k : Fin 12) (cond : BitVec 3) (s : State), (Runs s k 1) ∧ (Passes s k cond) ∧ (2 ≤ (s.eng k).sp.toNat ∧ (s.eng k).sp.toNat ≤ 0x8000) :=
  ⟨10, 0, demo, by decide⟩
theorem witness_FlintStack_3 :
  ∃ (k : Fin 12) (cond : BitVec 3) (s : State), (Runs s k 1) ∧ (Passes s k cond) ∧ (2 ≤ (s.eng k).sp.toNat ∧ (s.eng k).sp.toNat ≤ 0x8000) :=
  ⟨10, 0, demo, by decide⟩
theorem witness_FlintStack_4 :
  ∃ (k : Fin 12) (cond : BitVec 3) (tgt : Target) (s : State), (Runs s k (wordsTgt tgt)) ∧ (Passes s k cond) ∧ (2 ≤ (s.eng k).sp.toNat ∧ (s.eng k).sp.toNat ≤ 0x8000) ∧ ((s.eng k).kfmtDue = false) :=
  ⟨10, 0, .imm 0x100, demo, by decide⟩
theorem witness_FlintStack_5 :
  ∃ (k : Fin 12) (cond : BitVec 3) (s : State), (Runs s k 1) ∧ (Passes s k cond) ∧ ((s.eng k).sp.toNat < 0x8000) :=
  ⟨10, 0, demo, by decide⟩
theorem witness_FlintStack_6 :
  ∃ (k : Fin 12) (cond : BitVec 3) (s : State), (Runs s k 1) ∧ (Passes s k cond) ∧ ((s.eng k).sp.toNat < 0x8000) :=
  ⟨10, 0, demo, by decide⟩
theorem witness_FlintStack_7 :
  ∃ (k : Fin 12) (cond : BitVec 3) (s : State), (Runs s k 1) ∧ (Passes s k cond) ∧ ((s.eng k).sp.toNat + 1 < 0x8000) :=
  ⟨10, 0, demo, by decide⟩
theorem witness_FlintStack_8 :
  ∃ (k : Fin 12) (cond : BitVec 3) (s : State), (Runs s k 1) ∧ (Passes s k cond) ∧ ((s.eng k).sp.toNat + 1 < 0x8000) :=
  ⟨10, 0, demo, by decide⟩
theorem witness_FlintStack_9 :
  ∃ (k : Fin 12) (cond : BitVec 3) (s : State), (Runs s k 1) ∧ (Passes s k cond) ∧ ((s.eng k).sp.toNat + 1 < 0x8000) ∧ ((s.eng k).kfmtDue = false) :=
  ⟨10, 0, demo, by decide⟩
theorem witness_FlintStack_10 :
  ∃ (k : Fin 12) (cond : BitVec 3) (s : State), (Runs s k 1) ∧ (Passes s k cond) ∧ (((s.eng k).sp = 0 ∨ 0x8000 < (s.eng k).sp.toNat)) ∧ (s.get R.FAULT.STATUS_ACTIVE = 0) :=
  ⟨10, 0, demo.modEng 10 (fun e => { e with sp := 0x8001 }), by decide⟩
theorem witness_FlintStack_11 :
  ∃ (k : Fin 12) (cond : BitVec 3) (s : State), (Runs s k 1) ∧ (Passes s k cond) ∧ (((s.eng k).sp = 0 ∨ 0x8000 < (s.eng k).sp.toNat)) ∧ (s.get R.FAULT.STATUS_ACTIVE = 0) :=
  ⟨10, 0, demo.modEng 10 (fun e => { e with sp := 0x8001 }), by decide⟩
theorem witness_FlintStack_12 :
  ∃ (k : Fin 12) (cond : BitVec 3) (s : State), (Runs s k 1) ∧ (Passes s k cond) ∧ (((s.eng k).sp.toNat < 2 ∨ 0x8000 < (s.eng k).sp.toNat)) ∧ (s.get R.FAULT.STATUS_ACTIVE = 0) :=
  ⟨10, 0, demo.modEng 10 (fun e => { e with sp := 0x8001 }), by decide⟩
theorem witness_FlintStack_13 :
  ∃ (k : Fin 12) (cond : BitVec 3) (s : State), (Runs s k 1) ∧ (Passes s k cond) ∧ (((s.eng k).sp.toNat < 2 ∨ 0x8000 < (s.eng k).sp.toNat)) ∧ (s.get R.FAULT.STATUS_ACTIVE = 0) :=
  ⟨10, 0, demo.modEng 10 (fun e => { e with sp := 0x8001 }), by decide⟩
theorem witness_FlintStack_14 :
  ∃ (k : Fin 12) (cond : BitVec 3) (tgt : Target) (s : State), (Runs s k (wordsTgt tgt)) ∧ (Passes s k cond) ∧ (((s.eng k).sp.toNat < 2 ∨ 0x8000 < (s.eng k).sp.toNat)) ∧ (s.get R.FAULT.STATUS_ACTIVE = 0) :=
  ⟨10, 0, .imm 0x100, demo.modEng 10 (fun e => { e with sp := 0x8001 }), by decide⟩
theorem witness_FlintStack_15 :
  ∃ (k : Fin 12) (cond : BitVec 3) (s : State), (Runs s k 1) ∧ (Passes s k cond) ∧ (0x8000 ≤ (s.eng k).sp.toNat) ∧ (s.get R.FAULT.STATUS_ACTIVE = 0) :=
  ⟨10, 0, demo.modEng 10 (fun e => { e with sp := 0x8000 }), by decide⟩
theorem witness_FlintStack_16 :
  ∃ (k : Fin 12) (cond : BitVec 3) (s : State), (Runs s k 1) ∧ (Passes s k cond) ∧ (0x8000 ≤ (s.eng k).sp.toNat) ∧ (s.get R.FAULT.STATUS_ACTIVE = 0) :=
  ⟨10, 0, demo.modEng 10 (fun e => { e with sp := 0x8000 }), by decide⟩
theorem witness_FlintStack_17 :
  ∃ (k : Fin 12) (cond : BitVec 3) (s : State), (Runs s k 1) ∧ (Passes s k cond) ∧ (0x7FFF ≤ (s.eng k).sp.toNat) ∧ (s.get R.FAULT.STATUS_ACTIVE = 0) :=
  ⟨10, 0, demo.modEng 10 (fun e => { e with sp := 0x8000 }), by decide⟩
theorem witness_FlintStack_18 :
  ∃ (k : Fin 12) (cond : BitVec 3) (s : State), (Runs s k 1) ∧ (Passes s k cond) ∧ (0x7FFF ≤ (s.eng k).sp.toNat) ∧ (s.get R.FAULT.STATUS_ACTIVE = 0) :=
  ⟨10, 0, demo.modEng 10 (fun e => { e with sp := 0x8000 }), by decide⟩
theorem witness_FlintStack_19 :
  ∃ (k : Fin 12) (cond : BitVec 3) (s : State), (Runs s k 1) ∧ (Passes s k cond) ∧ (0x7FFF ≤ (s.eng k).sp.toNat) ∧ (s.get R.FAULT.STATUS_ACTIVE = 0) :=
  ⟨10, 0, demo.modEng 10 (fun e => { e with sp := 0x8000 }), by decide⟩

/-- The hypotheses of `Obligations.FlintBranches` can be met, clause by clause. -/
theorem witness_FlintBranches_0 :
  ∃ (k : Fin 12) (cond : BitVec 3) (tgt : Target) (s : State), (Runs s k (wordsTgt tgt)) ∧ (Passes s k cond) ∧ ((s.eng k).kfmtDue = false) :=
  ⟨10, 0, .imm 0x100, demo, by decide⟩
theorem witness_FlintBranches_1 :
  ∃ (k : Fin 12) (cond : BitVec 3) (s : State), (Runs s k 1) ∧ (Passes s k cond) ∧ ((s.eng k).kfmt = false) :=
  ⟨10, 0, demo, by decide⟩
theorem witness_FlintBranches_2 :
  ∃ (k : Fin 12) (s : State), (Runs s k 1) ∧ ((s.eng k).kfmt = true) :=
  ⟨10, demoK, by decide⟩
theorem witness_FlintBranches_3 :
  ∃ (k : Fin 12) (cond : BitVec 3) (s : State), (Runs s k 2) ∧ (Passes s k cond) :=
  ⟨10, 0, demo, by decide⟩
theorem witness_FlintBranches_4 :
  ∃ (k : Fin 12) (s : State), (Runs s k 2) ∧ ((s.eng k).kfmt = true) :=
  ⟨10, demoK, by decide⟩
theorem witness_FlintBranches_5 :
  ∃ (k : Fin 12) (s : State), (Runs s k 2) ∧ ((s.eng k).kfmt = true) :=
  ⟨10, demoK, by decide⟩
theorem witness_FlintBranches_6 :
  ∃ (k : Fin 12) (s : State), (Runs s k 2) ∧ ((s.eng k).kfmt = true) :=
  ⟨10, demoK, by decide⟩
theorem witness_FlintBranches_7 :
  ∃ (k : Fin 12) (s : State), (Runs s k 2) ∧ ((s.eng k).kfmt = true) :=
  ⟨10, demoK, by decide⟩
theorem witness_FlintBranches_8 :
  ∃ (k : Fin 12) (s : State), (Runs s k 2) ∧ ((s.eng k).kfmt = true) :=
  ⟨10, demoK, by decide⟩
theorem witness_FlintBranches_9 :
  ∃ (k : Fin 12) (s : State), (Runs s k 2) ∧ ((s.eng k).kfmt = true) :=
  ⟨10, demoK, by decide⟩
theorem witness_FlintBranches_10 :
  ∃ (k : Fin 12) (s : State), (Runs s k 2) ∧ ((s.eng k).kfmt = true) :=
  ⟨10, demoK, by decide⟩
theorem witness_FlintBranches_11 :
  ∃ (k : Fin 12) (s : State), (Runs s k 2) ∧ ((s.eng k).kfmt = true) :=
  ⟨10, demoK, by decide⟩

/-- The hypotheses of `Obligations.FlintConditions` can be met, clause by clause. -/
theorem witness_FlintConditions_0 :
  ∃ (k : Fin 12) (cond : BitVec 3) (src : Src8) (s : State), (Runs s k (words8 src)) ∧ (Skips s k cond) :=
  ⟨10, 1, .reg 2, demo, by decide⟩
theorem witness_FlintConditions_1 :
  ∃ (k : Fin 12) (cond : BitVec 3) (src : Src8) (s : State), (Runs s k (words8 src)) ∧ (Skips s k cond) :=
  ⟨10, 1, .reg 2, demo, by decide⟩
theorem witness_FlintConditions_2 :
  ∃ (k : Fin 12) (cond : BitVec 3) (src : Src8) (s : State), (Runs s k (words8 src)) ∧ (Skips s k cond) :=
  ⟨10, 1, .reg 2, demo, by decide⟩
theorem witness_FlintConditions_3 :
  ∃ (k : Fin 12) (cond : BitVec 3) (src : Src8) (s : State), (Runs s k (words8 src)) ∧ (Skips s k cond) :=
  ⟨10, 1, .reg 2, demo, by decide⟩
theorem witness_FlintConditions_4 :
  ∃ (k : Fin 12) (cond : BitVec 3) (src : Src8) (s : State), (Runs s k (words8 src)) ∧ (Skips s k cond) :=
  ⟨10, 1, .reg 2, demo, by decide⟩
theorem witness_FlintConditions_5 :
  ∃ (k : Fin 12) (cond : BitVec 3) (src : Src8) (s : State), (Runs s k (words8 src)) ∧ (Skips s k cond) :=
  ⟨10, 1, .reg 2, demo, by decide⟩
theorem witness_FlintConditions_6 :
  ∃ (k : Fin 12) (cond : BitVec 3) (src : Src8) (s : State), (Runs s k (words8 src)) ∧ (Skips s k cond) :=
  ⟨10, 1, .reg 2, demo, by decide⟩
theorem witness_FlintConditions_7 :
  ∃ (k : Fin 12) (cond : BitVec 3) (src : Src8) (s : State), (Runs s k (words8 src)) ∧ (Skips s k cond) :=
  ⟨10, 1, .reg 2, demo, by decide⟩
theorem witness_FlintConditions_8 :
  ∃ (k : Fin 12) (cond : BitVec 3) (src : Src8) (s : State), (Runs s k (words8 src)) ∧ (Skips s k cond) :=
  ⟨10, 1, .reg 2, demo, by decide⟩
theorem witness_FlintConditions_9 :
  ∃ (k : Fin 12) (cond : BitVec 3) (src : Src8) (s : State), (Runs s k (words8 src)) ∧ (Skips s k cond) :=
  ⟨10, 1, .reg 2, demo, by decide⟩
theorem witness_FlintConditions_10 :
  ∃ (k : Fin 12) (cond : BitVec 3) (s : State), (Runs s k 1) ∧ (Skips s k cond) :=
  ⟨10, 1, demo, by decide⟩
theorem witness_FlintConditions_11 :
  ∃ (k : Fin 12) (cond : BitVec 3) (s : State), (Runs s k 1) ∧ (Skips s k cond) :=
  ⟨10, 1, demo, by decide⟩
theorem witness_FlintConditions_12 :
  ∃ (k : Fin 12) (cond : BitVec 3) (s : State), (Runs s k 1) ∧ (Skips s k cond) :=
  ⟨10, 1, demo, by decide⟩
theorem witness_FlintConditions_13 :
  ∃ (k : Fin 12) (cond : BitVec 3) (s : State), (Runs s k 1) ∧ (Skips s k cond) :=
  ⟨10, 1, demo, by decide⟩
theorem witness_FlintConditions_14 :
  ∃ (k : Fin 12) (cond : BitVec 3) (s : State), (Runs s k 1) ∧ (Skips s k cond) :=
  ⟨10, 1, demo, by decide⟩
theorem witness_FlintConditions_15 :
  ∃ (k : Fin 12) (cond : BitVec 3) (s : State), (Runs s k 1) ∧ (Skips s k cond) :=
  ⟨10, 1, demo, by decide⟩
theorem witness_FlintConditions_16 :
  ∃ (k : Fin 12) (cond : BitVec 3) (s : State), (Runs s k 1) ∧ (Skips s k cond) :=
  ⟨10, 1, demo, by decide⟩
theorem witness_FlintConditions_17 :
  ∃ (k : Fin 12) (cond : BitVec 3) (s : State), (Runs s k 1) ∧ (Skips s k cond) :=
  ⟨10, 1, demo, by decide⟩
theorem witness_FlintConditions_18 :
  ∃ (k : Fin 12) (cond : BitVec 3) (s : State), (Runs s k 1) ∧ (Skips s k cond) :=
  ⟨10, 1, demo, by decide⟩
theorem witness_FlintConditions_19 :
  ∃ (k : Fin 12) (cond : BitVec 3) (s : State), (Runs s k 1) ∧ (Skips s k cond) :=
  ⟨10, 1, demo, by decide⟩
theorem witness_FlintConditions_20 :
  ∃ (k : Fin 12) (cond : BitVec 3) (s : State), (Runs s k 1) ∧ (Skips s k cond) :=
  ⟨10, 1, demo, by decide⟩
theorem witness_FlintConditions_21 :
  ∃ (k : Fin 12) (cond : BitVec 3) (src : Src16) (s : State), (Runs s k (words16 src)) ∧ (Skips s k cond) :=
  ⟨10, 1, .reg 2, demo, by decide⟩
theorem witness_FlintConditions_22 :
  ∃ (k : Fin 12) (cond : BitVec 3) (src : Src16) (s : State), (Runs s k (words16 src)) ∧ (Skips s k cond) :=
  ⟨10, 1, .reg 2, demo, by decide⟩
theorem witness_FlintConditions_23 :
  ∃ (k : Fin 12) (cond : BitVec 3) (src : Src16) (s : State), (Runs s k (words16 src)) ∧ (Skips s k cond) :=
  ⟨10, 1, .reg 2, demo, by decide⟩
theorem witness_FlintConditions_24 :
  ∃ (k : Fin 12) (cond : BitVec 3) (src : Src16) (s : State), (Runs s k (words16 src)) ∧ (Skips s k cond) :=
  ⟨10, 1, .reg 2, demo, by decide⟩
theorem witness_FlintConditions_25 :
  ∃ (k : Fin 12) (cond : BitVec 3) (src : Src16) (s : State), (Runs s k (words16 src)) ∧ (Skips s k cond) :=
  ⟨10, 1, .reg 2, demo, by decide⟩
theorem witness_FlintConditions_26 :
  ∃ (k : Fin 12) (cond : BitVec 3) (src : Src16) (s : State), (Runs s k (words16 src)) ∧ (Skips s k cond) :=
  ⟨10, 1, .reg 2, demo, by decide⟩
theorem witness_FlintConditions_27 :
  ∃ (k : Fin 12) (cond : BitVec 3) (s : State), (Runs s k 1) ∧ (Skips s k cond) :=
  ⟨10, 1, demo, by decide⟩
theorem witness_FlintConditions_28 :
  ∃ (k : Fin 12) (cond : BitVec 3) (s : State), (Runs s k 1) ∧ (Skips s k cond) :=
  ⟨10, 1, demo, by decide⟩
theorem witness_FlintConditions_29 :
  ∃ (k : Fin 12) (cond : BitVec 3) (ea : Ea) (s : State), (Runs s k (wordsEa ea)) ∧ (Skips s k cond) :=
  ⟨10, 1, .ind 3, demo, by decide⟩
theorem witness_FlintConditions_30 :
  ∃ (k : Fin 12) (cond : BitVec 3) (ea : Ea) (s : State), (Runs s k (wordsEa ea)) ∧ (Skips s k cond) :=
  ⟨10, 1, .ind 3, demo, by decide⟩
theorem witness_FlintConditions_31 :
  ∃ (k : Fin 12) (cond : BitVec 3) (ea : Ea) (s : State), (Runs s k (wordsEa ea)) ∧ (Skips s k cond) :=
  ⟨10, 1, .ind 3, demo, by decide⟩
theorem witness_FlintConditions_32 :
  ∃ (k : Fin 12) (cond : BitVec 3) (ea : Ea) (s : State), (Runs s k (wordsEa ea)) ∧ (Skips s k cond) :=
  ⟨10, 1, .ind 3, demo, by decide⟩
theorem witness_FlintConditions_33 :
  ∃ (k : Fin 12) (cond : BitVec 3) (s : State), (Runs s k 1) ∧ (Skips s k cond) :=
  ⟨10, 1, demo, by decide⟩
theorem witness_FlintConditions_34 :
  ∃ (k : Fin 12) (cond : BitVec 3) (s : State), (Runs s k 1) ∧ (Skips s k cond) :=
  ⟨10, 1, demo, by decide⟩
theorem witness_FlintConditions_35 :
  ∃ (k : Fin 12) (cond : BitVec 3) (s : State), (Runs s k 1) ∧ (Skips s k cond) :=
  ⟨10, 1, demo, by decide⟩
theorem witness_FlintConditions_36 :
  ∃ (k : Fin 12) (cond : BitVec 3) (s : State), (Runs s k 1) ∧ (Skips s k cond) :=
  ⟨10, 1, demo, by decide⟩
theorem witness_FlintConditions_37 :
  ∃ (k : Fin 12) (cond : BitVec 3) (s : State), (Runs s k 1) ∧ (Skips s k cond) :=
  ⟨10, 1, demo, by decide⟩
theorem witness_FlintConditions_38 :
  ∃ (k : Fin 12) (cond : BitVec 3) (s : State), (Runs s k 1) ∧ (Skips s k cond) :=
  ⟨10, 1, demo, by decide⟩
theorem witness_FlintConditions_39 :
  ∃ (k : Fin 12) (cond : BitVec 3) (s : State), (Runs s k 1) ∧ (Skips s k cond) :=
  ⟨10, 1, demo, by decide⟩
theorem witness_FlintConditions_40 :
  ∃ (k : Fin 12) (cond : BitVec 3) (tgt : Target) (s : State), (Runs s k (wordsTgt tgt)) ∧ (Skips s k cond) :=
  ⟨10, 1, .ptr 3, demo, by decide⟩
theorem witness_FlintConditions_41 :
  ∃ (k : Fin 12) (cond : BitVec 3) (tgt : Target) (s : State), (Runs s k (wordsTgt tgt)) ∧ (Skips s k cond) :=
  ⟨10, 1, .ptr 3, demo, by decide⟩
theorem witness_FlintConditions_42 :
  ∃ (k : Fin 12) (cond : BitVec 3) (s : State), (Runs s k 1) ∧ (Skips s k cond) :=
  ⟨10, 1, demo, by decide⟩
theorem witness_FlintConditions_43 :
  ∃ (k : Fin 12) (cond : BitVec 3) (s : State), (Runs s k 2) ∧ (Skips s k cond) :=
  ⟨10, 1, demo, by decide⟩
theorem witness_FlintConditions_44 :
  ∃ (k : Fin 12) (cond : BitVec 3) (s : State), (Runs s k 1) ∧ (Skips s k cond) :=
  ⟨10, 1, demo, by decide⟩
theorem witness_FlintConditions_45 :
  ∃ (k : Fin 12) (cond : BitVec 3) (s : State), (Runs s k 1) ∧ (Skips s k cond) :=
  ⟨10, 1, demo, by decide⟩
theorem witness_FlintConditions_46 :
  ∃ (k : Fin 12) (cond : BitVec 3) (s : State), (Runs s k 1) ∧ (Skips s k cond) :=
  ⟨10, 1, demo, by decide⟩
theorem witness_FlintConditions_47 :
  ∃ (k : Fin 12) (cond : BitVec 3) (s : State), (Runs s k 1) ∧ (Skips s k cond) :=
  ⟨10, 1, demo, by decide⟩
theorem witness_FlintConditions_48 :
  ∃ (k : Fin 12) (cond : BitVec 3) (s : State), (Runs s k 1) ∧ (Skips s k cond) :=
  ⟨10, 1, demo, by decide⟩
theorem witness_FlintConditions_49 :
  ∃ (k : Fin 12) (cond : BitVec 3) (s : State), (Runs s k 1) ∧ (Skips s k cond) :=
  ⟨10, 1, demo, by decide⟩
theorem witness_FlintConditions_50 :
  ∃ (k : Fin 12) (cond : BitVec 3) (s : State), (Runs s k 1) ∧ (Skips s k cond) :=
  ⟨10, 1, demo, by decide⟩
theorem witness_FlintConditions_51 :
  ∃ (k : Fin 12) (cond : BitVec 3) (s : State), (Runs s k 1) ∧ (Skips s k cond) :=
  ⟨10, 1, demo, by decide⟩
theorem witness_FlintConditions_52 :
  ∃ (k : Fin 12) (cond : BitVec 3) (s : State), (Runs s k 1) ∧ (Skips s k cond) :=
  ⟨10, 1, demo, by decide⟩
theorem witness_FlintConditions_53 :
  ∃ (k : Fin 12) (cond : BitVec 3) (s : State), (Runs s k 1) ∧ (Skips s k cond) :=
  ⟨10, 1, demo, by decide⟩
theorem witness_FlintConditions_54 :
  ∃ (k : Fin 12) (cond : BitVec 3) (s : State), (Runs s k 1) ∧ (Skips s k cond) :=
  ⟨10, 1, demo, by decide⟩
theorem witness_FlintConditions_55 :
  ∃ (k : Fin 12) (cond : BitVec 3) (s : State), (Runs s k 1) ∧ (Skips s k cond) :=
  ⟨10, 1, demo, by decide⟩
theorem witness_FlintConditions_56 :
  ∃ (k : Fin 12) (cond : BitVec 3) (s : State), (Runs s k 1) ∧ (Skips s k cond) :=
  ⟨10, 1, demo, by decide⟩
theorem witness_FlintConditions_57 :
  ∃ (k : Fin 12) (cond : BitVec 3) (s : State), (Runs s k 1) ∧ (Skips s k cond) ∧ (s.debugIsOpen) :=
  ⟨10, 1, demo.set R.PKE.STAT_DBG 1, by decide⟩
theorem witness_FlintConditions_58 :
  ∃ (k : Fin 12) (s : State), (Runs s k 1) ∧ (s.debugIsOpen = false) ∧ (s.get R.FAULT.STATUS_ACTIVE = 0) :=
  ⟨10, demo, by decide⟩
theorem witness_FlintConditions_59 :
  ∃ (k : Fin 12) (cond : BitVec 3) (n : BitVec 4) (x : BitVec 5) (s : State), (Runs s k (bif entryExt ((s.eng k).entry n.toNat) then 2 else 1)) ∧ (Skips s k cond) ∧ ((s.eng k).customOk n x) :=
  ⟨10, 1, 3, 5, demoCustom, by decide⟩

/-- The hypotheses of `Obligations.FlintWaitAndCustomer` can be met, clause by clause. -/
theorem witness_FlintWaitAndCustomer_0 :
  ∃ (k : Fin 12) (cond : BitVec 3) (s : State), (Runs s k 1) ∧ (Passes s k cond) :=
  ⟨10, 0, demo, by decide⟩
theorem witness_FlintWaitAndCustomer_1 :
  ∃ (k : Fin 12) (s : State), (s.alive) ∧ (s.wakeDue k = true) ∧ (s.get (R.PWR.DOMSTAT (5 + k)) ≠ 0) ∧ ((s.eng k).run = .waiting) :=
  ⟨10, demo.modEng 10 (fun e => { e with run := .waiting, response := some 5 }), by decide⟩
theorem witness_FlintWaitAndCustomer_2 :
  ∃ (k : Fin 12) (cond : BitVec 3) (s : State), (Runs s k 1) ∧ (Passes s k cond) ∧ (s.debugIsOpen = true) :=
  ⟨10, 0, demo.set R.PKE.STAT_DBG 1, by decide⟩
theorem witness_FlintWaitAndCustomer_3 :
  ∃ (k : Fin 12) (cond : BitVec 3) (n : BitVec 4) (x : BitVec 5) (ext : Half) (s : State) (m : MicroRun), (Runs s k (bif entryExt ((s.eng k).entry n.toNat) then 2 else 1)) ∧ (Passes s k cond) ∧ ((s.eng k).kfmt = false) ∧ ((s.eng k).customOk n x = true) ∧ (MicroRun.loop ⟨Past s k (bif entryExt ((s.eng k).entry n.toNat) then 2 else 1) id,       { g := (s.eng k).g, p := (s.eng k).p, flags := (s.eng k).flags, t0 := 0, t1 := 0, u := ⟨false, false, false, false⟩, buf := [],           sp := (s.eng k).sp, x := x, ext := bif entryExt ((s.eng k).entry n.toNat) then ext else 0,           xuse := entryXuse ((s.eng k).entry n.toNat), fmask := entryMask ((s.eng k).entry n.toNat) }⟩ k (s.eng k).pc.toNat       (entryStart ((s.eng k).entry n.toNat)) 1024 = .ok m) :=
  ⟨10, 0, 3, 5, 0, demoCustom, demoMicro, by decide⟩
theorem witness_FlintWaitAndCustomer_4 :
  ∃ (k : Fin 12) (cond : BitVec 3) (n : BitVec 4) (x : BitVec 5) (mask : Nat) (start : Nat) (d : Nat) (src : Nat) (s : State), (Runs s k 1) ∧ (Passes s k cond) ∧ ((s.eng k).kfmt = false ∧ (s.eng k).mc = .measured) ∧ (mask < 16 ∧ start < 256 ∧ d < 8 ∧ src < 8 ∧ x.toNat < 8) ∧ ((s.eng k).decode.look n.toNat = 0x10200 + 0x1000 * mask + start) ∧ ((s.eng k).micro.look start = 0x10080C00 + 0x1000000 * d + 0x100000 * src + 0x1000 * 6) :=
  ⟨10, 0, 3, 5, 2, 0x40, 1, 2, demo.modEng 10 (fun e => { e with mc := .measured, decode := [(3, 0x12240)], micro := [(0x40, 0x11280C00 + 0x1000 * 6)] }), by decide⟩
theorem witness_FlintWaitAndCustomer_5 :
  ∃ (k : Fin 12) (cond : BitVec 3) (n : BitVec 4) (x : BitVec 5) (mask : Nat) (start : Nat) (d : Nat) (src : Nat) (s : State), (Runs s k 1) ∧ (Passes s k cond) ∧ ((s.eng k).kfmt = false ∧ (s.eng k).mc = .measured) ∧ (mask < 16 ∧ start < 256 ∧ d < 8 ∧ src < 8 ∧ x.toNat < 8) ∧ ((s.eng k).decode.look n.toNat = 0x10200 + 0x1000 * mask + start) ∧ ((s.eng k).micro.look start = 0x10080C00 + 0x1000000 * d + 0x100000 * src + 0x1000 * 4) :=
  ⟨10, 0, 3, 5, 2, 0x40, 1, 2, demo.modEng 10 (fun e => { e with mc := .measured, decode := [(3, 0x12240)], micro := [(0x40, 0x11280C00 + 0x1000 * 4)] }), by decide⟩
theorem witness_FlintWaitAndCustomer_6 :
  ∃ (k : Fin 12) (cond : BitVec 3) (n : BitVec 4) (x : BitVec 5) (mask : Nat) (start : Nat) (d : Nat) (src : Nat) (s : State), (Runs s k 1) ∧ (Passes s k cond) ∧ ((s.eng k).kfmt = false ∧ (s.eng k).mc = .measured) ∧ (mask < 16 ∧ start < 256 ∧ d < 8 ∧ src < 8 ∧ x.toNat < 8) ∧ ((s.eng k).decode.look n.toNat = 0x10200 + 0x1000 * mask + start) ∧ ((s.eng k).micro.look start = 0x10080C00 + 0x1000000 * d + 0x100000 * src + 0x1000 * 5) :=
  ⟨10, 0, 3, 5, 2, 0x40, 1, 2, demo.modEng 10 (fun e => { e with mc := .measured, decode := [(3, 0x12240)], micro := [(0x40, 0x11280C00 + 0x1000 * 5)] }), by decide⟩

/-- The hypotheses of `Obligations.FlintFaults` can be met, clause by clause. -/
theorem witness_FlintFaults_0 :
  ∃ (k : Fin 12) (word : Half) (ext : Half) (s : State), (Runs s k 1) ∧ (decodeFlint (s.eng k).kfmt word.toNat ext.toNat = none) ∧ (s.get R.FAULT.STATUS_ACTIVE = 0) :=
  ⟨10, 0xFFFF, 0, demoK, by decide⟩
theorem witness_FlintFaults_1 :
  ∃ (k : Fin 12) (s : State), (Runs s k 1) ∧ (s.debugIsOpen = false) ∧ (s.get R.FAULT.STATUS_ACTIVE = 0) :=
  ⟨10, demo, by decide⟩
theorem witness_FlintFaults_2 :
  ∃ (k : Fin 12) (cond : BitVec 3) (s : State), (Runs s k 1) ∧ (Passes s k cond ∧ ((s.eng k).sp - 1).toNat ≥ 0x8000) ∧ (s.get R.FAULT.STATUS_ACTIVE = 0) :=
  ⟨10, 0, demo.modEng 10 (fun e => { e with sp := 0 }), by decide⟩
theorem witness_FlintFaults_3 :
  ∃ (k : Fin 12) (cond : BitVec 3) (s : State), (Runs s k 1) ∧ (Passes s k cond ∧ (s.eng k).sp.toNat ≥ 0x7FFF) ∧ (s.get R.FAULT.STATUS_ACTIVE = 0) :=
  ⟨10, 0, demo.modEng 10 (fun e => { e with sp := 0x7FFF }), by decide⟩
theorem witness_FlintFaults_4 :
  ∃ (k : Fin 12) (s : State), (s.executes k = true ∧ (s.eng k).run = .running) ∧ ((s.eng k).pc.toNat % 2 = 1) ∧ (s.get R.FAULT.STATUS_ACTIVE = 0) :=
  ⟨10, demo.modEng 10 (fun e => { e with pc := 1 }), by decide⟩
theorem witness_FlintFaults_5 :
  ∃ (k : Fin 12) (s : State), (s.executes k = true ∧ (s.eng k).run = .running) ∧ ((s.eng k).pc.toNat % 2 = 1) ∧ (s.get R.FAULT.STATUS_ACTIVE = 0) :=
  ⟨10, demo.modEng 10 (fun e => { e with pc := 1 }), by decide⟩
theorem witness_FlintFaults_6 :
  ∃ (k : Fin 12) (s : State), (s.executes k = true ∧ (s.eng k).run = .running) ∧ ((s.eng k).pc.toNat % 2 = 1) ∧ (s.get R.FAULT.STATUS_ACTIVE = 0) :=
  ⟨10, demo.modEng 10 (fun e => { e with pc := 1 }), by decide⟩

/-- The hypotheses of `Obligations.Microcode` can be met, clause by clause. -/
theorem witness_Microcode_0 :
  ∃ (who : Requester) (s : State), (Works s who 0x1C 0x2C) ∧ (s.get R.MCODE.SEL_ENG < 12 ∧ (s.eng (s.get R.MCODE.SEL_ENG)).run = .reset) :=
  ⟨0, demo.set R.MCODE.SEL_ENG 3, by decide⟩
theorem witness_Microcode_1 :
  ∃ (who : Requester) (s : State), (Works s who 0x1C 0x2C) ∧ ((s.eng (s.get R.MCODE.SEL_ENG)).run ≠ .reset) :=
  ⟨0, demo.set R.MCODE.SEL_ENG 10, by decide⟩
theorem witness_Microcode_2 :
  ∃ (who : Requester) (s : State), (Works s who 0x1C 0x2C) ∧ ((s.eng (s.get R.MCODE.SEL_ENG)).run ≠ .reset) :=
  ⟨0, demo.set R.MCODE.SEL_ENG 10, by decide⟩
theorem witness_Microcode_3 :
  ∃ (who : Requester) (s : State), (Works s who 0x1C 0x2C) ∧ (s.get R.MCODE.SEL_ENG < 12 ∧ (s.eng (s.get R.MCODE.SEL_ENG)).run = .reset) ∧ (s.mode ≠ .boot) ∧ ((s.eng (s.get R.MCODE.SEL_ENG)).loadFail = none) ∧ ((s.eng (s.get R.MCODE.SEL_ENG)).mcBoot = some (s.eng (s.get R.MCODE.SEL_ENG)).tableDigest) :=
  ⟨(0 : Requester), demoTable, demoTable_works, demoTable_reset, demoTable_mode, demoTable_load, demoTable_digest⟩
theorem witness_Microcode_4 :
  ∃ (who : Requester) (a : Nat) (s : State), (Works s who 0x1C 0x2C) ∧ (s.get R.MCODE.SEL_ENG < 12 ∧ (s.eng (s.get R.MCODE.SEL_ENG)).run = .reset) ∧ ((s.eng (s.get R.MCODE.SEL_ENG)).loadFail = some a) :=
  ⟨0, 7, (demo.set R.MCODE.SEL_ENG 3).modEng 3 (fun e => { e with micro := [(7, 1)] }), by decide⟩
theorem witness_Microcode_5 :
  ∃ (who : Requester) (s : State), (Works s who 0x1C 0x28) ∧ (s.get R.MCODE.SEL_ENG < 12 ∧ (s.eng (s.get R.MCODE.SEL_ENG)).mc = .loading) ∧ (s.get R.MCODE.ADDR_UADDR < 256) :=
  ⟨0, (demo.setAll [(R.MCODE.SEL_ENG, 3), (R.MCODE.ADDR_UADDR, 0xFF)]).modEng 3 (fun e => { e with mc := .loading }), by decide⟩
theorem witness_Microcode_6 :
  ∃ (who : Requester) (s : State), (Reaches s who 0x1C 0x28 false) ∧ (s.get R.MCODE.ADDR_UADDR < 256) :=
  ⟨0, (demo.setAll [(R.MCODE.SEL_ENG, 3)]).modEng 3 (fun e => { e with mc := .loading, micro := [(0, 5)] }), by decide⟩
theorem witness_Microcode_7 :
  ∃ (k : Fin 12) (s : State), (s.get (R.PWR.DOMSTAT (5 + k)) = 2) ∧ ((s.eng k).mc = .measured ∧ (s.eng k).tableDigest = (s.eng k).mcDigest) :=
  ⟨(3 : Fin 12), demoTable, demoTable_on, demoTable_measured⟩
theorem witness_Microcode_8 :
  ∃ (k : Fin 12) (s : State), (s.get (R.PWR.DOMSTAT (5 + k)) = 2) ∧ ((s.eng k).mc = .measured) ∧ (s.get R.FAULT.STATUS_ACTIVE = 0) :=
  ⟨3, demo.modEng 3 (fun e => { e with mc := .measured }), by decide⟩

/-- The hypotheses of `Obligations.EngineControl` can be met, clause by clause. -/
theorem witness_EngineControl_0 :
  ∃ (who : Requester) (k : Fin 12) (s : State), (Writes s who (0x10 + k) 0x04) ∧ (s.get (R.HDR.LOCK (0x10 + k)) = 0) ∧ ((s.eng k).run = .reset ∧ (s.eng k).image = true ∧ (s.eng k).mc ≠ .failed) :=
  ⟨0, 3, (demo.modEng 3 (fun e => { e with image := true })).setAll [(R.HDR.ST 0x13, 0), (R.HDR.OWNER 0x13, 0)], by decide⟩
theorem witness_EngineControl_1 :
  ∃ (who : Requester) (k : Fin 12) (s : State), (Writes s who (0x10 + k) 0x04) ∧ (s.get (R.HDR.LOCK (0x10 + k)) = 0) ∧ (k.val ≠ 0 ∧ (s.eng k).run = .reset ∧ (s.eng k).image = false) :=
  ⟨0, 3, demo.setAll [(R.HDR.ST 0x13, 0), (R.HDR.OWNER 0x13, 0)], by decide⟩
theorem witness_EngineControl_2 :
  ∃ (who : Requester) (k : Fin 12) (s : State), (Writes s who (0x10 + k) 0x04) ∧ (s.get (R.HDR.LOCK (0x10 + k)) = 0) ∧ (k.val ≠ 0 ∧ s.get (R.HDR.ST (0x10 + k)) ≠ 0) :=
  ⟨0, 10, demo, by decide⟩
theorem witness_EngineControl_3 :
  ∃ (who : Requester) (s : State), (Writes s who 0x10 0x04) :=
  ⟨0, demo, by decide⟩
theorem witness_EngineControl_4 :
  ∃ (k : Fin 12) (s : State), (k.val ≠ 0) ∧ ((s.eng k).run = .running ∧ (s.eng k).faulted = false ∧ (s.eng k).stalled = none) ∧ (s.get (R.ENG.WDOG_MS k) ≠ 0) ∧ (s.get R.FAULT.STATUS_ACTIVE = 0) :=
  ⟨10, demo.set (R.ENG.WDOG_MS 10) 100, by decide⟩
theorem witness_EngineControl_5 :
  ∃ (who : Requester) (k : Fin 12) (s : State), (Writes s who (0x10 + k) 0x28) ∧ ((s.eng k).run = .running ∨ (s.eng k).run = .waiting) :=
  ⟨0, 10, demo, by decide⟩
theorem witness_EngineControl_6 :
  ∃ (k : Fin 12) (s : State), (s.get (R.ENG.BRKPT_EN k) = 1 ∧ s.get (R.ENG.BRKPT_ADDR k) = (s.eng k).pc.toNat) ∧ ((s.eng k).run = .running ∧ (s.eng k).faulted = false) :=
  ⟨10, demo.setAll [(R.ENG.BRKPT_EN 10, 1), (R.ENG.BRKPT_ADDR 10, 0)], by decide⟩
theorem witness_EngineControl_7 :
  ∃ (who : Requester) (k : Fin 12) (s : State), (Writes s who (0x10 + k) 0x28) ∧ ((s.eng k).run = .halted ∧ (s.eng k).withdrawn = none) :=
  ⟨0, 10, demo.modEng 10 (fun e => { e with run := .halted }), by decide⟩
theorem witness_EngineControl_8 :
  ∃ (who : Requester) (k : Fin 12) (s : State), (Writes s who (0x10 + k) 0x28) ∧ ((s.eng k).run = .halted ∧ (s.eng k).faulted = false ∧ (s.eng k).stalled = none ∧ (s.eng k).kfmt = false) ∧ (s.get (R.PWR.DOMSTAT (5 + k)) = 2) ∧ ((s.eng k).pc.toNat % 2 = 0 ∧ (s.eng k).pc.toNat < 0x7FFE) ∧ ((s.eng k).fetchWord (s.eng k).pc.toNat = 0x1700) :=
  ⟨0, 10, demo.modEng 10 (fun e => { e with run := .halted, sram := [(1, 0x17)] }), by decide⟩
theorem witness_EngineControl_9 :
  ∃ (who : Requester) (k : Fin 12) (s : State), (Writes s who (0x10 + k) 0x28) ∧ ((s.eng k).run ≠ .halted) :=
  ⟨0, 10, demo, by decide⟩
theorem witness_EngineControl_10 :
  ∃ (who : Requester) (k : Fin 12) (s : State), (Writes s who (0x10 + k) 0x28) ∧ ((s.eng k).run ≠ .halted) :=
  ⟨0, 10, demo, by decide⟩
theorem witness_EngineControl_11 :
  ∃ (s : State), (s.debugIsOpen = true ∧ s.alive = true) :=
  ⟨demo.set R.PKE.STAT_DBG 1, by decide⟩
theorem witness_EngineControl_12 :
  ∃ (k : Fin 12) (s : State), (s.debugIsOpen = true) ∧ (Reaches s 0 (0x10 + k) 0x30 false) :=
  ⟨10, demo.setAll [(R.PKE.STAT_DBG, 1), (R.ENG.WDOG_MS 10, 100)], by decide⟩
theorem witness_EngineControl_13 :
  ∃ (k : Fin 12) (w : Word) (s : State), (s.debugIsOpen = true) ∧ (Writes s 0 (0x10 + k) 0x30) ∧ (s.get (R.HDR.LOCK (0x10 + k)) = 0) ∧ (0 < w.toNat ∧ w.toNat < 256) :=
  ⟨10, 7, demo.setAll [(R.PKE.STAT_DBG, 1), (R.ENG.WDOG_MS 10, 100)], by decide⟩

/-- The hypotheses of `Obligations.MailboxesAndCollector` can be met, clause by clause. -/
theorem witness_MailboxesAndCollector_0 :
  ∃ (dest : BitVec 8) (s : State), (dest.toNat ≤ 11 ∧ ((s.eng dest.toNat).image = true ∨ dest = 0)) ∧ ((s.eng dest.toNat).mailbox.length < 8) :=
  ⟨10, demo, by decide⟩
theorem witness_MailboxesAndCollector_1 :
  ∃ (dest : BitVec 8) (s : State), (dest.toNat ≤ 11 ∧ ((s.eng dest.toNat).image = true ∨ dest = 0)) ∧ (8 ≤ (s.eng dest.toNat).mailbox.length) :=
  ⟨10, demo.modEng 10 (fun e => { e with mailbox := List.replicate 8 (Mail.mk4 6 0x81 0 0 0 0 0) }), by decide⟩
theorem witness_MailboxesAndCollector_2 :
  ∃ (dest : BitVec 8) (s : State), (11 < dest.toNat ∨ ((s.eng dest.toNat).image = false ∧ dest ≠ 0)) :=
  ⟨12, demo, by decide⟩
theorem witness_MailboxesAndCollector_3 :
  ∃ (s : State), (s.cluster.fifo.length < 15) :=
  ⟨demo, by decide⟩
theorem witness_MailboxesAndCollector_4 :
  ∃ (k : Fin 12) (s : State), (k.val ≠ 0 ∧ 15 ≤ s.cluster.fifo.length) :=
  ⟨10, { demo with cluster := { demo.cluster with fifo := List.replicate 15 ⟨1, false, 0, 1, 1⟩ } }, by decide⟩
theorem witness_MailboxesAndCollector_5 :
  ∃ (who : Requester) (p : Post) (l : List Post) (s : State), (Works s who 0x1D 0x28) ∧ (s.cluster.fifo = p :: l) ∧ (∀ k : Fin 12, (s.eng k).stalled = none) :=
  ⟨0, ⟨1, false, 0, 1, 1⟩, [], { demo with cluster := { demo.cluster with fifo := [⟨1, false, 0, 1, 1⟩] } }, by decide⟩
theorem witness_MailboxesAndCollector_6 :
  ∃ (who : Requester) (k : Fin 12) (p : Post) (q : Post) (l : List Post) (s : State), (Works s who 0x1D 0x28) ∧ (s.cluster.fifo = p :: l ∧ l.length = 14) ∧ ((s.eng k).stalled = some q) ∧ (∀ j : Fin 12, j.val < k.val → (s.eng j).stalled = none) :=
  ⟨0, 10, ⟨1, false, 0, 1, 1⟩, ⟨10, false, 0, 5, 1⟩, List.replicate 14 ⟨1, false, 0, 1, 1⟩, { demo.modEng 10 (fun e => { e with stalled := some ⟨10, false, 0, 5, 1⟩ }) with cluster := { demo.cluster with fifo := List.replicate 15 ⟨1, false, 0, 1, 1⟩ } }, by decide⟩
theorem witness_MailboxesAndCollector_7 :
  ∃ (who : Requester) (k : Fin 12) (s : State), (Works s who 0x1D 0x34) ∧ (k.val ≠ 0 ∧ (s.eng k).response = none) :=
  ⟨0, 10, demo.set R.COLLECT.RESP0_VALUE 9, by decide⟩
theorem witness_MailboxesAndCollector_8 :
  ∃ (k : Fin 12) (v : Word) (s : State), ((s.eng k).response = some v) :=
  ⟨10, 9, demo.modEng 10 (fun e => { e with response := some 9 }), by decide⟩
theorem witness_MailboxesAndCollector_9 :
  ∃ (m : Mail) (l : List Mail) (s : State), (s.engines.e10.mailbox = m :: l ∧ m.type = 0x90) ∧ (s.reference = true) :=
  ⟨Mail.mk4 9 0x90 0 128 0 0 0, [], demo.modEng 10 (fun e => { e with mailbox := [Mail.mk4 9 0x90 0 128 0 0 0] }), by decide⟩
theorem witness_MailboxesAndCollector_10 :
  ∃ (m : Mail) (l : List Mail) (seq : Nat) (s : State), (s.engines.e10.mailbox = m :: l ∧ m.type = 0x91 ∧ m.src = 9) ∧ (s.reference = true) ∧ (s.compat.lampWait = some seq) :=
  ⟨Mail.mk4 9 0x91 0 0 0 0 0, [], 4, { demo.modEng 10 (fun e => { e with mailbox := [Mail.mk4 9 0x91 0 0 0 0 0] }) with compat := { demo.compat with lampWait := some 4 }, lamp := { demo.lamp with level := 0 } }, by decide⟩
theorem witness_MailboxesAndCollector_11 :
  ∃ (seq : Nat) (s : State), (s.compat.lampWait = some seq) :=
  ⟨4, { demo with compat := { demo.compat with lampWait := some 4 } }, by decide⟩

/-- The hypotheses of `Obligations.EventFabric` can be met, clause by clause. -/
theorem witness_EventFabric_0 :
  ∃ (k : Fin 12) (n : Fin 64) (s : State), ((s.eng k).run = .running) ∧ (s.domOn 0 = true) ∧ (2 ≤ n.val ∧ n.val < 36) ∧ (s.get (R.EVT.SEL_SRC n) = 16 + k) :=
  ⟨10, 7, demo.setAll [(R.EVT.SEL_SRC 7, 26), (R.EVT.SEL_PEND 7, 1)], by decide⟩
theorem witness_EventFabric_1 :
  ∃ (k : Fin 12) (i : Fin 16) (s : State), ((s.eng k).run = .running) ∧ (s.domOn 0 = true) ∧ (s.get (R.EVT.SEL_SRC (36 + i)) = 16 + k) :=
  ⟨10, 3, demo.setAll [(R.EVT.SEL_SRC 39, 26), (R.TIM.CNT_COUNT 3, 77)], by decide⟩
theorem witness_EventFabric_2 :
  ∃ (n : Fin 64) (s : State), (Writes s 12 0x22 0xA0) ∧ (s.domOn 0 = true) ∧ (2 ≤ n.val ∧ n.val < 36) ∧ (s.get (R.EVT.SEL_SRC n) = 28) :=
  ⟨7, demo.setAll [(R.EVT.SEL_SRC 7, 28), (R.HDR.OWNER 0x22, 12)], by decide⟩
theorem witness_EventFabric_3 :
  ∃ (p : Nat) (cs : List Nat) (n : Fin 64) (s : State), (s.domOn 0 = true) ∧ (s.fabric.latched = [⟨p, cs⟩]) ∧ (2 ≤ n.val ∧ n.val < 36) ∧ (s.get (R.EVT.SEL_SRC n) = p) :=
  ⟨34, [], 7, { demo.set (R.EVT.SEL_SRC 7) 34 with fabric := { demo.fabric with latched := [⟨34, []⟩] } }, by decide⟩
theorem witness_EventFabric_4 :
  ∃ (p : Nat) (cs : List Nat) (i : Fin 16) (s : State), (s.domOn 0 = true) ∧ (s.fabric.latched = [⟨p, cs⟩]) ∧ (s.get (R.EVT.SEL_SRC (36 + i)) = p) :=
  ⟨34, [5, 6, 7, 8], 3, { demo.set (R.EVT.SEL_SRC 39) 34 with fabric := { demo.fabric with latched := [⟨34, [5, 6, 7, 8]⟩] } }, by decide⟩
theorem witness_EventFabric_5 :
  ∃ (k : Fin 12) (j : BitVec 3), (j.toNat < 3) ∧ (2 ≤ 3 * k.val + j.toNat) :=
  ⟨10, 1, by decide⟩
theorem witness_EventFabric_6 :
  ∃ (who : Requester) (n : Fin 64) (src : BitVec 7) (s : State), (Writes s who (0x20 + n / 32) (0x20 + 4 * (n % 32))) ∧ (who.val ≠ 0 ∧ 2 ≤ n.val) ∧ (src.toNat < 63 ∨ src = 127) :=
  ⟨10, 30, 34, demo.set (R.EVT.SEL_OWNER 30) 10, by decide⟩
theorem witness_EventFabric_7 :
  ∃ (n : Fin 64) (src : BitVec 7) (own : BitVec 4) (s : State), (Writes s 0 (0x20 + n / 32) (0x20 + 4 * (n % 32))) ∧ (2 ≤ n.val) ∧ (src.toNat < 63 ∧ own.toNat ≤ 12) :=
  ⟨30, 34, 10, demo, by decide⟩
theorem witness_EventFabric_8 :
  ∃ (who : Requester) (n : Fin 64) (src : BitVec 7) (s : State), (Writes s who (0x20 + n / 32) (0x20 + 4 * (n % 32))) ∧ (2 ≤ n.val ∧ 96 ≤ src.toNat ∧ src.toNat ≤ 126) :=
  ⟨0, 30, 96, demo, by decide⟩
theorem witness_EventFabric_9 :
  ∃ (who : Requester) (n : Fin 64) (s : State), (Writes s who (0x20 + n / 32) (0x20 + 4 * (n % 32))) ∧ (n.val < 2) :=
  ⟨0, 1, demo, by decide⟩
theorem witness_EventFabric_10 :
  ∃ (who : Requester) (k : Fin 32) (page : Byte) (s : State), (Writes s who 0x22 (0x20 + 4 * k)) ∧ (who.val ≠ 0) ∧ (mapped page.toNat = true) ∧ (s.get (R.EVT.TAP_OWNER k) ≤ 12) ∧ (s.rights (s.get (R.EVT.TAP_OWNER k)) page.toNat 0x0C false = 0) :=
  ⟨10, 10, 0x60, demo.setAll [(R.EVT.TAP_OWNER 10, 10), (R.HDR.OWNER 0x60, 10)], by decide⟩
theorem witness_EventFabric_11 :
  ∃ (who : Requester) (k : Fin 32) (page : Byte) (s : State), (Writes s who 0x22 (0x20 + 4 * k)) ∧ (mapped page.toNat = false) :=
  ⟨0, 10, 0x06, demo, by decide⟩

/-- The hypotheses of `Obligations.Timers` can be met, clause by clause. -/
theorem witness_Timers_0 :
  ∃ (who : Requester) (i : Fin 16) (s : State), (Writes s who 0x24 0xE0) ∧ (s.get (R.TIM.STAT_RUN i) = 0) ∧ (s.get (R.TIM.CFG_GOSEL i) ≠ 0) ∧ (who.val = 0 ∨ s.get (R.TIM.CFG_OWNER i) = who) :=
  ⟨0, 5, demo.set (R.TIM.CFG_GOSEL 5) 1, by decide⟩
theorem witness_Timers_1 :
  ∃ (who : Requester) (i : Fin 16) (s : State), (Writes s who 0x24 0xE0) ∧ (s.get (R.TIM.CFG_GOSEL i) = 0 ∨ s.get (R.TIM.STAT_RUN i) ≠ 0) :=
  ⟨0, 5, demo, by decide⟩
theorem witness_Timers_2 :
  ∃ (who : Requester) (m : BitVec 16) (i : Fin 16) (s : State), (Writes s who 0x24 0xE4) ∧ (m.getLsbD i = true) ∧ (who.val = 0 ∨ s.get (R.TIM.CFG_OWNER i) = who) :=
  ⟨0, 0x20, 5, demo.set (R.TIM.CNT_COUNT 5) 9, by decide⟩
theorem witness_Timers_3 :
  ∃ (who : Requester) (m : BitVec 16) (i : Fin 16) (s : State), (Writes s who 0x24 0xE4) ∧ (m.getLsbD i = false) :=
  ⟨0, 0x20, 6, demo, by decide⟩
theorem witness_Timers_4 :
  ∃ (who : Requester) (i : Fin 16) (j : Fin 4) (s : State), (Writes s who (0x24 + i / 4) (0x28 + 0x30 * (i % 4) + 4 * j)) :=
  ⟨0, 5, 2, demo, by decide⟩
theorem witness_Timers_5 :
  ∃ (who : Requester) (i : Fin 16) (w : Word) (s : State), (Writes s who (0x24 + i / 4) (0x20 + 0x30 * (i % 4))) ∧ ((R.TIM.CFG_DIV i).of w.toNat ≤ 10) ∧ (s.get (R.TIM.STAT_RUN i) = 0 ∨ (R.TIM.CFG_DIV i).of w.toNat = s.get (R.TIM.CFG_DIV i)) ∧ (who.val ≠ 0) :=
  ⟨10, 5, 3, demo.set (R.TIM.CFG_OWNER 5) 10, by decide⟩
theorem witness_Timers_6 :
  ∃ (who : Requester) (i : Fin 16) (w : Word) (s : State), (Writes s who (0x24 + i / 4) (0x20 + 0x30 * (i % 4))) ∧ (10 < (R.TIM.CFG_DIV i).of w.toNat) :=
  ⟨0, 5, 11, demo, by decide⟩
theorem witness_Timers_7 :
  ∃ (i : Fin 16) (j : Fin 4) (c : Word) (s : State), (s.get (R.TIM.STAT_RUN i) = 1) ∧ (s.get (R.TIM.CFG_CMPEN i) = 2 ^ j.val) ∧ (s.fabric.cmp i j = .ahead ∨ s.fabric.cmp i j = .arming) ∧ (s.get (R.TIM.CMP_VALUE i j) = c.toNat) :=
  ⟨5, 2, 100, { demo.setAll [(R.TIM.STAT_RUN 5, 1), (R.TIM.CFG_CMPEN 5, 4), (R.TIM.CMP_VALUE 5 2, 100), (R.TIM.INT_INTERVAL 5 2, 50)] with fabric := { demo.fabric with cmps := [(22, .ahead)] } }, by decide⟩
theorem witness_Timers_8 :
  ∃ (i : Fin 16) (j : Fin 4) (c : Word) (s : State), (s.get (R.TIM.STAT_RUN i) = 1) ∧ (s.get (R.TIM.CFG_CMPEN i) = 2 ^ j.val) ∧ (s.fabric.cmp i j = .arming) ∧ ((s.get (R.TIM.CFG_LATEFIRE i)).testBit j = false) ∧ (s.get (R.TIM.CMP_VALUE i j) < c.toNat ∧ c.toNat ≤ s.get (R.TIM.CMP_VALUE i j) + 0x80000000) :=
  ⟨5, 2, 101, { demo.setAll [(R.TIM.STAT_RUN 5, 1), (R.TIM.CFG_CMPEN 5, 4), (R.TIM.CMP_VALUE 5 2, 100)] with fabric := { demo.fabric with cmps := [(22, .arming)] } }, by decide⟩
theorem witness_Timers_9 :
  ∃ (who : Requester) (i : Fin 16) (s : State), (Reaches s who (0x24 + i / 4) (0x48 + 0x30 * (i % 4)) false) :=
  ⟨0, 5, demo.setAll [(R.TIM.CAP_VALUE 5, 9), (R.TIM.STAT_CAPFULL 5, 1)], by decide⟩

/-- The hypotheses of `Obligations.RealTimeClock` can be met, clause by clause. -/
theorem witness_RealTimeClock_0 :
  ∃ (s : State), (s.rtc.stopped = false) ∧ (s.rtc.shift = 0) :=
  ⟨{ demo with rtc := { demo.rtc with stopped := false, shift := 0, count := 100000 } }, by decide⟩
theorem witness_RealTimeClock_1 :
  ∃ (s : State), (s.rtc.stopped = true) :=
  ⟨{ demo with rtc := { demo.rtc with stopped := true } }, by decide⟩
theorem witness_RealTimeClock_2 :
  ∃ (who : Requester) (s : State), (Reaches s who 0x28 0x20 false) ∧ (s.rtc.stopped = false ∧ s.rtc.shift = 0) :=
  ⟨0, { demo with rtc := { demo.rtc with stopped := false, shift := 0, count := 100000 } }, by decide⟩
theorem witness_RealTimeClock_3 :
  ∃ (who : Requester) (s : State), (Writes s who 0x28 0x40) ∧ (s.get R.RTC.STAT_PENDING = 0) ∧ (s.get R.RTC.SCNT_SEC_L + 2 ^ 17 * s.get R.RTC.SCNT_SEC_H ≤ 8583494399) :=
  ⟨0, demo.set R.RTC.SCNT_SEC_L 1000, by decide⟩
theorem witness_RealTimeClock_4 :
  ∃ (who : Requester) (s : State), (Writes s who 0x28 0x40) ∧ (s.get R.RTC.STAT_PENDING ≠ 0 ∨ 8583494399 < s.get R.RTC.SCNT_SEC_L + 2 ^ 17 * s.get R.RTC.SCNT_SEC_H) :=
  ⟨0, demo.set R.RTC.SCNT_SEC_H 0xFFFF, by decide⟩
theorem witness_RealTimeClock_5 :
  ∃ (who : Requester) (c : Cal) (s : State), (Writes s who 0x28 0x40) ∧ (s.get R.RTC.STAT_PENDING = 0) ∧ (c = ⟨s.get R.RTC.SCAL_SEC, s.get R.RTC.SCAL_MIN, s.get R.RTC.SCAL_HOUR, s.get R.RTC.SCAL_WDAY, s.get R.RTC.SCAL_DAY, s.get R.RTC.SCAL_MONTH, s.get R.RTC.SCAL_YEAR⟩) ∧ (c.valid = true) :=
  ⟨0, ⟨0, 0, 0, 0, 1, 1, 2025⟩, demo.setAll [(R.RTC.SCAL_DAY, 1), (R.RTC.SCAL_MONTH, 1), (R.RTC.SCAL_YEAR, 2025)], by decide⟩
theorem witness_RealTimeClock_6 :
  ∃ (n : Nat) (who : Nat) (s : State), (s.rtc.stopped = false) ∧ (s.rtc.staged = some (n, who)) :=
  ⟨32768000, 12, { demo.setAll [(R.RTC.STAT_OSF, 1), (R.RTC.SHIFT_BUSY, 1)] with rtc := { demo.rtc with stopped := false, staged := some (32768000, 12) } }, by decide⟩
theorem witness_RealTimeClock_7 :
  ∃ (who : Requester) (ticks : BitVec 16) (s : State), (Writes s who 0x28 0x44) ∧ (s.get R.RTC.SHIFT_BUSY = 0 ∧ s.get R.RTC.STAT_PENDING = 0 ∧ s.get R.RTC.STAT_OSF = 0) ∧ (ticks.toInt ≠ 0 ∧ -16384 ≤ ticks.toInt ∧ ticks.toInt ≤ 16384) :=
  ⟨0, 0xFFF0, demo, by decide⟩
theorem witness_RealTimeClock_8 :
  ∃ (who : Requester) (s : State), (Writes s who 0x28 0x44) ∧ (s.get R.RTC.SHIFT_BUSY ≠ 0 ∨ s.get R.RTC.STAT_PENDING ≠ 0) :=
  ⟨0, demo.set R.RTC.SHIFT_BUSY 1, by decide⟩
theorem witness_RealTimeClock_9 :
  ∃ (s : State), (s.get R.RTC.SHIFT_BUSY = 1 ∧ s.rtc.stopped = false) ∧ (s.rtc.shiftEdges = 0 ∧ s.rtc.shift ≠ 0) ∧ (s.rtc.shift.natAbs ≤ 16384) :=
  ⟨{ demo.set R.RTC.SHIFT_BUSY 1 with rtc := { demo.rtc with stopped := false, shift := -16, shiftEdges := 0, count := 100000 } }, by decide⟩

/-- The hypotheses of `Obligations.AlarmsAndCharger` can be met, clause by clause. -/
theorem witness_AlarmsAndCharger_0 :
  ∃ (n : Fin 2) (s : State), (s.rtc.stopped = false ∧ s.rtc.shift = 0) ∧ (s.rtc.almDue = []) ∧ (s.get (R.RTC.ALM_CTL_EN n) = 1 ∧ s.get (R.RTC.ALM_CTL_MASK n) = 1) ∧ (s.get (R.RTC.ALM_SEC n) = (s.rtc.count / 32768 + 1) % 60) ∧ (s.rtc.count / 32768 < 8583494399) :=
  ⟨1, { demo.setAll [(R.RTC.ALM_CTL_EN 1, 1), (R.RTC.ALM_CTL_MASK 1, 1), (R.RTC.ALM_SEC 1, 4), (R.RTC.ALM_CTL_ONESHOT 1, 1)] with rtc := { demo.rtc with stopped := false, shift := 0, count := 100000, almDue := [] } }, by decide⟩
theorem witness_AlarmsAndCharger_1 :
  ∃ (who : Requester) (n : Fin 2) (w : Word) (s : State), (Writes s who 0x28 (0x58 + 12 * n)) ∧ (s.get (R.RTC.ALM_CTL_EN n) = 0) ∧ ((R.RTC.ALM_CTL_EN n).of w.toNat = 0 ∨ (R.RTC.ALM_CTL_MASK n).of w.toNat ≠ 0) ∧ (alarmFieldsOk ((R.RTC.ALM_CTL_MASK n).of w.toNat) (s.alarmFields n) = true) :=
  ⟨0, 1, 0x101, demo, by decide⟩
theorem witness_AlarmsAndCharger_2 :
  ∃ (who : Requester) (n : Fin 2) (w : Word) (s : State), (Writes s who 0x28 (0x58 + 12 * n)) ∧ (s.get (R.RTC.ALM_CTL_EN n) ≠ 0 ∧ (R.RTC.ALM_CTL_MASK n).of w.toNat ≠ s.get (R.RTC.ALM_CTL_MASK n)) :=
  ⟨0, 1, 3, demo.set (R.RTC.ALM_CTL_EN 1) 1, by decide⟩
theorem witness_AlarmsAndCharger_3 :
  ∃ (s : State), (s.get R.RTC.STAT_CHG_ST = 1) :=
  ⟨demo.set R.RTC.STAT_CHG_ST 1, by decide⟩
theorem witness_AlarmsAndCharger_4 :
  ∃ (s : State), (s.get R.RTC.STAT_CHG_ST = 2) :=
  ⟨demo.set R.RTC.STAT_CHG_ST 2, by decide⟩
theorem witness_AlarmsAndCharger_5 :
  ∃ (who : Requester) (ilim : BitVec 2) (vend : BitVec 2) (s : State), (Writes s who 0x28 0x4C) ∧ (vend ≠ 3 ∧ ilim ≠ 0) ∧ (s.get R.PWR.SUPPLY_MAINS = 1 ∧ s.get R.PWR.SUPPLY_BROWNOUT = 0 ∧ s.supply.rstnLow = false) :=
  ⟨0, 1, 1, demo, by decide⟩
theorem witness_AlarmsAndCharger_6 :
  ∃ (who : Requester) (s : State), (Writes s who 0x28 0x4C) :=
  ⟨0, demo, by decide⟩

/-- The hypotheses of `Obligations.DmaChannels` can be met, clause by clause. -/
theorem witness_DmaChannels_0 :
  ∃ (who : Requester) (c : Fin 16) (s : State), (Works s who (0x2A + c / 8) (0x48 + 0x10 * (c % 8))) ∧ (s.get (R.HDR.BLK 0x2A) ≠ 1) ∧ (s.domOn 1 ∧ s.domOn 2 ∧ s.domOn 3 ∧ s.domOn 4) ∧ (s.get (R.DMA.STAT_ST c) = 0) ∧ ((s.sram (16 * s.get (R.DMA.RING_BASE c) + 16 * s.get (R.DMA.STAT_IDX c) + 12)).toNat % 2 = 0) :=
  ⟨0, 3, demo.set (R.DMA.STAT_ST 3) 0, by decide⟩
theorem witness_DmaChannels_1 :
  ∃ (who : Requester) (c : Fin 16) (s : State), (Works s who (0x2A + c / 8) (0x48 + 0x10 * (c % 8))) ∧ (s.get (R.HDR.BLK 0x2A) ≠ 1) ∧ (s.domOn 1 ∧ s.domOn 2 ∧ s.domOn 3 ∧ s.domOn 4) ∧ (s.get (R.DMA.STAT_ST c) = 1) ∧ ((s.sram (16 * s.get (R.DMA.RING_BASE c) + 16 * s.get (R.DMA.STAT_IDX c) + 12)).toNat % 2 = 0) :=
  ⟨0, 3, demo.set (R.DMA.STAT_ST 3) 1, by decide⟩
theorem witness_DmaChannels_2 :
  ∃ (who : Requester) (c : Fin 16) (d : Desc) (s : State), (Works s who (0x2A + c / 8) (0x48 + 0x10 * (c % 8))) ∧ (s.get (R.HDR.BLK 0x2A) ≠ 1) ∧ (s.domOn 1 ∧ s.domOn 2 ∧ s.domOn 3 ∧ s.domOn 4) ∧ (s.get (R.DMA.STAT_ST c) = 0) ∧ (d = ⟨s.sramWord (16 * s.get (R.DMA.RING_BASE c) + 16 * s.get (R.DMA.STAT_IDX c)), s.sramWord (16 * s.get (R.DMA.RING_BASE c) + 16 * s.get (R.DMA.STAT_IDX c) + 4), s.sramWord (16 * s.get (R.DMA.RING_BASE c) + 16 * s.get (R.DMA.STAT_IDX c) + 8) % 2 ^ 24, s.sramWord (16 * s.get (R.DMA.RING_BASE c) + 16 * s.get (R.DMA.STAT_IDX c) + 12)⟩) ∧ (d.ctl % 2 = 1 ∧ d.check = 0) ∧ (s.dma.length = 16 ∧ (s.dma.getD c Channel.idle).trig = false) :=
  ⟨0, 3, ⟨0x20000100, 0x20000200, 16, 1141⟩, demoDesc 0, by decide⟩
theorem witness_DmaChannels_3 :
  ∃ (who : Requester) (c : Fin 16) (d : Desc) (s : State), (Works s who (0x2A + c / 8) (0x48 + 0x10 * (c % 8))) ∧ (s.get (R.HDR.BLK 0x2A) ≠ 1) ∧ (s.domOn 1 ∧ s.domOn 2 ∧ s.domOn 3 ∧ s.domOn 4) ∧ (s.get (R.DMA.STAT_ST c) = 1) ∧ (d = ⟨s.sramWord (16 * s.get (R.DMA.RING_BASE c) + 16 * s.get (R.DMA.STAT_IDX c)), s.sramWord (16 * s.get (R.DMA.RING_BASE c) + 16 * s.get (R.DMA.STAT_IDX c) + 4), s.sramWord (16 * s.get (R.DMA.RING_BASE c) + 16 * s.get (R.DMA.STAT_IDX c) + 8) % 2 ^ 24, s.sramWord (16 * s.get (R.DMA.RING_BASE c) + 16 * s.get (R.DMA.STAT_IDX c) + 12)⟩) ∧ (d.ctl % 2 = 1 ∧ d.check = 0) ∧ (s.dma.length = 16 ∧ (s.dma.getD c Channel.idle).trig = false) :=
  ⟨0, 3, ⟨0x20000100, 0x20000200, 16, 1141⟩, demoDesc 1, by decide⟩
theorem witness_DmaChannels_4 :
  ∃ (who : Requester) (c : Fin 16) (s : State), (Works s who (0x2A + c / 8) (0x48 + 0x10 * (c % 8))) ∧ (s.get (R.HDR.BLK 0x2A) ≠ 1) ∧ (s.domOn 1 ∧ s.domOn 2 ∧ s.domOn 3 ∧ s.domOn 4) ∧ (s.get (R.DMA.STAT_ST c) = 0) ∧ (s.sramWord (16 * s.get (R.DMA.RING_BASE c) + 16 * s.get (R.DMA.STAT_IDX c) + 12) % 2 = 1) ∧ (s.sramWord (16 * s.get (R.DMA.RING_BASE c) + 16 * s.get (R.DMA.STAT_IDX c) + 8) % 2 ^ 24 = 0) :=
  ⟨0, 3, { demo.set (R.DMA.RING_BASE 3) 0x2000000 with mem := [(0x2000000C, 1)] }, by decide⟩
theorem witness_DmaChannels_5 :
  ∃ (c : Fin 12) (s : State), (s.alive ∧ s.domOn 0) ∧ (s.get (R.DMA.STAT_ST c) = 2 ∧ s.get (R.HDR.BLK 0x2A) ≠ 1) ∧ ((s.dma.getD c Channel.idle).trig = false) :=
  ⟨3, demo.set (R.DMA.STAT_ST 3) 2, by decide⟩
theorem witness_DmaChannels_6 :
  ∃ (c : Fin 12) (s : State), (s.alive ∧ s.domOn 0) ∧ (s.dma.length = 16 ∧ (s.dma.getD c Channel.idle).trig = true) :=
  ⟨3, { demo with dma := List.replicate 16 { Channel.idle with trig := true } }, by decide⟩
theorem witness_DmaChannels_7 :
  ∃ (c : Fin 16) (d : Desc) (s : State), (s.alive ∧ s.domOn 0 ∧ s.get (R.HDR.BLK 0x2A) ≠ 1) ∧ (s.get (R.DMA.STAT_ST c) = 3 ∧ s.dma.length = 16) ∧ ((s.dma.getD c Channel.idle).desc = some d ∧ (s.dma.getD c Channel.idle).done = 0 ∧ (s.dma.getD c Channel.idle).refSeen = false) ∧ (d.len = 16 ∧ d.ctl = 1141) ∧ (0x20000000 ≤ d.src ∧ d.src + 16 ≤ 0x20200000 ∧ 0x20000000 ≤ d.dst ∧ d.dst + 16 ≤ 0x20200000) ∧ (s.get (R.PWR.DOMSTAT 1) = 2 ∧ s.get (R.PWR.DOMSTAT 2) = 2 ∧ s.get (R.PWR.DOMSTAT 3) = 2 ∧ s.get (R.PWR.DOMSTAT 4) = 2) ∧ (s.get (R.DMA.CFG_OWNER c) < 10) :=
  ⟨3, ⟨0x20000100, 0x20000200, 16, 1141⟩, demoCopy, by decide⟩
theorem witness_DmaChannels_8 :
  ∃ (who : Requester) (c : Fin 16) (s : State), (Works s who (0x2A + c / 8) (0x48 + 0x10 * (c % 8))) ∧ (s.get (R.DMA.STAT_ST c) ≠ 3 ∧ s.get (R.DMA.STAT_ST c) ≠ 0) :=
  ⟨0, 3, demo.set (R.DMA.STAT_ST 3) 1, by decide⟩
theorem witness_DmaChannels_9 :
  ∃ (a : Word) (s : State), (s.alive = true ∧ (s.dmaActive 3).isSome = true) ∧ (inSram a.toNat = false ∧ inShale a.toNat = false) :=
  ⟨0x10, demoCopy, by decide⟩
theorem witness_DmaChannels_10 :
  ∃ (s : State), (Works s 0 0x2A 0x24) ∧ (s.get (R.HDR.BLK 0x2A) = 1) :=
  ⟨demo.set (R.HDR.BLK 0x2A) 1, by decide⟩
theorem witness_DmaChannels_11 :
  ∃ (who : Requester) (c : Fin 16) (s : State), (Works s who (0x2A + c / 8) (0x48 + 0x10 * (c % 8))) ∧ (s.get (R.HDR.BLK 0x2A) = 1) :=
  ⟨0, 3, demo.set (R.HDR.BLK 0x2A) 1, by decide⟩
theorem witness_DmaChannels_12 :
  ∃ (who : Requester) (c : Fin 16) (s : State), (Works s who (0x2A + c / 8) (0x48 + 0x10 * (c % 8))) ∧ (s.get (R.HDR.BLK 0x2A) = 1) :=
  ⟨0, 3, demo.set (R.HDR.BLK 0x2A) 1, by decide⟩

/-- The hypotheses of `Obligations.FlashCalls` can be met, clause by clause. -/
theorem witness_FlashCalls_0 :
  ∃ (e8 : Bool) (c : RomCall) (i : Nat) (s : State), (c.flags.toNat < 4 ∧ c.rsv = 0 ∧ 1 ≤ c.len.toNat ∧ c.len.toNat ≤ 4096) ∧ (c.buf.toNat + c.len.toNat ≤ 0x8000) ∧ (c.addr.toNat + c.len.toNat ≤ 0x08000000) ∧ (s.flash.inErase c.addr.toNat c.len.toNat = false) ∧ (i < c.len.toNat) ∧ ((s.eng (caller e8)).p.p0.toNat + 16 ≤ c.buf.toNat) :=
  ⟨true, ⟨1, 16, 0x100000, 0x200, 0⟩, 3, { demo with flash := { demo.flash with cells := [(0x100003, 0x55)] } }, by decide⟩
theorem witness_FlashCalls_1 :
  ∃ (e8 : Bool) (c : RomCall) (s : State), (c.flags.toNat < 4 ∧ c.rsv = 0 ∧ 1 ≤ c.len.toNat ∧ c.len.toNat ≤ 4096) ∧ (c.buf.toNat + c.len.toNat ≤ 0x8000) ∧ (c.addr.toNat % 4096 + c.len.toNat ≤ 4096 ∧ c.addr.toNat < 0x07980000 ∧ 0x80000 ≤ c.addr.toNat) ∧ (s.mayWrite (caller e8) c.addr.toNat = true) ∧ (s.flash.inErase c.addr.toNat c.len.toNat = false) ∧ (s.flash.needsErase c.addr.toNat (s.ownBytes (caller e8) c.buf.toNat c.len.toNat) = false) :=
  ⟨true, ⟨0, 16, 0x01480000, 0x200, 0⟩, { demo with flash := { demo.flash with cells := [] } }, by decide⟩
theorem witness_FlashCalls_2 :
  ∃ (e8 : Bool) (c : RomCall) (s : State), (c.flags.toNat < 4 ∧ c.rsv = 0 ∧ 1 ≤ c.len.toNat ∧ c.len.toNat ≤ 4096) ∧ (c.buf.toNat + c.len.toNat ≤ 0x8000) ∧ (c.addr.toNat % 4096 + c.len.toNat ≤ 4096 ∧ c.addr.toNat < 0x08000000) ∧ (s.mayWrite (caller e8) c.addr.toNat = false) :=
  ⟨true, ⟨0, 16, 0x00080000, 0x200, 0⟩, demo, by decide⟩
theorem witness_FlashCalls_3 :
  ∃ (e8 : Bool) (c : RomCall) (n : Nat) (s : State), (c.flags = 0 ∧ c.rsv = 0 ∧ c.len = 0) ∧ (c.addr.toNat % 4096 = 0 ∧ c.addr.toNat < 0x07980000 ∧ 0x80000 ≤ c.addr.toNat) ∧ (s.mayWrite (caller e8) c.addr.toNat = true ∧ s.mayWrite (caller e8) (c.addr.toNat + 4096 - 1) = true) ∧ (s.flash.erase = none) ∧ (n ≤ Config.nomErase.toNat ∧ n ≤ Config.nomBlock.toNat ∧ n < 256) :=
  ⟨true, ⟨0, 0, 0x01480000, 0, 0⟩, 0, demo, by decide⟩
theorem witness_FlashCalls_4 :
  ∃ (e8 : Bool) (c : RomCall) (n : Nat) (s : State), (c.flags = 0 ∧ c.rsv = 0 ∧ c.len = 0) ∧ (c.addr.toNat % 65536 = 0 ∧ c.addr.toNat < 0x07980000 ∧ 0x80000 ≤ c.addr.toNat) ∧ (s.mayWrite (caller e8) c.addr.toNat = true ∧ s.mayWrite (caller e8) (c.addr.toNat + 65536 - 1) = true) ∧ (s.flash.erase = none) ∧ (n ≤ Config.nomErase.toNat ∧ n ≤ Config.nomBlock.toNat ∧ n < 256) :=
  ⟨true, ⟨0, 0, 0x01480000, 0, 0⟩, 0, demo, by decide⟩
theorem witness_FlashCalls_5 :
  ∃ (e8 : Bool) (c : RomCall) (s : State), (c.flags = 2 ∧ c.rsv = 0 ∧ c.len = 0) ∧ (c.addr.toNat % 4096 = 0 ∧ c.addr.toNat < 0x07980000) ∧ (s.mayWrite (caller e8) c.addr.toNat = true ∧ s.mayWrite (caller e8) (c.addr.toNat + 4096 - 1) = true) ∧ (s.flash.erase = none) :=
  ⟨true, ⟨2, 0, 0x01480000, 0, 0⟩, demo, by decide⟩
theorem witness_FlashCalls_6 :
  ∃ (e8 : Bool) (c : RomCall) (s : State), (c.flags = 2 ∧ c.rsv = 0 ∧ c.len = 0) ∧ (c.addr.toNat % 65536 = 0 ∧ c.addr.toNat < 0x07980000) ∧ (s.mayWrite (caller e8) c.addr.toNat = true ∧ s.mayWrite (caller e8) (c.addr.toNat + 65536 - 1) = true) ∧ (s.flash.erase = none) :=
  ⟨true, ⟨2, 0, 0x01480000, 0, 0⟩, demo, by decide⟩
theorem witness_FlashCalls_7 :
  ∃ (e : Erase) (n : Nat) (s : State), (s.flash.erase = some e ∧ e.suspended = false) ∧ (n ≤ Config.nomErase.toNat ∧ n ≤ Config.nomBlock.toNat) :=
  ⟨⟨0x01480000, false, 7, false, false, 8⟩, 0, { demo with flash := { demo.flash with erase := some ⟨0x01480000, false, 7, false, false, 8⟩, cells := [(0x01480010, 1)] } }, by decide⟩
theorem witness_FlashCalls_8 :
  ∃ (c : RomCall), (c.flags.toNat < 4 ∧ c.rsv = 0 ∧ c.len = 0) :=
  ⟨⟨0, 0, 0, 0, 0⟩, by decide⟩
theorem witness_FlashCalls_9 :
  ∃ (c : RomCall) (e : Erase) (s : State), (c.flags.toNat < 4 ∧ c.rsv = 0 ∧ c.len = 0) ∧ (s.flash.erase = some e ∧ e.suspended = false) :=
  ⟨⟨0, 0, 0, 0, 0⟩, ⟨0x01480000, false, 7, false, false, 8⟩, { demo with flash := { demo.flash with erase := some ⟨0x01480000, false, 7, false, false, 8⟩ } }, by decide⟩
theorem witness_FlashCalls_10 :
  ∃ (c : RomCall) (e : Erase) (s : State), (c.flags.toNat < 4 ∧ c.rsv = 0 ∧ c.len = 0) ∧ (s.flash.erase = some e ∧ e.suspended = false) :=
  ⟨⟨0, 0, 0, 0, 0⟩, ⟨0x01480000, false, 7, false, false, 8⟩, { demo with flash := { demo.flash with erase := some ⟨0x01480000, false, 7, false, false, 8⟩ } }, by decide⟩
theorem witness_FlashCalls_11 :
  ∃ (c : RomCall) (e : Erase) (s : State), (c.flags.toNat < 4 ∧ c.rsv = 0 ∧ c.len = 0) ∧ (s.flash.erase = some e ∧ e.suspended = true) :=
  ⟨⟨0, 0, 0, 0, 0⟩, ⟨0x01480000, false, 7, true, true, 8⟩, { demo with flash := { demo.flash with erase := some ⟨0x01480000, false, 7, true, true, 8⟩ } }, by decide⟩
theorem witness_FlashCalls_12 :
  ∃ (c : RomCall) (s : State), (c.flags.toNat < 4 ∧ c.rsv = 0 ∧ c.len = 0) ∧ (s.flash.erase = none) :=
  ⟨⟨0, 0, 0, 0, 0⟩, demo, by decide⟩
theorem witness_FlashCalls_13 :
  ∃ (c : RomCall) (s : State), (c.flags.toNat < 4 ∧ c.rsv = 0 ∧ c.len = 0 ∧ c.addr.toNat ≤ 1) ∧ (s.mode = .maintenance) ∧ (s.flash.selGen < 0x7FFF ∧ s.flash.selHalf = 0 ∧ s.flash.sel0.length < 1024) :=
  ⟨⟨0, 0, 1, 0, 0⟩, { demo with mode := .maintenance }, by decide⟩
theorem witness_FlashCalls_14 :
  ∃ (e8 : Bool) (c : RomCall) (s : State), (c.flags.toNat < 4 ∧ c.rsv = 0 ∧ c.len = 0 ∧ c.addr.toNat ≤ 1) ∧ (s.mode ≠ .maintenance ∨ e8 = true) :=
  ⟨false, ⟨0, 0, 1, 0, 0⟩, demo, by decide⟩
theorem witness_FlashCalls_15 :
  ∃ (e8 : Bool) (c : RomCall) (s : State), (c.flags.toNat < 4 ∧ c.rsv = 0 ∧ c.len = 0 ∧ c.addr.toNat ≤ 1) ∧ (s.mode ≠ .maintenance ∨ e8 = true) :=
  ⟨false, ⟨0, 0, 1, 0, 0⟩, demo, by decide⟩
theorem witness_FlashCalls_16 :
  ∃ (e8 : Bool) (c : RomCall) (s : State), (c.flags.toNat < 4 ∧ c.rsv = 0 ∧ c.len = 0 ∧ c.addr.toNat ≤ 1) ∧ (s.mode ≠ .maintenance ∨ e8 = true) :=
  ⟨false, ⟨0, 0, 1, 0, 0⟩, demo, by decide⟩
theorem witness_FlashCalls_17 :
  ∃ (c : RomCall) (s : State), (c.flags.toNat < 4 ∧ c.rsv = 0 ∧ c.len = 0) ∧ (s.mode = .maintenance) ∧ ((s.eng 0).p.p0.toNat + 16 ≤ 0x8000) :=
  ⟨⟨0, 0, 5, 0, 0⟩, { demo with mode := .maintenance }, by decide⟩
theorem witness_FlashCalls_18 :
  ∃ (c : RomCall) (s : State), (c.flags.toNat < 4 ∧ c.rsv = 0 ∧ c.len = 0) ∧ (s.mode = .maintenance) ∧ (s.flash.openCopy.isSome = true) :=
  ⟨⟨0, 0, 5, 0, 0⟩, { demo with mode := .maintenance, flash := { demo.flash with journal := [⟨5, 3, 0xFF, 0, false⟩] } }, by decide⟩

/-- The hypotheses of `Obligations.CustomerStore` can be met, clause by clause. -/
theorem witness_CustomerStore_0 :
  ∃ (who : Requester) (s : State), (Works s who 0x59 0x20) ∧ (s.get R.STORE.STAT_BUSY = 0) ∧ (inBank3 (s.get R.STORE.BUF_ADDR) (s.get R.STORE.LEN_LEN) = true) ∧ (s.get R.STORE.ADDR_OFFSET + s.get R.STORE.LEN_LEN ≤ 0x4000000) :=
  ⟨0, demo.setAll [(R.STORE.BUF_ADDR, 0x20180000), (R.STORE.LEN_LEN, 16), (R.STORE.SPLIT_E10_START, 2)], by decide⟩
theorem witness_CustomerStore_1 :
  ∃ (who : Requester) (s : State), (Works s who 0x59 0x20) ∧ (s.get R.STORE.STAT_BUSY = 0) ∧ (inBank3 (s.get R.STORE.BUF_ADDR) (s.get R.STORE.LEN_LEN) = true) ∧ (s.get R.STORE.ADDR_OFFSET + s.get R.STORE.LEN_LEN ≤ 65536 * s.get R.STORE.SPLIT_E10_START) :=
  ⟨0, demo.setAll [(R.STORE.BUF_ADDR, 0x20180000), (R.STORE.LEN_LEN, 16), (R.STORE.SPLIT_E10_START, 2)], by decide⟩
theorem witness_CustomerStore_2 :
  ∃ (who : Requester) (s : State), (Works s who 0x59 0x20) ∧ (s.get R.STORE.STAT_BUSY = 0) ∧ (inBank3 (s.get R.STORE.BUF_ADDR) (s.get R.STORE.LEN_LEN) = true) ∧ (s.get R.STORE.ADDR_OFFSET + 4096 ≤ 65536 * s.get R.STORE.SPLIT_E10_START) :=
  ⟨0, demo.setAll [(R.STORE.BUF_ADDR, 0x20180000), (R.STORE.LEN_LEN, 16), (R.STORE.SPLIT_E10_START, 2)], by decide⟩
theorem witness_CustomerStore_3 :
  ∃ (who : Requester) (s : State), (Works s who 0x59 0x20) ∧ (s.get R.STORE.STAT_BUSY = 0) ∧ (inBank3 (s.get R.STORE.BUF_ADDR) (s.get R.STORE.LEN_LEN) = true) ∧ (s.get R.STORE.ADDR_OFFSET + 65536 ≤ 65536 * s.get R.STORE.SPLIT_E10_START) :=
  ⟨0, demo.setAll [(R.STORE.BUF_ADDR, 0x20180000), (R.STORE.LEN_LEN, 16), (R.STORE.SPLIT_E10_START, 2)], by decide⟩
theorem witness_CustomerStore_4 :
  ∃ (who : Requester) (s : State), (Works s who 0x59 0x20) ∧ (s.get R.STORE.STAT_BUSY ≠ 0) :=
  ⟨0, demo.set R.STORE.STAT_BUSY 1, by decide⟩
theorem witness_CustomerStore_5 :
  ∃ (who : Requester) (s : State), (Works s who 0x59 0x20) ∧ (s.get R.STORE.STAT_BUSY ≠ 0) :=
  ⟨0, demo.set R.STORE.STAT_BUSY 1, by decide⟩
theorem witness_CustomerStore_6 :
  ∃ (who : Requester) (s : State), (Works s who 0x59 0x20) ∧ (s.get R.STORE.STAT_BUSY ≠ 0) :=
  ⟨0, demo.set R.STORE.STAT_BUSY 1, by decide⟩
theorem witness_CustomerStore_7 :
  ∃ (who : Requester) (s : State), (Works s who 0x59 0x20) ∧ (s.get R.STORE.STAT_BUSY = 0) ∧ (inBank3 (s.get R.STORE.BUF_ADDR) (s.get R.STORE.LEN_LEN) = true) ∧ (65536 * s.get R.STORE.SPLIT_E10_START ≤ s.get R.STORE.ADDR_OFFSET ∧ 1 ≤ s.get R.STORE.LEN_LEN) :=
  ⟨0, demo.setAll [(R.STORE.BUF_ADDR, 0x20180000), (R.STORE.LEN_LEN, 16)], by decide⟩
theorem witness_CustomerStore_8 :
  ∃ (who : Requester) (s : State), (Works s who 0x59 0x20) ∧ (s.get R.STORE.STAT_BUSY = 0) ∧ (inBank3 (s.get R.STORE.BUF_ADDR) (s.get R.STORE.LEN_LEN) = true) ∧ (65536 * s.get R.STORE.SPLIT_E10_START ≤ s.get R.STORE.ADDR_OFFSET ∧ 1 ≤ s.get R.STORE.LEN_LEN) :=
  ⟨0, demo.setAll [(R.STORE.BUF_ADDR, 0x20180000), (R.STORE.LEN_LEN, 16)], by decide⟩
theorem witness_CustomerStore_9 :
  ∃ (q : StoreReq) (l : List StoreReq) (s : State), (s.flash.reqs = q :: l) ∧ (q.who = 12 ∧ q.op = 1 ∧ 1 ≤ q.len ∧ q.len ≤ 4096) ∧ (s.flash.inErase (0x03980000 + q.off) q.len = false) :=
  ⟨⟨12, 1, false, 0x100, 16, 0x20180000, 0⟩, [], { demo with flash := { demo.flash with reqs := [⟨12, 1, false, 0x100, 16, 0x20180000, 0⟩], cells := [(0x03980100, 0x12)] } }, by decide⟩
theorem witness_CustomerStore_10 :
  ∃ (e11 : Bool) (off : Word) (len : BitVec 13) (buf : Word) (s : State), (1 = 3 ∨ inBank3 buf.toNat len.toNat = true) ∧ (True) ∧ (off.toNat + len.toNat ≤ (if 1 = 1 then 0x4000000 else (s.storeRegion (customerEngine e11)).2)) :=
  ⟨true, 0x10000, 16, 0x20180000, demo.setAll [(R.STORE.SPLIT_E10_START, 1), (R.STORE.SPLIT_E11_START, 1)], by decide⟩
theorem witness_CustomerStore_11 :
  ∃ (e11 : Bool) (off : Word) (len : BitVec 13) (buf : Word) (s : State), (2 = 3 ∨ inBank3 buf.toNat len.toNat = true) ∧ ((s.storeRegion (customerEngine e11)).1 ≤ off.toNat) ∧ (off.toNat + len.toNat ≤ (if 2 = 1 then 0x4000000 else (s.storeRegion (customerEngine e11)).2)) :=
  ⟨true, 0x10000, 16, 0x20180000, demo.setAll [(R.STORE.SPLIT_E10_START, 1), (R.STORE.SPLIT_E11_START, 1)], by decide⟩
theorem witness_CustomerStore_12 :
  ∃ (e11 : Bool) (off : Word) (len : BitVec 13) (s : State), (3 = 3 ∨ inBank3 0 len.toNat = true) ∧ ((s.storeRegion (customerEngine e11)).1 ≤ off.toNat) ∧ (off.toNat + 65536 ≤ (if 3 = 1 then 0x4000000 else (s.storeRegion (customerEngine e11)).2)) :=
  ⟨true, 0x10000, 0, demo.setAll [(R.STORE.SPLIT_E10_START, 1), (R.STORE.SPLIT_E11_START, 1)], by decide⟩
theorem witness_CustomerStore_13 :
  ∃ (e11 : Bool) (off : Word) (s : State), (off.toNat < (s.storeRegion (customerEngine e11)).1) :=
  ⟨false, 0, demo.setAll [(R.STORE.SPLIT_E10_START, 1), (R.STORE.SPLIT_E11_START, 1)], by decide⟩

/-- The hypotheses of `Obligations.CipherHashAndRandom` can be met, clause by clause. -/
theorem witness_CipherHashAndRandom_0 :
  ∃ (who : Requester) (s : State), (Works s who 0x50 0x48) ∧ (s.get R.CIPHER.STAT_BUSY = 0) ∧ (s.garnet.slot? (s.get R.CIPHER.KEYSEL_SLOT) = none) :=
  ⟨0, { demo with garnet := { demo.garnet with stagedKey := [(0, 5)] } }, by decide⟩
theorem witness_CipherHashAndRandom_1 :
  ∃ (who : Requester) (s : State), (Works s who 0x50 0x48) ∧ (s.get R.CIPHER.STAT_BUSY = 0) ∧ ((s.garnet.slot? (s.get R.CIPHER.KEYSEL_SLOT)).isSome = true) :=
  ⟨0, { demo with garnet := { demo.garnet with slots := [⟨0, 12, false, zeros 16⟩] } }, by decide⟩
theorem witness_CipherHashAndRandom_2 :
  ∃ (who : Requester) (s : State), (Works s who 0x50 0x48) ∧ (s.get R.CIPHER.STAT_BUSY = 0) :=
  ⟨0, { demo with garnet := { demo.garnet with slots := [⟨0, 12, false, zeros 16⟩] } }, by decide⟩
theorem witness_CipherHashAndRandom_3 :
  ∃ (who : Requester) (n : Fin 8) (s : State), (Works s who 0x50 0x4C) ∧ (s.get R.CIPHER.STAT_BUSY = 0) ∧ ((s.garnet.slot? n).isSome = true) ∧ (s.garnet.healthFail = false) :=
  ⟨0, 2, { demo with garnet := { demo.garnet with slots := [⟨2, 12, false, zeros 16⟩] } }, by decide⟩
theorem witness_CipherHashAndRandom_4 :
  ∃ (who : Requester) (n : Fin 8) (s : State), (Works s who 0x50 0x4C) ∧ (s.get R.CIPHER.STAT_BUSY = 0) ∧ (s.garnet.slot? n = none) :=
  ⟨0, 2, demo, by decide⟩
theorem witness_CipherHashAndRandom_5 :
  ∃ (op : AesOp) (l : List AesOp) (c : CipherSlot) (s : State), (s.garnet.aes = op :: l ∧ op.who = 12) ∧ (s.garnet.slot? op.slot = some c) :=
  ⟨⟨12, 2, false, zeros 16, 0, 0⟩, [], ⟨2, 12, false, zeros 16⟩, { demo with garnet := { demo.garnet with slots := [⟨2, 12, false, zeros 16⟩], aes := [⟨12, 2, false, zeros 16, 0, 0⟩] } }, by decide⟩
theorem witness_CipherHashAndRandom_6 :
  ∃ (op : AesOp) (l : List AesOp) (c : CipherSlot) (s : State), (s.garnet.aes = op :: l ∧ op.who ≠ 12) ∧ (s.garnet.healthFail = false) ∧ (s.garnet.slot? op.slot = some c) :=
  ⟨⟨10, 9, false, zeros 16, 0x20180000, 0⟩, [], ⟨9, 10, false, zeros 16⟩, { demo with garnet := { demo.garnet with slots := [⟨9, 10, false, zeros 16⟩], aes := [⟨10, 9, false, zeros 16, 0x20180000, 0⟩] } }, by decide⟩
theorem witness_CipherHashAndRandom_7 :
  ∃ (e11 : Bool) (slot : Fin 8) (i : Word) (o : Word) (c : CipherSlot) (s : State), (inBank3 i.toNat 16 = true ∧ inBank3 o.toNat 16 = true) ∧ (s.garnet.slot? (8 + slot) = some c ∧ c.owner = customerEngine e11) ∧ (s.garnet.healthFail = false) :=
  ⟨true, 1, 0x20180000, 0x20180010, ⟨9, 11, false, zeros 16⟩, { demo with garnet := { demo.garnet with slots := [⟨9, 11, false, zeros 16⟩] } }, by decide⟩
theorem witness_CipherHashAndRandom_8 :
  ∃ (who : Requester) (s : State), (Works s who 0x51 0x20) :=
  ⟨0, demo, by decide⟩
theorem witness_CipherHashAndRandom_9 :
  ∃ (who : Requester) (m : List Byte) (s : State), (Works s who 0x51 0x28) ∧ (s.garnet.hashCtx = some m ∧ s.get R.HASH.STAT_OPEN = 1) :=
  ⟨0, [], { demo.set R.HASH.STAT_OPEN 1 with garnet := { demo.garnet with hashCtx := some [] } }, by decide⟩
theorem witness_CipherHashAndRandom_10 :
  ∃ (who : Requester) (s : State), (Works s who 0x51 0x28) ∧ (s.get R.HASH.STAT_OPEN = 0) :=
  ⟨0, demo, by decide⟩
theorem witness_CipherHashAndRandom_11 :
  ∃ (who : Requester) (s : State), (Works s who 0x51 0x20) ∧ (s.get R.HASH.STAT_OPEN = 0) :=
  ⟨0, demo, by decide⟩
theorem witness_CipherHashAndRandom_12 :
  ∃ (who : Requester) (s : State), (Works s who 0x51 0x20) ∧ (s.get R.HASH.STAT_DONE = 0) :=
  ⟨0, demo, by decide⟩
theorem witness_CipherHashAndRandom_13 :
  ∃ (who : Requester) (n : BitVec 3) (m : List Byte) (s : State), (Works s who 0x51 0x20) ∧ (s.garnet.hashCtx = some m ∧ s.get R.HASH.STAT_OPEN = 1) ∧ (n.toNat ≤ 4 ∧ (n = 0 ↔ m = [])) :=
  ⟨0, 3, [0x61, 0x62, 0x63, 0], { demo.set R.HASH.STAT_OPEN 1 with garnet := { demo.garnet with hashCtx := some [0x61, 0x62, 0x63, 0] } }, by decide⟩
theorem witness_CipherHashAndRandom_14 :
  ∃ (m : List Byte) (s : State), (s.garnet.hashCtx = some m ∧ s.get R.HASH.STAT_BUSY = 1) :=
  ⟨[0x61, 0x62, 0x63], { demo.set R.HASH.STAT_BUSY 1 with garnet := { demo.garnet with hashCtx := some [0x61, 0x62, 0x63] } }, by decide⟩
theorem witness_CipherHashAndRandom_15 :
  ∃ (who : Requester) (s : State), (Works s who 0x51 0x20) ∧ (s.get R.HASH.STAT_DONE = 1) ∧ (s.garnet.mslots.length = 8) :=
  ⟨0, demo.set R.HASH.STAT_DONE 1, by decide⟩
theorem witness_CipherHashAndRandom_16 :
  ∃ (b : Word) (l : Word) (d : Word), (l.toNat ≤ 65536 ∧ inBank3 b.toNat l.toNat = true ∧ inBank3 d.toNat 48 = true) :=
  ⟨0x20180000, 3, 0x20181000, by decide⟩
theorem witness_CipherHashAndRandom_17 :
  ∃ (a : Word) (s : State), (inBank3 a.toNat 48 = true) ∧ (s.garnet.mslots.length = 8) :=
  ⟨0x20180000, demo, by decide⟩
theorem witness_CipherHashAndRandom_18 :
  ∃ (e11 : Bool) (b : Word) (s : State), (b.toNat < 0x20000000) ∧ ((s.eng (customerEngine e11)).image = true ∧ (s.eng (customerEngine e11)).mailbox = []) :=
  ⟨false, 0, demo, by decide⟩
theorem witness_CipherHashAndRandom_19 :
  ∃ (e11 : Bool) (b : Word) (s : State), (b.toNat < 0x20000000) ∧ ((s.eng (customerEngine e11)).image = true ∧ (s.eng (customerEngine e11)).mailbox = []) :=
  ⟨false, 0, demo, by decide⟩
theorem witness_CipherHashAndRandom_20 :
  ∃ (e11 : Bool) (b : Word) (s : State), (b.toNat < 0x20000000) ∧ ((s.eng (customerEngine e11)).image = true ∧ (s.eng (customerEngine e11)).mailbox = []) :=
  ⟨false, 0, demo, by decide⟩
theorem witness_CipherHashAndRandom_21 :
  ∃ (s : State), (s.get (R.PWR.DOMSTAT 23) = 2) ∧ (s.get R.STRATA.STAT_BUSY = 0) :=
  ⟨demo, by decide⟩

/-- The hypotheses of `Obligations.PublicKeyAndDebug` can be met, clause by clause. -/
theorem witness_PublicKeyAndDebug_0 :
  ∃ (who : Requester) (s : State), (Works s who 0x52 0x20) ∧ (s.get R.PKE.STAT_BUSY = 0) ∧ (inBank3 (16 * s.get R.PKE.PARAM_ADDR) 1 = true) ∧ (s.garnet.healthFail = false) ∧ ((s.sram (16 * s.get R.PKE.PARAM_ADDR)).toNat ≤ 1) :=
  ⟨0, demo.set R.PKE.PARAM_ADDR 0x2018000, by decide⟩
theorem witness_PublicKeyAndDebug_1 :
  ∃ (who : Requester) (s : State), (Works s who 0x52 0x20) ∧ (s.get R.PKE.STAT_BUSY = 0) ∧ (inBank3 (16 * s.get R.PKE.PARAM_ADDR) 1 = true) ∧ (s.garnet.healthFail = false) ∧ ((s.sram (16 * s.get R.PKE.PARAM_ADDR)).toNat ≤ 1) :=
  ⟨0, demo.set R.PKE.PARAM_ADDR 0x2018000, by decide⟩
theorem witness_PublicKeyAndDebug_2 :
  ∃ (who : Requester) (s : State), (Works s who 0x52 0x20) ∧ (s.get R.PKE.STAT_BUSY = 0) ∧ (inBank3 (16 * s.get R.PKE.PARAM_ADDR) 1 = true) ∧ (s.garnet.healthFail = false) ∧ ((s.sram (16 * s.get R.PKE.PARAM_ADDR)).toNat ≤ 1) :=
  ⟨0, demo.set R.PKE.PARAM_ADDR 0x2018000, by decide⟩
theorem witness_PublicKeyAndDebug_3 :
  ∃ (who : Requester) (s : State), (Works s who 0x52 0x20) ∧ (s.get R.PKE.STAT_BUSY = 0) ∧ (inBank3 (16 * s.get R.PKE.PARAM_ADDR) 1 = true) ∧ (s.garnet.healthFail = false) ∧ ((s.sram (16 * s.get R.PKE.PARAM_ADDR)).toNat ≤ 1) :=
  ⟨0, demo.set R.PKE.PARAM_ADDR 0x2018000, by decide⟩
theorem witness_PublicKeyAndDebug_4 :
  ∃ (who : Requester) (s : State), (Works s who 0x52 0x20) ∧ (s.get R.PKE.STAT_BUSY = 0) ∧ (inBank3 (16 * s.get R.PKE.PARAM_ADDR) 1 = true) ∧ (s.garnet.healthFail = false) ∧ ((s.sram (16 * s.get R.PKE.PARAM_ADDR)).toNat ≤ 1) :=
  ⟨0, demo.set R.PKE.PARAM_ADDR 0x2018000, by decide⟩
theorem witness_PublicKeyAndDebug_5 :
  ∃ (who : Requester) (s : State), (Works s who 0x52 0x20) ∧ (s.get R.PKE.STAT_BUSY = 0) ∧ (inBank3 (16 * s.get R.PKE.PARAM_ADDR) 1 = true) ∧ (s.garnet.healthFail = false ∧ s.garnet.pke = []) ∧ (8 ≤ (s.sram (16 * s.get R.PKE.PARAM_ADDR)).toNat ∧ (s.sram (16 * s.get R.PKE.PARAM_ADDR)).toNat ≤ 32) ∧ (s.sram (16 * s.get R.PKE.PARAM_ADDR + 1) ≠ 0) :=
  ⟨0, { demo.set R.PKE.PARAM_ADDR 0x2018000 with mem := [(0x20180000, 8), (0x20180001, 1)] }, by decide⟩
theorem witness_PublicKeyAndDebug_6 :
  ∃ (who : Requester) (c : List Byte) (s : State), (Works s who 0x52 0x20) ∧ (s.get R.PKE.STAT_BUSY = 0) ∧ (inBank3 (16 * s.get R.PKE.PARAM_ADDR) 1 = true) ∧ (s.garnet.challenge = some c) :=
  ⟨0, [1], { demo.set R.PKE.PARAM_ADDR 0x2018000 with garnet := { demo.garnet with challenge := some [1] } }, by decide⟩
theorem witness_PublicKeyAndDebug_7 :
  ∃ (who : Requester) (s : State), (Works s who 0x52 0x20) ∧ (s.get R.PKE.STAT_BUSY = 0) ∧ (inBank3 (16 * s.get R.PKE.PARAM_ADDR) 1 = true) ∧ (s.garnet.challenge = none) :=
  ⟨0, demo.set R.PKE.PARAM_ADDR 0x2018000, by decide⟩
theorem witness_PublicKeyAndDebug_8 :
  ∃ (who : Requester) (s : State), (Works s who 0x52 0x20) ∧ (s.get R.PKE.STAT_BUSY = 0) ∧ (inBank3 (16 * s.get R.PKE.PARAM_ADDR) 1 = true) ∧ ((s.sram (16 * s.get R.PKE.PARAM_ADDR)).toNat = 1 ∧ s.garnet.ck1 = none) :=
  ⟨0, { demo.set R.PKE.PARAM_ADDR 0x2018000 with mem := [(0x20180000, 1)] }, by decide⟩
theorem witness_PublicKeyAndDebug_9 :
  ∃ (who : Requester) (s : State), (Works s who 0x52 0x20) ∧ (s.get R.PKE.STAT_BUSY = 0) ∧ (inBank3 (16 * s.get R.PKE.PARAM_ADDR) 1 = true) ∧ (s.garnet.ck1.isSome = true) :=
  ⟨0, { demo.set R.PKE.PARAM_ADDR 0x2018000 with garnet := { demo.garnet with ck1 := some [1] } }, by decide⟩
theorem witness_PublicKeyAndDebug_10 :
  ∃ (who : Requester) (key : Half) (s : State), (Works s who 0x52 0x20) ∧ (s.get R.PKE.STAT_BUSY = 0) ∧ (key ≠ 0xA55A) :=
  ⟨0, 0, demo, by decide⟩
theorem witness_PublicKeyAndDebug_11 :
  ∃ (who : Requester) (key : Half) (s : State), (Works s who 0x52 0x20) ∧ (s.get R.PKE.STAT_BUSY = 0) ∧ (key ≠ 0xA55A) :=
  ⟨0, 0, demo, by decide⟩
theorem witness_PublicKeyAndDebug_12 :
  ∃ (a : Word) (s : State), (inBank3 a.toNat 240 = true) ∧ (s.garnet.pke ≠ []) :=
  ⟨0x20180000, { demo with garnet := { demo.garnet with pke := [⟨12, 5, 0x20180000, 0, [], none⟩] } }, by decide⟩
theorem witness_PublicKeyAndDebug_13 :
  ∃ (op : PkeOp) (s : State), (s.garnet.pke = [op] ∧ op.who = 12 ∧ op.quote = none) ∧ (op.op = 1 ∧ keyOk (s.sramList (op.param + 48) 96) = true) :=
  ⟨⟨12, 1, 0x20180000, 0, [], none⟩, demoVerify, ⟨rfl, rfl, rfl⟩, rfl, demoVerify_key⟩
theorem witness_PublicKeyAndDebug_14 :
  ∃ (op : PkeOp) (s : State), (s.garnet.pke = [op] ∧ op.who = 12 ∧ op.quote = none ∧ op.op = 2) :=
  ⟨⟨12, 2, 0x20180000, 0, [], none⟩, { demo with garnet := { demo.garnet with pke := [⟨12, 2, 0x20180000, 0, [], none⟩] } }, by decide⟩
theorem witness_PublicKeyAndDebug_15 :
  ∃ (op : PkeOp) (s : State), (s.garnet.pke = [op] ∧ op.who = 12 ∧ op.quote = none ∧ op.op = 4) :=
  ⟨⟨12, 4, 0x20180000, 0, [], none⟩, { demo with garnet := { demo.garnet with pke := [⟨12, 4, 0x20180000, 0, [], none⟩] } }, by decide⟩
theorem witness_PublicKeyAndDebug_16 :
  ∃ (op : PkeOp) (s : State), (s.garnet.pke = [op] ∧ op.who = 12 ∧ op.quote = none) ∧ (op.op = 5 ∨ op.op = 6) :=
  ⟨⟨12, 6, 0x20180000, 0, [], none⟩, { demo with garnet := { demo.garnet with pke := [⟨12, 6, 0x20180000, 0, [], none⟩] } }, by decide⟩
theorem witness_PublicKeyAndDebug_17 :
  ∃ (op : PkeOp) (s : State), (s.garnet.pke = [op] ∧ op.who = 12 ∧ op.quote = none) ∧ (op.op = 8 ∨ op.op = 9) :=
  ⟨⟨12, 9, 0x20180000, 0, [], none⟩, { demo with garnet := { demo.garnet with pke := [⟨12, 9, 0x20180000, 0, [], none⟩] } }, by decide⟩
theorem witness_PublicKeyAndDebug_18 :
  ∃ (op : PkeOp) (c : List Byte) (s : State), (s.garnet.pke = [op] ∧ op.who = 12 ∧ op.quote = none ∧ op.op = 7) ∧ (s.garnet.challenge = some c) :=
  ⟨⟨12, 7, 0x20180000, 0, [], none⟩, [1], { demo with garnet := { demo.garnet with pke := [⟨12, 7, 0x20180000, 0, [], none⟩], challenge := some [1] } }, by decide⟩
theorem witness_PublicKeyAndDebug_19 :
  ∃ (s : State), (s.get R.PKE.STAT_DBG = 1) ∧ (s.garnet.debugEnd ≤ s.get R.SYS.OPSEC_SEC) :=
  ⟨demo.set R.PKE.STAT_DBG 1, by decide⟩
theorem witness_PublicKeyAndDebug_20 :
  ∃ (o : Offer) (m : Mail) (l : List Mail) (s : State), (s.engines.e7.mailbox = m :: l ∧ m.src = 6 ∧ m.type = 0x83) ∧ (s.msg.offers.find? (fun o => Nat.beq o.who 7 && !Nat.beq o.ends 0) = some o) ∧ (o.kind = 1 ∧ quoteOk o = true) ∧ (s.garnet.healthFail = false ∧ s.garnet.pke ≠ []) :=
  ⟨⟨7, 5, 3, 2, 1, 1, 3, [8, 1, 0, 0, 0, 0, 0, 0, 0, 0], 1, false⟩, Mail.mk4 6 0x83 0 0 0 0 0, [], { demo with garnet := { demo.garnet with pke := [⟨12, 5, 0x20180000, 0, [], none⟩] }, engines := { demo.engines with e7 := { demo.engines.e7 with mailbox := [Mail.mk4 6 0x83 0 0 0 0 0] } }, msg := { demo.msg with offers := [⟨7, 5, 3, 2, 1, 1, 3, [8, 1, 0, 0, 0, 0, 0, 0, 0, 0], 1, false⟩] } }, by decide⟩

/-- The hypotheses of `Obligations.FirmwareUpdate` can be met, clause by clause. -/
theorem witness_FirmwareUpdate_0 :
  ∃ (who : Requester) (s : State), (Works s who 0x54 0x20) ∧ (s.get R.UPDATE.STAT_BUSY = 0) ∧ (s.get R.UPDATE.STAT_ST = 0 ∨ s.get R.UPDATE.STAT_ST = 1 ∨ s.get R.UPDATE.STAT_ST = 3 ∨ s.get R.UPDATE.STAT_ST = 6) :=
  ⟨0, demo, by decide⟩
theorem witness_FirmwareUpdate_1 :
  ∃ (who : Requester) (s : State), (Works s who 0x54 0x20) ∧ (s.get R.UPDATE.STAT_BUSY ≠ 0 ∨ s.get R.UPDATE.STAT_ST = 5) :=
  ⟨0, demo.set R.UPDATE.STAT_ST 5, by decide⟩
theorem witness_FirmwareUpdate_2 :
  ∃ (who : Requester) (s : State), (Works s who 0x54 0x20) ∧ (s.get R.UPDATE.STAT_BUSY ≠ 0 ∨ s.get R.UPDATE.STAT_ST = 5) :=
  ⟨0, demo.set R.UPDATE.STAT_ST 5, by decide⟩
theorem witness_FirmwareUpdate_3 :
  ∃ (who : Requester) (s : State), (Works s who 0x54 0x20) ∧ (s.get R.UPDATE.STAT_BUSY ≠ 0 ∨ s.get R.UPDATE.STAT_ST = 5) :=
  ⟨0, demo.set R.UPDATE.STAT_ST 5, by decide⟩
theorem witness_FirmwareUpdate_4 :
  ∃ (who : Requester) (s : State), (Works s who 0x54 0x20) ∧ (s.get R.UPDATE.STAT_BUSY ≠ 0 ∨ s.get R.UPDATE.STAT_ST = 5) :=
  ⟨0, demo.set R.UPDATE.STAT_ST 5, by decide⟩
theorem witness_FirmwareUpdate_5 :
  ∃ (who : Requester) (s : State), (Works s who 0x54 0x20) ∧ (s.get R.UPDATE.STAT_BUSY ≠ 0 ∨ s.get R.UPDATE.STAT_ST = 5) :=
  ⟨0, demo.set R.UPDATE.STAT_ST 5, by decide⟩
theorem witness_FirmwareUpdate_6 :
  ∃ (who : Requester) (s : State), (Works s who 0x54 0x20) ∧ (s.get R.UPDATE.STAT_BUSY = 0) ∧ (s.get R.UPDATE.STAT_ST = 1 ∨ s.get R.UPDATE.STAT_ST = 3 ∨ s.get R.UPDATE.STAT_ST = 6) ∧ (s.get R.UPDATE.OFFSET_OFFSET % 4096 = 0 ∧ s.get R.UPDATE.OFFSET_OFFSET ≤ 0x7EF000) ∧ (inBank3 (s.get R.UPDATE.BUF_ADDR) 4096 = true) :=
  ⟨0, demo.setAll [(R.UPDATE.STAT_ST, 1), (R.UPDATE.BUF_ADDR, 0x20180000)], by decide⟩
theorem witness_FirmwareUpdate_7 :
  ∃ (o : Nat) (l : List Byte) (s : State), (s.update.writing = some (o, l)) :=
  ⟨4096, [1, 2, 3], { demo with update := { demo.update with writing := some (4096, [1, 2, 3]) } }, by decide⟩
theorem witness_FirmwareUpdate_8 :
  ∃ (who : Requester) (s : State), (Works s who 0x54 0x20) ∧ (s.get R.UPDATE.STAT_BUSY = 0) ∧ (s.get R.UPDATE.STAT_ST = 1 ∨ s.get R.UPDATE.STAT_ST = 6) :=
  ⟨0, demo.set R.UPDATE.STAT_ST 1, by decide⟩
theorem witness_FirmwareUpdate_9 :
  ∃ (s : State), (s.get R.UPDATE.STAT_ST = 2) :=
  ⟨demo.set R.UPDATE.STAT_ST 2, by decide⟩
theorem witness_FirmwareUpdate_10 :
  ∃ (who : Requester) (s : State), (Works s who 0x54 0x20) ∧ (s.get R.UPDATE.STAT_BUSY = 0 ∧ s.get R.UPDATE.STAT_ST = 3) ∧ (s.get R.RTC.STAT_OSF = 0) ∧ (s.mode ≠ .maintenance) :=
  ⟨0, demo.setAll [(R.UPDATE.STAT_ST, 3), (R.UPDATE.AT_LO_SEC_L, 1000)], by decide⟩
theorem witness_FirmwareUpdate_11 :
  ∃ (who : Requester) (s : State), (Works s who 0x54 0x20) ∧ (s.get R.UPDATE.STAT_BUSY = 0 ∧ s.get R.UPDATE.STAT_ST = 3) ∧ (s.get R.RTC.STAT_OSF = 1) :=
  ⟨0, demo.setAll [(R.UPDATE.STAT_ST, 3), (R.RTC.STAT_OSF, 1)], by decide⟩
theorem witness_FirmwareUpdate_12 :
  ∃ (who : Requester) (s : State), (Works s who 0x54 0x20) ∧ (s.get R.UPDATE.STAT_BUSY = 0) ∧ (s.get R.UPDATE.STAT_ST = 1 ∨ s.get R.UPDATE.STAT_ST = 3 ∨ s.get R.UPDATE.STAT_ST = 4 ∨ s.get R.UPDATE.STAT_ST = 6) :=
  ⟨0, demo.set R.UPDATE.STAT_ST 4, by decide⟩
theorem witness_FirmwareUpdate_13 :
  ∃ (s : State), (s.get R.UPDATE.STAT_ST = 5) ∧ (s.mode = .maintenance ∧ s.get R.SYS.MODE_CAUSE = 3) ∧ (s.handsOver = false) ∧ (s.flash.openCopy = none) :=
  ⟨{ demo.setAll [(R.UPDATE.STAT_ST, 5), (R.SYS.MODE_CAUSE, 3)] with mode := .maintenance }, by decide⟩
theorem witness_FirmwareUpdate_14 :
  ∃ (s : State), (s.get R.UPDATE.STAT_ST = 5) ∧ (s.mode = .service) ∧ (s.handsOver = true ∧ s.pair.handover = false) :=
  ⟨{ demoNet.setAll [(R.UPDATE.STAT_ST, 5), (R.PAIR.STAT_PST, 4), (R.PAIR.STAT_PARTNER, 3), (R.PAIR.STAT_ROLE, 1)] with ret := { demoNet.ret with profile := { demoNet.ret.profile with role := 3, pairEn := 1 } } }, by decide⟩
theorem witness_FirmwareUpdate_15 :
  ∃ (e : JEntry) (s : State), (s.mode = .maintenance ∧ s.get R.UPDATE.STAT_ST = 5) ∧ (s.flash.openCopy = some e) :=
  ⟨⟨5, 3, 0xFF, 0, false⟩, { demo.setAll [(R.UPDATE.STAT_ST, 5)] with mode := .maintenance, flash := { demo.flash with journal := [⟨5, 3, 0xFF, 0, false⟩] } }, by decide⟩

/-- The hypotheses of `Obligations.StrataRecorder` can be met, clause by clause. -/
theorem witness_StrataRecorder_0 :
  ∃ (who : Requester) (s : State), (Works s who 0x5C 0x38 ∧ s.get R.STRATA.STAT_BUSY = 0) ∧ (typeOf (12) (s.get R.STRATA.WDESC_TYPE) = true ∧ 8 ≤ s.get R.STRATA.WDESC_BLEN + 1 ∧ inBank3 (s.get R.STRATA.BUF_ADDR) (s.get R.STRATA.WDESC_BLEN + 1) = true) ∧ (s.strata.walking = false ∧ s.get R.STRATA.STAT_CLEARING = 0) ∧ (s.strata.opened = none ∧ s.strata.recent = []) ∧ (s.strataFull (strataSize (s.get R.STRATA.WDESC_BLEN + 1)) = false) :=
  ⟨0, (demo.setAll [(R.STRATA.WDESC_TYPE, 0xC0), (R.STRATA.WDESC_BLEN, 7), (R.STRATA.BUF_ADDR, 0x20180000)]).set R.STRATA.NEXT_SEQ 5, by decide⟩
theorem witness_StrataRecorder_1 :
  ∃ (k : Fin 12) (ty : Byte) (bl : Byte) (ad : Word) (s : State), (True) ∧ (typeOf (k.val) (ty.toNat) = true ∧ 8 ≤ bl.toNat + 1 ∧ inBank3 (ad.toNat) (bl.toNat + 1) = true) ∧ (s.strata.walking = false ∧ s.get R.STRATA.STAT_CLEARING = 0) ∧ (s.strata.opened = none ∧ s.strata.recent = []) ∧ (s.strataFull (strataSize (bl.toNat + 1)) = false) :=
  ⟨10, 0x80, 7, 0x20180000, demo.set R.STRATA.NEXT_SEQ 5, by decide⟩
theorem witness_StrataRecorder_2 :
  ∃ (who : Requester) (r : StrataRec) (s : State), (Works s who 0x5C 0x38 ∧ s.get R.STRATA.STAT_BUSY = 0) ∧ (0xC0 ≤ s.get R.STRATA.WDESC_TYPE ∧ 7 ≤ s.get R.STRATA.WDESC_BLEN ∧ inBank3 (s.get R.STRATA.BUF_ADDR) (s.get R.STRATA.WDESC_BLEN + 1) = true) ∧ (s.strata.walking = false ∧ s.get R.STRATA.STAT_CLEARING = 0) ∧ (s.strata.opened = some r ∧ r.names = none ∧ r.reps < 0xFFFE) ∧ (r.type = s.get R.STRATA.WDESC_TYPE ∧ r.src = 12 ∧ strataKey r.body = strataKey (s.sramList (s.get R.STRATA.BUF_ADDR) (s.get R.STRATA.WDESC_BLEN + 1))) :=
  ⟨0, ⟨5, 0xC0, 1, 0, 0, 12, zeros 8, 0, none⟩, { demo.setAll [(R.STRATA.WDESC_TYPE, 0xC0), (R.STRATA.WDESC_BLEN, 7), (R.STRATA.BUF_ADDR, 0x20180000)] with strata := { demo.strata with opened := some ⟨5, 0xC0, 1, 0, 0, 12, zeros 8, 0, none⟩ } }, by decide⟩
theorem witness_StrataRecorder_3 :
  ∃ (who : Requester) (s : State), (Works s who 0x5C 0x38 ∧ s.get R.STRATA.STAT_BUSY = 0) ∧ (s.get R.STRATA.WDESC_TYPE < 0xC0 ∨ s.get R.STRATA.WDESC_BLEN < 7 ∨ inBank3 (s.get R.STRATA.BUF_ADDR) (s.get R.STRATA.WDESC_BLEN + 1) = false) :=
  ⟨0, demo, by decide⟩
theorem witness_StrataRecorder_4 :
  ∃ (who : Requester) (r : StrataRec) (s : State), (Works s who 0x5C 0x38 ∧ s.get R.STRATA.STAT_BUSY = 0) ∧ (s.strata.opened = some r) :=
  ⟨0, ⟨5, 0xC0, 1, 0, 0, 12, zeros 8, 0, none⟩, { demo with strata := { demo.strata with opened := some ⟨5, 0xC0, 1, 0, 0, 12, zeros 8, 0, none⟩ } }, by decide⟩
theorem witness_StrataRecorder_5 :
  ∃ (r : StrataRec) (s : State), (r.opsec + s.get R.STRATA.CFG_CLOSE_S ≤ s.get R.SYS.OPSEC_SEC) ∧ (s.strata.opened = some r) :=
  ⟨⟨5, 0xC0, 1, 0, 0, 12, zeros 8, 0, none⟩, { demo with strata := { demo.strata with opened := some ⟨5, 0xC0, 1, 0, 0, 12, zeros 8, 0, none⟩ } }, by decide⟩
theorem witness_StrataRecorder_6 :
  ∃ (who : Requester) (l : List StrataRec) (s : State), (Works s who 0x5C 0x38 ∧ s.get R.STRATA.STAT_BUSY = 0) ∧ (inBank3 (s.get R.STRATA.BUF_ADDR) (s.get R.STRATA.RLEN_BYTES) = true) ∧ (l = (s.strata.records ++ s.strata.opened.toList).filter (fun (r : StrataRec) => max (s.get R.STRATA.RSEQ_SEQ) (s.get R.STRATA.FIRST_SEQ) ≤ r.seq)) :=
  ⟨0, [⟨5, 0xC0, 1, 0, 0, 12, zeros 8, 0, none⟩], { demo.setAll [(R.STRATA.BUF_ADDR, 0x20180000), (R.STRATA.RLEN_BYTES, 512)] with strata := { demo.strata with opened := some ⟨5, 0xC0, 1, 0, 0, 12, zeros 8, 0, none⟩, records := [] } }, by decide⟩
theorem witness_StrataRecorder_7 :
  ∃ (rseq : Word) (n : Word) (a : Word) (l : List StrataRec) (s : State), (inBank3 a.toNat n.toNat = true ∧ 280 ≤ n.toNat ∧ n.toNat ≤ 65536) ∧ (l = (s.strata.records ++ s.strata.opened.toList).filter (fun (r : StrataRec) => max rseq.toNat (s.get R.STRATA.FIRST_SEQ) ≤ r.seq)) :=
  ⟨0, 512, 0x20180000, [⟨5, 0xC0, 1, 0, 0, 12, zeros 8, 0, none⟩], { demo with strata := { demo.strata with opened := some ⟨5, 0xC0, 1, 0, 0, 12, zeros 8, 0, none⟩, records := [] } }, by decide⟩
theorem witness_StrataRecorder_8 :
  ∃ (who : Requester) (s : State), (Works s who 0x5C 0x38 ∧ s.get R.STRATA.STAT_BUSY = 0) ∧ (inBank3 (s.get R.STRATA.BUF_ADDR) 32 = true) ∧ (s.garnet.healthFail = false) :=
  ⟨0, demo.set R.STRATA.BUF_ADDR 0x20180000, by decide⟩
theorem witness_StrataRecorder_9 :
  ∃ (who : Requester) (c : List Byte) (s : State), (Works s who 0x5C 0x38 ∧ s.get R.STRATA.STAT_BUSY = 0) ∧ (s.get R.STRATA.STAT_CLEARING = 0) ∧ (s.strata.challenge = some c ∧ s.strata.opened = none) ∧ (inBank3 (s.get R.STRATA.BUF_ADDR) 144 = true) :=
  ⟨0, [1], { demo.set R.STRATA.BUF_ADDR 0x20180000 with strata := { demo.strata with challenge := some [1] } }, by decide⟩
theorem witness_StrataRecorder_10 :
  ∃ (who : Requester) (s : State), (Works s who 0x5C 0x38 ∧ s.get R.STRATA.STAT_BUSY = 0) ∧ (s.get R.STRATA.STAT_CLEARING = 0) ∧ (s.strata.challenge = none) :=
  ⟨0, demo, by decide⟩
theorem witness_StrataRecorder_11 :
  ∃ (s : State), (s.get R.STRATA.STAT_CLEARING = 1 ∧ s.strata.walking = false) ∧ (s.strata.queue = []) :=
  ⟨{ demo.setAll [(R.STRATA.STAT_CLEARING, 1), (R.STRATA.FIRST_SEQ, 5)] with strata := { demo.strata with walking := false, queue := [], records := [⟨4, 0xC0, 1, 0, 0, 12, zeros 8, 0, none⟩, ⟨5, 1, 1, 0, 0, 8, zeros 16, 1, none⟩] } }, by decide⟩
theorem witness_StrataRecorder_12 :
  ∃ (c : StrataRec) (r : StrataRec) (s : State), (s.strata.walking = true ∧ s.get R.STRATA.STAT_CLEARING = 0) ∧ (s.strata.opened = none ∧ s.strata.queue = []) ∧ (s.strata.records.getLast? = some r) ∧ ((s.strata.records.filter (fun (x : StrataRec) => Nat.beq x.type 1)).getLast? = some c) :=
  ⟨⟨4, 1, 1, 0, 0, 8, zeros 16, 3, none⟩, ⟨5, 0xC0, 1, 0, 0, 12, zeros 8, 3, none⟩, { demo with strata := { demo.strata with walking := true, queue := [], records := [⟨4, 1, 1, 0, 0, 8, zeros 16, 3, none⟩, ⟨5, 0xC0, 1, 0, 0, 12, zeros 8, 3, none⟩] } }, by decide⟩
theorem witness_StrataRecorder_13 :
  ∃ (k : Fin 12) (ty : Byte) (bl : Byte) (ad : Word) (s : State), (typeOf k ty.toNat = true ∧ 7 ≤ bl.toNat ∧ inBank3 ad.toNat (bl.toNat + 1) = true) ∧ (s.strata.walking = true ∧ s.strata.queue.length < 32) :=
  ⟨10, 0x80, 7, 0x20180000, { demo with strata := { demo.strata with walking := true, queue := [] } }, by decide⟩

/-- The hypotheses of `Obligations.DaliFrames` can be met, clause by clause. -/
theorem witness_DaliFrames_0 :
  ∃ (who : Requester) (prio : BitVec 3) (s : State), (Writes s who 0x60 0x2C) ∧ (s.get (R.HDR.ST 0x60) = 2 ∧ s.get R.DALI.BUSSTAT_SYSFAIL = 0) ∧ (1 ≤ prio.toNat ∧ prio.toNat ≤ 5 ∧ s.lamp.queue.length < 8) :=
  ⟨0, 3, demo.set R.DALI.TXD_FRAME 0xFE80, by decide⟩
theorem witness_DaliFrames_1 :
  ∃ (who : Requester) (prio : BitVec 3) (s : State), (Writes s who 0x60 0x2C) ∧ (s.get (R.HDR.ST 0x60) ≠ 2 ∨ prio = 0 ∨ 5 < prio.toNat ∨ s.get R.DALI.BUSSTAT_SYSFAIL ≠ 0 ∨ 8 ≤ s.lamp.queue.length) :=
  ⟨0, 6, demo, by decide⟩
theorem witness_DaliFrames_2 :
  ∃ (e : DaliEntry) (l : List DaliEntry) (s : State), (s.lampOn = true ∧ s.get R.DALI.BUSSTAT_SYSFAIL = 0) ∧ (s.lamp.cur = none ∧ s.lamp.queue = e :: l) ∧ (s.lamp.results.length < 8 ∧ s.get (R.HDR.ST 0x60) = 2) :=
  ⟨demoDali, [], { demo with lamp := { demo.lamp with queue := [demoDali] }, bridge := { demo.bridge with inReset := false } }, by decide⟩
theorem witness_DaliFrames_3 :
  ∃ (e : DaliEntry) (s : State), (s.lamp.cur = some (e, 1)) ∧ (3 ≤ e.tries) :=
  ⟨{ demoDali with tries := 3 }, { demo with lamp := { demo.lamp with cur := some ({ demoDali with tries := 3 }, 1) } }, by decide⟩
theorem witness_DaliFrames_4 :
  ∃ (e : DaliEntry) (s : State), (s.lamp.cur = some (e, 1)) ∧ (e.tries < 3 ∧ s.get (R.HDR.ST 0x60) = 2) :=
  ⟨demoDali, { demo with lamp := { demo.lamp with cur := some (demoDali, 1) } }, by decide⟩
theorem witness_DaliFrames_5 :
  ∃ (e : DaliEntry) (s : State), (s.lamp.cur = some (e, 1)) :=
  ⟨demoDali, { demo with lamp := { demo.lamp with cur := some (demoDali, 1) } }, by decide⟩
theorem witness_DaliFrames_6 :
  ∃ (e : DaliEntry) (s : State), (s.lamp.cur = some (e, 2)) :=
  ⟨demoDali, { demo with lamp := { demo.lamp with cur := some (demoDali, 2) } }, by decide⟩
theorem witness_DaliFrames_7 :
  ∃ (e : DaliEntry) (s : State), (s.lamp.cur = some (e, 2)) :=
  ⟨demoDali, { demo with lamp := { demo.lamp with cur := some (demoDali, 2) } }, by decide⟩
theorem witness_DaliFrames_8 :
  ∃ (e : DaliEntry) (s : State), (s.lamp.cur = some (e, 2)) :=
  ⟨demoDali, { demo with lamp := { demo.lamp with cur := some (demoDali, 2) } }, by decide⟩
theorem witness_DaliFrames_9 :
  ∃ (s : State), (s.lampOn = true) :=
  ⟨demoLamp, by decide⟩
theorem witness_DaliFrames_10 :
  ∃ (s : State), (s.lampLive = true ∧ s.get R.DALI.BUSSTAT_SYSFAIL = 0) ∧ (s.lamp.openOn = none) :=
  ⟨{ demoLamp with lamp := { demo.lamp with cur := some (demoDali, 2), queue := [demoDali] } }, by decide⟩
theorem witness_DaliFrames_11 :
  ∃ (s : State), (s.lampLive = true ∧ s.get R.DALI.BUSSTAT_SYSFAIL = 1) :=
  ⟨demoLamp.set R.DALI.BUSSTAT_SYSFAIL 1, by decide⟩
theorem witness_DaliFrames_12 :
  ∃ (who : Requester) (r : DaliRes) (l : List DaliRes) (s : State), (Reaches s who 0x60 0x34 false) ∧ (s.lamp.results = r :: l) :=
  ⟨0, ⟨0x55, 1, 7⟩, [], { demo with lamp := { demo.lamp with results := [⟨0x55, 1, 7⟩] } }, by decide⟩
theorem witness_DaliFrames_13 :
  ∃ (who : Requester) (k : Fin 4) (s : State), (Writes s who 0x60 (0x40 + 4 * k)) :=
  ⟨0, 1, demo.set (R.DALI.GEAR_ED 17) 2, by decide⟩

/-- The hypotheses of `Obligations.DaliBusAndOutputs` can be met, clause by clause. -/
theorem witness_DaliBusAndOutputs_0 :
  ∃ (who : Requester) (s : State), (Writes s who 0x60 0x20) ∧ (s.get (R.HDR.ST 0x60) ≠ 1) :=
  ⟨0, demoLamp, by decide⟩
theorem witness_DaliBusAndOutputs_1 :
  ∃ (s : State), (s.lampLive = true ∧ s.lamp.measuring = true) :=
  ⟨{ demoLamp with lamp := { demo.lamp with measuring := true } }, by decide⟩
theorem witness_DaliBusAndOutputs_2 :
  ∃ (s : State), (s.lampLive = true) ∧ (s.get R.DALI.BUSSTAT_ST = 1) :=
  ⟨demoLamp.set R.DALI.BUSSTAT_ST 1, by decide⟩
theorem witness_DaliBusAndOutputs_3 :
  ∃ (s : State), (s.lampLive = true) ∧ (s.get R.DALI.BUSSTAT_ST = 4) :=
  ⟨demoLamp.set R.DALI.BUSSTAT_ST 4, by decide⟩
theorem witness_DaliBusAndOutputs_4 :
  ∃ (s : State), (s.lampLive = true) ∧ (s.get R.DALI.BUSSTAT_ST = 2 ∨ s.get R.DALI.BUSSTAT_ST = 3) :=
  ⟨demoLamp.set R.DALI.BUSSTAT_ST 2, by decide⟩
theorem witness_DaliBusAndOutputs_5 :
  ∃ (who : Requester) (w : Word) (s : State), (Writes s who 0x61 0x24) ∧ (s.get (R.HDR.ST 0x61) = 2 ∧ s.lampLive = true ∧ s.get R.AOUT.CFG_FADE_MS = 0) ∧ (w.toNat ≤ 1000) :=
  ⟨0, 500, demoLamp, by decide⟩
theorem witness_DaliBusAndOutputs_6 :
  ∃ (who : Requester) (w : Word) (s : State), (Writes s who 0x61 0x24) ∧ (s.get (R.HDR.ST 0x61) = 2) ∧ (1000 < w.toNat ∧ w.toNat < 1024) :=
  ⟨0, 1001, demo, by decide⟩
theorem witness_DaliBusAndOutputs_7 :
  ∃ (s : State), (s.get (R.HDR.ST 0x61) = 2 ∧ s.lampLive = true ∧ s.get R.AOUT.STAT_FADING = 1) :=
  ⟨demoLamp.setAll [(R.AOUT.STAT_FADING, 1), (R.AOUT.VSET_LEVEL, 300)], by decide⟩
theorem witness_DaliBusAndOutputs_8 :
  ∃ (s : State), (s.lampLive = true ∧ s.get R.AOUT.STAT_FLOAT = 0) :=
  ⟨demoLamp, by decide⟩
theorem witness_DaliBusAndOutputs_9 :
  ∃ (s : State), (s.get (R.HDR.ST 0x61) = 2 ∧ s.lampLive = true ∧ s.get R.AOUT.STAT_OVERLOAD = 1 ∧ s.get R.AOUT.CFG_MODE = 0) :=
  ⟨demoLamp.setAll [(R.AOUT.STAT_OVERLOAD, 1), (R.AOUT.VSET_LEVEL, 300)], by decide⟩
theorem witness_DaliBusAndOutputs_10 :
  ∃ (who : Requester) (s : State), (Writes s who 0x61 0x30) :=
  ⟨0, demo, by decide⟩
theorem witness_DaliBusAndOutputs_11 :
  ∃ (who : Requester) (s : State), (Writes s who 0x61 0x30) :=
  ⟨0, demo, by decide⟩
theorem witness_DaliBusAndOutputs_12 :
  ∃ (n : Nat) (s : State), (s.lamp.pend = some n ∧ s.lamp.pulse = none) ∧ (s.lampOn = true ∧ s.get R.PWR.SUPPLY_BROWNOUT = 0) :=
  ⟨1, { demoLamp with lamp := { demo.lamp with pend := some 1 } }, by decide⟩
theorem witness_DaliBusAndOutputs_13 :
  ∃ (n : Nat) (s : State), (s.lamp.pulse = some n) :=
  ⟨1, { demoLamp with lamp := { demo.lamp with pulse := some 1 } }, by decide⟩

/-- The hypotheses of `Obligations.MeteringAndInputs` can be met, clause by clause. -/
theorem witness_MeteringAndInputs_0 :
  ∃ (m : Half) (s : State), (s.lampLive = true ∧ s.domOn 20 = true) ∧ (s.get R.METER.PHCFG_DARK ≤ m.toNat) ∧ (s.lamp.darkRun + 1 = s.get R.METER.PHDLY_DELAY_S) :=
  ⟨50000, demoLamp.setAll [(R.METER.PHDLY_DELAY_S, 1), (R.METER.PHCFG_DARK, 40000)], by decide⟩
theorem witness_MeteringAndInputs_1 :
  ∃ (m : Half) (s : State), (s.lampLive = true ∧ s.domOn 20 = true) ∧ (m.toNat < s.get R.METER.PHCFG_DARK ∧ s.get R.METER.PHCFG_LIGHT < m.toNat ∧ s.get R.METER.PHDLY_DELAY_S ≠ 0) :=
  ⟨30000, demoLamp.setAll [(R.METER.PHDLY_DELAY_S, 1), (R.METER.PHCFG_DARK, 40000), (R.METER.PHCFG_LIGHT, 20000)], by decide⟩
theorem witness_MeteringAndInputs_2 :
  ∃ (s : State), (s.lampLive = true ∧ s.bridge.silent = false ∧ s.domOn 20 = true) :=
  ⟨demoLamp, by decide⟩
theorem witness_MeteringAndInputs_3 :
  ∃ (q : MeterWindow) (s : State), (s.get R.PWR.SUPPLY_MAINS = 1 ∧ s.bridge.hold = true ∧ q.p.msb = false) ∧ (s.bridge.inReset = false ∧ s.domOn 20 = true) :=
  ⟨demoWindow, { demoLamp with bridge := { demo.bridge with inReset := false, hold := true } }, by decide⟩
theorem witness_MeteringAndInputs_4 :
  ∃ (q : MeterWindow) (s : State), (s.get R.PWR.SUPPLY_MAINS = 1 ∧ s.bridge.inReset = true ∧ q.p.msb = false) :=
  ⟨demoWindow, { demoLamp with bridge := { demo.bridge with inReset := true } }, by decide⟩
theorem witness_MeteringAndInputs_5 :
  ∃ (s : State), (s.lampLive = true ∧ s.domOn 20 = true) :=
  ⟨demoLamp, by decide⟩
theorem witness_MeteringAndInputs_6 :
  ∃ (who : Requester) (s : State), (Reaches s who 0x62 0x24 false) :=
  ⟨0, demoLamp, by decide⟩
theorem witness_MeteringAndInputs_7 :
  ∃ (who : Requester) (s : State), (Reaches s who 0x62 0x40 false) :=
  ⟨0, demoLamp, by decide⟩
theorem witness_MeteringAndInputs_8 :
  ∃ (who : Requester) (s : State), (Works s who 0x62 0x50) :=
  ⟨0, demo.set R.METER.ENERGY_LO_COUNT 9, by decide⟩
theorem witness_MeteringAndInputs_9 :
  ∃ (who : Requester) (key : Half) (s : State), (Works s who 0x62 0x50) ∧ (key ≠ 0xA55A) :=
  ⟨0, 1, demo, by decide⟩
theorem witness_MeteringAndInputs_10 :
  ∃ (s : State), (s.mode = .service ∨ s.mode = .outage ∨ s.mode = .commission ∨ s.mode = .maintenance) :=
  ⟨demo, by decide⟩
theorem witness_MeteringAndInputs_11 :
  ∃ (n : Fin 4) (high : Bool) (r : Byte) (s : State), (s.mode ≠ .field ∧ s.mode ≠ .unpowered) ∧ ((s.get R.DIN.STAT_LEVEL).testBit n ≠ (high == s.bit (R.DIN.CFG_POL n))) ∧ ((s.get R.DIN.STAT_CHATTER).testBit n = false ∧ r.toNat ≤ s.get (R.DIN.CFG_CHAT_N n)) :=
  ⟨2, true, 1, demo.setAll [(R.DIN.CFG_CHAT_N 2, 8), (R.DIN.CFG_POL 2, 1)], by decide⟩
theorem witness_MeteringAndInputs_12 :
  ∃ (n : Fin 4) (high : Bool) (r : Byte) (s : State), (s.mode ≠ .field ∧ s.mode ≠ .unpowered) ∧ ((s.get R.DIN.STAT_LEVEL).testBit n ≠ (high == s.bit (R.DIN.CFG_POL n))) ∧ ((s.get R.DIN.STAT_CHATTER).testBit n = false ∧ s.get (R.DIN.CFG_CHAT_N n) < r.toNat) :=
  ⟨2, true, 9, demo.setAll [(R.DIN.CFG_CHAT_N 2, 8), (R.DIN.CFG_POL 2, 1)], by decide⟩
theorem witness_MeteringAndInputs_13 :
  ∃ (n : Fin 4) (s : State), ((s.get R.DIN.STAT_CHATTER).testBit n = true) :=
  ⟨2, demo.set R.DIN.STAT_CHATTER 4, by decide⟩
theorem witness_MeteringAndInputs_14 :
  ∃ (n : Fin 4) (s : State), (s.mode ≠ .field ∧ s.mode ≠ .unpowered ∧ s.get (R.DIN.STUCK_TIME n) ≠ 0) ∧ ((s.get R.DIN.STAT_LEVEL).testBit n = true ∧ (s.get R.DIN.STAT_STUCK).testBit n = false) :=
  ⟨2, demo.setAll [(R.DIN.STAT_LEVEL, 4), (R.DIN.STUCK_TIME 2, 60)], by decide⟩

/-- The hypotheses of `Obligations.ContactlessTag` can be met, clause by clause. -/
theorem witness_ContactlessTag_0 :
  ∃ (n : Nat) (bs : List Byte) (s : State), (s.supply.fieldPresent = true ∧ s.nfc.checked = false ∧ s.nfc.marker = true) ∧ (s.nfc.shadow = some ⟨.block n, bs, crc8 (leBytes 2 n ++ bs)⟩) :=
  ⟨5, [1, 2, 3, 4], { demo with supply := { demo.supply with fieldPresent := true }, nfc := { demo.nfc with checked := false, marker := true, shadow := some ⟨.block 5, [1, 2, 3, 4], crc8 (leBytes 2 5 ++ [1, 2, 3, 4])⟩ } }, by decide, rfl⟩
theorem witness_ContactlessTag_1 :
  ∃ (s : State), (s.get R.NFCTAG.STAT_SESSION = 0 ∧ s.get R.NFCRD.STAT_ST = 0) ∧ (s.nfc.checked = true) :=
  ⟨{ demo with nfc := { demo.nfc with checked := true } }, by decide⟩
theorem witness_ContactlessTag_2 :
  ∃ (s : State), (s.get R.NFCTAG.STAT_SESSION = 1) :=
  ⟨demoTag, by decide⟩
theorem witness_ContactlessTag_3 :
  ∃ (flags : Byte) (s : State), (s.tagHears flags = true) ∧ (s.get R.NFCTAG.STAT_ISOST ≠ 1) ∧ (flags.getLsbD 5 = true ∧ flags.getLsbD 4 = false ∧ s.nfc.checked = true) :=
  ⟨0x26, demoTag, by decide⟩
theorem witness_ContactlessTag_4 :
  ∃ (r : TagReq) (s : State), (s.tagHears r.flags = true ∧ s.nfc.checked = true) ∧ (tagAddressed r = true ∧ tagSelects r = false ∧ r.uid.toNat = tagUid) :=
  ⟨⟨0x22, BitVec.ofNat 64 tagUid⟩, demoTag, by decide, rfl, rfl, tagUid_toNat⟩
theorem witness_ContactlessTag_5 :
  ∃ (r : TagReq) (n : Nat) (s : State), (s.tagHears r.flags = true ∧ s.tagMeant r = true ∧ s.nfc.checked = true) ∧ (n < 256) ∧ (n < 1023 ∨ (1024 ≤ n ∧ s.get R.NFCTAG.STAT_SEC = 1)) :=
  ⟨⟨0x02, 0⟩, 3, demoTag, by decide⟩
theorem witness_ContactlessTag_6 :
  ∃ (r : TagReq) (n : Nat) (s : State), (s.tagHears r.flags = true ∧ s.tagMeant r = true ∧ s.nfc.checked = true) ∧ (n < 255) ∧ (n < 1023 ∨ (1024 ≤ n ∧ s.get R.NFCTAG.STAT_SEC = 1)) :=
  ⟨⟨0x02, 0⟩, 3, demoTag, by decide⟩
theorem witness_ContactlessTag_7 :
  ∃ (r : TagReq) (n : Nat) (s : State), (s.tagHears r.flags = true ∧ s.tagMeant r = true ∧ s.nfc.checked = true) ∧ (n < 1920) ∧ (n < 1023 ∨ (1024 ≤ n ∧ s.get R.NFCTAG.STAT_SEC = 1)) :=
  ⟨⟨0x02, 0⟩, 3, demoTag, by decide⟩
theorem witness_ContactlessTag_8 :
  ∃ (r : TagReq) (n : Nat) (s : State), (s.tagHears r.flags = true ∧ s.tagMeant r = true ∧ s.nfc.checked = true) ∧ (n < 1919) ∧ (n < 1023 ∨ (1024 ≤ n ∧ s.get R.NFCTAG.STAT_SEC = 1)) :=
  ⟨⟨0x02, 0⟩, 3, demoTag, by decide⟩
theorem witness_ContactlessTag_9 :
  ∃ (r : TagReq) (n : Nat) (s : State), (s.tagHears r.flags = true ∧ s.tagMeant r = true ∧ s.nfc.checked = true) ∧ (1024 ≤ n ∧ n < 65536) ∧ (s.get R.NFCTAG.STAT_SEC = 0) :=
  ⟨⟨0x02, 0⟩, 1024, demoTag, by decide⟩
theorem witness_ContactlessTag_10 :
  ∃ (r : TagReq) (s : State), (s.tagHears r.flags = false ∨ s.tagMeant r = false) :=
  ⟨⟨0x02, 0⟩, demoTag.set R.NFCTAG.STAT_ISOST 1, by decide⟩
theorem witness_ContactlessTag_11 :
  ∃ (r : TagReq) (s : State), (s.tagHears r.flags = false ∨ s.tagMeant r = false) :=
  ⟨⟨0x02, 0⟩, demoTag.set R.NFCTAG.STAT_ISOST 1, by decide⟩
theorem witness_ContactlessTag_12 :
  ∃ (r : TagReq) (s : State), (s.tagHears r.flags = false ∨ s.tagMeant r = false) :=
  ⟨⟨0x02, 0⟩, demoTag.set R.NFCTAG.STAT_ISOST 1, by decide⟩
theorem witness_ContactlessTag_13 :
  ∃ (r : TagReq) (s : State), (s.tagHears r.flags = false ∨ s.tagMeant r = false) :=
  ⟨⟨0x02, 0⟩, demoTag.set R.NFCTAG.STAT_ISOST 1, by decide⟩
theorem witness_ContactlessTag_14 :
  ∃ (r : TagReq) (n : Nat) (s : State), (s.tagHears r.flags = true ∧ s.tagMeant r = true ∧ s.nfc.checked = true) ∧ (n < 256) ∧ (2 ≤ n ∧ (s.get R.NFCTAG.STAT_SEC = 1 ∨ (n < 1024 ∧ s.get R.NFCTAG.CFG_NDEF_WR = 1))) :=
  ⟨⟨0x02, 0⟩, 5, demoTag.set R.NFCTAG.STAT_SEC 1, by decide⟩
theorem witness_ContactlessTag_15 :
  ∃ (r : TagReq) (n : Nat) (s : State), (s.tagHears r.flags = true ∧ s.tagMeant r = true ∧ s.nfc.checked = true) ∧ (n < 1920) ∧ (2 ≤ n ∧ (s.get R.NFCTAG.STAT_SEC = 1 ∨ (n < 1024 ∧ s.get R.NFCTAG.CFG_NDEF_WR = 1))) :=
  ⟨⟨0x02, 0⟩, 5, demoTag.set R.NFCTAG.STAT_SEC 1, by decide⟩
theorem witness_ContactlessTag_16 :
  ∃ (r : TagReq) (n : Nat) (s : State), (s.tagHears r.flags = true ∧ s.tagMeant r = true ∧ s.nfc.checked = true) ∧ (n < 256) ∧ (n < 2 ∨ (s.get R.NFCTAG.STAT_SEC = 0 ∧ (1024 ≤ n ∨ s.get R.NFCTAG.CFG_NDEF_WR = 0))) :=
  ⟨⟨0x02, 0⟩, 1, demoTag, by decide⟩
theorem witness_ContactlessTag_17 :
  ∃ (r : TagReq) (n : Nat) (s : State), (s.tagHears r.flags = true ∧ s.tagMeant r = true ∧ s.nfc.checked = true) ∧ (n < 1920) ∧ (n < 2 ∨ (s.get R.NFCTAG.STAT_SEC = 0 ∧ (1024 ≤ n ∨ s.get R.NFCTAG.CFG_NDEF_WR = 0))) :=
  ⟨⟨0x02, 0⟩, 1, demoTag, by decide⟩
theorem witness_ContactlessTag_18 :
  ∃ (r : TagReq) (s : State), (s.tagHears r.flags = true ∧ s.nfc.checked = true) ∧ (r.uid.toNat = tagUid) :=
  ⟨⟨0x22, BitVec.ofNat 64 tagUid⟩, demoTag, by decide, tagUid_toNat⟩
theorem witness_ContactlessTag_19 :
  ∃ (r : TagReq) (s : State), (s.tagHears r.flags = true ∧ s.tagMeant r = true ∧ s.nfc.checked = true) :=
  ⟨⟨0x02, 0⟩, demoTag, by decide⟩
theorem witness_ContactlessTag_20 :
  ∃ (r : TagReq) (s : State), (s.tagHears r.flags = true ∧ s.tagMeant r = true ∧ s.nfc.checked = true) :=
  ⟨⟨0x02, 0⟩, demoTag, by decide⟩
theorem witness_ContactlessTag_21 :
  ∃ (r : TagReq) (s : State), (s.tagHears r.flags = true ∧ s.tagMeant r = true ∧ s.nfc.checked = true) :=
  ⟨⟨0x02, 0⟩, demoTag, by decide⟩
theorem witness_ContactlessTag_22 :
  ∃ (r : TagReq) (s : State), (s.tagHears r.flags = true ∧ s.tagMeant r = true ∧ s.nfc.checked = true) :=
  ⟨⟨0x02, 0⟩, demoTag, by decide⟩
theorem witness_ContactlessTag_23 :
  ∃ (s : State), (s.get R.NFCTAG.STAT_SESSION = 1) :=
  ⟨demoTag, by decide⟩
theorem witness_ContactlessTag_24 :
  ∃ (r : TagReq) (p : BitVec 64) (s : State), (s.tagHears r.flags = true ∧ s.tagMeant r = true ∧ s.nfc.checked = true) ∧ (s.get R.NFCTAG.CFG_PWD_EN = 1) ∧ (s.get R.NFCTAG.STAT_SEC = 0 ∧ s.nfc.locked = false ∧ s.get R.NFCTAG.STAT_FAILCNT ≠ 8) ∧ (leBytes 8 p.toNat = s.nfc.pwd) :=
  ⟨⟨0x02, 0⟩, 0x0807060504030201, { demoTag.set R.NFCTAG.CFG_PWD_EN 1 with nfc := { demoTag.nfc with pwd := [1, 2, 3, 4, 5, 6, 7, 8] } }, by decide⟩
theorem witness_ContactlessTag_25 :
  ∃ (r : TagReq) (s : State), (s.tagHears r.flags = true ∧ s.tagMeant r = true ∧ s.nfc.checked = true) ∧ (s.get R.NFCTAG.CFG_AES_EN = 1) ∧ (s.get R.NFCTAG.STAT_SEC = 0 ∧ s.nfc.locked = false ∧ s.get R.NFCTAG.STAT_FAILCNT ≠ 8) ∧ (s.nfc.mam = true) :=
  ⟨⟨0x02, 0⟩, { demoTag.set R.NFCTAG.CFG_AES_EN 1 with nfc := { demoTag.nfc with mam := true } }, by decide⟩
theorem witness_ContactlessTag_26 :
  ∃ (r : TagReq) (p : BitVec 64) (s : State), (s.tagHears r.flags = true ∧ s.tagMeant r = true ∧ s.nfc.checked = true) ∧ (s.get R.NFCTAG.CFG_PWD_EN = 1) ∧ (s.get R.NFCTAG.STAT_SEC = 0 ∧ s.nfc.locked = false ∧ s.get R.NFCTAG.STAT_FAILCNT < 8) ∧ (leBytes 8 p.toNat ≠ s.nfc.pwd) :=
  ⟨⟨0x02, 0⟩, 9, { demoTag.set R.NFCTAG.CFG_PWD_EN 1 with nfc := { demoTag.nfc with pwd := [1, 2, 3, 4, 5, 6, 7, 8] } }, by decide⟩
theorem witness_ContactlessTag_27 :
  ∃ (r : TagReq) (b : Bool) (s : State), (s.tagHears r.flags = true ∧ s.tagMeant r = true ∧ s.nfc.checked = true) ∧ (s.get R.NFCTAG.CFG_AES_EN = 1) ∧ (s.get R.NFCTAG.STAT_SEC = 0 ∧ s.nfc.locked = false ∧ s.get R.NFCTAG.STAT_FAILCNT < 8) ∧ (b = false ∨ s.nfc.mam = false) :=
  ⟨⟨0x02, 0⟩, false, demoTag.set R.NFCTAG.CFG_AES_EN 1, by decide⟩
theorem witness_ContactlessTag_28 :
  ∃ (r : TagReq) (s : State), (s.tagHears r.flags = true ∧ s.tagMeant r = true ∧ s.nfc.checked = true) ∧ (s.get R.NFCTAG.CFG_PWD_EN = 1 ∧ s.get R.NFCTAG.STAT_SEC = 0) ∧ (s.nfc.locked = true ∨ s.get R.NFCTAG.STAT_FAILCNT = 8) :=
  ⟨⟨0x02, 0⟩, demoTag.setAll [(R.NFCTAG.CFG_PWD_EN, 1), (R.NFCTAG.STAT_FAILCNT, 8)], by decide⟩
theorem witness_ContactlessTag_29 :
  ∃ (r : TagReq) (s : State), (s.tagHears r.flags = true ∧ s.tagMeant r = true ∧ s.nfc.checked = true) ∧ (s.get R.NFCTAG.CFG_AES_EN = 1 ∧ s.nfc.locked = false ∧ s.get R.NFCTAG.STAT_FAILCNT ≠ 8) :=
  ⟨⟨0x02, 0⟩, demoTag.set R.NFCTAG.CFG_AES_EN 1, by decide⟩
theorem witness_ContactlessTag_30 :
  ∃ (r : TagReq) (s : State), (s.tagHears r.flags = true ∧ s.tagMeant r = true ∧ s.nfc.checked = true) ∧ (s.get R.NFCTAG.STAT_SEC = 1) :=
  ⟨⟨0x02, 0⟩, demoTag.set R.NFCTAG.STAT_SEC 1, by decide⟩
theorem witness_ContactlessTag_31 :
  ∃ (s : State), (s.get R.NFCTAG.STAT_SESSION = 1) :=
  ⟨{ demoTag with nfc := { demoTag.nfc with locked := true } }, by decide⟩

/-- The hypotheses of `Obligations.ReaderAndProximity` can be met, clause by clause. -/
theorem witness_ReaderAndProximity_0 :
  ∃ (who : Requester) (s : State), (Works s who 0x69 0x38) ∧ (s.nfc.checked = true ∧ 2 ≤ s.get R.NFCTAG.TADDR_BLOCK) :=
  ⟨0, { demoTag.set R.NFCTAG.TADDR_BLOCK 5 with nfc := { demoTag.nfc with fram := [(20, 7)] } }, by decide⟩
theorem witness_ReaderAndProximity_1 :
  ∃ (who : Requester) (s : State), (Works s who 0x69 0x38) ∧ (s.nfc.checked = true ∧ 2 ≤ s.get R.NFCTAG.TADDR_BLOCK) :=
  ⟨0, demoTag.setAll [(R.NFCTAG.TADDR_BLOCK, 5), (R.NFCTAG.TDATA_DATA, 9)], by decide⟩
theorem witness_ReaderAndProximity_2 :
  ∃ (who : Requester) (s : State), (Works s who 0x69 0x38) ∧ (s.nfc.checked = true ∧ s.get R.NFCTAG.TADDR_BLOCK ≤ 1) :=
  ⟨0, demoTag, by decide⟩
theorem witness_ReaderAndProximity_3 :
  ∃ (who : Requester) (s : State), (Works s who 0x69 0x3C) ∧ (s.nfc.checked = true ∧ s.get R.NFCTAG.STAT_SEC = 0) :=
  ⟨0, { demoTag.set R.NFCTAG.STAT_FAILCNT 8 with nfc := { demoTag.nfc with staged := [(0, 9), (3, 4)] } }, by decide⟩
theorem witness_ReaderAndProximity_4 :
  ∃ (who : Requester) (s : State), (Works s who 0x69 0x3C) ∧ (s.nfc.checked = true ∧ s.get R.NFCTAG.STAT_SEC = 0) :=
  ⟨0, { demoTag.set R.NFCTAG.STAT_FAILCNT 8 with nfc := { demoTag.nfc with staged := [(0, 9), (3, 4)] } }, by decide⟩
theorem witness_ReaderAndProximity_5 :
  ∃ (who : Requester) (s : State), (Works s who 0x69 0x3C) ∧ (s.nfc.checked = true ∧ s.get R.NFCTAG.STAT_SEC = 0) :=
  ⟨0, { demoTag.set R.NFCTAG.STAT_FAILCNT 8 with nfc := { demoTag.nfc with staged := [(0, 9), (3, 4)] } }, by decide⟩
theorem witness_ReaderAndProximity_6 :
  ∃ (who : Requester) (key : Half) (s : State), (Works s who 0x69 0x3C) ∧ (s.nfc.checked = true ∧ key ≠ 0xA55A) :=
  ⟨0, 1, demoTag, by decide⟩
theorem witness_ReaderAndProximity_7 :
  ∃ (who : Requester) (key : Half) (s : State), (Works s who 0x69 0x3C) ∧ (s.nfc.checked = true ∧ key ≠ 0xA55A) :=
  ⟨0, 1, demoTag, by decide⟩
theorem witness_ReaderAndProximity_8 :
  ∃ (who : Requester) (key : Half) (s : State), (Works s who 0x69 0x3C) ∧ (s.nfc.checked = true ∧ key ≠ 0xA55A) :=
  ⟨0, 1, demoTag, by decide⟩
theorem witness_ReaderAndProximity_9 :
  ∃ (who : Requester) (s : State), (Reaches s who 0x69 0x5C false) ∧ (s.nfc.checked = true) :=
  ⟨0, demoTag.set R.NFCTAG.WRCNT_COUNT 3, by decide⟩
theorem witness_ReaderAndProximity_10 :
  ∃ (who : Requester) (s : State), (Works s who 0x68 0x24) ∧ (s.get R.PWR.SUPPLY_BROWNOUT = 0 ∧ s.get R.NFCTAG.STAT_SESSION = 0 ∧ s.get R.NFCRD.STAT_ST = 0) :=
  ⟨0, demo, by decide⟩
theorem witness_ReaderAndProximity_11 :
  ∃ (who : Requester) (s : State), (Works s who 0x68 0x24) ∧ (s.get R.PWR.SUPPLY_BROWNOUT = 0 ∧ s.get R.NFCTAG.STAT_SESSION = 0) ∧ (s.get R.NFCRD.STAT_ST = 0) :=
  ⟨0, demo.setAll [(R.NFCRD.TXLEN_LEN, 3), (R.NFCRD.INV_ADDR, 0x2018000), (R.NFCRD.INVCFG_MAX, 4)], by decide⟩
theorem witness_ReaderAndProximity_12 :
  ∃ (who : Requester) (s : State), (Works s who 0x68 0x24) ∧ (s.get R.PWR.SUPPLY_BROWNOUT = 0 ∧ s.get R.NFCTAG.STAT_SESSION = 0) ∧ (s.get R.NFCRD.STAT_ST = 0 ∧ 1 ≤ s.get R.NFCRD.TXLEN_LEN ∧ s.get R.NFCRD.TXLEN_LEN ≤ 64) :=
  ⟨0, demo.setAll [(R.NFCRD.TXLEN_LEN, 3), (R.NFCRD.INV_ADDR, 0x2018000), (R.NFCRD.INVCFG_MAX, 4)], by decide⟩
theorem witness_ReaderAndProximity_13 :
  ∃ (who : Requester) (s : State), (Works s who 0x68 0x24) ∧ (s.get R.PWR.SUPPLY_BROWNOUT = 0 ∧ s.get R.NFCTAG.STAT_SESSION = 0) ∧ (s.get R.NFCRD.STAT_ST = 0 ∧ invRoom (s.get R.NFCRD.INV_ADDR) (s.get R.NFCRD.INVCFG_MAX) = true) :=
  ⟨0, demo.setAll [(R.NFCRD.TXLEN_LEN, 3), (R.NFCRD.INV_ADDR, 0x2018000), (R.NFCRD.INVCFG_MAX, 4)], by decide⟩
theorem witness_ReaderAndProximity_14 :
  ∃ (who : Requester) (s : State), (Works s who 0x68 0x24) ∧ (s.get R.PWR.SUPPLY_BROWNOUT = 0 ∧ s.get R.NFCTAG.STAT_SESSION = 0) ∧ (1 ≤ s.get R.NFCRD.TXLEN_LEN ∧ s.get R.NFCRD.TXLEN_LEN ≤ 64) ∧ (s.get R.NFCRD.STAT_ST < 3) :=
  ⟨0, demo.setAll [(R.NFCRD.STAT_ST, 2), (R.NFCRD.TXLEN_LEN, 3), (R.NFCRD.INV_ADDR, 0x2018000), (R.NFCRD.INVCFG_MAX, 4)], by decide⟩
theorem witness_ReaderAndProximity_15 :
  ∃ (who : Requester) (s : State), (Works s who 0x68 0x24) ∧ (s.get R.PWR.SUPPLY_BROWNOUT = 0 ∧ s.get R.NFCTAG.STAT_SESSION = 0) ∧ (invRoom (s.get R.NFCRD.INV_ADDR) (s.get R.NFCRD.INVCFG_MAX) = true) ∧ (s.get R.NFCRD.STAT_ST < 3) :=
  ⟨0, demo.setAll [(R.NFCRD.STAT_ST, 2), (R.NFCRD.TXLEN_LEN, 3), (R.NFCRD.INV_ADDR, 0x2018000), (R.NFCRD.INVCFG_MAX, 4)], by decide⟩
theorem witness_ReaderAndProximity_16 :
  ∃ (who : Requester) (s : State), (Works s who 0x68 0x24) ∧ (s.get R.PWR.SUPPLY_BROWNOUT = 0 ∧ s.get R.NFCTAG.STAT_SESSION = 0 ∧ s.get R.NFCRD.STAT_ST = 3) :=
  ⟨0, demo.set R.NFCRD.STAT_ST 3, by decide⟩
theorem witness_ReaderAndProximity_17 :
  ∃ (who : Requester) (s : State), (Works s who 0x68 0x24) ∧ (s.get R.PWR.SUPPLY_BROWNOUT = 0 ∧ s.get R.NFCTAG.STAT_SESSION = 0 ∧ s.get R.NFCRD.STAT_ST = 3) :=
  ⟨0, demo.set R.NFCRD.STAT_ST 3, by decide⟩
theorem witness_ReaderAndProximity_18 :
  ∃ (s : State), (s.get R.NFCRD.STAT_ST = 1) :=
  ⟨demo.set R.NFCRD.STAT_ST 1, by decide⟩
theorem witness_ReaderAndProximity_19 :
  ∃ (s : State), (s.get R.NFCRD.STAT_ST = 3 ∧ s.nfc.op = 3) :=
  ⟨{ demo.set R.NFCRD.STAT_ST 3 with nfc := { demo.nfc with op := 3 } }, by decide⟩
theorem witness_ReaderAndProximity_20 :
  ∃ (s : State), (s.get R.NFCRD.STAT_ST = 3 ∧ s.nfc.op = 3) :=
  ⟨{ demo.set R.NFCRD.STAT_ST 3 with nfc := { demo.nfc with op := 3 } }, by decide⟩
theorem witness_ReaderAndProximity_21 :
  ∃ (s : State), (s.get R.NFCRD.STAT_ST = 3 ∧ s.nfc.op = 3) :=
  ⟨{ demo.set R.NFCRD.STAT_ST 3 with nfc := { demo.nfc with op := 3 } }, by decide⟩
theorem witness_ReaderAndProximity_22 :
  ∃ (s : State), (s.get R.NFCRD.STAT_ST = 3 ∧ s.nfc.op = 3) :=
  ⟨{ demo.set R.NFCRD.STAT_ST 3 with nfc := { demo.nfc with op := 3 } }, by decide⟩
theorem witness_ReaderAndProximity_23 :
  ∃ (s : State), (s.get R.NFCRD.STAT_ST = 3 ∧ s.nfc.op = 4) :=
  ⟨{ demo.set R.NFCRD.STAT_ST 3 with nfc := { demo.nfc with op := 4 } }, by decide⟩
theorem witness_ReaderAndProximity_24 :
  ∃ (s : State), (s.get R.NFCRD.STAT_ST = 1 ∨ s.get R.NFCRD.STAT_ST = 2) :=
  ⟨demo.set R.NFCRD.STAT_ST 2, by decide⟩
theorem witness_ReaderAndProximity_25 :
  ∃ (c : Half) (s : State), (s.get R.CSENSE.CFG_METHOD = 1 ∧ s.mode ≠ .field ∧ s.mode ≠ .unpowered) ∧ (s.get R.CSENSE.STAT_NEAR = 0 ∧ s.nfc.base / 256 + s.get R.CSENSE.THR_DELTA ≤ c.toNat) ∧ (s.nfc.run + 1 = s.get R.CSENSE.CFG_N) :=
  ⟨200, { demo.setAll [(R.CSENSE.CFG_METHOD, 1), (R.CSENSE.CFG_N, 1), (R.CSENSE.THR_DELTA, 100)] with nfc := { demo.nfc with base := 25600, run := 0 } }, by decide⟩
theorem witness_ReaderAndProximity_26 :
  ∃ (c : Half) (s : State), (s.get R.CSENSE.CFG_METHOD = 1 ∧ s.mode ≠ .field ∧ s.mode ≠ .unpowered) ∧ (s.get R.CSENSE.STAT_NEAR = 0 ∧ c.toNat < s.nfc.base / 256 + s.get R.CSENSE.THR_DELTA) :=
  ⟨150, { demo.setAll [(R.CSENSE.CFG_METHOD, 1), (R.CSENSE.CFG_N, 1), (R.CSENSE.THR_DELTA, 100)] with nfc := { demo.nfc with base := 25600, run := 0 } }, by decide⟩
theorem witness_ReaderAndProximity_27 :
  ∃ (c : Half) (s : State), (s.get R.CSENSE.CFG_METHOD = 2 ∧ s.doms.auto.any (Nat.beq 22) = true) ∧ (s.get R.NFCTAG.STAT_FIELD = 0 ∧ s.get R.NFCRD.STAT_ST = 0 ∧ s.get R.PWR.SUPPLY_BROWNOUT = 0) ∧ (s.get R.CSENSE.STAT_NEAR = 0 ∧ s.get R.CSENSE.THR_PINGDB ≤ c.toNat ∧ s.nfc.run + 1 = s.get R.CSENSE.CFG_N) :=
  ⟨50, { demo.setAll [(R.CSENSE.CFG_METHOD, 2), (R.CSENSE.CFG_N, 1), (R.CSENSE.THR_PINGDB, 30)] with nfc := { demo.nfc with run := 0 }, doms := { demo.doms with auto := [22] } }, by decide⟩
theorem witness_ReaderAndProximity_28 :
  ∃ (s : State), (s.get R.CSENSE.STAT_NEAR = 1) :=
  ⟨demo.setAll [(R.CSENSE.STAT_NEAR, 1), (R.CSENSE.COUNT_RAW, 77)], by decide⟩
theorem witness_ReaderAndProximity_29 :
  ∃ (s : State), (s.nfc.held = true ∧ s.get R.CSENSE.STAT_NEAR = 0) ∧ (s.mode = .service ∧ s.get R.PWR.HOSTREQ_NFC = 0) :=
  ⟨{ demo with nfc := { demo.nfc with held := true } }, by decide⟩

/-- The hypotheses of `Obligations.StepTakesTheFront` can be met, clause by clause. -/
theorem witness_StepTakesTheFront_0 :
  ∃ (s : State), (s.pending = []) :=
  ⟨demo, by decide⟩
theorem witness_StepTakesTheFront_1 :
  ∃ (s : State), (s.pending = []) ∧ (s.bit R.CLK.STAT_STITCHING = false) ∧ (∀ n < 8, s.doms.asqLeft.look n = 0) :=
  ⟨demo, by decide⟩

/-- The hypotheses of `Obligations.ResetState` can be met, clause by clause. -/
theorem witness_ResetState_0 :
  ∃ (p : Nat) (r : Row), (p ∈ mappedPages ∧ r ∈ pageRows p) :=
  ⟨0, ⟨R.SYS.OUTAGE_LIMIT_MIN, .rw, 4320, .ret⟩, by decide⟩
theorem witness_ResetState_1 :
  ∃ (p : Nat) (b : Nat), (p ∈ mappedPages ∧ winPage p = false ∧ b < 32) :=
  ⟨0x60, 3, by decide⟩

/-- The hypotheses of `Obligations.RefusedAccesses` can be met, clause by clause. -/
theorem witness_RefusedAccesses_0 :
  ∃ (page : Byte) (s : State), (s.alive ∧ s.mode ≠ .boot) ∧ (mapped page.toNat = false ∧ winPage page.toNat = false) :=
  ⟨0xE0, demo, by decide⟩
theorem witness_RefusedAccesses_1 :
  ∃ (page : Byte) (off : Byte) (s : State), (s.alive ∧ s.mode ≠ .boot) ∧ (mapped page.toNat ∧ winPage page.toNat = false) ∧ (s.secureAt page.toNat (off.toNat / 4 * 4) = false ∧ s.ownerOf page.toNat (off.toNat / 4 * 4) ≠ 12) ∧ (openRegister page.toNat (off.toNat / 4 * 4) = false ∧ faultHostWrite page.toNat (off.toNat / 4 * 4) = false ∧ page ≠ 0x58) :=
  ⟨0x60, 0x20, demo.set (R.HDR.OWNER 0x60) 10, by decide⟩
theorem witness_RefusedAccesses_2 :
  ∃ (page : Byte) (off : Byte) (s : State), (s.alive ∧ s.mode ≠ .boot) ∧ (mapped page.toNat ∧ winPage page.toNat = false) ∧ (s.secureAt page.toNat (off.toNat / 4 * 4) ∧ s.ownerOf page.toNat (off.toNat / 4 * 4) ≠ 12) ∧ (openRegister page.toNat (off.toNat / 4 * 4) = false) :=
  ⟨0x60, 0x20, demo.setAll [(R.HDR.OWNER 0x60, 0), (R.HDR.SEC 0x60, 1)], by decide⟩
theorem witness_RefusedAccesses_3 :
  ∃ (page : Byte) (s : State), (s.alive ∧ s.mode = .boot) ∧ (page ≠ 0 ∧ winPage page.toNat = false) :=
  ⟨0x60, { demo with mode := .boot }, by decide⟩
theorem witness_RefusedAccesses_4 :
  ∃ (who : Requester) (page : Byte) (s : State), (s.alive ∧ who ≠ 12) ∧ (mapped page.toNat = false ∧ winPage page.toNat = false) :=
  ⟨10, 0xE0, demo, by decide⟩
theorem witness_RefusedAccesses_5 :
  ∃ (off : Byte) (s : State), (s.alive ∧ s.mode ≠ .boot) ∧ (s.ownerOf 0x60 (off.toNat / 4 * 4) = 12) ∧ (s.get R.PWR.SUPPLY_MAINS = 0 ∨ s.bridge.silent = true) :=
  ⟨0x20, (demo.set (R.HDR.OWNER 0x60) 12).set R.PWR.SUPPLY_MAINS 0, by decide⟩
theorem witness_RefusedAccesses_6 :
  ∃ (s : State), (s.mode = .hold ∨ s.mode = .field ∨ s.mode = .unpowered) :=
  ⟨demoHold, by decide⟩
theorem witness_RefusedAccesses_7 :
  ∃ (who : Requester) (page : Byte) (s : State), (Writes s who page.toNat 0x04) ∧ (alwaysOn page.toNat = false ∧ s.get (R.HDR.LOCK page.toNat) = 1) :=
  ⟨0, 0x60, demo.set (R.HDR.LOCK 0x60) 1, by decide⟩
theorem witness_RefusedAccesses_8 :
  ∃ (who : Requester) (page : Byte) (s : State), (Writes s who page.toNat 0x04 ∧ hasReg page.toNat 0x04) ∧ (winPage page.toNat = false ∧ engPage page.toNat = false ∧ alwaysOn page.toNat = false) ∧ (s.get (R.HDR.LOCK page.toNat) = 1 ∧ s.get (R.HDR.ST page.toNat) = 2) :=
  ⟨0, 0x60, demo.set (R.HDR.LOCK 0x60) 1, by decide⟩

/-- The hypotheses of `Obligations.CanonicalKept` can be met, clause by clause. -/
theorem witness_CanonicalKept_0 :
  ∃ (s : State), (Canonical s = true) :=
  ⟨demo, by decide⟩
end

/-! # What every command keeps

The canonical forms of the field table, shared SRAM and the flash array, and the queue of commands. `Keeps s t` says so of two states and is
closed under every operation of the model; each lemma of this part says it for one operation, in the order of the definitions, and its proof
follows the operation's own text: one link of the chain per operation it calls, one `cond` per choice it makes. -/

section
namespace Sys2Proof.Machine

open Sys2Proof

-- One theorem after another: elaborated side by side, lemmas as many as these ask for more threads than the check's memory limit allows.
set_option Elab.async false

/-- From `s` to `t` the canonical forms are kept, and the queue of commands is the same. -/
structure Keeps (s t : State) : Prop where
  canonical : Canonical s = true → Canonical t = true
  queue : t.pending = s.pending

/-- The outcome is a next state that keeps what `s` has. -/
def Advances (s : State) (o : Host.Outcome State Fault Refusal) : Prop := ∃ t, o = .next t ∧ Keeps s t

/-- What is found, if anything is, has the property. -/
def OnSome {α : Type} (P : α → Prop) (o : Option α) : Prop := ∀ r, o = some r → P r

/-- What an access or an instruction answers, if nothing is wrong with it, has the property. -/
def OnOk {α : Type} (P : α → Prop) (x : Except Flaw α) : Prop := ∀ r, x = .ok r → P r

/-- The flash array is in canonical form. -/
def Flash.Wf (f : Flash) : Prop := Memory.wf 0xFF f.cells = true

variable {s t : State}

/-! ### Chaining -/

theorem Keeps.refl (s : State) : Keeps s s := ⟨id, rfl⟩

theorem Keeps.trans {u : State} (h : Keeps s t) (k : Keeps t u) : Keeps s u :=
  ⟨fun c => k.canonical (h.canonical c), k.queue.trans h.queue⟩

/-- A change within pieces that the queue is none of. -/
theorem Keeps.frame {u : State} {ps : List Piece} (h : Keeps s t) (f : Frame ps t u) (hq : Piece.pending ∉ ps) : Keeps s u :=
  h.trans ⟨f.2, f.1 .pending hq⟩

theorem Keeps.cond {b : Bool} {x y : State} (hx : Keeps s x) (hy : Keeps s y) : Keeps s (bif b then x else y) := by
  cases b <;> assumption

theorem Keeps.condFst {α : Type} {b : Bool} {x y : State × α} (hx : Keeps s x.1) (hy : Keeps s y.1) :
    Keeps s (bif b then x else y).1 := by
  cases b <;> assumption

theorem Keeps.foldl {α : Type} {l : List α} {f : State → α → State} (h : Keeps s t)
    (hf : ∀ u a, Keeps s u → Keeps s (f u a)) : Keeps s (l.foldl f t) := by
  induction l generalizing t with
  | nil => exact h
  | cons a l ih => exact ih (hf t a h)

theorem Keeps.foldlFst {α β : Type} {l : List α} {f : State × β → α → State × β} {r : State × β} (h : Keeps s r.1)
    (hf : ∀ u a, Keeps s u.1 → Keeps s (f u a).1) : Keeps s (l.foldl f r).1 := by
  induction l generalizing r with
  | nil => exact h
  | cons a l ih => exact ih (hf r a h)

/-! ### Outcomes and answers -/

theorem Advances.next (h : Keeps s t) : Advances s (.next t) := ⟨t, rfl, h⟩

theorem Advances.cond {b : Bool} {x y : Host.Outcome State Fault Refusal} (hx : Advances s x) (hy : Advances s y) :
    Advances s (bif b then x else y) := by
  cases b <;> assumption

/-- The state that a command leaves. -/
theorem Advances.run {o : Host.Outcome State Fault Refusal} (h : Advances s o) : Keeps s (t.run o) := by
  obtain ⟨u, rfl, hu⟩ := h
  exact hu

theorem OnSome.some {α : Type} {P : α → Prop} {r : α} (h : P r) : OnSome P (some r) := by
  rintro _ ⟨⟩
  exact h

theorem OnSome.none {α : Type} {P : α → Prop} : OnSome P none := nofun

theorem OnSome.cond {α : Type} {P : α → Prop} {b : Bool} {x y : Option α} (hx : OnSome P x) (hy : OnSome P y) :
    OnSome P (bif b then x else y) := by
  cases b <;> assumption

theorem OnSome.map {α β : Type} {P : α → Prop} {Q : β → Prop} {g : α → β} {o : Option α} (h : OnSome P o) (hg : ∀ r, P r → Q (g r)) :
    OnSome Q (o.map g) := by
  cases o with
  | none => exact .none
  | some r => exact .some (hg r (h r rfl))

theorem OnOk.ok {α : Type} {P : α → Prop} {r : α} (h : P r) : OnOk P (.ok r) := by
  rintro _ ⟨⟩
  exact h

theorem OnOk.error {α : Type} {P : α → Prop} {x : Flaw} : OnOk P (.error x) := nofun

theorem OnOk.cond {α : Type} {P : α → Prop} {b : Bool} {x y : Except Flaw α} (hx : OnOk P x) (hy : OnOk P y) :
    OnOk P (bif b then x else y) := by
  cases b <;> assumption

/-! ### Updates of the state's pieces -/

/-- An update of pieces that have no canonical form; of the flash piece only the cells have one. -/
theorem Keeps.upd {mode modes bridge supply ret doms spi compat engines cluster fabric rtc dma flash garnet update strata radio plc sched
    mesh assoc msg pair keys lastRead lamp nfc freeCount} (h : Keeps s t) (hf : t.flash.Wf → flash.Wf := by exact id) :
    Keeps s (State.mk t.regs mode modes bridge supply ret doms spi compat engines cluster fabric rtc dma flash garnet update strata
      t.mem radio plc sched mesh assoc msg pair keys lastRead lamp nfc freeCount t.pending) := by
  refine h.trans ⟨fun c => ?_, rfl⟩
  simp only [Canonical, Bool.and_eq_true] at c ⊢
  exact ⟨c.1, hf c.2⟩

/-- The same with shared SRAM among the pieces. -/
theorem Keeps.updMem {mode modes bridge supply ret doms spi compat engines cluster fabric rtc dma garnet update strata mem radio plc sched
    mesh assoc msg pair keys lastRead lamp nfc freeCount} (h : Keeps s t) (hm : Memory.wf 0 t.mem = true → Memory.wf 0 mem = true) :
    Keeps s (State.mk t.regs mode modes bridge supply ret doms spi compat engines cluster fabric rtc dma t.flash garnet update strata
      mem radio plc sched mesh assoc msg pair keys lastRead lamp nfc freeCount t.pending) := by
  refine h.trans ⟨fun c => ?_, rfl⟩
  simp only [Canonical, Bool.and_eq_true] at c ⊢
  exact ⟨⟨c.1.1, hm c.1.2⟩, c.2⟩

theorem Keeps.regs {r : Regs} (h : Keeps s t) (hr : t.regs.wf = true → r.wf = true) : Keeps s { t with regs := r } :=
  h.frame (Frame.upd_regs t r hr) (by decide)

theorem Keeps.mem {m : Memory} (h : Keeps s t) (hm : Memory.wf 0 t.mem = true → Memory.wf 0 m = true) : Keeps s { t with mem := m } :=
  h.frame (Frame.upd_mem t m hm) (by decide)

/-- Shared SRAM loses a stretch. -/
theorem Keeps.clearMem {lo hi : Nat} (h : Keeps s t) : Keeps s { t with mem := t.mem.clearRange lo hi } :=
  h.mem (Memory.wf_clearRange 0 _ lo hi)

theorem Regs.wf_putAll (r : Regs) (l : List (Nat × Nat)) (w : r.wf = true) : (r.putAll l).wf = true := by
  unfold Regs.putAll
  induction l generalizing r with
  | nil => exact w
  | cons kv l ih => exact ih _ (Regs.wf_put r kv.1 kv.2 w)

/-! ### The flash array -/

theorem Flash.Wf.program {f : Flash} {a : Nat} {bs : List Byte} (w : f.Wf) : (f.program a bs).Wf := by
  induction bs generalizing f a with
  | nil => exact w
  | cons b bs ih => exact ih (Memory.wf_store 0xFF f.cells _ _ w)

theorem Flash.Wf.cond {b : Bool} {f g : Flash} (hf : f.Wf) (hg : g.Wf) : (bif b then f else g).Wf := by
  cases b <;> assumption

theorem Flash.Wf.eraseSector {f : Flash} {sector : Nat} (w : f.Wf) : (f.eraseSector sector).Wf :=
  w.cond (Memory.wf_clearRange 0xFF f.cells _ _ w)

/-- Flash operations one after another. -/
theorem Flash.Wf.foldl {α : Type} {f : Flash} {l : List α} {g : Flash → α → Flash} (w : f.Wf) (hg : ∀ f a, f.Wf → (g f a).Wf) :
    (l.foldl g f).Wf := by
  induction l generalizing f with
  | nil => exact w
  | cons a l ih => exact ih (hg f a w)

theorem Flash.Wf.eraseBlock {f : Flash} {block : Nat} (w : f.Wf) : (f.eraseBlock block).Wf := w.foldl fun _ _ w => w.eraseSector

theorem Flash.Wf.eraseAt {f : Flash} {a : Nat} {block : Bool} (w : f.Wf) : (f.eraseAt a block).Wf := w.eraseBlock.cond w.eraseSector

theorem Flash.Wf.rollover {f : Flash} (w : f.Wf) : f.rollover.Wf := .cond w w

theorem Flash.Wf.jopen {f : Flash} {kind k addr : Nat} (w : f.Wf) : (f.jopen kind k addr).1.Wf := w.rollover

theorem Flash.Wf.jdone {f : Flash} {seq : Nat} (w : f.Wf) : (f.jdone seq).Wf := w

theorem Flash.Wf.erased {f : Flash} {a : Nat} {block : Bool} (w : f.Wf) : (f.erased a block).Wf := w.jopen.eraseAt.jdone

theorem Flash.Wf.finishErase {f : Flash} (w : f.Wf) : f.finishErase.Wf := by
  unfold Flash.finishErase
  split
  · exact w
  · next e _ => exact (Flash.Wf.eraseAt (f := { f with erase := none }) w).jdone

theorem Flash.Wf.swap {f : Flash} {bb : Nat} (w : f.Wf) : OnSome Flash.Wf (f.swap bb) :=
  .cond .none (.cond (.some (.cond w w)) (.some (.cond w.rollover w.rollover)))

theorem Flash.Wf.clearRange {f : Flash} {lo hi : Nat} (w : f.Wf) : Flash.Wf { f with cells := f.cells.clearRange lo hi } :=
  Memory.wf_clearRange 0xFF _ _ _ w

theorem Flash.Wf.retire {f : Flash} {sector at_ : Nat} {patch : List Byte} (w : f.Wf) : OnSome Flash.Wf (f.retire sector at_ patch) := by
  unfold Flash.retire
  refine .cond .none (.some (Flash.Wf.program ?_))
  dsimp only [Flash.Wf]
  refine Memory.wf_storeList 0xFF _ _ _ ?_
  exact Flash.Wf.cond w.rollover w.rollover.clearRange

theorem Flash.Wf.copyTo {f : Flash} {src dst n : Nat} (w : f.Wf) : (f.copyTo src dst n).Wf := by
  unfold Flash.copyTo
  exact (w.foldl fun _ _ w => w.erased).program

theorem Flash.Wf.copyPart {f : Flash} {bb : Nat} {p : Part} (w : f.Wf) : (f.copyPart bb p).Wf := w.cond w.copyTo

/-! ### Registers (RegOps.lean) -/

theorem Keeps.set {f : Fld} {v : Nat} (h : Keeps s t) : Keeps s (t.set f v) := h.frame (Frame.set t f v) (by decide)

theorem Keeps.setAll {l : List (Fld × Nat)} (h : Keeps s t) : Keeps s (t.setAll l) := h.frame (Frame.setAll t l) (by decide)

theorem Keeps.setBit {f : Fld} {b : Bool} (h : Keeps s t) : Keeps s (t.setBit f b) := h.set

theorem Keeps.bump {f : Fld} {n : Nat} (h : Keeps s t) : Keeps s (t.bump f n) := h.set

theorem Keeps.bumpWrap {f : Fld} {n : Nat} (h : Keeps s t) : Keeps s (t.bumpWrap f n) := h.set

theorem Keeps.onlyIf {b : Bool} {f : State → State} (h : Keeps s t) (hf : ∀ u, Keeps s u → Keeps s (f u)) :
    Keeps s (t.onlyIf b f) := .cond (hf _ h) h

theorem Keeps.each {α : Type} {l : List α} {f : α → State → State} (h : Keeps s t) (hf : ∀ a u, Keeps s u → Keeps s (f a u)) :
    Keeps s (t.each l f) := h.foldl fun u a => hf a u

/-! ### Ops.lean -/

theorem Keeps.setEng {k : Nat} {e : Engine} (h : Keeps s t) : Keeps s (t.setEng k e) := h.upd

theorem Keeps.modEng {k : Nat} {f : Engine → Engine} (h : Keeps s t) : Keeps s (t.modEng k f) := h.setEng

theorem Keeps.startXo (h : Keeps s t) : Keeps s t.startXo := .cond h h.set.bump

theorem Keeps.startClocks (h : Keeps s t) : Keeps s t.startClocks := .cond h h.startXo.setAll

theorem Keeps.abortCount {k pt : Nat} (h : Keeps s t) : Keeps s (t.abortCount k pt) := h.bump.setAll

theorem Keeps.endEntry {k : Nat} (h : Keeps s t) : Keeps s (t.endEntry k) := h.upd

theorem Keeps.abandonEntry {k pt : Nat} (h : Keeps s t) : Keeps s (t.abandonEntry k pt) := h.endEntry.abortCount.set

theorem Keeps.wakeDomain {k src : Nat} (h : Keeps s t) : Keeps s (t.wakeDomain k src) :=
  .cond h.startClocks.setAll (.cond (.cond h.abandonEntry h.startClocks.set) h)

theorem Keeps.sramStore {a : Nat} {bs : List Byte} (h : Keeps s t) : Keeps s (t.sramStore a bs) :=
  h.frame (Frame.sramStore t a bs) (by decide)

theorem startClocks_mem (t : State) : t.startClocks.mem = t.mem := by
  unfold State.startClocks State.startXo
  cases t.bit R.CLK.STAT_PLL_LOCK <;> cases t.bit R.CLK.STAT_XO_ON <;> rfl

theorem Keeps.wakeBank {k src : Nat} (h : Keeps s t) : Keeps s (t.wakeBank k src).1 := by
  refine .condFst h (.condFst h (.condFst (.setAll ?_) h.wakeDomain))
  exact h.startClocks.updMem fun w => Memory.wf_clearRange 0 _ _ _ (startClocks_mem t ▸ w)

theorem Keeps.noteRefusal {who reason addr : Nat} {wr : Bool} (h : Keeps s t) :
    Keeps s (t.noteRefusal who reason addr wr) := .cond h.setAll.bump.upd h.setAll.bump

theorem Keeps.noteBankOff {who sys : Nat} {wr : Bool} (h : Keeps s t) : Keeps s (t.noteBankOff who sys wr).1 :=
  h.noteRefusal.set

theorem Keeps.dmaFetch {c : Nat} (h : Keeps s t) : Keeps s (t.dmaFetch c).1 :=
  .condFst h.wakeBank.noteBankOff.setAll.bump (.condFst h.wakeBank.set (.condFst h.wakeBank.set.set h.wakeBank.upd.set))

theorem Keeps.dmaTrigger {c : Nat} (h : Keeps s t) : Keeps s (t.dmaTrigger c).1 :=
  .condFst h (.condFst h.upd (.condFst h.upd.upd.set (.condFst h.upd.dmaFetch h.upd)))

theorem Keeps.pendInput {n : Nat} (h : Keeps s t) : Keeps s (t.pendInput n) :=
  .cond h.wakeDomain.set.setEng h.wakeDomain.set

theorem Keeps.capture {i count : Nat} {lf : Bool} (h : Keeps s t) : Keeps s (t.capture i count lf) := h.set.set.setBit

theorem Keeps.flags {l : List (Nat × Nat)} (h : Keeps s t) : Keeps s (t.flags l) := h.frame (Frame.flags t l) (by decide)

theorem Keeps.deliver {n : Nat} {cap : Nat → Nat × Bool} (h : Keeps s t) : Keeps s (t.deliver n cap).1 :=
  .condFst h <|
  .condFst (.condFst h.set h.pendInput) (.condFst (.condFst h.capture.set.set h.capture) (.condFst h.set h.dmaTrigger))

theorem Keeps.pulse {cap : Nat → Nat × Bool} {fuel : Nat} {ps : List Nat} (h : Keeps s t) : Keeps s (State.pulse cap fuel ps t) := by
  induction fuel generalizing t ps with
  | zero => exact h
  | succ fuel ih =>
    cases ps with
    | nil => exact h
    | cons p ps => exact ih (.flags (h.foldlFst fun _ _ hu => hu.deliver))

theorem Keeps.fireNow {p : Nat} (h : Keeps s t) : Keeps s (t.fireNow p) := h.pulse

theorem Keeps.wakeCore {src : Nat} (h : Keeps s t) : Keeps s (t.wakeCore src) := .cond h h.wakeDomain.wakeDomain

theorem Keeps.latchEvent {p : Nat} (h : Keeps s t) : Keeps s (t.latchEvent p) := .cond (.cond h.set h) h.upd.wakeDomain

theorem Keeps.fire {p : Nat} (h : Keeps s t) : Keeps s (t.fire p) :=
  .cond h.fireNow (.cond h.latchEvent (.cond h.wakeDomain.fireNow h))

theorem Keeps.raise {p b : Nat} (h : Keeps s t) : Keeps s (t.raise p b) :=
  .cond h.set.pulse (.cond (h.set.each (fun _ _ hu => hu.latchEvent)) h.set)

theorem Keeps.raiseIf {c : Bool} {p b : Nat} (h : Keeps s t) : Keeps s (t.raiseIf c p b) := .cond h.raise h

theorem Keeps.refuse {p reason info : Nat} (h : Keeps s t) : Keeps s (t.refuse p reason info) := h.set.set

theorem Keeps.refuseAccess {who reason addr : Nat} {wr : Bool} (h : Keeps s t) :
    Keeps s (t.refuseAccess who reason addr wr) := h.noteRefusal.raise

theorem Keeps.spend {n : Nat} (h : Keeps s t) : Keeps s (t.spend n) := h.upd

theorem Keeps.wakeEngine {k : Nat} (h : Keeps s t) : Keeps s (t.wakeEngine k) := h.modEng.wakeDomain.wakeDomain

theorem Keeps.deliverMail {dest : Nat} {m : Mail} (h : Keeps s t) : Keeps s (t.deliverMail dest m).1 :=
  .condFst h (.condFst h h.modEng.wakeEngine)

theorem Keeps.answer {src dest t' tag w1 w2 w3 w4 : Nat} (h : Keeps s t) :
    Keeps s (t.answer src dest t' tag w1 w2 w3 w4) := h.deliverMail

theorem Keeps.indicate {cmd : Nat} {payload : List Byte} (h : Keeps s t) : Keeps s (t.indicate cmd payload) :=
  .cond h.upd h

theorem Keeps.indicateAlarm (h : Keeps s t) : Keeps s t.indicateAlarm := .cond h.indicate.spend h

/-! ### Recorder.lean -/

theorem Keeps.strataClose (h : Keeps s t) : Keeps s t.strataClose := by
  unfold State.strataClose
  split
  · exact h
  · exact h.upd.bump.bumpWrap.set

theorem Keeps.strataLoss (h : Keeps s t) : Keeps s t.strataLoss := h.upd

theorem Keeps.strataLose (h : Keeps s t) : Keeps s t.strataLose := h.bump.refuse.raise

theorem Keeps.strataOpen {sub : Submission} {names : Option (Nat × Nat × List Byte)} (h : Keeps s t) :
    Keeps s (t.strataOpen sub names).1 :=
  .condFst h.set.raise.strataLose (h.strataClose.upd.setAll.bumpWrap.onlyIf (fun _ hu => hu.bump))

theorem Keeps.strataTake {sub : Submission} (h : Keeps s t) : Keeps s (t.strataTake sub).1 := by
  unfold State.strataTake
  dsimp only
  split
  · split <;> exact h.strataOpen
  · exact .condFst (.cond h.upd.bump.bumpWrap.strataClose h.upd.bump.bumpWrap) (by split <;> exact h.strataOpen)

theorem Keeps.strataServe {sub : Submission} (h : Keeps s t) : Keeps s (t.strataServe sub) := by
  unfold State.strataServe
  dsimp only
  split
  · exact h.strataTake
  · exact h.strataTake.answer

theorem Keeps.submit {sub : Submission} (h : Keeps s t) : Keeps s (t.submit sub) :=
  .cond (.cond h.upd (by split; exacts [h.strataLose, h.strataLose.answer])) h.strataServe

theorem Keeps.record {src type : Nat} {body : List Byte} (h : Keeps s t) : Keeps s (t.record src type body) := h.submit

theorem Keeps.strataDrain (h : Keeps s t) : Keeps s t.strataDrain := h.upd.each (fun _ _ hu => hu.strataServe)

/-! ### FlashBase.lean -/

theorem Keeps.noteRetire {sector status : Nat} (h : Keeps s t) : Keeps s (t.noteRetire sector status) :=
  h.set.raise.record

theorem Keeps.retireSector {sector at_ : Nat} {patch : List Byte} (h : Keeps s t) :
    Keeps s (t.retireSector sector at_ patch).1 := by
  unfold State.retireSector
  split
  · next f e => exact (h.upd fun w => w.retire f e).noteRetire
  · exact h.raise.record

/-! ### Media.lean -/

theorem Keeps.setAir {m : Medium} {a : Air} (h : Keeps s t) : Keeps s (t.setAir m a) := by
  unfold State.setAir
  split <;> exact h.upd

theorem Keeps.modAir {m : Medium} {f : Air → Air} (h : Keeps s t) : Keeps s (t.modAir m f) := h.setAir

theorem Keeps.setChain {c : Chain} {x : ChainSt} (h : Keeps s t) : Keeps s (t.setChain c x) := by
  unfold State.setChain
  split <;> exact h.upd

theorem Keeps.modChain {c : Chain} {f : ChainSt → ChainSt} (h : Keeps s t) : Keeps s (t.modChain c f) := h.setChain

theorem Keeps.setPhy {m : Medium} {k : Nat} (h : Keeps s t) : Keeps s (t.setPhy m k) := .cond h.set h.set

theorem Keeps.freeBank {m : Medium} (h : Keeps s t) : Keeps s (t.freeBank m) := .cond h.setAll h

theorem Keeps.rest {m : Medium} (h : Keeps s t) : Keeps s (t.rest m) := .cond h.modAir.freeBank.setPhy h.modAir.freeBank

theorem Keeps.dropSent {m : Medium} (h : Keeps s t) : Keeps s (t.dropSent m) := by
  unfold State.dropSent
  exact h.upd.modAir

theorem Keeps.quiet {m : Medium} (h : Keeps s t) : Keeps s (t.quiet m) := by
  unfold State.quiet
  exact .modAir (.rest (.dropSent (.cond h.upd h)))

/-! ### Cores.lean -/

theorem Keeps.extend {slot event object : Nat} {d : List Byte} (h : Keeps s t) :
    Keeps s (t.extend slot event object d) := .raise (.cond h.upd.set h.upd.sramStore.set)

theorem Keeps.loadTable {k : Nat} {p : Part} (h : Keeps s t) : Keeps s (t.loadTable k p) := by
  unfold State.loadTable
  exact h.modEng

theorem Keeps.tableVerdict {k : Nat} {ok : Bool} (h : Keeps s t) : Keeps s (t.tableVerdict k ok) := h.modEng.setBit

theorem Keeps.engReset {k : Nat} (h : Keeps s t) : Keeps s (t.engReset k) :=
  .setAll (.bumpWrap (.upd (.setEng (by split; exacts [h.quiet, h]))))

theorem Keeps.referenceStart (h : Keeps s t) : Keeps s t.referenceStart :=
  .cond (h.upd.each (fun _ _ hu => .cond hu.setAll hu)) h

theorem Keeps.engRelease {k : Nat} (h : Keeps s t) : Keeps s (t.engRelease k) :=
  h.onlyIf (fun _ hu => hu.referenceStart) |>.modEng.setAll.setBit

theorem Keeps.loadImage {k : Nat} {bs : List Byte} (h : Keeps s t) : Keeps s (t.loadImage k bs) := h.modEng

theorem Keeps.engStays {k : Nat} (h : Keeps s t) : Keeps s (t.engStays k) := h.setAll

theorem Keeps.reloadTable {k : Nat} (h : Keeps s t) : Keeps s (t.reloadTable k) :=
  .cond h (by split; exacts [h, h.loadTable.extend.tableVerdict])

theorem Keeps.engStarts {k : Nat} (h : Keeps s t) : Keeps s (t.engStarts k) :=
  .cond h.reloadTable.engStays h.reloadTable.engRelease

theorem Keeps.engRestart {k : Nat} (h : Keeps s t) : Keeps s (t.engRestart k) :=
  .cond h.engReset.extend.reloadTable.engRelease <|
  .cond h.engReset.engStays <|
  by split; exacts [h.engReset.engStays, .cond h.engReset.extend.loadImage.engStarts h.engReset.extend.engStays]

theorem Keeps.levels (h : Keeps s t) : Keeps s t.levels := by
  unfold State.levels
  extract_lets _ _ t₁
  have h₁ : Keeps s t₁ := h.setBit.setBit.onlyIf (fun _ hu => hu.wakeCore)
  exact .cond h₁.upd h₁

/-! ### Retention.lean -/

theorem Keeps.showProfile {p : Profile} (h : Keeps s t) : Keeps s (t.showProfile p) := h.setAll

theorem Keeps.commit (h : Keeps s t) : Keeps s t.commit := .cond h.upd h.upd.set

theorem Keeps.commitEnd {ok : Bool} (h : Keeps s t) : Keeps s (t.commitEnd ok) :=
  h.upd.setAll.onlyIf (fun _ hu => hu.commit)

theorem Keeps.commitNow (h : Keeps s t) : Keeps s t.commitNow :=
  h.onlyIf (fun _ hu => hu.commitEnd) |>.onlyIf (fun _ hu => hu.commit) |>.commitEnd

theorem Keeps.runningValue {f : Fld} (h : Keeps s t) : Keeps s (t.runningValue f) := .cond h.upd h

theorem Keeps.putRet {l : Regs} (h : Keeps s t) : Keeps s (t.putRet l) :=
  h.regs fun w => Regs.wf_putAll _ _ (Regs.wf_filter _ _ 0 w)

theorem Keeps.takeRecord {r : RetRecord} (h : Keeps s t) : Keeps s (t.takeRecord r) := h.putRet.upd.showProfile

theorem Keeps.takeDefaults (h : Keeps s t) : Keeps s t.takeDefaults := h.putRet.upd.showProfile

theorem Keeps.restore (h : Keeps s t) : Keeps s t.restore :=
  .cond (.record (.raise (.onlyIf (.setAll (by split; exacts [h.takeRecord, h.takeDefaults])) (fun _ hu => hu.set)))) <|
  .onlyIf (.setAll (by split; exacts [h.takeRecord, h.takeDefaults])) (fun _ hu => hu.set)

theorem Keeps.pageReset {p : Nat} (h : Keeps s t) : Keeps s (t.pageReset p) :=
  h.regs fun w => Regs.wf_putAll _ _ (Regs.wf_putAll _ _ (Regs.wf_putAll _ _ (Regs.wf_filter _ _ 0 w)))

theorem Regs.wf_reset : Regs.reset.wf = true := by decide +kernel

theorem Keeps.resetCore (h : Keeps s t) : Keeps s t.resetCore := by
  refine h.trans ⟨fun c => ?_, rfl⟩
  simp only [Canonical, Bool.and_eq_true] at c ⊢
  exact ⟨⟨Regs.wf_putAll _ _ (Regs.wf_filter _ _ 0 Regs.wf_reset), c.1.2⟩, c.2⟩

theorem Keeps.toBoot (h : Keeps s t) : Keeps s t.toBoot :=
  (h.regs fun _ => Regs.wf_putAll _ _ (Regs.wf_filter _ _ 0 Regs.wf_reset)).upd.set.upd

theorem Keeps.holdRet {u : State} (h : Keeps s t) : Keeps s (u.holdRet t) := by
  unfold State.holdRet
  exact h.putRet

theorem Keeps.strataOrdered {cause : Fld} (h : Keeps s t) : Keeps s (t.strataOrdered cause) := .cond h h.strataClose

theorem Keeps.moduleReset {cause : Fld} (h : Keeps s t) : Keeps s (t.moduleReset cause) := by
  unfold State.moduleReset
  split
  · exact h
  · exact h
  · exact h.set
  · extract_lets t₁ _ _ t₂ t₃
    have h₁ : Keeps s t₁ := h.strataOrdered.strataLoss.resetCore.holdRet
    have h₂ : Keeps s t₂ := h₁.updMem fun _ => rfl
    have h₃ : Keeps s t₃ := h₂.set.set
    exact h₃.onlyIf fun _ hu => hu.toBoot
  · extract_lets t₁
    have h₁ : Keeps s t₁ := h.strataOrdered.resetCore
    exact h₁.upd.set.set

/-! ### FaultOps.lean -/

theorem Keeps.clearSlots (h : Keeps s t) : Keeps s t.clearSlots := h.setAll

theorem Keeps.e0Expire (h : Keeps s t) : Keeps s t.e0Expire := by
  unfold State.e0Expire
  extract_lets t₁
  have h₁ : Keeps s t₁ := h.bump.raise
  split
  · exact .cond h₁.moduleReset h₁.upd.engRestart
  · exact h₁.upd.engRestart

theorem Keeps.escWindow (h : Keeps s t) : Keeps s t.escWindow := h.upd.set

theorem Keeps.countEscalation (h : Keeps s t) : Keeps s t.countEscalation :=
  .cond h.escWindow.upd.set.moduleReset.upd h.escWindow.upd.set

theorem Keeps.escalate {cause src detail addr : Nat} (h : Keeps s t) : Keeps s (t.escalate cause src detail addr) :=
  h.each (fun _ _ hu => hu.engRestart) |>.set.raise.record.clearSlots.levels.indicateAlarm
    |>.onlyIf (fun _ hu => hu.e0Expire) |>.countEscalation

theorem Keeps.stopEngine {src : Nat} (h : Keeps s t) : Keeps s (t.stopEngine src) := .cond h.modEng h

theorem Keeps.capFault {cause src detail addr : Nat} (h : Keeps s t) : Keeps s (t.capFault cause src detail addr) := by
  unfold State.capFault
  extract_lets t₁
  have h₁ : Keeps s t₁ := h.bump.stopEngine
  exact .cond h₁.setAll.raise.fire.levels (.cond h₁.escalate h₁.setAll.raise.fire)

theorem Keeps.faultDone (h : Keeps s t) : Keeps s t.faultDone := .cond h.setAll.levels h.set.levels

/-! ### Access.lean -/

theorem Keeps.domDown {k : Nat} (h : Keeps s t) : Keeps s (t.domDown k) := (h.onlyIf fun _ hu => hu.clearMem).upd.set

theorem Keeps.coldPage {p : Nat} (h : Keeps s t) : Keeps s (t.coldPage p) :=
  .cond h ((h.pageReset.set.regs fun w => Regs.wf_putAll _ _ w).onlyIf fun _ hu => hu.setAll)

theorem Keeps.coldChain {k : Nat} (h : Keeps s t) : Keeps s (t.coldChain k) :=
  .cond h.setAll (.cond h.setAll (.cond h.set h))

theorem Keeps.wakeReady {k : Nat} (h : Keeps s t) : Keeps s (t.wakeReady k) :=
  h.upd.onlyIf (fun _ hu => hu.clearMem) |>.onlyIf (fun _ hu => hu.each fun _ _ hv => hv.coldPage)
    |>.onlyIf (fun _ hu => hu.coldChain) |>.set.raiseIf

theorem Keeps.wakeStart {k src : Nat} (h : Keeps s t) : Keeps s (t.wakeStart k src) := .cond h h.upd.setAll

theorem Keeps.wakeFor {k src : Nat} (h : Keeps s t) : Keeps s (t.wakeFor k src).1 :=
  .condFst h (.condFst h (.condFst h.wakeBank (.condFst h (.condFst h.abandonEntry h.startClocks.wakeStart.wakeReady))))

theorem Keeps.domainOff {who addr : Nat} {wr : Bool} (h : Keeps s t) : Keeps s (t.domainOff who addr wr) :=
  h.refuseAccess.set.raise

theorem Keeps.bankOff {who sys : Nat} {wr : Bool} (h : Keeps s t) : Keeps s (t.bankOff who sys wr) :=
  h.noteBankOff.each (fun _ _ hu => hu.raise)

theorem Keeps.guard {who p off : Nat} {wr : Bool} (h : Keeps s t) : Keeps s (t.guard who p off wr).1 :=
  .condFst h <|
  .condFst h.wakeDomain.refuseAccess <|
  .condFst h.wakeDomain.refuseAccess <|
  .condFst h.wakeDomain.refuseAccess <|
  .condFst h.wakeDomain.domainOff (.condFst h.wakeDomain (.condFst h.wakeDomain.wakeFor h.wakeDomain.wakeFor.domainOff))

theorem Keeps.guarded {who p off : Nat} {f : State → State} (h : Keeps s t) (hf : ∀ u, Keeps s u → Keeps s (f u)) :
    Keeps s (t.guarded who p off f) := .cond (.cond h.guard.refuse (hf _ h.guard)) h.guard

theorem Keeps.ready {p off : Nat} {f : State → State} (h : Keeps s t) (hf : ∀ u, Keeps s u → Keeps s (f u)) :
    Keeps s (t.ready p off f) := .cond (hf _ h) h.refuse

theorem Keeps.operate {who p off : Nat} {f : State → State} (h : Keeps s t) (hf : ∀ u, Keeps s u → Keeps s (f u)) :
    Keeps s (t.operate who p off f) := h.guarded (fun _ hu => hu.ready hf)

theorem Keeps.writeCmd {who p off : Nat} {f : State → State} (h : Keeps s t) (hf : ∀ u, Keeps s u → Keeps s (f u)) :
    Advances s (t.writeCmd who p off f) := .next (h.guarded hf)

theorem Keeps.command {who p off : Nat} {f : State → State} (h : Keeps s t) (hf : ∀ u, Keeps s u → Keeps s (f u)) :
    Advances s (t.command who p off f) := .next (h.operate hf)

/-! ### Dma.lean -/

theorem Keeps.raises {l : List (Nat × Nat)} (h : Keeps s t) : Keeps s (t.raises l) := h.each (fun _ _ hu => hu.raise)

theorem Keeps.dmaStart {c : Nat} (h : Keeps s t) : Keeps s (t.dmaStart c) := h.dmaFetch.raises

theorem Keeps.dmaRun {c : Nat} (h : Keeps s t) : Keeps s (t.dmaRun c) := .cond h.refuse (.cond h.set.dmaStart h)

theorem Keeps.dmaStopped {c : Nat} (h : Keeps s t) : Keeps s (t.dmaStopped c) := h.upd.set.set

theorem Keeps.dmaStop {c : Nat} (h : Keeps s t) : Keeps s (t.dmaStop c) := .cond h (.cond h.upd h.dmaStopped)

theorem Keeps.dmaPoke {c : Nat} (h : Keeps s t) : Keeps s (t.dmaPoke c) := .cond h.refuse (.cond h.dmaStart h)

theorem Keeps.dmaCtl {c w : Nat} (h : Keeps s t) : Keeps s (t.dmaCtl c w) :=
  .onlyIf (.cond (.cond h.dmaRun h) (.cond h.dmaStop h)) (fun _ hu => hu.dmaPoke)

theorem Keeps.execDmaRunSet {who : Requester} {c : Fin 16} (h : Keeps s t) : Advances s (execDmaRunSet who c t) :=
  h.command (fun _ hu => hu.dmaRun)

theorem Keeps.execDmaRunClear {who : Requester} {c : Fin 16} (h : Keeps s t) : Advances s (execDmaRunClear who c t) :=
  h.command (fun _ hu => hu.dmaStop)

theorem Keeps.execDmaPoke {who : Requester} {c : Fin 16} (h : Keeps s t) : Advances s (execDmaPoke who c t) :=
  h.command (fun _ hu => hu.dmaPoke)

theorem Keeps.execDmaTrigger {c : Fin 12} (h : Keeps s t) : Advances s (execDmaTrigger c t) :=
  .next (.cond h.deliver.raises h)

theorem Keeps.dmaBusError {addr : Nat} (h : Keeps s t) : Keeps s (t.dmaBusError addr) :=
  .cond h.bump h.bump.set.set.fire.raise

theorem Keeps.dmaClear {who : Nat} (h : Keeps s t) : Keeps s (t.dmaClear who) :=
  .cond (h.set.each (fun _ _ hu => hu.dmaStopped)) h

theorem Keeps.execDmaClear {who : Requester} (h : Keeps s t) : Advances s (execDmaClear who t) :=
  h.command (fun _ hu => hu.dmaClear)

/-! ### EngineCtl.lean -/

theorem Keeps.mcodeOpen (h : Keeps s t) : Keeps s t.mcodeOpen := .cond h.refuse h.modEng.set

theorem Keeps.mcodeCommit (h : Keeps s t) : Keeps s t.mcodeCommit :=
  .cond h.refuse <|
  .raise <|
  by
    split
    · exact h.modEng.setAll.refuse
    · exact .cond (.cond h.modEng.set.extend h.modEng.set.extend) h.modEng.setAll.refuse

theorem Keeps.execMcodeOpen {who : Requester} (h : Keeps s t) : Advances s (execMcodeOpen who t) :=
  h.command (fun _ hu => hu.mcodeOpen)

theorem Keeps.execMcodeCommit {who : Requester} (h : Keeps s t) : Advances s (execMcodeCommit who t) :=
  h.command (fun _ hu => hu.mcodeCommit)

theorem Keeps.mcodeNext (h : Keeps s t) : Keeps s t.mcodeNext := h.bumpWrap

theorem Keeps.mcodeWrite {w : Nat} (h : Keeps s t) : Keeps s (t.mcodeWrite w) := .cond h.modEng.mcodeNext h.refuse

theorem Keeps.mcodeRead (h : Keeps s t) : Keeps s t.mcodeRead.1 := h.mcodeNext

theorem Keeps.mcodeEntry {n w : Nat} (h : Keeps s t) : Keeps s (t.mcodeEntry n w) := .cond h.modEng h.refuse

theorem Keeps.execMcodeDataAccess {who : Requester} {write : Option Word} (h : Keeps s t) :
    Advances s (execMcodeDataAccess who write t) := by
  unfold Machine.execMcodeDataAccess
  split
  · exact h.command (fun _ hu => hu.mcodeWrite)
  · exact .next (.cond h.guard.mcodeRead.upd h.guard.upd)

theorem Keeps.execMcodeScrub {e : Fin 12} {upset : Bool} (h : Keeps s t) : Advances s (execMcodeScrub e upset t) :=
  .cond (.cond (.next h.modEng.setAll.raise.capFault) (.next h.modEng.set)) (.next h)

theorem Keeps.mailSend {e dest : Nat} (h : Keeps s t) : Keeps s (t.mailSend e dest) := by
  unfold State.mailSend
  exact h.deliverMail.modEng

theorem Keeps.execMailboxSend {e : Fin 12} {dest : BitVec 8} (h : Keeps s t) : Advances s (execMailboxSend e dest t) :=
  .next h.mailSend

theorem Keeps.engineRelease {k : Nat} (h : Keeps s t) : Keeps s (t.engineRelease k) :=
  .cond h.refuse (.cond h (.cond h.refuse h.engRelease.refuse))

theorem Keeps.engineStop {k : Nat} (h : Keeps s t) : Keeps s (t.engineStop k) :=
  .cond h.refuse (.cond h.refuse (.cond h h.engReset.setAll))

theorem Keeps.execEngineRelease {who : Requester} {e : Fin 12} (h : Keeps s t) :
    Advances s (execEngineRelease who e t) := h.writeCmd (fun _ hu => hu.engineRelease)

theorem Keeps.execEngineStop {who : Requester} {e : Fin 12} (h : Keeps s t) : Advances s (execEngineStop who e t) :=
  h.writeCmd (fun _ hu => hu.engineStop)

theorem Keeps.execEngineWdogExpiry {e : Fin 12} (h : Keeps s t) : Advances s (execEngineWdogExpiry e t) :=
  .cond (.cond (.next (.cond h h.e0Expire)) (.next h.bump.raise.capFault)) (.next h)

theorem Keeps.collectEnter {p : Post} (h : Keeps s t) : Keeps s (t.collectEnter p) :=
  h.upd.bump.raise.raiseIf.fire.levels

theorem Keeps.collectOffer {k : Nat} {p : Post} (h : Keeps s t) : Keeps s (t.collectOffer k p) :=
  .cond (.cond h.modEng h.modEng.collectEnter) (.cond h.modEng.set.bump h.collectEnter)

theorem Keeps.collectPost {k : Nat} (h : Keeps s t) : Keeps s (t.collectPost k) := h.collectOffer

theorem Keeps.execCollectPost {e : Fin 12} {code : Half} {resp : Bool} {value : Word} (h : Keeps s t) :
    Advances s (execCollectPost e code resp value t) := .next h.modEng.collectPost

theorem Keeps.collectAdmit (h : Keeps s t) : Keeps s t.collectAdmit :=
  .cond h (by split; exacts [h, by split; exacts [h, h.modEng.set.collectEnter]])

theorem Keeps.collectPop (h : Keeps s t) : Keeps s t.collectPop := by
  unfold State.collectPop
  split
  · exact h
  · exact h.upd.levels.collectAdmit

theorem Keeps.execCollectPop {who : Requester} (h : Keeps s t) : Advances s (execCollectPop who t) :=
  h.command (fun _ hu => hu.collectPop)

theorem Keeps.collectRespond {k : Nat} (h : Keeps s t) : Keeps s (t.collectRespond k) :=
  .cond h.refuse (.cond h.refuse h.modEng.wakeEngine)

theorem Keeps.execCollectResponse {who : Requester} {target : BitVec 4} (h : Keeps s t) :
    Advances s (execCollectResponse who target t) := h.command (fun _ hu => hu.collectRespond)

theorem Keeps.execCollectRespRead {e : Fin 12} (h : Keeps s t) : Advances s (execCollectRespRead e t) :=
  .next h.modEng.upd

theorem Keeps.debugHalt {k : Nat} (h : Keeps s t) : Keeps s (t.debugHalt k) := by
  unfold State.debugHalt
  dsimp only
  split
  · exact h
  · exact h
  · exact h.setEng.set.raise

theorem Keeps.debugResume {k : Nat} (h : Keeps s t) : Keeps s (t.debugResume k) :=
  .cond h.refuse (by dsimp only; split; exacts [h.setEng.collectOffer, h.setEng])

theorem Keeps.execDebugHalt {who : Requester} {e : Fin 12} (h : Keeps s t) : Advances s (execDebugHalt who e t) :=
  h.writeCmd (fun _ hu => hu.debugHalt)

theorem Keeps.execDebugResume {who : Requester} {e : Fin 12} (h : Keeps s t) : Advances s (execDebugResume who e t) :=
  h.writeCmd (fun _ hu => hu.debugResume)

theorem Keeps.execBreakpointMatch {e : Fin 12} (h : Keeps s t) : Advances s (execBreakpointMatch e t) :=
  .cond (.next h.debugHalt) (.next h)

/-! ### Flash.lean -/

theorem Keeps.ownStore {k a : Nat} {bs : List Byte} (h : Keeps s t) : Keeps s (t.ownStore k a bs) :=
  .cond h.modEng h.sramStore

theorem Keeps.transfer {a : Nat} {bs : List Byte} (h : Keeps s t) : Keeps s (t.transfer a bs) :=
  h.setAll.each (fun _ _ hu => .cond hu.set hu)

theorem Keeps.endCread (h : Keeps s t) : Keeps s t.endCread := h.set

theorem Keeps.showErase (h : Keeps s t) : Keeps s t.showErase := h.setBit.setBit

theorem Keeps.erasePulses {a : Nat} {block : Bool} {pulses : Nat} (h : Keeps s t) :
    Keeps s (t.erasePulses a block pulses) := by
  unfold State.erasePulses
  extract_lets _ t₁ t₂
  have h₁ : Keeps s t₁ := h.bump.set
  have h₂ : Keeps s t₂ := h₁.onlyIf (fun _ hu => hu.set.set)
  exact .cond h₂.setAll.raise.record h₂

theorem Keeps.retireThrough {sector at_ n : Nat} {patch : List Byte} (h : Keeps s t) :
    Keeps s (t.retireThrough sector at_ patch n).1 := by
  induction n generalizing t with
  | zero => exact h.retireSector
  | succ n ih => exact .condFst (ih h.retireSector) h.retireSector

theorem Keeps.eraseDone {a : Nat} {block : Bool} {seq : Nat} {r : EraseResult} (h : Keeps s t) :
    Keeps s (t.eraseDone a block seq r).1 := by
  unfold State.eraseDone
  dsimp only
  split
  · exact h.upd (fun w => w.eraseAt.jdone) |>.erasePulses.set
  · exact .condFst (h.upd (fun w => w.eraseAt.jdone) |>.erasePulses.set) <|
      h.upd (fun w => w.eraseAt.jdone) |>.erasePulses.set.retireThrough

theorem Keeps.romRead {k : Nat} {c : RomCall} (h : Keeps s t) : Keeps s (t.romRead k c).1 :=
  .condFst h.endCread (.condFst h.endCread h.transfer.ownStore.upd.setBit)

theorem Keeps.programAt {a : Nat} {bs : List Byte} {r : ProgramResult} (h : Keeps s t) :
    Keeps s (t.programAt a bs r).1 := by
  unfold State.programAt
  extract_lets t₁
  have h₁ : Keeps s t₁ := h.bump.set
  split
  · exact h₁.upd (fun w => w.program) |>.set
  · exact h₁.upd (fun w => w.program) |>.set.retireThrough

theorem Keeps.romProgram {k : Nat} {c : RomCall} {r : ProgramResult} (h : Keeps s t) : Keeps s (t.romProgram k c r).1 :=
  .condFst h.endCread <|
  .condFst h.endCread (.condFst h.endCread (.condFst h.endCread (.condFst h.endCread h.endCread.transfer.programAt)))

theorem Keeps.romErase {k : Nat} {block : Bool} {c : RomCall} {r : EraseResult} (h : Keeps s t) :
    Keeps s (t.romErase k block c r).1 :=
  .condFst h.endCread <|
  .condFst h.endCread <|
  .condFst h.endCread <|
  .condFst h.endCread <|
  .condFst h.endCread <|
  .condFst (h.endCread.upd (fun w => w.jopen) |>.set.upd.showErase) (h.endCread.upd (fun w => w.jopen) |>.set.eraseDone)

theorem Keeps.romSuspend {k : Nat} {c : RomCall} {early : Bool} (h : Keeps s t) : Keeps s (t.romSuspend k c early).1 :=
  .condFst h.endCread <|
  by split; exacts [h.endCread, .condFst h.endCread (.condFst h.endCread h.endCread.upd.showErase)]

theorem Keeps.romResume {k : Nat} {c : RomCall} (h : Keeps s t) : Keeps s (t.romResume k c).1 :=
  .condFst h.endCread (by split; exacts [h.endCread, .condFst h.endCread.upd.showErase h.endCread])

theorem Keeps.romSwap {k : Nat} {c : RomCall} (h : Keeps s t) : Keeps s (t.romSwap k c).1 := by
  refine .condFst h.endCread (.condFst h.endCread ?_)
  split
  · next f e => exact h.endCread.upd fun w => w.swap f e
  · exact h.endCread

theorem Keeps.romJopen {k : Nat} {c : RomCall} (h : Keeps s t) : Keeps s (t.romJopen k c).1 :=
  .condFst h.endCread (.condFst h.endCread (h.endCread.upd (fun w => w.jopen)))

theorem Keeps.romJclose {k : Nat} {c : RomCall} (h : Keeps s t) : Keeps s (t.romJclose k c).1 :=
  .condFst h.endCread (.condFst h.endCread (.condFst (h.endCread.upd (fun w => w.jdone)) h.endCread))

theorem Keeps.romReturn {k status detail : Nat} (h : Keeps s t) : Keeps s (t.romReturn k status detail) :=
  .cond h.spend.modEng.ownStore h.spend.modEng

theorem Keeps.romOut {k detail : Nat} {r : State × Nat} (h : Keeps s r.1) : Advances s (romOut k detail r) :=
  .next h.romReturn

theorem Keeps.execFlashRead {e8 : Bool} {call : RomCall} (h : Keeps s t) : Advances s (execFlashRead e8 call t) :=
  h.romRead.romOut

theorem Keeps.execFlashProgram {e8 : Bool} {call : RomCall} {r : ProgramResult} (h : Keeps s t) :
    Advances s (execFlashProgram e8 call r t) := h.romProgram.romOut

theorem Keeps.execFlashEraseS {e8 : Bool} {call : RomCall} {r : EraseResult} (h : Keeps s t) :
    Advances s (execFlashEraseS e8 call r t) := h.romErase.romOut

theorem Keeps.execFlashEraseB {e8 : Bool} {call : RomCall} {r : EraseResult} (h : Keeps s t) :
    Advances s (execFlashEraseB e8 call r t) := h.romErase.romOut

theorem Keeps.execFlashPoll {e8 : Bool} {call : RomCall} (h : Keeps s t) : Advances s (execFlashPoll e8 call t) :=
  Keeps.romOut (.condFst h.endCread h.endCread)

theorem Keeps.execFlashSuspend {e8 : Bool} {call : RomCall} {early : Bool} (h : Keeps s t) :
    Advances s (execFlashSuspend e8 call early t) := h.romSuspend.romOut

theorem Keeps.execFlashResume {e8 : Bool} {call : RomCall} (h : Keeps s t) : Advances s (execFlashResume e8 call t) :=
  h.romResume.romOut

theorem Keeps.execFlashSwap {e8 : Bool} {call : RomCall} (h : Keeps s t) : Advances s (execFlashSwap e8 call t) :=
  h.romSwap.romOut

theorem Keeps.execFlashJopen {e8 : Bool} {call : RomCall} (h : Keeps s t) : Advances s (execFlashJopen e8 call t) :=
  .next (.cond h.romJopen.romReturn.ownStore h.romJopen.romReturn)

theorem Keeps.execFlashJclose {e8 : Bool} {call : RomCall} (h : Keeps s t) : Advances s (execFlashJclose e8 call t) :=
  h.romJclose.romOut

theorem Keeps.execFlashEraseComplete {r : EraseResult} (h : Keeps s t) : Advances s (execFlashEraseComplete r t) := by
  unfold Machine.execFlashEraseComplete
  split
  · exact .next h
  · exact .cond (.next h) (.next (h.upd.eraseDone.upd (fun w => w.rollover) |>.showErase.raise))

theorem Keeps.serve {q : StoreReq} {p : ProgramResult} {e : EraseResult} (h : Keeps s t) : Keeps s (t.serve q p e).1 :=
  .condFst (.condFst h (.condFst h (.condFst h (.condFst h (h.upd (fun w => w.jopen) |>.eraseDone))))) <|
  .condFst h (.condFst h (.condFst h.sramStore (.condFst h (.condFst h h.programAt))))

theorem Keeps.storeCommand {op : Nat} {block : Bool} (h : Keeps s t) : Keeps s (t.storeCommand op block) :=
  .cond h.bump.refuse (.cond h.bump.refuse (.cond h.bump.refuse (.cond h.bump.refuse h.upd.set)))

theorem Keeps.execStoreRead {who : Requester} (h : Keeps s t) : Advances s (execStoreRead who t) :=
  h.command (fun _ hu => hu.storeCommand)

theorem Keeps.execStoreProgram {who : Requester} (h : Keeps s t) : Advances s (execStoreProgram who t) :=
  h.command (fun _ hu => hu.storeCommand)

theorem Keeps.execStoreErase {who : Requester} {block : Bool} (h : Keeps s t) :
    Advances s (execStoreErase who block t) := h.command (fun _ hu => hu.storeCommand)

theorem Keeps.mboxStore {q : StoreReq} (h : Keeps s t) : Keeps s (t.mboxStore q) :=
  .cond h.bump.answer (.cond h.bump.answer h.upd)

theorem Keeps.execMboxStoreRead {e11 : Bool} {tag : Half} {off : Word} {len : BitVec 13} {buf : Word} (h : Keeps s t) :
    Advances s (execMboxStoreRead e11 tag off len buf t) := .next h.mboxStore

theorem Keeps.execMboxStoreProgram {e11 : Bool} {tag : Half} {off : Word} {len : BitVec 13} {buf : Word}
    (h : Keeps s t) : Advances s (execMboxStoreProgram e11 tag off len buf t) := .next h.mboxStore

theorem Keeps.execMboxStoreErase {e11 : Bool} {tag : Half} {off : Word} {len : BitVec 13} {block : Bool}
    (h : Keeps s t) : Advances s (execMboxStoreErase e11 tag off len block t) := .next h.mboxStore

theorem Keeps.execStoreCommandComplete {p : ProgramResult} {e : EraseResult} (h : Keeps s t) :
    Advances s (execStoreCommandComplete p e t) := by
  unfold Machine.execStoreCommandComplete
  split
  · exact .next h
  · exact .cond (.next <|
         .raise (.cond h.upd.serve.set.set.refuse (.cond h.upd.serve.set.set.refuse h.upd.serve.set.set))) <|
      .next h.upd.serve.answer

/-! ### Garnet.lean -/

theorem Keeps.drbg (h : Keeps s t) : Keeps s t.drbg := .cond h.upd.raise.record h.upd

theorem Keeps.execHealthTestFail (h : Keeps s t) : Advances s (execHealthTestFail t) :=
  .next (.cond h.upd.raise.record h.upd)

theorem Keeps.putWords {f : Nat → Fld} {n : Nat} {bs : List Byte} (h : Keeps s t) : Keeps s (t.putWords f n bs) :=
  h.each (fun _ _ hu => hu.set)

theorem Keeps.stageKey {k w : Nat} (h : Keeps s t) : Keeps s (t.stageKey k w) := h.upd

theorem Keeps.clearStagedKey (h : Keeps s t) : Keeps s t.clearStagedKey := h.upd

theorem Keeps.cipherLoad (h : Keeps s t) : Keeps s t.cipherLoad :=
  .cond h.refuse (.cond h.clearStagedKey.refuse h.upd.clearStagedKey)

theorem Keeps.cipherErase (h : Keeps s t) : Keeps s t.cipherErase := .cond h.refuse h.upd.clearStagedKey

theorem Keeps.cipherGo {dir : Bool} {slot : Nat} (h : Keeps s t) : Keeps s (t.cipherGo dir slot) :=
  .cond h.refuse (.cond h.refuse (.cond h.refuse h.drbg.upd.set.putWords))

theorem Keeps.execCipherKeyLoad {who : Requester} (h : Keeps s t) : Advances s (execCipherKeyLoad who t) :=
  h.command (fun _ hu => hu.cipherLoad)

theorem Keeps.execCipherKeyErase {who : Requester} (h : Keeps s t) : Advances s (execCipherKeyErase who t) :=
  h.command (fun _ hu => hu.cipherErase)

theorem Keeps.execCipherGo {who : Requester} {decrypt : Bool} {slot : Fin 8} (h : Keeps s t) :
    Advances s (execCipherGo who decrypt slot t) := h.command (fun _ hu => hu.cipherGo)

theorem Keeps.execAesComplete (h : Keeps s t) : Advances s (execAesComplete t) := by
  unfold Machine.execAesComplete
  split
  · exact .next h
  · exact .cond (.next h) (.cond (.next h.upd.putWords.set.raise) (.next h.upd.sramStore.answer))

theorem Keeps.execMboxAesBlock {e11 : Bool} {tag : Half} {slot : Fin 8} {decrypt : Bool} {input output : Word}
    (h : Keeps s t) : Advances s (execMboxAesBlock e11 tag slot decrypt input output t) :=
  .cond (.next h.answer) (by split; exacts [.next h.answer, .cond (.next h.answer) (.next h.drbg.upd)])

theorem Keeps.hashInit (h : Keeps s t) : Keeps s t.hashInit := h.upd.setAll.putWords

theorem Keeps.hashData {w : Nat} (h : Keeps s t) : Keeps s (t.hashData w) := by
  unfold State.hashData
  split
  · exact h.upd.set
  · exact h.refuse

theorem Keeps.hashFinal {tail : Nat} (h : Keeps s t) : Keeps s (t.hashFinal tail) := by
  unfold State.hashFinal
  split
  · exact .cond h.refuse h.upd.setAll
  · exact h.refuse

theorem Keeps.hashExtend7 (h : Keeps s t) : Keeps s t.hashExtend7 := .cond h.extend h.refuse

theorem Keeps.execHashInit {who : Requester} (h : Keeps s t) : Advances s (execHashInit who t) :=
  h.command (fun _ hu => hu.hashInit)

theorem Keeps.execHashDataWrite {who : Requester} {word : Word} (h : Keeps s t) :
    Advances s (execHashDataWrite who word t) := h.command (fun _ hu => hu.hashData)

theorem Keeps.execHashFinal {who : Requester} {tail : BitVec 3} (h : Keeps s t) :
    Advances s (execHashFinal who tail t) := h.command (fun _ hu => hu.hashFinal)

theorem Keeps.execHashFinalComplete (h : Keeps s t) : Advances s (execHashFinalComplete t) := by
  unfold Machine.execHashFinalComplete
  split
  · exact .next h.upd.setAll.putWords.raise
  · exact .next h

theorem Keeps.execHashExtend7 {who : Requester} (h : Keeps s t) : Advances s (execHashExtend7 who t) :=
  h.command (fun _ hu => hu.hashExtend7)

theorem Keeps.execMboxHash {e11 : Bool} {tag : Half} {buf len digest : Word} (h : Keeps s t) :
    Advances s (execMboxHash e11 tag buf len digest t) := .cond (.next h.answer) (.next h.sramStore.answer)

theorem Keeps.execMboxExtend7 {e11 : Bool} {tag : Half} {addr : Word} (h : Keeps s t) :
    Advances s (execMboxExtend7 e11 tag addr t) := .cond (.next h.answer) (.next h.extend.answer)

theorem Keeps.sign {d : List Byte} (h : Keeps s t) : Keeps s (t.sign d).1 := h.spend.drbg

theorem Keeps.pkeGrant (h : Keeps s t) : Keeps s t.pkeGrant := by
  unfold State.pkeGrant
  split
  · exact .cond h.upd h
  · exact h

theorem Keeps.pkeQueue {op : PkeOp} (h : Keeps s t) : Keeps s (t.pkeQueue op) := .cond h.upd.pkeGrant h.upd

theorem Keeps.pkeCommand {op key : Nat} (h : Keeps s t) : Keeps s (t.pkeCommand op key) :=
  .cond h.refuse <|
  .cond h.refuse <|
  .cond h.refuse <|
  .cond h.refuse <|
  .cond h.refuse (.cond h.refuse (.cond h.refuse (.cond h.refuse (.cond h.refuse (.cond h.refuse h.set.pkeQueue)))))

theorem Keeps.execPkeVerify {who : Requester} (h : Keeps s t) : Advances s (execPkeVerify who t) :=
  h.command (fun _ hu => hu.pkeCommand)

theorem Keeps.execPkeSign {who : Requester} (h : Keeps s t) : Advances s (execPkeSign who t) :=
  h.command (fun _ hu => hu.pkeCommand)

theorem Keeps.execPkeQuote {who : Requester} (h : Keeps s t) : Advances s (execPkeQuote who t) :=
  h.command (fun _ hu => hu.pkeCommand)

theorem Keeps.execPkeCert {who : Requester} (h : Keeps s t) : Advances s (execPkeCert who t) :=
  h.command (fun _ hu => hu.pkeCommand)

theorem Keeps.execPkeRandom {who : Requester} (h : Keeps s t) : Advances s (execPkeRandom who t) :=
  h.command (fun _ hu => hu.pkeCommand)

theorem Keeps.execPkeChallenge {who : Requester} (h : Keeps s t) : Advances s (execPkeChallenge who t) :=
  h.command (fun _ hu => hu.pkeCommand)

theorem Keeps.execPkeDebugOpen {who : Requester} (h : Keeps s t) : Advances s (execPkeDebugOpen who t) :=
  h.command (fun _ hu => hu.pkeCommand)

theorem Keeps.execPkeCkeyProg {who : Requester} {key : Half} (h : Keeps s t) : Advances s (execPkeCkeyProg who key t) :=
  h.command (fun _ hu => hu.pkeCommand)

theorem Keeps.execPkeCkeyRevoke {who : Requester} {key : Half} (h : Keeps s t) :
    Advances s (execPkeCkeyRevoke who key t) := h.command (fun _ hu => hu.pkeCommand)

theorem Keeps.execMboxVerify {e11 : Bool} {tag : Half} {param : Word} (h : Keeps s t) :
    Advances s (execMboxVerify e11 tag param t) := .cond (.next h.answer) (.next h.pkeQueue)

theorem Keeps.debugOpen {a : Nat} (h : Keeps s t) : Keeps s (t.debugOpen a) :=
  .cond h.upd.spend.extend.upd.setAll h.upd.refuse

theorem Keeps.pkeRun {op : PkeOp} (h : Keeps s t) : Keeps s (t.pkeRun op).1 := by
  unfold State.pkeRun
  dsimp only
  split
  · exact .condFst (h.onlyIf (fun _ hu => hu.set.refuse)) <|
      .condFst (h.onlyIf (fun _ hu => hu.set)) (.condFst h.set h.spend)
  · exact h.sign.sramStore
  · exact h.sign.sramStore.set
  · exact h.sramStore.set
  · exact h.sramStore.spend.drbg
  · exact h.upd.sramStore.spend.drbg
  · exact h.debugOpen
  · exact .condFst h.upd h.upd
  · exact h.upd
  · exact h

theorem Keeps.execDebugAccessExpiry (h : Keeps s t) : Advances s (execDebugAccessExpiry t) := .next (.cond h.setAll h)

theorem Keeps.measureSelect {who w : Nat} (h : Keeps s t) : Keeps s (t.measureSelect who w) := h.upd

/-! ### LinkBase.lean -/

theorem Keeps.takeForce {sel : Nat → Nat → Bool} (h : Keeps s t) : Keeps s (t.takeForce sel) := h.upd

theorem Keeps.setCarried {nbr : Nat} {o : Option (List Nat)} (h : Keeps s t) : Keeps s (t.setCarried nbr o) := by
  unfold State.setCarried
  split
  · exact h
  · exact h.upd

theorem Keeps.setNbr {n : Nbr} (h : Keeps s t) : Keeps s (t.setNbr n) := h.upd

theorem Keeps.modNbr {i : Nat} {f : Nbr → Nbr} (h : Keeps s t) : Keeps s (t.modNbr i f) := by
  unfold State.modNbr
  split
  · exact h.setNbr
  · exact h

theorem Keeps.estimate {i : Nat} {m : Medium} {acked : Bool} (h : Keeps s t) : Keeps s (t.estimate i m acked) :=
  h.modNbr

theorem Keeps.setKey {i : Nat} {k : KeySlot} (h : Keeps s t) : Keeps s (t.setKey i k) := h.upd

theorem Keeps.sendSeq {o : Option Mirror} (h : Keeps s t) : Keeps s (t.sendSeq o) := h.upd

theorem Keeps.mirror {o : Mirror} (h : Keeps s t) : Keeps s (t.mirror o) := .cond h.upd (.cond h.upd.upd h.upd.sendSeq)

theorem Keeps.requestBlock {i : Nat} (h : Keeps s t) : Keeps s (t.requestBlock i) := .cond h.setKey.commit.mirror h

theorem Keeps.openBlock {i : Nat} (h : Keeps s t) : Keeps s (t.openBlock i) := .cond h.setKey h

theorem Keeps.takeCounter {i : Nat} (h : Keeps s t) : Keeps s (t.takeCounter i).1 :=
  .condFst h.openBlock.refuse (.condFst h.openBlock.requestBlock h.openBlock.setKey.raiseIf.requestBlock)

theorem Keeps.modFrame {num : Nat} {f : LinkFrame → LinkFrame} (h : Keeps s t) : Keeps s (t.modFrame num f) := h.upd

theorem Keeps.dropFrame {num : Nat} (h : Keeps s t) : Keeps s (t.dropFrame num) := h.upd

theorem Keeps.enqueue {f : LinkFrame} (h : Keeps s t) : Keeps s (t.enqueue f) := h.upd

/-! ### MsgBase.lean -/

theorem Keeps.putPeer {p : Peer} (h : Keeps s t) : Keeps s (t.putPeer p) := h.upd.mirror

theorem Keeps.peerRoom (h : Keeps s t) : OnSome (Keeps s) t.peerRoom :=
  .cond (.some h) (by split; exacts [.some h.upd, .none])

theorem Keeps.needPeer {short : Nat} (h : Keeps s t) : Keeps s (t.needPeer short).1 := by
  unfold State.needPeer
  split
  · exact h
  · split
    next r1 e1 =>
      exact h.peerRoom _ e1
    · exact h.bump

theorem Keeps.drawSession (h : Keeps s t) : Keeps s t.drawSession.1 := h.spend

theorem Keeps.openTx {p : Peer} (h : Keeps s t) : Keeps s (t.openTx p).1 := .condFst h.drawSession h

theorem Keeps.keepBlock {p : Peer} {e : Nat} (h : Keeps s t) : Keeps s (t.keepBlock p e) := h.upd

theorem Keeps.modMsg {num : Nat} {f : Msg → Msg} (h : Keeps s t) : Keeps s (t.modMsg num f) := h.upd

theorem Keeps.withdraw {num : Nat} (h : Keeps s t) : Keeps s (t.withdraw num) := h.upd

theorem Keeps.countDone {status : Nat} (h : Keeps s t) : Keeps s (t.countDone status) :=
  .cond h.bump (.cond h.bump (.cond h.bump (.cond h.bump h)))

theorem Keeps.dropMsg {num : Nat} (h : Keeps s t) : Keeps s (t.dropMsg num) := h.upd

theorem Keeps.postDone {m : Msg} {status : Nat} (h : Keeps s t) : Keeps s (t.postDone m status) :=
  .cond h.dropMsg (.cond (.cond h.dropMsg.upd.raise h.modMsg) (.cond h.modMsg h.deliverMail.dropMsg))

theorem Keeps.postHeld (h : Keeps s t) : Keeps s t.postHeld := h.each (fun _ _ hu => hu.postDone)

theorem Keeps.gate {o : Mirror} {x : Option Offer} {act : State → State}
    (h : Keeps s t) (hact : ∀ u, Keeps s u → Keeps s (act u)) : Keeps s (t.gate o x act) :=
  .cond h.sendSeq.upd (hact _ h)

theorem Keeps.complete {num status : Nat} (h : Keeps s t) : Keeps s (t.complete num status) := by
  unfold State.complete
  split
  · exact h
  · exact .cond h (h.withdraw.countDone.modMsg.gate (fun _ hu => by split; exacts [hu.postDone, hu]))

theorem Keeps.endAttempt {num : Nat} (h : Keeps s t) : Keeps s (t.endAttempt num) := by
  unfold State.endAttempt
  split
  · exact h
  · exact .cond (.cond h.withdraw.complete h.withdraw.modMsg) h

theorem Keeps.park {num why : Nat} (h : Keeps s t) : Keeps s (t.park num why) := by
  unfold State.park
  split
  · exact h
  · exact .cond h h.withdraw.modMsg

theorem Keeps.unpark {sel : Msg → Bool} (h : Keeps s t) : Keeps s (t.unpark sel) := h.upd

theorem Keeps.returned {f : LinkFrame} {noRoute : Bool} (h : Keeps s t) : Keeps s (t.returned f noRoute) :=
  .cond (.cond (by split; exacts [h.bump, h]) h) (.cond h.park h.endAttempt)

theorem Keeps.submitMsg {m : Msg} (h : Keeps s t) : Keeps s (t.submitMsg m) := h.upd.mirror

theorem Keeps.meshCommand {dest code : Nat} {body : List Byte} (h : Keeps s t) :
    Keeps s (t.meshCommand dest code body) := h.submitMsg

/-! ### Mesh.lean -/

theorem Keeps.rebuildIndex (h : Keeps s t) : Keeps s t.rebuildIndex := h.upd

theorem Keeps.assocStore {i : Nat} (h : Keeps s t) : Keeps s (t.assocStore i) := by
  unfold State.assocStore
  split
  · exact h.sramStore
  · exact h

theorem Keeps.putAssoc {e : Assoc} (h : Keeps s t) : Keeps s (t.putAssoc e) :=
  h.upd.assocStore.assocStore.assocStore.mirror

theorem Keeps.noteHwm {ext key mark : Nat} (h : Keeps s t) : Keeps s (t.noteHwm ext key mark) :=
  .cond h (by split; exacts [h, h.upd.assocStore.mirror])

theorem Keeps.allocate {ext : Nat} (h : Keeps s t) : Keeps s (t.allocate ext).1 := by
  unfold State.allocate
  split
  · exact h
  · dsimp only
    split
    · exact h.upd.spend
    · exact h.bump.spend

theorem Keeps.releaseAssoc {e : Assoc} (h : Keeps s t) : Keeps s (t.releaseAssoc e) := h.upd.putAssoc

theorem Keeps.archiveHwm {n : Nbr} (h : Keeps s t) : Keeps s (t.archiveHwm n) :=
  .cond (by split; exacts [h.putAssoc, h]) h.upd

theorem Keeps.nbrPlace (h : Keeps s t) : Keeps s t.nbrPlace.1 := by
  unfold State.nbrPlace
  split
  · exact h
  · split
    · exact h.archiveHwm.upd
    · exact h.bump

theorem Keeps.needNbr {ext : Nat} (h : Keeps s t) : Keeps s (t.needNbr ext).1 := by
  unfold State.needNbr
  split
  · exact h
  · dsimp only
    split
    · exact h.nbrPlace
    · exact h.nbrPlace.setNbr

theorem Keeps.showRank (h : Keeps s t) : Keeps s t.showRank :=
  .cond h.setAll (by split; exacts [h, by split; exacts [h.setAll, h]])

theorem Keeps.orphan (h : Keeps s t) : Keeps s t.orphan := .cond (h.upd.set.raise.each (fun _ _ hu => hu.park)) h

theorem Keeps.changeParent {old : Option Nat} {n : Nbr} (h : Keeps s t) : Keeps s (t.changeParent old n) :=
  h.upd.set.bump.raise.meshCommand

theorem Keeps.evalParents (h : Keeps s t) : Keeps s t.evalParents :=
  .cond h (by dsimp only; split; exacts [h.upd.orphan, .showRank (.cond h.upd h.upd.changeParent)])

theorem Keeps.childWindow {n : Nbr} (h : Keeps s t) : Keeps s (t.childWindow n) := .cond h (.cond h.upd h.upd)

theorem Keeps.bufferFrame {f : LinkFrame} (h : Keeps s t) : Keeps s (t.bufferFrame f).1 :=
  .condFst h.upd.upd (by dsimp only; split; exacts [h.upd.bump.raise.upd, h.upd.bump.raise])

theorem Keeps.sendTo {n : Nbr} {f : LinkFrame} (h : Keeps s t) : Keeps s (t.sendTo n f) :=
  .cond (.cond h.returned (by dsimp only; split; exacts [h.bufferFrame.returned, h.bufferFrame])) h.enqueue

theorem Keeps.originate {final cls : Nat} {payload : List Byte} {msg frag : Nat} (h : Keeps s t) :
    Keeps s (t.originate final cls payload msg frag).1 :=
  .condFst (.condFst h.upd.enqueue h.enqueue) <|
  .condFst (by split; exacts [h.bump, .sendTo (by split; exacts [h.putAssoc, h])]) (by split; exacts [h.sendTo, h])

theorem Keeps.addCell {c : Cell} (h : Keeps s t) : Keeps s (t.addCell c).1 := by
  unfold State.addCell
  split
  · exact h
  · exact h.upd.mirror

theorem Keeps.joinCells {sf short nbr up down : Nat} {parent ym1 : Bool} (h : Keeps s t) :
    Keeps s (t.joinCells sf short nbr up down parent ym1) := h.addCell.addCell

theorem Keeps.respond {ext status short wake pollS : Nat} {sleepy router ym1 : Bool} (h : Keeps s t) :
    Keeps s (t.respond ext status short wake pollS sleepy router ym1) := by
  unfold State.respond
  dsimp only
  refine .cond h.enqueue ?_
  split
  · refine .cond h.enqueue ?_
    split
    · exact h.needNbr.enqueue
    · exact h.needNbr.setNbr.joinCells.enqueue
  · exact h.enqueue

theorem Keeps.answerJoin {e : Assoc} {relay status : Nat} (h : Keeps s t) : Keeps s (t.answerJoin e relay status) :=
  .cond h.respond h.meshCommand

theorem Keeps.admitEntry {e : Assoc} {relay : Nat} {rejoin : Bool} (h : Keeps s t) :
    Keeps s (t.admitEntry e relay rejoin) := .answerJoin (.cond h.putAssoc.bump h.putAssoc.bump.raise)

theorem Keeps.joinRequest {ext caps pollS wake relay : Nat} {ym1 : Bool} (h : Keeps s t) :
    Keeps s (t.joinRequest ext caps pollS wake relay ym1) := by
  unfold State.joinRequest
  dsimp only
  split
  · exact .cond h.admitEntry (.cond h.putAssoc h.admitEntry)
  · refine .cond h.bump.answerJoin (.cond h.bump.answerJoin ?_)
    split
    · exact h.allocate.raise.answerJoin
    · exact h.allocate.putAssoc.raise

theorem Keeps.denyEntry {e : Assoc} (h : Keeps s t) : Keeps s (t.denyEntry e) := h.releaseAssoc.answerJoin

theorem Keeps.markLost {i : Nat} (h : Keeps s t) : Keeps s (t.markLost i) := by
  unfold State.markLost
  split
  · exact h
  · exact .cond (.evalParents <|
         .each (.upd <|
            .cond (h.setNbr.bump.raise.upd.each (fun _ _ hu => hu.dropFrame.returned) |>.meshCommand) <|
            h.setNbr.bump.raise.upd.each (fun _ _ hu => hu.dropFrame.returned))
           (fun _ _ hu => hu.bump.returned)) <|
      .each (.upd <|
         .cond (h.setNbr.bump.raise.upd.each (fun _ _ hu => hu.dropFrame.returned) |>.meshCommand) <|
         h.setNbr.bump.raise.upd.each (fun _ _ hu => hu.dropFrame.returned))
        (fun _ _ hu => hu.bump.returned)

theorem Keeps.markUnsync {i : Nat} (h : Keeps s t) : Keeps s (t.markUnsync i) := by
  unfold State.markUnsync
  split
  · exact h
  · exact .cond h (.cond (h.setNbr.bump.raise.upd.upd.each (fun _ _ hu => hu.returned)) h.setNbr.bump.raise.upd)

theorem Keeps.missed {i : Nat} (h : Keeps s t) : Keeps s (t.missed i) := by
  unfold State.missed
  split
  · exact h
  · exact .cond h.setNbr.markUnsync h.setNbr

/-! ### Msg.lean -/

theorem Keeps.sendFrags {m : Msg} {b : Nat} {l : List Nat} (h : Keeps s t) : Keeps s (t.sendFrags m b l).1 := by
  induction l generalizing t with
  | nil => exact h
  | cons o l ih => exact .condFst (ih h.originate) h.originate

theorem Keeps.cut {num : Nat} (h : Keeps s t) : Keeps s (t.cut num) := by
  unfold State.cut
  split
  · exact h
  · exact .cond h.modMsg.sendFrags h.modMsg.sendFrags.park

theorem Keeps.startAttempt {num : Nat} {counts : Bool} (h : Keeps s t) : Keeps s (t.startAttempt num counts) := by
  unfold State.startAttempt
  split
  · exact h
  · exact .cond h.modMsg.park (.cond h.modMsg.park h.modMsg.cut)

theorem Keeps.giveId {num : Nat} {p : Peer} (h : Keeps s t) : Keeps s (t.giveId num p) :=
  .startAttempt (by split; exacts [h.putPeer.modMsg.mirror, h.putPeer.modMsg])

theorem Keeps.idBlockAct {short e : Nat} (h : Keeps s t) : Keeps s (t.idBlockAct short e) := by
  unfold State.idBlockAct
  dsimp only
  split
  · exact .giveId (by split; exacts [h.keepBlock, h])
  · exact .putPeer (by split; exacts [h.keepBlock, h])
  · split
    · exact h.keepBlock
    · exact h

theorem Keeps.admitMsg {num : Nat} (h : Keeps s t) : Keeps s (t.admitMsg num) := by
  unfold State.admitMsg
  split
  · exact h
  · exact .cond h <|
      by
        dsimp only
        split
        · exact h.needPeer
        · exact .cond h.needPeer.openTx.putPeer.modMsg.startAttempt <|
            .cond h.needPeer.openTx.putPeer <|
            .cond (h.needPeer.openTx.putPeer.gate (fun _ hu => hu.keepBlock.giveId)) h.needPeer.openTx.giveId

theorem Keeps.keepRsp {m : Msg} (h : Keeps s t) : Keeps s (t.keepRsp m) := h.upd

theorem Keeps.fragSent {num off : Nat} (h : Keeps s t) : Keeps s (t.fragSent num off) := by
  unfold State.fragSent
  dsimp only
  split
  · exact h.modMsg
  · exact .cond (.complete (.cond h.modMsg.keepRsp h.modMsg)) h.modMsg

theorem Keeps.fragNofit {num : Nat} (h : Keeps s t) : Keeps s (t.fragNofit num) := by
  unfold State.fragNofit
  split
  · exact h
  · exact .cond h.withdraw.cut h.modMsg

theorem Keeps.sendEack {peer cls id status : Nat} (h : Keeps s t) : Keeps s (t.sendEack peer cls id status) :=
  .originate (by split; exacts [.condFst h.openTx.putPeer h, h])

theorem Keeps.ringWrite {o : Offer} (h : Keeps s t) : Keeps s (t.ringWrite o).1 :=
  .condFst h <|
  .raise (.cond (.raise (.bump (.set (.sramStore (.cond h.sramStore h))))) (.set (.sramStore (.cond h.sramStore h))))

theorem Keeps.recvIndication {o : Offer} (h : Keeps s t) : Keeps s (t.recvIndication o).1 :=
  .condFst h (.condFst (.condFst h h.ringWrite) (.indicate (.condFst h h.ringWrite)))

theorem Keeps.takeAct {o : Offer} (h : Keeps s t) : Keeps s (t.takeAct o) :=
  .cond (.upd (.bump (by split; exacts [.cond h.upd.putPeer h.upd, h.upd]))) <|
  .cond (.sendEack (.bump (by split; exacts [.cond h.upd.putPeer h.upd, h.upd]))) <|
  .bump (by split; exacts [.cond h.upd.putPeer h.upd, h.upd])

theorem Keeps.takeOffer {o : Offer} (h : Keeps s t) : Keeps s (t.takeOffer o) :=
  .cond h.upd.bump (h.upd.gate (fun _ hu => hu.takeAct))

theorem Keeps.placeOffers (h : Keeps s t) : Keeps s t.placeOffers :=
  h.each (fun _ _ hu => .cond hu (.upd (.condFst (.condFst hu.recvIndication hu.ringWrite) hu.deliverMail)))

theorem Keeps.offerAct {c : Context} (h : Keeps s t) : Keeps s (t.offerAct c) := by
  unfold State.offerAct
  dsimp only
  split
  · exact .cond h.upd h.upd.sendEack
  · exact h.upd.upd.placeOffers

theorem Keeps.offer {c : Context} (h : Keeps s t) : Keeps s (t.offer c) := h.gate (fun _ hu => hu.offerAct)

theorem Keeps.reassemble {c : Context} {off : Nat} {data : List Byte} (h : Keeps s t) :
    Keeps s (t.reassemble c off data).1 := by
  unfold State.reassemble
  dsimp only
  split
  · exact h.upd
  · exact .condFst h.upd (by split; exacts [h.upd.bump.upd, h.bump])

theorem Keeps.answerCopy {peer cls id : Nat} (h : Keeps s t) : Keeps s (t.answerCopy peer cls id) := by
  unfold State.answerCopy
  split
  · exact h.submitMsg
  · exact .cond h h.sendEack

theorem Keeps.copyFrag {peer kind cls id : Nat} {last : Bool} (h : Keeps s t) :
    Keeps s (t.copyFrag peer kind cls id last) := .cond h.bump (.cond h.bump.answerCopy h.bump.sendEack)

theorem Keeps.answerFrag {peer kind id status : Nat} {c : Context} {off : Nat} {data : List Byte} (h : Keeps s t) :
    Keeps s (t.answerFrag peer kind id status c off data) := by
  unfold State.answerFrag
  split
  · exact h.bump
  · exact .cond h.complete (by dsimp only; split; exacts [h.reassemble.offer.complete, h.reassemble])

theorem Keeps.fragment {src : Nat} {pay : List Byte} (h : Keeps s t) : Keeps s (t.fragment src pay) := by
  refine .cond h.bump (.cond h.answerFrag ?_)
  extract_lets key last r
  have hr : Keeps s r.1 := h.needPeer
  clear_value r
  split
  · exact hr
  · extract_lets known t₁ r₁
    have h₁ : Keeps s t₁ := .cond hr hr.putPeer.bump
    have h₂ : Keeps s r₁.1 := h₁.reassemble
    refine .cond hr.copyFrag (.cond hr.copyFrag (.cond hr.bump ?_))
    clear_value r₁
    split
    · exact h₂.offer
    · exact h₂

theorem Keeps.enterMsg {m : Msg} (h : Keeps s t) : Keeps s (t.enterMsg m) :=
  .raiseIf (.upd (.cond (by split; exacts [h.complete, h]) h))

theorem Keeps.sendDone {m : Msg} (h : Keeps s t) : Keeps s (t.sendDone m) :=
  .cond h.upd.admitMsg.set.raise (.cond h.upd.admitMsg.answer h.upd.admitMsg)

theorem Keeps.msgSend (h : Keeps s t) : Keeps s t.msgSend := .cond h.refuse (.cond h.refuse (.cond h.refuse h.upd))

theorem Keeps.msgCancel (h : Keeps s t) : Keeps s t.msgCancel := by
  unfold State.msgCancel
  split
  · exact h.complete
  · exact h.refuse

theorem Keeps.execMsgSend {who : Requester} (h : Keeps s t) : Advances s (execMsgSend who t) :=
  h.command (fun _ hu => hu.msgSend)

theorem Keeps.execMsgCancel {who : Requester} (h : Keeps s t) : Advances s (execMsgCancel who t) :=
  h.command (fun _ hu => hu.msgCancel)

theorem Keeps.execMsgSendComplete (h : Keeps s t) : Advances s (execMsgSendComplete t) := by
  unfold Machine.execMsgSendComplete
  split
  · exact .next h
  · exact .next (h.enterMsg.gate (fun _ hu => hu.sendDone))

theorem Keeps.execMboxMsgSend {e : Fin 12} {tag : Half} {txd0 txd1 txd2 txd3 : Word} (h : Keeps s t) :
    Advances s (execMboxMsgSend e tag txd0 txd1 txd2 txd3 t) :=
  .cond (.next h.answer) <|
  .cond (.next h.answer) (.cond (.next h.answer) (.next (h.upd.enterMsg.gate (fun _ hu => hu.sendDone))))

theorem Keeps.execMboxMsgCancel {e : Fin 12} {tag : Half} {msgid : Word} (h : Keeps s t) :
    Advances s (execMboxMsgCancel e tag msgid t) := by
  unfold Machine.execMboxMsgCancel
  split
  · exact .next h.complete
  · exact .next h.answer

theorem Keeps.execMessageAdmitted {rec : Word} (h : Keeps s t) : Advances s (execMessageAdmitted rec t) := by
  unfold Machine.execMessageAdmitted
  dsimp only
  split
  · exact .next (.cond h.admitMsg.set h.admitMsg)
  · exact .next h.admitMsg

theorem Keeps.execReassemblyTimeout {peer : Half} {msgid : Word} (h : Keeps s t) :
    Advances s (execReassemblyTimeout peer msgid t) := .cond (.next h.upd.bump) (.next h)

theorem Keeps.rxtailWrite {v : Nat} (h : Keeps s t) : Keeps s (t.rxtailWrite v) :=
  .cond h.refuse (h.set.each (fun _ _ hu => hu.takeOffer) |>.placeOffers)

theorem Keeps.recvAcked (h : Keeps s t) : Keeps s t.recvAcked := by
  unfold State.recvAcked
  split
  · exact h
  · exact .cond h.takeOffer h.rxtailWrite

theorem Keeps.execRxtailWrite {who : Requester} {value : Word} (h : Keeps s t) :
    Advances s (execRxtailWrite who value t) := h.writeCmd (fun _ hu => hu.rxtailWrite)

theorem Keeps.execAttemptTimeout {rec : Word} (h : Keeps s t) : Advances s (execAttemptTimeout rec t) := by
  unfold Machine.execAttemptTimeout
  split
  · exact .next (.cond h.endAttempt h)
  · exact .next h

theorem Keeps.execAttemptStart {rec : Word} (h : Keeps s t) : Advances s (execAttemptStart rec t) := by
  unfold Machine.execAttemptStart
  split
  · exact .next (.cond h.startAttempt h)
  · exact .next h

theorem Keeps.execMessageExpired {rec : Word} (h : Keeps s t) : Advances s (execMessageExpired rec t) := by
  unfold Machine.execMessageExpired
  split
  · exact .next (.cond h.complete h)
  · exact .next h

theorem Keeps.donePop (h : Keeps s t) : Keeps s t.donePop := by
  unfold State.donePop
  split
  · exact h.upd
  · exact h.upd.postHeld.setBit

theorem Keeps.execMsgDonePop {who : Requester} (h : Keeps s t) : Advances s (execMsgDonePop who t) :=
  .next (.cond h.guard.donePop h.guard)

theorem Keeps.rebuildWindows (h : Keeps s t) : Keeps s t.rebuildWindows := h.upd.each (fun _ _ hu => hu.putPeer)

theorem Keeps.execMsgRestoreComplete (h : Keeps s t) : Advances s (execMsgRestoreComplete t) :=
  .cond (.next h.rebuildWindows.upd.set) (.next h)

theorem Keeps.execKeptRspExpiry {peer : Half} {msgid : Word} (h : Keeps s t) :
    Advances s (execKeptRspExpiry peer msgid t) := .next h.upd

theorem Keeps.mailPop {k : Nat} (h : Keeps s t) : Keeps s (t.mailPop k) := by
  unfold State.mailPop
  split
  · exact h
  · exact .postHeld (.placeOffers (.cond (by split; exacts [h.modEng.takeOffer, h.modEng]) h.modEng))

theorem Keeps.execMailboxPop {e : Fin 12} (h : Keeps s t) : Advances s (execMailboxPop e t) := .next h.mailPop

/-! ### Join.lean -/

theorem Keeps.dropJoinSf (h : Keeps s t) : Keeps s t.dropJoinSf := by
  unfold State.dropJoinSf
  split
  · exact h
  · exact .cond h.upd h.upd.set

theorem Keeps.dropRequests (h : Keeps s t) : Keeps s t.dropRequests := h.upd

theorem Keeps.failJoin {reason : Nat} (h : Keeps s t) : Keeps s (t.failJoin reason) :=
  h.dropRequests.upd.set.set.raise.dropJoinSf

theorem Keeps.restartCells {k : Nat} (h : Keeps s t) : Keeps s (t.restartCells k) := h.upd

theorem Keeps.setJoinSf {r : ScanRes} (h : Keeps s t) : Keeps s (t.setJoinSf r) := .cond h h.upd.setAll.restartCells

theorem Keeps.sendRequest {r : ScanRes} (h : Keeps s t) : Keeps s (t.sendRequest r) := h.dropRequests.enqueue

theorem Keeps.startJoin {r : ScanRes} (h : Keeps s t) : Keeps s (t.startJoin r) := by
  unfold State.startJoin
  dsimp only
  split
  · exact h.needNbr.refuse
  · exact h.needNbr.setNbr.setJoinSf.setAll.upd.sendRequest

theorem Keeps.join {r : Option ScanRes} (h : Keeps s t) : Keeps s (t.join r) :=
  .cond h.refuse (by split; exacts [h.refuse, .cond h.refuse (.cond h.refuse (.cond h.refuse h.startJoin))])

theorem Keeps.loadKey {i idx : Nat} {key : List Byte} (h : Keeps s t) : Keeps s (t.loadKey i idx key) :=
  .cond h.upd.setKey.commit h.upd.setKey.commit.mirror.mirror

theorem Keeps.takeNetKey {i idx : Nat} {key : List Byte} (h : Keeps s t) : Keeps s (t.takeNetKey i idx key) := by
  unfold State.takeNetKey
  split
  · exact h.set
  · exact h.loadKey.set

theorem Keeps.takeIdentity {pan short : Nat} (h : Keeps s t) : Keeps s (t.takeIdentity pan short) :=
  .cond h.setAll.upd.commit h.setAll

theorem Keeps.soleParent {r : ScanRes} {i : Nat} (h : Keeps s t) : Keeps s (t.soleParent r i) := h.upd.set

theorem Keeps.joinedNow {r : ScanRes} {n : Nbr} {short idx : Nat} {key : List Byte} {up down : Nat} (h : Keeps s t) :
    Keeps s (t.joinedNow r n short idx key up down) := by
  unfold State.joinedNow
  split
  · exact h.failJoin
  · exact h.takeNetKey.setNbr.joinCells.dropRequests.soleParent.takeIdentity.showRank.unpark.raise

theorem Keeps.refusedJoin {status : Nat} (h : Keeps s t) : Keeps s (t.refusedJoin status) :=
  .cond h.failJoin.spend h.failJoin

theorem Keeps.eraseIdentity (h : Keeps s t) : Keeps s t.eraseIdentity := h.dropRequests.upd.setAll.dropJoinSf.commit

theorem Keeps.meshScan (h : Keeps s t) : Keeps s t.meshScan := .cond h.upd.set h.refuse

theorem Keeps.scanDone (h : Keeps s t) : Keeps s t.scanDone := h.set.raise

theorem Keeps.execMeshScan {who : Requester} (h : Keeps s t) : Advances s (execMeshScan who t) :=
  h.command (fun _ hu => hu.meshScan)

theorem Keeps.execMeshJoin {who : Requester} {idx : BitVec 4} (h : Keeps s t) : Advances s (execMeshJoin who idx t) :=
  h.command (fun _ hu => hu.join)

theorem Keeps.execMeshJoinBest {who : Requester} (h : Keeps s t) : Advances s (execMeshJoinBest who t) :=
  h.command (fun _ hu => hu.join)

theorem Keeps.execMeshAbort {who : Requester} (h : Keeps s t) : Advances s (execMeshAbort who t) :=
  h.command (fun _ hu => .cond hu.scanDone hu.refuse)

theorem Keeps.compatJoin (h : Keeps s t) : Keeps s t.compatJoin := .cond (h.upd.operate (fun _ hu => hu.join)) h

theorem Keeps.execScanTimeout (h : Keeps s t) : Advances s (execScanTimeout t) := .next (.cond h.scanDone.compatJoin h)

theorem Keeps.execJoinWaitExpiry (h : Keeps s t) : Advances s (execJoinWaitExpiry t) := by
  unfold Machine.execJoinWaitExpiry
  split
  · exact .next h
  · exact .cond (.next h) (.cond (.next h.upd.sendRequest) (.next h.failJoin))

theorem Keeps.mailSkip {k fuel : Nat} (h : Keeps s t) : Keeps s (State.mailSkip k fuel t) := by
  induction fuel generalizing t with
  | zero => exact h
  | succ fuel ih =>
    unfold State.mailSkip
    split
    · exact h
    · exact .cond h (ih h.mailPop)

theorem Keeps.meshTake {code : Nat} {act : Offer → State → State}
    (h : Keeps s t) (hact : ∀ a u, Keeps s u → Keeps s (act a u)) : Keeps s (t.meshTake code act) := by
  unfold State.meshTake
  dsimp only
  split
  · exact .cond (hact _ _ h.mailSkip.mailPop) h.mailSkip
  · exact h.mailSkip

theorem Keeps.execMeshcmdJoinRelay (h : Keeps s t) : Advances s (execMeshcmdJoinRelay t) :=
  .cond (.next h) (.next (h.meshTake (fun _ _ hu => hu.joinRequest)))

theorem Keeps.execMeshcmdJoinAnswer (h : Keeps s t) : Advances s (execMeshcmdJoinAnswer t) :=
  .next (h.meshTake (fun _ _ hu => by split; exacts [hu, hu.upd.respond]))

theorem Keeps.execMeshcmdParentUpdate (h : Keeps s t) : Advances s (execMeshcmdParentUpdate t) :=
  .cond (.next h) <|
  .next (h.meshTake (fun _ _ hu => .cond hu.bump (by split; exacts [.cond hu.putAssoc.unpark hu, hu])))

theorem Keeps.execMeshcmdLeave (h : Keeps s t) : Advances s (execMeshcmdLeave t) :=
  .next <|
  h.meshTake (fun _ _ hu => .cond (by split; exacts [hu.releaseAssoc, hu]) (.cond hu.eraseIdentity.set.raise hu))

theorem Keeps.execMeshcmdRouteErr (h : Keeps s t) : Advances s (execMeshcmdRouteErr t) :=
  .cond (.next h) (.next (h.meshTake (fun _ _ hu => by split; exacts [hu.putAssoc, hu])))

theorem Keeps.assocCmd {who : Nat} {f : State → State} (h : Keeps s t) (hf : ∀ u, Keeps s u → Keeps s (f u)) :
    Advances s (t.assocCmd who f) := h.command (fun _ hu => .cond hu.refuse (.cond hu.refuse (hf _ hu)))

theorem Keeps.assocDone {idx : Nat} {found : Bool} (h : Keeps s t) : Keeps s (t.assocDone idx found) := h.setAll.raise

theorem Keeps.assocNotFound (h : Keeps s t) : Keeps s t.assocNotFound := h.assocDone.set

theorem Keeps.execAssocLookup {who : Requester} (h : Keeps s t) : Advances s (execAssocLookup who t) :=
  h.assocCmd (fun _ hu => by split; exacts [hu.assocDone, hu.assocNotFound])

theorem Keeps.preload (h : Keeps s t) : Keeps s t.preload := by
  unfold State.preload
  split
  · exact .cond h.admitEntry.assocDone h.refuse
  · dsimp only
    split
    · exact h.allocate.raise.refuse
    · exact h.allocate.putAssoc.assocDone

theorem Keeps.execAssocPreload {who : Requester} (h : Keeps s t) : Advances s (execAssocPreload who t) :=
  h.assocCmd (fun _ hu => hu.preload)

theorem Keeps.onPending {idx : Nat} {f : Assoc → State → State}
    (h : Keeps s t) (hf : ∀ a u, Keeps s u → Keeps s (f a u)) : Keeps s (t.onPending idx f) := by
  unfold State.onPending
  split
  · exact .cond (.assocDone (hf _ _ h)) h.refuse
  · exact h.refuse

theorem Keeps.execAssocApprove {who : Requester} {idx : BitVec 14} (h : Keeps s t) :
    Advances s (execAssocApprove who idx t) := h.assocCmd (fun _ hu => hu.onPending (fun _ _ hv => hv.admitEntry))

theorem Keeps.execAssocDeny {who : Requester} {idx : BitVec 14} (h : Keeps s t) :
    Advances s (execAssocDeny who idx t) := h.assocCmd (fun _ hu => hu.onPending (fun _ _ hv => hv.bump.denyEntry))

theorem Keeps.meshCommandNow {dest code : Nat} {body : List Byte} (h : Keeps s t) :
    Keeps s (t.meshCommandNow dest code body) := h.meshCommand.admitMsg

theorem Keeps.deleteEntry {idx : Nat} (h : Keeps s t) : Keeps s (t.deleteEntry idx) := by
  unfold State.deleteEntry
  split
  · exact h.refuse
  · exact .cond h.refuse <|
      .cond h.refuse <|
      by dsimp only; split; exacts [.assocDone (.releaseAssoc (.cond h.meshCommandNow h)), .cond h.meshCommandNow h]

theorem Keeps.execAssocDelete {who : Requester} {idx : BitVec 14} (h : Keeps s t) :
    Advances s (execAssocDelete who idx t) := h.assocCmd (fun _ hu => hu.deleteEntry)

theorem Keeps.execAssocNextPending {who : Requester} {idx : BitVec 14} (h : Keeps s t) :
    Advances s (execAssocNextPending who idx t) :=
  h.assocCmd (fun _ hu => by split; exacts [hu.assocDone, hu.assocNotFound])

theorem Keeps.drawSalt (h : Keeps s t) : Keeps s t.drawSalt := h.upd.spend.mirror

theorem Keeps.execAssocRehash {who : Requester} (h : Keeps s t) : Advances s (execAssocRehash who t) :=
  h.assocCmd (fun _ hu => hu.drawSalt.upd.set)

theorem Keeps.execRehashComplete (h : Keeps s t) : Advances s (execRehashComplete t) :=
  .cond (.next (h.upd.rebuildIndex.spend.set.raise.upd.each (fun _ _ hu => hu.joinRequest))) (.next h)

theorem Keeps.execApproveTimeout {idx : BitVec 14} (h : Keeps s t) : Advances s (execApproveTimeout idx t) := by
  unfold Machine.execApproveTimeout
  split
  · exact .next (.cond h.bump.denyEntry h)
  · exact .next h

theorem Keeps.execEntryStale {idx : BitVec 14} (h : Keeps s t) : Advances s (execEntryStale idx t) := by
  unfold Machine.execEntryStale
  split
  · exact .next (.cond h.putAssoc.bump.raise h)
  · exact .next h

theorem Keeps.snapBase (h : Keeps s t) : Keeps s t.snapBase := h.upd.set

theorem Keeps.snapAppend (h : Keeps s t) : Keeps s t.snapAppend := .cond h (.cond h.snapBase h.upd)

theorem Keeps.execSnapstotAppend (h : Keeps s t) : Advances s (execSnapstotAppend t) := .next (.cond h.snapAppend h)

theorem Keeps.storeTable (h : Keeps s t) : Keeps s t.storeTable := h.each (fun _ _ hu => hu.assocStore)

theorem Keeps.execTableRestoreComplete (h : Keeps s t) : Advances s (execTableRestoreComplete t) :=
  .cond (.next h) <|
  .cond (.next h.set.rebuildIndex.spend.setAll) <|
  by split; exacts [.next h.set.upd.rebuildIndex.spend.storeTable.setAll, .next h.set.upd.setAll]

/-! ### Attest.lean -/

theorem Keeps.quoteAnswer {q : QuoteReq} {body : List Byte} (h : Keeps s t) : Keeps s (t.quoteAnswer q body) :=
  h.upd.enterMsg.gate (fun _ hu => hu.sendDone)

theorem Keeps.quoteRefuse {q : QuoteReq} {reason : Nat} (h : Keeps s t) : Keeps s (t.quoteRefuse q reason) :=
  h.quoteAnswer

theorem Keeps.execAttestRequest (h : Keeps s t) : Advances s (execAttestRequest t) := by
  unfold Machine.execAttestRequest
  dsimp only
  split
  · exact .next <|
      .cond h.mailSkip.mailPop <|
      .cond h.mailSkip.mailPop.quoteRefuse (.cond h.mailSkip.mailPop.quoteRefuse h.mailSkip.mailPop.pkeQueue)
  · exact .next h.mailSkip

theorem Keeps.pkeEnd {op : PkeOp} (h : Keeps s t) : Keeps s (t.pkeEnd op) := by
  unfold State.pkeEnd
  dsimp only
  split
  · exact h.sign.upd.pkeGrant.quoteAnswer
  · exact .cond h.pkeRun.upd.pkeGrant.set.raise h.pkeRun.upd.pkeGrant.answer

theorem Keeps.execPkeComplete (h : Keeps s t) : Advances s (execPkeComplete t) := by
  unfold Machine.execPkeComplete
  split
  · exact .next h
  · exact .next h.pkeEnd

/-! ### Radio.lean -/

theorem Keeps.over {m : Medium} (h : Keeps s t) : Keeps s (t.over m) := .cond h.rest h.rest.modAir

theorem Keeps.relisten {m : Medium} (h : Keeps s t) : Keeps s (t.relisten m) :=
  .cond (.setPhy (.cond h.modAir.set h.modAir)) h.over

theorem Keeps.trimXo {code temp : Nat} (h : Keeps s t) : Keeps s (t.trimXo code temp) := .cond h.setAll h.upd

theorem Keeps.calSet {c : Chain} {l : List (Fld × Nat × Nat)} {ok : Bool} (h : Keeps s t) : Keeps s (t.calSet c l ok) :=
  .cond h.setAll (.cond h h.setAll)

theorem Keeps.calSteps {c : Chain} {lo hi : Nat} {r : CalResult} (h : Keeps s t) : Keeps s (t.calSteps c lo hi r) :=
  .cond (.calSet <|
     .cond (.calSet <|
        .cond (.calSet <|
           .cond (.setBit (.bumpWrap (.calSet (.cond (by split; exacts [h.trimXo, .cond h h.trimXo]) h)))) <|
           .cond (by split; exacts [h.trimXo, .cond h h.trimXo]) h) <|
        .cond (.setBit (.bumpWrap (.calSet (.cond (by split; exacts [h.trimXo, .cond h h.trimXo]) h)))) <|
        .cond (by split; exacts [h.trimXo, .cond h h.trimXo]) h) <|
     .cond (.calSet <|
        .cond (.setBit (.bumpWrap (.calSet (.cond (by split; exacts [h.trimXo, .cond h h.trimXo]) h)))) <|
        .cond (by split; exacts [h.trimXo, .cond h h.trimXo]) h) <|
     .cond (.setBit (.bumpWrap (.calSet (.cond (by split; exacts [h.trimXo, .cond h h.trimXo]) h)))) <|
     .cond (by split; exacts [h.trimXo, .cond h h.trimXo]) h) <|
  .cond (.calSet <|
     .cond (.calSet <|
        .cond (.setBit (.bumpWrap (.calSet (.cond (by split; exacts [h.trimXo, .cond h h.trimXo]) h)))) <|
        .cond (by split; exacts [h.trimXo, .cond h h.trimXo]) h) <|
     .cond (.setBit (.bumpWrap (.calSet (.cond (by split; exacts [h.trimXo, .cond h h.trimXo]) h)))) <|
     .cond (by split; exacts [h.trimXo, .cond h h.trimXo]) h) <|
  .cond (.calSet <|
     .cond (.setBit (.bumpWrap (.calSet (.cond (by split; exacts [h.trimXo, .cond h h.trimXo]) h)))) <|
     .cond (by split; exacts [h.trimXo, .cond h h.trimXo]) h) <|
  .cond (.setBit (.bumpWrap (.calSet (.cond (by split; exacts [h.trimXo, .cond h h.trimXo]) h)))) <|
  .cond (by split; exacts [h.trimXo, .cond h h.trimXo]) h

theorem Keeps.chainLost {c : Chain} {step : Nat} (h : Keeps s t) : Keeps s (t.chainLost c step) :=
  h.quiet.set.setAll.modChain.raise.record.onlyIf (fun _ hu => hu.modChain.domDown)

theorem Keeps.calEnd {c : Chain} {failed : Option Nat} {r : CalResult} (h : Keeps s t) :
    Keeps s (t.calEnd c failed r) := by
  unfold State.calEnd
  extract_lets t₁ t₂
  have h₁ : Keeps s t₁ := h.modChain
  have h₂ : Keeps s t₂ := h₁.setAll.raise
  split
  · exact h₂.setAll
  · exact .cond h₂.setAll.raise.chainLost h₂.setAll.raise

theorem Keeps.calStart {c : Chain} {temp : Bool} (h : Keeps s t) : Keeps s (t.calStart c temp) :=
  h.wakeFor.modChain.setAll

theorem Keeps.execChainCalComplete {c : Chain} {r : CalResult} (h : Keeps s t) :
    Advances s (execChainCalComplete c r t) := .cond (.next h.calSteps.calEnd) (.next h)

theorem Keeps.rfcalCmd {who w : Nat} (h : Keeps s t) : Keeps s (t.rfcalCmd who w) :=
  .cond h.refuseAccess (.cond h (.cond h.calStart h.modChain))

theorem Keeps.execRfcalRun {who : Requester} {value : Word} (h : Keeps s t) : Advances s (execRfcalRun who value t) :=
  h.command (fun _ hu => hu.rfcalCmd)

theorem Keeps.execTempCheck {c : Chain} {temp : Byte} {gap : Bool} (h : Keeps s t) :
    Advances s (execTempCheck c temp gap t) :=
  .cond (.next h) (.cond (.next h.calStart) (.cond (.next h) (.cond (.next h.calStart) (.next h.modChain))))

theorem Keeps.execTempSetComplete {c : Chain} {steps : Fin 6} {r : CalResult} (h : Keeps s t) :
    Advances s (execTempSetComplete c steps r t) :=
  .cond (.next h) (.cond (.next h.calSteps.calEnd) (.cond (.next h.calSteps.modChain.setAll) (.next h)))

theorem Keeps.noteAir {m : Medium} {chan us : Nat} (h : Keeps s t) : Keeps s (t.noteAir m chan us) := by
  unfold State.noteAir
  exact h.modAir

theorem Keeps.abandon {c : Chain} {reason : Nat} (h : Keeps s t) : Keeps s (t.abandon c reason) := h.rest.set.bump.raise

theorem Keeps.tuner {chan rl : Nat} (h : Keeps s t) : Keeps s (t.tuner chan rl) := by
  unfold State.tuner
  extract_lets _ _ _ _ _ _ _ _ _ t₁ t₂ _ t₃
  have h₁ : Keeps s t₁ := h.modChain
  have h₂ : Keeps s t₂ := h₁.setAll
  have h₃ : Keeps s t₃ := .cond h₂.set.raise h₂
  exact .cond h₃.bump h₃

theorem Keeps.mirrorSeq {n : Nbr} (h : Keeps s t) : Keeps s (t.mirrorSeq n) := .cond h.mirror.upd h

theorem Keeps.giveSeq {f : LinkFrame} (h : Keeps s t) : Keeps s (t.giveSeq f) :=
  .cond h (by split; exacts [h.modFrame.setNbr.mirrorSeq, h.modFrame.upd])

theorem Keeps.keyWait {f : LinkFrame} (h : Keeps s t) : Keeps s (t.keyWait f) := h.modFrame.onlyIf (fun _ hu => hu.bump)

theorem Keeps.giveCounter {f : LinkFrame} (h : Keeps s t) : Keeps s (t.giveCounter f).1 :=
  .condFst h <|
  by split; exacts [h, by dsimp only; split; exacts [h.takeCounter.keyWait, h.takeCounter.giveSeq.modFrame]]

theorem Keeps.unwait (h : Keeps s t) : Keeps s t.unwait :=
  h.each (fun _ _ hu => by split; exacts [hu, .cond hu.openBlock.modFrame hu.openBlock])

theorem Keeps.tune {c : Chain} {chan : Nat} {always : Bool} (h : Keeps s t) : Keeps s (t.tune c chan always) :=
  .cond h.bumpWrap.setAll.modChain h

theorem Keeps.lockFailed {c : Chain} (h : Keeps s t) : Keeps s (t.lockFailed c) := by
  unfold State.lockFailed
  extract_lets _ _ t₁
  have h₁ : Keeps s t₁ := h.bumpWrap.set.modChain.abandon
  exact .cond h₁.chainLost h₁

theorem Keeps.spaceOut (h : Keeps s t) : Keeps s t.spaceOut :=
  .cond h (.cond (by split; exacts [h.modAir.set.bump.raise, h]) h.dropSent.abandon)

theorem Keeps.openWindow {m : Medium} {chan prof : Nat} (h : Keeps s t) : Keeps s (t.openWindow m chan prof) :=
  .setPhy (.cond (.setAll (.modAir (by split; exacts [h.tune, h]))) (.modAir (by split; exacts [h.tune, h])))

theorem Keeps.listen {m : Medium} {chan prof : Nat} {lock : Bool} (h : Keeps s t) :
    Keeps s (t.listen m chan prof lock) := by
  unfold State.listen
  split
  · exact .cond h.lockFailed h.openWindow
  · exact h.openWindow

theorem Keeps.wakeMedium {m : Medium} (h : Keeps s t) : Keeps s (t.wakeMedium m) := .cond h.wakeFor.wakeFor h.wakeFor

theorem Keeps.armed {m : Medium} {lock : Bool} (h : Keeps s t) : Keeps s (t.armed m lock) := by
  unfold State.armed
  split
  · exact h
  · exact .cond (by split; exacts [h.listen, h]) h
  · exact .cond h (by split; exacts [h.listen.modAir, .cond h.listen (.cond h.rest.markUnsync h.setNbr.listen)])

theorem Keeps.execCellArm {m : Medium} {lock : Bool} (h : Keeps s t) : Advances s (execCellArm m lock t) :=
  .cond (.next h) (by split; exacts [.next h.rest.bump.calStart, .next h.wakeMedium.armed.spaceOut])

theorem Keeps.execEnergyDetect {c : Chain} {rssi : Byte} (h : Keeps s t) : Advances s (execEnergyDetect c rssi t) :=
  .cond (.next h.modAir) (.next h)

theorem Keeps.execQualifierTimeout {c : Chain} (h : Keeps s t) : Advances s (execQualifierTimeout c t) :=
  .cond (.next h.modAir.bump) (.next h)

theorem Keeps.found {c : Chain} {bank : Bool} {mode score : Nat} {freq : ℤ} (h : Keeps s t) :
    Keeps s (t.found c bank mode score freq) := h.modAir.setPhy

theorem Keeps.execPreambleQualified {c : Chain} {score : Byte} {freq : Half} (h : Keeps s t) :
    Advances s (execPreambleQualified c score freq t) := .cond (.next h.found) (.next h)

theorem Keeps.execLaneDetect {hits : List (Fin 6 × Byte × Half)} (h : Keeps s t) : Advances s (execLaneDetect hits t) :=
  .cond (.next h) <|
  .cond (.cond (.next h) (.next h.bump.raise)) <|
  by split; exacts [.next h, .next (.found (.cond h.upd.set.bump.bump h.upd.set.bump))]

theorem Keeps.execSfdDetected {c : Chain} {slotUs : Half} (h : Keeps s t) : Advances s (execSfdDetected c slotUs t) :=
  .next (.cond h.modAir h)

theorem Keeps.execSfdTimeout {c : Chain} (h : Keeps s t) : Advances s (execSfdTimeout c t) :=
  .next (.cond h.relisten.bump h)

theorem Keeps.runsOn {m : Medium} {past : Nat} (h : Keeps s t) : Keeps s (t.runsOn m past) :=
  .cond h.modAir h.modAir.modAir.bump.raise

theorem Keeps.execPhrReceived {c : Chain} {phr : Phr} {past : BitVec 6} (h : Keeps s t) :
    Advances s (execPhrReceived c phr past t) :=
  .cond (.next h) (.cond (.next h.relisten.bump) (.next (.cond h.modAir h.modAir.runsOn)))

theorem Keeps.closeWindow {m : Medium} (h : Keeps s t) : Keeps s (t.closeWindow m) := .cond h (.cond h.rest h.modAir)

theorem Keeps.execRxWindowClose {c : Chain} (h : Keeps s t) : Advances s (execRxWindowClose c t) := .next h.closeWindow

theorem Keeps.ackCounter {m : Medium} (h : Keeps s t) : Keeps s (t.ackCounter m).1 := .condFst h.takeCounter h

theorem Keeps.ackGoes {m : Medium} {d : AckDue} {tone : List Byte × Option (List Nat)} (h : Keeps s t) :
    Keeps s (t.ackGoes m d tone) := by
  unfold State.ackGoes
  exact h.ackCounter.setCarried.modAir

theorem Keeps.frameGoes {m : Medium} {a : Attempt} {mode : Nat} {tone : List Byte × Option (List Nat)} (h : Keeps s t) :
    Keeps s (t.frameGoes m a mode tone) := by
  unfold State.frameGoes
  split
  · exact h
  · exact h.setCarried.modAir

theorem Keeps.sampled {c : Chain} {x : TxSample} (h : Keeps s t) : Keeps s (t.sampled c x) :=
  .cond (.set (.cond h.setBit h)) (.cond h.setBit h)

theorem Keeps.txStopped {c : Chain} {reason : Nat} (h : Keeps s t) : Keeps s (t.txStopped c reason) := by
  unfold State.txStopped
  extract_lets t₁ t₂
  have h₁ : Keeps s t₁ := .cond h.bump.raise h
  have h₂ : Keeps s t₂ := .cond h₁.set h₁
  exact .cond h₂.lockFailed h₂.abandon

theorem Keeps.txGoes {c : Chain} {alarm turn : Bool} {nbr chan us : Nat} {x : TxSample} (h : Keeps s t) :
    Keeps s (t.txGoes c alarm turn nbr chan us x) :=
  .setPhy <|
  by
    split
    · exact .cond (.set <|
           .modAir <|
           by
             split
             · exact .tuner <|
                 .noteAir <|
                 .cond (.tune <|
                    .tune (.cond (.abandon (.dropSent (.set (.cond h.bump.raise h)))) (.cond h.bump.raise h))) <|
                 .tune (.cond (.abandon (.dropSent (.set (.cond h.bump.raise h)))) (.cond h.bump.raise h))
             · exact .noteAir <|
                 .cond (.tune <|
                    .tune (.cond (.abandon (.dropSent (.set (.cond h.bump.raise h)))) (.cond h.bump.raise h))) <|
                 .tune (.cond (.abandon (.dropSent (.set (.cond h.bump.raise h)))) (.cond h.bump.raise h))) <|
        .modAir <|
        by
          split
          · exact .tuner <|
              .noteAir <|
              .cond (.tune (.tune (.cond (.abandon (.dropSent (.set (.cond h.bump.raise h)))) (.cond h.bump.raise h)))) <|
              .tune (.cond (.abandon (.dropSent (.set (.cond h.bump.raise h)))) (.cond h.bump.raise h))
          · exact .noteAir <|
              .cond (.tune (.tune (.cond (.abandon (.dropSent (.set (.cond h.bump.raise h)))) (.cond h.bump.raise h)))) <|
              .tune (.cond (.abandon (.dropSent (.set (.cond h.bump.raise h)))) (.cond h.bump.raise h))
    · split
      · exact .tuner <|
          .noteAir <|
          .cond (.tune (.tune (.cond (.abandon (.dropSent (.set (.cond h.bump.raise h)))) (.cond h.bump.raise h)))) <|
          .tune (.cond (.abandon (.dropSent (.set (.cond h.bump.raise h)))) (.cond h.bump.raise h))
      · exact .noteAir <|
          .cond (.tune (.tune (.cond (.abandon (.dropSent (.set (.cond h.bump.raise h)))) (.cond h.bump.raise h)))) <|
          .tune (.cond (.abandon (.dropSent (.set (.cond h.bump.raise h)))) (.cond h.bump.raise h))

theorem Keeps.ackStart {c : Chain} {d : AckDue} {x : TxSample} (h : Keeps s t) : Keeps s (t.ackStart c d x) := by
  unfold State.ackStart
  dsimp only
  split
  · exact h.sampled.txStopped
  · exact h.sampled.txGoes.ackGoes

theorem Keeps.dataStart {c : Chain} {a : Attempt} {x : TxSample} (h : Keeps s t) : Keeps s (t.dataStart c a x) := by
  unfold State.dataStart
  dsimp only
  split
  · exact h.rest
  · split
    · exact h.sampled.txStopped
    · exact .cond h.sampled.giveCounter.rest h.sampled.giveCounter.txGoes.frameGoes

theorem Keeps.execRfTxStart {c : Chain} {x : TxSample} (h : Keeps s t) : Advances s (execRfTxStart c x t) :=
  .cond (.next h) <|
  by
    split
    · exact .next h.ackStart
    · exact .cond (.next h.over) (.cond (.next h.modAir) (.next h.dataStart))
    · exact .next h
    · exact .next h

theorem Keeps.lateStart {m : Medium} {us : Nat} (h : Keeps s t) : Keeps s (t.lateStart m us) :=
  .cond h h.setAll.bump.raise

theorem Keeps.execTxDeferredStart {c : Chain} {late : Half} {x : TxSample} (h : Keeps s t) :
    Advances s (execTxDeferredStart c late x t) := by
  unfold Machine.execTxDeferredStart
  dsimp only
  split
  · exact .cond (.next h) (.cond (.next h.abandon) (.next (.cond h.dataStart.lateStart h.dataStart)))
  · exact .next h
  · exact .next h

theorem Keeps.castSent {f : LinkFrame} (h : Keeps s t) : Keeps s (t.castSent f) :=
  .cond h.dropFrame h.dropFrame.fragSent

theorem Keeps.txEnd {m : Medium} {tune : State → State} (h : Keeps s t) (htune : ∀ u, Keeps s u → Keeps s (tune u)) :
    Keeps s (t.txEnd m tune) := by
  unfold State.txEnd
  dsimp only
  split
  · exact .cond h.over h
  · split
    · exact h.rest
    · exact .cond (.setPhy (.modAir (htune _ h))) h.rest.castSent

theorem Keeps.execRfTxEnd {c : Chain} (h : Keeps s t) : Advances s (execRfTxEnd c t) :=
  .cond (.next h) (.next (.txEnd (.cond h.set h) (fun _ hu => hu.tune)))

theorem Keeps.execWakeCallEnd (h : Keeps s t) : Advances s (execWakeCallEnd t) := by
  unfold Machine.execWakeCallEnd
  split
  · exact .next h
  · exact .next h.upd.rest.upd

theorem Keeps.micaStops (h : Keeps s t) : Keeps s t.micaStops := h.upd.set

theorem Keeps.execWakeCallCheckFailure (h : Keeps s t) : Advances s (execWakeCallCheckFailure t) :=
  .next (.cond h.micaStops.bump h)

/-! ### Plc.lean -/

theorem Keeps.execPlcPreambleDetect {score : Byte} (h : Keeps s t) : Advances s (execPlcPreambleDetect score t) :=
  .cond (.next h.modAir.setPhy) (.next h)

theorem Keeps.execPlcMTimeout (h : Keeps s t) : Advances s (execPlcMTimeout t) :=
  .cond (.next h.relisten.bump) (.next h)

theorem Keeps.putSlot {i : Nat} {t' : ToneSlot} (h : Keeps s t) : Keeps s (t.putSlot i t') := h.upd

theorem Keeps.execPlcFchDecoded {bits : BitVec 40} {slotUs : Half} (h : Keeps s t) :
    Advances s (execPlcFchDecoded bits slotUs t) :=
  .cond (.next h) <|
  .cond (.next h.relisten.bump) <|
  .cond (.next h.modAir) (by dsimp only; split; exacts [.next h.modAir, .next h.relisten.bump.raise])

theorem Keeps.execPlcRxWindowClose (h : Keeps s t) : Advances s (execPlcRxWindowClose t) := .next h.closeWindow

theorem Keeps.showAtt (h : Keeps s t) : Keeps s t.showAtt := .cond h (.cond h.set.set h.set)

theorem Keeps.driverOn {cut : Nat} (h : Keeps s t) : Keeps s (t.driverOn cut) := h.upd.setAll.showAtt.raiseIf.setPhy

theorem Keeps.driverRest (h : Keeps s t) : Keeps s t.driverRest := h.upd.showAtt.set

theorem Keeps.plcAbort (h : Keeps s t) : Keeps s t.plcAbort := h.dropSent.rest.driverRest.bump.raise

theorem Keeps.putFch {r : Nat × Option ToneSet} {nbr : Nat} (h : Keeps s t) : Keeps s (t.putFch r nbr) := h.modAir

theorem Keeps.plcStart {a : Attempt} {cut : Nat} (h : Keeps s t) : Keeps s (t.plcStart a cut) := by
  unfold State.plcStart
  split
  · exact h.rest
  · exact .cond h.plcAbort (.cond h.rest.set (.cond h.giveCounter.rest h.giveCounter.driverOn.frameGoes.putFch))

theorem Keeps.plcAck {d : AckDue} {cut : Nat} (h : Keeps s t) : Keeps s (t.plcAck d cut) :=
  .cond h.plcAbort (.cond h.over.set h.driverOn.ackGoes.putFch)

theorem Keeps.execPlcTxStart {cut : BitVec 5} (h : Keeps s t) : Advances s (execPlcTxStart cut t) :=
  .cond (.next h) <|
  by split; exacts [.next h.plcAck, .cond (.next h.over) (.cond (.next h.modAir) (.next h.plcStart)), .next h, .next h]

theorem Keeps.execPlcTxEnd {zline : Half} (h : Keeps s t) : Advances s (execPlcTxEnd zline t) :=
  .cond (.next h) (.next (h.driverRest.set.txEnd (fun _ hu => hu)))

theorem Keeps.execPlcTxDeferredStart {late : Half} {cut : BitVec 5} (h : Keeps s t) :
    Advances s (execPlcTxDeferredStart late cut t) := by
  unfold Machine.execPlcTxDeferredStart
  dsimp only
  split
  · exact .cond (.next h) (.cond (.next h.rest.set.bump) (.next (.cond h.plcStart.lateStart h.plcStart)))
  · exact .next h
  · exact .next h

theorem Keeps.execDriverThermalChange {temp : Byte} (h : Keeps s t) : Advances s (execDriverThermalChange temp t) :=
  .cond (.next h.set.showAtt.raise) (.cond (.next h.set.showAtt) (.next h))

theorem Keeps.limitSenders (h : Keeps s t) : Keeps s t.limitSenders := by
  unfold State.limitSenders
  extract_lets stop keep t₁ t₂
  have hs : ∀ u m, Keeps s u → Keeps s (stop u m) := by
    intro u m hu
    dsimp only [stop]
    split
    · exact hu.quiet.abandon
    · exact hu.quiet.driverRest
  have h₁ : Keeps s t₁ := h.foldl fun _ _ hu => (hs _ _ hu).set
  have h₂ : Keeps s t₂ := by
    dsimp only [t₂]
    clear_value t₁ keep
    split
    · exact h₁
    · split
      · exact h₁
      · split
        · exact .cond h₁.modAir.set h₁
        · exact h₁
  exact h₂.showAtt

theorem Keeps.issueSet {i : Nat} {t' : ToneSlot} {new : ToneSet} (h : Keeps s t) : Keeps s (t.issueSet i t' new) :=
  h.putSlot.bump.raise

theorem Keeps.requested {i : Nat} (h : Keeps s t) : Keeps s (t.requested i) := by
  unfold State.requested
  split
  · exact h
  · exact .cond h.issueSet h

theorem Keeps.issueIf {i : Nat} {due : ToneSet → ToneSet → Bool} (h : Keeps s t) : Keeps s (t.issueIf i due) := by
  unfold State.issueIf
  split
  · exact h
  · exact .cond h (by dsimp only; split; exacts [.cond h h.issueSet, .cond h.issueSet h])

theorem Keeps.regen {i : Nat} (h : Keeps s t) : Keeps s (t.regen i) := h.issueIf

theorem Keeps.afterRun {i : Nat} {mapNew : Bool} (h : Keeps s t) : Keeps s (t.afterRun i mapNew) := h.issueIf

theorem Keeps.execSoundingRunComplete {bins : List (Byte × List Half)} (h : Keeps s t) :
    Advances s (execSoundingRunComplete bins t) :=
  .cond (.next h) <|
  .next <|
  .each (.raise <|
     .set <|
     .bumpWrap <|
     .cond (h.takeForce.each (fun _ _ hu => hu.setAll) |>.upd.each (fun _ _ hu => hu.set)) <|
     h.takeForce.each (fun _ _ hu => hu.setAll) |>.upd)
    (fun _ _ hu => hu.afterRun)

theorem Keeps.regenCmd {f : State → State} (h : Keeps s t) (hf : ∀ u, Keeps s u → Keeps s (f u)) :
    Keeps s (t.regenCmd f) := .cond h.refuse (hf _ h)

theorem Keeps.execTonemapRegenOne {who : Requester} (h : Keeps s t) : Advances s (execTonemapRegenOne who t) :=
  h.command (fun _ hu => hu.regenCmd (fun _ hv => hv.regen))

theorem Keeps.execTonemapRegenAll {who : Requester} (h : Keeps s t) : Advances s (execTonemapRegenAll who t) :=
  h.command (fun _ hu => hu.regenCmd (fun _ hv => hv.each (fun _ _ hw => hw.regen)))

theorem Keeps.execPrevVersionExpiry {slot : Fin 32} (h : Keeps s t) : Advances s (execPrevVersionExpiry slot t) := by
  unfold Machine.execPrevVersionExpiry
  split
  · exact .next h
  · exact .next (.cond h.putSlot h)

theorem Keeps.plcHeard {nbr : Nat} {power : List Half} {cur : Bool} (h : Keeps s t) :
    Keeps s (t.plcHeard nbr power cur) := by
  unfold State.plcHeard
  dsimp only
  split
  · exact h.putSlot
  · refine .cond h.upd ?_
    split
    · exact h.upd.upd.putSlot
    · split
      · exact h.upd.upd.putSlot.bump.raise
      · exact h.upd.upd

theorem Keeps.adopt {i : Nat} {t' : ToneSlot} {tmid : Nat} {x : ToneSet} (h : Keeps s t) :
    Keeps s (t.adopt i t' tmid x) := h.putSlot.raise

theorem Keeps.toneIe {nbr : Nat} {ie : List Byte} (h : Keeps s t) : Keeps s (t.toneIe nbr ie) := by
  unfold State.toneIe
  split
  · exact h
  · exact .cond (.cond h.requested h) <|
      by
        dsimp only
        split
        · exact .cond (.cond h.requested h) (.cond (.adopt (.cond h.requested h)) (.putSlot (.cond h.requested h)))
        · exact .cond (.adopt (.cond h.requested h)) (.putSlot (.cond h.requested h))

theorem Keeps.toneOutcome {nbr mode : Nat} {acked : Bool} (h : Keeps s t) : Keeps s (t.toneOutcome nbr mode acked) := by
  unfold State.toneOutcome
  split
  · exact h
  · exact .cond h.putSlot (.cond h (.cond h.putSlot.bump.raise h.putSlot))

theorem Keeps.unlock (h : Keeps s t) : Keeps s t.unlock := .cond h.upd.setAll.set.raise h.upd.setAll

theorem Keeps.phaseMm (h : Keeps s t) : Keeps s t.phaseMm := .raise (.setAll (.upd (.cond h.setAll.raise h)))

theorem Keeps.lockNow {d : ℤ} (h : Keeps s t) : Keeps s (t.lockNow d) := h.upd.setAll.raise

theorem Keeps.adoptLock {d : ℤ} (h : Keeps s t) : Keeps s (t.adoptLock d) :=
  .cond h.lockNow.upd (by split; exacts [h.lockNow, .cond h.set (.cond h.lockNow (.cond h.phaseMm h.set))])

theorem Keeps.tryLock (h : Keeps s t) : Keeps s t.tryLock := .cond h.adoptLock h

theorem Keeps.zxMiss (h : Keeps s t) : Keeps s t.zxMiss := .cond h.bump.upd.unlock h.bump.upd

theorem Keeps.zxRise {slotUs period : Nat} {err : ℤ} (h : Keeps s t) : Keeps s (t.zxRise slotUs period err) :=
  .cond (.cond h.upd.raiseIf.set.unlock h.upd.raiseIf.set) <|
  .cond h.upd.set.unlock (.cond (.cond h.upd.set.set h.upd.set) (.tryLock (.cond h.upd.set.set h.upd.set)))

theorem Keeps.execZeroCrossingTimestamp {rising : Bool} {slotUs : Half} {period : BitVec 24} {err : Half}
    (h : Keeps s t) : Advances s (execZeroCrossingTimestamp rising slotUs period err t) :=
  .cond (.next h) (.cond (.next h.zxMiss) (.cond (.next h.setAll.bump) (.next h.setAll.zxRise)))

theorem Keeps.execZeroCrossingMiss (h : Keeps s t) : Advances s (execZeroCrossingMiss t) := .next (.cond h.zxMiss h)

/-! ### Sched.lean -/

theorem Keeps.turnCells (h : Keeps s t) : Keeps s t.turnCells := h.upd

theorem Keeps.arm {m : Medium} {act : Activity} {span past : Nat} (h : Keeps s t) : Keeps s (t.arm m act span past) := by
  unfold State.arm
  exact .modAir (.cond h h.rest)

theorem Keeps.reserve {m : Medium} {c : Cell} {f : LinkFrame} {alarm : Bool} (h : Keeps s t) :
    Keeps s (t.reserve m c f alarm) := h.arm

theorem Keeps.listenOn {m : Medium} {c : Cell} {nbr : Nat} (h : Keeps s t) : Keeps s (t.listenOn m c nbr) := h.arm

theorem Keeps.listenAlarm {m : Medium} {c : Cell} (h : Keeps s t) : Keeps s (t.listenAlarm m c) := h.listenOn

theorem Keeps.noFit {c : Cell} {f : LinkFrame} (h : Keeps s t) : Keeps s (t.noFit c f) :=
  .cond h <|
  .cond (h.each (fun _ _ hu => by split <;> exact hu.bump.raise)) <|
  h.each (fun _ _ hu => by split <;> exact hu.bump.raise) |>.fragNofit

theorem Keeps.probeCount {f : LinkFrame} (h : Keeps s t) : Keeps s (t.probeCount f).1 := by
  unfold State.probeCount
  split
  · exact h
  · exact .cond h.setNbr h

theorem Keeps.sendIn {c : Cell} {f : LinkFrame} (h : Keeps s t) : Keeps s (t.sendIn c f) := by
  unfold State.sendIn
  dsimp only
  split
  · exact h.noFit.bump
  · exact .cond (by
           split
           · exact .reserve (.cond h.probeCount.reserve.upd h.probeCount.reserve)
           · exact .cond h.probeCount.reserve.upd h.probeCount.reserve) <|
      .cond h.probeCount.reserve.upd h.probeCount.reserve

theorem Keeps.bcSend {c : Cell} (h : Keeps s t) : Keeps s (t.bcSend c) := by
  unfold State.bcSend
  extract_lets go
  have hgo : ∀ u f, Keeps s u → Keeps s (go u f) := by
    intro u f hu
    dsimp only [go]
    split
    · exact hu.noFit.bump
    · exact hu.reserve.upd
  clear_value go
  split
  · exact hgo _ _ h
  · refine .cond h (.cond h.upd (.cond h.upd.bump ?_))
    split
    · exact hgo _ _ h.upd.enqueue
    · exact h.upd.enqueue

theorem Keeps.sendRole {c : Cell} (h : Keeps s t) : Keeps s (t.sendRole c) := by
  unfold State.sendRole
  split
  · split
    · exact h.sendIn
    · exact h
  · split
    · exact .cond h.sendIn h
    · exact h
  · exact h.bcSend
  · exact h

theorem Keeps.listenRole {c : Cell} (h : Keeps s t) : Keeps s (t.listenRole c) := by
  unfold State.listenRole
  split
  · exact h.each (fun _ _ hu => hu.listenOn)
  · exact .cond h (.cond h.bump (h.each (fun _ _ hu => hu.listenOn)))

theorem Keeps.recvRole {c : Cell} (h : Keeps s t) : Keeps s (t.recvRole c) := by
  unfold State.recvRole
  split
  · exact h.listenRole
  · exact h.listenRole
  · exact .cond h h.modNbr.listenRole
  · exact h

theorem Keeps.gaspSend (h : Keeps s t) : Keeps s t.gaspSend := by
  unfold State.gaspSend
  split
  · exact h
  · split
    · exact h
    · exact .cond h (.cond (.reserve (.cond h.reserve h)) (.cond h.reserve h))

theorem Keeps.alarmUse (h : Keeps s t) : Keeps s t.alarmUse :=
  .cond (.each (by
          split
          · exact h
          · split
            · exact h.noFit
            · exact .cond (by split; exacts [h.reserve.reserve, h.reserve]) h.reserve)
       (fun _ _ hu => .cond hu.listenAlarm hu)) <|
  by split; exacts [h, by split; exacts [h.noFit, .cond (by split; exacts [h.reserve.reserve, h.reserve]) h.reserve]]

theorem Keeps.joinListen {c : Cell} {nbr : Nat} (h : Keeps s t) : Keeps s (t.joinListen c nbr) :=
  h.each (fun _ _ hu => hu.listenOn)

theorem Keeps.joinServe (h : Keeps s t) : Keeps s t.joinServe :=
  .cond h (by dsimp only; split; exacts [by split; exacts [h.reserve, h.noFit], h.joinListen])

theorem Keeps.joinAsk (h : Keeps s t) : Keeps s t.joinAsk := by
  unfold State.joinAsk
  split
  · exact h
  · exact .cond h (by dsimp only; split; exacts [.cond h.reserve h.noFit, h.joinListen])

theorem Keeps.advance (h : Keeps s t) : Keeps s t.advance :=
  .cond (.bump (by split; exacts [.setAll (.upd (.cond h.upd h.upd.setBit)), .cond h.upd h.upd.setBit])) <|
  by split; exacts [.setAll (.upd (.cond h.upd h.upd.setBit)), .cond h.upd h.upd.setBit]

theorem Keeps.keySwitch (h : Keeps s t) : Keeps s t.keySwitch := .cond h.setAll.raise.mirror h

theorem Keeps.mirrorNbrs (h : Keeps s t) : Keeps s t.mirrorNbrs := .cond (h.each (fun _ _ hu => hu.mirror) |>.upd) h

theorem Keeps.overrun {m : Medium} (h : Keeps s t) : Keeps s (t.overrun m) := .cond h.bump.raise h

theorem Keeps.tooLate {m : Medium} (h : Keeps s t) : Keeps s (t.tooLate m) :=
  .cond h (by dsimp only; split; exacts [h.set.bump.raise, h.set.bump])

theorem Keeps.clearEnded {m : Medium} (h : Keeps s t) : Keeps s (t.clearEnded m) :=
  .cond h (.cond h.tooLate.modAir h.tooLate.rest)

theorem Keeps.armSlot (h : Keeps s t) : Keeps s t.armSlot :=
  h.each (fun _ _ hu => hu.sendRole) |>.each (fun _ _ hu => hu.recvRole) |>.joinAsk.joinServe.alarmUse.spaceOut

theorem Keeps.armCheck (h : Keeps s t) : Keeps s t.armCheck := by
  unfold State.armCheck
  extract_lets _ t₁ t₂
  have h₁ : Keeps s t₁ := h.each (fun _ _ hu => hu.listenRole)
  have h₂ : Keeps s t₂ := .cond h₁.listenAlarm h₁
  exact .spaceOut (.cond h₂.listenOn h₂)

theorem Keeps.slotBoundary (h : Keeps s t) : Keeps s t.slotBoundary := by
  unfold State.slotBoundary
  extract_lets t₁ t₂ t₃ t₄
  have h₁ : Keeps s t₁ := h.advance.turnCells
  have h₂ : Keeps s t₂ := h₁.each (fun _ _ hu => hu.overrun.clearEnded) |>.unwait.keySwitch
  have h₃ : Keeps s t₃ := h₂.mirrorNbrs
  have h₄ : Keeps s t₄ := h₃.each (fun _ _ hu => hu.childWindow)
  exact .cond h₄ (.cond h₄.armCheck (.cond h₄ h₄.gaspSend.armSlot))

theorem Keeps.execSlotBoundary (h : Keeps s t) : Advances s (execSlotBoundary t) := .next (.cond h h.slotBoundary)

theorem Keeps.migrate (h : Keeps s t) : Keeps s t.migrate := .cond h.upd h.upd.bump.raise

theorem Keeps.mirrorSeqs (h : Keeps s t) : Keeps s t.mirrorSeqs := .cond (h.each (fun _ _ hu => hu.mirror)) h

theorem Keeps.takePhase (h : Keeps s t) : Keeps s t.takePhase :=
  .cond h.upd (.cond h.upd.upd.setAll.raise h.upd.upd.setBit)

theorem Keeps.halt (h : Keeps s t) : Keeps s t.halt := .cond h (h.each (fun _ _ hu => .cond hu.quiet hu) |>.upd)

theorem Keeps.slotframeBoundary (h : Keeps s t) : Keeps s t.slotframeBoundary :=
  h.takeForce.takePhase.halt.each (fun _ _ hu => hu.modAir) |>.migrate.setBit.mirrorSeqs.evalParents

theorem Keeps.execSlotframeBoundary (h : Keeps s t) : Advances s (execSlotframeBoundary t) :=
  .next (.cond h h.slotframeBoundary)

theorem Keeps.execMediumLeavesService {m : Medium} (h : Keeps s t) : Advances s (execMediumLeavesService m t) :=
  .next (.modAir (.cond h h.quiet))

theorem Keeps.backOff {i : Nat} {alarm : Bool} (h : Keeps s t) : Keeps s (t.backOff i alarm) := by
  unfold State.backOff
  split
  · exact h
  · exact h.setNbr.spend

theorem Keeps.gaspOver {num : Nat} (h : Keeps s t) : Keeps s (t.gaspOver num) := .cond h.upd h

theorem Keeps.retryDrop {f : LinkFrame} (h : Keeps s t) : Keeps s (t.retryDrop f) := by
  unfold State.retryDrop
  extract_lets t₁
  have h₁ : Keeps s t₁ := h.dropFrame.gaspOver
  exact .cond h₁ h₁.bump.raise.returned

theorem Keeps.attemptFailed {f : LinkFrame} {a : Attempt} (h : Keeps s t) : Keeps s (t.attemptFailed f a) := by
  unfold State.attemptFailed
  extract_lets t₁
  have h₁ : Keeps s t₁ := .cond h.backOff h
  exact .cond h₁.retryDrop (.modFrame (.cond h₁.spend h₁))

theorem Keeps.ackMissed {m : Medium} {a : Attempt} (h : Keeps s t) : Keeps s (t.ackMissed m a) := by
  unfold State.ackMissed
  extract_lets _ t₁ t₂
  have h₁ : Keeps s t₁ := h.rest.modAir
  have h₂ : Keeps s t₂ := h₁.bump
  split
  · exact h₂
  · dsimp only
    split
    · split
      · exact .cond h₂.estimate.missed.toneOutcome h₂.estimate.missed
      · exact h₂
    · exact .cond (by split; exacts [.cond h₂.estimate.missed.toneOutcome h₂.estimate.missed, h₂]) <|
        .attemptFailed (by split; exacts [.cond h₂.estimate.missed.toneOutcome h₂.estimate.missed, h₂])

theorem Keeps.execAckMissed {m : Medium} (h : Keeps s t) : Advances s (execAckMissed m t) := by
  unfold Machine.execAckMissed
  split
  · exact .next h.ackMissed
  · exact .next h

theorem Keeps.keepAlive {i : Nat} (h : Keeps s t) : Keeps s (t.keepAlive i) := h.enqueue

theorem Keeps.execKeepaliveDue (h : Keeps s t) : Advances s (execKeepaliveDue t) := by
  unfold Machine.execKeepaliveDue
  split
  · split
    · exact .next (.cond h.keepAlive h)
    · exact .next h
  · exact .next h

theorem Keeps.wakeCall {n : Nbr} {x : TxSample} (h : Keeps s t) : Keeps s (t.wakeCall n x) := by
  unfold State.wakeCall
  extract_lets t₁
  have h₁ : Keeps s t₁ := h.quiet.wakeMedium.sampled
  split
  · exact h₁.txStopped
  · exact h₁.txGoes.bump.upd.spaceOut

theorem Keeps.resyncExpiry {r : Resync} {x : TxSample} (h : Keeps s t) : Keeps s (t.resyncExpiry r x) := by
  unfold State.resyncExpiry
  split
  · exact h.upd
  · exact .cond h.markLost (.cond h.wakeCall h)

theorem Keeps.execResyncExpiry {nbr : Byte} {x : TxSample} (h : Keeps s t) : Advances s (execResyncExpiry nbr x t) := by
  unfold Machine.execResyncExpiry
  split
  · exact .next (.cond h.resyncExpiry h)
  · exact .next h

theorem Keeps.poll (h : Keeps s t) : Keeps s t.poll := by
  unfold State.poll
  split
  · exact h
  · exact h.upd.enqueue

theorem Keeps.execPollDue (h : Keeps s t) : Advances s (execPollDue t) := .next (.cond h.poll h)

theorem Keeps.execPollResponseEnd (h : Keeps s t) : Advances s (execPollResponseEnd t) :=
  .next (by split; exacts [h.upd.onlyIf (fun _ hu => hu.missed), h.upd])

theorem Keeps.execChildPollTimeout {nbr : Byte} (h : Keeps s t) : Advances s (execChildPollTimeout nbr t) := by
  unfold Machine.execChildPollTimeout
  split
  · exact .next (.cond h.markUnsync h)
  · exact .next h

theorem Keeps.cellCmd {who : Nat} {changes : Bool} {f : State → State}
    (h : Keeps s t) (hf : ∀ u, Keeps s u → Keeps s (f u)) : Advances s (t.cellCmd who changes f) :=
  h.command (fun _ hu => .cond hu.refuse (hf _ hu))

theorem Keeps.cellAdd (h : Keeps s t) : Keeps s t.cellAdd :=
  .cond h.refuse (by dsimp only; split; exacts [h.refuse, h.addCell.set.raise])

theorem Keeps.execCellcmdAdd {who : Requester} (h : Keeps s t) : Advances s (execCellcmdAdd who t) :=
  h.cellCmd (fun _ hu => hu.cellAdd)

theorem Keeps.cellGo {c : Cell} (h : Keeps s t) : Keeps s (t.cellGo c) := h.upd.mirror

theorem Keeps.execCellcmdDel {who : Requester} {idx : BitVec 11} (h : Keeps s t) :
    Advances s (execCellcmdDel who idx t) := h.cellCmd (fun _ hu => by split; exacts [hu.cellGo.raise, hu.refuse])

theorem Keeps.execCellcmdRead {who : Requester} {idx : BitVec 11} (h : Keeps s t) :
    Advances s (execCellcmdRead who idx t) := h.cellCmd (fun _ hu => by split; exacts [hu.setAll.raise, hu.set.refuse])

theorem Keeps.execCellcmdDeleteSf {who : Requester} (h : Keeps s t) : Advances s (execCellcmdDeleteSf who t) :=
  h.cellCmd (fun _ hu => hu.each (fun _ _ hv => hv.cellGo) |>.raise)

theorem Keeps.execSchedTime0Read {who : Requester} {slotUs : Half} (h : Keeps s t) :
    Advances s (execSchedTime0Read who slotUs t) := .next (.cond h.guard.upd h.guard)

theorem Keeps.clearStaged (h : Keeps s t) : Keeps s t.clearStaged := h.upd

theorem Keeps.keyLoad (h : Keeps s t) : Keeps s t.keyLoad :=
  .cond h.clearStaged.refuse (.cond h.clearStaged.refuse (.cond h.clearStaged.refuse h.clearStaged.loadKey))

theorem Keeps.execLinksecKeyLoad {who : Requester} (h : Keeps s t) : Advances s (execLinksecKeyLoad who t) :=
  h.command (fun _ hu => hu.keyLoad)

theorem Keeps.keyErase (h : Keeps s t) : Keeps s t.keyErase :=
  .cond h.clearStaged.refuse h.clearStaged.setKey.commit.mirror

theorem Keeps.execLinksecKeyErase {who : Requester} (h : Keeps s t) : Advances s (execLinksecKeyErase who t) :=
  h.command (fun _ hu => hu.keyErase)

/-! ### Words.lean -/

theorem Keeps.putWord {p off w : Nat} (h : Keeps s t) : Keeps s (t.putWord p off w) := h.setAll

/-! ### Deliver.lean -/

theorem Keeps.rxStore {m : Medium} {f : AirFrame} {rx : RxInfo} (h : Keeps s t) : Keeps s (t.rxStore m f rx) := by
  unfold State.rxStore
  exact h.modAir

theorem Keeps.contact {i : Nat} {y : Option SyncIe} (h : Keeps s t) : Keeps s (t.contact i y) := by
  unfold State.contact
  split
  · exact h
  · exact .cond (.bump (.upd (.setNbr (.cond h.upd h)))) (.setNbr (.cond h.upd h))

theorem Keeps.timing {i : Nat} {error : ℤ} {corr : Option ℤ} {base : Bool} (h : Keeps s t) :
    Keeps s (t.timing i error corr base) := by
  unfold State.timing
  split
  · exact h
  · exact .cond (.tryLock <|
         .cond (.phaseMm (.cond (.upd (by split; exacts [h, h.setNbr])) (by split; exacts [h, h.setNbr]))) <|
         .cond (.upd (by split; exacts [h, h.setNbr])) (by split; exacts [h, h.setNbr])) <|
      .cond (.phaseMm (.cond (.upd (by split; exacts [h, h.setNbr])) (by split; exacts [h, h.setNbr]))) <|
      .cond (.upd (by split; exacts [h, h.setNbr])) (by split; exacts [h, h.setNbr])

theorem Keeps.firstSync {i past : Nat} {y : Option SyncIe} (h : Keeps s t) : Keeps s (t.firstSync i past y) := by
  unfold State.firstSync
  split
  · exact h
  · exact .cond h.upd.set h

theorem Keeps.setRole {r : Nat} (h : Keeps s t) : Keeps s (t.setRole r) := .cond h h.set.raise

theorem Keeps.detach (h : Keeps s t) : Keeps s t.detach :=
  .setRole (.set (.each (.cond (h.each (fun _ _ hu => hu.complete)) h) (fun _ _ hu => hu.quiet)))

theorem Keeps.dualHeard {f : AirFrame} (h : Keeps s t) : Keeps s (t.dualHeard f) :=
  .cond h (.cond h.detach.raise (.cond (.cond h.bump.raise.detach h.bump.raise.upd) h))

theorem Keeps.addResult {x : ScanRes} (h : Keeps s t) : Keeps s (t.addResult x) := by
  unfold State.addResult
  dsimp only
  split
  · exact h.upd
  · exact h

theorem Keeps.orphanJoin (h : Keeps s t) : Keeps s t.orphanJoin := .cond (by split; exacts [.cond h h.startJoin, h]) h

theorem Keeps.beaconHeard {m : Medium} {f : AirFrame} {rx : RxInfo} {checked : Bool} (h : Keeps s t) :
    Keeps s (t.beaconHeard m f rx checked) :=
  .cond h <|
  .cond (.orphanJoin (.addResult (.cond (by dsimp only; split; exacts [h.needNbr.upd.setNbr, h.needNbr]) h))) <|
  .cond (by dsimp only; split; exacts [h.needNbr.upd.setNbr, h.needNbr]) h

theorem Keeps.assocRequest {f : AirFrame} (h : Keeps s t) : Keeps s (t.assocRequest f) :=
  .cond (.cond h (.cond h.upd h.joinRequest)) (.cond h h.upd.meshCommand)

theorem Keeps.assocResponse {f : AirFrame} (h : Keeps s t) : Keeps s (t.assocResponse f) := by
  unfold State.assocResponse
  split
  · exact .cond h (.cond h.joinedNow h.refusedJoin)
  · exact h
  · exact h
  · exact h

theorem Keeps.routeErr {f : LinkFrame} {next final : Nat} (h : Keeps s t) : Keeps s (t.routeErr f next final) :=
  h.returned.meshCommand

theorem Keeps.forwardDown {f : AirFrame} {ie : MeshIe} (h : Keeps s t) : Keeps s (t.forwardDown f ie) :=
  .cond h.bump (.cond h.bump (by dsimp only; split; exacts [.cond h.routeErr h.bump.sendTo, h.routeErr]))

theorem Keeps.forwardUp {from_ : Option Nat} {f : AirFrame} {ie : MeshIe} (h : Keeps s t) :
    Keeps s (t.forwardUp from_ f ie) :=
  .cond (by split; exacts [h.bump.returned, .sendTo (.bump (by split; exacts [h.putAssoc, h]))]) <|
  .cond h (by split; exacts [h.returned, .cond h.bump (.cond h.bump.evalParents h.bump.sendTo)])

theorem Keeps.castHeard {f : AirFrame} {ie : MeshIe} (h : Keeps s t) : Keeps s (t.castHeard f ie) :=
  .cond h.fragment (.cond h.bump (.cond h.upd.fragment (.cond h.upd.fragment.bump h.upd.fragment.bump.enqueue)))

theorem Keeps.upward {origin : Nat} (h : Keeps s t) : Keeps s (t.upward origin) :=
  .cond h (by split; exacts [h.putAssoc.unpark, h])

theorem Keeps.meshData {from_ : Option Nat} {f : AirFrame} {ie : MeshIe} (h : Keeps s t) :
    Keeps s (t.meshData from_ f ie) := by
  unfold State.meshData
  extract_lets t₁
  have h₁ : Keeps s t₁ := .cond h.upward h
  exact .cond h₁.fragment (.cond h₁.castHeard (.cond h₁.forwardDown h₁.forwardUp))

theorem Keeps.dataHeard {n : Option Nbr} {f : AirFrame} (h : Keeps s t) : Keeps s (t.dataHeard n f) := by
  unfold State.dataHeard
  dsimp only
  split
  · exact h.meshData
  · split
    · exact .cond h.meshData h
    · exact h

theorem Keeps.pollHeard {n : Nbr} (h : Keeps s t) : Keeps s (t.pollHeard n) := h.setNbr.childWindow

theorem Keeps.extendChild {m : Medium} {i : Nat} (h : Keeps s t) : Keeps s (t.extendChild m i) := h.modNbr

theorem Keeps.deliver5 {n : Option Nbr} {f : AirFrame} (h : Keeps s t) : Keeps s (t.deliver5 n f) :=
  .cond h.upd <|
  by
    split
    · exact h.dataHeard
    · exact h
    · exact h
    · exact .cond h.assocRequest (.cond h.assocResponse (by split; exacts [.cond h.pollHeard h, h]))

theorem Keeps.ackFor {m : Medium} {n : Option Nbr} {f : AirFrame} {rx : RxInfo} {pending : Bool} (h : Keeps s t) :
    Keeps s (t.ackFor m n f rx pending) := .cond h h.modAir

theorem Keeps.extendResp {i : Nat} {f : AirFrame} (h : Keeps s t) : Keeps s (t.extendResp i f) := .cond h.upd h

theorem Keeps.fromNbr {m : Medium} {n : Nbr} {f : AirFrame} {rx : RxInfo} (h : Keeps s t) :
    Keeps s (t.fromNbr m n f rx) := by
  unfold State.fromNbr
  extract_lets _ _ t₁ _ t₂ t₃
  have h₁ : Keeps s t₁ := h.modNbr
  have h₂ : Keeps s t₂ := h₁.contact.firstSync
  have h₃ : Keeps s t₃ := h₂.timing.extendResp
  split
  · exact h₃.toneIe
  · exact h₃

theorem Keeps.judge {m : Medium} {n : Nbr} {f : AirFrame} {rx : RxInfo} (h : Keeps s t) :
    Keeps s (t.judge m n f rx).1 := by
  unfold State.judge
  dsimp only
  split
  · dsimp only
    exact h.fromNbr.bump.ackFor
  · refine .condFst h.bump ?_
    split
    all_goals
      dsimp only
      exact h.noteHwm.modNbr.fromNbr.bump.ackFor

theorem Keeps.stranger {m : Medium} {f : AirFrame} {rx : RxInfo} (h : Keeps s t) : Keeps s (t.stranger m f rx) :=
  .cond h.bump.ackFor.deliver5 h.bump

theorem Keeps.secDrop {m : Medium} {f : AirFrame} : OnSome (fun drop => ∀ u, Keeps s u → Keeps s (drop u)) (t.secDrop m f) :=
  .cond (.cond .none (.some fun _ hu => hu.bump)) <|
  .cond (.some fun _ hu => hu.bump) <|
  .cond (.some fun _ hu => hu.bump) <|
  .cond (.some fun _ hu => hu.bump) <|
  .cond (.some fun _ hu => hu.bump) (.cond (.some fun _ hu => hu.bump.raise) .none)

theorem Keeps.accept {m : Medium} {f : AirFrame} {rx : RxInfo} (h : Keeps s t) : Keeps s (t.accept m f rx) := by
  refine .cond (.beaconHeard ?_) (.cond h.bump ?_)
  · split
    · exact h.firstSync.timing
    · exact h
  · split
    · next drop e => exact Keeps.secDrop _ e _ h
    · have hb : Keeps s (bif decide (f.kind = .beacon) then t.beaconHeard m f rx true else t) := .cond h.beaconHeard h
      dsimp only
      split
      · exact .cond hb hb.stranger
      · exact .cond hb.judge.deliver5 hb.judge

theorem Keeps.ackReceived {m : Medium} {a : Attempt} {f : AirFrame} (h : Keeps s t) : Keeps s (t.ackReceived m a f) := by
  unfold State.ackReceived
  split
  · exact h.quiet
  · exact .cond h.ackMissed <|
      .cond (.gaspOver <|
         .dropFrame <|
         by
           split
           · exact h.rest.modAir.bump
           · exact .cond (.upd <|
                  .cond (.toneOutcome <|
                     by
                       split
                       · exact .toneIe <|
                           by
                             split
                             · exact .timing <|
                                 .cond h.rest.modAir.bump.estimate.contact.modNbr.extendChild <|
                                 h.rest.modAir.bump.estimate.contact.modNbr.extendChild.noteHwm
                             · exact .cond h.rest.modAir.bump.estimate.contact.modNbr.extendChild <|
                                 h.rest.modAir.bump.estimate.contact.modNbr.extendChild.noteHwm
                       · split
                         · exact .timing <|
                             .cond h.rest.modAir.bump.estimate.contact.modNbr.extendChild <|
                             h.rest.modAir.bump.estimate.contact.modNbr.extendChild.noteHwm
                         · exact .cond h.rest.modAir.bump.estimate.contact.modNbr.extendChild <|
                             h.rest.modAir.bump.estimate.contact.modNbr.extendChild.noteHwm) <|
                  by
                    split
                    · exact .toneIe <|
                        by
                          split
                          · exact .timing <|
                              .cond h.rest.modAir.bump.estimate.contact.modNbr.extendChild <|
                              h.rest.modAir.bump.estimate.contact.modNbr.extendChild.noteHwm
                          · exact .cond h.rest.modAir.bump.estimate.contact.modNbr.extendChild <|
                              h.rest.modAir.bump.estimate.contact.modNbr.extendChild.noteHwm
                    · split
                      · exact .timing <|
                          .cond h.rest.modAir.bump.estimate.contact.modNbr.extendChild <|
                          h.rest.modAir.bump.estimate.contact.modNbr.extendChild.noteHwm
                      · exact .cond h.rest.modAir.bump.estimate.contact.modNbr.extendChild <|
                          h.rest.modAir.bump.estimate.contact.modNbr.extendChild.noteHwm) <|
               .cond (.toneOutcome <|
                  by
                    split
                    · exact .toneIe <|
                        by
                          split
                          · exact .timing <|
                              .cond h.rest.modAir.bump.estimate.contact.modNbr.extendChild <|
                              h.rest.modAir.bump.estimate.contact.modNbr.extendChild.noteHwm
                          · exact .cond h.rest.modAir.bump.estimate.contact.modNbr.extendChild <|
                              h.rest.modAir.bump.estimate.contact.modNbr.extendChild.noteHwm
                    · split
                      · exact .timing <|
                          .cond h.rest.modAir.bump.estimate.contact.modNbr.extendChild <|
                          h.rest.modAir.bump.estimate.contact.modNbr.extendChild.noteHwm
                      · exact .cond h.rest.modAir.bump.estimate.contact.modNbr.extendChild <|
                          h.rest.modAir.bump.estimate.contact.modNbr.extendChild.noteHwm) <|
               by
                 split
                 · exact .toneIe <|
                     by
                       split
                       · exact .timing <|
                           .cond h.rest.modAir.bump.estimate.contact.modNbr.extendChild <|
                           h.rest.modAir.bump.estimate.contact.modNbr.extendChild.noteHwm
                       · exact .cond h.rest.modAir.bump.estimate.contact.modNbr.extendChild <|
                           h.rest.modAir.bump.estimate.contact.modNbr.extendChild.noteHwm
                 · split
                   · exact .timing <|
                       .cond h.rest.modAir.bump.estimate.contact.modNbr.extendChild <|
                       h.rest.modAir.bump.estimate.contact.modNbr.extendChild.noteHwm
                   · exact .cond h.rest.modAir.bump.estimate.contact.modNbr.extendChild <|
                       h.rest.modAir.bump.estimate.contact.modNbr.extendChild.noteHwm) <|
      .fragSent <|
      .gaspOver <|
      .dropFrame <|
      by
        split
        · exact h.rest.modAir.bump
        · exact .cond (.upd <|
               .cond (.toneOutcome <|
                  by
                    split
                    · exact .toneIe <|
                        by
                          split
                          · exact .timing <|
                              .cond h.rest.modAir.bump.estimate.contact.modNbr.extendChild <|
                              h.rest.modAir.bump.estimate.contact.modNbr.extendChild.noteHwm
                          · exact .cond h.rest.modAir.bump.estimate.contact.modNbr.extendChild <|
                              h.rest.modAir.bump.estimate.contact.modNbr.extendChild.noteHwm
                    · split
                      · exact .timing <|
                          .cond h.rest.modAir.bump.estimate.contact.modNbr.extendChild <|
                          h.rest.modAir.bump.estimate.contact.modNbr.extendChild.noteHwm
                      · exact .cond h.rest.modAir.bump.estimate.contact.modNbr.extendChild <|
                          h.rest.modAir.bump.estimate.contact.modNbr.extendChild.noteHwm) <|
               by
                 split
                 · exact .toneIe <|
                     by
                       split
                       · exact .timing <|
                           .cond h.rest.modAir.bump.estimate.contact.modNbr.extendChild <|
                           h.rest.modAir.bump.estimate.contact.modNbr.extendChild.noteHwm
                       · exact .cond h.rest.modAir.bump.estimate.contact.modNbr.extendChild <|
                           h.rest.modAir.bump.estimate.contact.modNbr.extendChild.noteHwm
                 · split
                   · exact .timing <|
                       .cond h.rest.modAir.bump.estimate.contact.modNbr.extendChild <|
                       h.rest.modAir.bump.estimate.contact.modNbr.extendChild.noteHwm
                   · exact .cond h.rest.modAir.bump.estimate.contact.modNbr.extendChild <|
                       h.rest.modAir.bump.estimate.contact.modNbr.extendChild.noteHwm) <|
            .cond (.toneOutcome <|
               by
                 split
                 · exact .toneIe <|
                     by
                       split
                       · exact .timing <|
                           .cond h.rest.modAir.bump.estimate.contact.modNbr.extendChild <|
                           h.rest.modAir.bump.estimate.contact.modNbr.extendChild.noteHwm
                       · exact .cond h.rest.modAir.bump.estimate.contact.modNbr.extendChild <|
                           h.rest.modAir.bump.estimate.contact.modNbr.extendChild.noteHwm
                 · split
                   · exact .timing <|
                       .cond h.rest.modAir.bump.estimate.contact.modNbr.extendChild <|
                       h.rest.modAir.bump.estimate.contact.modNbr.extendChild.noteHwm
                   · exact .cond h.rest.modAir.bump.estimate.contact.modNbr.extendChild <|
                       h.rest.modAir.bump.estimate.contact.modNbr.extendChild.noteHwm) <|
            by
              split
              · exact .toneIe <|
                  by
                    split
                    · exact .timing <|
                        .cond h.rest.modAir.bump.estimate.contact.modNbr.extendChild <|
                        h.rest.modAir.bump.estimate.contact.modNbr.extendChild.noteHwm
                    · exact .cond h.rest.modAir.bump.estimate.contact.modNbr.extendChild <|
                        h.rest.modAir.bump.estimate.contact.modNbr.extendChild.noteHwm
              · split
                · exact .timing <|
                    .cond h.rest.modAir.bump.estimate.contact.modNbr.extendChild <|
                    h.rest.modAir.bump.estimate.contact.modNbr.extendChild.noteHwm
                · exact .cond h.rest.modAir.bump.estimate.contact.modNbr.extendChild <|
                    h.rest.modAir.bump.estimate.contact.modNbr.extendChild.noteHwm

theorem Keeps.ackLate {m : Medium} {a : Attempt} (h : Keeps s t) : Keeps s (t.ackLate m a) := by
  unfold State.ackLate
  extract_lets t₁
  have h₁ : Keeps s t₁ := h.quiet.bump.estimate
  exact .cond h₁.toneOutcome h₁

theorem Keeps.rxOver {m : Medium} (h : Keeps s t) : Keeps s (t.rxOver m) := by
  unfold State.rxOver
  split
  · exact h.ackMissed
  · exact .cond h.relisten h.over

theorem Keeps.ackIn {m : Medium} {a : Attempt} {f : AirFrame} (h : Keeps s t) : Keeps s (t.ackIn m a f) :=
  .cond h.bump.ackMissed (.cond h.ackMissed (.cond h.ackLate h.ackReceived))

theorem Keeps.frameIn {m : Medium} {f : AirFrame} {rx : RxInfo} (h : Keeps s t) : Keeps s (t.frameIn m f rx) := by
  unfold State.frameIn
  extract_lets t₁
  have h₁ : Keeps s t₁ := h.rxStore.dualHeard
  split
  · exact h₁.ackIn
  · exact .cond h₁.rxOver (.cond h₁.accept.setPhy h₁.accept.rxOver)

theorem Keeps.execRfFrameEnd {c : Chain} {f : AirFrame} {rx : RxInfo} (h : Keeps s t) :
    Advances s (execRfFrameEnd c f rx t) :=
  .cond (.next h) (.cond (.next h.set.bump.rxOver) (.next (.frameIn (.cond h.set.bump h.set))))

theorem Keeps.execPlcFrameEnd {ldpc : Bool} {power : List Half} {f : AirFrame} {rx : RxInfo} (h : Keeps s t) :
    Advances s (execPlcFrameEnd ldpc power f rx t) :=
  .cond (.next h) <|
  .cond (.next h.bump.rxOver) <|
  .cond (.next h.bump.rxOver) (.next (.frameIn (by split; exacts [.cond h.plcHeard h, h])))

/-! ### Lamp.lean -/

theorem Keeps.modLamp {f : Lamp → Lamp} (h : Keeps s t) : Keeps s (t.modLamp f) := h.upd

theorem Keeps.relayState {v : Nat} (h : Keeps s t) : Keeps s (t.relayState v) :=
  h.set.runningValue.modLamp.onlyIf (fun _ hu => hu.commit)

theorem Keeps.relayCommand {op : Nat} (h : Keeps s t) : Keeps s (t.relayCommand op) :=
  h.modLamp.set.onlyIf (fun _ hu => hu.setAll)

theorem Keeps.execRelaySet {who : Requester} (h : Keeps s t) : Advances s (execRelaySet who t) :=
  h.writeCmd (fun _ hu => hu.relayCommand)

theorem Keeps.execRelayClr {who : Requester} (h : Keeps s t) : Advances s (execRelayClr who t) :=
  h.writeCmd (fun _ hu => hu.relayCommand)

theorem Keeps.execRelayPulseStart {predicted : Bool} (h : Keeps s t) : Advances s (execRelayPulseStart predicted t) := by
  unfold Machine.execRelayPulseStart
  split
  · exact .next h
  · exact .cond (.next h) (.next (h.modLamp.setAll.onlyIf (fun _ hu => hu.setBit)))

theorem Keeps.execRelayPulseEnd (h : Keeps s t) : Advances s (execRelayPulseEnd t) := by
  unfold Machine.execRelayPulseEnd
  split
  · exact .next h
  · exact .next h.modLamp.setAll.bump.relayState.raise

theorem Keeps.relayCut (h : Keeps s t) : Keeps s t.relayCut := by
  unfold State.relayCut
  dsimp only
  split
  · exact h.modLamp.setAll
  · exact h.modLamp.setAll.relayState.raise.record

theorem Keeps.aoutDrive (h : Keeps s t) : Keeps s t.aoutDrive := .cond h.setAll.setBit h.setAll

theorem Keeps.vsetWrite {w reached : Nat} (h : Keeps s t) : Keeps s (t.vsetWrite w reached) :=
  .cond h.refuse <|
  .cond h.refuse (.cond h.set (.cond h.set.aoutDrive (h.set.onlyIf (fun _ hu => hu.set) |>.set.setBit)))

theorem Keeps.execAoutVsetWrite {who : Requester} {value : Word} {reached : BitVec 10} (h : Keeps s t) :
    Advances s (execAoutVsetWrite who value reached t) := h.writeCmd (fun _ hu => hu.vsetWrite)

theorem Keeps.execAoutFadeEnd (h : Keeps s t) : Advances s (execAoutFadeEnd t) := .next (.cond h.aoutDrive h)

theorem Keeps.execAoutOverload {volts : BitVec 10} (h : Keeps s t) : Advances s (execAoutOverload volts t) :=
  .next (.cond h.setAll.raise h)

theorem Keeps.execAoutOverloadEnd (h : Keeps s t) : Advances s (execAoutOverloadEnd t) :=
  .next (.cond h.set.aoutDrive h)

theorem Keeps.gearNote {e : DaliEntry} {status data : Nat} (h : Keeps s t) : Keeps s (t.gearNote e status data) :=
  .cond (.cond h.set (.cond h.set h)) h

theorem Keeps.daliResult {e : DaliEntry} {status data : Nat} (h : Keeps s t) : Keeps s (t.daliResult e status data) := by
  unfold State.daliResult
  extract_lets t₁ t₂
  have h₁ : Keeps s t₁ := h.modLamp
  have h₂ : Keeps s t₂ := h₁.gearNote.raise
  exact .cond (h₂.modLamp.guarded (fun _ hu => hu.relayCommand)) h₂

theorem Keeps.daliFree (h : Keeps s t) : Keeps s t.daliFree := h.modLamp

theorem Keeps.daliEnd {status : Nat} {es : List DaliEntry} (h : Keeps s t) : Keeps s (t.daliEnd status es) :=
  h.each (fun _ _ hu => hu.daliResult)

theorem Keeps.daliFlush {status : Nat} (h : Keeps s t) : Keeps s (t.daliFlush status) := h.modLamp.daliEnd

theorem Keeps.daliGo {frame : Nat} {len24 : Bool} {prio : Nat} {twice answer : Bool} {tag : Nat} (h : Keeps s t) :
    Keeps s (t.daliGo frame len24 prio twice answer tag).1 :=
  .condFst h.refuse (.condFst h.refuse (.condFst h.refuse (.condFst h.refuse h.upd)))

theorem Keeps.execDaliGo {who : Requester} {len24 : Bool} {prio : BitVec 3} {twice answer : Bool} {tag : Half}
    (h : Keeps s t) : Advances s (execDaliGo who len24 prio twice answer tag t) := h.writeCmd (fun _ hu => hu.daliGo)

theorem Keeps.execDaliFrameStart (h : Keeps s t) : Advances s (execDaliFrameStart t) :=
  .cond (.next h) (by split; exacts [.next h.modLamp, .next (.cond h.modLamp h), .next h])

theorem Keeps.execDaliCollision (h : Keeps s t) : Advances s (execDaliCollision t) := by
  unfold Machine.execDaliCollision
  split
  · exact .next (.cond h.bump.daliFree.daliResult (.cond h.bump.daliFree.modLamp h.bump.daliFree.modLamp))
  · exact .next h

theorem Keeps.execDaliFrameSent (h : Keeps s t) : Advances s (execDaliFrameSent t) := by
  unfold Machine.execDaliFrameSent
  split
  · exact .next (.cond h.modLamp (.cond h.modLamp h.daliFree.daliResult))
  · exact .next h

theorem Keeps.execDaliBackwardFrame {data : Option Byte} (h : Keeps s t) : Advances s (execDaliBackwardFrame data t) := by
  unfold Machine.execDaliBackwardFrame
  split
  · exact .next (by split; exacts [h.daliFree.daliResult, h.bump.daliFree.daliResult])
  · exact .next h

theorem Keeps.execDaliAnswerTimeout (h : Keeps s t) : Advances s (execDaliAnswerTimeout t) := by
  unfold Machine.execDaliAnswerTimeout
  split
  · exact .next h.daliFree.daliResult
  · exact .next h

theorem Keeps.execDaliForeignFrame {bits : BitVec 24} {len : BitVec 6} (h : Keeps s t) :
    Advances s (execDaliForeignFrame bits len t) := .next (.cond h.setAll.raise h)

theorem Keeps.execDaliSystemFailure (h : Keeps s t) : Advances s (execDaliSystemFailure t) :=
  .cond (.next h) (.next h.set.raise.bump.daliFree.daliEnd.daliFlush.record)

theorem Keeps.execDaliBusRecovery (h : Keeps s t) : Advances s (execDaliBusRecovery t) := .next (.cond h.set.raise h)

theorem Keeps.daliPop (h : Keeps s t) : Keeps s t.daliPop.1 := by
  unfold State.daliPop
  split
  · exact h
  · exact h.upd

theorem Keeps.readCmd {who p off : Nat} {f : State → State × Nat}
    (h : Keeps s t) (hf : ∀ u, Keeps s u → Keeps s (f u).1) : Advances s (t.readCmd who p off f) :=
  .next (.cond (.upd (hf _ h.guard)) h.guard.upd)

theorem Keeps.execDaliResultPop {who : Requester} (h : Keeps s t) : Advances s (execDaliResultPop who t) :=
  h.readCmd (fun _ hu => hu.daliPop)

theorem Keeps.gearClear {k : Nat} (h : Keeps s t) : Keeps s (t.gearClear k) := h.each (fun _ _ hu => hu.set)

theorem Keeps.execDaliGearClear {who : Requester} {k : Fin 4} (h : Keeps s t) :
    Advances s (execDaliGearClear who k t) := h.writeCmd (fun _ hu => hu.gearClear)

theorem Keeps.busState {v : Nat} (h : Keeps s t) : Keeps s (t.busState v) := .cond h h.set.raise

theorem Keeps.busFollow (h : Keeps s t) : Keeps s t.busFollow := .cond h.modLamp.busState (.cond h.modLamp h)

theorem Keeps.buscfgWrite {w : Nat} (h : Keeps s t) : Keeps s (t.buscfgWrite w) := .cond h.refuse h.setAll.busFollow

theorem Keeps.execDaliBuscfgWrite {who : Requester} {value : Word} (h : Keeps s t) :
    Advances s (execDaliBuscfgWrite who value t) := h.writeCmd (fun _ hu => hu.buscfgWrite)

theorem Keeps.busShow {bus current : Nat} (h : Keeps s t) : Keeps s (t.busShow bus current) := h.setAll

theorem Keeps.execDaliBusMeasureDone {volts : Half} {bus current : Byte} (h : Keeps s t) :
    Advances s (execDaliBusMeasureDone volts bus current t) := .cond (.next h.modLamp.busShow.busState) (.next h)

theorem Keeps.execDaliBusOverload {bus current : Byte} (h : Keeps s t) :
    Advances s (execDaliBusOverload bus current t) := .next (.cond h.busShow.busState h)

theorem Keeps.execDaliOverloadEnd {bus current : Byte} (h : Keeps s t) :
    Advances s (execDaliOverloadEnd bus current t) := .next (.cond h.busShow.busState h)

theorem Keeps.execDaliBusRemeasure (h : Keeps s t) : Advances s (execDaliBusRemeasure t) := .next (.cond h.modLamp h)

theorem Keeps.lampHold (h : Keeps s t) : Keeps s t.lampHold := by
  unfold State.lampHold
  extract_lets t₁
  have h₁ : Keeps s t₁ := h.relayCut.set
  split
  · exact h₁.daliFree.daliResult
  · exact h₁

theorem Keeps.lampReset (h : Keeps s t) : Keeps s t.lampReset := h.relayCut.modLamp.setAll

theorem Keeps.photoState {dark : Bool} (h : Keeps s t) : Keeps s (t.photoState dark) := h.setBit.raise

theorem Keeps.execPhotocellSecond {mean : Half} (h : Keeps s t) : Advances s (execPhotocellSecond mean t) :=
  .cond (.next h) <|
  .next <|
  .cond h.modLamp.set.setBit.setBit.photoState <|
  .cond h.modLamp.set.setBit.setBit.photoState h.modLamp.set.setBit.setBit

theorem Keeps.addEnergy {mwh reverse : Nat} (h : Keeps s t) : Keeps s (t.addEnergy mwh reverse) :=
  h.setAll.bump.runningValue.runningValue

theorem Keeps.takeAccum (h : Keeps s t) : Keeps s t.takeAccum := h.addEnergy.upd

theorem Keeps.meterShow {q : MeterWindow} (h : Keeps s t) : Keeps s (t.meterShow q) :=
  h.setAll.setBit.setBit.setBit.onlyIf (fun _ hu => hu.set) |>.bumpWrap

theorem Keeps.meterHeld {q : MeterWindow} (h : Keeps s t) : Keeps s (t.meterHeld q) := .cond h.modLamp h.upd

theorem Keeps.execMeterWindowEnd {q : MeterWindow} (h : Keeps s t) : Advances s (execMeterWindowEnd q t) :=
  .cond (.next h) <|
  .cond (.next h.meterHeld) <|
  .cond (.next (h.onlyIf (fun _ hu => hu.meterShow) |>.meterHeld)) <|
  .cond (.next h) <|
  .next (.modLamp (.cond h.meterShow.addEnergy.raise.raiseIf.set.raise h.meterShow.addEnergy.raise.raiseIf))

theorem Keeps.execMeterNozxTimeout (h : Keeps s t) : Advances s (execMeterNozxTimeout t) := .next (.cond h.set h)

theorem Keeps.snapRead {who : Nat} (h : Keeps s t) : Keeps s (t.snapRead who).1 := h.upd

theorem Keeps.execMeterSnapRead {who : Requester} (h : Keeps s t) : Advances s (execMeterSnapRead who t) :=
  h.readCmd (fun _ hu => hu.snapRead)

theorem Keeps.energyRead {who : Nat} (h : Keeps s t) : Keeps s (t.energyRead who).1 := h.upd

theorem Keeps.execEnergyLoRead {who : Requester} (h : Keeps s t) : Advances s (execEnergyLoRead who t) :=
  h.readCmd (fun _ hu => hu.energyRead)

theorem Keeps.energyHiRead {who : Nat} (h : Keeps s t) : Keeps s (t.energyHiRead who).1 := .condFst h h.upd

theorem Keeps.meterTake {who off live : Nat} (h : Keeps s t) : Keeps s (t.meterTake who off live).1 := by
  unfold State.meterTake
  dsimp only
  split
  · exact h
  · exact .condFst h h.upd

theorem Keeps.clrEnergy {key : Nat} (h : Keeps s t) : Keeps s (t.clrEnergy key) :=
  .cond h.refuse h.setAll.runningValue.runningValue.record

theorem Keeps.execMeterClrEnergy {who : Requester} {key : Half} (h : Keeps s t) :
    Advances s (execMeterClrEnergy who key t) := h.command (fun _ hu => hu.clrEnergy)

theorem Keeps.execEnergyCheckpoint (h : Keeps s t) : Advances s (execEnergyCheckpoint t) := .next (.cond h.commit h)

theorem Keeps.mapBit {f : Fld} {n : Nat} {b : Bool} (h : Keeps s t) : Keeps s (t.mapBit f n b) := h.set

theorem Keeps.dinEvent {n bit : Nat} (h : Keeps s t) : Keeps s (t.dinEvent n bit) :=
  .cond h.set.fire h.raise.fire.wakeCore

theorem Keeps.dinReport {n : Nat} {active : Bool} (h : Keeps s t) : Keeps s (t.dinReport n active) :=
  .cond h.modLamp.dinEvent h.modLamp

theorem Keeps.execDinFilteredChange {n : Fin 4} {high : Bool} {recent : Byte} (h : Keeps s t) :
    Advances s (execDinFilteredChange n high recent t) :=
  .cond (.next h) <|
  .next <|
  .cond (h.mapBit.mapBit.bump.onlyIf (fun _ hu => hu.mapBit)) <|
  .cond (h.mapBit.mapBit.bump.onlyIf (fun _ hu => hu.mapBit) |>.mapBit.dinEvent) <|
  h.mapBit.mapBit.bump.onlyIf (fun _ hu => hu.mapBit) |>.dinReport

theorem Keeps.execDinChatterQuiet {n : Fin 4} (h : Keeps s t) : Advances s (execDinChatterQuiet n t) :=
  .cond (.next (.cond h.mapBit h.mapBit.dinReport)) (.next h)

theorem Keeps.execDinStuck {n : Fin 4} (h : Keeps s t) : Advances s (execDinStuck n t) :=
  .next (.cond h.mapBit.dinEvent h)

theorem Keeps.driveLamp {l : Nat} {close openIt : Bool} (h : Keeps s t) : Keeps s (t.driveLamp l close openIt) := by
  unfold State.driveLamp
  extract_lets t₁ t₂ _ t₃ r₄ r₅ t₆
  have h₁ : Keeps s t₁ := h.modLamp
  have h₂ : Keeps s t₂ := h₁.onlyIf (fun _ hu => hu.guarded (fun _ hv => hv.relayCommand))
  have h₃ : Keeps s t₃ := h₂.spend
  have h₄ : Keeps s r₄.1 := h₃.guard
  have h₅ : Keeps s r₅.1 := .condFst h₄.set.daliGo h₄
  have h₆ : Keeps s t₆ := h₅.guarded (fun _ hu => hu.vsetWrite)
  exact .cond h₆ (by split; exacts [h₆.modLamp, h₆.guarded (fun _ hu => hu.relayCommand)])

theorem Keeps.startLamp (h : Keeps s t) : Keeps s t.startLamp := .cond h.modLamp.driveLamp h

theorem Keeps.execE10LampSet (h : Keeps s t) : Advances s (execE10LampSet t) := by
  unfold Machine.execE10LampSet
  split
  · exact .next h
  · exact .cond (.next h) (.next h.mailPop.driveLamp)

theorem Keeps.uartReply {seq cmd : Nat} {payload : List Byte} (h : Keeps s t) : Keeps s (t.uartReply seq cmd payload) :=
  h.upd

theorem Keeps.lampAnswer {v : Nat} (h : Keeps s t) : Keeps s (t.lampAnswer v) := by
  unfold State.lampAnswer
  split
  · exact h.upd.uartReply
  · exact h.answer

theorem Keeps.execE10LampGet (h : Keeps s t) : Advances s (execE10LampGet t) := by
  unfold Machine.execE10LampGet
  split
  · exact .next h
  · exact .cond (.next h) (.next (.cond h.mailPop.lampAnswer h.mailPop.answer))

theorem Keeps.execLampGetTimeout (h : Keeps s t) : Advances s (execLampGetTimeout t) := by
  unfold Machine.execLampGetTimeout
  split
  · exact .next h.upd.uartReply
  · exact .next h

/-! ### Bridge.lean -/

theorem Keeps.modBridge {f : Bridge → Bridge} (h : Keeps s t) : Keeps s (t.modBridge f) := h.upd

theorem Keeps.plcCut (h : Keeps s t) : Keeps s t.plcCut := .cond h.plcAbort h

theorem Keeps.mainsReset (h : Keeps s t) : Keeps s t.mainsReset := h.modBridge.lampReset.plcCut

theorem Keeps.mainsConfigure (h : Keeps s t) : Keeps s t.mainsConfigure :=
  .cond h (.cond h.modBridge (.aoutDrive (.busFollow (.takeAccum (.modBridge (.cond h.mainsReset h))))))

theorem Keeps.bridgeRecover (h : Keeps s t) : Keeps s t.bridgeRecover :=
  .cond (.modBridge (.cond h.mainsReset h)) (.aoutDrive (.takeAccum (.modBridge (.cond h.mainsReset h))))

theorem Keeps.execBridgeFrameReceived {toMains crcOk : Bool} (h : Keeps s t) :
    Advances s (execBridgeFrameReceived toMains crcOk t) :=
  .cond (.next h) <|
  .cond (.next h.modBridge) (.next (.cond (h.modBridge.wakeDomain.onlyIf (fun _ hu => hu.bridgeRecover)) h.modBridge))

theorem Keeps.flightRefused {q : BusReq} (h : Keeps s t) : Keeps s (t.flightRefused q) := by
  unfold State.flightRefused
  dsimp only
  split
  · exact .cond h.domainOff.upd h.domainOff
  · exact h.domainOff

theorem Keeps.execBridgeSilenceTimeout (h : Keeps s t) : Advances s (execBridgeSilenceTimeout t) :=
  .cond (.next (h.modBridge.each (fun _ _ hu => hu.flightRefused) |>.capFault)) (.next h)

theorem Keeps.execMainsBridgeHold (h : Keeps s t) : Advances s (execMainsBridgeHold t) :=
  .next (.cond h.modBridge.lampHold.plcCut h)

theorem Keeps.execAoutHoldTimeout (h : Keeps s t) : Advances s (execAoutHoldTimeout t) := .next (.cond h.setAll h)

theorem Keeps.execBridgeRecovery (h : Keeps s t) : Advances s (execBridgeRecovery t) := .next (.cond h.bridgeRecover h)

theorem Keeps.execBridgeRestart (h : Keeps s t) : Advances s (execBridgeRestart t) :=
  .next (.cond (.cond h h.capFault) (.cond h.mainsConfigure h))

theorem Keeps.execResetFrameReceived (h : Keeps s t) : Advances s (execResetFrameReceived t) :=
  .next (.cond h.mainsReset h)

/-! ### Events.lean -/

theorem Keeps.execQuartzEventDelivery {refired : List (Fin 96)} (h : Keeps s t) :
    Advances s (execQuartzEventDelivery refired t) :=
  .cond (.next (h.upd.each (fun _ _ hu => .cond hu.pulse.set hu.pulse))) (.next h)

theorem Keeps.execSwevSignal {e : Fin 12} (h : Keeps s t) : Advances s (execSwevSignal e t) := .next (.cond h.fire h)

theorem Keeps.execHostSignal {who : Requester} (h : Keeps s t) : Advances s (execHostSignal who t) :=
  h.writeCmd (fun _ hu => .cond hu.fire hu)

theorem Keeps.clearOvr {n : Nat} (h : Keeps s t) : Keeps s (t.clearOvr n) := h.set.set

theorem Keeps.takeInput {n : Nat} (h : Keeps s t) : Keeps s (t.takeInput n) := .cond h h.set

theorem Keeps.execEventPendClear {e : Fin 12} {pend ovr : BitVec 3} (h : Keeps s t) :
    Advances s (execEventPendClear e pend ovr t) :=
  .next (h.each (fun _ _ hu => hu.onlyIf (fun _ hv => hv.takeInput) |>.onlyIf (fun _ hv => hv.clearOvr)))

theorem Keeps.selectorWrite {who n w : Nat} (h : Keeps s t) : Keeps s (t.selectorWrite who n w) := by
  unfold State.selectorWrite
  extract_lets _ _ _ _ t₁
  have h₁ : Keeps s t₁ := h.onlyIf (fun _ hu => hu.clearOvr)
  exact .cond h₁.refuse (.cond h₁.refuse (.cond h₁.refuse (.cond h₁.refuseAccess (.cond h₁.set.set.setBit h₁.set))))

theorem Keeps.execSelectorWrite {who : Requester} {n : Fin 64} {value : Word} (h : Keeps s t) :
    Advances s (execSelectorWrite who n value t) := h.writeCmd (fun _ hu => hu.selectorWrite)

theorem Keeps.tapWrite {who k w : Nat} (h : Keeps s t) : Keeps s (t.tapWrite who k w) :=
  .cond h.refuse (.cond h.refuse (.cond h.refuseAccess h.setAll))

theorem Keeps.execTapWrite {who : Requester} {k : Fin 32} {value : Word} (h : Keeps s t) :
    Advances s (execTapWrite who k value t) := h.writeCmd (fun _ hu => hu.tapWrite)

theorem Keeps.setCmp {i j : Nat} {c : CmpState} (h : Keeps s t) : Keeps s (t.setCmp i j c) := h.upd

theorem Keeps.phaseZero {i : Nat} (h : Keeps s t) : Keeps s (t.phaseZero i) := h.upd

theorem Keeps.timerGo {who : Nat} (h : Keeps s t) : Keeps s (t.timerGo who) :=
  h.each (fun _ _ hu => hu.set.set.phaseZero)

theorem Keeps.execTimerGo {who : Requester} (h : Keeps s t) : Advances s (execTimerGo who t) :=
  h.writeCmd (fun _ hu => hu.timerGo)

theorem Keeps.timerClear {i : Nat} (h : Keeps s t) : Keeps s (t.timerClear i) :=
  h.each (fun _ _ hu => hu.set) |>.each (fun _ _ hu => hu.setCmp) |>.phaseZero

theorem Keeps.timerReset {who w : Nat} (h : Keeps s t) : Keeps s (t.timerReset who w) :=
  h.each (fun _ _ hu => hu.timerClear)

theorem Keeps.execTimerReset {who : Requester} {timers : BitVec 16} (h : Keeps s t) :
    Advances s (execTimerReset who timers t) := h.writeCmd (fun _ hu => hu.timerReset)

theorem Keeps.cmpWrite {i j v : Nat} (h : Keeps s t) : Keeps s (t.cmpWrite i j v) := h.set.setCmp

theorem Keeps.execTimCmpWrite {who : Requester} {i : Fin 16} {j : Fin 4} {value : Word} (h : Keeps s t) :
    Advances s (execTimCmpWrite who i j value t) := h.writeCmd (fun _ hu => hu.cmpWrite)

theorem Keeps.timCfgWrite {who i w : Nat} (h : Keeps s t) : Keeps s (t.timCfgWrite who i w) :=
  .cond h.refuse <|
  .cond h.refuse <|
  h.setAll.onlyIf (fun _ hu => hu.phaseZero) |>.each (fun _ _ hu => .cond hu.setCmp (.cond hu.setCmp hu))

theorem Keeps.execTimCfgWrite {who : Requester} {i : Fin 16} {value : Word} (h : Keeps s t) :
    Advances s (execTimCfgWrite who i value t) := h.writeCmd (fun _ hu => hu.timCfgWrite)

theorem Keeps.compareEdge {i c j : Nat} (h : Keeps s t) : Keeps s (t.compareEdge i c j).1 := by
  unfold State.compareEdge
  extract_lets _ _ _ _ t₁ t₂
  have h₁ : Keeps s t₁ := h.setCmp
  have h₂ : Keeps s t₂ := h₁.onlyIf (fun _ hu => hu.set)
  exact .condFst (.cond h₂.set h₂.set.set.setCmp) h₂

theorem Keeps.timerPass {i n : Nat} (h : Keeps s t) : Keeps s (t.timerPass i n) := h.upd.bumpWrap

theorem Keeps.execCompareMatch {i : Fin 16} {count : Word} (h : Keeps s t) : Advances s (execCompareMatch i count t) := by
  unfold Machine.execCompareMatch
  extract_lets t₁ r t₂
  have h₁ : Keeps s t₁ := h.startClocks.wakeDomain.set
  have hr : Keeps s r.1 := h₁.foldlFst fun _ _ hu => .condFst hu.compareEdge hu
  exact .cond (.next (.cond (hr.raise.raiseIf).fire hr)) (.next h)

theorem Keeps.capRead {i : Nat} (h : Keeps s t) : Keeps s (t.capRead i) := h.set.upd

theorem Keeps.execCapRead {who : Requester} {i : Fin 16} (h : Keeps s t) : Advances s (execCapRead who i t) :=
  .next (.cond h.guard.capRead h.guard)

/-! ### Nfc.lean -/

theorem Keeps.modNfc {f : Nfc → Nfc} (h : Keeps s t) : Keeps s (t.modNfc f) := h.upd

theorem Keeps.tagRaise {b : Nat} (h : Keeps s t) : Keeps s (t.tagRaise b) := h.raiseIf

theorem Keeps.tagCount {f : Fld} (h : Keeps s t) : Keeps s (t.tagCount f) := h.onlyIf (fun _ hu => hu.bump)

theorem Keeps.tearWrite {i : TagItem} {bs : List Byte} {cut : Option (Fin 6)} (h : Keeps s t) :
    Keeps s (t.tearWrite i bs cut).1 := by
  unfold State.tearWrite
  dsimp only
  split
  · exact h.upd
  · exact .condFst h (.condFst h.upd (.condFst h.upd h.upd))

theorem Keeps.sysWrite {f : Fld} {v : Nat} {cut : Option (Fin 6)} (h : Keeps s t) : Keeps s (t.sysWrite f v cut).1 := by
  unfold State.sysWrite
  split
  · exact h.set
  · exact .cond h h.set

theorem Keeps.tagCheck (h : Keeps s t) : Keeps s t.tagCheck :=
  .cond h (by dsimp only; split; exacts [h.modNfc, .cond h.modNfc.modNfc.tagCount.tagRaise h.modNfc])

theorem Keeps.execTagPowerUp (h : Keeps s t) : Advances s (execTagPowerUp t) := .next (.cond h.tagCheck h)

theorem Keeps.lockShow (h : Keeps s t) : Keeps s t.lockShow := h.setBit

theorem Keeps.tagField (h : Keeps s t) : Keeps s t.tagField := h.upd.tagCheck.modNfc.setAll.lockShow.tagCount.tagRaise

theorem Keeps.tagFieldOff (h : Keeps s t) : Keeps s t.tagFieldOff := h.upd.modNfc.setAll.lockShow.tagRaise

theorem Keeps.execTagFieldOn (h : Keeps s t) : Advances s (execTagFieldOn t) := .next (.cond h h.tagField)

theorem Keeps.execTagFieldOff (h : Keeps s t) : Advances s (execTagFieldOff t) := .next (.cond h.tagFieldOff h)

theorem Keeps.silent (h : Keeps s t) : Keeps s t.silent := h.modNfc

theorem Keeps.tagReply {bs : List Byte} (h : Keeps s t) : Keeps s (t.tagReply bs) := h.modNfc

theorem Keeps.tagError {code : Byte} (h : Keeps s t) : Keeps s (t.tagError code) := h.tagReply

theorem Keeps.tagServe {r : TagReq} {f : State → State} (h : Keeps s t) (hf : ∀ u, Keeps s u → Keeps s (f u)) :
    Advances s (t.tagServe r f) := .next (.cond (hf _ h.tagCheck) h.silent)

theorem Keeps.execTagInventory {flags afi : Byte} {maskLen : BitVec 7} {mask : BitVec 64} (h : Keeps s t) :
    Advances s (execTagInventory flags afi maskLen mask t) := .next (.cond h.tagCheck.modNfc h.silent)

theorem Keeps.execTagStayQuiet {req : TagReq} (h : Keeps s t) : Advances s (execTagStayQuiet req t) :=
  h.tagServe (fun _ hu => .cond hu.setAll.silent hu.silent)

theorem Keeps.tagRead {first n limit : Nat} (h : Keeps s t) : Keeps s (t.tagRead first n limit) :=
  .cond h.tagReply h.tagError

theorem Keeps.execTagReadSingle {req : TagReq} {block : Byte} (h : Keeps s t) :
    Advances s (execTagReadSingle req block t) := h.tagServe (fun _ hu => hu.tagRead)

theorem Keeps.execTagReadMultiple {req : TagReq} {first count : Byte} (h : Keeps s t) :
    Advances s (execTagReadMultiple req first count t) := h.tagServe (fun _ hu => hu.tagRead)

theorem Keeps.execTagExtReadSingle {req : TagReq} {block : Half} (h : Keeps s t) :
    Advances s (execTagExtReadSingle req block t) := h.tagServe (fun _ hu => hu.tagRead)

theorem Keeps.execTagExtReadMultiple {req : TagReq} {first count : Half} (h : Keeps s t) :
    Advances s (execTagExtReadMultiple req first count t) := h.tagServe (fun _ hu => .cond hu.spend.tagError hu.tagRead)

theorem Keeps.wrote {block : Nat} (h : Keeps s t) : Keeps s (t.wrote block) := h.bump.set.setBit.tagRaise

theorem Keeps.tagWrite {block data : Nat} {cut : Option (Fin 6)} (h : Keeps s t) :
    Keeps s (t.tagWrite block data cut) :=
  .cond h.tagError <|
  .cond h.tagError <|
  .cond (h.tearWrite.onlyIf (fun _ hu => hu.wrote) |>.tagReply) (h.tearWrite.onlyIf (fun _ hu => hu.wrote) |>.silent)

theorem Keeps.execTagWriteSingle {req : TagReq} {block : Byte} {data : Word} {cut : Option (Fin 6)} (h : Keeps s t) :
    Advances s (execTagWriteSingle req block data cut t) := h.tagServe (fun _ hu => hu.tagWrite)

theorem Keeps.execTagExtWriteSingle {req : TagReq} {block : Half} {data : Word} {cut : Option (Fin 6)} (h : Keeps s t) :
    Advances s (execTagExtWriteSingle req block data cut t) := h.tagServe (fun _ hu => hu.tagWrite)

theorem Keeps.execTagSelect {req : TagReq} (h : Keeps s t) : Advances s (execTagSelect req t) :=
  .next (.cond h.silent (.cond h.tagCheck.set.tagReply (.silent (.cond h.set h))))

theorem Keeps.execTagResetToReady {req : TagReq} (h : Keeps s t) : Advances s (execTagResetToReady req t) :=
  h.tagServe (fun _ hu => hu.set.tagReply)

theorem Keeps.sysInfo {size : List Byte} (h : Keeps s t) : Keeps s (t.sysInfo size) := h.tagReply

theorem Keeps.execTagGetSystemInfo {req : TagReq} (h : Keeps s t) : Advances s (execTagGetSystemInfo req t) :=
  h.tagServe (fun _ hu => hu.sysInfo)

theorem Keeps.execTagExtGetSystemInfo {req : TagReq} (h : Keeps s t) : Advances s (execTagExtGetSystemInfo req t) :=
  h.tagServe (fun _ hu => hu.sysInfo)

theorem Keeps.execTagUnsupportedCommand {req : TagReq} (h : Keeps s t) : Advances s (execTagUnsupportedCommand req t) :=
  h.tagServe (fun _ hu => .cond hu.tagError hu.silent)

theorem Keeps.execTagRequestCrcFailure (h : Keeps s t) : Advances s (execTagRequestCrcFailure t) :=
  .next (.cond h.tagCount.silent h)

theorem Keeps.authFail {cut : Option (Fin 6)} (h : Keeps s t) : Keeps s (t.authFail cut) := by
  unfold State.authFail
  extract_lets r₁ t₂ t₃
  have h₁ : Keeps s r₁.1 := h.sysWrite
  have h₂ : Keeps s t₂ := h₁.modNfc.lockShow
  have h₃ : Keeps s t₃ := h₂.tagCount.tagRaise
  exact .cond h₃.tagError h₃.silent

theorem Keeps.authPass {cut : Option (Fin 6)} (h : Keeps s t) : Keeps s (t.authPass cut) :=
  .cond h.sysWrite.modNfc.set.lockShow.tagRaise.tagReply h.sysWrite.modNfc.set.lockShow.tagRaise.silent

theorem Keeps.execTagPresentPwd {req : TagReq} {pwd : BitVec 64} {cut : Option (Fin 6)} (h : Keeps s t) :
    Advances s (execTagPresentPwd req pwd cut t) :=
  h.tagServe (fun _ hu => .cond hu.tagError (.cond hu.tagReply (.cond hu.tagError (.cond hu.authPass hu.authFail))))

theorem Keeps.execTagWritePwd {req : TagReq} {pwd : BitVec 64} {cut : Option (Fin 6)} (h : Keeps s t) :
    Advances s (execTagWritePwd req pwd cut t) :=
  h.tagServe fun _ hu =>
      .cond hu.spend.tagError <|
      .cond (hu.spend.tearWrite.onlyIf (fun _ hv => hv.wrote) |>.tagReply) <|
      hu.spend.tearWrite.onlyIf (fun _ hv => hv.wrote) |>.silent

theorem Keeps.execTagAuthenticateMam1 {req : TagReq} {keyId : Byte} (h : Keeps s t) :
    Advances s (execTagAuthenticateMam1 req keyId t) :=
  h.tagServe (fun _ hu => .cond hu.tagError (.cond hu.tagError hu.spend.modNfc.tagReply))

theorem Keeps.execTagAuthenticateMam2 {req : TagReq} {ok : Bool} {cut : Option (Fin 6)} (h : Keeps s t) :
    Advances s (execTagAuthenticateMam2 req ok cut t) :=
  h.tagServe (fun _ hu => .cond hu.tagError (.cond hu.tagReply (.cond hu.tagError (.cond hu.authPass hu.authFail))))

theorem Keeps.execTagLockoutExpiry (h : Keeps s t) : Advances s (execTagLockoutExpiry t) :=
  .next (.cond h.modNfc.lockShow h)

theorem Keeps.tagCommand {who off : Nat} {f : State → State} (h : Keeps s t) (hf : ∀ u, Keeps s u → Keeps s (f u)) :
    Advances s (t.tagCommand who off f) := h.command (fun _ hu => hf _ hu.tagCheck)

theorem Keeps.ownerRead (h : Keeps s t) : Keeps s t.ownerRead := h.set

theorem Keeps.ownerWrite {cut : Option (Fin 6)} (h : Keeps s t) : Keeps s (t.ownerWrite cut) :=
  .cond h.refuse h.tearWrite.modNfc

theorem Keeps.execTagOwnerRead {who : Requester} (h : Keeps s t) : Advances s (execTagOwnerRead who t) :=
  h.tagCommand (fun _ hu => hu.ownerRead)

theorem Keeps.execTagOwnerWrite {who : Requester} {cut : Option (Fin 6)} (h : Keeps s t) :
    Advances s (execTagOwnerWrite who cut t) := h.tagCommand (fun _ hu => hu.ownerWrite)

theorem Keeps.secCmd {key : Nat} {f : State → State} (h : Keeps s t) (hf : ∀ u, Keeps s u → Keeps s (f u)) :
    Keeps s (t.secCmd key f) := by
  unfold State.secCmd
  exact .modNfc (.cond h.refuse (.cond h.refuse (hf _ h)))

theorem Keeps.loadPwd (h : Keeps s t) : Keeps s t.loadPwd := h.modNfc

theorem Keeps.loadTagKey (h : Keeps s t) : Keeps s t.loadTagKey := h.modNfc

theorem Keeps.clrFail (h : Keeps s t) : Keeps s t.clrFail := h.set.lockShow

theorem Keeps.execTagLoadPwd {who : Requester} {key : Half} (h : Keeps s t) : Advances s (execTagLoadPwd who key t) :=
  h.tagCommand (fun _ hu => hu.secCmd (fun _ hv => hv.loadPwd))

theorem Keeps.execTagLoadKey {who : Requester} {key : Half} (h : Keeps s t) : Advances s (execTagLoadKey who key t) :=
  h.tagCommand (fun _ hu => hu.secCmd (fun _ hv => hv.loadTagKey))

theorem Keeps.execTagClrFail {who : Requester} {key : Half} (h : Keeps s t) : Advances s (execTagClrFail who key t) :=
  h.tagCommand (fun _ hu => hu.secCmd (fun _ hv => hv.clrFail))

theorem Keeps.wrcntRead (h : Keeps s t) : Keeps s t.wrcntRead.1 := h.tagCheck.set

theorem Keeps.execTagWrcntRead {who : Requester} (h : Keeps s t) : Advances s (execTagWrcntRead who t) :=
  h.readCmd (fun _ hu => hu.wrcntRead)

theorem Keeps.rdResult {r : Nat} (h : Keeps s t) : Keeps s (t.rdResult r) := h.setAll

theorem Keeps.rdOff {r : Nat} (h : Keeps s t) : Keeps s (t.rdOff r) := h.onlyIf (fun _ hu => hu.rdResult) |>.modNfc.set

theorem Keeps.rdCommand {f : State → State} (h : Keeps s t) (hf : ∀ u, Keeps s u → Keeps s (f u)) :
    Keeps s (t.rdCommand f) := .cond h.refuse (.cond h.refuse (hf _ h))

theorem Keeps.rdField {op : Nat} {ext : Bool} (h : Keeps s t) : Keeps s (t.rdField op ext) :=
  .cond (h.set.bump.onlyIf (fun _ hu => hu.rdResult) |>.refuse.raise) h.setAll.modNfc

theorem Keeps.rdStart {op : Nat} {ext : Bool} (h : Keeps s t) : Keeps s (t.rdStart op ext) :=
  .cond h.refuse (.cond h.rdField (.cond h.modNfc h.modNfc.set))

theorem Keeps.rdCmd {op : Nat} {ext : Bool} (h : Keeps s t) : Keeps s (t.rdCmd op ext) :=
  h.rdCommand fun _ hu =>
      by
        split
        · exact .cond hu.rdField hu
        · exact hu.rdOff
        · exact .cond hu.refuse hu.rdStart
        · exact .cond hu.refuse hu.rdStart
        · exact .cond hu.rdResult.modNfc.set hu
        · exact hu.refuse

theorem Keeps.execReaderFieldOn {who : Requester} {ext : Bool} (h : Keeps s t) :
    Advances s (execReaderFieldOn who ext t) := h.command (fun _ hu => hu.rdCmd)

theorem Keeps.execReaderFieldOff {who : Requester} (h : Keeps s t) : Advances s (execReaderFieldOff who t) :=
  h.command (fun _ hu => hu.rdCmd)

theorem Keeps.execReaderXfer {who : Requester} {ext : Bool} (h : Keeps s t) : Advances s (execReaderXfer who ext t) :=
  h.command (fun _ hu => hu.rdCmd)

theorem Keeps.execReaderInventory {who : Requester} {ext : Bool} (h : Keeps s t) :
    Advances s (execReaderInventory who ext t) := h.command (fun _ hu => hu.rdCmd)

theorem Keeps.execReaderAbort {who : Requester} (h : Keeps s t) : Advances s (execReaderAbort who t) :=
  h.command (fun _ hu => hu.rdCmd)

theorem Keeps.execReaderGuardElapsed (h : Keeps s t) : Advances s (execReaderGuardElapsed t) := .next (.cond h.set h)

theorem Keeps.rdDone {irq : Nat} (h : Keeps s t) : Keeps s (t.rdDone irq) := h.modNfc.set.raise

theorem Keeps.inventoryEnd {rounds : List (List ReaderSlot)} (h : Keeps s t) : Keeps s (t.inventoryEnd rounds) :=
  h.sramStore.setAll.setBit.setBit.rdDone

theorem Keeps.rdStore {bs : List Byte} (h : Keeps s t) : Keeps s (t.rdStore bs) := h.each (fun _ _ hu => hu.set)

theorem Keeps.execReaderExchangeEnd {xfer : ReaderEnd} (h : Keeps s t) : Advances s (execReaderExchangeEnd xfer t) :=
  .cond (.next h) <|
  by
    split
    · exact .next (.cond h.inventoryEnd h)
    · exact .next (.cond h.rdStore.setAll.setBit.rdDone h)
    · exact .next (.cond h.rdResult.bump.rdDone h)
    · exact .next (.cond h.rdResult.bump.rdDone h)

theorem Keeps.execReaderResponseTimeout (h : Keeps s t) : Advances s (execReaderResponseTimeout t) :=
  .next (.cond h.rdResult.bump.rdDone h)

theorem Keeps.execReaderIdleTimeout (h : Keeps s t) : Advances s (execReaderIdleTimeout t) := .next (.cond h.rdOff h)

theorem Keeps.approach (h : Keeps s t) : Keeps s t.approach :=
  .cond h.modNfc.set.bump.set.fire <|
  .cond h.modNfc.set.bump.raise.fire.wakeCore.wakeFor.upd h.modNfc.set.bump.raise.fire.wakeCore

theorem Keeps.release {recal : Bool} (h : Keeps s t) : Keeps s (t.release recal) := by
  unfold State.release
  extract_lets t₁
  have h₁ : Keeps s t₁ := h.modNfc.set.setBit
  exact .cond h₁.set h₁.raise

theorem Keeps.senseRun {asks : Bool} (h : Keeps s t) : Keeps s (t.senseRun asks) :=
  .cond (.cond h.modNfc.release h.modNfc.approach) h.modNfc

theorem Keeps.execCsenseSample {count : Half} (h : Keeps s t) : Advances s (execCsenseSample count t) :=
  .cond (.next h) (.next h.set.senseRun.modNfc.set)

theorem Keeps.execCsensePing {change : Half} {ext : Bool} (h : Keeps s t) : Advances s (execCsensePing change ext t) :=
  .cond (.next h) (.next h.wakeFor.senseRun)

theorem Keeps.execCsenseHoldExpiry (h : Keeps s t) : Advances s (execCsenseHoldExpiry t) :=
  .next (.cond h.modNfc.setAll.bump.release h)

theorem Keeps.execNfcHoldExpiry (h : Keeps s t) : Advances s (execNfcHoldExpiry t) :=
  .cond (.next (.cond h.modNfc.upd h.modNfc)) (.next h)

/-! ### Pair.lean -/

theorem Keeps.actGated {g : Gated} (h : Keeps s t) : Keeps s (t.actGated g) := by
  unfold State.actGated
  split
  · exact h.sendDone
  · split
    · exact h.postDone
    · exact h
  · exact h.idBlockAct
  · split
    · exact h.offerAct
    · exact h
  · split
    · exact h.takeAct
    · exact h
  · exact h

theorem Keeps.showBulk (h : Keeps s t) : Keeps s t.showBulk := h.set

theorem Keeps.sendCopies {n : Nat} (h : Keeps s t) : Keeps s (t.sendCopies n) := by
  induction n generalizing t with
  | zero => exact h
  | succ n ih =>
    unfold State.sendCopies
    split
    · exact h
    · exact ih h.upd.sendSeq

theorem Keeps.fillWindow (h : Keeps s t) : Keeps s t.fillWindow := .cond h h.sendCopies.showBulk

theorem Keeps.discardMirror (h : Keeps s t) : Keeps s t.discardMirror := h.clearMem.upd

theorem Keeps.enterSyncing {net : Nat} (h : Keeps s t) : Keeps s (t.enterSyncing net) :=
  h.discardMirror.upd.each (fun _ _ hu => hu.quiet) |>.setAll.setRole

theorem Keeps.acked {ack : Nat} (h : Keeps s t) : Keeps s (t.acked ack) := by
  unfold State.acked
  split
  · exact h
  · exact .cond (h.upd.each (fun _ _ hu => hu.actGated) |>.fillWindow.enterSyncing) <|
      h.upd.each (fun _ _ hu => hu.actGated) |>.fillWindow

theorem Keeps.heard {ack : Half} (h : Keeps s t) : Keeps s (t.heard ack) := h.set.acked

theorem Keeps.seqIn {seq ack : Half} {f : State → State} (h : Keeps s t) (hf : ∀ u, Keeps s u → Keeps s (f u)) :
    Keeps s (t.seqIn seq ack f) := .cond (hf _ h.heard.upd) h.heard

theorem Keeps.linked {f : State → State} (h : Keeps s t) (hf : ∀ u, Keeps s u → Keeps s (f u)) :
    Advances s (t.linked f) := .next (.cond h (hf _ h))

theorem Keeps.becomePrimary (h : Keeps s t) : Keeps s t.becomePrimary := .commit (.setRole (.upd (.cond h.setAll h)))

theorem Keeps.startBulk (h : Keeps s t) : Keeps s t.startBulk :=
  h.each (fun _ _ hu => hu.actGated) |>.upd.setAll.fillWindow

theorem Keeps.stopMirroring (h : Keeps s t) : Keeps s t.stopMirroring := h.upd.set.each (fun _ _ hu => hu.actGated)

theorem Keeps.toLinking (h : Keeps s t) : Keeps s t.toLinking := .cond h.setAll h.setAll.setRole

theorem Keeps.toCheck (h : Keeps s t) : Keeps s t.toCheck := by
  unfold State.toCheck
  extract_lets t₁
  have h₁ : Keeps s t₁ := h.each (fun _ _ hu => hu.quiet) |>.setAll
  exact .cond h₁.setRole h₁

theorem Keeps.pairStart (h : Keeps s t) : Keeps s t.pairStart := .cond h (.cond h.toLinking h.toCheck)

theorem Keeps.pairStop {keep : Bool} (h : Keeps s t) : Keeps s (t.pairStop keep) :=
  .cond h <|
  .cond (.setAll (.cond h.stopMirroring (.cond h.discardMirror h))) <|
  .setRole (.setAll (.cond h.stopMirroring (.cond h.discardMirror h)))

theorem Keeps.serveMirror (h : Keeps s t) : Keeps s t.serveMirror := .cond h.startBulk h.set

theorem Keeps.arbitrate {h' : Hello} (h : Keeps s t) : Keeps s (t.arbitrate h') :=
  .cond (.cond (.cond h.detach (h.onlyIf (fun _ hu => hu.set))) h.serveMirror) <|
  .cond h (.cond h.enterSyncing (.cond h.becomePrimary.serveMirror h.enterSyncing))

theorem Keeps.helloIn {h' : Hello} (h : Keeps s t) : Keeps s (t.helloIn h') := by
  unfold State.helloIn
  dsimp only
  split
  · exact h.setAll.arbitrate
  · exact h.setAll.toLinking
  · exact h.setAll.arbitrate
  · exact h.setAll.arbitrate
  · exact h.setAll.toLinking
  · exact h.setAll

theorem Keeps.execBasaltHello {h' : Hello} {ack : Half} (h : Keeps s t) : Advances s (execBasaltHello h' ack t) :=
  h.linked (fun _ hu => .cond hu.heard.upd.helloIn hu.heard.upd.set.bump.raise)

theorem Keeps.execHelloSend (h : Keeps s t) : Advances s (execHelloSend t) := h.linked (fun _ hu => .cond hu.upd hu)

theorem Keeps.mirrorDone {num st : Nat} (h : Keeps s t) : Keeps s (t.mirrorDone num st) := by
  unfold State.mirrorDone
  split
  · exact h.dropMsg.upd
  · exact h

theorem Keeps.mirrorAssoc {e : Assoc} (h : Keeps s t) : Keeps s (t.mirrorAssoc e) := h.putAssoc.upd

theorem Keeps.mirrorBlock {seq i last : Nat} (h : Keeps s t) : Keeps s (t.mirrorBlock seq i last) := h.setKey.upd.commit

theorem Keeps.applyMirror {seq : Nat} {m : Mirror} (h : Keeps s t) : Keeps s (t.applyMirror seq m) := by
  unfold State.applyMirror
  split
  · exact h.putWord.commit
  · split
    · exact h
    · exact h.setKey.commit
  · exact h.setKey.commit
  · exact h.mirrorBlock
  · exact h.modNbr
  · exact h.setNbr
  · exact h.upd
  · exact h.upd
  · exact h.mirrorAssoc
  · exact h.upd.rebuildIndex
  · exact h.upd
  · exact h.mirrorDone
  · split
    · exact h.keepBlock.putPeer
    · exact h
  · exact h.putPeer
  · exact h.upd
  · exact h.upd
  · exact h.setAll.commit

theorem Keeps.takeMirror {seq : Nat} {o : Mirror} (h : Keeps s t) : Keeps s (t.takeMirror seq o) :=
  .cond h.upd h.applyMirror

theorem Keeps.retryHeld {seq : Nat} (h : Keeps s t) : Keeps s (t.retryHeld seq) :=
  h.upd.each (fun _ _ hu => hu.takeMirror)

theorem Keeps.execBasaltCopy {seq ack : Half} {objs : List Mirror} (h : Keeps s t) :
    Advances s (execBasaltCopy seq ack objs t) :=
  h.linked (fun _ hu => hu.seqIn (fun _ hv => .cond (hv.each (fun _ _ hw => hw.applyMirror) |>.retryHeld) hv))

theorem Keeps.execBasaltRecord {seq ack : Half} {objs : List Mirror} (h : Keeps s t) :
    Advances s (execBasaltRecord seq ack objs t) :=
  h.linked (fun _ hu => hu.seqIn (fun _ hv => .cond (hv.each (fun _ _ hw => hw.takeMirror)) hv))

theorem Keeps.execBasaltAck {ack : Half} (h : Keeps s t) : Advances s (execBasaltAck ack t) :=
  h.linked (fun _ hu => hu.heard)

theorem Keeps.syncDone (h : Keeps s t) : Keeps s t.syncDone := .cond h.set.raise h

theorem Keeps.partnerDone (h : Keeps s t) : Keeps s t.partnerDone := .cond h.set.raise h

theorem Keeps.execBulkCopyComplete (h : Keeps s t) : Advances s (execBulkCopyComplete t) :=
  .next (.cond h.upd.set.bump.partnerDone (.cond h.upd.retryHeld.set.bump.syncDone h))

theorem Keeps.execHeartbeatSend {slotUs : Half} (h : Keeps s t) : Advances s (execHeartbeatSend slotUs t) :=
  h.linked (fun _ hu => hu.upd)

theorem Keeps.reportResv {resv : Nat} (h : Keeps s t) : Keeps s (t.reportResv resv) := by
  unfold State.reportResv
  split
  · exact h
  · exact h.upd.commit

theorem Keeps.resync (h : Keeps s t) : Keeps s t.resync := h.discardMirror.toLinking

theorem Keeps.follow {h' : Heartbeat} (h : Keeps s t) : Keeps s (t.follow h') :=
  .cond (h.upd.onlyIf (fun _ hu => hu.set) |>.resync) (h.upd.onlyIf (fun _ hu => hu.set))

theorem Keeps.execBasaltHeartbeat {h' : Heartbeat} {ack : Half} (h : Keeps s t) :
    Advances s (execBasaltHeartbeat h' ack t) :=
  h.linked (fun _ hu => .cond hu.heard.follow (.cond hu.heard.reportResv.partnerDone hu.heard))

theorem Keeps.takeCounters (h : Keeps s t) : Keeps s t.takeCounters := h.upd

theorem Keeps.replay (h : Keeps s t) : Keeps s t.replay :=
  h.upd.each (fun _ _ hu => hu.startAttempt) |>.upd.each (fun _ _ hu => hu.upd.postDone)

theorem Keeps.takeover {cause time : Nat} (h : Keeps s t) : Keeps s (t.takeover cause time) :=
  h.upd.each (fun _ _ hu => hu.applyMirror) |>.onlyIf (fun _ hu => hu.takeCounters) |>.becomePrimary.upd.rebuildIndex
    |>.set.onlyIf (fun _ hu => hu.replay) |>.upd.setAll.raise.bump.commit.record

theorem Keeps.execPartnerSilence {time : Half} (h : Keeps s t) : Advances s (execPartnerSilence time t) :=
  h.linked fun _ hu =>
      by
        dsimp only
        split
        · exact hu.set.stopMirroring.set.raise
        · exact hu.set.resync
        · exact .cond hu.set.takeover hu.set
        · exact hu.set.set

theorem Keeps.presHigh (h : Keeps s t) : Keeps s t.presHigh := by
  unfold State.presHigh
  split
  · exact h.toCheck
  · exact h.stopMirroring.set.raise
  · exact h.discardMirror.toCheck
  · exact .cond h.toCheck h
  · exact h

theorem Keeps.pairDomain {low : Bool} (h : Keeps s t) : Keeps s (t.pairDomain low) :=
  h.onlyIf (fun _ hu => .cond (hu.onlyIf (fun _ hv => hv.startClocks.wakeStart.wakeReady)) hu.domDown)

theorem Keeps.execPairPresChange {low : Bool} (h : Keeps s t) : Advances s (execPairPresChange low t) :=
  .cond (.next h) (.next (.cond h.upd.fire.wakeCore.pairDomain h.upd.fire.wakeCore.pairDomain.presHigh))

theorem Keeps.execOnairCheckEnd {time : Half} (h : Keeps s t) : Advances s (execOnairCheckEnd time t) :=
  .cond (.next h.takeover.upd) (.next h)

theorem Keeps.execBasaltHandover {seq ack time : Half} (h : Keeps s t) :
    Advances s (execBasaltHandover seq ack time t) :=
  h.linked (fun _ hu => hu.seqIn (fun _ hv => .cond hv.takeover.bump.startBulk hv))

theorem Keeps.partnerAbsent (h : Keeps s t) : Keeps s t.partnerAbsent := h.stopMirroring

theorem Keeps.execGatedAckTimeout (h : Keeps s t) : Advances s (execGatedAckTimeout t) :=
  .next (.cond h h.partnerAbsent)

theorem Keeps.execReserveReportTimeout (h : Keeps s t) : Advances s (execReserveReportTimeout t) :=
  .cond (.next h) (.next (h.partnerAbsent.each (fun _ _ hu => hu.openBlock)))

theorem Keeps.execBasaltRetxTimeout (h : Keeps s t) : Advances s (execBasaltRetxTimeout t) := .next (.cond h h.bump)

theorem Keeps.execBasaltFrameDiscard {violation : Bool} {octets : List Byte} (h : Keeps s t) :
    Advances s (execBasaltFrameDiscard violation octets t) := h.linked (fun _ hu => .cond hu.bump hu)

theorem Keeps.handOver (h : Keeps s t) : Keeps s t.handOver := h.upd.bump.sendSeq.upd

theorem Keeps.pairHandover {key : Nat} (h : Keeps s t) : Keeps s (t.pairHandover key) :=
  .cond h.refuse (.cond h.handOver h.refuse)

theorem Keeps.pairResync {key : Nat} (h : Keeps s t) : Keeps s (t.pairResync key) := .cond h.refuse (.cond h.resync h)

theorem Keeps.execPairHandover {who : Requester} {key : Half} (h : Keeps s t) :
    Advances s (execPairHandover who key t) := h.command (fun _ hu => hu.pairHandover)

theorem Keeps.execPairResync {who : Requester} {key : Half} (h : Keeps s t) : Advances s (execPairResync who key t) :=
  h.command (fun _ hu => hu.pairResync)

/-! ### Rtc.lean -/

theorem Keeps.showShift (h : Keeps s t) : Keeps s t.showShift := h.set

theorem Keeps.execRtcCntRead {who : Fin 14} {edges : BitVec 15} (h : Keeps s t) :
    Advances s (execRtcCntRead who edges t) := by
  unfold Machine.execRtcCntRead
  extract_lets r₁
  have h₁ : Keeps s r₁.1 := .condFst h h.guard
  exact .next (.cond h₁.showShift.upd h₁.upd)

theorem Keeps.takeDue (h : Keeps s t) : Keeps s t.takeDue := .cond h.upd.set.raise h

theorem Keeps.judgeActivation (h : Keeps s t) : Keeps s t.judgeActivation := .cond h.upd.takeDue h.takeDue

theorem Keeps.alarm {n : Nat} {sameEdge : Bool} (h : Keeps s t) : Keeps s (t.alarm n sameEdge) :=
  .cond (h.raise.fire.onlyIf (fun _ hu => hu.set) |>.wakeCore) h

theorem Keeps.enterSecond {sameEdge : Bool} (h : Keeps s t) : Keeps s (t.enterSecond sameEdge) :=
  h.raiseIf.setBit.raise.fire.alarm.alarm.upd.judgeActivation

theorem Keeps.execRtcSecond {sameEdge : Bool} (h : Keeps s t) : Advances s (execRtcSecond sameEdge t) :=
  .cond (.next h) (.next h.upd.showShift.enterSecond)

theorem Keeps.stageTime {who count : Nat} (h : Keeps s t) : Keeps s (t.stageTime who count) := h.upd.set

theorem Keeps.commitCount {who sec sub : Nat} (h : Keeps s t) : Keeps s (t.commitCount who sec sub) :=
  .cond h.refuse (.cond h.refuse h.stageTime)

theorem Keeps.commitCalendar {who : Nat} (h : Keeps s t) : Keeps s (t.commitCalendar who) :=
  .cond h.refuse (.cond h.refuse h.stageTime)

theorem Keeps.lfEdges {edges : Nat} (h : Keeps s t) : Keeps s (t.lfEdges edges) := h.upd.showShift

theorem Keeps.execRtcCommitCount {who : Requester} {edges : BitVec 15} (h : Keeps s t) :
    Advances s (execRtcCommitCount who edges t) := h.writeCmd (fun _ hu => hu.lfEdges.commitCount)

theorem Keeps.execRtcCommitCalendar {who : Requester} {edges : BitVec 15} (h : Keeps s t) :
    Advances s (execRtcCommitCalendar who edges t) := h.writeCmd (fun _ hu => hu.lfEdges.commitCalendar)

theorem Keeps.execRtcCommitLand {sameEdge stop : Bool} (h : Keeps s t) :
    Advances s (execRtcCommitLand sameEdge stop t) := by
  unfold Machine.execRtcCommitLand
  split
  · exact .next h
  · exact .cond (.next h) <|
      .next <|
      h.upd.onlyIf (fun _ hu => hu.setAll) |>.onlyIf (fun _ hu => hu.set) |>.onlyIf (fun _ hu => hu.set.raise) |>.set
        |>.raise.enterSecond

theorem Keeps.execRtcShift {who : Requester} {ticks : BitVec 16} {edges : BitVec 15} (h : Keeps s t) :
    Advances s (execRtcShift who ticks edges t) :=
  h.writeCmd fun _ hu =>
      .cond hu.lfEdges.refuse <|
      .cond hu.lfEdges.refuse (.cond hu.lfEdges.refuse (.cond hu.lfEdges hu.lfEdges.upd.set.showShift))

theorem Keeps.execRtcShiftDone (h : Keeps s t) : Advances s (execRtcShiftDone t) :=
  .cond (.next (.cond h.upd.set.set.raise h.upd.set.set.raise.enterSecond)) (.next h)

theorem Keeps.alarmCtl {n w : Nat} (h : Keeps s t) : Keeps s (t.alarmCtl n w) :=
  .cond h.refuse (.cond h.refuse (.cond h.refuse (.cond h.setAll h.setAll.upd)))

theorem Keeps.execAlarmCtlWrite {who : Requester} {n : Fin 2} {value : Word} (h : Keeps s t) :
    Advances s (execAlarmCtlWrite who n value t) := h.writeCmd (fun _ hu => hu.alarmCtl)

theorem Keeps.charger (h : Keeps s t) : Keeps s t.charger := .cond h.set (.cond h.set (.cond h.set.raiseIf h.set))

theorem Keeps.execChgWrite {who : Requester} {value : Word} (h : Keeps s t) : Advances s (execChgWrite who value t) :=
  h.writeCmd (fun _ hu => .cond hu.refuse hu.set.set.charger)

theorem Keeps.execChargerDone (h : Keeps s t) : Advances s (execChargerDone t) := .next (.cond h.set.raise h)

theorem Keeps.execChargerRestart (h : Keeps s t) : Advances s (execChargerRestart t) := .next (.cond h.set h)

/-! ### Domains.lean -/

theorem Keeps.modDoms {f : Domains → Domains} (h : Keeps s t) : Keeps s (t.modDoms f) := h.upd

theorem Keeps.setAuto {k : Nat} {on : Bool} (h : Keeps s t) : Keeps s (t.setAuto k on) := h.modDoms

theorem Keeps.engOff {k : Nat} (h : Keeps s t) : Keeps s (t.engOff k) := h.engReset.setEng.setAll

theorem Keeps.chainOff {m : Medium} {c : Chain} (h : Keeps s t) : Keeps s (t.chainOff m c) := h.quiet.set.modChain

theorem Keeps.garnetOff (h : Keeps s t) : Keeps s t.garnetOff := h.upd

theorem Keeps.bankLoss {k : Nat} (h : Keeps s t) : Keeps s (t.bankLoss k) := by
  unfold State.bankLoss
  split
  · exact h.upd
  · exact h.upd.strataLoss
  · exact h.upd
  · exact h

theorem Keeps.offLoss {k : Nat} (h : Keeps s t) : Keeps s (t.offLoss k) :=
  .cond h.engOff <|
  by
    split
    · exact h.bankLoss
    · exact h.bankLoss
    · exact h.bankLoss
    · exact h.chainOff
    · exact h.chainOff
    · exact h.plcCut.quiet.setAll
    · exact h.lampReset
    · exact h.rdOff.modNfc
    · exact h.garnetOff
    · exact h.upd (fun w => w.finishErase)
    · exact h.upd
    · exact h.set
    · exact h

theorem Keeps.goOff {k : Nat} (h : Keeps s t) : Keeps s (t.goOff k) := .cond h.setAuto h.offLoss.domDown

theorem Keeps.goOn {k : Nat} (h : Keeps s t) : Keeps s (t.goOn k) := .cond h h.modDoms.wakeReady

theorem Keeps.engUp {k : Nat} {auto : Bool} (h : Keeps s t) : Keeps s (t.engUp k auto) :=
  .cond h.goOn.setAuto (.cond h.goOn.engRestart.setAuto h)

theorem Keeps.domLeave {k : Nat} {auto : Bool} (h : Keeps s t) : Keeps s (t.domLeave k auto) :=
  .cond h.engUp h.goOn.setAuto

theorem Keeps.setDomain {k v : Nat} (h : Keeps s t) : Keeps s (t.setDomain k v) := .cond h.goOff h.domLeave

theorem Keeps.modeDomains {m : Mode} (h : Keeps s t) : Keeps s (t.modeDomains m) := h.each (fun _ _ hu => hu.setDomain)

theorem Keeps.followMedia (h : Keeps s t) : Keeps s t.followMedia :=
  .cond (h.each (fun _ _ hu => .cond hu.goOff (.cond hu.setDomain hu.setAuto))) h

theorem Keeps.clamp {k : Nat} (h : Keeps s t) : Keeps s (t.clamp k) := .cond h.set (.cond h.set h)

theorem Keeps.goRetention {k : Nat} (h : Keeps s t) : Keeps s (t.goRetention k) := h.clamp.set

theorem Keeps.hostWake (h : Keeps s t) : Keeps s t.hostWake := .cond h.upd.modDoms.wakeCore.wakeDomain.raise.fire h.upd

theorem Keeps.execDomainIdleEntry {idx : BitVec 5} {abort : Option (Fin 5)} {hostWake : Bool} (h : Keeps s t) :
    Advances s (execDomainIdleEntry idx abort hostWake t) :=
  .cond (.next h.upd) <|
  by
    split
    · exact .next h.upd.abandonEntry
    · exact .next (.cond h.upd.endEntry.goOff (h.upd.endEntry.goRetention.onlyIf (fun _ hu => hu.hostWake)))

theorem Keeps.execDomainWake {idx : BitVec 5} {src : BitVec 4} (h : Keeps s t) :
    Advances s (execDomainWake idx src t) :=
  .cond (.next h) (.cond (.next (.cond h.abandonEntry h)) (.cond (.next h) (.next h.startXo.wakeStart)))

theorem Keeps.execDomainWakeReady {idx : BitVec 5} (h : Keeps s t) : Advances s (execDomainWakeReady idx t) :=
  .next (.cond h.wakeReady h)

theorem Keeps.domcmd {who k : Nat} {nowake : Bool} {f : State → State}
    (h : Keeps s t) (hf : ∀ u, Keeps s u → Keeps s (f u)) : Keeps s (t.domcmd who k nowake f) :=
  .cond h (.cond h.refuse (hf _ h.set))

theorem Keeps.domEnter {k target : Nat} (h : Keeps s t) : Keeps s (t.domEnter k target) :=
  .cond h (.cond h.setAuto (.cond h.goOff h.setAuto.endEntry.modDoms.set))

theorem Keeps.execDomcmdOff {who : Requester} {idx : BitVec 5} {nowake : Bool} (h : Keeps s t) :
    Advances s (execDomcmdOff who idx nowake t) := h.writeCmd (fun _ hu => hu.domcmd (fun _ hv => .cond hv hv.domEnter))

theorem Keeps.execDomcmdRetention {who : Requester} {idx : BitVec 5} {nowake : Bool} (h : Keeps s t) :
    Advances s (execDomcmdRetention who idx nowake t) := h.writeCmd (fun _ hu => hu.domcmd (fun _ hv => hv.domEnter))

theorem Keeps.execDomcmdOn {who : Requester} {idx : BitVec 5} {nowake : Bool} (h : Keeps s t) :
    Advances s (execDomcmdOn who idx nowake t) := h.writeCmd (fun _ hu => hu.domcmd (fun _ hv => hv.domLeave))

theorem Keeps.execDomcmdAuto {who : Requester} {idx : BitVec 5} {nowake : Bool} (h : Keeps s t) :
    Advances s (execDomcmdAuto who idx nowake t) := h.writeCmd (fun _ hu => hu.domcmd (fun _ hv => hv.domLeave))

theorem Keeps.hostreqWrite {w : Nat} (h : Keeps s t) : Keeps s (t.hostreqWrite w) :=
  .cond h.refuse (by dsimp only; split; exacts [h.refuse, h.each (fun _ _ hu => hu.set.setDomain)])

theorem Keeps.execPwrHostreqWrite {who : Requester} {value : Word} (h : Keeps s t) :
    Advances s (execPwrHostreqWrite who value t) := h.writeCmd (fun _ hu => hu.hostreqWrite)

theorem Keeps.execHostWakeRise {rested : Bool} (h : Keeps s t) : Advances s (execHostWakeRise rested t) :=
  .next (h.onlyIf (fun _ hu => hu.modDoms) |>.hostWake)

theorem Keeps.v3outFollow (h : Keeps s t) : Keeps s t.v3outFollow := .cond (.cond h.upd h.upd.setDomain) h

theorem Keeps.asqFlag {f : Fld} {n : Nat} (h : Keeps s t) : Keeps s (t.asqFlag f n) := h.set

theorem Keeps.asqMatch {n : Nat} (h : Keeps s t) : Keeps s (t.asqMatch n) :=
  h.asqFlag.raise.fire.onlyIf (fun _ hu => hu.wakeCore) |>.onlyIf (fun _ hu => hu.set)

theorem Keeps.asqPass {n t' : Nat} (h : Keeps s t) : Keeps s (t.asqPass n t') := h.modDoms.onlyIf (fun _ hu => hu.set)

theorem Keeps.asqRun {n t' : Nat} (h : Keeps s t) : Keeps s (t.asqRun n t') := h.modDoms

theorem Keeps.micaSniff {n : Nat} {energy : List Half} (h : Keeps s t) : Keeps s (t.micaSniff n energy) :=
  .cond h (.cond h.asqRun.set h.asqRun)

theorem Keeps.asqSample {n : Nat} {samples : List Nat} (h : Keeps s t) : Keeps s (t.asqSample n samples) := by
  unfold State.asqSample
  extract_lets _ _ t₁ _ _ _ t₂
  have h₁ : Keeps s t₁ := h.asqRun.onlyIf (fun _ hu => hu.wakeFor)
  have h₂ : Keeps s t₂ := .cond h₁ (.cond h₁.goOff (.cond h₁.goRetention h₁))
  exact h₂.onlyIf (fun _ hu => hu.asqMatch)

theorem Keeps.execAsqPeriod {n : Fin 8} {samples : List Half} (h : Keeps s t) :
    Advances s (execAsqPeriod n samples t) :=
  .cond (.next h) (.cond (.next h.asqPass.asqFlag) (.next (.cond h.asqPass.micaSniff h.asqPass.asqSample)))

theorem Keeps.execFastClockStop (h : Keeps s t) : Advances s (execFastClockStop t) :=
  .cond (.next h) (.next (.cond h.setAll h.setAll.setAll))

theorem Keeps.execFastClockReady (h : Keeps s t) : Advances s (execFastClockReady t) :=
  .cond (.next h) (.next (.cond h.set.setAll h.set))

theorem Keeps.execClkHostreqWrite {who : Requester} {value : Word} (h : Keeps s t) :
    Advances s (execClkHostreqWrite who value t) := h.writeCmd (fun _ hu => hu.setAll.onlyIf (fun _ hv => hv.startXo))

theorem Keeps.execStitchUpdate (h : Keeps s t) : Advances s (execStitchUpdate t) := .next (.cond h h.set)

theorem Keeps.execLfMeasurementUpdate {count : Word} (h : Keeps s t) : Advances s (execLfMeasurementUpdate count t) :=
  .next (.cond h.set h)

theorem Keeps.execLfStop {long : Bool} (h : Keeps s t) : Advances s (execLfStop long t) :=
  .cond (.next h) <|
  .next (.cond (.raise (.set (.modDoms (.cond h.upd.set.raise h.upd.set)))) (.cond h.upd.set.raise h.upd.set))

theorem Keeps.execLfReturn (h : Keeps s t) : Advances s (execLfReturn t) :=
  .cond (.next h) (.next (.cond h.upd.modDoms.set.raise h.upd.set))

theorem Keeps.stitch (h : Keeps s t) : Keeps s t.stitch := h.modDoms.each (fun _ _ hu => hu.timerPass)

theorem Keeps.lfEdge (h : Keeps s t) : Keeps s t.lfEdge :=
  .cond h (h.onlyIf (fun _ hu => hu.stitch) |>.each (fun _ _ hu => hu.asqPass))

/-! ### Update.lean -/

theorem Keeps.verifyFailed {reason part : Nat} (h : Keeps s t) : Keeps s (t.verifyFailed reason part) :=
  h.set.refuse.raise

theorem Keeps.setSession {st : Nat} (h : Keeps s t) : Keeps s (t.setSession st) := h.set.set

theorem Keeps.stage {allowed : List Nat} {f : State → State} (h : Keeps s t) (hf : ∀ u, Keeps s u → Keeps s (f u)) :
    Keeps s (t.stage allowed f) := .cond h.refuse (.cond (hf _ h) h.refuse)

theorem Keeps.updateOpen (h : Keeps s t) : Keeps s t.updateOpen := h.stage (fun _ hu => hu.setAll.setSession)

theorem Keeps.stageWrite {off : Nat} {bs : List Byte} (h : Keeps s t) : Keeps s (t.stageWrite off bs).1 :=
  .condFst h (.condFst h (.condFst h h.upd.set.setSession))

theorem Keeps.updateWrite (h : Keeps s t) : Keeps s t.updateWrite := .cond h.refuse (.cond h.stageWrite h.refuse)

theorem Keeps.updateVerify (h : Keeps s t) : Keeps s t.updateVerify := h.stage (fun _ hu => hu.set.setSession)

theorem Keeps.updateSchedule (h : Keeps s t) : Keeps s t.updateSchedule :=
  h.stage (fun _ hu => .cond hu.refuse (.cond hu.upd.setSession.setSession.raise hu.upd.setSession))

theorem Keeps.updateCancel (h : Keeps s t) : Keeps s t.updateCancel :=
  h.stage (fun _ hu => .cond hu.upd.setSession hu.setSession)

theorem Keeps.updateCmd {op : Nat} (h : Keeps s t) : Keeps s (t.updateCmd op) := by
  unfold State.updateCmd
  split
  · exact h.updateOpen
  · exact h.updateWrite
  · exact h.updateVerify
  · exact h.updateSchedule
  · exact h.updateCancel
  · exact h.refuse

theorem Keeps.execUpdateOpen {who : Requester} (h : Keeps s t) : Advances s (execUpdateOpen who t) :=
  h.command (fun _ hu => hu.updateOpen)

theorem Keeps.execUpdateWrite {who : Requester} (h : Keeps s t) : Advances s (execUpdateWrite who t) :=
  h.command (fun _ hu => hu.updateWrite)

theorem Keeps.execUpdateVerify {who : Requester} (h : Keeps s t) : Advances s (execUpdateVerify who t) :=
  h.command (fun _ hu => hu.updateVerify)

theorem Keeps.execUpdateSchedule {who : Requester} (h : Keeps s t) : Advances s (execUpdateSchedule who t) :=
  h.command (fun _ hu => hu.updateSchedule)

theorem Keeps.execUpdateCancel {who : Requester} (h : Keeps s t) : Advances s (execUpdateCancel who t) :=
  h.command (fun _ hu => hu.updateCancel)

theorem Keeps.execUpdateWriteComplete {p : ProgramResult} {e : EraseResult} (h : Keeps s t) :
    Advances s (execUpdateWriteComplete p e t) := by
  unfold Machine.execUpdateWriteComplete
  split
  · exact .next h
  · exact .next (h.upd (fun w => w.jopen) |>.eraseDone.programAt.upd.set.bump.raise)

theorem Keeps.execUpdateVerifyComplete (h : Keeps s t) : Advances s (execUpdateVerifyComplete t) :=
  .cond (by dsimp only; split; exacts [.next h.set.setSession.raise, .next h.set.setSession.bump.verifyFailed]) <|
  .next h

theorem Keeps.execFwBlockDeferredWrite (h : Keeps s t) : Advances s (execFwBlockDeferredWrite t) := by
  unfold Machine.execFwBlockDeferredWrite
  split
  · exact .next h
  · exact .cond (.next h) (.next (.cond h.stageWrite.upd h.stageWrite.upd.upd))

/-! ### Modes.lean -/

theorem Keeps.modModes {f : ModeSt → ModeSt} (h : Keeps s t) : Keeps s (t.modModes f) := h.upd

theorem Keeps.modSupply {f : Supply → Supply} (h : Keeps s t) : Keeps s (t.modSupply f) := h.upd

theorem Keeps.composeGasp (h : Keeps s t) : Keeps s t.composeGasp :=
  .cond h (by dsimp only; split; exacts [h.needPeer, .cond h.needPeer.openTx h.needPeer.openTx.keepBlock.putPeer.upd])

theorem Keeps.enterMode {m : Mode} {cause : Nat} (h : Keeps s t) : Keeps s (t.enterMode m cause) :=
  h.onlyIf (fun _ hu => hu.strataClose) |>.modeDomains.upd.setAll.raise.onlyIf (fun _ hu => hu.setBit.composeGasp)
    |>.indicate

theorem Keeps.asleep (h : Keeps s t) : Keeps s t.asleep := by
  unfold State.asleep
  extract_lets prev cut kept t₁
  have h₁ : Keeps s t₁ := h.strataClose.strataLoss.resetCore.putRet
  exact (h₁.updMem fun _ => rfl).set.charger

theorem Keeps.enterHold {cause : Nat} (h : Keeps s t) : Keeps s (t.enterHold cause) :=
  h.snapAppend.commitNow.upd (fun w => w.finishErase) |>.asleep.set

theorem Keeps.powerDown (h : Keeps s t) : Keeps s t.powerDown :=
  (h.strataLoss.asleep.regs fun _ => Regs.wf_putAll _ _ Regs.wf_reset).upd

theorem Keeps.sleepOrDie {keep : Bool} {cause : Nat} (h : Keeps s t) : Keeps s (t.sleepOrDie keep cause) :=
  .cond (.cond h.enterHold h.asleep.set) (h.onlyIf (fun _ hu => hu.commitNow) |>.powerDown)

theorem Keeps.quartzStart (h : Keeps s t) : Keeps s t.quartzStart := h.setAll

theorem Keeps.toKformat (h : Keeps s t) : Keeps s t.toKformat := by
  unfold State.toKformat
  extract_lets t₁
  have h₁ : Keeps s t₁ := h.each fun _ _ hu => .cond hu.set hu.set.engReset.engRelease
  exact h₁.modEng

theorem Keeps.toMaintenance {cause : Nat} (h : Keeps s t) : Keeps s (t.toMaintenance cause) := h.enterMode.toKformat

theorem Keeps.sendSysevt {body : List Byte} {id : Option (Nat × Nat)} (h : Keeps s t) :
    Keeps s (t.sendSysevt body id).1 := by
  unfold State.sendSysevt
  dsimp only
  split
  · exact h.submitMsg.admitMsg
  · exact h.submitMsg.startAttempt

theorem Keeps.broadcastOnce {body : List Byte} {id : Option (Nat × Nat)} (h : Keeps s t) :
    Keeps s (t.broadcastOnce body id) := h.enqueue

theorem Keeps.lastGasp {rms : Nat} (h : Keeps s t) : Keeps s (t.lastGasp rms) :=
  .cond h.modModes.broadcastOnce.upd h.modModes.sendSysevt.upd

theorem Keeps.mainsGone (h : Keeps s t) : Keeps s t.mainsGone := by
  unfold State.mainsGone
  extract_lets t₁ t₂ t₃ t₄
  have h₁ : Keeps s t₁ := h.setAll.modSupply
  have h₂ : Keeps s t₂ := h₁.unlock.plcCut.lampReset
  have h₃ : Keeps s t₃ := h₂.each (fun _ _ hu => hu.flightRefused)
  have h₄ : Keeps s t₄ := h₃.modBridge
  exact h₄.goOff.goOff.goOff.charger

theorem Keeps.lossInService {rms : Nat} (h : Keeps s t) : Keeps s (t.lossInService rms) := by
  unfold State.lossInService
  extract_lets t₁ t₂
  have h₁ : Keeps s t₁ := h.quiet.lastGasp.indicateAlarm
  have h₂ : Keeps s t₂ := h₁.each (fun _ _ hu => hu.park)
  exact .cond h₂ (h₂.pairStop.each (fun _ _ hu => hu.setDomain) |>.modSupply.modModes.upd.setAll.raise.indicate)

theorem Keeps.mainsLost {rms : Nat} (h : Keeps s t) : Keeps s (t.mainsLost rms) :=
  .cond h <|
  by
    dsimp only
    split
    · exact h.mainsGone.lossInService
    · exact h.mainsGone.sleepOrDie
    · exact h.mainsGone.sleepOrDie
    · exact h.mainsGone.sleepOrDie
    · exact h.mainsGone.modModes
    · exact h.mainsGone
    · exact h.mainsGone
    · exact h.mainsGone

theorem Keeps.execMainsLost {half : Option HalfCycle} {lastRms : Half} (h : Keeps s t) :
    Advances s (execMainsLost half lastRms t) := .next (.cond h.mainsLost h)

theorem Keeps.execOvervoltage {rms lastRms : Half} (h : Keeps s t) : Advances s (execOvervoltage rms lastRms t) :=
  .next (.cond h.modSupply.set.mainsLost h)

theorem Keeps.warmReturn (h : Keeps s t) : Keeps s t.warmReturn :=
  h.modModes.modSupply.each (fun _ _ hu => hu.setDomain) |>.mainsConfigure.enterMode.onlyIf (fun _ hu => hu.pairStart)
    |>.sendSysevt.unpark.indicateAlarm.charger.takeDue

theorem Keeps.mainsPresent (h : Keeps s t) : Keeps s t.mainsPresent :=
  .cond h <|
  by
    dsimp only
    split
    · exact h.setAll.modSupply.quartzStart.toBoot
    · exact h.setAll.modSupply.quartzStart.toBoot
    · exact h.setAll.modSupply.toBoot
    · exact .cond h.setAll.modSupply.modModes h.setAll.modSupply.warmReturn
    · exact .cond h.setAll.modSupply.modModes h.setAll.modSupply.warmReturn
    · exact h.setAll.modSupply
    · exact h.setAll.modSupply
    · exact h.setAll.modSupply

theorem Keeps.execMainsPresent {h1 h2 h3 : HalfCycle} (h : Keeps s t) : Advances s (execMainsPresent h1 h2 h3 t) :=
  .next (.cond h.mainsPresent h)

theorem Keeps.execLastGaspComplete (h : Keeps s t) : Advances s (execLastGaspComplete t) :=
  .cond (.next h) <|
  .cond (.next h.modModes.raise.warmReturn) <|
  .cond (.next <|
     .cond (h.modModes.raise.each (fun _ _ hu => hu.setDomain) |>.enterHold) <|
     h.modModes.raise.each (fun _ _ hu => hu.setDomain)) <|
  .next h.modModes.raise

theorem Keeps.execSupplyHoldUpEnd (h : Keeps s t) : Advances s (execSupplyHoldUpEnd t) := .next (.cond h.powerDown h)

theorem Keeps.execBrownoutStart {rms : Half} (h : Keeps s t) : Advances s (execBrownoutStart rms t) :=
  .cond (.next (.cond h.set.raise.charger.rdOff.limitSenders.setAll h.set.raise.charger.rdOff.limitSenders)) (.next h)

theorem Keeps.execBrownoutEnd {rms : Half} (h : Keeps s t) : Advances s (execBrownoutEnd rms t) :=
  .next (.cond h.set.raise.charger.showAtt h)

theorem Keeps.recordModule {cause : Nat} (h : Keeps s t) : Keeps s (t.recordModule cause) := h.record

theorem Keeps.moduleFault {cause : Nat} (h : Keeps s t) : Keeps s (t.moduleFault cause) := h.capFault.recordModule

theorem Keeps.faultReset {cause : Nat} {bit : Fld} (h : Keeps s t) : Keeps s (t.faultReset cause bit) := by
  unfold State.faultReset
  extract_lets t₁
  have h₁ : Keeps s t₁ := h.recordModule.moduleReset
  exact .cond h₁.capFault.set h₁

theorem Keeps.execSupplyFault (h : Keeps s t) : Advances s (execSupplyFault t) :=
  .cond (.next h.modSupply.faultReset) (.next h)

theorem Keeps.execSupplyRestart (h : Keeps s t) : Advances s (execSupplyRestart t) := .next (.cond h.modSupply h)

theorem Keeps.execOfflineSupplyUp (h : Keeps s t) : Advances s (execOfflineSupplyUp t) := .next (.cond h.modSupply h)

theorem Keeps.execVbakUsable {volts : Byte} (h : Keeps s t) : Advances s (execVbakUsable volts t) :=
  .cond (.next (by split; exacts [h.setAll.quartzStart.upd, h.setAll.quartzStart.upd, h.setAll.charger])) (.next h)

theorem Keeps.execVbakUnusable {volts : Byte} (h : Keeps s t) : Advances s (execVbakUnusable volts t) :=
  .cond (.next (by split; exacts [h.setAll.powerDown, .cond h.setAll h.setAll.powerDown, h.setAll.charger])) (.next h)

theorem Keeps.execV3outUndervoltage (h : Keeps s t) : Advances s (execV3outUndervoltage t) :=
  .next (.cond h.modSupply.moduleFault h)

theorem Keeps.execV3outRetry (h : Keeps s t) : Advances s (execV3outRetry t) := .next (.cond h.modSupply h)

theorem Keeps.execRstnLow (h : Keeps s t) : Advances s (execRstnLow t) :=
  .cond (.next h) (.next h.modSupply.moduleReset.charger)

theorem Keeps.execXoFail (h : Keeps s t) : Advances s (execXoFail t) := .next (.cond h.setAll.faultReset h)

theorem Keeps.execFieldPresent (h : Keeps s t) : Advances s (execFieldPresent t) := .next (.cond h.tagField h)

theorem Keeps.execFieldRemoved (h : Keeps s t) : Advances s (execFieldRemoved t) := .next (.cond h.tagFieldOff h)

theorem Keeps.modeReq {who : Nat} {key : Half} {late row : Bool} {f : State → State}
    (h : Keeps s t) (hf : ∀ u, Keeps s u → Keeps s (f u)) : Keeps s (t.modeReq who key late row f) :=
  h.guarded (fun _ hu => .cond hu.refuse (.cond hu.refuse (.cond hu.refuse (hf _ hu))))

theorem Keeps.execModeReqHold {who : Requester} {key : Half} {late : Bool} (h : Keeps s t) :
    Advances s (execModeReqHold who key late t) :=
  .next (h.modeReq (fun _ hu => .cond hu.refuse (.cond hu.enterHold hu.refuse)))

theorem Keeps.execModeReqCommission {who : Requester} {key : Half} {late : Bool} (h : Keeps s t) :
    Advances s (execModeReqCommission who key late t) :=
  .next (h.modeReq (fun _ hu => .cond hu.eraseIdentity.enterMode.takeDue hu.refuse))

theorem Keeps.execModeReqService {who : Requester} {key : Half} {late : Bool} (h : Keeps s t) :
    Advances s (execModeReqService who key late t) :=
  .next <|
  h.modeReq (fun _ hu => by split; exacts [.cond hu.refuse hu.upd.commit.enterMode.takeDue, hu.moduleReset, hu.refuse])

theorem Keeps.execModeReqMaintenance {who : Requester} {key : Half} {late : Bool} (h : Keeps s t) :
    Advances s (execModeReqMaintenance who key late t) :=
  .next (h.modeReq (fun _ hu => .cond hu.toMaintenance.takeDue hu.refuse))

theorem Keeps.execMaintenanceWorkComplete (h : Keeps s t) : Advances s (execMaintenanceWorkComplete t) :=
  .next (.cond h.moduleReset h)

theorem Keeps.execOutageLimitExpiry (h : Keeps s t) : Advances s (execOutageLimitExpiry t) :=
  .next (.cond h.enterHold h)

theorem Keeps.execHoldWakeExpiry (h : Keeps s t) : Advances s (execHoldWakeExpiry t) := .next (.cond h.enterHold h)

theorem Keeps.execRetCommit {who : Requester} (h : Keeps s t) : Advances s (execRetCommit who t) :=
  h.writeCmd (fun _ hu => .cond hu.refuse hu.commit)

theorem Keeps.execRetCommitComplete {ok : Bool} (h : Keeps s t) : Advances s (execRetCommitComplete ok t) :=
  .next (.cond h.commitEnd h)

theorem Keeps.execOpsecSecond (h : Keeps s t) : Advances s (execOpsecSecond t) :=
  .next (.cond h.bumpWrap.runningValue.escWindow h)

theorem Keeps.execFaultCapture {cause : Byte} {src : BitVec 4} {detail : Half} {addr : Word} (h : Keeps s t) :
    Advances s (execFaultCapture cause src detail addr t) := .next (.cond h.capFault h)

theorem Keeps.faultAction (h : Keeps s t) : Keeps s t.faultAction :=
  .cond (.cond (.cond h h.engRestart) (.cond (h.each (fun _ _ hu => .cond hu.engRestart hu)) h)) h

theorem Keeps.execFaultDone {who : Requester} (h : Keeps s t) : Advances s (execFaultDone who t) :=
  h.writeCmd (fun _ hu => .cond hu.faultAction.faultDone hu)

theorem Keeps.execFaultHandlerTimeout (h : Keeps s t) : Advances s (execFaultHandlerTimeout t) :=
  .next (.cond h.escalate h)

/-! ### Boot.lean -/

theorem Keeps.noteRecovered {e : JEntry} (h : Keeps s t) : Keeps s (t.noteRecovered e) := h.upd.set.bump

theorem Keeps.recoverEntries {l : List JEntry} {rs : List EraseResult} (h : Keeps s t) : Keeps s (t.recoverEntries l rs) := by
  induction l generalizing t rs with
  | nil => exact h
  | cons e l ih =>
    unfold State.recoverEntries
    dsimp only
    split
    · exact ih h.eraseDone.noteRecovered
    · exact ih h.eraseDone.noteRecovered
    · exact .cond (ih h.upd.noteRecovered) (ih (h.upd fun w => w.jopen).eraseDone.upd.noteRecovered)
    · exact ih h

theorem Keeps.noteFailed {type id reason : Nat} (h : Keeps s t) : Keeps s (t.noteFailed type id reason) := h.record

theorem Keeps.waltrausFails {type id reason : Nat} (h : Keeps s t) : Keeps s (t.waltrausFails type id reason) :=
  h.noteFailed.modModes

theorem Keeps.imageFails {k : Nat} (h : Keeps s t) : Keeps s (t.imageFails k) := h.modModes.modEng

theorem Keeps.bootRom (h : Keeps s t) : Keeps s t.bootRom :=
  .cond h.extend.extend (h.extend.extend.waltrausFails.onlyIf (fun _ hu => hu.extend))

theorem Keeps.bootManifest (h : Keeps s t) : Keeps s t.bootManifest := .cond h.extend h.extend.spend.waltrausFails

theorem Keeps.bootImage {slot k : Nat} (h : Keeps s t) : Keeps s (t.bootImage slot k) := by
  unfold State.bootImage
  split
  · exact h.imageFails
  · exact .cond h.extend.loadImage.modEng h.extend.waltrausFails.imageFails

theorem Keeps.bootMcode {k : Nat} (h : Keeps s t) : Keeps s (t.bootMcode k) := by
  unfold State.bootMcode
  split
  · exact h
  · exact .cond h.loadTable.extend.tableVerdict h.loadTable.extend.tableVerdict.waltrausFails

theorem Keeps.bootCal (h : Keeps s t) : Keeps s t.bootCal :=
  h.each (fun _ _ hu => .cond hu.extend hu.extend.waltrausFails)

theorem Keeps.customerFails {type k reason : Nat} (h : Keeps s t) : Keeps s (t.customerFails type k reason) :=
  h.noteFailed.set.imageFails

theorem Keeps.bootCustomer {k : Nat} (h : Keeps s t) : Keeps s (t.bootCustomer k) := by
  unfold State.bootCustomer
  split
  · exact .cond h.bootImage h
  · dsimp only
    split
    · exact .cond h.extend.loadImage.modEng h.extend.customerFails
    · exact .cond (.tableVerdict (.extend (.loadTable (.cond h.extend.loadImage.modEng h.extend.customerFails)))) <|
        .customerFails (.tableVerdict (.extend (.loadTable (.cond h.extend.loadImage.modEng h.extend.customerFails))))

theorem Keeps.verifyImages (h : Keeps s t) : Keeps s t.verifyImages :=
  .cond (h.bootManifest.each (fun _ _ hu => hu.modEng)) <|
  h.bootManifest.each (fun _ _ hu => hu.bootImage) |>.each (fun _ _ hu => hu.bootMcode) |>.bootCal.bootCustomer
    |>.bootCustomer

theorem Keeps.verifyBoot (h : Keeps s t) : Keeps s t.verifyBoot := .cond h.bootRom.verifyImages h.bootRom

theorem Keeps.rampCheck {c : Nat} (h : Keeps s t) : Keeps s (t.rampCheck c) :=
  h.each (fun _ _ hu => hu.set.set) |>.setBit

theorem Keeps.bootOwners (h : Keeps s t) : Keeps s t.bootOwners :=
  h.each (fun _ _ hu => hu.set) |>.each (fun _ _ hu => .cond (.set (.cond hu.set hu)) (.cond hu.set hu))
    |>.each (fun _ _ hu => .cond hu.set hu)

theorem Keeps.bootRestore (h : Keeps s t) : Keeps s t.bootRestore :=
  h.restore.onlyIf (fun _ hu => hu.each (fun _ _ hv => hv.set)) |>.set

theorem Keeps.bootSession (h : Keeps s t) : Keeps s t.bootSession := h.setSession.set

theorem Keeps.startRestores (h : Keeps s t) : Keeps s t.startRestores := h.set.setBit

theorem Keeps.bootDomains (h : Keeps s t) : Keeps s t.bootDomains := h.each (fun _ _ hu => hu.set)

theorem Keeps.releaseReset {compatSel : Bool} (h : Keeps s t) : Keeps s (t.releaseReset compatSel) :=
  h.modSupply.startClocks.bootDomains.modModes.upd.engRelease

theorem Keeps.execBootResetRelease {compatSel : Bool} {erases : List EraseResult} (h : Keeps s t) :
    Advances s (execBootResetRelease compatSel erases t) :=
  .cond (.next <|
     h.releaseReset.recoverEntries.verifyBoot.bootRestore.bumpWrap.runningValue.bootOwners.rampCheck.rampCheck
       |>.bootSession.startRestores.escWindow.mainsConfigure) <|
  .next (.cond h.modSupply.charger h)

theorem Keeps.releaseAll {kformat : Bool} (h : Keeps s t) : Keeps s (t.releaseAll kformat) :=
  h.each (fun _ _ hu => .cond (hu.onlyIf (fun _ hv => hv.set) |>.engRelease) hu)

theorem Keeps.reportRecovered (h : Keeps s t) : Keeps s t.reportRecovered := h.upd.each (fun _ _ hu => hu.record)

theorem Keeps.bootActivation {cause : Nat} (h : Keeps s t) : Keeps s (t.bootActivation cause) := by
  unfold State.bootActivation
  split
  · exact h.upd.setSession
  · exact .cond h.setSession.raise (.cond h.setSession.raise h)
  · exact h

theorem Keeps.execBootComplete {ms : Half} (h : Keeps s t) : Advances s (execBootComplete ms t) :=
  .cond (.next <|
     h.set.enterMode.upd.releaseAll.raise.reportRecovered.upd.raiseIf.onlyIf (fun _ hu => hu.bootActivation) |>.takeDue) <|
  .next h

theorem Keeps.activationMode (h : Keeps s t) : Keeps s t.activationMode :=
  .cond h (h.commit.snapAppend.onlyIf (fun _ hu => hu.pairStop) |>.toMaintenance)

theorem Keeps.activationAborts {reason part : Nat} (h : Keeps s t) : Keeps s (t.activationAborts reason part) := by
  refine (h.set.bump.verifyFailed.setSession.upd ?_).moduleReset
  split <;> exact id

theorem Keeps.activationOpens {versions : Bool} (h : Keeps s t) : Keeps s (t.activationOpens versions) := by
  unfold State.activationOpens
  split
  · exact h.activationAborts
  · split
    · exact h.upd
    · exact h.upd (fun w => w.jopen)

theorem Keeps.execActivationStart (h : Keeps s t) : Advances s (execActivationStart t) :=
  .cond (.next h) (.cond (.next (.cond h h.handOver)) (.next h.activationMode.activationOpens))

theorem Flash.Wf.getD {f : Flash} {o : Option Flash} (w : f.Wf) (h : OnSome Flash.Wf o) : (o.getD f).Wf := by
  cases o with
  | none => exact w
  | some g => exact h g rfl

theorem Keeps.activate (h : Keeps s t) : Keeps s t.activate := by
  refine (h.upd fun w => ?_).setAll.bump.setSession
  refine Flash.Wf.jdone (Flash.Wf.getD ?_ (Flash.Wf.swap ?_)) <;>
    exact ((w.foldl fun _ _ w => w.copyPart).foldl fun _ _ w => w.copyPart).copyTo

theorem Keeps.execActivationComplete {copyFail : Bool} (h : Keeps s t) :
    Advances s (execActivationComplete copyFail t) :=
  .cond (.next (.cond h.refuse.raise h.activate.moduleReset)) (.next h)

theorem Keeps.micaStart (h : Keeps s t) : Keeps s t.micaStart :=
  h.restore.startClocks.modeDomains.modModes.upd.engRelease.verifyBoot.extend.bootOwners.bootSession.startRestores
    |>.each (fun _ _ hu => hu.setDomain) |>.each (fun _ _ hu => .cond hu.engRelease hu) |>.rampCheck.rampCheck.modSupply
    |>.modModes.upd.setAll.raise

theorem Keeps.micaMatched {id : Nat} (h : Keeps s t) : Keeps s (t.micaMatched id) := by
  unfold State.micaMatched
  extract_lets t₁ t₂
  have h₁ : Keeps s t₁ := h.micaStops.bump.set
  have h₂ : Keeps s t₂ := h₁.raise.fire
  split
  · exact h₂.asqMatch
  · exact h₂

theorem Keeps.execMicaWakeMatch {id : Word} {caller : Byte} (h : Keeps s t) :
    Advances s (execMicaWakeMatch id caller t) :=
  .cond (.next <|
     by
       split
       · exact .cond h.micaMatched.micaStart h.micaMatched
       · exact .cond h.micaMatched.wakeCore.poll h.micaMatched.wakeCore.keepAlive) <|
  .next h

/-! ### Pages.lean -/

theorem Keeps.enableWrite {p : Nat} (h : Keeps s t) : Keeps s (t.enableWrite p) :=
  .cond h (.cond h.engineRelease (.cond h.setBit.set (.cond h.refuse h)))

theorem Keeps.beginStop {p : Nat} (h : Keeps s t) : Keeps s (t.beginStop p) := by
  unfold State.beginStop
  split
  · exact h.daliFlush
  · exact h.aoutDrive
  · exact h.pairStop
  · exact h.each (fun _ _ hu => hu.dmaStop)
  · exact h.each (fun _ _ hu => hu.dmaStop)
  · exact h

theorem Keeps.disableWrite {p : Nat} (h : Keeps s t) : Keeps s (t.disableWrite p) :=
  .cond h (.cond h.engineStop (.cond h (.cond h.refuse (.cond h.setAll (.cond h.setAll.beginStop h.setAll)))))

theorem Keeps.dropStaged {p : Nat} (h : Keeps s t) : Keeps s (t.dropStaged p) := by
  unfold State.dropStaged
  split
  · exact h.clearStaged
  · exact h.clearStagedKey
  · exact h.modNfc
  · exact h

theorem Keeps.softReset {p : Nat} (h : Keeps s t) : Keeps s (t.softReset p) :=
  .cond h.refuse (.cond h.refuse (.cond h.refuse h.pageReset.set.dropStaged))

theorem Keeps.lockWrite {p : Nat} (h : Keeps s t) : Keeps s (t.lockWrite p) := h.set

theorem Keeps.ctlWrite {who p w : Nat} (h : Keeps s t) : Keeps s (t.ctlWrite who p w) := by
  unfold State.ctlWrite
  extract_lets t₁ t₂ t₃
  have h₁ : Keeps s t₁ := h.onlyIf (fun _ hu => hu.softReset)
  have h₂ : Keeps s t₂ := .cond (h₁.onlyIf (fun _ hu => hu.enableWrite)) h₁.disableWrite
  have h₃ : Keeps s t₃ := h₂.onlyIf (fun _ hu => hu.lockWrite)
  exact h₃.onlyIf (fun _ hu => .cond hu.setBit.modEng hu.setBit)

theorem Keeps.execPageEnable {who : Requester} {page : Byte} (h : Keeps s t) : Advances s (execPageEnable who page t) :=
  h.writeCmd (fun _ hu => hu.enableWrite)

theorem Keeps.execPageDisable {who : Requester} {page : Byte} (h : Keeps s t) :
    Advances s (execPageDisable who page t) := h.writeCmd (fun _ hu => hu.disableWrite)

theorem Keeps.execPageSoftrst {who : Requester} {page : Byte} (h : Keeps s t) :
    Advances s (execPageSoftrst who page t) := h.writeCmd (fun _ hu => hu.softReset)

theorem Keeps.execPageLock {who : Requester} {page : Byte} (h : Keeps s t) : Advances s (execPageLock who page t) :=
  h.writeCmd (fun _ hu => hu.lockWrite)

theorem Keeps.schedStart (h : Keeps s t) : Keeps s t.schedStart := .cond h.upd.upd.set h.upd

theorem Keeps.meshStart (h : Keeps s t) : Keeps s t.meshStart := .cond h.setAll.showRank h

theorem Keeps.started {p : Nat} (h : Keeps s t) : Keeps s (t.started p) := by
  unfold State.started
  dsimp only
  split
  · exact h.takeForce.calStart
  · exact h.takeForce.calStart.followMedia
  · exact h.takeForce.set.followMedia
  · exact h.takeForce.schedStart
  · exact h.takeForce.meshStart
  · exact .cond h.takeForce.drawSalt.rebuildIndex h.takeForce
  · exact h.takeForce.pairStart
  · exact h.takeForce.aoutDrive.startLamp
  · exact h.takeForce.startLamp
  · exact h.takeForce.startLamp
  · exact h.takeForce

theorem Keeps.execPageCheckComplete {page : Byte} (h : Keeps s t) : Advances s (execPageCheckComplete page t) :=
  .next (.cond h (by split; exacts [h.setAll.refuse, h.setAll.started]))

theorem Keeps.stopped {p : Nat} (h : Keeps s t) : Keeps s (t.stopped p) := by
  unfold State.stopped
  split
  · exact h.chainOff.setAll
  · exact h.chainOff.setAll.followMedia
  · exact h.quiet.set.followMedia
  · exact h.each (fun _ _ hu => hu.quiet) |>.setAll.upd
  · exact h

theorem Keeps.execPageStopComplete {page : Byte} (h : Keeps s t) : Advances s (execPageStopComplete page t) :=
  .next (.cond h.stopped.set h)

theorem Keeps.assign {w : Nat} (h : Keeps s t) : Keeps s (t.assign w) :=
  .cond h.refuse (.cond h.refuse (.cond h.refuse h.upd.set))

theorem Keeps.execOwnerAssign {who : Requester} {value : Word} (h : Keeps s t) :
    Advances s (execOwnerAssign who value t) := h.writeCmd (fun _ hu => hu.assign)

theorem Keeps.commitSite (h : Keeps s t) : Keeps s t.commitSite := by
  unfold State.commitSite
  dsimp only
  split
  · exact h.refuse
  · split
    · exact h.refuse
    · exact h.upd.setAll

theorem Keeps.execSiteCommit {who : Requester} (h : Keeps s t) : Advances s (execSiteCommit who t) :=
  h.writeCmd (fun _ hu => hu.commitSite)

/-! ### StrataCmd.lean -/

theorem Keeps.strataWrite (h : Keeps s t) : Keeps s t.strataWrite := .cond h.refuse (.cond h.refuse h.submit)

theorem Keeps.strataRead (h : Keeps s t) : Keeps s t.strataRead := .cond h.refuse h.sramStore.setAll.raise

theorem Keeps.strataChallenge (h : Keeps s t) : Keeps s t.strataChallenge :=
  .cond h.refuse (.cond h.set h.upd.sramStore.spend.drbg)

theorem Keeps.execDrbgReseed (h : Keeps s t) : Advances s (execDrbgReseed t) :=
  .cond (.next (.cond h.upd.set.strataChallenge h.upd)) (.next h)

theorem Keeps.cleared {sector signer : Nat} (h : Keeps s t) : Keeps s (t.cleared sector signer) :=
  h.upd.setAll.bump.bumpWrap

theorem Keeps.strataClear (h : Keeps s t) : Keeps s t.strataClear :=
  .cond h.refuse (by split; exacts [h.refuse, .cond h.upd.strataClose.cleared.set.raise h.upd.refuse])

theorem Keeps.strataCmd {op : Nat} (h : Keeps s t) : Keeps s (t.strataCmd op) :=
  .cond h.refuse <|
  by split; exacts [h.strataWrite, h.strataRead, h.strataChallenge, h.strataClear, h.strataClose, h.refuse]

theorem Keeps.execStrataWrite {who : Requester} (h : Keeps s t) : Advances s (execStrataWrite who t) :=
  h.command (fun _ hu => hu.strataCmd)

theorem Keeps.execStrataRead {who : Requester} (h : Keeps s t) : Advances s (execStrataRead who t) :=
  h.command (fun _ hu => hu.strataCmd)

theorem Keeps.execStrataChallenge {who : Requester} (h : Keeps s t) : Advances s (execStrataChallenge who t) :=
  h.command (fun _ hu => hu.strataCmd)

theorem Keeps.execStrataClear {who : Requester} (h : Keeps s t) : Advances s (execStrataClear who t) :=
  h.command (fun _ hu => hu.strataCmd)

theorem Keeps.execStrataFlush {who : Requester} (h : Keeps s t) : Advances s (execStrataFlush who t) :=
  h.command (fun _ hu => hu.strataCmd)

theorem Keeps.execMboxStrataRecord {e : Fin 12} {tag : Half} {type blen : Byte} {addr : Word} (h : Keeps s t) :
    Advances s (execMboxStrataRecord e tag type blen addr t) := .cond (.next h.answer) (.next h.submit)

theorem Keeps.execMboxStrataRead {e11 : Bool} {tag : Half} {rseq rlen buf : Word} (h : Keeps s t) :
    Advances s (execMboxStrataRead e11 tag rseq rlen buf t) := .cond (.next h.answer) (.next h.sramStore.answer)

theorem Keeps.execStrataCloseTimeout (h : Keeps s t) : Advances s (execStrataCloseTimeout t) := by
  unfold Machine.execStrataCloseTimeout
  split
  · exact .next h
  · exact .next (.cond h.strataClose h)

theorem Keeps.eraseAll {l : List (Nat × Bool)} {rs : List EraseResult} (h : Keeps s t) : Keeps s (t.eraseAll l rs) := by
  induction l generalizing t rs with
  | nil => exact h
  | cons c l ih => exact ih (h.upd fun w => w.jopen).eraseDone

theorem Keeps.clearDone {rs : List EraseResult} (h : Keeps s t) : Keeps s (t.clearDone rs) :=
  h.eraseAll.upd.set.raise.strataDrain

theorem Keeps.execStrataClearComplete {results : List EraseResult} (h : Keeps s t) :
    Advances s (execStrataClearComplete results t) := .next (.cond h.clearDone h)

theorem Keeps.resume (h : Keeps s t) : Keeps s t.resume := by
  unfold State.resume
  split
  · exact h.upd.setAll.setBit
  · exact h.upd.eraseAll.set.cleared

theorem Keeps.execStrataRestartWalk (h : Keeps s t) : Advances s (execStrataRestartWalk t) :=
  .cond (.next (.cond h.strataClose.resume.upd.clearDone h.strataClose.resume.upd.strataDrain)) (.next h)

/-! ### Bus.lean -/

theorem Keeps.clearW1c {p off w : Nat} (h : Keeps s t) : Keeps s (t.clearW1c p off w) := h.each (fun _ _ hu => hu.set)

theorem Keeps.serveWrite {p off w : Nat} (h : Keeps s t) : Keeps s (t.serveWrite p off w) :=
  .cond (h.each (fun _ _ hu => hu.raise)) <|
  .cond h.set (.cond h (h.each (fun _ _ hu => .cond hu.set (.cond hu.set hu))))

theorem Keeps.plainWrite {who p off w : Nat} (h : Keeps s t) : Keeps s (t.plainWrite who p off w) :=
  .cond h.refuse <|
  .cond h.refuse <|
  .cond h.refuse <|
  .cond h.refuse <|
  h.setAll.onlyIf (fun _ hu => hu.clearW1c) |>.onlyIf (fun _ hu => hu.refuse) |>.onlyIf (fun _ hu => hu.mirror)

theorem Keeps.writeIf {ok : Bool} {reason who p off w : Nat} (h : Keeps s t) :
    Keeps s (t.writeIf ok reason who p off w) := .cond h.plainWrite h.refuse

theorem Keeps.badOp {p off : Nat} (h : Keeps s t) : Keeps s (t.badOp p off) := h.ready (fun _ hu => hu.refuse)

theorem Keeps.modeReqWrite {who : Requester} {w : Nat} (h : Keeps s t) : Keeps s (t.modeReqWrite who w) := by
  unfold State.modeReqWrite
  dsimp only
  split
  · exact h.execModeReqHold.run
  · exact h.execModeReqCommission.run
  · exact h.execModeReqService.run
  · exact h.execModeReqMaintenance.run
  · exact h.modeReq (fun _ hu => hu.refuse)

theorem Keeps.domcmdWrite {who : Requester} {w : Nat} (h : Keeps s t) : Keeps s (t.domcmdWrite who w) := by
  unfold State.domcmdWrite
  dsimp only
  split
  · exact h.execDomcmdOff.run
  · exact h.execDomcmdRetention.run
  · exact h.execDomcmdOn.run
  · exact h.execDomcmdAuto.run

theorem Keeps.sysWrite1 {who : Requester} {p off w : Nat} (h : Keeps s t) :
    OnSome (Keeps s) (t.sysWrite1 who p off w) := by
  unfold State.sysWrite1
  split
  · exact .some h.modeReqWrite
  · exact .some h.assign
  · exact .some (h.onlyIf (fun _ hu => hu.commitSite))
  · exact .some h.domcmdWrite
  · exact .some h.hostreqWrite
  · exact .some h.plainWrite.v3outFollow
  · exact .some h.execClkHostreqWrite.run
  · exact .cond .none (.some h)
  · exact .cond .none (.some h)
  · exact .some (h.onlyIf (fun _ hu => hu.execFaultDone.run))
  · exact .some (h.onlyIf (fun _ hu => hu.execRetCommit.run))
  · exact .none

theorem Keeps.dbgCmd {k w : Nat} (h : Keeps s t) : Keeps s (t.dbgCmd k w) :=
  .cond h.debugHalt (.cond h.debugResume (.cond h (.cond h.refuse h.upd)))

theorem Keeps.dbgData {k w : Nat} (h : Keeps s t) : Keeps s (t.dbgData k w) := .cond h.modEng h.refuse

theorem Keeps.cpuWrite {who : Requester} {p off w : Nat} (h : Keeps s t) : OnSome (Keeps s) (t.cpuWrite who p off w) :=
  .cond (by split; exacts [.some h.dbgCmd, .some h.dbgData, .none]) <|
  by
    split
    · exact .some h.execMcodeDataAccess.run
    · split
      · exact .some h.execMcodeOpen.run
      · exact .some h.execMcodeCommit.run
      · exact .some h.badOp
    · exact .cond (.some (h.ready (fun _ hu => hu.mcodeEntry))) .none
    · exact .some (h.onlyIf (fun _ hu => hu.collectPop))
    · exact .some h.collectRespond
    · exact .none

theorem Keeps.cntWrite {i w : Nat} (h : Keeps s t) : Keeps s (t.cntWrite i w) := .cond h.refuse h.set.phaseZero

theorem Keeps.eventWrite {who : Requester} {p off w : Nat} (h : Keeps s t) :
    OnSome (Keeps s) (t.eventWrite who p off w) :=
  .cond (.some h.selectorWrite) <|
  .cond (.cond (.some h.tapWrite) (.cond (.some (h.onlyIf (fun _ hu => hu.execHostSignal.run))) .none)) <|
  .cond (.cond (.some (h.onlyIf (fun _ hu => hu.timerGo))) <|
     .cond (.some h.timerReset) <|
     .cond .none (.cond (.some h.timCfgWrite) (.cond (.some h.cntWrite) (.cond (.some h.cmpWrite) .none)))) <|
  .none

theorem Keeps.alarmWrite {n off w : Nat} (h : Keeps s t) : Keeps s (t.alarmWrite n off w) :=
  .cond h.refuse (.cond h.refuse h.putWord)

theorem Keeps.rtcWrite {who : Requester} {off w : Nat} (h : Keeps s t) : OnSome (Keeps s) (t.rtcWrite who off w) :=
  .cond (.cond (.some h.refuse) .none) <|
  by
    split
    · split
      · exact .some h.execRtcCommitCount.run
      · exact .some h.execRtcCommitCalendar.run
      · exact .some h.refuse
    · exact .some h.execRtcShift.run
    · exact .some h.execChgWrite.run
    · exact .some h.alarmWrite
    · exact .some h.alarmWrite
    · exact .some h.alarmCtl
    · exact .some h.alarmWrite
    · exact .some h.alarmWrite
    · exact .some h.alarmCtl
    · exact .none

theorem Keeps.dmaWrite {who : Requester} {p off w : Nat} (h : Keeps s t) : OnSome (Keeps s) (t.dmaWrite who p off w) :=
  .cond (.cond (.some (h.onlyIf (fun _ hu => hu.dmaClear))) .none) <|
  by
    dsimp only
    split
    · exact .some h.writeIf
    · exact .some h.writeIf
    · exact .some (h.ready (fun _ hu => hu.dmaCtl))
    · exact .some h.writeIf

theorem Keeps.sfWrite {who k off w : Nat} (h : Keeps s t) : Keeps s (t.sfWrite who k off w) :=
  .cond h.refuse (h.plainWrite.onlyIf (fun _ hu => hu.restartCells))

theorem Keeps.schedWrite {who : Requester} {off w : Nat} (h : Keeps s t) : OnSome (Keeps s) (t.schedWrite who off w) :=
  .cond (.some h.writeIf) <|
  .cond (.some h.sfWrite) <|
  .cond (by
       dsimp only
       split
       · exact .some h.execCellcmdAdd.run
       · exact .some h.execCellcmdDel.run
       · exact .some h.execCellcmdRead.run
       · exact .some h.execCellcmdDeleteSf.run
       · exact .some h.badOp) <|
  .none

theorem Keeps.keyctlWrite {w : Nat} (h : Keeps s t) : Keeps s (t.keyctlWrite w) :=
  .cond h.refuse (.cond h.refuse (.cond h.refuse h.setKey))

theorem Keeps.keyWrite {who : Requester} {off w : Nat} (h : Keeps s t) : OnSome (Keeps s) (t.keyWrite who off w) :=
  .cond (.some h.upd) <|
  by
    split
    · exact .some h.keyctlWrite
    · split
      · exact .some h.execLinksecKeyLoad.run
      · exact .some h.execLinksecKeyErase.run
      · exact .some h.clearStaged.badOp
    · exact .some h.writeIf
    · exact .some h.writeIf
    · exact .none

theorem Keeps.assocWrite {who : Requester} {w : Nat} (h : Keeps s t) : Keeps s (t.assocWrite who w) := by
  unfold State.assocWrite
  dsimp only
  split
  · exact h.execAssocLookup.run
  · exact h.execAssocPreload.run
  · exact h.execAssocApprove.run
  · exact h.execAssocDeny.run
  · exact h.execAssocDelete.run
  · exact h.execAssocNextPending.run
  · exact h.execAssocRehash.run
  · exact h.badOp

theorem Keeps.meshWrite {who : Requester} {w : Nat} (h : Keeps s t) : Keeps s (t.meshWrite who w) := by
  unfold State.meshWrite
  split
  · exact h.execMeshScan.run
  · exact h.execMeshJoin.run
  · exact h.execMeshJoinBest.run
  · exact h.execMeshAbort.run
  · exact h.badOp

theorem Keeps.netWrite {who : Requester} {p off w : Nat} (h : Keeps s t) : OnSome (Keeps s) (t.netWrite who p off w) := by
  unfold State.netWrite
  dsimp only
  split
  · exact .some h.execRfcalRun.run
  · exact .some h.writeIf
  · exact .some h.writeIf
  · exact .some (.cond h.execTonemapRegenAll.run (.cond h.execTonemapRegenOne.run h))
  · exact h.schedWrite
  · exact h.keyWrite
  · exact .some h.meshWrite
  · exact .some h.assocWrite
  · split
    · exact .some h.execMsgSend.run
    · exact .some h.execMsgCancel.run
    · exact .some h.badOp
  · exact .some h.writeIf
  · exact .some h.writeIf
  · exact .some h.execRxtailWrite.run
  · split
    · exact .some h.execPairHandover.run
    · exact .some h.execPairResync.run
    · exact .some h.badOp
  · exact .none

theorem Keeps.garnetWrite {who : Requester} {p off w : Nat} (h : Keeps s t) :
    OnSome (Keeps s) (t.garnetWrite who p off w) := by
  unfold State.garnetWrite
  split
  · split
    · exact .some h.execCipherKeyLoad.run
    · exact .some h.execCipherKeyErase.run
    · exact .some h.clearStagedKey.badOp
  · exact .some (h.onlyIf (fun _ hu => hu.execCipherGo.run))
  · exact .cond (.some h.stageKey) (.cond (.some h.writeIf) .none)
  · split
    · exact .some h.execHashInit.run
    · exact .some h.execHashFinal.run
    · exact .some h.execHashExtend7.run
    · exact .some h.badOp
  · exact .some h.execHashDataWrite.run
  · exact .some (h.ready (fun _ hu => hu.pkeCommand))
  · exact .some h.measureSelect
  · exact .none

theorem Keeps.storageWrite {who : Requester} {p off w : Nat} (h : Keeps s t) :
    OnSome (Keeps s) (t.storageWrite who p off w) := by
  unfold State.storageWrite
  split
  · exact .some (h.ready (fun _ hu => hu.updateCmd))
  · exact .some h.storeCommand
  · exact .some h.writeIf
  · exact .some h.strataCmd
  · exact .none

theorem Keeps.aoutCfg {who w : Nat} (h : Keeps s t) : Keeps s (t.aoutCfg who w) := h.writeIf

theorem Keeps.lampWrite {who : Requester} {p off w : Nat} (h : Keeps s t) :
    OnSome (Keeps s) (t.lampWrite who p off w) := by
  unfold State.lampWrite
  split
  · exact .some h.buscfgWrite
  · exact .some (h.onlyIf (fun _ hu => hu.execDaliGo.run))
  · exact .cond (.some h.gearClear) .none
  · exact .some h.aoutCfg
  · exact .some h.vsetWrite
  · exact .cond (.some h.relayCommand) (.some h.refuse)
  · exact .cond (.some (h.ready (fun _ hu => hu.clrEnergy))) (.some h.badOp)
  · exact .none

theorem Keeps.tagPageWrite {who : Requester} {p off w : Nat} (h : Keeps s t) :
    OnSome (Keeps s) (t.tagPageWrite who p off w) := by
  unfold State.tagPageWrite
  dsimp only
  split
  · exact .some (h.ready (fun _ hu => hu.rdCmd))
  · split
    · exact .some h.execTagOwnerRead.run
    · exact .some h.execTagOwnerWrite.run
    · exact .some h.badOp
  · split
    · exact .some h.execTagLoadPwd.run
    · exact .some h.execTagLoadKey.run
    · exact .some h.execTagClrFail.run
    · exact .some h.modNfc.badOp
  · exact .cond (.some h.modNfc) .none
  · exact .none

theorem Keeps.special {who : Requester} {p off w : Nat} (h : Keeps s t) : OnSome (Keeps s) (t.special who p off w) :=
  .cond h.sysWrite1 <|
  .cond h.cpuWrite <|
  .cond h.eventWrite <|
  .cond h.rtcWrite <|
  .cond h.dmaWrite (.cond h.netWrite (.cond h.garnetWrite (.cond h.storageWrite (.cond h.lampWrite h.tagPageWrite))))

theorem Keeps.irqClear {p w : Nat} (h : Keeps s t) : Keeps s (t.irqClear p w) :=
  h.each (fun _ _ hu => .cond hu.clearOvr hu.set)

theorem Keeps.headerWrite {who p off w : Nat} (h : Keeps s t) : Keeps s (t.headerWrite who p off w) := by
  unfold State.headerWrite
  split
  · exact h.ctlWrite
  · exact h.onlyIf (fun _ hu => hu.irqClear)
  · exact h.set
  · exact h.onlyIf (fun _ hu => hu.set)
  · exact h

theorem Keeps.window {who p off : Nat} {wr : Bool} (h : Keeps s t) : Keeps s (t.window who p off wr).1 :=
  .condFst h <|
  .condFst h.refuseAccess <|
  .condFst h.refuseAccess <|
  .condFst h.wakeFor.domainOff <|
  .condFst h.wakeFor.refuseAccess <|
  .condFst h.wakeFor.refuseAccess (.condFst h.wakeFor.wakeBank h.wakeFor.wakeBank.bankOff)

theorem Keeps.regWrite {who : Requester} {p off w : Nat} (h : Keeps s t) : Keeps s (t.regWrite who p off w) :=
  .cond (by dsimp only; split; exacts [h.window.sramStore, h.window]) <|
  .cond h.guard <|
  .cond h.guard.refuseAccess <|
  .cond h.guard.refuse <|
  .cond h.guard.serveWrite <|
  .cond h.guard.refuse <|
  .cond (h.guard.onlyIf (fun _ hu => hu.serveWrite) |>.headerWrite) <|
  by
    split
    next r1 e1 =>
      exact (h.guard.onlyIf (fun _ hu => hu.serveWrite) |>.special) _ e1
    · exact h.guard.onlyIf (fun _ hu => hu.serveWrite) |>.plainWrite

theorem Keeps.clearRc {p off : Nat} (h : Keeps s t) : Keeps s (t.clearRc p off) := h.setAll

theorem Keeps.timeRead {lat off : Nat} (h : Keeps s t) : Keeps s (t.timeRead lat off).1 := .condFst h.upd h

theorem Keeps.rtcRead {lat off : Nat} (h : Keeps s t) : Keeps s (t.rtcRead lat off).1 := by
  unfold State.rtcRead
  split <;> exact h.upd

theorem Keeps.specialRead {lat p off : Nat} (h : Keeps s t) : OnSome (Keeps s ·.1) (t.specialRead lat p off) := by
  unfold State.specialRead
  split
  · exact .some h.clearRc.upd
  · exact .some h.mcodeRead
  · exact .some h.timeRead
  · exact .some h.timeRead
  · exact .some h.donePop
  · exact .some h.daliPop
  · exact .some h.snapRead
  · exact .some h.energyRead
  · exact .some h.energyHiRead
  · exact .some h.wrcntRead
  · exact .cond (.some h.rtcRead) <|
      .cond (.some h.meterTake) (.cond (.some h.capRead) (.cond (.some (.condFst h h.refuse)) .none))

theorem Keeps.regRead {who lat p off : Nat} (h : Keeps s t) : Keeps s (t.regRead who lat p off).1 := by
  unfold State.regRead
  refine .condFst ?_ (.condFst h.guard (.condFst h.guard.refuseAccess (.condFst h.guard ?_)))
  · dsimp only
    split <;> exact h.window
  · split
    · next r e => exact h.guard.specialRead r e
    · exact h.guard.clearRc

theorem Keeps.execRegisterWrite {who : Requester} {page off : Byte} {value : Word} (h : Keeps s t) :
    Advances s (execRegisterWrite who page off value t) := .next h.regWrite

/-! ### FlintMem.lean -/

theorem Keeps.bankReady {k sys : Nat} {wr : Bool} (h : Keeps s t) : Keeps s (t.bankReady k sys wr).1 :=
  .condFst h.wakeBank h.wakeBank.bankOff

theorem Keeps.sramRead {k sys : Nat} (h : Keeps s t) : Keeps s (t.sramRead k sys).1 := h.bankReady

theorem Keeps.sramWrite {k sys : Nat} {v : Byte} (h : Keeps s t) : Keeps s (t.sramWrite k sys v) :=
  .cond h.bankReady.sramStore h.bankReady

theorem Keeps.shaleRead {k : Requester} {a : Nat} (h : Keeps s t) : Keeps s (t.shaleRead k a).1 := by
  unfold State.shaleRead
  dsimp only
  split
  · exact h
  · exact h.regRead.upd

theorem Keeps.shaleWrite {k : Requester} {a : Nat} {v : Byte} (h : Keeps s t) : Keeps s (t.shaleWrite k a v) :=
  .cond h.modEng.regWrite h.modEng

theorem Keeps.windowRead {k : Requester} {sys : Nat} (h : Keeps s t) : OnOk (Keeps s ·.1) (t.windowRead k sys) :=
  .cond (.cond (.ok h) .error) (.cond (.ok h.sramRead) (.cond (.ok h.shaleRead) .error))

theorem Keeps.windowWrite {k : Requester} {sys : Nat} {v : Byte} (h : Keeps s t) :
    OnOk (Keeps s) (t.windowWrite k sys v) := .cond (.ok h.sramWrite) (.cond (.ok h.shaleWrite) .error)

theorem Keeps.mailWrite {k a : Nat} {v : Byte} (h : Keeps s t) : Keeps s (t.mailWrite k a v) :=
  .cond h.mailPop (.cond h.modEng (.cond h.mailSend h))

theorem Keeps.portWrite {k a : Nat} {v : Byte} (h : Keeps s t) : Keeps s (t.portWrite k a v) := by
  unfold State.portWrite
  split
  · exact h.each (fun _ _ hu => hu.onlyIf (fun _ hv => hv.takeInput))
  · exact h.modEng
  · exact h.each (fun _ _ hu => hu.onlyIf (fun _ hv => hv.clearOvr))
  · exact h.fire
  · exact h

theorem Keeps.timerLatched {k i r b : Nat} (h : Keeps s t) : Keeps s (t.timerLatched k i r b).1 :=
  .condFst (h.modEng.onlyIf (fun _ hu => hu.set)) (by split <;> exact h)

theorem Keeps.timerRead {k a : Nat} (h : Keeps s t) : Keeps s (t.timerRead k a).1 :=
  .condFst h (.condFst h.refuseAccess (.condFst h.timerLatched (.condFst h h)))

theorem Keeps.timerWrite {k a : Nat} {v : Byte} (h : Keeps s t) : Keeps s (t.timerWrite k a v) :=
  .cond h (.cond h.refuseAccess (.cond h (.cond h.modEng.cmpWrite h.modEng)))

theorem Keeps.postRead {k a : Nat} (h : Keeps s t) : Keeps s (t.postRead k a).1 :=
  .condFst h (.condFst (by split; exacts [h.onlyIf (fun _ hu => hu.modEng), h.spend]) h)

theorem Keeps.postWrite {k a : Nat} {v : Byte} (h : Keeps s t) : Keeps s (t.postWrite k a v) :=
  .cond h.modEng (.cond h.modEng (.cond (h.modEng.onlyIf (fun _ hu => hu.collectPost)) h))

theorem Keeps.ioRead {k a : Nat} (h : Keeps s t) : Keeps s (t.ioRead k a).1 := by
  unfold State.ioRead
  extract_lets e
  generalize (a - 0xF000) / 256 = i
  split
  · exact .condFst h (.condFst h h)
  · exact h
  · exact h
  · exact h.timerRead
  · exact h.postRead
  · exact h

theorem Keeps.winWrite {k i : Nat} {v : Byte} (h : Keeps s t) : Keeps s (t.winWrite k i v) := h.modEng

theorem Keeps.ioWrite {k a : Nat} {v : Byte} (h : Keeps s t) : Keeps s (t.ioWrite k a v) := by
  unfold State.ioWrite
  split
  · exact .cond h.winWrite h
  · exact h.mailWrite
  · exact h.portWrite
  · exact h.timerWrite
  · exact h.postWrite
  · exact h

theorem Keeps.byteRead {k : Fin 12} {a : Nat} (h : Keeps s t) : OnOk (Keeps s ·.1) (t.byteRead k a) :=
  .cond (.ok h) (.cond h.windowRead (.cond (.ok h.sramRead) (.ok h.ioRead)))

theorem Keeps.byteWrite {k : Fin 12} {a : Nat} {v : Byte} (h : Keeps s t) : OnOk (Keeps s) (t.byteWrite k a v) :=
  .cond (.ok h.modEng) (.cond h.windowWrite (.cond (.ok h.sramWrite) (.ok h.ioWrite)))

theorem Keeps.wordRead {k : Fin 12} {a : Half} (h : Keeps s t) : OnOk (Keeps s ·.1) (t.wordRead k a) := by
  unfold State.wordRead
  split
  · exact .error
  next r1 e1 =>
    split
    · exact .error
    next r2 e2 =>
      exact .ok (((h.byteRead _ e1).byteRead) _ e2)

theorem Keeps.wordWrite {k : Fin 12} {a v : Half} (h : Keeps s t) : OnOk (Keeps s) (t.wordWrite k a v) := by
  unfold State.wordWrite
  split
  · exact .error
  next r1 e1 =>
    exact (h.byteWrite _ e1).byteWrite

/-! ### Custom.lean -/

/-! A customer instruction runs on a state with a shadow set of registers (`MicroRun`): the state keeps what `s` has. -/

theorem Keeps.free {m : MicroRun} (h : Keeps s m.s) : Keeps s m.free.1.s := h.spend

theorem Keeps.src8 {m : MicroRun} {sel imm : Nat} (h : Keeps s m.s) : OnSome (Keeps s ·.1.s) (m.src8 sel imm) := by
  refine .cond (.some h) ?_
  split
  · exact .cond .none (.cond (.some h) (.some h.free))
  all_goals exact .some h

theorem Keeps.src16 {m : MicroRun} {sel imm : Nat} (h : Keeps s m.s) : OnSome (Keeps s ·.1.s) (m.src16 sel imm) := by
  refine .cond (.some h) (.cond (.some h) ?_)
  split
  · refine .cond .none ?_
    split
    · exact .some h
    · exact .some h
    · exact .some h.free
  all_goals exact .some h

theorem Keeps.dst8 {m : MicroRun} {sel : Nat} {v : Byte} (h : Keeps s m.s) : OnSome (Keeps s ·.s) (m.dst8 sel v) := by
  refine .cond (.some h) ?_
  split
  · refine .cond .none ?_
    split
    · exact .some h
    · exact .some h.free
    · exact .some h.free
  all_goals exact .some h

theorem Keeps.dst16 {m : MicroRun} {sel : Nat} {v : Half} (h : Keeps s m.s) : OnSome (Keeps s ·.s) (m.dst16 sel v) := by
  refine .cond (.some h) (.cond (.some h) ?_)
  split
  · refine .cond .none ?_
    split
    · exact .some h
    · exact .some h
    · exact .some h.free
  all_goals exact .some h

theorem Keeps.load {m : MicroRun} {k : Fin 12} {a : Half} (h : Keeps s m.s) : OnOk (Keeps s ·.1.s) (m.load k a) := by
  unfold MicroRun.load
  split
  · exact .ok h
  · split
    · exact .error
    · next r e => exact .ok (h.byteRead r e)

theorem Keeps.microExec {m : MicroRun} {k : Fin 12} {w pc : Nat} (h : Keeps s m.s) : OnOk (Keeps s ·.s) (m.exec k w pc) := by
  unfold MicroRun.exec
  extract_lets bad lift own far
  have hlift : ∀ o, OnSome (Keeps s ·.s) o → OnOk (Keeps s ·.s) (lift o) := by
    intro o ho
    cases o with
    | none => exact .error
    | some x => exact .ok (ho x rfl)
  clear_value lift
  split
  · split
    · exact .error
    · next a ea =>
      split
      · exact .error
      · next b eb => exact hlift _ (((h.src8 a ea).src8 b eb).dst8.map fun _ hx => hx)
  · split
    · exact .error
    · next a ea =>
      split
      · exact .error
      · next b eb => exact hlift _ (((h.src16 a ea).src16 b eb).dst16.map fun _ hx => hx)
  · split
    · exact .error
    · next a ea =>
      refine .cond .error ?_
      split
      · exact .error
      · next r er => exact hlift _ (((h.src16 a ea).load r er).dst8.map fun _ hx => hx)
  · split
    · exact .error
    · next a ea =>
      split
      · exact .error
      · next b eb => exact .cond .error (.cond .error (.ok ((h.src16 a ea).src8 b eb)))
  · exact .ok h

theorem Keeps.microLoop {m : MicroRun} {k : Fin 12} {pc upc fuel : Nat} (h : Keeps s m.s) :
    OnOk (Keeps s ·.s) (m.loop k pc upc fuel) := by
  induction fuel generalizing m upc with
  | zero => exact .error
  | succ fuel ih =>
    refine .cond (ih h) ?_
    have hx : OnOk (Keeps s ·.s) (bif m.h.u.pred (uPred ((m.s.eng k).microWord upc)) then
      m.exec k ((m.s.eng k).microWord upc) pc else .ok m) := .cond h.microExec (.ok h)
    split
    · exact .error
    · next r e => exact .cond (.ok (hx r e)) (ih (hx r e))

theorem Keeps.drainBuffer {k : Fin 12} {l : List (Nat × Byte)} (h : Keeps s t) : Keeps s (t.drainBuffer k l) := by
  induction l generalizing t with
  | nil => exact h
  | cons c l ih =>
    unfold State.drainBuffer
    split
    · next u e => exact ih (h.byteWrite u e)
    · exact ih h

theorem Keeps.custom {k : Fin 12} {pc : Nat} {n : BitVec 4} {x : BitVec 5} {ext : Half} (h : Keeps s t) :
    OnOk (Keeps s) (t.custom k pc n x ext) := by
  unfold State.custom
  dsimp only
  split
  · exact .error
  · next m e => exact .ok (Keeps.microLoop (m := ⟨t, _⟩) h m e).modEng.drainBuffer

/-! ### Flint.lean -/

theorem Keeps.formatSwitch {k : Nat} (h : Keeps s t) : Keeps s (t.formatSwitch k) := .cond h.modEng.setBit h

theorem Keeps.jumpTo {k : Nat} {a : Half} (h : Keeps s t) : Keeps s (t.jumpTo k a) := h.modEng.formatSwitch

theorem Keeps.waitOp {k : Nat} (h : Keeps s t) : Keeps s (t.waitOp k) := .cond h h.modEng

theorem Keeps.loadByte {k : Fin 12} {d : BitVec 3} {ea : Ea} (h : Keeps s t) : OnOk (Keeps s) (t.loadByte k d ea) := by
  unfold State.loadByte
  dsimp only
  split
  · exact .error
  next r1 e1 =>
    exact .ok ((h.byteRead _ e1).modEng)

theorem Keeps.loadWord {k : Fin 12} {d : BitVec 2} {ea : Ea} (h : Keeps s t) : OnOk (Keeps s) (t.loadWord k d ea) := by
  unfold State.loadWord
  dsimp only
  split
  · exact .error
  next r1 e1 =>
    exact .ok ((h.wordRead _ e1).modEng)

theorem Keeps.storeByte {k : Fin 12} {d : BitVec 3} {ea : Ea} (h : Keeps s t) : OnOk (Keeps s) (t.storeByte k d ea) :=
  h.setEng.byteWrite

theorem Keeps.storeWord {k : Fin 12} {d : BitVec 2} {ea : Ea} (h : Keeps s t) : OnOk (Keeps s) (t.storeWord k d ea) :=
  h.setEng.wordWrite

theorem Keeps.flintOp {k : Fin 12} {pc : Nat} {op : FOp} (h : Keeps s t) : OnOk (Keeps s) (t.flintOp k pc op) := by
  unfold State.flintOp
  dsimp only
  split
  · exact h.loadByte
  · exact h.storeByte
  · exact h.loadWord
  · exact h.storeWord
  · exact .ok h.jumpTo
  · split
    · exact .error
    · exact .ok h.setEng.jumpTo
  · split
    · exact .error
    · exact .ok h.setEng.jumpTo
  · exact .ok h.waitOp
  · exact .cond (.ok h.debugHalt) .error
  · exact h.custom
  · split
    · exact .error
    · exact .ok h.setEng

theorem Keeps.flintTry {k : Fin 12} {cond : BitVec 3} {op : FOp} (h : Keeps s t) :
    OnOk (Keeps s) (t.flintTry k cond op) := by
  unfold State.flintTry
  dsimp only
  split
  · exact .error
  · exact .cond .error (.cond (.ok h.setEng) h.setEng.flintOp)

theorem Keeps.stepBegin {k : Nat} (h : Keeps s t) : Keeps s (t.stepBegin k) := .cond h.modEng h

theorem Keeps.stepEnd {k : Nat} (h : Keeps s t) : Keeps s (t.stepEnd k) := .cond h.upd.debugHalt h

theorem Keeps.flintFault {k word : Nat} {x : Flaw} (h : Keeps s t) : Keeps s (t.flintFault k word x) :=
  .cond h.spend.capFault h.capFault

theorem Keeps.flintRun {k word : Nat} {f : State → Except Flaw State} (h : Keeps s t) (hf : ∀ u, Keeps s u → OnOk (Keeps s) (f u)) :
    Keeps s (t.flintRun k word f) := by
  refine .cond (.stepEnd ?_) h
  split
  · next u e => exact hf _ h.stepBegin u e
  · exact h.stepBegin.flintFault

theorem Keeps.flint {k : Fin 12} {cond : BitVec 3} {op : FOp} (h : Keeps s t) : Keeps s (t.flint k cond op) :=
  h.flintRun (fun _ hu => hu.flintTry)

theorem Keeps.flintBad {k : Fin 12} {word : Nat} (h : Keeps s t) : Keeps s (t.flintBad k word) :=
  h.flintRun (fun _ _ => by dsimp only; split <;> exact .error)

theorem Keeps.flintAtPc {k : Fin 12} (h : Keeps s t) : Keeps s (t.flintAtPc k) := by
  unfold State.flintAtPc
  dsimp only
  split
  · exact h.flint
  · exact h.flintBad

/-! ### Spi.lean -/

theorem Keeps.modSpi {f : Spi → Spi} (h : Keeps s t) : Keeps s (t.modSpi f) := h.upd

theorem Keeps.transact {f : State → State} (h : Keeps s t) (hf : ∀ u, Keeps s u → Keeps s (f u)) :
    Keeps s (t.transact f) := .cond h.modSpi (.cond h.execDomainWake.run.modSpi (hf _ h.modSpi))

theorem Keeps.pendRead {addr : Nat} (h : Keeps s t) : Keeps s (t.pendRead addr) := .cond h.modSpi.modBridge h.modSpi

theorem Keeps.hostRead {addr : Nat} (h : Keeps s t) : Keeps s (t.hostRead addr).1 :=
  h.regRead.onlyIf (fun _ hu => hu.modBridge)

theorem Keeps.completeHeld (h : Keeps s t) : Keeps s t.completeHeld := by
  unfold State.completeHeld
  split
  · exact h.modBridge.hostRead.modSpi
  · exact h

theorem Keeps.dropHeld (h : Keeps s t) : Keeps s t.dropHeld := by
  unfold State.dropHeld
  split
  · exact h
  · exact h.completeHeld.modSpi.set.raise

theorem Keeps.execHeldReadComplete (h : Keeps s t) : Advances s (execHeldReadComplete t) := .next h.completeHeld

theorem Keeps.execMainsPageAccessComplete (h : Keeps s t) : Advances s (execMainsPageAccessComplete t) := by
  unfold Machine.execMainsPageAccessComplete
  split
  · exact .next h
  · dsimp only
    split
    · exact .next h.modBridge.regWrite
    · split
      · exact .next (.cond h.modBridge.hostRead.modSpi h.modBridge.hostRead)
      · exact .next h.modBridge.hostRead

theorem Keeps.windowPass {p : Nat} (h : Keeps s t) : Keeps s (t.windowPass p) := .cond h.set h

theorem Keeps.drainOne (h : Keeps s t) : Keeps s t.drainOne := by
  unfold State.drainOne
  split
  · exact h
  · exact h.modSpi.regWrite.each (fun _ _ hu => hu.windowPass)

theorem Keeps.drainAll (h : Keeps s t) : Keeps s t.drainAll := h.each (fun _ _ hu => hu.drainOne)

theorem Keeps.execPostedWriteDrain (h : Keeps s t) : Advances s (execPostedWriteDrain t) := .next (.cond h.drainOne h)

theorem Keeps.post {addr w : Nat} (h : Keeps s t) : Keeps s (t.post addr w) :=
  .cond h.modSpi h.refuseAccess.bump.set.raise

theorem Keeps.postBurst {addr : Nat} {l : List Word} (h : Keeps s t) : Keeps s (t.postBurst addr l) := by
  induction l generalizing t addr with
  | nil => exact h
  | cons w l ih => exact ih (h.post.onlyIf fun _ hu => hu.modSpi)

theorem Keeps.spiWrite {addr : Nat} {words : List Word} (h : Keeps s t) : Keeps s (t.spiWrite addr words) :=
  h.transact (fun _ hu => hu.modSpi.postBurst)

theorem Keeps.execSpiWr1 {addr : Half} {words : List Word} (h : Keeps s t) : Advances s (execSpiWr1 addr words t) :=
  .next h.spiWrite

theorem Keeps.execSpiWrq {addr : Half} {words : List Word} (h : Keeps s t) : Advances s (execSpiWrq addr words t) :=
  .next h.spiWrite

theorem Keeps.burstErr (h : Keeps s t) : Keeps s t.burstErr := h.set

theorem Keeps.laterWords {addr n : Nat} {late : Option Nat} (h : Keeps s t) : Keeps s (t.laterWords addr late n).1 := by
  induction n generalizing t addr late with
  | zero => exact h
  | succ n ih =>
    have hp := h.onlyIf (b := Nat.beq (addr % 256) 0xFC && winPage (addr / 256)) fun _ hu => hu.windowPass (p := addr / 256)
    unfold State.laterWords
    dsimp only
    split
    · exact hp.burstErr.pendRead
    · exact ih hp.hostRead

theorem Keeps.burstTail {addr n : Nat} {late : Option Nat} (h : Keeps s t) : Keeps s (t.burstTail addr n late).1 :=
  .condFst h (.condFst h.refuseAccess.burstErr h.laterWords)

theorem Keeps.firstWord {addr : Nat} {slow : Bool} (h : Keeps s t) : Keeps s (t.firstWord addr slow).1 :=
  .condFst (by dsimp only; split <;> exact .cond h h.completeHeld) (.condFst h.dropHeld.pendRead h.dropHeld.hostRead)

theorem Keeps.dataPhase {addr n : Nat} {v late : Option Nat} (h : Keeps s t) : Keeps s (t.dataPhase addr n v late) := by
  unfold State.dataPhase
  split
  · exact h.modSpi.onlyIf (fun _ hu => hu.refuseAccess.burstErr)
  · exact h.modSpi.burstTail.modSpi

theorem Keeps.spiRead {addr n : Nat} {timing : ReadTiming} (h : Keeps s t) : Keeps s (t.spiRead addr n timing) :=
  h.transact fun _ hu =>
      by
        dsimp only
        split
        · exact hu.drainAll.firstWord
        · exact hu.drainAll.firstWord.dataPhase
        · exact hu.drainAll.firstWord.dataPhase

theorem Keeps.execSpiRd1 {addr : Half} {words : Byte} {timing : ReadTiming} (h : Keeps s t) :
    Advances s (execSpiRd1 addr words timing t) := .next h.spiRead

theorem Keeps.execSpiRdq {addr : Half} {words : Byte} {timing : ReadTiming} (h : Keeps s t) :
    Advances s (execSpiRdq addr words timing t) := .next h.spiRead

theorem Keeps.execSpiRdstat (h : Keeps s t) : Advances s (execSpiRdstat t) := .next (h.transact (fun _ hu => hu.modSpi))

theorem Keeps.execSpiEnqpi (h : Keeps s t) : Advances s (execSpiEnqpi t) := .next (h.transact (fun _ hu => hu.set))

theorem Keeps.execSpiExqpi (h : Keeps s t) : Advances s (execSpiExqpi t) := .next (h.transact (fun _ hu => hu.set))

theorem Keeps.execSpiRsten (h : Keeps s t) : Advances s (execSpiRsten t) := .next (h.transact (fun _ hu => hu.modSpi))

theorem Keeps.execSpiRstif (h : Keeps s t) : Advances s (execSpiRstif t) :=
  .next (h.transact (fun _ hu => .cond hu.completeHeld.modSpi.set hu))

theorem Keeps.execSpiUnknownCommand {code : Byte} (h : Keeps s t) : Advances s (execSpiUnknownCommand code t) := by
  unfold Machine.execSpiUnknownCommand
  dsimp only
  split
  · exact .next (h.transact (fun _ hu => hu))
  · exact .next (h.transact (fun _ hu => hu))
  · exact .next (h.transact (fun _ hu => hu))
  · exact .next (h.transact (fun _ hu => hu))
  · exact .next (h.transact (fun _ hu => hu))
  · exact h.execSpiRdstat
  · exact h.execSpiEnqpi
  · exact h.execSpiExqpi
  · exact h.execSpiRsten
  · exact h.execSpiRstif

/-! ### DebugPort.lean -/

theorem Keeps.debugStep {k : Fin 12} (h : Keeps s t) : Keeps s (t.debugStep k) := .cond h.refuse h.upd.flintAtPc.upd

theorem Keeps.execDebugStep {who : Requester} {e : Fin 12} (h : Keeps s t) : Advances s (execDebugStep who e t) :=
  h.writeCmd (fun _ hu => hu.debugStep)

theorem Keeps.debugPort {f : State → State} (h : Keeps s t) (hf : ∀ u, Keeps s u → Keeps s (f u)) :
    Keeps s (t.debugPort f) := .cond (hf _ h.upd) h

theorem Keeps.debugWords {addr n : Nat} (h : Keeps s t) : Keeps s (t.debugWords addr n).1 := by
  induction n generalizing t addr with
  | zero => exact h
  | succ n ih => exact ih (h.regRead.onlyIf fun _ hu => hu.windowPass)

theorem Keeps.debugPut {addr : Nat} {l : List Word} (h : Keeps s t) : Keeps s (t.debugPut addr l) := by
  induction l generalizing t addr with
  | nil => exact h
  | cons w l ih => exact ih (h.regWrite.onlyIf fun _ hu => hu.windowPass)

theorem Keeps.execDbgRd1 {addr : BitVec 16} {n : Fin 64} (h : Keeps s t) : Advances s (execDbgRd1 addr n t) :=
  .next (h.debugPort (fun _ hu => hu.debugWords.upd))

theorem Keeps.execDbgWr1 {addr : BitVec 16} {words : List Word} (h : Keeps s t) :
    Advances s (execDbgWr1 addr words t) := .next (h.debugPort (fun _ hu => hu.debugPut))

theorem Keeps.execDbgRdstat (h : Keeps s t) : Advances s (execDbgRdstat t) := .next (h.debugPort (fun _ hu => hu))

/-! ### DmaCopy.lean -/

theorem Keeps.dmaRefused {c a : Nat} (h : Keeps s t) : Keeps s (t.dmaRefused c a) := h.upd.bump.set.raise

theorem Keeps.dmaBank {a : Nat} (h : Keeps s t) : Keeps s (t.dmaBank a).1 := h.wakeBank

theorem Keeps.dmaBankOff {c a : Nat} {wr : Bool} (h : Keeps s t) : Keeps s (t.dmaBankOff c a wr) := h.bankOff.dmaRefused

theorem Keeps.dmaRead {c a n : Nat} (h : Keeps s t) : Keeps s (t.dmaRead c a n).1 :=
  .condFst (.condFst h.dmaBank h.dmaBank.dmaBankOff) (h.regRead.onlyIf (fun _ hu => hu.dmaRefused))

theorem Keeps.dmaWriteUnit {c a : Nat} {l : List Byte} (h : Keeps s t) : Keeps s (t.dmaWriteUnit c a l) :=
  .cond (.cond h.dmaRefused (.cond h.dmaBank.sramStore h.dmaBank.dmaBankOff)) <|
  h.regWrite.onlyIf (fun _ hu => hu.dmaRefused)

theorem Keeps.dmaFill {c : Nat} {d : Desc} {k n : Nat} (h : Keeps s t) : Keeps s (t.dmaFill c d k n).1 := by
  induction n generalizing t k with
  | zero => exact h
  | succ n ih => exact .condFst h (ih h.dmaRead)

theorem Keeps.dmaSpill {c : Nat} {d : Desc} {k : Nat} {l : List Byte} {n : Nat} (h : Keeps s t) :
    Keeps s (t.dmaSpill c d k l n).1 := by
  induction n generalizing t k l with
  | zero => exact h
  | succ n ih => exact .condFst h (ih h.dmaWriteUnit)

theorem Keeps.dmaBlock {c : Nat} {d : Desc} {k : Nat} (h : Keeps s t) : Keeps s (t.dmaBlock c d k).1 := by
  unfold State.dmaBlock
  dsimp only
  split
  · exact h.dmaFill
  · exact h.dmaFill.dmaSpill

theorem Keeps.dmaBlocks {c : Nat} {d : Desc} {k n : Nat} (h : Keeps s t) : Keeps s (t.dmaBlocks c d k n).1 := by
  induction n generalizing t k with
  | zero => exact h
  | succ n ih =>
    unfold State.dmaBlocks
    dsimp only
    split
    · exact h.dmaBlock
    · exact ih h.dmaBlock

theorem Keeps.dmaFinish {c : Nat} {d : Desc} (h : Keeps s t) : Keeps s (t.dmaFinish c d) :=
  .cond (.dmaStopped (.set (.raiseIf (.onlyIf (.cond h.dmaBank.sramStore h.dmaBank.dmaBankOff) (fun _ hu => hu.fire))))) <|
  .dmaStart (.upd (.set (.raiseIf (.onlyIf (.cond h.dmaBank.sramStore h.dmaBank.dmaBankOff) (fun _ hu => hu.fire)))))

theorem Keeps.dmaProgress {c : Nat} {d : Desc} {upTo : Nat} (h : Keeps s t) : Keeps s (t.dmaProgress c d upTo).1 :=
  h.dmaBlocks.upd

theorem Keeps.execDmaDescriptorComplete {c : Fin 16} (h : Keeps s t) : Advances s (execDmaDescriptorComplete c t) := by
  unfold Machine.execDmaDescriptorComplete
  split
  · exact .next h
  · dsimp only
    split
    · exact .next h.dmaProgress.dmaBusError
    · exact .next h.dmaProgress.dmaFinish

theorem Keeps.dmaAdvance {l : List (Fin 16 × Nat)} (h : Keeps s t) : Keeps s (t.dmaAdvance l).1 := by
  induction l generalizing t with
  | nil => exact h
  | cons q l ih =>
    unfold State.dmaAdvance
    split
    · exact ih h
    · dsimp only
      split
      · exact h.dmaProgress
      · exact ih h.dmaProgress

theorem Keeps.execDmaBusError {addr : Word} {parity : Bool} {progress : List (Fin 16 × Nat)} (h : Keeps s t) :
    Advances s (execDmaBusError addr parity progress t) :=
  .cond (.next h) (.next (h.dmaAdvance.dmaBusError.onlyIf (fun _ hu => hu.capFault)))

/-! ### FlintRows.lean -/

theorem Keeps.execMov {e : Fin 12} {cond d : BitVec 3} {src : Src8} (h : Keeps s t) :
    Advances s (execMov e cond d src t) := .next h.flint

theorem Keeps.execAdd {e : Fin 12} {cond d : BitVec 3} {src : Src8} (h : Keeps s t) :
    Advances s (execAdd e cond d src t) := .next h.flint

theorem Keeps.execAdc {e : Fin 12} {cond d : BitVec 3} {src : Src8} (h : Keeps s t) :
    Advances s (execAdc e cond d src t) := .next h.flint

theorem Keeps.execSub {e : Fin 12} {cond d : BitVec 3} {src : Src8} (h : Keeps s t) :
    Advances s (execSub e cond d src t) := .next h.flint

theorem Keeps.execSbc {e : Fin 12} {cond d : BitVec 3} {src : Src8} (h : Keeps s t) :
    Advances s (execSbc e cond d src t) := .next h.flint

theorem Keeps.execAnd {e : Fin 12} {cond d : BitVec 3} {src : Src8} (h : Keeps s t) :
    Advances s (execAnd e cond d src t) := .next h.flint

theorem Keeps.execOr {e : Fin 12} {cond d : BitVec 3} {src : Src8} (h : Keeps s t) :
    Advances s (execOr e cond d src t) := .next h.flint

theorem Keeps.execXor {e : Fin 12} {cond d : BitVec 3} {src : Src8} (h : Keeps s t) :
    Advances s (execXor e cond d src t) := .next h.flint

theorem Keeps.execCmp {e : Fin 12} {cond d : BitVec 3} {src : Src8} (h : Keeps s t) :
    Advances s (execCmp e cond d src t) := .next h.flint

theorem Keeps.execTst {e : Fin 12} {cond d : BitVec 3} {src : Src8} (h : Keeps s t) :
    Advances s (execTst e cond d src t) := .next h.flint

theorem Keeps.execInc {e : Fin 12} {cond d : BitVec 3} (h : Keeps s t) : Advances s (execInc e cond d t) :=
  .next h.flint

theorem Keeps.execDec {e : Fin 12} {cond d : BitVec 3} (h : Keeps s t) : Advances s (execDec e cond d t) :=
  .next h.flint

theorem Keeps.execNot {e : Fin 12} {cond d : BitVec 3} (h : Keeps s t) : Advances s (execNot e cond d t) :=
  .next h.flint

theorem Keeps.execNeg {e : Fin 12} {cond d : BitVec 3} (h : Keeps s t) : Advances s (execNeg e cond d t) :=
  .next h.flint

theorem Keeps.execShl {e : Fin 12} {cond d : BitVec 3} (h : Keeps s t) : Advances s (execShl e cond d t) :=
  .next h.flint

theorem Keeps.execShr {e : Fin 12} {cond d : BitVec 3} (h : Keeps s t) : Advances s (execShr e cond d t) :=
  .next h.flint

theorem Keeps.execAsr {e : Fin 12} {cond d : BitVec 3} (h : Keeps s t) : Advances s (execAsr e cond d t) :=
  .next h.flint

theorem Keeps.execRol {e : Fin 12} {cond d : BitVec 3} (h : Keeps s t) : Advances s (execRol e cond d t) :=
  .next h.flint

theorem Keeps.execRor {e : Fin 12} {cond d : BitVec 3} (h : Keeps s t) : Advances s (execRor e cond d t) :=
  .next h.flint

theorem Keeps.execSwap {e : Fin 12} {cond d : BitVec 3} (h : Keeps s t) : Advances s (execSwap e cond d t) :=
  .next h.flint

theorem Keeps.execClr {e : Fin 12} {cond d : BitVec 3} (h : Keeps s t) : Advances s (execClr e cond d t) :=
  .next h.flint

theorem Keeps.execAddw {e : Fin 12} {cond : BitVec 3} {d : BitVec 2} {src : Src16} (h : Keeps s t) :
    Advances s (execAddw e cond d src t) := .next h.flint

theorem Keeps.execSubw {e : Fin 12} {cond : BitVec 3} {d : BitVec 2} {src : Src16} (h : Keeps s t) :
    Advances s (execSubw e cond d src t) := .next h.flint

theorem Keeps.execCmpw {e : Fin 12} {cond : BitVec 3} {d : BitVec 2} {src : Src16} (h : Keeps s t) :
    Advances s (execCmpw e cond d src t) := .next h.flint

theorem Keeps.execMovw {e : Fin 12} {cond : BitVec 3} {d : BitVec 2} {src : Src16} (h : Keeps s t) :
    Advances s (execMovw e cond d src t) := .next h.flint

theorem Keeps.execMovp {e : Fin 12} {cond : BitVec 3} {d : BitVec 2} {src : Src16} (h : Keeps s t) :
    Advances s (execMovp e cond d src t) := .next h.flint

theorem Keeps.execAddp {e : Fin 12} {cond : BitVec 3} {d : BitVec 2} {src : Src16} (h : Keeps s t) :
    Advances s (execAddp e cond d src t) := .next h.flint

theorem Keeps.execMovpw {e : Fin 12} {cond : BitVec 3} {d w : BitVec 2} (h : Keeps s t) :
    Advances s (execMovpw e cond d w t) := .next h.flint

theorem Keeps.execMovwp {e : Fin 12} {cond : BitVec 3} {d : BitVec 2} {src : PtrSrc} (h : Keeps s t) :
    Advances s (execMovwp e cond d src t) := .next h.flint

theorem Keeps.execLd {e : Fin 12} {cond d : BitVec 3} {ea : Ea} (h : Keeps s t) : Advances s (execLd e cond d ea t) :=
  .next h.flint

theorem Keeps.execSt {e : Fin 12} {cond d : BitVec 3} {ea : Ea} (h : Keeps s t) : Advances s (execSt e cond d ea t) :=
  .next h.flint

theorem Keeps.execLdw {e : Fin 12} {cond : BitVec 3} {d : BitVec 2} {ea : Ea} (h : Keeps s t) :
    Advances s (execLdw e cond d ea t) := .next h.flint

theorem Keeps.execStw {e : Fin 12} {cond : BitVec 3} {d : BitVec 2} {ea : Ea} (h : Keeps s t) :
    Advances s (execStw e cond d ea t) := .next h.flint

theorem Keeps.execPush {e : Fin 12} {cond d : BitVec 3} (h : Keeps s t) : Advances s (execPush e cond d t) :=
  .next h.flint

theorem Keeps.execPop {e : Fin 12} {cond d : BitVec 3} (h : Keeps s t) : Advances s (execPop e cond d t) :=
  .next h.flint

theorem Keeps.execPushp {e : Fin 12} {cond : BitVec 3} {d : BitVec 2} (h : Keeps s t) :
    Advances s (execPushp e cond d t) := .next h.flint

theorem Keeps.execPopp {e : Fin 12} {cond : BitVec 3} {d : BitVec 2} (h : Keeps s t) :
    Advances s (execPopp e cond d t) := .next h.flint

theorem Keeps.execPushw {e : Fin 12} {cond : BitVec 3} {d : BitVec 2} (h : Keeps s t) :
    Advances s (execPushw e cond d t) := .next h.flint

theorem Keeps.execPopw {e : Fin 12} {cond : BitVec 3} {d : BitVec 2} (h : Keeps s t) :
    Advances s (execPopw e cond d t) := .next h.flint

theorem Keeps.execBr {e : Fin 12} {cond : BitVec 3} {off : BitVec 8} (h : Keeps s t) :
    Advances s (execBr e cond off t) := .next (.cond h h.flint)

theorem Keeps.execBra {e : Fin 12} {off : BitVec 11} (h : Keeps s t) : Advances s (execBra e off t) :=
  .next (.cond h.flint h)

theorem Keeps.execJmp {e : Fin 12} {cond : BitVec 3} {tgt : Target} (h : Keeps s t) :
    Advances s (execJmp e cond tgt t) := .next h.flint

theorem Keeps.execCall {e : Fin 12} {cond : BitVec 3} {tgt : Target} (h : Keeps s t) :
    Advances s (execCall e cond tgt t) := .next h.flint

theorem Keeps.execRet {e : Fin 12} {cond : BitVec 3} (h : Keeps s t) : Advances s (execRet e cond t) := .next h.flint

theorem Keeps.execDjnz {e : Fin 12} {cond d : BitVec 3} {rel : Half} (h : Keeps s t) :
    Advances s (execDjnz e cond d rel t) := .next h.flint

theorem Keeps.execNop {e : Fin 12} {cond : BitVec 3} (h : Keeps s t) : Advances s (execNop e cond t) := .next h.flint

theorem Keeps.execWait {e : Fin 12} {cond : BitVec 3} (h : Keeps s t) : Advances s (execWait e cond t) := .next h.flint

theorem Keeps.execWaitWake {e : Fin 12} (h : Keeps s t) : Advances s (execWaitWake e t) := .next (.cond h.wakeEngine h)

theorem Keeps.execPushf {e : Fin 12} {cond : BitVec 3} (h : Keeps s t) : Advances s (execPushf e cond t) :=
  .next h.flint

theorem Keeps.execPopf {e : Fin 12} {cond : BitVec 3} (h : Keeps s t) : Advances s (execPopf e cond t) := .next h.flint

theorem Keeps.execMovsp {e : Fin 12} {cond : BitVec 3} {p : BitVec 2} (h : Keeps s t) :
    Advances s (execMovsp e cond p t) := .next h.flint

theorem Keeps.execBrk {e : Fin 12} {cond : BitVec 3} (h : Keeps s t) : Advances s (execBrk e cond t) := .next h.flint

theorem Keeps.execClc {e : Fin 12} {cond : BitVec 3} (h : Keeps s t) : Advances s (execClc e cond t) := .next h.flint

theorem Keeps.execSec {e : Fin 12} {cond : BitVec 3} (h : Keeps s t) : Advances s (execSec e cond t) := .next h.flint

theorem Keeps.execClv {e : Fin 12} {cond : BitVec 3} (h : Keeps s t) : Advances s (execClv e cond t) := .next h.flint

theorem Keeps.execBtst {e : Fin 12} {cond d b : BitVec 3} (h : Keeps s t) : Advances s (execBtst e cond d b t) :=
  .next h.flint

theorem Keeps.execBset {e : Fin 12} {cond d b : BitVec 3} (h : Keeps s t) : Advances s (execBset e cond d b t) :=
  .next h.flint

theorem Keeps.execBclr {e : Fin 12} {cond d b : BitVec 3} (h : Keeps s t) : Advances s (execBclr e cond d b t) :=
  .next h.flint

theorem Keeps.execBtgl {e : Fin 12} {cond d b : BitVec 3} (h : Keeps s t) : Advances s (execBtgl e cond d b t) :=
  .next h.flint

theorem Keeps.execMulu {e : Fin 12} {cond d g : BitVec 3} (h : Keeps s t) : Advances s (execMulu e cond d g t) :=
  .next h.flint

theorem Keeps.execCbeq {e : Fin 12} {d : BitVec 3} {src : CbSrc} (h : Keeps s t) : Advances s (execCbeq e d src t) :=
  .next h.flint

theorem Keeps.execCbne {e : Fin 12} {d : BitVec 3} {src : CbSrc} (h : Keeps s t) : Advances s (execCbne e d src t) :=
  .next h.flint

theorem Keeps.execCblt {e : Fin 12} {d : BitVec 3} {src : CbSrc} (h : Keeps s t) : Advances s (execCblt e d src t) :=
  .next h.flint

theorem Keeps.execCbge {e : Fin 12} {d : BitVec 3} {src : CbSrc} (h : Keeps s t) : Advances s (execCbge e d src t) :=
  .next h.flint

theorem Keeps.execCbeqw {e : Fin 12} {d w : BitVec 2} {rel : Half} (h : Keeps s t) :
    Advances s (execCbeqw e d w rel t) := .next h.flint

theorem Keeps.execCbnew {e : Fin 12} {d w : BitVec 2} {rel : Half} (h : Keeps s t) :
    Advances s (execCbnew e d w rel t) := .next h.flint

theorem Keeps.execCbltw {e : Fin 12} {d w : BitVec 2} {rel : Half} (h : Keeps s t) :
    Advances s (execCbltw e d w rel t) := .next h.flint

theorem Keeps.execCbgew {e : Fin 12} {d w : BitVec 2} {rel : Half} (h : Keeps s t) :
    Advances s (execCbgew e d w rel t) := .next h.flint

theorem Keeps.execCustomInstruction {e : Fin 12} {cond : BitVec 3} {n : BitVec 4} {x : BitVec 5} {ext : Half}
    (h : Keeps s t) : Advances s (execCustomInstruction e cond n x ext t) := .next h.flint

theorem Keeps.execReservedOpcode {e : Fin 12} {word ext : Half} (h : Keeps s t) :
    Advances s (execReservedOpcode e word ext t) := by
  unfold Machine.execReservedOpcode
  split
  · exact .next h
  · exact .next h.flintBad

/-! ### Uart.lean -/

theorem Keeps.modCompat {f : Compat → Compat} (h : Keeps s t) : Keeps s (t.modCompat f) := h.upd

theorem Keeps.uartWake (h : Keeps s t) : Keeps s t.uartWake.1 := .condFst h.wakeFor.wakeDomain.wakeDomain h.wakeFor

theorem Keeps.execUartFrameGap (h : Keeps s t) : Advances s (execUartFrameGap t) := .next (.cond h.uartWake h)

theorem Keeps.uartTake {seq : Byte} {cmd : Nat} {soon : Bool} {f : State → State}
    (h : Keeps s t) (hf : ∀ u, Keeps s u → Keeps s (f u)) : Keeps s (t.uartTake seq cmd soon f) :=
  .cond h <|
  .cond h.uartWake (by split; exacts [by split; exacts [h.uartWake.modCompat, h.uartWake], hf _ h.uartWake.modCompat])

theorem Keeps.uartDo {seq : Byte} {cmd : Nat} {soon : Bool} {f : State → State × List Byte}
    (h : Keeps s t) (hf : ∀ u, Keeps s u → Keeps s (f u).1) : Keeps s (t.uartDo seq cmd soon f) :=
  h.uartTake (fun _ hu => .uartReply (hf _ hu))

theorem Keeps.lenIn {payload : List Byte} {lo hi : Nat} {f : State → State × List Byte}
    (h : Keeps s t) (hf : ∀ u, Keeps s u → Keeps s (f u).1) : Keeps s (t.lenIn payload lo hi f).1 := .condFst (hf _ h) h

theorem Keeps.notOutage {f : State → State × List Byte} (h : Keeps s t) (hf : ∀ u, Keeps s u → Keeps s (f u).1) :
    Keeps s (t.notOutage f).1 := .condFst h (hf _ h)

theorem Keeps.withMains {f : State → State × List Byte} (h : Keeps s t) (hf : ∀ u, Keeps s u → Keeps s (f u).1) :
    Keeps s (t.withMains f).1 := .condFst (hf _ h) h

theorem Keeps.tryOp {p : Nat} {f : State → State} (h : Keeps s t) (hf : ∀ u, Keeps s u → Keeps s (f u)) :
    Keeps s (t.tryOp p f).1 := hf _ h

/-- The operation on a page keeps whatever the state has. -/
def KeepingOp (q : Nat × (State → State)) : Prop := ∀ s u, Keeps s u → Keeps s (q.2 u)

theorem Keeps.tryOps {l : List (Nat × (State → State))} (h : Keeps s t) (hl : ∀ q ∈ l, KeepingOp q) : Keeps s (t.tryOps l).1 := by
  induction l generalizing t with
  | nil => exact h
  | cons q l ih =>
    obtain ⟨hq, hl⟩ := List.forall_mem_cons.mp hl
    exact .condFst (ih (h.tryOp (hq s)) hl) (h.tryOp (hq s))

theorem keepingOp_hostWrite (p off w : Nat) : KeepingOp (hostWrite p off w) := fun _ _ hu => hu.regWrite

theorem keepingOp_hostCommit : KeepingOp hostCommit := keepingOp_hostWrite _ _ _

theorem Keeps.execCompatPing {seq : Byte} {soon : Bool} {payload : List Byte} (h : Keeps s t) :
    Advances s (execCompatPing seq soon payload t) := .next (h.uartDo (fun _ hu => hu.lenIn (fun _ hv => hv)))

theorem Keeps.execCompatGetInfo {seq : Byte} {soon : Bool} {payload : List Byte} (h : Keeps s t) :
    Advances s (execCompatGetInfo seq soon payload t) := .next (h.uartDo (fun _ hu => hu.lenIn (fun _ hv => hv)))

theorem Keeps.execCompatReset {seq : Byte} {soon : Bool} {payload : List Byte} (h : Keeps s t) :
    Advances s (execCompatReset seq soon payload t) :=
  .next (h.uartTake (fun _ hu => .cond hu.moduleReset.charger.modCompat hu.uartReply))

theorem Keeps.execCompatSetRegion {seq : Byte} {soon : Bool} {payload : List Byte} (h : Keeps s t) :
    Advances s (execCompatSetRegion seq soon payload t) :=
  .next (h.uartDo fun _ hu => hu.lenIn fun _ hv => hv.notOutage fun _ hw => hw.tryOps <|
    List.forall_mem_cons.mpr ⟨keepingOp_hostWrite _ _ _, List.forall_mem_singleton.mpr keepingOp_hostCommit⟩)

theorem Keeps.execCompatSetRole {seq : Byte} {soon : Bool} {payload : List Byte} (h : Keeps s t) :
    Advances s (execCompatSetRole seq soon payload t) :=
  .next (h.uartDo fun _ hu => hu.lenIn fun _ hv => hv.notOutage fun _ hw => .condFst hw <| hw.tryOps <|
    List.forall_mem_cons.mpr ⟨keepingOp_hostWrite _ _ _,
      List.forall_mem_cons.mpr ⟨keepingOp_hostWrite _ _ _, List.forall_mem_singleton.mpr keepingOp_hostCommit⟩⟩)

theorem Keeps.execCompatJoin {seq : Byte} {soon : Bool} {payload : List Byte} (h : Keeps s t) :
    Advances s (execCompatJoin seq soon payload t) := by
  refine .next (h.uartDo fun _ hu => hu.lenIn fun _ hv => hv.notOutage fun u hw => ?_)
  extract_lets scan r
  have hr : Keeps s r.1 := hw.tryOps <| by
    refine List.forall_mem_append.mpr ⟨?_, ?_⟩
    · exact List.forall_mem_cons.mpr ⟨keepingOp_hostWrite _ _ _,
        List.forall_mem_cons.mpr ⟨keepingOp_hostWrite _ _ _, List.forall_mem_singleton.mpr keepingOp_hostCommit⟩⟩
    · dsimp only [scan]
      cases decide (u.mode = .commission)
      · exact nofun
      · exact List.forall_mem_singleton.mpr (keepingOp_hostWrite _ _ _)
  exact hr.upd

theorem Keeps.execCompatSend {seq : Byte} {soon : Bool} {payload : List Byte} (h : Keeps s t) :
    Advances s (execCompatSend seq soon payload t) :=
  .next <|
  h.uartDo fun _ hu =>
      hu.lenIn fun _ hv =>
          .condFst hv (.condFst hv (.condFst hv (.condFst hv (hv.spend.upd.enterMsg.gate (fun _ hw => hw.sendDone)))))

theorem Keeps.toLamp {t' w : Nat} (h : Keeps s t) : Keeps s (t.toLamp t' w).1 := h.deliverMail

theorem Keeps.execCompatLampSet {seq : Byte} {soon : Bool} {payload : List Byte} (h : Keeps s t) :
    Advances s (execCompatLampSet seq soon payload t) :=
  .next (h.uartDo (fun _ hu => hu.lenIn (fun _ hv => hv.withMains (fun _ hw => .condFst hw hw.toLamp))))

theorem Keeps.execCompatLampGet {seq : Byte} {soon : Bool} {payload : List Byte} (h : Keeps s t) :
    Advances s (execCompatLampGet seq soon payload t) :=
  .next <|
  h.uartTake fun _ hu =>
      .cond hu.uartReply (.cond hu.uartReply (.cond hu.uartReply (.cond hu.toLamp.modCompat hu.uartReply)))

theorem Keeps.execCompatMeterGet {seq : Byte} {soon : Bool} {payload : List Byte} (h : Keeps s t) :
    Advances s (execCompatMeterGet seq soon payload t) := by
  refine .next (h.uartDo fun _ hu => hu.lenIn fun _ hv => hv.withMains fun u hw => ?_)
  extract_lets g
  have hg : Keeps s g.1 := hw.tryOp fun _ hx => hx.guard
  exact .condFst hg hg

theorem Keeps.execCompatTimeSet {seq : Byte} {soon : Bool} {payload : List Byte} (h : Keeps s t) :
    Advances s (execCompatTimeSet seq soon payload t) := by
  refine .next (h.uartDo fun _ hu => hu.lenIn fun u hv => .condFst hv ?_)
  extract_lets r
  have hr : Keeps s r.1 := hv.tryOp fun _ hw => hw.guarded fun _ hx => hx.commitCount
  exact hr

theorem Keeps.execCompatTimeGet {seq : Byte} {soon : Bool} {payload : List Byte} (h : Keeps s t) :
    Advances s (execCompatTimeGet seq soon payload t) := .next (h.uartDo (fun _ hu => hu.lenIn (fun _ hv => hv)))

theorem Keeps.fwDeferred (h : Keeps s t) : Keeps s t.fwDeferred := h.execFwBlockDeferredWrite.run

theorem Keeps.fwChunk {off : Nat} {data : List Byte} (h : Keeps s t) : Keeps s (t.fwChunk off data).1 :=
  .condFst h.upd (.condFst h.upd.upd (.condFst h.upd.stageWrite h.upd))

theorem Keeps.execCompatFwBlock {seq : Byte} {soon : Bool} {payload : List Byte} (h : Keeps s t) :
    Advances s (execCompatFwBlock seq soon payload t) :=
  .next <|
  h.uartDo fun _ hu =>
      hu.lenIn fun _ hv =>
          hv.notOutage fun _ hw =>
              .condFst hw.fwDeferred <|
              by split; exacts [hw.fwDeferred.upd, .condFst hw.fwDeferred hw.fwDeferred.fwChunk]

theorem Keeps.readWords {addr n : Nat} (h : Keeps s t) : Keeps s (t.readWords addr n).1 := by
  induction n generalizing t addr with
  | zero => exact h
  | succ n ih => exact .condFst h.regRead (ih h.regRead)

theorem Keeps.execCompatRegRead {seq : Byte} {soon : Bool} {payload : List Byte} (h : Keeps s t) :
    Advances s (execCompatRegRead seq soon payload t) :=
  .next (h.uartDo (fun _ hu => hu.lenIn (fun _ hv => .condFst hv hv.readWords)))

theorem keepingOp_regWrites (addr n : Nat) (l : List Byte) : ∀ q ∈ regWrites addr n l, KeepingOp q := by
  induction n generalizing addr l with
  | zero => exact nofun
  | succ n ih => exact List.forall_mem_cons.mpr ⟨keepingOp_hostWrite _ _ _, ih _ _⟩

theorem Keeps.execCompatRegWrite {seq : Byte} {soon : Bool} {payload : List Byte} (h : Keeps s t) :
    Advances s (execCompatRegWrite seq soon payload t) :=
  .next (h.uartDo fun _ hu => .condFst hu (hu.tryOps (keepingOp_regWrites _ _ _)))

theorem Keeps.execCompatAck {seq : Byte} {soon : Bool} {payload : List Byte} (h : Keeps s t) :
    Advances s (execCompatAck seq soon payload t) :=
  .next <|
  h.uartDo fun _ hu =>
      hu.lenIn fun _ hv =>
          by split; exacts [.condFst (hv.modCompat.onlyIf (fun _ hw => hw.recvAcked) |>.placeOffers) hv, hv]

theorem Keeps.execCompatSetBaud {seq : Byte} {soon : Bool} {payload : List Byte} (h : Keeps s t) :
    Advances s (execCompatSetBaud seq soon payload t) :=
  .next (h.uartDo (fun _ hu => hu.lenIn (fun _ hv => .condFst hv hv.upd)))

theorem Keeps.execCompatUnknownCommand {seq cmd : Byte} {soon : Bool} {_payload : List Byte} (h : Keeps s t) :
    Advances s (execCompatUnknownCommand seq cmd soon _payload t) := .next (h.uartDo (fun _ hu => hu))

theorem Keeps.execUartCommand {f : UartFrame} {soon : Bool} (h : Keeps s t) : Advances s (execUartCommand f soon t) := by
  unfold Machine.execUartCommand
  dsimp only
  split
  · exact h.execCompatPing
  · exact h.execCompatGetInfo
  · exact h.execCompatReset
  · exact h.execCompatSetRegion
  · exact h.execCompatSetRole
  · exact h.execCompatJoin
  · exact h.execCompatSend
  · exact h.execCompatLampSet
  · exact h.execCompatLampGet
  · exact h.execCompatMeterGet
  · exact h.execCompatTimeSet
  · exact h.execCompatTimeGet
  · exact h.execCompatFwBlock
  · exact h.execCompatRegRead
  · exact h.execCompatRegWrite
  · exact h.execCompatAck
  · exact h.execCompatSetBaud
  · exact h.execCompatUnknownCommand

theorem Keeps.execUartFrameDiscard {bytes : List Byte} {soon : Bool} (h : Keeps s t) :
    Advances s (execUartFrameDiscard bytes soon t) := by
  unfold Machine.execUartFrameDiscard
  split
  · exact h.execUartCommand
  · exact .next (.cond h.uartWake h)

theorem Keeps.execIndicationResend (h : Keeps s t) : Advances s (execIndicationResend t) := .next (.cond h.modCompat h)

/-! ### The step -/

/-- Every command answers a next state and keeps what the state has: one arm for each, as in the dispatch. -/
theorem exec_advances (s : State) (c : Instr) : Advances s (exec c s) := by
  have h := Keeps.refl s
  cases c with
  | bridgeFrameReceived => exact h.execBridgeFrameReceived
  | mainsPageAccessComplete => exact h.execMainsPageAccessComplete
  | bridgeSilenceTimeout => exact h.execBridgeSilenceTimeout
  | mainsBridgeHold => exact h.execMainsBridgeHold
  | aoutHoldTimeout => exact h.execAoutHoldTimeout
  | bridgeRecovery => exact h.execBridgeRecovery
  | bridgeRestart => exact h.execBridgeRestart
  | zeroCrossingTimestamp => exact h.execZeroCrossingTimestamp
  | zeroCrossingMiss => exact h.execZeroCrossingMiss
  | mainsPresent => exact h.execMainsPresent
  | mainsLost => exact h.execMainsLost
  | lastGaspComplete => exact h.execLastGaspComplete
  | brownoutStart => exact h.execBrownoutStart
  | brownoutEnd => exact h.execBrownoutEnd
  | overvoltage => exact h.execOvervoltage
  | supplyFault => exact h.execSupplyFault
  | supplyRestart => exact h.execSupplyRestart
  | vbakUsable => exact h.execVbakUsable
  | vbakUnusable => exact h.execVbakUnusable
  | v3outUndervoltage => exact h.execV3outUndervoltage
  | v3outRetry => exact h.execV3outRetry
  | rstnLow => exact h.execRstnLow
  | resetFrameReceived => exact h.execResetFrameReceived
  | fieldPresent => exact h.execFieldPresent
  | fieldRemoved => exact h.execFieldRemoved
  | bootResetRelease => exact h.execBootResetRelease
  | bootComplete => exact h.execBootComplete
  | modeReqHold => exact h.execModeReqHold
  | modeReqCommission => exact h.execModeReqCommission
  | modeReqService => exact h.execModeReqService
  | modeReqMaintenance => exact h.execModeReqMaintenance
  | maintenanceWorkComplete => exact h.execMaintenanceWorkComplete
  | outageLimitExpiry => exact h.execOutageLimitExpiry
  | holdWakeExpiry => exact h.execHoldWakeExpiry
  | retCommit => exact h.execRetCommit
  | retCommitComplete => exact h.execRetCommitComplete
  | opsecSecond => exact h.execOpsecSecond
  | faultCapture => exact h.execFaultCapture
  | faultDone => exact h.execFaultDone
  | faultHandlerTimeout => exact h.execFaultHandlerTimeout
  | xoFail => exact h.execXoFail
  | lfStop => exact h.execLfStop
  | lfReturn => exact h.execLfReturn
  | domcmdOff => exact h.execDomcmdOff
  | domcmdRetention => exact h.execDomcmdRetention
  | domcmdOn => exact h.execDomcmdOn
  | domcmdAuto => exact h.execDomcmdAuto
  | domainIdleEntry => exact h.execDomainIdleEntry
  | domainWake => exact h.execDomainWake
  | domainWakeReady => exact h.execDomainWakeReady
  | pwrHostreqWrite => exact h.execPwrHostreqWrite
  | hostWakeRise => exact h.execHostWakeRise
  | asqPeriod => exact h.execAsqPeriod
  | fastClockStop => exact h.execFastClockStop
  | fastClockReady => exact h.execFastClockReady
  | clkHostreqWrite => exact h.execClkHostreqWrite
  | stitchUpdate => exact h.execStitchUpdate
  | pageEnable => exact h.execPageEnable
  | pageCheckComplete => exact h.execPageCheckComplete
  | pageDisable => exact h.execPageDisable
  | pageStopComplete => exact h.execPageStopComplete
  | pageSoftrst => exact h.execPageSoftrst
  | pageLock => exact h.execPageLock
  | registerWrite => exact h.execRegisterWrite
  | ownerAssign => exact h.execOwnerAssign
  | spiRd1 => exact h.execSpiRd1
  | spiWr1 => exact h.execSpiWr1
  | spiRdq => exact h.execSpiRdq
  | spiWrq => exact h.execSpiWrq
  | spiRdstat => exact h.execSpiRdstat
  | spiEnqpi => exact h.execSpiEnqpi
  | spiExqpi => exact h.execSpiExqpi
  | spiRsten => exact h.execSpiRsten
  | spiRstif => exact h.execSpiRstif
  | heldReadComplete => exact h.execHeldReadComplete
  | postedWriteDrain => exact h.execPostedWriteDrain
  | siteCommit => exact h.execSiteCommit
  | uartFrameGap => exact h.execUartFrameGap
  | compatPing => exact h.execCompatPing
  | compatGetInfo => exact h.execCompatGetInfo
  | compatReset => exact h.execCompatReset
  | compatSetRegion => exact h.execCompatSetRegion
  | compatSetRole => exact h.execCompatSetRole
  | compatJoin => exact h.execCompatJoin
  | compatSend => exact h.execCompatSend
  | compatLampSet => exact h.execCompatLampSet
  | compatLampGet => exact h.execCompatLampGet
  | compatMeterGet => exact h.execCompatMeterGet
  | compatTimeSet => exact h.execCompatTimeSet
  | compatTimeGet => exact h.execCompatTimeGet
  | compatFwBlock => exact h.execCompatFwBlock
  | compatRegRead => exact h.execCompatRegRead
  | compatRegWrite => exact h.execCompatRegWrite
  | compatAck => exact h.execCompatAck
  | compatSetBaud => exact h.execCompatSetBaud
  | indicationResend => exact h.execIndicationResend
  | fwBlockDeferredWrite => exact h.execFwBlockDeferredWrite
  | chainCalComplete => exact h.execChainCalComplete
  | rfcalRun => exact h.execRfcalRun
  | tempCheck => exact h.execTempCheck
  | tempSetComplete => exact h.execTempSetComplete
  | cellArm => exact h.execCellArm
  | energyDetect => exact h.execEnergyDetect
  | qualifierTimeout => exact h.execQualifierTimeout
  | preambleQualified => exact h.execPreambleQualified
  | laneDetect => exact h.execLaneDetect
  | sfdDetected => exact h.execSfdDetected
  | sfdTimeout => exact h.execSfdTimeout
  | phrReceived => exact h.execPhrReceived
  | rfFrameEnd => exact h.execRfFrameEnd
  | rxWindowClose => exact h.execRxWindowClose
  | rfTxStart => exact h.execRfTxStart
  | rfTxEnd => exact h.execRfTxEnd
  | txDeferredStart => exact h.execTxDeferredStart
  | micaWakeMatch => exact h.execMicaWakeMatch
  | plcPreambleDetect => exact h.execPlcPreambleDetect
  | plcMTimeout => exact h.execPlcMTimeout
  | plcFchDecoded => exact h.execPlcFchDecoded
  | plcFrameEnd => exact h.execPlcFrameEnd
  | plcRxWindowClose => exact h.execPlcRxWindowClose
  | plcTxStart => exact h.execPlcTxStart
  | plcTxEnd => exact h.execPlcTxEnd
  | plcTxDeferredStart => exact h.execPlcTxDeferredStart
  | driverThermalChange => exact h.execDriverThermalChange
  | soundingRunComplete => exact h.execSoundingRunComplete
  | tonemapRegenOne => exact h.execTonemapRegenOne
  | tonemapRegenAll => exact h.execTonemapRegenAll
  | prevVersionExpiry => exact h.execPrevVersionExpiry
  | slotBoundary => exact h.execSlotBoundary
  | slotframeBoundary => exact h.execSlotframeBoundary
  | mediumLeavesService => exact h.execMediumLeavesService
  | cellcmdAdd => exact h.execCellcmdAdd
  | cellcmdDel => exact h.execCellcmdDel
  | cellcmdRead => exact h.execCellcmdRead
  | cellcmdDeleteSf => exact h.execCellcmdDeleteSf
  | schedTime0Read => exact h.execSchedTime0Read
  | ackMissed => exact h.execAckMissed
  | keepaliveDue => exact h.execKeepaliveDue
  | resyncExpiry => exact h.execResyncExpiry
  | pollDue => exact h.execPollDue
  | pollResponseEnd => exact h.execPollResponseEnd
  | childPollTimeout => exact h.execChildPollTimeout
  | linksecKeyLoad => exact h.execLinksecKeyLoad
  | linksecKeyErase => exact h.execLinksecKeyErase
  | meshScan => exact h.execMeshScan
  | meshJoin => exact h.execMeshJoin
  | meshJoinBest => exact h.execMeshJoinBest
  | meshAbort => exact h.execMeshAbort
  | scanTimeout => exact h.execScanTimeout
  | joinWaitExpiry => exact h.execJoinWaitExpiry
  | meshcmdJoinRelay => exact h.execMeshcmdJoinRelay
  | meshcmdJoinAnswer => exact h.execMeshcmdJoinAnswer
  | meshcmdParentUpdate => exact h.execMeshcmdParentUpdate
  | meshcmdLeave => exact h.execMeshcmdLeave
  | meshcmdRouteErr => exact h.execMeshcmdRouteErr
  | assocLookup => exact h.execAssocLookup
  | assocPreload => exact h.execAssocPreload
  | assocApprove => exact h.execAssocApprove
  | assocDeny => exact h.execAssocDeny
  | assocDelete => exact h.execAssocDelete
  | assocNextPending => exact h.execAssocNextPending
  | assocRehash => exact h.execAssocRehash
  | rehashComplete => exact h.execRehashComplete
  | approveTimeout => exact h.execApproveTimeout
  | entryStale => exact h.execEntryStale
  | snapstotAppend => exact h.execSnapstotAppend
  | tableRestoreComplete => exact h.execTableRestoreComplete
  | msgSend => exact h.execMsgSend
  | msgCancel => exact h.execMsgCancel
  | msgSendComplete => exact h.execMsgSendComplete
  | mboxMsgSend => exact h.execMboxMsgSend
  | mboxMsgCancel => exact h.execMboxMsgCancel
  | messageAdmitted => exact h.execMessageAdmitted
  | reassemblyTimeout => exact h.execReassemblyTimeout
  | rxtailWrite => exact h.execRxtailWrite
  | attemptTimeout => exact h.execAttemptTimeout
  | attemptStart => exact h.execAttemptStart
  | messageExpired => exact h.execMessageExpired
  | msgDonePop => exact h.execMsgDonePop
  | basaltHello => exact h.execBasaltHello
  | basaltHeartbeat => exact h.execBasaltHeartbeat
  | basaltAck => exact h.execBasaltAck
  | basaltCopy => exact h.execBasaltCopy
  | basaltRecord => exact h.execBasaltRecord
  | basaltHandover => exact h.execBasaltHandover
  | heartbeatSend => exact h.execHeartbeatSend
  | helloSend => exact h.execHelloSend
  | basaltRetxTimeout => exact h.execBasaltRetxTimeout
  | partnerSilence => exact h.execPartnerSilence
  | pairPresChange => exact h.execPairPresChange
  | onairCheckEnd => exact h.execOnairCheckEnd
  | gatedAckTimeout => exact h.execGatedAckTimeout
  | reserveReportTimeout => exact h.execReserveReportTimeout
  | bulkCopyComplete => exact h.execBulkCopyComplete
  | pairHandover => exact h.execPairHandover
  | pairResync => exact h.execPairResync
  | mov => exact h.execMov
  | add => exact h.execAdd
  | adc => exact h.execAdc
  | sub => exact h.execSub
  | sbc => exact h.execSbc
  | and => exact h.execAnd
  | or => exact h.execOr
  | xor => exact h.execXor
  | cmp => exact h.execCmp
  | tst => exact h.execTst
  | inc => exact h.execInc
  | dec => exact h.execDec
  | not => exact h.execNot
  | neg => exact h.execNeg
  | shl => exact h.execShl
  | shr => exact h.execShr
  | asr => exact h.execAsr
  | rol => exact h.execRol
  | ror => exact h.execRor
  | swap => exact h.execSwap
  | clr => exact h.execClr
  | addw => exact h.execAddw
  | subw => exact h.execSubw
  | cmpw => exact h.execCmpw
  | movw => exact h.execMovw
  | movp => exact h.execMovp
  | addp => exact h.execAddp
  | movpw => exact h.execMovpw
  | movwp => exact h.execMovwp
  | ld => exact h.execLd
  | st => exact h.execSt
  | ldw => exact h.execLdw
  | stw => exact h.execStw
  | push => exact h.execPush
  | pop => exact h.execPop
  | pushp => exact h.execPushp
  | popp => exact h.execPopp
  | pushw => exact h.execPushw
  | popw => exact h.execPopw
  | br => exact h.execBr
  | bra => exact h.execBra
  | jmp => exact h.execJmp
  | call => exact h.execCall
  | ret => exact h.execRet
  | djnz => exact h.execDjnz
  | nop => exact h.execNop
  | wait => exact h.execWait
  | waitWake => exact h.execWaitWake
  | pushf => exact h.execPushf
  | popf => exact h.execPopf
  | movsp => exact h.execMovsp
  | brk => exact h.execBrk
  | clc => exact h.execClc
  | sec => exact h.execSec
  | clv => exact h.execClv
  | btst => exact h.execBtst
  | bset => exact h.execBset
  | bclr => exact h.execBclr
  | btgl => exact h.execBtgl
  | mulu => exact h.execMulu
  | cbeq => exact h.execCbeq
  | cbne => exact h.execCbne
  | cblt => exact h.execCblt
  | cbge => exact h.execCbge
  | cbeqw => exact h.execCbeqw
  | cbnew => exact h.execCbnew
  | cbltw => exact h.execCbltw
  | cbgew => exact h.execCbgew
  | customInstruction => exact h.execCustomInstruction
  | mcodeOpen => exact h.execMcodeOpen
  | mcodeCommit => exact h.execMcodeCommit
  | mcodeDataAccess => exact h.execMcodeDataAccess
  | mcodeScrub => exact h.execMcodeScrub
  | mailboxSend => exact h.execMailboxSend
  | mailboxPop => exact h.execMailboxPop
  | engineRelease => exact h.execEngineRelease
  | engineStop => exact h.execEngineStop
  | engineWdogExpiry => exact h.execEngineWdogExpiry
  | debugHalt => exact h.execDebugHalt
  | debugResume => exact h.execDebugResume
  | debugStep => exact h.execDebugStep
  | breakpointMatch => exact h.execBreakpointMatch
  | dbgRd1 => exact h.execDbgRd1
  | dbgWr1 => exact h.execDbgWr1
  | dbgRdstat => exact h.execDbgRdstat
  | collectPost => exact h.execCollectPost
  | collectPop => exact h.execCollectPop
  | collectResponse => exact h.execCollectResponse
  | collectRespRead => exact h.execCollectRespRead
  | e10LampSet => exact h.execE10LampSet
  | e10LampGet => exact h.execE10LampGet
  | lampGetTimeout => exact h.execLampGetTimeout
  | quartzEventDelivery => exact h.execQuartzEventDelivery
  | swevSignal => exact h.execSwevSignal
  | hostSignal => exact h.execHostSignal
  | eventPendClear => exact h.execEventPendClear
  | selectorWrite => exact h.execSelectorWrite
  | tapWrite => exact h.execTapWrite
  | timerGo => exact h.execTimerGo
  | timerReset => exact h.execTimerReset
  | timCmpWrite => exact h.execTimCmpWrite
  | timCfgWrite => exact h.execTimCfgWrite
  | compareMatch => exact h.execCompareMatch
  | capRead => exact h.execCapRead
  | rtcSecond => exact h.execRtcSecond
  | rtcCntRead => exact h.execRtcCntRead
  | rtcCommitCount => exact h.execRtcCommitCount
  | rtcCommitCalendar => exact h.execRtcCommitCalendar
  | rtcCommitLand => exact h.execRtcCommitLand
  | rtcShift => exact h.execRtcShift
  | rtcShiftDone => exact h.execRtcShiftDone
  | alarmCtlWrite => exact h.execAlarmCtlWrite
  | chargerDone => exact h.execChargerDone
  | chargerRestart => exact h.execChargerRestart
  | chgWrite => exact h.execChgWrite
  | dmaRunSet => exact h.execDmaRunSet
  | dmaRunClear => exact h.execDmaRunClear
  | dmaPoke => exact h.execDmaPoke
  | dmaTrigger => exact h.execDmaTrigger
  | dmaDescriptorComplete => exact h.execDmaDescriptorComplete
  | dmaBusError => exact h.execDmaBusError
  | dmaClear => exact h.execDmaClear
  | flashRead => exact h.execFlashRead
  | flashProgram => exact h.execFlashProgram
  | flashEraseS => exact h.execFlashEraseS
  | flashEraseB => exact h.execFlashEraseB
  | flashPoll => exact h.execFlashPoll
  | flashSuspend => exact h.execFlashSuspend
  | flashResume => exact h.execFlashResume
  | flashSwap => exact h.execFlashSwap
  | flashJopen => exact h.execFlashJopen
  | flashJclose => exact h.execFlashJclose
  | flashEraseComplete => exact h.execFlashEraseComplete
  | storeRead => exact h.execStoreRead
  | storeProgram => exact h.execStoreProgram
  | storeErase => exact h.execStoreErase
  | storeCommandComplete => exact h.execStoreCommandComplete
  | mboxStoreRead => exact h.execMboxStoreRead
  | mboxStoreProgram => exact h.execMboxStoreProgram
  | mboxStoreErase => exact h.execMboxStoreErase
  | mboxAesBlock => exact h.execMboxAesBlock
  | mboxHash => exact h.execMboxHash
  | mboxVerify => exact h.execMboxVerify
  | mboxExtend7 => exact h.execMboxExtend7
  | drbgReseed => exact h.execDrbgReseed
  | healthTestFail => exact h.execHealthTestFail
  | cipherKeyLoad => exact h.execCipherKeyLoad
  | cipherKeyErase => exact h.execCipherKeyErase
  | cipherGo => exact h.execCipherGo
  | aesComplete => exact h.execAesComplete
  | hashInit => exact h.execHashInit
  | hashDataWrite => exact h.execHashDataWrite
  | hashFinal => exact h.execHashFinal
  | hashFinalComplete => exact h.execHashFinalComplete
  | hashExtend7 => exact h.execHashExtend7
  | pkeVerify => exact h.execPkeVerify
  | pkeSign => exact h.execPkeSign
  | pkeQuote => exact h.execPkeQuote
  | pkeCert => exact h.execPkeCert
  | pkeRandom => exact h.execPkeRandom
  | pkeChallenge => exact h.execPkeChallenge
  | pkeDebugOpen => exact h.execPkeDebugOpen
  | pkeCkeyProg => exact h.execPkeCkeyProg
  | pkeCkeyRevoke => exact h.execPkeCkeyRevoke
  | pkeComplete => exact h.execPkeComplete
  | attestRequest => exact h.execAttestRequest
  | debugAccessExpiry => exact h.execDebugAccessExpiry
  | updateOpen => exact h.execUpdateOpen
  | updateWrite => exact h.execUpdateWrite
  | updateWriteComplete => exact h.execUpdateWriteComplete
  | updateVerify => exact h.execUpdateVerify
  | updateVerifyComplete => exact h.execUpdateVerifyComplete
  | updateSchedule => exact h.execUpdateSchedule
  | updateCancel => exact h.execUpdateCancel
  | activationStart => exact h.execActivationStart
  | activationComplete => exact h.execActivationComplete
  | strataWrite => exact h.execStrataWrite
  | strataRead => exact h.execStrataRead
  | strataChallenge => exact h.execStrataChallenge
  | strataClear => exact h.execStrataClear
  | strataFlush => exact h.execStrataFlush
  | mboxStrataRecord => exact h.execMboxStrataRecord
  | mboxStrataRead => exact h.execMboxStrataRead
  | strataCloseTimeout => exact h.execStrataCloseTimeout
  | strataRestartWalk => exact h.execStrataRestartWalk
  | strataClearComplete => exact h.execStrataClearComplete
  | daliGo => exact h.execDaliGo
  | daliFrameStart => exact h.execDaliFrameStart
  | daliCollision => exact h.execDaliCollision
  | daliFrameSent => exact h.execDaliFrameSent
  | daliBackwardFrame => exact h.execDaliBackwardFrame
  | daliAnswerTimeout => exact h.execDaliAnswerTimeout
  | daliForeignFrame => exact h.execDaliForeignFrame
  | daliSystemFailure => exact h.execDaliSystemFailure
  | daliBusRecovery => exact h.execDaliBusRecovery
  | daliResultPop => exact h.execDaliResultPop
  | daliGearClear => exact h.execDaliGearClear
  | daliBuscfgWrite => exact h.execDaliBuscfgWrite
  | daliBusMeasureDone => exact h.execDaliBusMeasureDone
  | daliBusOverload => exact h.execDaliBusOverload
  | daliOverloadEnd => exact h.execDaliOverloadEnd
  | daliBusRemeasure => exact h.execDaliBusRemeasure
  | aoutVsetWrite => exact h.execAoutVsetWrite
  | aoutFadeEnd => exact h.execAoutFadeEnd
  | aoutOverload => exact h.execAoutOverload
  | aoutOverloadEnd => exact h.execAoutOverloadEnd
  | relaySet => exact h.execRelaySet
  | relayClr => exact h.execRelayClr
  | relayPulseStart => exact h.execRelayPulseStart
  | relayPulseEnd => exact h.execRelayPulseEnd
  | photocellSecond => exact h.execPhotocellSecond
  | meterWindowEnd => exact h.execMeterWindowEnd
  | meterNozxTimeout => exact h.execMeterNozxTimeout
  | meterSnapRead => exact h.execMeterSnapRead
  | energyLoRead => exact h.execEnergyLoRead
  | meterClrEnergy => exact h.execMeterClrEnergy
  | energyCheckpoint => exact h.execEnergyCheckpoint
  | dinFilteredChange => exact h.execDinFilteredChange
  | dinChatterQuiet => exact h.execDinChatterQuiet
  | dinStuck => exact h.execDinStuck
  | tagPowerUp => exact h.execTagPowerUp
  | tagFieldOn => exact h.execTagFieldOn
  | tagFieldOff => exact h.execTagFieldOff
  | tagInventory => exact h.execTagInventory
  | tagStayQuiet => exact h.execTagStayQuiet
  | tagReadSingle => exact h.execTagReadSingle
  | tagReadMultiple => exact h.execTagReadMultiple
  | tagWriteSingle => exact h.execTagWriteSingle
  | tagSelect => exact h.execTagSelect
  | tagResetToReady => exact h.execTagResetToReady
  | tagGetSystemInfo => exact h.execTagGetSystemInfo
  | tagExtReadSingle => exact h.execTagExtReadSingle
  | tagExtReadMultiple => exact h.execTagExtReadMultiple
  | tagExtWriteSingle => exact h.execTagExtWriteSingle
  | tagExtGetSystemInfo => exact h.execTagExtGetSystemInfo
  | tagAuthenticateMam1 => exact h.execTagAuthenticateMam1
  | tagAuthenticateMam2 => exact h.execTagAuthenticateMam2
  | tagPresentPwd => exact h.execTagPresentPwd
  | tagWritePwd => exact h.execTagWritePwd
  | tagUnsupportedCommand => exact h.execTagUnsupportedCommand
  | tagLockoutExpiry => exact h.execTagLockoutExpiry
  | tagOwnerRead => exact h.execTagOwnerRead
  | tagOwnerWrite => exact h.execTagOwnerWrite
  | tagLoadPwd => exact h.execTagLoadPwd
  | tagLoadKey => exact h.execTagLoadKey
  | tagClrFail => exact h.execTagClrFail
  | tagWrcntRead => exact h.execTagWrcntRead
  | readerFieldOn => exact h.execReaderFieldOn
  | readerFieldOff => exact h.execReaderFieldOff
  | readerXfer => exact h.execReaderXfer
  | readerInventory => exact h.execReaderInventory
  | readerAbort => exact h.execReaderAbort
  | readerGuardElapsed => exact h.execReaderGuardElapsed
  | readerExchangeEnd => exact h.execReaderExchangeEnd
  | readerResponseTimeout => exact h.execReaderResponseTimeout
  | readerIdleTimeout => exact h.execReaderIdleTimeout
  | csenseSample => exact h.execCsenseSample
  | csensePing => exact h.execCsensePing
  | csenseHoldExpiry => exact h.execCsenseHoldExpiry
  | nfcHoldExpiry => exact h.execNfcHoldExpiry
  | offlineSupplyUp => exact h.execOfflineSupplyUp
  | supplyHoldUpEnd => exact h.execSupplyHoldUpEnd
  | wakeCallEnd => exact h.execWakeCallEnd
  | wakeCallCheckFailure => exact h.execWakeCallCheckFailure
  | basaltFrameDiscard => exact h.execBasaltFrameDiscard
  | uartFrameDiscard => exact h.execUartFrameDiscard
  | compatUnknownCommand seq cmd soon payload => exact h.execCompatUnknownCommand (_payload := payload)
  | spiUnknownCommand => exact h.execSpiUnknownCommand
  | tagRequestCrcFailure => exact h.execTagRequestCrcFailure
  | reservedOpcode => exact h.execReservedOpcode
  | msgRestoreComplete => exact h.execMsgRestoreComplete
  | keptRspExpiry => exact h.execKeptRspExpiry
  | lfMeasurementUpdate => exact h.execLfMeasurementUpdate

/-- What the command sees is the state without it, and that has the canonical forms that the state has. -/
theorem step_canonical {s : State} (c : Canonical s = true) : ∃ t, step s = .next t ∧ Canonical t = true := by
  unfold step
  split
  · exact ⟨s.lfEdge, rfl, (Keeps.refl s).lfEdge.canonical c⟩
  · next i rest _ =>
    obtain ⟨t, ht, k⟩ := exec_advances { s with pending := rest } i
    exact ⟨t, ht, k.canonical c⟩

/-- Settles O60: every command keeps the canonical forms, and so does the LF edge of an empty queue. -/
theorem canonicalKept : Obligations.CanonicalKept := fun _ c => step_canonical c

end Sys2Proof.Machine
end

/-! # Refused accesses -/

section
namespace Sys2Proof.Machine

open Sys2Proof

/-- A tap on E10's refusal flag triggers DMA channel 10, which is E10's and idle; its ring is in bank 3, which is held OFF. -/
def demoTappedRefusal : State :=
  demo.setAll [(R.EVT.TAP_EN 0, 1), (R.EVT.TAP_PAGE 0, 0x1A), (R.EVT.TAP_BIT 0, 2), (R.EVT.SEL_SRC 62, 64),
    (R.DMA.CFG_OWNER 10, 10), (R.DMA.STAT_ST 10, 1), (R.DMA.RING_BASE 10, 0x02018000), (R.PWR.DOMSTAT 4, 0), (R.PWR.NOWAKE_MAP, 0x10)]

/-- E10's write to a reserved page ends with the refusal of the channel's fetch on E10's page, DOMAIN_OFF (R101, R425, R466). -/
theorem demoTappedRefusal_reason :
    (State.run demoTappedRefusal (exec (.registerWrite 10 0xE0 0 0) demoTappedRefusal)).get (R.ENG.LASTREF_REASON 10) = 0x06 := by
  decide

/-- Refutes O58: a refusal's flag may be tapped, and what it triggers may be refused to the same engine before the write ends. The fetch of
an idle DMA channel from a bank held OFF records DOMAIN_OFF over the UNMAPPED of the write. -/
theorem not_refusedAccesses : ¬ Obligations.RefusedAccesses := by
  unfold Obligations.RefusedAccesses
  rintro ⟨-, -, -, -, hEngine, -⟩
  obtain ⟨t, ht, hreason, -⟩ := hEngine 10 0xE0 0 0 demoTappedRefusal (by decide) (by decide)
  have hoff := demoTappedRefusal_reason
  rw [ht] at hoff
  exact absurd (hreason.symm.trans hoff) (by decide)

end Sys2Proof.Machine
end

/-! # The machine right after reset -/

section
namespace Sys2Proof.Machine

open Sys2Proof

/-- What a part of the table that keeps every entry of a key lists for the key is what the table lists. -/
theorem Regs.look_filter (r : Regs) (q : Nat × Nat → Bool) {k : Nat} (h : ∀ v, q (k, v) = true) :
    Regs.look (r.filter q) k = r.look k := by
  induction r with
  | nil => rfl
  | cons e r ih =>
    obtain ⟨a, v⟩ := e
    by_cases ha : a = k
    · subst ha
      simp [Regs.look, h v]
    · cases hq : q (a, v) <;> simp [Regs.look, natBeq, hq, ha, ih]

/-- A key that is not listed holds 0. -/
theorem Regs.look_eq_zero {r : Regs} {k : Nat} (h : ∀ e ∈ r, e.1 ≠ k) : r.look k = 0 := by
  induction r with
  | nil => rfl
  | cons e r ih =>
    obtain ⟨he, hr⟩ := List.forall_mem_cons.mp h
    simp [Regs.look, natBeq, he, ih hr]

/-- The fields of page `p` hold their Reset values, read from that page's part of the reset table alone. -/
def resetPageHolds (p : Nat) : Bool :=
  let part := Regs.reset.filter fun e => Nat.beq (e.1 / 8192) p
  (pageRows p).all fun r => Nat.beq (r.fld.key / 8192) p && Nat.beq (Regs.look part r.fld.key) r.rst

theorem get_reset_of_resetPageHolds {p : Nat} {r : Row} (h : resetPageHolds p = true) (hr : r ∈ pageRows p) :
    State.reset.get r.fld = r.rst := by
  have hrow := List.all_eq_true.mp h r hr
  simp only [natBeq, Bool.and_eq_true, decide_eq_true_eq] at hrow
  obtain ⟨hpage, hval⟩ := hrow
  rw [← hval, Regs.look_filter]
  · rfl
  · intro v
    simp [hpage]

theorem mappedPages_resetPageHolds : ∀ p ∈ mappedPages, resetPageHolds p = true := by decide +kernel

/-- No entry of the reset table is LOCK's or an IRQ_STAT bit's of any page: those are bit 2 of offset 4 and the bits of offset 0x0C. -/
theorem reset_lists_no_lock_irq : ∀ e ∈ Regs.reset, e.1 % 8192 ≠ 130 ∧ e.1 % 8192 / 32 ≠ 12 := by decide +kernel

theorem get_reset_lock (p : Nat) : State.reset.get (R.HDR.LOCK p) = 0 := by
  refine Regs.look_eq_zero fun e he hk => (reset_lists_no_lock_irq e he).1 ?_
  simp only [hk, Fld.key]
  omega

theorem get_reset_irq (p : Nat) {b : Nat} (hb : b < 32) : State.reset.get (R.HDR.IRQ p b) = 0 := by
  refine Regs.look_eq_zero fun e he hk => (reset_lists_no_lock_irq e he).2 ?_
  simp only [hk, Fld.key]
  omega

theorem reset_canonical : Canonical State.reset = true := by decide +kernel

/-- Settles O57: the register tables are compared page by page. -/
theorem resetState : Obligations.ResetState := by
  unfold Obligations.ResetState
  refine ⟨⟨rfl, ?_, reset_canonical, rfl, rfl⟩, ?_, ?_⟩
  · decide
  · rintro p r ⟨hp, hr⟩
    exact get_reset_of_resetPageHolds (mappedPages_resetPageHolds p hp) hr
  · rintro p b ⟨-, -, hb⟩
    exact ⟨get_reset_lock p, get_reset_irq p hb⟩

end Sys2Proof.Machine
end

/-! # Pages and the site profile -/

section
namespace Sys2Proof.Machine

open Sys2Proof

/-- CIPHER is DISABLED, with a word staged for its key command. -/
def demoStagedKey : State :=
  let s := demo.set (R.HDR.ST 0x50) 0
  { s with garnet := { s.garnet with stagedKey := [(0, 1)] } }

/-- A SOFTRST of CIPHER by its owner drops the staged word (R131). -/
theorem demoStagedKey_softrst :
    (State.run demoStagedKey (exec (.pageSoftrst 0 0x50) demoStagedKey)).garnet.stagedKey = [] := by
  decide

/-- A reset of a page's registers, with one of them written afterwards, leaves the staged words. -/
theorem stagedKey_pageReset_set (s : State) (p : Nat) (f : Fld) (v : Nat) :
    ((s.pageReset p).set f v).garnet.stagedKey = s.garnet.stagedKey := rfl

/-- Refutes O7: a SOFTRST changes more than the page's registers. On LINKSEC, CIPHER and NFCTAG it drops the words staged for a key
command as well. -/
theorem not_pagesAndProfile : ¬ Obligations.PagesAndProfile := by
  unfold Obligations.PagesAndProfile
  rintro ⟨-, -, -, -, -, hSoftrst, -⟩
  obtain ⟨t, ht, hreset⟩ := hSoftrst 0 0x50 demoStagedKey (by decide) (by decide) (by decide) (by decide)
  have hdropped := demoStagedKey_softrst
  rw [ht] at hdropped
  have hkept : t.garnet.stagedKey = [(0, 1)] := by
    rw [hreset, stagedKey_pageReset_set]
    rfl
  exact absurd (hkept.symm.trans hdropped) (by decide)

end Sys2Proof.Machine
end

/-! # The isolation bridge and the zero-crossing detector -/

section
namespace Sys2Proof.Machine

open Sys2Proof

/-- A STANDBY in sync, whose DMA channel 0 is idle on a ring in bank 3 and is triggered by the fault event (producer 62). -/
def demoIdleRing : State :=
  demo.setAll [(R.PAIR.STAT_PST, 6), (R.EVT.SEL_SRC 52, 62), (R.DMA.CFG_ENTRIES 0, 1), (R.DMA.RING_BASE 0, 0x02018000),
    (R.DMA.STAT_ST 0, 1)]

theorem demoIdleRing_fits : demoIdleRing.ringFits 0 = true := by decide

/-- The same after a RECORD of its partner with the object "RING0 is 0x5FF8_0000". DMA is no page that R362 mirrors, and a plain write of
this base is BAD_VALUE (R463); the model applies a configuration object to any register and checks nothing. -/
def demoStrayRing : State :=
  State.run demoIdleRing (exec (.basaltRecord 1 0 [.config 0x2A 0x44 0x5FF80000]) demoIdleRing)

/-- The bank that the channel's next fetch wakes does not exist: the DOMSTAT field of its number lies where FAULT.STATUS has ACTIVE. -/
theorem demoStrayRing_domstat_key :
    (R.PWR.DOMSTAT (bankOf (demoStrayRing.descAddr 0))).key = R.FAULT.STATUS_ACTIVE.key := by
  decide

/-- The silence's fault is recorded, its event starts the fetch, and the wake takes the ACTIVE of 1 for RETENTION and writes ON over it. -/
theorem demoStrayRing_active :
    (State.run demoStrayRing (exec .bridgeSilenceTimeout demoStrayRing)).get R.FAULT.STATUS_ACTIVE = 2 := by
  decide

/-- Refutes O1: the event of the BRIDGE fault may trigger a DMA channel, and nothing in the statement keeps the channel's ring in bank 3. A
fetch from a ring outside it wakes a bank that does not exist, which changes a field of another page: here ACTIVE reads 2 after the
silence, not 1. -/
theorem not_bridgeAndZeroCrossing : ¬ Obligations.BridgeAndZeroCrossing := by
  unfold Obligations.BridgeAndZeroCrossing
  rintro ⟨-, -, -, -, hSilence, -⟩
  obtain ⟨t, ht, -, hactive, -⟩ := hSilence demoStrayRing (by decide) (by decide) (by decide) (by decide)
  have hoverwritten := demoStrayRing_active
  rw [ht] at hoverwritten
  exact absurd (hactive.symm.trans hoverwritten) (by decide)

end Sys2Proof.Machine
end

/-! # Supply and mains -/

section
namespace Sys2Proof.Machine

open Sys2Proof

/-- The STANDBY of `demoIdleRing` with VBAK usable, whose idle channel is triggered by MODE_CHG instead (producer 64, tap 0 on bit 0 of
SYS.IRQ_STAT). -/
def demoModeChgRing : State :=
  demoIdleRing.setAll [(R.PWR.SUPPLY_VBAK_OK, 1), (R.EVT.TAP_PAGE 0, 0x00), (R.EVT.TAP_BIT 0, 0), (R.EVT.TAP_EN 0, 1),
    (R.EVT.SEL_SRC 52, 64)]

theorem demoModeChgRing_fits : demoModeChgRing.ringFits 0 = true := by decide

/-- The same after a RECORD of its partner with the object "RING0 is 0x2378_0000", a base that a plain write refuses (R463) and the model
takes from a configuration object unchecked. -/
def demoStrayModeChgRing : State :=
  State.run demoModeChgRing (exec (.basaltRecord 1 0 [.config 0x2A 0x44 0x23780000]) demoModeChgRing)

/-- The bank that the channel's next fetch wakes does not exist: the DOMSTAT field of its number lies where PWR.SUPPLY has MAINS. -/
theorem demoStrayModeChgRing_domstat_key :
    (R.PWR.DOMSTAT (bankOf (demoStrayModeChgRing.descAddr 0))).key = R.PWR.SUPPLY_MAINS.key := by
  decide

/-- OUTAGE is entered and its MODE_CHG starts the fetch; the wake takes the MAINS of 0 for OFF and writes ON over it. -/
theorem demoStrayModeChgRing_mains :
    (State.run demoStrayModeChgRing (exec (.mainsLost none 0) demoStrayModeChgRing)).get R.PWR.SUPPLY_MAINS = 2 := by
  decide +kernel

/-- Refutes O2: the MODE_CHG of the entry into OUTAGE may be tapped to trigger a DMA channel, and nothing in the statement keeps the
channel's ring in bank 3. A fetch from a ring outside it wakes a bank that does not exist, which changes another field: here
PWR.SUPPLY.MAINS reads 2 after the loss of mains in SERVICE, not 0. -/
theorem not_supplyAndMains : ¬ Obligations.SupplyAndMains := by
  unfold Obligations.SupplyAndMains
  rintro ⟨-, -, -, -, -, hLoss, -⟩
  obtain ⟨t, ht, -, hmains, -⟩ := hLoss none 0 demoStrayModeChgRing (by decide) (by decide) (by decide) (by decide)
  have hoverwritten := demoStrayModeChgRing_mains
  rw [ht] at hoverwritten
  exact absurd (hmains.symm.trans hoverwritten) (by decide)

end Sys2Proof.Machine
end

/-! # Modes, startup and faults -/

section
namespace Sys2Proof

open Sys2Proof.Machine

/-- What a completed command promises holds of the state that it leaves. -/
theorem Completes.run {c : Instr} {s : State} {P : State → Prop} (h : Completes c s P) : P (State.run s (exec c s)) := by
  obtain ⟨t, ht, hP⟩ := h
  rw [ht]
  exact hP

end Sys2Proof

namespace Sys2Proof.Machine

open Sys2Proof

/-! ### Mode events -/

/-- `demoHold` with its RSTN pin pulled low, which leaves it in HOLD (R78). -/
def demoHeldInReset : State := State.run demoHold (exec .rstnLow demoHold)

theorem demoHeldInReset_usable : demoHeldInReset.ret.quartz.usable = true := Nat.beq_refl Config.formatVersion

/-- While reset is held only QUARTZ runs (R75): a wake call that names the node starts nothing. -/
theorem demoHeldInReset_mode :
    (State.run demoHeldInReset (exec (.micaWakeMatch 7 0) demoHeldInReset)).mode = .hold := by
  decide

/-- Refutes O3: the clause on the wake from HOLD does not ask that reset be released. With RSTN low the node meets every premise, and the
match leaves it in HOLD. -/
theorem not_modesAndReset : ¬ Obligations.ModesAndReset := by
  unfold Obligations.ModesAndReset
  rintro ⟨-, -, -, -, -, -, -, -, -, -, -, -, -, hWake⟩
  obtain ⟨houtage, -⟩ :=
    (hWake 7 0 demoHeldInReset (by decide) (by decide) (by decide) (by decide) demoHeldInReset_usable (by decide)).run
  exact absurd (houtage.symm.trans demoHeldInReset_mode) (by decide)

/-! ### Faults beside a stray DMA ring

`demoStrayRing` is the STANDBY of the isolation bridge's section: the fault event triggers its DMA channel 0, and a mirrored configuration
object has moved the channel's ring to a bank that does not exist, whose DOMSTAT field lies on FAULT.STATUS.ACTIVE. E10 runs there, and
no fault is pending. -/

/-- The fault sets ACTIVE, its event starts the fetch, and the wake takes the 1 for RETENTION and writes ON over it. -/
theorem demoStrayRing_capture_active :
    (State.run demoStrayRing (exec (.faultCapture 0x02 10 0 0) demoStrayRing)).get R.FAULT.STATUS_ACTIVE = 2 := by
  decide

/-- Refutes O4: the event of a captured fault may trigger a DMA channel, and nothing in the statement keeps the channel's ring in bank 3. A
fetch from a ring outside it wakes a bank that does not exist: here ACTIVE reads 2 after the capture, not 1. -/
theorem not_retainedSettingsAndFaults : ¬ Obligations.RetainedSettingsAndFaults := by
  unfold Obligations.RetainedSettingsAndFaults
  rintro ⟨-, -, -, hCapture, -⟩
  obtain ⟨hactive, -⟩ := (hCapture 0x02 10 0 0 demoStrayRing (by decide) (by decide) (by decide)).run
  exact absurd (hactive.symm.trans demoStrayRing_capture_active) (by decide)

/-- The same after a BRK of E10, which is ILLEGAL while debug access is closed (R401, R419). -/
theorem demoStrayRing_brk_active :
    (State.run demoStrayRing (exec (.brk 10 0) demoStrayRing)).get R.FAULT.STATUS_ACTIVE = 2 := by
  decide

/-- Refutes O36: the event of an instruction's fault may trigger a DMA channel, and nothing in the statement keeps the channel's ring in bank
3. After a BRK of E10 a fetch from a ring outside it has written 2 over the 1 in ACTIVE. -/
theorem not_flintFaults : ¬ Obligations.FlintFaults := by
  unfold Obligations.FlintFaults
  rintro ⟨-, hBrk, -⟩
  obtain ⟨-, -, -, -, -, -, -, -, -, -, hactive, -⟩ := (hBrk 10 0 demoStrayRing (by decide) (by decide) (by decide)).run
  exact absurd (hactive.symm.trans demoStrayRing_brk_active) (by decide)

/-! ### An engine's watchdog -/

/-- `demoIdleRing` with a watchdog set for E10, which runs. -/
def demoWatchedRing : State := demoIdleRing.set (R.ENG.WDOG_MS 10) 100

/-- The same after a RECORD of its partner with the object "RING0 is 0x6078_0000", a base that a plain write refuses (R463). -/
def demoStrayWatchedRing : State :=
  State.run demoWatchedRing (exec (.basaltRecord 1 0 [.config 0x2A 0x44 0x60780000]) demoWatchedRing)

/-- The bank that the channel's next fetch wakes does not exist: the DOMSTAT field of its number lies where P_INFO has the cause. -/
theorem demoStrayWatchedRing_domstat_key :
    (R.PWR.DOMSTAT (bankOf (demoStrayWatchedRing.descAddr 0))).key = R.FAULT.P_INFO_CAUSE.key := by
  decide

/-- The expiry is recorded as WDOG, 1; its event starts the fetch, and the wake takes the 1 for RETENTION and writes ON over it. -/
theorem demoStrayWatchedRing_cause :
    (State.run demoStrayWatchedRing (exec (.engineWdogExpiry 10) demoStrayWatchedRing)).get R.FAULT.P_INFO_CAUSE = 2 := by
  decide

/-- Refutes O38: the event of the watchdog's fault may trigger a DMA channel, and nothing in the statement keeps the channel's ring in bank
3. A fetch from a ring outside it wakes a bank that does not exist: here the primary slot shows ILLEGAL, 2, for E10's expiry. -/
theorem not_engineControl : ¬ Obligations.EngineControl := by
  unfold Obligations.EngineControl
  rintro ⟨-, -, -, -, hExpiry, -⟩
  obtain ⟨-, hcause, -⟩ := (hExpiry 10 demoStrayWatchedRing (by decide) (by decide) (by decide) (by decide)).run
  exact absurd (hcause.symm.trans demoStrayWatchedRing_cause) (by decide)

/-! ### DONE of a fault -/

/-- An active manifest (R511, R512) that lists one part, an image of E4, of no bytes. -/
def demoManifest : Memory :=
  (Memory.storeList 0xFF [] 0x80000 (ascii "YNM1" ++ leBytes 2 1 ++ leBytes 2 1)).storeList 0xFF 0x80100
    (leBytes 1 2 ++ leBytes 1 4 ++ zeros 22)

/-- A fault of E4 in the primary slot, and one of E10 with cause WDOG in the secondary. The channel of `demoIdleRing` is triggered by the
flag of a measurement instead (producer 64, tap 0 on bit 0 of MEASURE.IRQ_STAT), which E4's restart sets (R96, R506). -/
def demoTappedRestart : State :=
  { (demoIdleRing.modEng 4 (fun e => { e with image := true })).setAll
      [(R.EVT.TAP_PAGE 0, 0x53), (R.EVT.TAP_BIT 0, 0), (R.EVT.TAP_EN 0, 1), (R.EVT.SEL_SRC 52, 64),
       (R.FAULT.STATUS_ACTIVE, 1), (R.FAULT.P_INFO_CAUSE, 2), (R.FAULT.P_INFO_SRC, 4),
       (R.FAULT.STATUS_SVALID, 1), (R.FAULT.STATUS_NEST, 1), (R.FAULT.S_INFO_CAUSE, 1), (R.FAULT.S_INFO_SRC, 10)] with
    flash := { demo.flash with cells := demoManifest } }

/-- The same after a RECORD of its partner with the object "RING0 is 0x61F8_0000", a base that a plain write refuses (R463). -/
def demoStrayTappedRestart : State :=
  State.run demoTappedRestart (exec (.basaltRecord 1 0 [.config 0x2A 0x44 0x61F80000]) demoTappedRestart)

/-- The bank that the channel's next fetch wakes does not exist: the DOMSTAT field of its number lies where S_INFO has the cause. -/
theorem demoStrayTappedRestart_domstat_key :
    (R.PWR.DOMSTAT (bankOf (demoStrayTappedRestart.descAddr 0))).key = R.FAULT.S_INFO_CAUSE.key := by
  decide

/-- E0's default action restarts E4; the fetch that this starts writes ON over the waiting cause of 1 before DONE moves it. -/
theorem demoStrayTappedRestart_cause :
    (State.run demoStrayTappedRestart (exec (.faultDone 0) demoStrayTappedRestart)).get R.FAULT.P_INFO_CAUSE = 2 := by
  decide +kernel

/-- Refutes O6: DONE comes after E0's default action, and the measurement of the engine's restart may trigger a DMA channel through a tap.
Nothing in the statement keeps the channel's ring in bank 3, and a fetch from a ring outside it wakes a bank that does not exist: here the
secondary fault's cause is 1 before DONE and reads 2 in the primary slot after it. -/
theorem not_faultDoneAndBusyCommit : ¬ Obligations.FaultDoneAndBusyCommit := by
  unfold Obligations.FaultDoneAndBusyCommit
  rintro ⟨-, hDone, -⟩
  obtain ⟨-, -, -, -, hcause, -⟩ := (hDone demoStrayTappedRestart (by decide) (by decide) (by decide)).run
  exact absurd (hcause.symm.trans demoStrayTappedRestart_cause) (by decide)

end Sys2Proof.Machine
end

/-! # Power domains, sample sequences and clocks -/

section
namespace Sys2Proof.Machine

open Sys2Proof

/-- Sequence 3 watches VBAK: two samples, a run of two LF ticks, on every LF tick; it matches on an average below 80. -/
def demoVbakWatch : State :=
  demo.setAll [(R.PWR.ASQ_CFG_EN 3, 1), (R.PWR.ASQ_CFG_SRC 3, 3), (R.PWR.ASQ_CFG_PERIOD 3, 1), (R.PWR.ASQ_CFG_SAMPLES 3, 2),
    (R.PWR.ASQ_CFG_CMP 3, 3), (R.PWR.ASQ_THR_LO 3, 80)]

/-- The same one run later, whose average of 104 is no match. One of its two ticks is left when the sequence falls due again. -/
def demoVbakRun : State := State.run demoVbakWatch (exec (.asqPeriod 3 [104, 104]) demoVbakWatch)

/-- The samples of the next period average 60, which meets the match rule. -/
theorem demoVbakRun_hit : demoVbakRun.asqHit 3 (([60, 60].map (BitVec.toNat (w := 16))).sum / max 1 2) = true := by decide

/-- The previous run is in progress, so the period is skipped (R116): SKIP is set for the sequence and MATCH is not. -/
theorem demoVbakRun_skipped :
    (State.run demoVbakRun (exec (.asqPeriod 3 [60, 60]) demoVbakRun)).get R.PWR.ASQ_STAT_SKIP = 2 ^ 3 ∧
      (State.run demoVbakRun (exec (.asqPeriod 3 [60, 60]) demoVbakRun)).get R.PWR.ASQ_STAT_MATCH = 0 := by
  decide

/-- Refutes O5: the clause on sample sequences does not ask that the previous run be over. A sequence that falls due while that run is in
progress is skipped for the period (R116), and samples that meet its match rule set no MATCH bit. -/
theorem not_domainsAndClocks : ¬ Obligations.DomainsAndClocks := by
  unfold Obligations.DomainsAndClocks
  rintro ⟨-, -, -, -, -, -, -, -, -, -, -, -, hSequence, -⟩
  have hmatch := (hSequence 3 [60, 60] demoVbakRun (by decide) (by decide) (by decide) demoVbakRun_hit).run
  obtain ⟨-, hnone⟩ := demoVbakRun_skipped
  exact absurd (hmatch.symm.trans hnone) (by decide)

end Sys2Proof.Machine
end

/-! # Link key commands that are refused -/

section
namespace Sys2Proof.Machine

open Sys2Proof

/-- A refusal of the page `p` shows its code in STATE.REASON. -/
theorem get_reason_refuse (s : State) (p reason info : Nat) (hr : reason < 256) :
    (s.refuse p reason info).get (R.HDR.REASON p) = reason := by
  have hkey : (R.HDR.ERRINFO p).key ≠ (R.HDR.REASON p).key := by
    simp only [Fld.key]
    omega
  rw [State.refuse, State.get_set_ne _ _ _ _ hkey, State.get_set_self]
  exact Nat.mod_eq_of_lt hr

/-- What a refused link key command leaves: its code in STATE.REASON, every key as it was, and no staged word (R135, R279). -/
def KeyCmdRefused (s t : State) (reason : Nat) : Prop :=
  t.get (R.HDR.REASON 0x42) = reason ∧ t.keys = s.keys ∧ t.sched.stagedKey = []

theorem clearStaged_refuse (s : State) {reason : Nat} (info : Nat) (hr : reason < 256) :
    KeyCmdRefused s (s.clearStaged.refuse 0x42 reason info) reason :=
  ⟨get_reason_refuse _ _ _ _ hr, rfl, rfl⟩

section
variable {s : State}

theorem keyLoad_valid (hv : (s.key (s.get R.LINKSEC.KEYSEL_SLOT)).valid = true) :
    s.keyLoad = s.clearStaged.refuse 0x42 0x40 0x3C := by
  simp only [State.keyLoad, hv, cond_true]

theorem keyLoad_noIndex (hv : (s.key (s.get R.LINKSEC.KEYSEL_SLOT)).valid = false)
    (hi : (s.key (s.get R.LINKSEC.KEYSEL_SLOT)).idx = 0) :
    s.keyLoad = s.clearStaged.refuse 0x42 RC.BAD_VALUE 0x28 := by
  simp only [State.keyLoad, hv, hi, cond_false]
  rfl

theorem keyLoad_indexHeld (hv : (s.key (s.get R.LINKSEC.KEYSEL_SLOT)).valid = false)
    (hi : (s.key (s.get R.LINKSEC.KEYSEL_SLOT)).idx ≠ 0)
    (ho : (s.slotOf (s.key (s.get R.LINKSEC.KEYSEL_SLOT)).idx).isSome = true) :
    s.keyLoad = s.clearStaged.refuse 0x42 RC.CONFLICT 0x28 := by
  simp only [State.keyLoad, hv, ho, natBeq, decide_eq_false hi, cond_false, cond_true]

theorem keyErase_used
    (hu : s.get R.LINKSEC.KEYSEL_SLOT = s.get R.LINKSEC.TXKEY_NET ∨
      (s.bit R.LINKSEC.KSW1_ARM = true ∧ s.get R.LINKSEC.KEYSEL_SLOT = s.get R.LINKSEC.KSW1_NEXT)) :
    s.keyErase = s.clearStaged.refuse 0x42 0x40 0x3C := by
  have hused : (Nat.beq (s.get R.LINKSEC.KEYSEL_SLOT) (s.get R.LINKSEC.TXKEY_NET) ||
      (s.bit R.LINKSEC.KSW1_ARM && Nat.beq (s.get R.LINKSEC.KEYSEL_SLOT) (s.get R.LINKSEC.KSW1_NEXT))) = true := by
    simpa only [natBeq, Bool.or_eq_true, Bool.and_eq_true, decide_eq_true_eq] using hu
  simp only [State.keyErase, hused, cond_true]

end

/-- A key command that nothing refuses at its register, and that its page refuses. -/
theorem completes_keyCmdRefused {c : Instr} {s : State} {who reason : Nat} (f : State → State) (info : Nat)
    (hc : exec c s = s.command who 0x42 0x3C f) (hw : Works s who 0x42 0x3C = true)
    (hf : f s = s.clearStaged.refuse 0x42 reason info) (hr : reason < 256) :
    Completes c s (fun t => KeyCmdRefused s t reason) :=
  ⟨f s, hc.trans (command_works f hw), hf ▸ clearStaged_refuse s info hr⟩

/-- Settles O18: every refusal clears the staged words before it records its code. -/
theorem keyRefusals : Obligations.KeyRefusals := by
  unfold Obligations.KeyRefusals
  refine ⟨?valid, ?noIndex, ?indexHeld, ?used⟩
  case valid => exact fun who s hw hv => completes_keyCmdRefused State.keyLoad _ rfl hw (keyLoad_valid hv) (by decide)
  case noIndex => exact fun who s hw hv hi => completes_keyCmdRefused State.keyLoad _ rfl hw (keyLoad_noIndex hv hi) (by decide)
  case indexHeld =>
    exact fun who s hw hv hi ho => completes_keyCmdRefused State.keyLoad _ rfl hw (keyLoad_indexHeld hv hi ho) (by decide)
  case used => exact fun who s hw hu => completes_keyCmdRefused State.keyErase _ rfl hw (keyErase_used hu) (by decide)

end Sys2Proof.Machine
end

/-! # What a register read leaves of the SPI target

`SpiStays s t` says that from `s` to `t` the SPI target is the same but for its status bit ERR, which a refused access sets (R142). The
operations that a register read calls each have it; a lemma's proof follows the operation's own text, as in the part on what every command
keeps. -/

section
namespace Sys2Proof.Machine

open Sys2Proof

/-- From `s` to `t` the SPI target changes in ERR at most. -/
def SpiStays (s t : State) : Prop := t.spi = { s.spi with err := t.spi.err }

variable {s t : State}

/-! ### Chaining -/

theorem SpiStays.refl (s : State) : SpiStays s s := rfl

theorem SpiStays.rstEn (h : SpiStays s t) : t.spi.rstEn = s.spi.rstEn := by
  rw [show t.spi = _ from h]

/-- A change outside the SPI target. -/
theorem SpiStays.outside {u : State} (h : SpiStays s t) (hu : u.spi = t.spi) : SpiStays s u := by
  rw [SpiStays, hu]
  exact h

/-- ERR is set. -/
theorem SpiStays.err {b : Bool} (h : SpiStays s t) : SpiStays s { t with spi := { t.spi with err := b } } := by
  rw [SpiStays, h]

theorem SpiStays.cond {b : Bool} {x y : State} (hx : SpiStays s x) (hy : SpiStays s y) : SpiStays s (bif b then x else y) := by
  cases b <;> assumption

theorem SpiStays.condFst {α : Type} {b : Bool} {x y : State × α} (hx : SpiStays s x.1) (hy : SpiStays s y.1) :
    SpiStays s (bif b then x else y).1 := by
  cases b <;> assumption

theorem SpiStays.foldlFst {α β : Type} {l : List α} {f : State × β → α → State × β} {r : State × β} (h : SpiStays s r.1)
    (hf : ∀ u a, SpiStays s u.1 → SpiStays s (f u a).1) : SpiStays s (l.foldl f r).1 := by
  induction l generalizing r with
  | nil => exact h
  | cons a l ih => exact ih (hf r a h)

theorem SpiStays.onlyIf {b : Bool} {f : State → State} (h : SpiStays s t) (hf : ∀ u, SpiStays s u → SpiStays s (f u)) :
    SpiStays s (t.onlyIf b f) := .cond (hf _ h) h

theorem SpiStays.each {α : Type} {l : List α} {f : α → State → State} (h : SpiStays s t)
    (hf : ∀ a u, SpiStays s u → SpiStays s (f a u)) : SpiStays s (t.each l f) := by
  unfold State.each
  induction l generalizing t with
  | nil => exact h
  | cons a l ih => exact ih (hf a t h)

/-! ### Registers and domains -/

theorem SpiStays.set {f : Fld} {v : Nat} (h : SpiStays s t) : SpiStays s (t.set f v) := h.outside (State.set_spi t f v)

theorem SpiStays.setAll {l : List (Fld × Nat)} (h : SpiStays s t) : SpiStays s (t.setAll l) := h.outside (State.setAll_spi t l)

theorem SpiStays.flags {l : List (Nat × Nat)} (h : SpiStays s t) : SpiStays s (t.flags l) := h.outside (State.flags_spi t l)

theorem SpiStays.setEng {k : Nat} {e : Engine} (h : SpiStays s t) : SpiStays s (t.setEng k e) := h.outside rfl

theorem SpiStays.startXo (h : SpiStays s t) : SpiStays s t.startXo := .cond h h.set.set

theorem SpiStays.startClocks (h : SpiStays s t) : SpiStays s t.startClocks := .cond h h.startXo.setAll

theorem SpiStays.abandonEntry {k pt : Nat} (h : SpiStays s t) : SpiStays s (t.abandonEntry k pt) :=
  (h.outside (u := t.endEntry k) rfl).set.setAll.set

theorem SpiStays.wakeDomain {k src : Nat} (h : SpiStays s t) : SpiStays s (t.wakeDomain k src) :=
  .cond h.startClocks.setAll (.cond (.cond h.abandonEntry h.startClocks.set) h)

theorem SpiStays.wakeBank {k src : Nat} (h : SpiStays s t) : SpiStays s (t.wakeBank k src).1 :=
  .condFst h (.condFst h (.condFst (.setAll (h.startClocks.outside rfl)) h.wakeDomain))

/-! ### Refusals and events -/

theorem SpiStays.noteRefusal {who reason addr : Nat} {wr : Bool} (h : SpiStays s t) :
    SpiStays s (t.noteRefusal who reason addr wr) := .cond h.setAll.set.err h.setAll.set

theorem SpiStays.noteBankOff {who sys : Nat} {wr : Bool} (h : SpiStays s t) : SpiStays s (t.noteBankOff who sys wr).1 :=
  h.noteRefusal.set

theorem SpiStays.dmaFetch {c : Nat} (h : SpiStays s t) : SpiStays s (t.dmaFetch c).1 :=
  .condFst h.wakeBank.noteBankOff.setAll.set <|
  .condFst h.wakeBank.set (.condFst h.wakeBank.set.set (.set (h.wakeBank.outside rfl)))

theorem SpiStays.dmaTrigger {c : Nat} (h : SpiStays s t) : SpiStays s (t.dmaTrigger c).1 :=
  .condFst h <|
  .condFst (h.outside rfl) (.condFst (.set (h.outside rfl)) (.condFst (.dmaFetch (h.outside rfl)) (h.outside rfl)))

theorem SpiStays.pendInput {n : Nat} (h : SpiStays s t) : SpiStays s (t.pendInput n) :=
  .cond h.wakeDomain.set.setEng h.wakeDomain.set

theorem SpiStays.capture {i count : Nat} {lf : Bool} (h : SpiStays s t) : SpiStays s (t.capture i count lf) := h.set.set.set

theorem SpiStays.deliver {n : Nat} {cap : Nat → Nat × Bool} (h : SpiStays s t) : SpiStays s (t.deliver n cap).1 :=
  .condFst h <|
  .condFst (.condFst h.set h.pendInput) (.condFst (.condFst h.capture.set.set h.capture) (.condFst h.set h.dmaTrigger))

theorem SpiStays.pulse {cap : Nat → Nat × Bool} {fuel : Nat} {ps : List Nat} (h : SpiStays s t) :
    SpiStays s (State.pulse cap fuel ps t) := by
  induction fuel generalizing t ps with
  | zero => exact h
  | succ fuel ih =>
    cases ps with
    | nil => exact h
    | cons p ps => exact ih (.flags (h.foldlFst fun _ _ hu => hu.deliver))

theorem SpiStays.latchEvent {p : Nat} (h : SpiStays s t) : SpiStays s (t.latchEvent p) :=
  .cond (.cond h.set h) (.wakeDomain (h.outside rfl))

theorem SpiStays.raise {p b : Nat} (h : SpiStays s t) : SpiStays s (t.raise p b) :=
  .cond h.set.pulse (.cond (h.set.each fun _ _ hu => hu.latchEvent) h.set)

theorem SpiStays.raiseIf {c : Bool} {p b : Nat} (h : SpiStays s t) : SpiStays s (t.raiseIf c p b) := .cond h.raise h

theorem SpiStays.refuse {p reason info : Nat} (h : SpiStays s t) : SpiStays s (t.refuse p reason info) := h.set.set

theorem SpiStays.refuseAccess {who reason addr : Nat} {wr : Bool} (h : SpiStays s t) :
    SpiStays s (t.refuseAccess who reason addr wr) := h.noteRefusal.raise

theorem SpiStays.deliverMail {dest : Nat} {m : Mail} (h : SpiStays s t) : SpiStays s (t.deliverMail dest m).1 :=
  .condFst h (.condFst h (.wakeDomain (.wakeDomain (h.outside rfl))))

/-! ### Accesses -/

theorem SpiStays.coldPage {p : Nat} (h : SpiStays s t) : SpiStays s (t.coldPage p) :=
  .cond h (.onlyIf (h.outside rfl) fun _ hu => hu.setAll)

theorem SpiStays.coldChain {k : Nat} (h : SpiStays s t) : SpiStays s (t.coldChain k) :=
  .cond h.setAll (.cond h.setAll (.cond h.set h))

theorem SpiStays.wakeReady {k : Nat} (h : SpiStays s t) : SpiStays s (t.wakeReady k) :=
  .raiseIf <| .set <| .onlyIf (.onlyIf (.onlyIf (h.outside rfl) fun _ hu => hu.outside rfl) fun _ hu => hu.each fun _ _ hv => hv.coldPage)
    fun _ hu => hu.coldChain

theorem SpiStays.wakeStart {k src : Nat} (h : SpiStays s t) : SpiStays s (t.wakeStart k src) :=
  .cond h (.setAll (h.outside rfl))

theorem SpiStays.wakeFor {k src : Nat} (h : SpiStays s t) : SpiStays s (t.wakeFor k src).1 :=
  .condFst h (.condFst h (.condFst h.wakeBank (.condFst h (.condFst h.abandonEntry h.startClocks.wakeStart.wakeReady))))

theorem SpiStays.domainOff {who addr : Nat} {wr : Bool} (h : SpiStays s t) : SpiStays s (t.domainOff who addr wr) :=
  h.refuseAccess.set.raise

theorem SpiStays.bankOff {who sys : Nat} {wr : Bool} (h : SpiStays s t) : SpiStays s (t.bankOff who sys wr) :=
  h.noteBankOff.each fun _ _ hu => hu.raise

theorem SpiStays.guard {who p off : Nat} {wr : Bool} (h : SpiStays s t) : SpiStays s (t.guard who p off wr).1 :=
  .condFst h <|
  .condFst h.wakeDomain.refuseAccess <|
  .condFst h.wakeDomain.refuseAccess <|
  .condFst h.wakeDomain.refuseAccess <|
  .condFst h.wakeDomain.domainOff (.condFst h.wakeDomain (.condFst h.wakeDomain.wakeFor h.wakeDomain.wakeFor.domainOff))

theorem SpiStays.window {who p off : Nat} {wr : Bool} (h : SpiStays s t) : SpiStays s (t.window who p off wr).1 :=
  .condFst h <|
  .condFst h.refuseAccess <|
  .condFst h.refuseAccess <|
  .condFst h.wakeFor.domainOff <|
  .condFst h.wakeFor.refuseAccess <|
  .condFst h.wakeFor.refuseAccess (.condFst h.wakeFor.wakeBank h.wakeFor.wakeBank.bankOff)

/-! ### Reads that act -/

theorem SpiStays.postDone {m : Msg} {status : Nat} (h : SpiStays s t) : SpiStays s (t.postDone m status) :=
  .cond (h.outside rfl) <|
  .cond (.cond (.raise (h.outside rfl)) (h.outside rfl)) (.cond (h.outside rfl) (h.deliverMail.outside rfl))

theorem SpiStays.donePop (h : SpiStays s t) : SpiStays s t.donePop := by
  unfold State.donePop
  split
  · exact h.outside rfl
  · exact .set (.each (h.outside rfl) fun _ _ hu => hu.postDone)

theorem SpiStays.daliPop (h : SpiStays s t) : SpiStays s t.daliPop.1 := by
  unfold State.daliPop
  split
  · exact h
  · exact h.outside rfl

theorem SpiStays.meterTake {who off live : Nat} (h : SpiStays s t) : SpiStays s (t.meterTake who off live).1 := by
  unfold State.meterTake
  dsimp only
  split
  · exact h
  · exact .condFst h (h.outside rfl)

theorem SpiStays.tagCheck (h : SpiStays s t) : SpiStays s t.tagCheck := by
  refine .cond h ?_
  dsimp only
  split
  · exact h.outside rfl
  · exact .cond (.raiseIf (.onlyIf (h.outside rfl) fun _ hu => hu.set)) (h.outside rfl)

theorem SpiStays.rtcRead {lat off : Nat} (h : SpiStays s t) : SpiStays s (t.rtcRead lat off).1 := by
  unfold State.rtcRead
  split <;> exact h.outside rfl

theorem SpiStays.capRead {i : Nat} (h : SpiStays s t) : SpiStays s (t.capRead i) :=
  (h.set (f := R.TIM.STAT_CAPFULL i) (v := 0)).outside rfl

theorem SpiStays.specialRead {lat p off : Nat} (h : SpiStays s t) : OnSome (SpiStays s ·.1) (t.specialRead lat p off) := by
  unfold State.specialRead
  split
  · exact .some h.setAll.err
  · exact .some h.set
  · exact .some (.condFst (h.outside rfl) h)
  · exact .some (.condFst (h.outside rfl) h)
  · exact .some h.donePop
  · exact .some h.daliPop
  · exact .some (h.outside rfl)
  · exact .some (h.outside rfl)
  · exact .some (.condFst h (h.outside rfl))
  · exact .some h.tagCheck.set
  · exact .cond (.some h.rtcRead) <|
      .cond (.some h.meterTake) (.cond (.some h.capRead) (.cond (.some (.condFst h h.refuse)) .none))

theorem SpiStays.regRead {who lat p off : Nat} (h : SpiStays s t) : SpiStays s (t.regRead who lat p off).1 := by
  unfold State.regRead
  refine .condFst ?_ (.condFst h.guard (.condFst h.guard.refuseAccess (.condFst h.guard ?_)))
  · dsimp only
    split <;> exact h.window
  · split
    · next r e => exact h.guard.specialRead r e
    · exact h.guard.setAll

theorem SpiStays.hostRead {addr : Nat} (h : SpiStays s t) : SpiStays s (t.hostRead addr).1 :=
  h.regRead.onlyIf fun _ hu => hu.outside rfl

end Sys2Proof.Machine
end

/-! # SPI transactions of a target that is awake -/

section
namespace Sys2Proof.Machine

open Sys2Proof

section
variable {s : State}

/-! ### Changes of the SPI target alone -/

@[simp] theorem modSpi_spi (s : State) (f : Spi → Spi) : (s.modSpi f).spi = f s.spi := rfl

@[simp] theorem modSpi_modSpi (s : State) (f g : Spi → Spi) : (s.modSpi f).modSpi g = s.modSpi (fun x => g (f x)) := rfl

/-- The status byte shows ERR and the room of the write FIFO of the target, and nothing else of it (R142). -/
theorem modSpi_statusByte {f : Spi → Spi} (retry : Bool) (herr : (f s.spi).err = s.spi.err) (hfifo : (f s.spi).wfifo = s.spi.wfifo) :
    (s.modSpi f).statusByte retry = s.statusByte retry := by
  unfold State.statusByte
  rw [modSpi_spi, herr, hfifo]
  rfl

/-- HSPI_CS has fallen: no data phase yet, and the transaction before is no RSTEN that counts any more. -/
def Spi.selected (x : Spi) : Spi := { x with rstEn := false, data := [] }

theorem transact_up (f : State → State) (h : SpiUp s = true) : s.transact f = f (s.modSpi Spi.selected) := by
  simp only [SpiUp, Bool.and_eq_true, Bool.not_eq_true'] at h
  obtain ⟨⟨hspi, halive⟩, hon⟩ := h
  simp only [State.transact, hspi, halive, hon, Bool.not_true, Bool.or_false, cond_false]
  rfl

/-! ### Posted writes (R145) -/

theorem post_room {addr w : Nat} (h : s.spi.wfifo.length < 64) :
    s.post addr w = s.modSpi (fun x => { x with wfifo := x.wfifo ++ [⟨addr, w, []⟩] }) := by
  simp only [State.post, natBlt, h, decide_true, cond_true]

theorem postBurst_one (s : State) (addr : Nat) (w : Word) : s.postBurst addr [w] = s.post addr w.toNat := rfl

theorem spiWrite_one {addr : Nat} {w : Word} (hup : SpiUp s = true) (hroom : s.spi.wfifo.length < 64) :
    s.spiWrite addr [w] = s.modSpi (fun x =>
      { x.selected with status := s.statusByte false, wfifo := x.wfifo ++ [⟨addr / 4 * 4, w.toNat, []⟩] }) := by
  rw [State.spiWrite, transact_up _ hup, postBurst_one, post_room, modSpi_statusByte false rfl rfl]
  · rfl
  · exact hroom

theorem drainOne_noPass {p : Posted} {rest : List Posted} (hfifo : s.spi.wfifo = p :: rest) (hpass : p.pass = []) :
    s.drainOne = (s.modSpi (fun x => { x with wfifo := rest })).regWrite 12 (p.addr / 256) (p.addr % 256) p.word := by
  simp only [State.drainOne, hfifo, hpass]
  rfl

theorem drainAll_nil (h : s.spi.wfifo = []) : s.drainAll = s := by
  rw [State.drainAll, h]
  rfl

/-! ### Reads of one word (R143) -/

theorem hostRead_id (h : Reaches s 12 0x00 0x00 false = true) : s.hostRead 0 = (s, s.headerWord 0 0) := by
  have hguard : s.guard HOST 0 0 false = (s, true) := guard_reaches h
  have hread : s.regRead HOST HOST 0 0 = (s, s.headerWord 0 0) := by
    simp only [State.regRead, Nat.zero_div, Nat.zero_mul, hguard]
    rfl
  unfold State.hostRead
  rw [hread]
  rfl

theorem firstWord_inTime {addr : Nat} (h : s.spi.held = none) :
    s.firstWord addr false = ((s.hostRead addr).1, some (s.hostRead addr).2) := by
  simp only [State.firstWord, State.dropHeld, h, cond_false]

theorem firstWord_late {addr : Nat} (h : s.spi.held = none) : s.firstWord addr true = (s.pendRead addr, none) := by
  simp only [State.firstWord, State.dropHeld, h, cond_false, cond_true]

theorem pendRead_selv {addr : Nat} (h : mainsReg (addr / 256) (addr % 256) = false) :
    s.pendRead addr = s.modSpi (fun x => { x with held := some (addr, none) }) := by
  simp only [State.pendRead, h, Bool.false_and, cond_false]

theorem dataPhase_answered (s : State) (addr v : Nat) (late : Option Nat) :
    s.dataPhase addr 1 (some v) late = s.modSpi (fun x => { x with status := s.statusByte false, held := none, data := [v] }) := rfl

theorem dataPhase_retry (s : State) (addr : Nat) (late : Option Nat) :
    s.dataPhase addr 1 none late = s.modSpi (fun x => { x with status := s.statusByte true, data := [0] }) := rfl

/-- A read of SYS.ID that is answered in time. -/
theorem spiRead_id_inTime (hup : SpiUp s = true) (hfifo : s.spi.wfifo = []) (hheld : s.spi.held = none)
    (hreach : Reaches s 12 0x00 0x00 false = true) :
    s.spiRead 0 1 .inTime =
      s.modSpi (fun x => { x.selected with status := s.statusByte false, held := none, data := [s.headerWord 0 0] }) := by
  have hfifo' : (s.modSpi Spi.selected).spi.wfifo = [] := hfifo
  have hheld' : (s.modSpi Spi.selected).spi.held = none := hheld
  have hreach' : Reaches (s.modSpi Spi.selected) 12 0x00 0x00 false = true := hreach
  rw [State.spiRead, transact_up _ hup, drainAll_nil hfifo']
  dsimp only
  rw [firstWord_inTime hheld', hostRead_id hreach', dataPhase_answered, modSpi_statusByte false rfl rfl]
  rfl

/-- The same read, late: it is a RETRY and stays under way. -/
theorem spiRead_id_late (hup : SpiUp s = true) (hfifo : s.spi.wfifo = []) (hheld : s.spi.held = none) :
    s.spiRead 0 1 (.late 0) =
      s.modSpi (fun x => { x.selected with status := s.statusByte true, held := some (0, none), data := [0] }) := by
  have hfifo' : (s.modSpi Spi.selected).spi.wfifo = [] := hfifo
  have hheld' : (s.modSpi Spi.selected).spi.held = none := hheld
  have hfirst : Nat.beq (BitVec.toNat (0 : Byte)) 0 = true := rfl
  rw [State.spiRead, transact_up _ hup, drainAll_nil hfifo']
  dsimp only
  rw [hfirst, firstWord_late hheld', pendRead_selv (by decide), dataPhase_retry, modSpi_modSpi, modSpi_statusByte true rfl rfl]
  rfl

theorem completeHeld_id (hheld : s.spi.held = some (0, none)) (hreach : Reaches s 12 0x00 0x00 false = true) :
    s.completeHeld.spi.held = some (0, some (s.headerWord 0 0)) ∧ s.completeHeld.regs = s.regs := by
  have hreach' (l : Bridge → List BusReq) : Reaches (s.modBridge fun b => { b with inflight := l b }) 12 0x00 0x00 false = true :=
    hreach
  unfold State.completeHeld
  rw [hheld]
  dsimp only
  rw [hostRead_id (hreach' _)]
  exact ⟨rfl, rfl⟩

/-! ### Commands without data (R140) -/

theorem completeHeld_rstEn (s : State) : s.completeHeld.spi.rstEn = s.spi.rstEn := by
  unfold State.completeHeld
  split
  · exact (SpiStays.hostRead (t := s.modBridge _) (.outside (.refl s) rfl)).rstEn
  · rfl

/-- RSTIF directly after RSTEN. -/
theorem execSpiRstif_armed (hup : SpiUp s = true) (harmed : s.spi.rstEn = true) :
    execSpiRstif s = .next ((((s.modSpi Spi.selected).completeHeld).modSpi (fun x => { x with wfifo := [], held := none })).set
      R.HOSTIF.CFG_QPI 0) := by
  simp only [execSpiRstif, harmed, cond_true]
  rw [transact_up _ hup]

/-- The table of R140, code by code. -/
theorem spiCode_unknown {code : Byte} {qpi : Bool} (hcode : code ∉ ([0x03, 0x02, 0xEB, 0x32, 0x05, 0x38, 0x66, 0x99] : List Byte))
    (hqpi : code ≠ 0xF5 ∨ qpi = false) : spiCode qpi code.toNat = none := by
  revert code qpi
  decide

theorem execSpiUnknownCommand_unknown {code : Byte} (h : spiCode (s.bit R.HOSTIF.CFG_QPI) code.toNat = none) :
    execSpiUnknownCommand code s = .next (s.transact fun s => s) := by
  simp only [execSpiUnknownCommand, h]

/-- A command whose next state has been computed. -/
theorem completes_eq {c : Instr} {t u : State} {P : State → Prop} (hc : exec c s = .next u) (hu : u = t) (hP : P t) :
    Completes c s P := ⟨t, hu ▸ hc, hP⟩

/-- A transaction that the target answers. -/
theorem completes_transact {c : Instr} {f : State → State} {P : State → Prop} (hc : exec c s = .next (s.transact f))
    (hup : SpiUp s = true) (hP : P (f (s.modSpi Spi.selected))) : Completes c s P := completes_eq hc (transact_up f hup) hP

end

/-- Settles O8: each transaction runs on the target with HSPI_CS low, and a read of SYS.ID has no effect but its answer. -/
theorem spiTransactions : Obligations.SpiTransactions := by
  unfold Obligations.SpiTransactions
  refine ⟨?wr1, ?wrq, ?drain, ?rd1, ?rdq, ?rd1Late, ?rdqLate, ?heldComplete, ?rdstat, ?enqpi, ?exqpi, ?rsten, ?rstif, ?unknown⟩
  case wr1 | wrq => exact fun addr w s hup hroom => completes_eq rfl (spiWrite_one hup hroom) ⟨rfl, rfl, rfl⟩
  case drain =>
    rintro p rest s ⟨halive, hon⟩ hfifo hpass
    change execPostedWriteDrain s = _
    rw [execPostedWriteDrain, halive, hon, drainOne_noPass hfifo hpass]
    rfl
  case rd1 | rdq =>
    exact fun s hup hfifo hheld hreach => completes_eq rfl (spiRead_id_inTime hup hfifo hheld hreach) ⟨rfl, rfl, rfl⟩
  case rd1Late | rdqLate => exact fun s hup hfifo hheld => completes_eq rfl (spiRead_id_late hup hfifo hheld) ⟨rfl, rfl, rfl, rfl⟩
  case heldComplete => exact fun s hheld hreach => ⟨_, rfl, completeHeld_id hheld hreach⟩
  case rdstat => exact fun s hup => completes_transact rfl hup ⟨modSpi_statusByte false rfl rfl, rfl⟩
  case enqpi => exact fun s hup => completes_transact rfl hup ⟨State.get_set_self .., rfl⟩
  case exqpi => exact fun s hup => completes_transact rfl hup ⟨State.get_set_self .., rfl⟩
  case rsten => exact fun s hup => completes_transact rfl hup ⟨rfl, rfl, rfl⟩
  case rstif =>
    intro s hup harmed
    refine ⟨_, execSpiRstif_armed hup harmed, rfl, rfl, State.get_set_self .., ?_⟩
    exact completeHeld_rstEn (s.modSpi Spi.selected)
  case unknown =>
    intro code s hup hcode hqpi
    have hqpi' : code ≠ 0xF5 ∨ s.bit R.HOSTIF.CFG_QPI = false := hqpi.imp_right fun h => by rw [State.bit, h]; rfl
    exact completes_transact (execSpiUnknownCommand_unknown (spiCode_unknown hcode hqpi')) hup ⟨rfl, rfl, rfl, rfl⟩

end Sys2Proof.Machine
end

/-! # The command protocol of compatibility mode -/

section
namespace Sys2Proof.Machine

open Sys2Proof

/-- `demoUart` after a LAMP_GET with SEQ 1: E9's question lies in E10's mailbox, and E10 has not answered. -/
def demoLampAsked : State := State.run demoUart (exec (.compatLampGet 1 false []) demoUart)

/-- A LAMP_GET with SEQ 2 meanwhile is answered BUSY, and the first one waits on. -/
theorem demoLampAsked_busy :
    (State.run demoLampAsked (exec (.compatLampGet 2 false []) demoLampAsked)).compat.reply = some ⟨2, 0xB1, [UR_BUSY]⟩ ∧
      (State.run demoLampAsked (exec (.compatLampGet 2 false []) demoLampAsked)).compat.lampWait = some 1 := by
  decide

/-- Refutes O9: the clause on LAMP_GET does not ask that no earlier LAMP_GET wait for E10. While one does, a second is answered BUSY and it
is the first one's SEQ that waits. -/
theorem not_uartCommands : ¬ Obligations.UartCommands := by
  unfold Obligations.UartCommands
  rintro ⟨-, -, -, -, -, -, -, -, hLampGet, -⟩
  obtain ⟨hwait, -⟩ := (hLampGet 2 false demoLampAsked (by decide) (by decide) (by decide) (by decide)).run
  obtain ⟨-, hfirst⟩ := demoLampAsked_busy
  exact absurd (hwait.symm.trans hfirst) (by decide)

end Sys2Proof.Machine
end

/-! # The RF front end -/

section
namespace Sys2Proof.Machine

open Sys2Proof

/-- The machine after commands that come one after another. -/
def runAll (s : State) (l : List Instr) : State := l.foldl (fun s i => State.run s (exec i s)) s

/-- Chain B before a transmission: nothing settles, the channel is clear, COEX_GNT is low; `lock` says whether the synthesiser locks. -/
def demoSample (lock : Bool) : TxSample := ⟨false, lock, false, 0x80, 50, 104⟩

/-! ### Calibration -/

/-- A full set runs on RF-A. Its DONE (bit 0 of RFCAL.IRQ_STAT, tap 0) triggers DMA channel 0, which is idle on a ring at 0x6_20B8_0000, a base
beyond the 28 bits of RING_BASE. -/
def demoStrayCal : State :=
  let s := demo.setAll [(R.RF.STAT_CH_ST 0, 1), (R.EVT.TAP_PAGE 0, 0x32), (R.EVT.TAP_BIT 0, 0), (R.EVT.TAP_EN 0, 1), (R.EVT.SEL_SRC 52, 64),
    (R.DMA.STAT_ST 0, 1)]
  { s with regs := s.regs.put (R.DMA.RING_BASE 0).key 0x620B8000 }

/-- A run at 1 °C in which every step passes. -/
def demoCalPass : CalResult := ⟨1, some 1, some 2, some 3, some (4, 5), some (6, 7)⟩

/-- The bank that the channel's next fetch wakes does not exist: the DOMSTAT field of its number lies where RFCAL.STAT has TEMP_CAL_A. -/
theorem demoStrayCal_domstat_key : (R.PWR.DOMSTAT (bankOf (demoStrayCal.descAddr 0))).key = (tempFld .a).key := by
  decide

/-- DONE starts the fetch after the run has stored its temperature; the wake takes the 1 for RETENTION and writes ON over it. -/
theorem demoStrayCal_temp :
    (State.run demoStrayCal (exec (.chainCalComplete .a demoCalPass) demoStrayCal)).get (tempFld .a) = 2 := by
  decide

/-- Refutes O10: the end of a run raises DONE, DONE may trigger a DMA channel, and nothing in the statement keeps the channel's RING_BASE to its
28 bits. A fetch from a ring beyond them wakes a bank that does not exist: here TEMP_CAL reads 2 after a run at 1 °C. -/
theorem not_rfCalibration : ¬ Obligations.RfCalibration := by
  unfold Obligations.RfCalibration
  rintro ⟨hPass, -⟩
  obtain ⟨-, -, -, htemp, -⟩ := (hPass .a demoCalPass 2 demoStrayCal (by decide) (by decide) (by decide) (by decide)).run
  exact absurd (htemp.symm.trans demoStrayCal_temp) (by decide)

/-! ### Reception -/

/-- RF-B has sent the frame of `demoTx` and hears what comes in the window for its acknowledgement, up to a good PHR. -/
def demoAwaiting : State :=
  runAll demoTx [.rfTxStart .b (demoSample true), .rfTxEnd .b, .energyDetect .b 5, .preambleQualified .b 200 0, .sfdDetected .b 40,
    .phrReceived .b ⟨30, true, false, false, 0, 0, true⟩ 0]

theorem demoAwaiting_await : (demoAwaiting.air .rfB).await = some demoAttempt := by decide

/-- A frame whose FCS fails. -/
def demoBadFrame : AirFrame := { demoFrame with fcs := false }

/-- Where what came in ends with a bad FCS, the acknowledgement is missed (R284), and the neighbour's misses in a row go from none to one. -/
theorem demoAwaiting_missed :
    demoAwaiting.sched.nbrs.map Nbr.miss = [0] ∧
      (State.run demoAwaiting (exec (.rfFrameEnd .b demoBadFrame demoRx) demoAwaiting)).sched.nbrs.map Nbr.miss = [1] := by
  decide

/-- Refutes O11: the clause on a bad FCS does not ask that no acknowledgement be awaited. Where one is, the frame ends the wait with a missed
acknowledgement (R284), which the neighbour table records. -/
theorem not_rfReception : ¬ Obligations.RfReception := by
  unfold Obligations.RfReception
  rintro ⟨-, -, -, -, -, -, -, -, -, -, -, -, -, hBadFcs, -⟩
  obtain ⟨-, -, hsched⟩ := (hBadFcs .b demoBadFrame demoRx demoAwaiting (by decide) (by decide) rfl).run
  obtain ⟨hbefore, hafter⟩ := demoAwaiting_missed
  rw [hsched] at hafter
  exact absurd (hbefore.symm.trans hafter) (by decide)

/-! ### Transmission -/

/-- The attempt of `demoTx` on channel 0 instead. -/
def demoRetry : Attempt := { demoAttempt with chan := 0 }

/-- RF-B is on channel 0, and its synthesiser does not lock on channel 1 for the attempt of `demoTx` (R172). The next cell arms the same frame on
channel 0. -/
def demoUnlocked : State :=
  (runAll demoTx [.rfTxStart .b (demoSample false)]).modAir .rfB (fun k => { k with armed := .tx demoRetry })

/-- The attempt on channel 0 needs no calibration of the synthesiser (R165), so the failure before it still counts. -/
theorem demoUnlocked_lockFails :
    ((State.run demoUnlocked (exec (.rfTxStart .b (demoSample true)) demoUnlocked)).chain .b).lockFails = 1 := by
  decide

/-- Refutes O13: a transmission that starts clears the chain's lock failures only where it calibrates the synthesiser. On the channel that the
chain is on, started from rest in a region without LBT, it does not, and the failure of an earlier channel change stays counted. -/
theorem not_rfTransmission : ¬ Obligations.RfTransmission := by
  unfold Obligations.RfTransmission
  rintro ⟨hStart, -⟩
  obtain ⟨-, -, -, hfails⟩ := (hStart .b (demoSample true) demoRetry
    { LinkFrame.blank with num := 1, dest := 0, ctr := some 3, cls := 2 } demoUnlocked (by decide) (by decide) (by decide) (by decide) (by decide)
    (by decide) (by decide)).run
  exact absurd (hfails.symm.trans demoUnlocked_lockFails) (by decide)

end Sys2Proof.Machine
end

/-! # The RF PHY -/

section
namespace Sys2Proof.Machine

open Sys2Proof

/-- RF-A is at the end of a frame, in the network of `demoPhr`. MIC_FAIL (bit 2 of LINKSEC.IRQ_STAT, tap 0) triggers DMA channel 0, which is
idle on a ring at 0x8_2678_0000, a base beyond the 28 bits of RING_BASE. -/
def demoStrayPhr : State :=
  let s := demoPhr.setAll [(R.EVT.TAP_PAGE 0, 0x42), (R.EVT.TAP_BIT 0, 2), (R.EVT.TAP_EN 0, 1), (R.EVT.SEL_SRC 52, 64), (R.DMA.STAT_ST 0, 1)]
  { s with regs := s.regs.put (R.DMA.RING_BASE 0).key 0x82678000 }

/-- A frame from the known neighbour under the network key, whose MIC fails. -/
def demoForgedFrame : AirFrame := { demoFrame with mic := false }

/-- The bank that the channel's next fetch wakes does not exist: the DOMSTAT field of its number lies where LINKSEC counts failed MICs. -/
theorem demoStrayPhr_domstat_key :
    (R.PWR.DOMSTAT (bankOf (demoStrayPhr.descAddr 0))).key = R.LINKSEC.CNT_MIC_FAIL.key := by
  decide

/-- The drop counts before it raises MIC_FAIL. The fetch that the flag starts takes the count of 1 for RETENTION and writes ON over it. -/
theorem demoStrayPhr_micFails :
    demoStrayPhr.get R.LINKSEC.CNT_MIC_FAIL = 0 ∧
      (State.run demoStrayPhr (exec (.rfFrameEnd .a demoForgedFrame demoRx) demoStrayPhr)).get R.LINKSEC.CNT_MIC_FAIL = 2 := by
  decide

/-- Refutes O12: the flag of a failed MIC may trigger a DMA channel, and nothing in the statement keeps the channel's RING_BASE to its 28 bits.
A fetch from a ring beyond them wakes a bank that does not exist: here one failed MIC counts as two. -/
theorem not_frameAcceptance : ¬ Obligations.FrameAcceptance := by
  unfold Obligations.FrameAcceptance
  rintro ⟨-, -, -, hMic, -⟩
  obtain ⟨hcounted, -⟩ := (hMic .a demoForgedFrame demoRx demoStrayPhr (by decide) (by decide) (by decide) (by decide) (by decide) (by decide)
    rfl (by decide)).run
  obtain ⟨hbefore, hafter⟩ := demoStrayPhr_micFails
  rw [Counted, hbefore, hafter] at hcounted
  exact absurd hcounted (by decide)

end Sys2Proof.Machine
end

/-! # The power-line PHY -/

section
namespace Sys2Proof.Machine

open Sys2Proof

/-! ### Reception -/

/-- The FCH of a ROBUST frame of 20 octets, as the receiver decodes it (R217). -/
def demoFch : BitVec 40 := BitVec.ofNat 40 (fchWord 20 0 0 0 0)

/-- PLC has sent the frame of `demoTx`, and in the window for its acknowledgement receives a frame up to a good FCH. -/
def demoPlcAwaiting : State :=
  runAll demoTx [.plcTxStart 0, .plcTxEnd 40, .plcPreambleDetect 9, .plcFchDecoded demoFch 3000]

theorem demoPlcAwaiting_await : (demoPlcAwaiting.air .plc).await = some demoAttempt := by decide +kernel

/-- Where an LDPC block of what came in fails, the acknowledgement is missed (R284), and the neighbour's misses in a row go from none to one. -/
theorem demoPlcAwaiting_missed :
    demoPlcAwaiting.sched.nbrs.map Nbr.miss = [0] ∧
      (State.run demoPlcAwaiting (exec (.plcFrameEnd false [] demoFrame demoRx) demoPlcAwaiting)).sched.nbrs.map Nbr.miss = [1] := by
  decide +kernel

/-- Refutes O14: the clause on a failed LDPC block does not ask that no acknowledgement be awaited. Where one is, the frame ends the wait with a
missed acknowledgement (R284), which the neighbour table records. -/
theorem not_plcPhy : ¬ Obligations.PlcPhy := by
  unfold Obligations.PlcPhy
  rintro ⟨-, -, -, -, -, hLdpcFail, -⟩
  obtain ⟨-, -, -, hsched⟩ := (hLdpcFail [] demoFrame demoRx demoPlcAwaiting (by decide +kernel) (by decide +kernel) (by decide +kernel)).run
  obtain ⟨hbefore, hafter⟩ := demoPlcAwaiting_missed
  rw [hsched] at hafter
  exact absurd (hbefore.symm.trans hafter) (by decide)

/-! ### Tone maps -/

/-- The node is mains-locked and a sounding run of 200 half-cycles is under way; a neighbour whose power has been measured holds tone-map slot 0,
the selected one, without a set. -/
def demoSounding : State :=
  { demo.setAll [(R.SCHED.STAT_TIMING, 2), (R.PLCPHY.SNDSTAT_HC, 200)] with plc := { demo.plc with slots := [(0, freshSlot 0 3 [300] 5)] } }

/-- The run has completed, and the slot's first set has gone out after it (R235). -/
def demoIssued : State := runAll demoSounding [.soundingRunComplete (List.replicate 16 (4, []))]

/-- The slot with that set: version 3, one region with six bits on each of the 36 subcarriers. -/
def demoIssuedSlot : ToneSlot :=
  { freshSlot 0 3 [300] 5 with cur := some ⟨3, 2, List.replicate 16 0, [(0, some (List.replicate 36 5))]⟩, sinceRun := true }

theorem demoIssued_slot : demoIssued.slot? (demoIssued.get R.TONEMAP.SEL_SLOT) = some demoIssuedSlot := by decide +kernel

/-- A REGEN before the next run issues nothing. -/
theorem demoIssued_regen :
    demoIssued.get R.TONEMAP.EVENTS_ISSUED = 1 ∧
      (State.run demoIssued (exec (.tonemapRegenOne 0) demoIssued)).get R.TONEMAP.EVENTS_ISSUED = 1 := by
  decide

/-- Refutes O15: the clause on REGEN does not ask that the slot have had no version since the last run. A version is issued no more than once
per run except on a neighbour's request (R235): after the one that the run itself brought, REGEN issues none and EVENTS.ISSUED stays. -/
theorem not_soundingAndToneMaps : ¬ Obligations.SoundingAndToneMaps := by
  unfold Obligations.SoundingAndToneMaps
  rintro ⟨-, hRegen, -⟩
  obtain ⟨-, hcounted⟩ := (hRegen 0 demoIssuedSlot demoIssued (by decide) (by decide) demoIssued_slot (by decide)).run
  obtain ⟨hbefore, hafter⟩ := demoIssued_regen
  rw [Counted, hbefore, hafter] at hcounted
  exact absurd hcounted (by decide)

end Sys2Proof.Machine
end

/-! # The link schedule -/

section
namespace Sys2Proof.Machine

open Sys2Proof

/-! ### The choice of a medium -/

/-- Of some media a cheapest is found exactly where there is one. -/
theorem cheapestOf_eq_none {cost : Medium → Nat} {l : List Medium} : cheapestOf cost l = none ↔ l = [] := by
  cases l with
  | nil => simp [cheapestOf]
  | cons m rest =>
    cases hrest : cheapestOf cost rest with
    | none => simp [cheapestOf, hrest]
    | some k => cases hlt : Nat.blt (cost k) (cost m) <;> simp [cheapestOf, hrest, hlt]

/-- The cheapest of some media is one of them, and none of them costs less. -/
theorem cheapestOf_eq_some {cost : Medium → Nat} {l : List Medium} {m : Medium} (h : cheapestOf cost l = some m) :
    m ∈ l ∧ ∀ k ∈ l, cost m ≤ cost k := by
  induction l generalizing m with
  | nil => cases h
  | cons d rest ih =>
    cases hrest : cheapestOf cost rest with
    | none =>
      obtain rfl := cheapestOf_eq_none.mp hrest
      obtain rfl : d = m := by simpa [cheapestOf] using h
      simp
    | some k =>
      obtain ⟨hk, hmin⟩ := ih hrest
      by_cases hlt : cost k < cost d
      · obtain rfl : k = m := by simpa [cheapestOf, hrest, natBlt, hlt] using h
        exact ⟨List.mem_cons_of_mem d hk, List.forall_mem_cons.mpr ⟨hlt.le, hmin⟩⟩
      · obtain rfl : d = m := by simpa [cheapestOf, hrest, natBlt, hlt] using h
        exact ⟨List.mem_cons_self, List.forall_mem_cons.mpr ⟨le_rfl, fun j hj => (not_lt.mp hlt).trans (hmin j hj)⟩⟩

/-- The media eligible for a cell and a frame, in the order of `media3`. -/
def State.eligibleMedia (s : State) (c : Cell) (f : LinkFrame) : List Medium := media3.filter (s.eligible c f)

/-- Those of them whose estimate reaches MINQ. -/
def State.goodMedia (s : State) (c : Cell) (f : LinkFrame) : List Medium :=
  (s.eligibleMedia c f).filter fun m => decide (s.now R.SCHED.LQE_MINQ ≤ s.estOf f m)

section
variable {s : State} {c : Cell} {f : LinkFrame} {m : Medium}

/-- The choice without an exclusion: among the good media where there are any, else among all eligible ones (R260). -/
theorem cheapest_none_excluded :
    s.cheapest c f none =
      cheapestOf (s.cost c f) (bif (s.goodMedia c f).isEmpty then s.eligibleMedia c f else s.goodMedia c f) := by
  simp [State.cheapest, State.goodMedia, State.eligibleMedia, natBle]

theorem mem_media3 (m : Medium) : m ∈ media3 := by
  cases m <;> decide

theorem mem_eligibleMedia : m ∈ s.eligibleMedia c f ↔ s.eligible c f m = true := by
  simp [State.eligibleMedia, mem_media3]

theorem mem_goodMedia : m ∈ s.goodMedia c f ↔ s.eligible c f m = true ∧ s.now R.SCHED.LQE_MINQ ≤ s.estOf f m := by
  simp [State.goodMedia, mem_eligibleMedia]

theorem cheapest_of_noGood (h : s.goodMedia c f = []) : s.cheapest c f none = cheapestOf (s.cost c f) (s.eligibleMedia c f) := by
  rw [cheapest_none_excluded, h]
  rfl

theorem cheapest_of_good (h : m ∈ s.goodMedia c f) : s.cheapest c f none = cheapestOf (s.cost c f) (s.goodMedia c f) := by
  rw [cheapest_none_excluded, List.isEmpty_eq_false_iff.mpr (List.ne_nil_of_mem h)]
  rfl

/-- The chosen medium is eligible. -/
theorem cheapest_eligible (h : s.cheapest c f none = some m) : s.eligible c f m = true := by
  by_cases hgood : s.goodMedia c f = []
  · rw [cheapest_of_noGood hgood] at h
    exact mem_eligibleMedia.mp (cheapestOf_eq_some h).1
  · obtain ⟨k, hk⟩ := List.exists_mem_of_ne_nil _ hgood
    rw [cheapest_of_good hk] at h
    exact (mem_goodMedia.mp (cheapestOf_eq_some h).1).1

/-- Where a good medium exists, the chosen one is good and costs no more. -/
theorem cheapest_le_good {k : Medium} (h : s.cheapest c f none = some m) (hk : k ∈ s.goodMedia c f) :
    s.now R.SCHED.LQE_MINQ ≤ s.estOf f m ∧ s.cost c f m ≤ s.cost c f k := by
  rw [cheapest_of_good hk] at h
  obtain ⟨hm, hmin⟩ := cheapestOf_eq_some h
  exact ⟨(mem_goodMedia.mp hm).2, hmin k hk⟩

theorem cheapest_eq_none : s.cheapest c f none = none ↔ s.eligibleMedia c f = [] := by
  by_cases hgood : s.goodMedia c f = []
  · rw [cheapest_of_noGood hgood, cheapestOf_eq_none]
  · obtain ⟨k, hk⟩ := List.exists_mem_of_ne_nil _ hgood
    have helig : s.eligibleMedia c f ≠ [] := List.ne_nil_of_mem (mem_eligibleMedia.mpr (mem_goodMedia.mp hk).1)
    simp only [cheapest_of_good hk, cheapestOf_eq_none, hgood, helig]

end

/-- Settles O19: the choice is the cheapest of the eligible media that reach MINQ, or of all eligible ones where none does. -/
theorem mediumChoice : Obligations.MediumChoice := by
  unfold Obligations.MediumChoice
  refine ⟨fun s c f m h => ⟨cheapest_eligible h, fun k _ hk hq => cheapest_le_good h (mem_goodMedia.mpr ⟨hk, hq⟩)⟩, fun s c f => ?_⟩
  rw [cheapest_eq_none, State.eligibleMedia, List.filter_eq_nil_iff]
  simp only [Bool.not_eq_true]

/-! ### Keep-alives -/

/-- A node in crystal timing, in SERVICE, whose contact with its time source has reached KA_S: its keep-alive has joined the queue, and the cell
that sends it is still to come. -/
def demoKeptAlive : State := runAll (demoNet.set R.SCHED.STAT_TIMING 1) [.keepaliveDue]

/-- While that keep-alive waits, no second one is queued: R268 sends one frame in the next cell. -/
theorem demoKeptAlive_waits :
    demoKeptAlive.sched.queue.length = 1 ∧
      (State.run demoKeptAlive (exec .keepaliveDue demoKeptAlive)).sched.queue.length = 1 := by
  decide

theorem length_queue_enqueue (s : State) (f : LinkFrame) : (s.enqueue f).sched.queue.length = s.sched.queue.length + 1 := by
  simp [State.enqueue]

/-- Refutes O16: the clause on keep-alives does not ask that none wait already. Until the one that is queued has gone out and is acknowledged,
KEEPALIVE_DUE adds no other. -/
theorem not_slotsAndBoundaries : ¬ Obligations.SlotsAndBoundaries := by
  unfold Obligations.SlotsAndBoundaries
  rintro ⟨-, -, -, -, hKeepalive, -⟩
  have hqueued := (hKeepalive 0 demoNbr demoKeptAlive (by decide) (by decide) (by decide) (by decide) (by decide)).run
  obtain ⟨hbefore, hafter⟩ := demoKeptAlive_waits
  rw [hqueued, length_queue_enqueue, hbefore] at hafter
  exact absurd hafter (by decide)

/-! ### Cell commands -/

/-- Cell 0 is in the table. CELL_DONE (bit 6 of SCHED.IRQ_STAT, tap 0) triggers DMA channel 0, which is idle on a ring at
0x7_EDF8_0000, a base beyond the 28 bits of RING_BASE. -/
def demoStrayCell : State :=
  let s := demo.setAll [(R.EVT.TAP_PAGE 0, 0x40), (R.EVT.TAP_BIT 0, 6), (R.EVT.TAP_EN 0, 1), (R.EVT.SEL_SRC 52, 64), (R.DMA.STAT_ST 0, 1)]
  { s with regs := s.regs.put (R.DMA.RING_BASE 0).key 0x7EDF8000, sched := { s.sched with cells := [demoCell] } }

/-- The bank that the channel's next fetch wakes does not exist: the DOMSTAT field of its number lies where CELLD3 has INDEX. -/
theorem demoStrayCell_domstat_key :
    (R.PWR.DOMSTAT (bankOf (demoStrayCell.descAddr 0))).key = R.SCHED.CELLD3_INDEX.key := by
  decide

/-- A READ shows the cell before it raises its flag. The fetch that the flag starts takes the index of 0 for OFF and writes ON over it. -/
theorem demoStrayCell_index :
    (State.run demoStrayCell (exec (.cellcmdRead 0 0) demoStrayCell)).get R.SCHED.CELLD3_INDEX = 2 := by
  decide

/-- Refutes O17: CELL_DONE may trigger a DMA channel, and nothing in the statement keeps the channel's RING_BASE to its
28 bits. A fetch from a ring beyond them wakes a bank that does not exist: here CELLD3 shows index 2 after a READ of cell 0. -/
theorem not_cellsAndKeys : ¬ Obligations.CellsAndKeys := by
  unfold Obligations.CellsAndKeys
  rintro ⟨-, -, -, hRead, -⟩
  obtain ⟨-, -, -, hindex, -⟩ := (hRead 0 0 demoCell demoStrayCell (by decide) (by decide)).run
  exact absurd (hindex.symm.trans demoStrayCell_index) (by decide)

end Sys2Proof.Machine
end

/-! # The mesh and the association table -/

section
namespace Sys2Proof.Machine

open Sys2Proof

/-- Tap 0 on IRQ_STAT bit `b` of page `p` triggers DMA channel 0, which is idle on a ring at 16 * `base`. A write of RING_BASE would cut the base
to 28 bits; here it stands as given. -/
def State.tapRing (s : State) (p b base : Nat) : State :=
  let s := s.setAll [(R.EVT.TAP_PAGE 0, p), (R.EVT.TAP_BIT 0, b), (R.EVT.TAP_EN 0, 1), (R.EVT.SEL_SRC 52, 64), (R.DMA.STAT_ST 0, 1)]
  { s with regs := s.regs.put (R.DMA.RING_BASE 0).key base }

/-! ### Joining -/

/-- A node that waits for the answer to its last request. JOIN_FAIL (bit 2 of MESH.IRQ_STAT) triggers the channel, whose ring lies at
0x8_6078_0000; the bank of that ring, domain 67600, is noted as one that wakes from OFF. -/
def demoStrayJoin : State :=
  let s := demo.setAll [(R.MESH.STAT_JOIN_ST, 3), (R.MESH.JOINWAIT_TRIES, 1)]
  { s.tapRing 0x44 2 0x86078000 with
    mesh := { s.mesh with target := some demoResult, tries := 1 }, doms := { s.doms with fromOff := [67600] } }

/-- The bank that the channel's next fetch wakes does not exist: the DOMSTAT field of its number lies where MESH.STAT has JOIN_ST. -/
theorem demoStrayJoin_domstat_key :
    bankOf (demoStrayJoin.descAddr 0) = 67600 ∧ (R.PWR.DOMSTAT 67600).key = R.MESH.STAT_JOIN_ST.key := by
  decide

/-- The join fails and JOIN_ST takes 5, FAILED, before JOIN_FAIL is raised. The wake of the fetch that the flag starts writes ON, 2, over it. -/
theorem demoStrayJoin_joinSt :
    (State.run demoStrayJoin (exec .joinWaitExpiry demoStrayJoin)).get R.MESH.STAT_JOIN_ST = 2 := by
  decide

/-- Refutes O20: JOIN_FAIL may trigger a DMA channel, and nothing in the statement keeps the channel's RING_BASE to its 28 bits, or the domains
that wake from OFF to those there are. A fetch from a ring beyond the 28 bits wakes a bank that does not exist: here a join whose last
request goes unanswered ends in SCAN_DONE, not in FAILED. -/
theorem not_joiningANetwork : ¬ Obligations.JoiningANetwork := by
  unfold Obligations.JoiningANetwork
  rintro ⟨-, -, -, -, -, -, hUnanswered⟩
  obtain ⟨hfailed, -⟩ := (hUnanswered demoResult demoStrayJoin rfl (by decide) (by decide)).run
  exact absurd (hfailed.symm.trans demoStrayJoin_joinSt) (by decide)

/-! ### Mesh commands -/

/-- JOIN_RELAY of the node 0x77, a LEAF on mains with no wake identity (R323). -/
def demoRelayBody : List Byte := [0x01] ++ leBytes 8 0x77 ++ zeros 8

/-- The COORDINATOR of `demoCoord`, where node 0x77 is PRELOADED, with that command from the ROUTER 1 in E5's mailbox. ADMITTED (bit 1 of
ASSOC.IRQ_STAT) triggers the channel, whose ring lies at 0x8_83F8_0000. -/
def demoStrayRelay : State := demoMesh (demoCoord.tapRing 0x45 1 0x883F8000) demoRelayBody 1

/-- The bank that the channel's next fetch wakes does not exist: the DOMSTAT field of its number lies where ASSOC.CNT0 has ADMIT. -/
theorem demoStrayRelay_domstat_key :
    (R.PWR.DOMSTAT (bankOf (demoStrayRelay.descAddr 0))).key = R.ASSOC.CNT0_ADMIT.key := by
  decide

/-- The admission counts before it raises its flag. The fetch that the flag starts takes the count of 1 for RETENTION and writes ON over it. -/
theorem demoStrayRelay_admits :
    (demoStrayRelay.mailPop 5).get R.ASSOC.CNT0_ADMIT = 0 ∧
      (State.run demoStrayRelay (exec .meshcmdJoinRelay demoStrayRelay)).get R.ASSOC.CNT0_ADMIT = 2 := by
  decide +kernel

/-- Refutes O21: the flag of an admission may trigger a DMA channel, and nothing in the statement keeps the channel's RING_BASE to its
28 bits. A fetch from a ring beyond them wakes a bank that does not exist: here the admission of one PRELOADED node counts as two. -/
theorem not_meshCommands : ¬ Obligations.MeshCommands := by
  unfold Obligations.MeshCommands
  rintro ⟨hRelay, -⟩
  obtain ⟨-, hcounted⟩ := (hRelay ⟨5, 1, 1, 1, 4, 1, 1, demoRelayBody, 1, false⟩ { freshAssoc 2 0x77 with state := 1 } demoStrayRelay
    (by decide) (by decide) (by decide) (by decide) rfl).run
  obtain ⟨hbefore, hafter⟩ := demoStrayRelay_admits
  rw [Counted, hbefore, hafter] at hcounted
  exact absurd hcounted (by decide)

/-! ### The association table -/

/-- An Association Request under the join key, of a node that no table lists (R304). -/
def demoRequest : AirFrame :=
  { demoFrame with kind := .command 0x01, ext := some 0x88, src := 0xFFFE, dst := 0, keyIdx := 0xFF, join := [0x02] ++ zeros 7 }

/-- A COORDINATOR with an empty table, whose ASK lets one unlisted node at a time wait for approval. Key slot 1 holds the join key, and RF-A
is at the end of a frame. -/
def demoAsking : State :=
  { demoCoord with
    assoc := { demoCoord.assoc with table := [], index := [] },
    keys := demoCoord.keys.set 1 { KeySlot.empty with idx := 0xFF, valid := true },
    radio := demoPhr.radio }.setAll [(R.RF.STAT_CH_ST 0, 4), (R.ASSOC.CFG_MAXPEND, 1), (R.ASSOC.CFG_ASK, 1)]

/-- The same after a REHASH has started and the request has come in during the rebuild. -/
def demoRehashing : State := runAll demoAsking [.assocRehash 0, .rfFrameEnd .a demoRequest demoRx]

/-- The request waits for the rebuild, as every lookup does (R311). -/
theorem demoRehashing_waits : demoRehashing.assoc.busy = true ∧ demoRehashing.mesh.relays.map Relay.ext = [0x88] := by
  decide

/-- With the rebuild's end it is judged, and the table has the node's entry. -/
theorem demoRehashing_judged :
    demoRehashing.assoc.table = [] ∧
      (State.run demoRehashing (exec .rehashComplete demoRehashing)).assoc.table.map (fun e => (e.ext, e.state)) = [(0x88, 2)] := by
  decide

/-- Refutes O22: the clause on the end of a REHASH does not ask that no join request wait for it. One that came in during the rebuild is
judged as soon as the index stands again (R308, R311), and an unlisted node's request adds a PENDING entry to the table. -/
theorem not_associationTable : ¬ Obligations.AssociationTable := by
  unfold Obligations.AssociationTable
  rintro ⟨-, -, -, -, -, -, -, -, -, -, hRehashed, -⟩
  obtain ⟨hbusy, -⟩ := demoRehashing_waits
  obtain ⟨-, hkept, -⟩ := (hRehashed demoRehashing hbusy).run
  obtain ⟨hbefore, hafter⟩ := demoRehashing_judged
  rw [hkept, hbefore] at hafter
  exact absurd hafter (by decide)

end Sys2Proof.Machine
end

/-! # Received messages and the restore -/

section
namespace Sys2Proof.Machine

open Sys2Proof

/-! ### The restore (R332, R342) -/

/-- The queue and the take records of two states are the same. -/
structure SameRecords (s t : State) : Prop where
  queue : t.msg.queue = s.msg.queue
  takes : t.msg.takes = s.msg.takes

theorem mirror_msg (s : State) (o : Mirror) : (s.mirror o).msg = s.msg := by
  unfold State.mirror
  simp only [cond_eq_ite]
  split
  · rfl
  split <;> rfl

theorem putPeer_records {s t : State} {p : Peer} (h : SameRecords s t) : SameRecords s (t.putPeer p) := by
  have hmsg : (t.putPeer p).msg = { t.msg with peers := (t.putPeer p).msg.peers } := by
    rw [State.putPeer, mirror_msg]
  exact ⟨(congrArg MsgSt.queue hmsg).trans h.queue, (congrArg MsgSt.takes hmsg).trans h.takes⟩

theorem each_records {α : Type} {l : List α} {f : α → State → State} {s t : State} (h : SameRecords s t)
    (hf : ∀ a u, SameRecords s u → SameRecords s (f a u)) : SameRecords s (t.each l f) := by
  unfold State.each
  induction l generalizing t with
  | nil => exact h
  | cons a l ih => exact ih (hf a t h)

theorem rebuildWindows_records (s : State) : SameRecords s s.rebuildWindows :=
  each_records ⟨rfl, rfl⟩ fun _ _ hu => putPeer_records hu

/-! ### Counts and held records -/

/-- A count is one up, saturating. -/
theorem counted_bump (s : State) (f : Fld) : Counted s (s.bump f) f := by
  rw [Counted, State.bump, State.get_set_self]
  have hpos := Nat.two_pow_pos f.width
  exact Nat.mod_eq_of_lt (by omega)

/-- Nothing to place, nothing placed. -/
theorem placeOffers_nil {s : State} (h : s.msg.offers = []) : s.placeOffers = s := by
  rw [State.placeOffers, h]
  rfl

theorem postHeld_nil {s : State} (h : s.msg.queue.filter (fun m => m.done.isSome) = []) : s.postHeld = s := by
  rw [State.postHeld, h]
  rfl

/-! ### A copy of a taken message (R340) -/

theorem needPeer_of_peer {s : State} {short : Nat} {p : Peer} (h : s.peer? short = some p) : s.needPeer short = (s, some p) := by
  simp only [State.needPeer, h]

/-- A fragment before the last of a message already taken counts DUP and answers nothing. -/
theorem copyFrag_more (s : State) (peer kind cls id : Nat) : s.copyFrag peer kind cls id false = s.bump R.MSG.CNT1_DUP := rfl

/-- The first fragment of an ACKED message, of no octet of one, whose ID the window holds as taken. -/
theorem fragment_copy {s : State} {src : Nat} {pay : List Byte} {p : Peer} (hlen : pay.length = 12) (hkind : (pay.getD 0 0).toNat % 8 = 0)
    (hsize : (pay.getD 10 0).toNat = 1 ∧ (pay.getD 11 0).toNat = 0 ∧ (pay.getD 8 0).toNat = 0 ∧ (pay.getD 9 0).toNat = 0)
    (hpeer : s.peer? src = some p) (hsess : p.cur = (pay.getD 1 0).toNat + 256 * (pay.getD 2 0).toNat)
    (hid : ofLe (slice pay 3 4) ≤ p.high ∧ p.high < ofLe (slice pay 3 4) + 64) (htaken : p.map.testBit (p.high - ofLe (slice pay 3 4)) = true) :
    s.fragment src pay = s.bump R.MSG.CNT1_DUP := by
  obtain ⟨hlow, hhigh, hoff, hoff'⟩ := hsize
  obtain ⟨hle, hlt⟩ := hid
  have hdata : (pay.drop 12).length = 0 := by simp [hlen]
  have hnear : ¬ ofLe (slice pay 3 4) + 63 < p.high := by omega
  simp only [State.fragment, hkind, hlow, hhigh, hoff, hoff', hdata, ← hsess, natBeq, natBle, natBlt]
  simp [needPeer_of_peer hpeer, hle, hnear, htaken, copyFrag_more]

/-! ### The tail of the receive region (R342) -/

theorem rxtailWrite_within {s : State} {v : Nat} (hoffers : s.msg.offers = []) (hv : v < s.get R.MSG.RXSIZE_BYTES)
    (htail : s.get R.MSG.RXTAIL_OFFSET ≤ v) (hhead : v ≤ s.get R.MSG.RXHEAD_OFFSET ∧ s.get R.MSG.RXHEAD_OFFSET < s.get R.MSG.RXSIZE_BYTES) :
    s.rxtailWrite v = s.set R.MSG.RXTAIL_OFFSET v := by
  obtain ⟨hle, hlt⟩ := hhead
  have hsize : max (s.get R.MSG.RXSIZE_BYTES) 1 = s.get R.MSG.RXSIZE_BYTES := by omega
  have hdist : ∀ x, s.get R.MSG.RXTAIL_OFFSET ≤ x → x < s.get R.MSG.RXSIZE_BYTES →
      (x + s.get R.MSG.RXSIZE_BYTES - s.get R.MSG.RXTAIL_OFFSET) % s.get R.MSG.RXSIZE_BYTES = x - s.get R.MSG.RXTAIL_OFFSET := by
    intro x hx hx'
    rw [Nat.sub_add_comm hx, Nat.add_mod_right, Nat.mod_eq_of_lt (by omega)]
  have hin : ¬ s.get R.MSG.RXSIZE_BYTES ≤ v := by omega
  have hbefore : ¬ s.get R.MSG.RXHEAD_OFFSET - s.get R.MSG.RXTAIL_OFFSET < v - s.get R.MSG.RXTAIL_OFFSET := by omega
  simp only [State.rxtailWrite, hsize, hdist _ (htail.trans hle) hlt, hdist v htail hv, natBle, natBlt, hin, hbefore, hoffers, decide_false,
    Bool.or_false, cond_false, List.filter_nil]
  exact placeOffers_nil hoffers

theorem rxtailWrite_beyond {s : State} {v : Nat} (hv : max (s.get R.MSG.RXSIZE_BYTES) 1 ≤ v) :
    s.rxtailWrite v = s.refuse 0x48 RC.BAD_VALUE 0x5C := by
  simp only [State.rxtailWrite, natBle, hv, decide_true, Bool.true_or, cond_true]

/-! ### The pop of a mailbox (R413) -/

/-- A message that is no DELIVER leaves the mailbox and nothing else follows. -/
theorem mailPop_plain {s : State} {k : Fin 12} {m : Mail} {l : List Mail} (hbox : (s.eng k).mailbox = m :: l) (htype : m.type ≠ 0x83)
    (hoffers : s.msg.offers = []) (hdone : s.msg.queue.filter (fun m => m.done.isSome) = []) :
    s.mailPop k = s.modEng k (fun e => { e with mailbox := l }) := by
  have hplain : (Nat.beq m.src 6 && Nat.beq m.type 0x83) = false := by simp [natBeq, htype]
  simp only [State.mailPop, hbox, hplain, cond_false]
  rw [placeOffers_nil (by exact hoffers), postHeld_nil (by exact hdone)]

/-- Settles O24: a copy, a context's end, the tail's move and refusal, a pop, the restore and the end of a kept RSP. -/
theorem receptionAndRestore : Obligations.ReceptionAndRestore := by
  unfold Obligations.ReceptionAndRestore
  refine ⟨?copy, ?timeout, ?within, ?beyond, ?pop, ?restore, ?expiry⟩
  case copy =>
    intro s src pay p hlen hkind hsize hpeer hsess hid htaken
    rw [fragment_copy hlen hkind hsize hpeer hsess hid htaken]
    exact ⟨rfl, counted_bump s _⟩
  case timeout =>
    intro peer msgid s hany
    have hexec : execReassemblyTimeout peer msgid s = .next ({ s with msg := { s.msg with contexts := s.msg.contexts.filter (fun c =>
        !(Nat.beq c.peer peer.toNat && Nat.beq c.msgid msgid.toNat && !c.complete)) } }.bump R.MSG.CNT1_REASM_DROP) := by
      simp only [execReassemblyTimeout, hany, cond_true]
    exact ⟨_, hexec, rfl, counted_bump _ _⟩
  case within =>
    intro who value s hw hoffers hv htail hhead
    refine ⟨_, (writeCmd_writes _ hw).trans (congrArg _ (rxtailWrite_within hoffers hv htail hhead)), ?_⟩
    exact (State.get_set_self ..).trans (Nat.mod_mod ..)
  case beyond =>
    intro who value s hw hv
    refine ⟨_, (writeCmd_writes _ hw).trans (congrArg _ (rxtailWrite_beyond hv)), ?_, ?_, ?_, rfl⟩
    · rw [State.refuse, State.get_set_ne _ _ _ _ (by decide), State.get_set_self]
      rfl
    · exact State.get_set_self ..
    · rw [State.refuse, State.get_set_ne _ _ _ _ (by decide), State.get_set_ne _ _ _ _ (by decide)]
  case pop =>
    intro e m l s hbox htype ⟨hoffers, hdone⟩
    refine ⟨_, congrArg Host.Outcome.next (mailPop_plain hbox htype hoffers hdone), ?_, rfl⟩
    simp [State.modEng]
  case restore =>
    intro s hr
    obtain ⟨hqueue, htakes⟩ := rebuildWindows_records s
    refine ⟨_, congrArg (bif · then _ else _) hr, ?_, ?_, ?_⟩
    · exact State.get_set_self ..
    · exact congrArg (List.map _) hqueue
    · exact htakes
  case expiry =>
    intro peer msgid s
    exact ⟨_, rfl, rfl, rfl⟩

end Sys2Proof.Machine
end

/-! # The queue and the step -/

section
namespace Sys2Proof.Machine

open Sys2Proof

/-- Settles O59: every command answers a next state that keeps the queue, by the chain of operations it is made of. -/
theorem queueKept : Obligations.QueueKept := by
  intro c s
  obtain ⟨t, ht, k⟩ := exec_advances s c
  exact ⟨t, ht, k.queue⟩

/-- Where the timers are not stitched and no sample run goes on, an LF edge changes nothing. -/
theorem lfEdge_eq_self {s : State} (hstitch : s.bit R.CLK.STAT_STITCHING = false) (hrun : ∀ n < 8, s.doms.asqLeft.look n = 0) :
    s.lfEdge = s := by
  have hnone : (List.range 8).filter (fun n => Nat.blt 0 (s.doms.asqLeft.look n)) = [] := by
    rw [List.filter_eq_nil_iff]
    intro n hn
    simp [hrun n (List.mem_range.mp hn), natBlt]
  unfold State.lfEdge
  simp only [hstitch, State.onlyIf, cond_false, hnone, State.each, List.foldl_nil]
  cases s.rtc.stopped || decide (s.mode = Mode.unpowered) || decide (s.mode = Mode.field) <;> rfl

theorem step_empty {s : State} (h : s.pending = []) : step s = .next s.lfEdge := by
  rw [step, h]

/-- Settles O56: the front of the queue is run, and an empty queue idles over one LF edge. -/
theorem stepTakesTheFront : Obligations.StepTakesTheFront := by
  unfold Obligations.StepTakesTheFront
  refine ⟨fun c s => rfl, fun s h => step_empty h, fun s h hstitch hrun => ?_⟩
  rw [step_empty h, lfEdge_eq_self hstitch hrun]

end Sys2Proof.Machine
end

/-! # The FLAGS of the Flint functions

The model computes C and V from the operands' and the result's sign bits; R392 speaks of the carry and of the exact sum or difference. -/

section
namespace Sys2Proof.Machine

open Sys2Proof

/-- The top bit's weight is half the range. -/
theorem two_pow_eq_double {w : Nat} (hw : 0 < w) : 2 ^ w = 2 * 2 ^ (w - 1) := by
  obtain ⟨n, rfl⟩ := Nat.exists_eq_succ_of_ne_zero hw.ne'
  simp [Nat.pow_succ, Nat.mul_comm]

/-- A sum below twice the range wraps at most once. -/
theorem mod_range_of_lt {n W : Nat} (h : n < 2 * W) : n % W = if n < W then n else n - W := by
  split
  · exact Nat.mod_eq_of_lt ‹_›
  · rw [Nat.mod_eq_sub_mod (by omega), Nat.mod_eq_of_lt (by omega)]

/-- C is the carry out of the exact sum, and V tells that the exact signed sum is not the result's value. -/
theorem addFlags_eq {w : Nat} (hw : 0 < w) (a b : BitVec w) (c : Bool) :
    addFlags a b c =
      (a + b + BitVec.ofNat w c.toNat,
        ⟨Nat.ble (2 ^ w) (a.toNat + b.toNat + c.toNat), a + b + BitVec.ofNat w c.toNat == 0, (a + b + BitVec.ofNat w c.toNat).msb,
          decide (a.toInt + b.toInt + c.toNat ≠ (a + b + BitVec.ofNat w c.toNat).toInt)⟩) := by
  have hr : BitVec.ofNat w (a.toNat + b.toNat + c.toNat) = a + b + BitVec.ofNat w c.toNat := by
    apply BitVec.eq_of_toNat_eq
    simp
  have hdouble := two_pow_eq_double hw
  have ha := a.isLt
  have hb := b.isLt
  have hc := c.toNat_le
  have hv : (a.msb == b.msb && !((a + b + BitVec.ofNat w c.toNat).msb == a.msb)) =
      decide (a.toInt + b.toInt + c.toNat ≠ (a + b + BitVec.ofNat w c.toNat).toInt) := by
    rw [← hr]
    simp only [BitVec.toInt_eq_msb_cond, BitVec.msb_eq_decide, BitVec.toNat_ofNat]
    rw [mod_range_of_lt (by omega)]
    generalize 2 ^ (w - 1) = W at *
    generalize a.toNat = x at *
    generalize b.toNat = y at *
    generalize c.toNat = z at *
    generalize 2 ^ w = V at *
    subst hdouble
    rw [Bool.eq_iff_iff]
    simp only [Bool.and_eq_true, Bool.not_eq_true', beq_iff_eq, beq_eq_false_iff_ne, ne_eq, decide_eq_true_eq, decide_eq_decide]
    push_cast
    split_ifs <;> omega
  simp only [addFlags, flagsOf, hr, hv]

/-- What a difference with a borrow reads as. -/
theorem toNat_sub_sub_borrow {w : Nat} (hw : 0 < w) (a b : BitVec w) (c : Bool) :
    (a - b - BitVec.ofNat w c.toNat).toNat =
      if b.toNat + c.toNat ≤ a.toNat then a.toNat - (b.toNat + c.toNat) else a.toNat + 2 ^ w - (b.toNat + c.toNat) := by
  have ha := a.isLt
  have hb := b.isLt
  have hc := c.toNat_le
  have hrange : 1 < 2 ^ w := Nat.one_lt_two_pow hw.ne'
  rw [BitVec.toNat_sub, BitVec.toNat_sub, BitVec.toNat_ofNat, Nat.mod_eq_of_lt (a := c.toNat) (by omega),
    mod_range_of_lt (n := 2 ^ w - b.toNat + a.toNat) (by omega)]
  split <;> rw [mod_range_of_lt (by omega)] <;> split_ifs <;> omega

/-- C is the borrow, and V tells that the exact signed difference is not the result's value. -/
theorem subFlags_eq {w : Nat} (hw : 0 < w) (a b : BitVec w) (c : Bool) :
    subFlags a b c =
      (a - b - BitVec.ofNat w c.toNat,
        ⟨Nat.blt a.toNat (b.toNat + c.toNat), a - b - BitVec.ofNat w c.toNat == 0, (a - b - BitVec.ofNat w c.toNat).msb,
          decide (a.toInt - b.toInt - c.toNat ≠ (a - b - BitVec.ofNat w c.toNat).toInt)⟩) := by
  have hdouble := two_pow_eq_double hw
  have ha := a.isLt
  have hb := b.isLt
  have hc := c.toNat_le
  have hv : (!(a.msb == b.msb) && !((a - b - BitVec.ofNat w c.toNat).msb == a.msb)) =
      decide (a.toInt - b.toInt - c.toNat ≠ (a - b - BitVec.ofNat w c.toNat).toInt) := by
    simp only [BitVec.toInt_eq_msb_cond, BitVec.msb_eq_decide]
    rw [toNat_sub_sub_borrow hw]
    generalize 2 ^ (w - 1) = W at *
    generalize a.toNat = x at *
    generalize b.toNat = y at *
    generalize c.toNat = z at *
    generalize 2 ^ w = V at *
    subst hdouble
    rw [Bool.eq_iff_iff]
    simp only [Bool.and_eq_true, Bool.not_eq_true', beq_eq_false_iff_ne, ne_eq, decide_eq_true_eq, decide_eq_decide]
    push_cast
    split_ifs <;> omega
  simp only [subFlags, flagsOf, hv]

end Sys2Proof.Machine
end

/-! # Flint instructions on the engine's own registers -/

section
namespace Sys2Proof.Machine

open Sys2Proof

/-! ### Instructions that execute -/

theorem words_alu (e : Engine) (fn : Alu8) (d : BitVec 3) (src : Src8) : (FOp.alu fn d src).words e = words8 src := by
  cases src <;> rfl

theorem words_aluw (e : Engine) (fn : AluW) (d : BitVec 2) (src : Src16) : (FOp.aluw fn d src).words e = words16 src := by
  cases src <;> rfl

theorem words_movp (e : Engine) (d : BitVec 2) (src : Src16) : (FOp.movp d src).words e = words16 src := by
  cases src <;> rfl

theorem words_addp (e : Engine) (d : BitVec 2) (src : Src16) : (FOp.addp d src).words e = words16 src := by
  cases src <;> rfl

section
variable {s : State} {k : Fin 12} {cond : BitVec 3}

/-- A two-operand byte instruction that executes. -/
theorem flint_alu {fn : Alu8} {d : BitVec 3} {src : Src8} {f : Engine → Engine} (hr : Runs s k (words8 src)) (hp : Passes s k cond)
    (hf : ∀ e : Engine, e.alu fn d src = f e) : s.flint k cond (.alu fn d src) = Past s k (words8 src) f :=
  flint_effect hr hp (words_alu _ fn d src) rfl rfl (by rw [← hf]; rfl)

/-- A unary byte instruction that executes. -/
theorem flint_unary {fn : Unary} {d : BitVec 3} {f : Engine → Engine} (hr : Runs s k 1) (hp : Passes s k cond)
    (hf : ∀ e : Engine, e.setG d (unary8 fn (e.g.get d) e.flags) = f e) : s.flint k cond (.unary fn d) = Past s k 1 f :=
  flint_effect hr hp rfl rfl rfl (by rw [← hf]; rfl)

/-- A word instruction that executes. -/
theorem flint_aluw {fn : AluW} {d : BitVec 2} {src : Src16} {f : Engine → Engine} (hr : Runs s k (words16 src)) (hp : Passes s k cond)
    (hf : ∀ e : Engine, e.aluw fn d src = f e) : s.flint k cond (.aluw fn d src) = Past s k (words16 src) f :=
  flint_effect hr hp (words_aluw _ fn d src) rfl rfl (by rw [← hf]; rfl)

end

/-! ### Byte functions -/

theorem width_byte_pos : 0 < 8 := by decide

/-- Settles O27: the ten functions of two operands, with the carry and the borrow of the exact sum and difference. -/
theorem flintByteArithmetic : Obligations.FlintByteArithmetic := by
  unfold Obligations.FlintByteArithmetic
  refine ⟨?mov, ?add, ?adc, ?sub, ?sbc, ?and, ?or, ?xor, ?cmp, ?tst⟩ <;> intro k cond d src s hr hp <;>
    refine congrArg Host.Outcome.next (flint_alu hr hp fun e => ?_)
  case mov => rfl
  case add => simp [Engine.alu, alu8, addFlags_eq width_byte_pos, Engine.setG]
  case adc => simp [Engine.alu, alu8, addFlags_eq width_byte_pos, Engine.setG]
  case sub => simp [Engine.alu, alu8, subFlags_eq width_byte_pos, Engine.setG]
  case sbc => simp [Engine.alu, alu8, subFlags_eq width_byte_pos, Engine.setG]
  case and => rfl
  case or => rfl
  case xor => rfl
  case cmp => simp [Engine.alu, alu8, subFlags_eq width_byte_pos]
  case tst => rfl

end Sys2Proof.Machine
end

/-! # Unary byte functions

A byte has 256 values: what the ALU's shifts and overflows read as in numbers is compared value by value. -/

section
namespace Sys2Proof.Machine

open Sys2Proof

/-- Z and N of a result, C as given, and V = 0. -/
theorem shiftFlags_eq {w : Nat} (r : BitVec w) (c : Bool) : shiftFlags r c = (r, ⟨c, r == 0, r.msb, false⟩) := rfl

theorem addFlags_one_overflow (a : Byte) : (addFlags a 1 false).2.v = (a == 0x7F) := by
  revert a; decide

theorem subFlags_one_overflow (a : Byte) : (subFlags a 1 false).2.v = (a == 0x80) := by
  revert a; decide

theorem neg_carry_overflow (a : Byte) : (subFlags 0 a false).2.c = (a != 0) ∧ (subFlags 0 a false).2.v = (a == 0x80) := by
  revert a; decide

theorem msb_eq_ble (a : Byte) : a.msb = Nat.ble 128 a.toNat := by
  revert a; decide

theorem lowBit_eq_beq (a : Byte) : a.getLsbD 0 = Nat.beq (a.toNat % 2) 1 := by
  revert a; decide

theorem shiftLeft_one_eq (a : Byte) : a <<< 1 = BitVec.ofNat 8 (2 * a.toNat) := by
  revert a; decide

theorem ushiftRight_one_eq (a : Byte) : a >>> 1 = BitVec.ofNat 8 (a.toNat / 2) := by
  revert a; decide

theorem sshiftRight_one_eq (a : Byte) : a.sshiftRight 1 = BitVec.ofInt 8 (a.toInt / 2) := by
  revert a; decide

theorem rotateLeft_carry_eq (a : Byte) (c : Bool) : (a <<< 1) ||| BitVec.ofNat 8 c.toNat = BitVec.ofNat 8 (2 * a.toNat + c.toNat) := by
  revert a c; decide

theorem rotateRight_carry_eq (a : Byte) (c : Bool) :
    (a >>> 1) ||| (BitVec.ofNat 8 c.toNat <<< (8 - 1)) = BitVec.ofNat 8 (a.toNat / 2 + 128 * c.toNat) := by
  revert a c; decide

theorem swapHalves_eq (a : Byte) : swapHalves a = BitVec.ofNat 8 (16 * (a.toNat % 16) + a.toNat / 16) := by
  revert a; decide

/-- Settles O28: the eleven functions of R391, their flags by R392. -/
theorem flintUnary : Obligations.FlintUnary := by
  unfold Obligations.FlintUnary
  refine ⟨?inc, ?dec, ?not, ?neg, ?shl, ?shr, ?asr, ?rol, ?ror, ?swap, ?clr⟩ <;> intro k cond d s hr hp <;>
    refine congrArg Host.Outcome.next (flint_unary hr hp fun e => ?_) <;> simp only [unary8, Engine.setG]
  case inc =>
    rw [← addFlags_one_overflow]
    simp [addFlags_eq width_byte_pos, keepC]
  case dec =>
    rw [← subFlags_one_overflow]
    simp [subFlags_eq width_byte_pos, keepC]
  case not => rfl
  case neg =>
    rw [← (neg_carry_overflow _).1, ← (neg_carry_overflow _).2]
    simp [subFlags_eq width_byte_pos]
  case shl => simp only [shl1, shiftFlags_eq, shiftLeft_one_eq, msb_eq_ble]
  case shr => simp only [shr1, shiftFlags_eq, ushiftRight_one_eq, lowBit_eq_beq]
  case asr => simp only [asr1, shiftFlags_eq, sshiftRight_one_eq, lowBit_eq_beq]
  case rol => simp only [rol1, shiftFlags_eq, rotateLeft_carry_eq, msb_eq_ble]
  case ror => simp only [ror1, shiftFlags_eq, rotateRight_carry_eq, lowBit_eq_beq]
  case swap => simp only [swapHalves_eq, logicFlags, flagsOf]
  case clr => simp

end Sys2Proof.Machine
end

/-! # Words, pointers, bits and flags -/

section
namespace Sys2Proof.Machine

open Sys2Proof

/-! ### Word registers as pairs of byte registers (R377) -/

theorem pair_index_cases (d : BitVec 2) : d = 0 ∨ d = 1 ∨ d = 2 ∨ d = 3 := by
  revert d; decide

theorem GRegs.putW_eq (g : GRegs) (d : BitVec 2) (v : Half) :
    g.putW d v = (g.put (d ++ 0#1) (v.setWidth 8)).put (d ++ 1#1) ((v >>> 8).setWidth 8) := by
  rcases pair_index_cases d with rfl | rfl | rfl | rfl <;> rfl

theorem GRegs.getW_eq (g : GRegs) (d : BitVec 2) : g.getW d = g.get (d ++ 1#1) ++ g.get (d ++ 0#1) := by
  rcases pair_index_cases d with rfl | rfl | rfl | rfl <;> rfl

/-! ### Multiplication -/

theorem byte_mul_lt (a b : Byte) : a.toNat * b.toNat < 2 ^ 16 :=
  (Nat.mul_lt_mul'' a.isLt b.isLt).trans_eq (by decide)

theorem word_beq_zero (n : Nat) (h : n < 2 ^ 16) : (BitVec.ofNat 16 n == 0) = Nat.beq n 0 := by
  rw [natBeq, Bool.eq_iff_iff, beq_iff_eq, decide_eq_true_eq, ← BitVec.toNat_inj, BitVec.toNat_ofNat, Nat.mod_eq_of_lt h]
  rfl

theorem word_msb (n : Nat) (h : n < 2 ^ 16) : (BitVec.ofNat 16 n).msb = Nat.ble 32768 n := by
  rw [BitVec.msb_eq_decide, BitVec.toNat_ofNat, Nat.mod_eq_of_lt h, natBle]

theorem word_low (n : Nat) : (BitVec.ofNat 16 n).setWidth 8 = BitVec.ofNat 8 n := by
  apply BitVec.eq_of_toNat_eq
  simp

theorem word_high (n : Nat) (h : n < 2 ^ 16) : (BitVec.ofNat 16 n >>> 8).setWidth 8 = BitVec.ofNat 8 (n / 256) := by
  apply BitVec.eq_of_toNat_eq
  rw [BitVec.toNat_setWidth, BitVec.toNat_ushiftRight, BitVec.toNat_ofNat, BitVec.toNat_ofNat, Nat.mod_eq_of_lt h,
    Nat.shiftRight_eq_div_pow]

theorem muluFlags_eq (a b : Byte) :
    muluFlags a b =
      (BitVec.ofNat 16 (a.toNat * b.toNat),
        ⟨Nat.ble 256 (a.toNat * b.toNat), Nat.beq (a.toNat * b.toNat) 0, Nat.ble 32768 (a.toNat * b.toNat), false⟩) := by
  have h := byte_mul_lt a b
  simp only [muluFlags, flagsOf, word_beq_zero _ h, word_msb _ h, BitVec.toNat_ofNat, Nat.mod_eq_of_lt h]

theorem Engine.mulu_eq (e : Engine) (d g : BitVec 3) :
    e.mulu d g =
      { e with
        g := (e.g.put 0 (BitVec.ofNat 8 ((e.g.get d).toNat * (e.g.get g).toNat))).put 1
          (BitVec.ofNat 8 ((e.g.get d).toNat * (e.g.get g).toNat / 256)),
        flags := ⟨Nat.ble 256 ((e.g.get d).toNat * (e.g.get g).toNat), Nat.beq ((e.g.get d).toNat * (e.g.get g).toNat) 0,
          Nat.ble 32768 ((e.g.get d).toNat * (e.g.get g).toNat), false⟩ } := by
  rw [Engine.mulu, muluFlags_eq, GRegs.putW_eq, word_low, word_high _ (byte_mul_lt _ _)]
  rfl

theorem width_word_pos : 0 < 16 := by decide

/-- Settles O29: W registers are pairs of G registers, and the word flags are those of the exact sum and difference. -/
theorem flintWordsAndPointers : Obligations.FlintWordsAndPointers := by
  unfold Obligations.FlintWordsAndPointers
  refine ⟨?addw, ?subw, ?cmpw, ?movw, ?mulu, ?movp, ?addp, ?movpw, ?movwp, ?movsp⟩
  case addw =>
    refine fun k cond d src s hr hp => congrArg Host.Outcome.next (flint_aluw hr hp fun e => ?_)
    simp [Engine.aluw, aluW, addFlags_eq width_word_pos, GRegs.putW_eq]
  case subw =>
    refine fun k cond d src s hr hp => congrArg Host.Outcome.next (flint_aluw hr hp fun e => ?_)
    simp [Engine.aluw, aluW, subFlags_eq width_word_pos, GRegs.putW_eq]
  case cmpw =>
    refine fun k cond d src s hr hp => congrArg Host.Outcome.next (flint_aluw hr hp fun e => ?_)
    simp [Engine.aluw, aluW, subFlags_eq width_word_pos]
  case movw =>
    refine fun k cond d src s hr hp => congrArg Host.Outcome.next (flint_aluw hr hp fun e => ?_)
    simp [Engine.aluw, aluW, GRegs.putW_eq]
  case mulu =>
    exact fun k cond d g s hr hp => congrArg Host.Outcome.next (flint_effect hr hp rfl rfl rfl (by rw [← Engine.mulu_eq]; rfl))
  case movp =>
    exact fun k cond d src s hr hp => congrArg Host.Outcome.next (flint_effect hr hp (words_movp _ d src) rfl rfl rfl)
  case addp =>
    exact fun k cond d src s hr hp => congrArg Host.Outcome.next (flint_effect hr hp (words_addp _ d src) rfl rfl rfl)
  case movpw =>
    exact fun k cond d w s hr hp =>
      congrArg Host.Outcome.next (flint_effect hr hp rfl rfl rfl (by simp only [← GRegs.getW_eq]; rfl))
  case movwp =>
    intro k cond d src s hr hp
    cases src <;>
      exact congrArg Host.Outcome.next (flint_effect hr hp rfl rfl rfl (by simp only [← GRegs.putW_eq]; rfl))
  case movsp => exact fun k cond p s hr hp => congrArg Host.Outcome.next (flint_effect hr hp rfl rfl rfl rfl)

/-- The bit that BTST masks out is the bit of that number. -/
theorem btst_zero (a : Byte) (b : BitVec 3) : (a &&& (1#8 <<< b.toNat) == 0) = !a.getLsbD b.toNat := by
  revert a b; decide

/-- Settles O30: a bit is changed by its mask, a flag by name. -/
theorem flintBitsAndFlags : Obligations.FlintBitsAndFlags := by
  unfold Obligations.FlintBitsAndFlags
  refine ⟨?btst, ?bset, ?bclr, ?btgl, ?clc, ?sec, ?clv, ?nop⟩
  case btst =>
    exact fun k cond d b s hr hp =>
      congrArg Host.Outcome.next (flint_effect hr hp rfl rfl rfl (by simp only [← btst_zero]; rfl))
  case bset => exact fun k cond d b s hr hp => congrArg Host.Outcome.next (flint_effect hr hp rfl rfl rfl rfl)
  case bclr => exact fun k cond d b s hr hp => congrArg Host.Outcome.next (flint_effect hr hp rfl rfl rfl rfl)
  case btgl => exact fun k cond d b s hr hp => congrArg Host.Outcome.next (flint_effect hr hp rfl rfl rfl rfl)
  case clc => exact fun k cond s hr hp => congrArg Host.Outcome.next (flint_effect hr hp rfl rfl rfl rfl)
  case sec => exact fun k cond s hr hp => congrArg Host.Outcome.next (flint_effect hr hp rfl rfl rfl rfl)
  case clv => exact fun k cond s hr hp => congrArg Host.Outcome.next (flint_effect hr hp rfl rfl rfl rfl)
  case nop => exact fun k cond s hr hp => congrArg Host.Outcome.next (flint_effect hr hp rfl rfl rfl rfl)

end Sys2Proof.Machine
end

/-! # Flint loads, stores and branches -/

section
namespace Sys2Proof.Machine

open Sys2Proof

theorem past_eng (s : State) (k : Fin 12) (n : Nat) :
    (Past s k n id).eng k = { s.eng k with pc := (s.eng k).pc + BitVec.ofNat 16 (2 * n) } :=
  State.eng_setEng _ _ _

/-! ### Local SRAM (R377, R378) -/

theorem words_ld (e : Engine) (d : BitVec 3) (ea : Ea) : (FOp.ld d ea).words e = wordsEa ea := by
  cases ea <;> rfl

theorem words_st (e : Engine) (d : BitVec 3) (ea : Ea) : (FOp.st d ea).words e = wordsEa ea := by
  cases ea <;> rfl

theorem words_ldw (e : Engine) (d : BitVec 2) (ea : Ea) : (FOp.ldw d ea).words e = wordsEa ea := by
  cases ea <;> rfl

theorem words_stw (e : Engine) (d : BitVec 2) (ea : Ea) : (FOp.stw d ea).words e = wordsEa ea := by
  cases ea <;> rfl

theorem byteRead_local (s : State) (k : Fin 12) {a : Nat} (h : a < 0x8000) :
    s.byteRead k a = .ok (s, (s.eng k).sram.look 0 a) := by
  have ha : Nat.blt a 0x8000 = true := Nat.blt_eq.mpr h
  simp only [State.byteRead, ha, cond_true]

theorem byteWrite_local (s : State) (k : Fin 12) {a : Nat} (v : Byte) (h : a < 0x8000) :
    s.byteWrite k a v = .ok (s.modEng k (fun e => { e with sram := e.sram.store 0 a v })) := by
  have ha : Nat.blt a 0x8000 = true := Nat.blt_eq.mpr h
  simp only [State.byteWrite, ha, cond_true]

theorem toNat_next {a : Half} (h : a.toNat + 1 < 0x8000) : (a + 1).toNat = a.toNat + 1 := by
  rw [BitVec.toNat_add]
  exact Nat.mod_eq_of_lt (by simp; omega)

theorem wordRead_local (s : State) (k : Fin 12) {a : Half} (h : a.toNat + 1 < 0x8000) :
    s.wordRead k a = .ok (s, (s.eng k).sram.look 0 (a.toNat + 1) ++ (s.eng k).sram.look 0 a.toNat) := by
  simp only [State.wordRead, toNat_next h, byteRead_local s k h, byteRead_local s k (Nat.lt_of_succ_lt h)]

theorem wordWrite_local (s : State) (k : Fin 12) {a : Half} (v : Half) (h : a.toNat + 1 < 0x8000) :
    s.wordWrite k a v = .ok (s.modEng k (fun e =>
      { e with sram := (e.sram.store 0 a.toNat (v.setWidth 8)).store 0 (a.toNat + 1) ((v >>> 8).setWidth 8) })) := by
  simp only [State.wordWrite, toNat_next h, byteWrite_local _ k _ h, byteWrite_local s k _ (Nat.lt_of_succ_lt h)]
  simp only [State.modEng, State.eng_setEng, State.setEng_setEng]

theorem append_low (hi lo : Byte) : (hi ++ lo).setWidth 8 = lo := by
  rw [BitVec.setWidth_append]
  simp

theorem append_high (hi lo : Byte) : ((hi ++ lo) >>> 8).setWidth 8 = hi := by
  ext i h
  have h8 : ¬ 8 + i < 8 := by omega
  rw [BitVec.getElem_setWidth, BitVec.getLsbD_ushiftRight, BitVec.getLsbD_append]
  simp [h]

theorem low_getW (g : GRegs) (d : BitVec 2) : (g.getW d).setWidth 8 = g.get (d ++ 0#1) := by
  rw [GRegs.getW_eq, append_low]

theorem high_getW (g : GRegs) (d : BitVec 2) : (g.getW d >>> 8).setWidth 8 = g.get (d ++ 1#1) := by
  rw [GRegs.getW_eq, append_high]

section
variable {s : State} {k : Fin 12} {ea : Ea}

theorem loadByte_local (d : BitVec 3) (h : (eaAddress ea (s.eng k).p (s.eng k).sp 1).toNat < 0x8000) :
    s.loadByte k d ea = .ok (s.modEng k (fun e =>
      { e with g := e.g.put d (e.sram.look 0 (eaAddress ea e.p e.sp 1).toNat), p := eaUpdate ea e.p 1 })) := by
  simp only [State.loadByte, byteRead_local s k h]
  rfl

theorem storeByte_local (d : BitVec 3) (h : (eaAddress ea (s.eng k).p (s.eng k).sp 1).toNat < 0x8000) :
    s.storeByte k d ea = .ok (s.modEng k (fun e =>
      { e with sram := e.sram.store 0 (eaAddress ea e.p e.sp 1).toNat (e.g.get d), p := eaUpdate ea e.p 1 })) := by
  simp only [State.storeByte, byteWrite_local _ k _ h, State.modEng, State.eng_setEng, State.setEng_setEng]

theorem loadWord_local (d : BitVec 2) (h : (eaAddress ea (s.eng k).p (s.eng k).sp 2).toNat + 1 < 0x8000) :
    s.loadWord k d ea = .ok (s.modEng k (fun e =>
      let a := (eaAddress ea e.p e.sp 2).toNat
      { e with g := (e.g.put (d ++ 0#1) (e.sram.look 0 a)).put (d ++ 1#1) (e.sram.look 0 (a + 1)), p := eaUpdate ea e.p 2 })) := by
  simp only [State.loadWord, wordRead_local s k h, GRegs.putW_eq, append_low, append_high]
  rfl

theorem storeWord_local (d : BitVec 2) (h : (eaAddress ea (s.eng k).p (s.eng k).sp 2).toNat + 1 < 0x8000) :
    s.storeWord k d ea = .ok (s.modEng k (fun e =>
      let a := (eaAddress ea e.p e.sp 2).toNat
      { e with sram := (e.sram.store 0 a (e.g.get (d ++ 0#1))).store 0 (a + 1) (e.g.get (d ++ 1#1)), p := eaUpdate ea e.p 2 })) := by
  simp only [State.storeWord, wordWrite_local _ k _ h, State.modEng, State.eng_setEng, State.setEng_setEng, low_getW, high_getW]

end

/-- Settles O31: an effective address in local SRAM is neither the window, the slice nor the I/O region. -/
theorem flintLocalLoadsAndStores : Obligations.FlintLocalLoadsAndStores := by
  unfold Obligations.FlintLocalLoadsAndStores
  refine ⟨?ld, ?st, ?ldw, ?stw⟩ <;> intro k cond d ea s hr hp ha <;> apply congrArg Host.Outcome.next
  case ld => exact flint_effect hr hp (words_ld _ d ea) rfl rfl (loadByte_local d (by rwa [past_eng]))
  case st => exact flint_effect hr hp (words_st _ d ea) rfl rfl (storeByte_local d (by rwa [past_eng]))
  case ldw => exact flint_effect hr hp (words_ldw _ d ea) rfl rfl (loadWord_local d (by rwa [past_eng]))
  case stw => exact flint_effect hr hp (words_stw _ d ea) rfl rfl (storeWord_local d (by rwa [past_eng]))

/-! ### Jumps and branches -/

/-- The target is the address after the instruction plus twice the signed offset (R393). -/
theorem branchTo_eq (np : Half) {w : Nat} (off : BitVec w) : branchTo np off = BitVec.ofInt 16 (np.toNat + 2 * off.toInt) := by
  have hoff : off.signExtend 16 = BitVec.ofInt 16 off.toInt := rfl
  have hnp : BitVec.ofInt 16 (np.toNat : Int) = np := by simp
  rw [branchTo, hoff, BitVec.shiftLeft_eq_mul_twoPow, BitVec.ofInt_add, BitVec.ofInt_mul, hnp, BitVec.mul_comm]
  rfl

theorem words_jmp (e : Engine) (tgt : Target) : (FOp.jmp tgt).words e = wordsTgt tgt := by
  cases tgt <;> rfl

theorem words_cb (e : Engine) (c : Cmp) (d : BitVec 3) (src : CbSrc) : (FOp.cb c d src).words e = 2 := by
  cases src <;> rfl

/-- Without a change of format waiting, a jump only moves PC. -/
theorem jumpTo_eq {s : State} {k : Fin 12} (a : Half) (h : (s.eng k).kfmtDue = false) :
    s.jumpTo k a = s.modEng k (fun e => { e with pc := a }) := by
  have hk : (Nat.beq k 0 && ((s.modEng k (fun e => { e with pc := a })).eng 0).kfmtDue) = false := by
    cases hzero : Nat.beq k 0 with
    | false => rfl
    | true =>
      obtain rfl : k = 0 := Fin.ext (Nat.eq_of_beq_eq_true hzero)
      exact h
  simp only [State.jumpTo, State.formatSwitch, hk, cond_false]

theorem djnz_zero (v : Byte) : (v - 1 == 0) = (v == 1) := by
  revert v; decide

/-- In K-format every instruction executes. -/
theorem passes_kfmt {s : State} {k : Nat} (cond : BitVec 3) (h : (s.eng k).kfmt = true) : Passes s k cond := by
  simp [Passes, h]

/-- BR stands in the E-format, BRA in the K-format (R393, R398). -/
theorem exec_br {s : State} (k : Fin 12) (cond : BitVec 3) (off : BitVec 8) (h : (s.eng k).kfmt = false) :
    exec (.br k cond off) s = .next (s.flint k cond (.br off)) := by
  rw [show exec (.br k cond off) s = .next (bif (s.eng k).kfmt then s else s.flint k cond (.br off)) from rfl, h, cond_false]

theorem exec_bra {s : State} (k : Fin 12) (off : BitVec 11) (h : (s.eng k).kfmt = true) :
    exec (.bra k off) s = .next (s.flint k 0 (.bra off)) := by
  rw [show exec (.bra k off) s = .next (bif (s.eng k).kfmt then s.flint k 0 (.bra off) else s) from rfl, h, cond_true]

theorem cb_reg (e : Engine) (c : Cmp) (d g : BitVec 3) (rel : Half) :
    e.cb c d (.reg g rel) =
      { e with pc := bif c.holds (e.g.get d) (e.g.get g) then BitVec.ofInt 16 (e.pc.toNat + 2 * rel.toInt) else e.pc } := by
  rw [← branchTo_eq]
  rfl

theorem cb_imm (e : Engine) (c : Cmp) (d : BitVec 3) (v rel : Byte) :
    e.cb c d (.imm v rel) =
      { e with pc := bif c.holds (e.g.get d) v then BitVec.ofInt 16 (e.pc.toNat + 2 * rel.toInt) else e.pc } := by
  rw [← branchTo_eq]
  rfl

theorem cbw_eq (e : Engine) (c : Cmp) (d w : BitVec 2) (rel : Half) :
    e.cbw c d w rel =
      { e with pc := bif c.holds (e.g.getW d) (e.g.getW w) then BitVec.ofInt 16 (e.pc.toNat + 2 * rel.toInt) else e.pc } := by
  rw [← branchTo_eq]
  rfl

section
variable {s : State} {k : Fin 12} {c : Cmp} {f : Engine → Engine}

/-- A compare-and-branch of bytes. -/
theorem flint_cb {d : BitVec 3} {src : CbSrc} (hr : Runs s k 2) (hk : (s.eng k).kfmt = true)
    (hreg : ∀ g rel e, src = .reg g rel → e.cb c d (.reg g rel) = f e) (himm : ∀ v rel e, src = .imm v rel → e.cb c d (.imm v rel) = f e) :
    s.flint k 0 (.cb c d src) = Past s k 2 f := by
  refine flint_effect hr (passes_kfmt 0 hk) (words_cb _ c d src) (by simp [Engine.illegal, FOp.otherFormat, hk]) rfl ?_
  cases src with
  | reg g rel => rw [← hreg g rel _ rfl]; rfl
  | imm v rel => rw [← himm v rel _ rfl]; rfl

/-- A compare-and-branch of words. -/
theorem flint_cbw {d w : BitVec 2} {rel : Half} (hr : Runs s k 2) (hk : (s.eng k).kfmt = true) (hf : ∀ e, e.cbw c d w rel = f e) :
    s.flint k 0 (.cbw c d w rel) = Past s k 2 f :=
  flint_effect hr (passes_kfmt 0 hk) rfl (by simp [Engine.illegal, FOp.otherFormat, hk]) rfl (by rw [← hf]; rfl)

end

/-- Settles O33: a branch adds its doubled offset, and compares as its name says. -/
theorem flintBranches : Obligations.FlintBranches := by
  unfold Obligations.FlintBranches
  refine ⟨?jmp, ?br, ?bra, ?djnz, ?cbeq, ?cbne, ?cblt, ?cbge, ?cbeqw, ?cbnew, ?cbltw, ?cbgew⟩
  case jmp =>
    refine fun k cond tgt s hr hp hk => congrArg Host.Outcome.next (flint_effect hr hp (words_jmp _ tgt) rfl rfl ?_)
    exact congrArg Except.ok (jumpTo_eq _ (by rwa [past_eng]))
  case br =>
    intro k cond off s hr hp hk
    rw [exec_br k cond off hk]
    exact congrArg Host.Outcome.next (flint_effect hr hp rfl rfl rfl (by rw [← branchTo_eq]; rfl))
  case bra =>
    intro k off s hr hk
    rw [exec_bra k off hk]
    exact congrArg Host.Outcome.next (flint_effect hr (passes_kfmt 0 hk) rfl rfl rfl (by rw [← branchTo_eq]; rfl))
  case djnz =>
    exact fun k cond d rel s hr hp =>
      congrArg Host.Outcome.next (flint_effect hr hp rfl rfl rfl (by rw [← branchTo_eq, ← djnz_zero]; rfl))
  case cbeq | cbne | cblt | cbge =>
    refine fun k d src s hr hk => congrArg Host.Outcome.next (flint_cb hr hk ?_ ?_)
    · rintro g rel e rfl
      exact cb_reg e _ d g rel
    · rintro v rel e rfl
      exact cb_imm e _ d v rel
  case cbeqw | cbnew | cbltw | cbgew =>
    exact fun k d w rel s hr hk => congrArg Host.Outcome.next (flint_cbw hr hk fun e => cbw_eq e _ d w rel)

end Sys2Proof.Machine
end

/-! # What events leave of the cluster -/

section
namespace Sys2Proof.Machine

open Sys2Proof

/-- The engines in the order of their indices. -/
def Engines.list (es : Engines) : List Engine :=
  [es.e0, es.e1, es.e2, es.e3, es.e4, es.e5, es.e6, es.e7, es.e8, es.e9, es.e10, es.e11]

theorem Engines.list_get (es : Engines) (j : Fin 12) : es.list[j.val]? = some (es.get j) := by
  fin_cases j <;> rfl

theorem Engines.list_put (es : Engines) (i : Fin 12) (e : Engine) : (es.put i e).list = es.list.set i e := by
  fin_cases i <;> rfl

/-- An index above 11 is that of E11. -/
theorem Engines.index_fin (es : Engines) (k : Nat) (e : Engine) : ∃ i : Fin 12, es.put k e = es.put i e ∧ es.get k = es.get i := by
  rcases Nat.lt_or_ge k 12 with hlt | hge
  · exact ⟨⟨k, hlt⟩, rfl, rfl⟩
  · obtain ⟨n, rfl⟩ := Nat.exists_eq_add_of_le' hge
    exact ⟨11, rfl, rfl⟩

/-- A replacement leaves every engine but the one it replaces. -/
theorem Engines.get_put_or (es : Engines) (j : Fin 12) (k : Nat) (e : Engine) : (es.put k e).get j = es.get j ∨ es.get k = es.get j := by
  obtain ⟨i, hput, hget⟩ := es.index_fin k e
  rw [hput, hget]
  rcases eq_or_ne i.val j.val with hij | hij
  · exact .inr (congrArg es.get hij)
  · refine .inl (Option.some.inj ?_)
    rw [← Engines.list_get, ← Engines.list_get, Engines.list_put, List.getElem?_set_ne hij]

/-- From `s` to `t` events, clocks and domains have moved on: the debugger's part of the cluster is the same, and an engine that did not wait is. -/
def Woken (s t : State) : Prop := t.cluster = s.cluster ∧ ∀ j : Fin 12, (s.eng j).run ≠ .waiting → t.eng j = s.eng j

variable {s t : State}

theorem Woken.refl (s : State) : Woken s s := ⟨rfl, fun _ _ => rfl⟩

theorem Woken.outside {u : State} (h : Woken s t) (hc : u.cluster = t.cluster) (he : u.engines = t.engines) : Woken s u := by
  obtain ⟨hcluster, heng⟩ := h
  refine ⟨hc.trans hcluster, fun j hj => ?_⟩
  rw [State.eng, he]
  exact heng j hj

theorem Woken.cond {b : Bool} {x y : State} (hx : Woken s x) (hy : Woken s y) : Woken s (bif b then x else y) := by
  cases b <;> assumption

theorem Woken.condFst {α : Type} {b : Bool} {x y : State × α} (hx : Woken s x.1) (hy : Woken s y.1) : Woken s (bif b then x else y).1 := by
  cases b <;> assumption

theorem Woken.foldlFst {α β : Type} {l : List α} {f : State × β → α → State × β} {r : State × β} (h : Woken s r.1)
    (hf : ∀ u a, Woken s u.1 → Woken s (f u a).1) : Woken s (l.foldl f r).1 := by
  induction l generalizing r with
  | nil => exact h
  | cons a l ih => exact ih (hf r a h)

theorem Woken.each {α : Type} {l : List α} {f : α → State → State} (h : Woken s t) (hf : ∀ a u, Woken s u → Woken s (f a u)) :
    Woken s (t.each l f) := by
  unfold State.each
  induction l generalizing t with
  | nil => exact h
  | cons a l ih => exact ih (hf a t h)

theorem Woken.set {f : Fld} {v : Nat} (h : Woken s t) : Woken s (t.set f v) := h.outside rfl rfl

theorem Woken.setAll {l : List (Fld × Nat)} (h : Woken s t) : Woken s (t.setAll l) := h.outside (by simp) (by simp)

theorem Woken.flags {l : List (Nat × Nat)} (h : Woken s t) : Woken s (t.flags l) := h.outside (by simp) (by simp)

theorem Woken.startClocks (h : Woken s t) : Woken s t.startClocks := .cond h (.setAll (.cond h h.set.set))

theorem Woken.abandonEntry {k pt : Nat} (h : Woken s t) : Woken s (t.abandonEntry k pt) :=
  (h.outside (u := t.endEntry k) rfl rfl).set.setAll.set

theorem Woken.wakeDomain {k src : Nat} (h : Woken s t) : Woken s (t.wakeDomain k src) :=
  .cond h.startClocks.setAll (.cond (.cond h.abandonEntry h.startClocks.set) h)

theorem Woken.wakeBank {k src : Nat} (h : Woken s t) : Woken s (t.wakeBank k src).1 :=
  .condFst h (.condFst h (.condFst (.setAll (h.startClocks.outside rfl rfl)) h.wakeDomain))

theorem Woken.noteRefusal {who reason addr : Nat} {wr : Bool} (h : Woken s t) : Woken s (t.noteRefusal who reason addr wr) :=
  .cond (.outside (t := (t.setAll _).bump R.HOSTIF.REFCNT_COUNT) h.setAll.set rfl rfl) h.setAll.set

theorem Woken.noteBankOff {who sys : Nat} {wr : Bool} (h : Woken s t) : Woken s (t.noteBankOff who sys wr).1 := h.noteRefusal.set

theorem Woken.dmaFetch {c : Nat} (h : Woken s t) : Woken s (t.dmaFetch c).1 :=
  .condFst h.wakeBank.noteBankOff.setAll.set <|
  .condFst h.wakeBank.set (.condFst h.wakeBank.set.set (.set (h.wakeBank.outside rfl rfl)))

theorem Woken.dmaTrigger {c : Nat} (h : Woken s t) : Woken s (t.dmaTrigger c).1 :=
  .condFst h <|
  .condFst (h.outside rfl rfl) (.condFst (.set (h.outside rfl rfl)) (.condFst (.dmaFetch (h.outside rfl rfl)) (h.outside rfl rfl)))

/-- An engine that waits is changed. -/
theorem Woken.setEng {k : Nat} {e : Engine} (h : Woken s t) (hw : (t.eng k).run = .waiting) : Woken s (t.setEng k e) := by
  obtain ⟨hcluster, heng⟩ := h
  refine ⟨hcluster, fun j hj => ?_⟩
  rcases Engines.get_put_or t.engines j k e with hother | hsame
  · exact hother.trans (heng j hj)
  · rw [State.eng, hsame, ← State.eng, heng j hj] at hw
    exact absurd hw hj

theorem Woken.pendInput {n : Nat} (h : Woken s t) : Woken s (t.pendInput n) := by
  have hset : Woken s ((t.wakeDomain (5 + n / 3) 1).set (R.EVT.SEL_PEND n) 1) := h.wakeDomain.set
  simp only [State.pendInput]
  cases hw : decide ((((t.wakeDomain (5 + n / 3) 1).set (R.EVT.SEL_PEND n) 1).eng (n / 3)).run = .waiting) with
  | false => exact hset
  | true => exact .cond (hset.setEng (of_decide_eq_true hw)) hset

theorem Woken.capture {i count : Nat} {lf : Bool} (h : Woken s t) : Woken s (t.capture i count lf) := h.set.set.set

theorem Woken.deliver {n : Nat} {cap : Nat → Nat × Bool} (h : Woken s t) : Woken s (t.deliver n cap).1 :=
  .condFst h <|
  .condFst (.condFst h.set h.pendInput) (.condFst (.condFst h.capture.set.set h.capture) (.condFst h.set h.dmaTrigger))

theorem Woken.pulse {cap : Nat → Nat × Bool} {fuel : Nat} {ps : List Nat} (h : Woken s t) : Woken s (State.pulse cap fuel ps t) := by
  induction fuel generalizing t ps with
  | zero => exact h
  | succ fuel ih =>
    cases ps with
    | nil => exact h
    | cons p ps => exact ih (.flags (h.foldlFst fun _ _ hu => hu.deliver))

theorem Woken.latchEvent {p : Nat} (h : Woken s t) : Woken s (t.latchEvent p) := .cond (.cond h.set h) (.wakeDomain (h.outside rfl rfl))

theorem Woken.raise {p b : Nat} (h : Woken s t) : Woken s (t.raise p b) :=
  .cond h.set.pulse (.cond (h.set.each fun _ _ hu => hu.latchEvent) h.set)

theorem Woken.bankOff {who sys : Nat} {wr : Bool} (h : Woken s t) : Woken s (t.bankOff who sys wr) :=
  h.noteBankOff.each fun _ _ hu => hu.raise

theorem Woken.bankReady {k sys : Nat} {wr : Bool} (h : Woken s t) : Woken s (t.bankReady k sys wr).1 :=
  .condFst h.wakeBank h.wakeBank.bankOff

end Sys2Proof.Machine
end

/-! # Customer instructions leave the cluster as it was (R408) -/

section
namespace Sys2Proof.Machine

open Sys2Proof

/-- An address of the engine's own memory: local SRAM or its slice. -/
def ownAddr (a : Nat) : Bool := Nat.blt a 0x8000 || (Nat.ble 0xC000 a && Nat.blt a 0xF000)

theorem bankReady_cluster (s : State) (k sys : Nat) (wr : Bool) : (s.bankReady k sys wr).1.cluster = s.cluster :=
  (Woken.refl s).bankReady.1

theorem sramWrite_cluster (s : State) (k sys : Nat) (v : Byte) : (s.sramWrite k sys v).cluster = s.cluster := by
  unfold State.sramWrite
  cases h : (s.bankReady k sys true).2 <;> simpa [h] using bankReady_cluster s k sys true

theorem not_below_slice {a : Nat} (h : Nat.ble 0xC000 a = true) : Nat.blt a 0x8000 = false ∧ Nat.blt a 0xC000 = false := by
  rw [natBle, decide_eq_true_eq] at h
  rw [natBlt, natBlt]
  constructor <;> exact decide_eq_false (by omega)

theorem byteRead_cluster {s : State} {k : Fin 12} {a : Nat} {r : State × Byte} (ha : ownAddr a = true) (h : s.byteRead k a = .ok r) :
    r.1.cluster = s.cluster := by
  simp only [ownAddr, Bool.or_eq_true, Bool.and_eq_true] at ha
  rcases ha with hlocal | ⟨hlow, hhigh⟩
  · simp only [State.byteRead, hlocal, cond_true] at h
    cases h
    rfl
  · obtain ⟨h1, h2⟩ := not_below_slice hlow
    simp only [State.byteRead, h1, h2, hhigh, cond_true, cond_false] at h
    cases h
    exact bankReady_cluster s k _ false

theorem byteWrite_cluster {s t : State} {k : Fin 12} {a : Nat} {v : Byte} (ha : ownAddr a = true) (h : s.byteWrite k a v = .ok t) :
    t.cluster = s.cluster := by
  simp only [ownAddr, Bool.or_eq_true, Bool.and_eq_true] at ha
  rcases ha with hlocal | ⟨hlow, hhigh⟩
  · simp only [State.byteWrite, hlocal, cond_true] at h
    cases h
    rfl
  · obtain ⟨h1, h2⟩ := not_below_slice hlow
    simp only [State.byteWrite, h1, h2, hhigh, cond_true, cond_false] at h
    cases h
    exact sramWrite_cluster s k _ v

/-! ### The micro-words -/

/-- Between `m` and `t` only registers of the shadow set have changed and free values been drawn. -/
def MicroRun.Stays (m t : MicroRun) : Prop := t.s.cluster = m.s.cluster ∧ t.h.buf = m.h.buf

theorem MicroRun.src8_stays {m : MicroRun} {sel imm : Nat} {a : MicroRun × Byte} (h : m.src8 sel imm = some a) : m.Stays a.1 := by
  unfold MicroRun.src8 at h
  simp only [cond_eq_ite] at h
  repeat' split at h
  all_goals cases h
  all_goals exact ⟨rfl, rfl⟩

theorem MicroRun.src16_stays {m : MicroRun} {sel imm : Nat} {a : MicroRun × Half} (h : m.src16 sel imm = some a) : m.Stays a.1 := by
  unfold MicroRun.src16 at h
  simp only [cond_eq_ite] at h
  repeat' split at h
  all_goals cases h
  all_goals exact ⟨rfl, rfl⟩

theorem MicroRun.dst8_stays {m : MicroRun} {sel : Nat} {v : Byte} {a : MicroRun} (h : m.dst8 sel v = some a) : m.Stays a := by
  unfold MicroRun.dst8 at h
  simp only [cond_eq_ite] at h
  repeat' split at h
  all_goals cases h
  all_goals exact ⟨rfl, rfl⟩
theorem MicroRun.dst16_stays {m : MicroRun} {sel : Nat} {v : Half} {a : MicroRun} (h : m.dst16 sel v = some a) : m.Stays a := by
  unfold MicroRun.dst16 at h
  simp only [cond_eq_ite] at h
  repeat' split at h
  all_goals cases h
  all_goals exact ⟨rfl, rfl⟩

/-- The store buffer holds addresses of the engine's own memory only. -/
def MicroRun.Own (m : MicroRun) : Prop := ∀ c ∈ m.h.buf, ownAddr c.1 = true

/-- From `m` to `t` the cluster is the same, and the store buffer has taken addresses of the engine's own memory at most. -/
def MicroRun.Steps (m t : MicroRun) : Prop := t.s.cluster = m.s.cluster ∧ (m.Own → t.Own)

theorem MicroRun.Steps.refl (m : MicroRun) : m.Steps m := ⟨rfl, id⟩

theorem MicroRun.Steps.trans {m t u : MicroRun} (h : m.Steps t) (h' : t.Steps u) : m.Steps u := ⟨h'.1.trans h.1, h'.2 ∘ h.2⟩

theorem MicroRun.Stays.steps {m t : MicroRun} (h : m.Stays t) : m.Steps t :=
  ⟨h.1, fun ho c hc => ho c (h.2 ▸ hc)⟩

/-- The micro-status is no part of it. -/
theorem MicroRun.steps_status (m : MicroRun) (w : Nat) (r : CpuFlags) : m.Steps { m with h := m.h.status w r } := ⟨rfl, id⟩

theorem MicroRun.load_steps {m : MicroRun} {k : Fin 12} {a : Half} {r : MicroRun × Byte} (ha : ownAddr a.toNat = true)
    (h : m.load k a = .ok r) : m.Steps r.1 := by
  unfold MicroRun.load at h
  split at h
  · cases h
    exact .refl m
  · split at h
    · cases h
    · next hread =>
      cases h
      exact ⟨byteRead_cluster ha hread, id⟩

theorem MicroRun.store_steps (m : MicroRun) {a : Nat} {v : Byte} (ha : ownAddr a = true) :
    m.Steps { m with h := { m.h with buf := m.h.buf ++ [(a, v)] } } := by
  refine ⟨rfl, fun ho c hc => ?_⟩
  rcases List.mem_append.mp hc with hc | hc
  · exact ho c hc
  · rw [List.mem_singleton.mp hc]
    exact ha

/-- An ALU micro-word's end: the destination takes the value, the micro-status follows. -/
theorem MicroRun.map_steps {m t : MicroRun} {o : Option MicroRun} {x : Flaw} {w : Nat} {r : CpuFlags} (ho : ∀ u, o = some u → m.Stays u)
    (h : (match o.map (fun u => { u with h := u.h.status w r }) with | some u => .ok u | none => .error x) = (Except.ok t : Except Flaw MicroRun)) :
    m.Steps t := by
  cases o with
  | none => cases h
  | some u =>
    cases h
    exact (ho u rfl).steps.trans (steps_status u w r)

theorem MicroRun.exec_steps {m t : MicroRun} {k : Fin 12} {w pc : Nat} (h : m.exec k w pc = .ok t) : m.Steps t := by
  unfold MicroRun.exec at h
  simp only [cond_eq_ite] at h
  split at h
  · split at h
    · cases h
    next a ha =>
    split at h
    · cases h
    next b hb =>
    exact (src8_stays ha).steps.trans ((src8_stays hb).steps.trans (map_steps (fun _ hu => dst8_stays hu) h))
  · split at h
    · cases h
    next a ha =>
    split at h
    · cases h
    next b hb =>
    exact (src16_stays ha).steps.trans ((src16_stays hb).steps.trans (map_steps (fun _ hu => dst16_stays hu) h))
  · split at h
    · cases h
    next a ha =>
    split at h
    · cases h
    next hown =>
    have hown : ownAddr a.2.toNat = true := (Bool.not_eq_false' _).mp (Bool.eq_false_of_not_eq_true hown)
    split at h
    · cases h
    next r hr =>
    exact (src16_stays ha).steps.trans ((load_steps hown hr).trans (map_steps (fun _ hu => dst8_stays hu) h))
  · split at h
    · cases h
    next a ha =>
    split at h
    · cases h
    next b hb =>
    split at h
    · cases h
    next hown =>
    have hown : ownAddr a.2.toNat = true := (Bool.not_eq_false' _).mp (Bool.eq_false_of_not_eq_true hown)
    split at h
    · cases h
    · cases h
      exact (src16_stays ha).steps.trans ((src8_stays hb).steps.trans ((store_steps b.1 hown).trans (steps_status _ w _)))
  · cases h
    exact .refl m

theorem MicroRun.loop_steps {m t : MicroRun} {k : Fin 12} {pc upc fuel : Nat} (h : m.loop k pc upc fuel = .ok t) : m.Steps t := by
  induction fuel generalizing m upc with
  | zero => cases h
  | succ fuel ih =>
    simp only [MicroRun.loop, cond_eq_ite] at h
    split at h
    · exact ih h
    split at h
    · cases h
    next u hu =>
    have hstep : m.Steps u := by
      split at hu
      · exact exec_steps hu
      · cases hu
        exact .refl m
    split at h
    · cases h
      exact hstep
    · exact hstep.trans (ih h)

theorem drainBuffer_cluster {s : State} {k : Fin 12} {l : List (Nat × Byte)} (hl : ∀ c ∈ l, ownAddr c.1 = true) :
    (s.drainBuffer k l).cluster = s.cluster := by
  induction l generalizing s with
  | nil => rfl
  | cons c l ih =>
    have hrest := fun x hx => hl x (List.mem_cons_of_mem c hx)
    unfold State.drainBuffer
    split
    next t ht => exact (ih hrest).trans (byteWrite_cluster (hl c List.mem_cons_self) ht)
    next => exact ih hrest

end Sys2Proof.Machine
end

/-! # WAIT, BRK and customer instructions -/

section
namespace Sys2Proof.Machine

open Sys2Proof

/-! ### A waiting engine and a halted one -/

theorem runs_parts {s : State} {k : Fin 12} {n : Nat} (hr : Runs s k n) :
    s.executes k = true ∧ (s.eng k).run = .running ∧ s.cluster.stepping.any (Nat.beq k) = false ∧ (s.eng k).fetchFlaw k (s.eng k).pc.toNat n = none := by
  simp only [Runs, Bool.and_eq_true, Bool.not_eq_true', decide_eq_true_eq, Option.isNone_iff_eq_none] at hr
  obtain ⟨⟨⟨hexec, hrun⟩, hstep⟩, hfetch⟩ := hr
  exact ⟨hexec, hrun, hstep, hfetch⟩

/-- An engine that executes holds no stalled post. -/
theorem runs_not_stalled {s : State} {k : Fin 12} {n : Nat} (hr : Runs s k n) : (s.eng k).stalled = none := by
  have hexec := (runs_parts hr).1
  simp only [State.executes, Bool.and_eq_true, Option.isNone_iff_eq_none] at hexec
  exact hexec.1.2

theorem past_wakeDue (s : State) (k : Fin 12) (n : Nat) : (Past s k n id).wakeDue k = s.wakeDue k := by
  simp only [State.wakeDue, past_eng]
  rfl

theorem flintOp_wait (s : State) (k : Fin 12) (pc : Nat) :
    (Past s k 1 id).flintOp k pc .wait =
      .ok ((Past s k 1 id).setEng k ((fun e => bif s.wakeDue k then e else { e with run := .waiting }) ((Past s k 1 id).eng k))) := by
  show Except.ok ((Past s k 1 id).waitOp k) = _
  rw [State.waitOp, past_wakeDue]
  cases s.wakeDue k <;> simp [Past, State.modEng]

theorem wakeEngine_eng {s : State} {k : Fin 12} (hw : (s.eng k).run = .waiting) :
    (s.wakeEngine k).eng k = { s.eng k with run := .running } := by
  have hmod : s.modEng k (fun e => bif decide (e.run = .waiting) then { e with run := .running } else e) =
      s.setEng k { s.eng k with run := .running } := by
    simp [State.modEng, hw]
  have hwoken := ((Woken.refl (s.setEng k { s.eng k with run := .running })).wakeDomain (k := 0) (src := 1)).wakeDomain (k := 5 + k) (src := 1)
  rw [State.wakeEngine, hmod, hwoken.2 k (by simp), State.eng_setEng]

/-- A running engine without a stalled post halts. -/
theorem debugHalt_eng {s : State} {k : Fin 12} (hr : (s.eng k).run = .running) (hs : (s.eng k).stalled = none) :
    (s.debugHalt k).eng k = { s.eng k with run := .halted, heldWait := false } ∧ (s.debugHalt k).cluster = s.cluster := by
  have hwoken := ((Woken.refl (s.setEng k { s.eng k with run := .halted, heldWait := false })).set (f := R.ENG.STAT_STALLED k) (v := 0)).raise
    (p := 0x10 + k) (b := 0)
  have hhalt : s.debugHalt k =
      ((s.setEng k { s.eng k with run := .halted, heldWait := false }).set (R.ENG.STAT_STALLED k) 0).raise (0x10 + k) 0 := by
    have hback : (bif (s.eng k).stalled.isSome then (s.eng k).stalled else (s.eng k).withdrawn) = (s.eng k).withdrawn := by
      rw [hs]
      rfl
    simp only [State.debugHalt, hr, hback, reduceCtorEq, decide_false]
    rw [← hs]
  rw [hhalt]
  exact ⟨by rw [hwoken.2 k (by simp), State.eng_setEng], hwoken.1⟩

theorem brk_eq {s : State} {k : Fin 12} {cond : BitVec 3} (hr : Runs s k 1) (hp : Passes s k cond) (hd : s.debugIsOpen = true) :
    s.flint k cond .brk = (Past s k 1 id).debugHalt k := by
  have hdebug : (Past s k 1 id).debugIsOpen = true := hd
  have hhalt := debugHalt_eng (s := Past s k 1 id) (k := k) (by rw [past_eng]; exact (runs_parts hr).2.1) (by rw [past_eng]; exact runs_not_stalled hr)
  refine flint_eq hr hp rfl rfl ?_ ?_ ?_
  · simp [State.brkClosed, hd]
  · simp [State.flintOp, hdebug]
  · rw [hhalt.2]
    rfl

/-! ### Customer instructions -/

theorem custom_of_loop {s : State} {k : Fin 12} {pc : Nat} {n : BitVec 4} {x : BitVec 5} {ext : Half} {m : MicroRun}
    (h : MicroRun.loop ⟨s,
      { g := (s.eng k).g, p := (s.eng k).p, flags := (s.eng k).flags, t0 := 0, t1 := 0, u := ⟨false, false, false, false⟩, buf := [],
        sp := (s.eng k).sp, x := x, ext := bif entryExt ((s.eng k).entry n.toNat) then ext else 0,
        xuse := entryXuse ((s.eng k).entry n.toNat), fmask := entryMask ((s.eng k).entry n.toNat) }⟩ k pc
      (entryStart ((s.eng k).entry n.toNat)) 1024 = .ok m) :
    s.custom k pc n x ext =
      .ok ((m.s.modEng k (fun e => { e with g := m.h.g, p := m.h.p, flags := m.h.flags })).drainBuffer k m.h.buf) := by
  simp only [State.custom, h]

theorem custom_eq {s : State} {k : Fin 12} {cond : BitVec 3} {n : BitVec 4} {x : BitVec 5} {ext : Half} {m : MicroRun}
    (hr : Runs s k (bif entryExt ((s.eng k).entry n.toNat) then 2 else 1)) (hp : Passes s k cond) (hk : (s.eng k).kfmt = false)
    (hc : (s.eng k).customOk n x = true)
    (hm : MicroRun.loop ⟨Past s k (bif entryExt ((s.eng k).entry n.toNat) then 2 else 1) id,
      { g := (s.eng k).g, p := (s.eng k).p, flags := (s.eng k).flags, t0 := 0, t1 := 0, u := ⟨false, false, false, false⟩, buf := [],
          sp := (s.eng k).sp, x := x, ext := bif entryExt ((s.eng k).entry n.toNat) then ext else 0,
          xuse := entryXuse ((s.eng k).entry n.toNat), fmask := entryMask ((s.eng k).entry n.toNat) }⟩ k (s.eng k).pc.toNat
      (entryStart ((s.eng k).entry n.toNat)) 1024 = .ok m) :
    s.flint k cond (.cust n x ext) =
      (m.s.modEng k (fun e => { e with g := m.h.g, p := m.h.p, flags := m.h.flags })).drainBuffer k m.h.buf := by
  obtain ⟨hcluster, hown⟩ := MicroRun.loop_steps hm
  refine flint_eq hr hp rfl ?_ rfl ?_ ?_
  · simp [Engine.illegal, FOp.otherFormat, hk, hc]
  · exact custom_of_loop (by rw [past_eng]; exact hm)
  · have hdrain := drainBuffer_cluster (s := m.s.modEng k (fun e => { e with g := m.h.g, p := m.h.p, flags := m.h.flags })) (k := k)
      (hown (by simp [MicroRun.Own]))
    rw [hdrain]
    exact congrArg Cluster.stepping hcluster

/-- The decode entry of R404: VALID, XUSE G, FMASK and START as given, no extension word. -/
theorem entry_fields {mask start d : Nat} (hm : mask < 16) (hs : start < 256) (hd : d = 0x10200 + 0x1000 * mask + start) :
    d.testBit 16 = true ∧ entryExt d = false ∧ entryXuse d = 1 ∧ entryMask d = mask ∧ entryStart d = start := by
  simp only [entryExt, entryXuse, entryMask, entryStart, Nat.testBit_eq_decide_div_mod_eq, decide_eq_true_eq, decide_eq_false_iff_not]
  omega

/-- The micro-word of R405: ALU8 with destination and first source a G register, the second XREG, with FL and END, unconditional. -/
theorem microWord_fields {d src fn w : Nat} (hd : d < 8) (hs : src < 8) (hf : fn < 16)
    (hw : w = 0x10080C00 + 0x1000000 * d + 0x100000 * src + 0x1000 * fn) :
    (uop w = 1 ∧ uPred w = 0 ∧ uFl w = true ∧ uEnd w = true) ∧ uDst w = d ∧ uSrcA w = src ∧ uSrcB w = 8 ∧ uFn w = fn := by
  simp only [uop, uDst, uSrcA, uSrcB, uFn, uFl, uEnd, uPred, Nat.testBit_eq_decide_div_mod_eq, decide_eq_true_eq]
  omega

theorem MicroRun.src8_g (m : MicroRun) (imm : Nat) {sel : Nat} (h : sel < 8) : m.src8 sel imm = some (m, m.h.g.get (BitVec.ofNat 3 sel)) := by
  simp [MicroRun.src8, natBlt, h]

theorem MicroRun.src8_xreg (m : MicroRun) (imm : Nat) (h : m.h.xuse = 1) : m.src8 8 imm = some (m, m.h.g.get (m.h.x.setWidth 3)) := by
  simp [MicroRun.src8, MicroSet.xregBad, natBlt, natBeq, h]

theorem MicroRun.dst8_g (m : MicroRun) (v : Byte) {sel : Nat} (h : sel < 8) :
    m.dst8 sel v = some { m with h := { m.h with g := m.h.g.put (BitVec.ofNat 3 sel) v } } := by
  simp [MicroRun.dst8, natBlt, h]

/-- The one micro-word ends the instruction with its register and flags. -/
theorem loop_alu {m : MicroRun} {k : Fin 12} {pc d src fn start : Nat} (fuel : Nat) (hd : d < 8) (hs : src < 8) (hf : fn < 16)
    (hx : m.h.xuse = 1) (hw : (m.s.eng k).microWord start = 0x10080C00 + 0x1000000 * d + 0x100000 * src + 0x1000 * fn)
    {r : Byte × CpuFlags} (hr : microAlu fn (m.h.g.get (BitVec.ofNat 3 src)) (m.h.g.get (m.h.x.setWidth 3)) m.h.u = r) :
    m.loop k pc start (fuel + 1) =
      .ok { m with h := { m.h with g := m.h.g.put (BitVec.ofNat 3 d) r.1, u := ⟨r.2.c, r.2.z, false, false⟩,
                                   flags := flWrite m.h.fmask fn m.h.flags r.2 } } := by
  obtain ⟨⟨hop, hpred, hfl, hend⟩, hdst, ha, hb, hfn⟩ := microWord_fields hd hs hf hw
  simp [MicroRun.loop, MicroRun.exec, hop, hpred, hfl, hend, hdst, ha, hb, hfn, CpuFlags.pred, natBeq, MicroRun.src8_g, MicroRun.src8_xreg,
    MicroRun.dst8_g, MicroSet.status, hd, hs, hx, hr]

/-- A logic function under FL: C stays, V falls to 0 where FMASK names it. -/
theorem flWrite_logic {mask fn : Nat} (hc : carries fn = false) (old u : CpuFlags) (r : Byte) :
    flWrite mask fn old (logicFlags r u).2 =
      ⟨old.c, bif mask.testBit 1 then r == 0 else old.z, bif mask.testBit 2 then r.msb else old.n, bif mask.testBit 3 then false else old.v⟩ := by
  simp [flWrite, hc, logicFlags, flagsOf]

/-- A customer instruction of one logic micro-word writes its register and the flags of FMASK. -/
theorem custom_logic {s : State} {k : Fin 12} {cond : BitVec 3} {n : BitVec 4} {x : BitVec 5} {ext : Half} {mask start d src fn : Nat}
    {op : Byte → Byte → Byte} (hop : ∀ (a b : Byte) u, microAlu fn a b u = logicFlags (op a b) u) (hcarry : carries fn = false) (hfn : fn < 16)
    (hr : Runs s k 1) (hp : Passes s k cond) (he : (s.eng k).kfmt = false ∧ (s.eng k).mc = .measured)
    (hb : mask < 16 ∧ start < 256 ∧ d < 8 ∧ src < 8 ∧ x.toNat < 8) (hd : (s.eng k).decode.look n.toNat = 0x10200 + 0x1000 * mask + start)
    (hm : (s.eng k).micro.look start = 0x10080C00 + 0x1000000 * d + 0x100000 * src + 0x1000 * fn) :
    s.flint k cond (.cust n x ext) = Past s k 1 (fun e =>
      let a := e.g.get (BitVec.ofNat 3 src); let b := e.g.get (x.setWidth 3); let r := op a b
      { e with
          g := e.g.put (BitVec.ofNat 3 d) r,
          flags := ⟨e.flags.c, bif mask.testBit 1 then r == 0 else e.flags.z, bif mask.testBit 2 then r.msb else e.flags.n,
            bif mask.testBit 3 then false else e.flags.v⟩ }) := by
  obtain ⟨hmask, hstart, hdst, hsrc, hx⟩ := hb
  obtain ⟨hk, hmc⟩ := he
  obtain ⟨hvalid, hext, hxuse, hfmask, hstartOf⟩ := entry_fields (d := (s.eng k).entry n.toNat) hmask hstart hd
  have hok : (s.eng k).customOk n x = true := by
    simp [Engine.customOk, hmc, hvalid, xuseOk, hxuse, natBlt, hx]
  have hloop := loop_alu (m := ⟨Past s k 1 id,
      { g := (s.eng k).g, p := (s.eng k).p, flags := (s.eng k).flags, t0 := 0, t1 := 0, u := ⟨false, false, false, false⟩, buf := [],
        sp := (s.eng k).sp, x := x, ext := 0, xuse := 1, fmask := mask }⟩)
    (k := k) (pc := (s.eng k).pc.toNat) 1023 hdst hsrc hfn rfl (by rw [past_eng]; exact hm) (hop _ _ _)
  rw [custom_eq (by rwa [hext]) hp hk hok (by rw [hext, hxuse, hfmask, hstartOf]; exact hloop)]
  simp only [State.drainBuffer, State.modEng, past_eng, flWrite_logic hcarry]
  simp [Past, logicFlags]

/-- Settles O35: WAIT, its end, BRK under debug access, and customer instructions by their micro-words. FL takes C from the functions with a
carry only (log entry 31), so XOR, AND and OR keep it. -/
theorem flintWaitAndCustomer : Obligations.FlintWaitAndCustomer := by
  unfold Obligations.FlintWaitAndCustomer
  refine ⟨?wait, ?wake, ?brk, ?custom, ?xor, ?and, ?or⟩
  case wait =>
    intro k cond s hr hp
    exact congrArg Host.Outcome.next (flint_effect hr hp rfl rfl rfl (flintOp_wait s k _))
  case wake =>
    intro k s halive hwake hdom hwait
    have hon : (bif s.alive && s.wakeDue k && !Nat.beq (s.dom (5 + k)) 0 then s.wakeEngine k else s) = s.wakeEngine k := by
      have hdom : s.dom (5 + k) ≠ 0 := hdom
      simp [halive, hwake, natBeq, hdom]
    exact ⟨s.wakeEngine k, congrArg Host.Outcome.next hon, wakeEngine_eng hwait⟩
  case brk =>
    intro k cond s hr hp hd
    refine ⟨(Past s k 1 id).debugHalt k, congrArg Host.Outcome.next (brk_eq hr hp hd), ?_⟩
    have hhalt := debugHalt_eng (s := Past s k 1 id) (k := k) (by rw [past_eng]; exact (runs_parts hr).2.1)
      (by rw [past_eng]; exact runs_not_stalled hr)
    refine hhalt.1.trans ?_
    rw [past_eng]
    rfl
  case custom =>
    intro k cond n x ext s m hr hp hk hc hm
    exact congrArg Host.Outcome.next (custom_eq hr hp hk hc hm)
  case xor =>
    intro k cond n x ext mask start d src s hr hp he hb hd hm
    exact congrArg Host.Outcome.next (custom_logic (op := (· ^^^ ·)) (fun _ _ _ => rfl) rfl (by decide) hr hp he hb hd hm)
  case and =>
    intro k cond n x ext mask start d src s hr hp he hb hd hm
    exact congrArg Host.Outcome.next (custom_logic (op := (· &&& ·)) (fun _ _ _ => rfl) rfl (by decide) hr hp he hb hd hm)
  case or =>
    intro k cond n x ext mask start d src s hr hp he hb hd hm
    exact congrArg Host.Outcome.next (custom_logic (op := (· ||| ·)) (fun _ _ _ => rfl) rfl (by decide) hr hp he hb hd hm)

end Sys2Proof.Machine
end

/-! # DMA descriptors and the parameter block of the public-key unit -/

section
namespace Sys2Proof.Machine

open Sys2Proof

/-- DMA channel 3, stopped at a descriptor that copies 16 bytes and has bit 24 of its word LEN set, a reserved bit. -/
def demoReservedLen : State :=
  { demoDesc 0 with mem := Memory.storeList 0 (demoDesc 0).mem 0x20000008 (leBytes 4 0x1000010) }

/-- RUN of that channel ends in ERROR: the check takes the whole word, in which a reserved bit is set (R463). -/
theorem demoReservedLen_error :
    (State.run demoReservedLen (exec (.dmaRunSet 0 3) demoReservedLen)).get (R.DMA.STAT_ST 3) = 4 := by
  decide

/-- Refutes O44: the third clause cuts LEN to its 24 bits before it asks for the descriptor's check, so it does not see the reserved bits.
A descriptor that sets one of them is in ERROR, not READY or ACTIVE. -/
theorem not_dmaChannels : ¬ Obligations.DmaChannels := by
  unfold Obligations.DmaChannels
  rintro ⟨-, -, hRun, -⟩
  obtain ⟨hfetched, -⟩ := (hRun 0 3 ⟨0x20000100, 0x20000200, 16, 1141⟩ demoReservedLen (by decide) (by decide) (by decide) (by decide) (by decide)
    (by decide) (by decide)).run
  exact absurd (hfetched.symm.trans demoReservedLen_error) (by decide)

/-- A parameter block of which only the first 16 bytes lie in bank 3. -/
def demoShortParam : State := demo.set R.PKE.PARAM_ADDR 0x201FFFF

/-- VERIFY takes 240 bytes and is refused: BUSY stays 0 (R491, R498). -/
theorem demoShortParam_refused :
    (State.run demoShortParam (exec (.pkeVerify 0) demoShortParam)).get R.PKE.STAT_BUSY = 0 := by
  decide

/-- Refutes O48: the first clause asks only for the first byte of the parameter block to lie in bank 3. A VERIFY whose 240 bytes run over
the bank's end is refused. -/
theorem not_publicKeyAndDebug : ¬ Obligations.PublicKeyAndDebug := by
  unfold Obligations.PublicKeyAndDebug
  rintro ⟨hVerify, -⟩
  obtain ⟨-, hbusy, -⟩ := (hVerify 0 demoShortParam (by decide) (by decide) (by decide) (by decide) (by decide)).run
  exact absurd (hbusy.symm.trans demoShortParam_refused) (by decide)

end Sys2Proof.Machine
end

/-! # Clauses that a stray fetch of the DMA refutes

A flag that a command raises may trigger DMA channel 0, which then fetches a descriptor and wakes its ring's bank. Nothing in these statements
keeps the ring to the banks there are. The DOMSTAT field of a bank that does not exist lies on another field of the register map, and the wake
writes ON, 2, over it. -/

section
namespace Sys2Proof.Machine

open Sys2Proof

/-! ### Messages -/

/-- A message whose lifetime has ended. EXPIRED (bit 0 of MSG.IRQ_STAT) triggers the channel, whose ring lies at 0x8_EA18_0000. -/
def demoStrayExpiry : State :=
  let s := demoSend.tapRing 0x48 0 0x8EA18000
  { s with msg := { s.msg with queue := [{ demoMsg with msgid := 3, phase := 1 }] } }

theorem demoStrayExpiry_domstat_key :
    (R.PWR.DOMSTAT (bankOf (demoStrayExpiry.descAddr 0))).key = R.MSG.CNT2_EXPIRED.key := by
  decide

/-- The expiry counts before it raises its flag. The fetch takes the count of 1 for RETENTION and writes ON over it. -/
theorem demoStrayExpiry_expired :
    demoStrayExpiry.get R.MSG.CNT2_EXPIRED = 0 ∧
      (State.run demoStrayExpiry (exec (.messageExpired 1) demoStrayExpiry)).get R.MSG.CNT2_EXPIRED = 2 := by
  decide

/-- Refutes O23: a completion's flag may trigger a DMA channel, and nothing in the statement keeps the channel's RING_BASE to its 28 bits.
With a ring beyond them the expiry of one message counts as two. -/
theorem not_messageCommands : ¬ Obligations.MessageCommands := by
  unfold Obligations.MessageCommands
  rintro ⟨-, -, -, -, -, -, -, hExpired, -⟩
  obtain ⟨-, -, hcounted⟩ := (hExpired 1 { demoMsg with msgid := 3, phase := 1 } demoStrayExpiry (by decide) (by decide) (by decide) (by decide)
    (by decide)).run
  obtain ⟨hbefore, hafter⟩ := demoStrayExpiry_expired
  rw [Counted, hbefore, hafter] at hcounted
  exact absurd hcounted (by decide)

/-! ### The pair -/

/-- A HELLO whose check is 0. -/
def demoBadHello : Hello := ⟨true, false, 9, 9, 0, false, 0, 0⟩

/-- A module that links. MISMATCH (bit 3 of PAIR.IRQ_STAT) triggers the channel, whose ring lies at 0x9_60D8_0000. -/
def demoStrayHello : State := (demo.set R.PAIR.STAT_PST 1).tapRing 0x4C 3 0x960D8000

theorem demoStrayHello_domstat_key :
    (R.PWR.DOMSTAT (bankOf (demoStrayHello.descAddr 0))).key = R.PAIR.STAT_MMCAUSE.key := by
  decide

/-- MMCAUSE takes KEY, 1, before the flag is raised. The fetch takes it for RETENTION and writes ON over it. -/
theorem demoStrayHello_cause :
    (State.run demoStrayHello (exec (.basaltHello demoBadHello 0) demoStrayHello)).get R.PAIR.STAT_MMCAUSE = 2 := by
  decide

/-- Refutes O25: the flag of a mismatch may trigger a DMA channel, and nothing in the statement keeps the channel's RING_BASE to its 28 bits.
With a ring beyond them MMCAUSE shows 2 after a HELLO with a wrong check, not KEY. -/
theorem not_pairLink : ¬ Obligations.PairLink := by
  unfold Obligations.PairLink
  rintro ⟨hHello, -⟩
  obtain ⟨hcause, -⟩ := (hHello demoBadHello 0 demoStrayHello (by decide) (by decide) (by decide)).run
  exact absurd (hcause.symm.trans demoStrayHello_cause) (by decide)

/-- A PRIMARY with a partner. PEER (bit 2 of PAIR.IRQ_STAT) triggers the channel, whose ring lies at 0x9_6078_0000. -/
def demoStraySilence : State := (demo.set R.PAIR.STAT_PST 4).tapRing 0x4C 2 0x96078000

theorem demoStraySilence_domstat_key :
    (R.PWR.DOMSTAT (bankOf (demoStraySilence.descAddr 0))).key = R.PAIR.STAT_PST.key := by
  decide

/-- PST takes SOLO, 3, before the flag is raised. The fetch takes it for a domain in transition and writes ON over it. -/
theorem demoStraySilence_pst :
    (State.run demoStraySilence (exec (.partnerSilence 0) demoStraySilence)).get R.PAIR.STAT_PST = 2 := by
  decide

/-- Refutes O26: the flag of a lost partner may trigger a DMA channel, and nothing in the statement keeps the channel's RING_BASE to its
28 bits. With a ring beyond them a PRIMARY whose partner falls silent is in state 2, not SOLO. -/
theorem not_takeoverAndHandover : ¬ Obligations.TakeoverAndHandover := by
  unfold Obligations.TakeoverAndHandover
  rintro ⟨-, hSilent, -⟩
  obtain ⟨hsolo, -⟩ := (hSilent 0 demoStraySilence (by decide) (by decide)).run
  exact absurd (hsolo.symm.trans demoStraySilence_pst) (by decide)

/-! ### Flint faults -/

/-- E10 at address 0 with an empty stack. The capture of a fault (bit 0 of FAULT.IRQ_STAT) triggers the channel, whose ring lies at
0x60F8_0000, outside shared SRAM. -/
def demoStrayFault : State := (demo.modEng 10 (fun e => { e with sp := 0 })).tapRing 0x04 0 0x60F8000

theorem demoStrayFault_domstat_key :
    (R.PWR.DOMSTAT (bankOf (demoStrayFault.descAddr 0))).key = R.FAULT.P_ADDR_ADDR.key := by
  decide

/-- The primary slot holds address 0 before the flag is raised. The fetch takes it for OFF and writes ON over it. -/
theorem demoStrayFault_push_address :
    (State.run demoStrayFault (exec (.push 10 0 0) demoStrayFault)).get R.FAULT.P_ADDR_ADDR = 2 := by
  decide

/-- The same for a BRK while debug access is closed. -/
theorem demoStrayFault_brk_address :
    (State.run demoStrayFault (exec (.brk 10 0) demoStrayFault)).get R.FAULT.P_ADDR_ADDR = 2 := by
  decide

/-- Refutes O32: the capture of a fault may trigger a DMA channel, and nothing in the statement keeps the channel's ring to shared SRAM.
With a ring outside it the primary slot shows address 2 after a PUSH at address 0 that raises STACK. -/
theorem not_flintStack : ¬ Obligations.FlintStack := by
  unfold Obligations.FlintStack
  rintro ⟨-, -, -, -, -, -, -, -, -, -, hPush, -⟩
  obtain ⟨-, -, -, -, -, -, -, -, -, haddr⟩ := (hPush 10 0 0 demoStrayFault (by decide) (by decide) (by decide) (by decide)).run
  exact absurd (haddr.symm.trans demoStrayFault_push_address) (by decide)

/-- Refutes O34: the clause on BRK with debug access closed fails in the same way as the faults of O32. -/
theorem not_flintConditions : ¬ Obligations.FlintConditions := by
  unfold Obligations.FlintConditions
  rintro ⟨-, -, -, -, -, -, -, -, -, -, -, -, -, -, -, -, -, -, -, -, -, -, -, -, -, -, -, -, -, -, -, -, -, -, -, -, -, -, -, -, -, -, -, -, -,
    -, -, -, -, -, -, -, -, -, -, -, -, -, -, hBrk, -⟩
  obtain ⟨-, -, -, -, haddr⟩ := (hBrk 10 0 demoStrayFault (by decide) (by decide) (by decide)).run
  exact absurd (haddr.symm.trans demoStrayFault_brk_address) (by decide)

/-! ### Microcode -/

/-- E3 is in reset with a micro-word at 7 that no entry reaches. MC_INVALID (bit 0 of MCODE.IRQ_STAT) triggers the channel, whose ring lies
at 0x2_4008_0000. -/
def demoStrayCommit : State :=
  ((demo.set R.MCODE.SEL_ENG 3).modEng 3 (fun e => { e with micro := [(7, 1)] })).tapRing 0x1C 0 0x24008000

theorem demoStrayCommit_domstat_key :
    (R.PWR.DOMSTAT (bankOf (demoStrayCommit.descAddr 0))).key = (R.ENG.STAT_MC_OK 3).key := by
  decide

/-- MC_OK is 0 after the failed check. The fetch takes it for OFF and writes ON over it. -/
theorem demoStrayCommit_ok :
    (State.run demoStrayCommit (exec (.mcodeCommit 0) demoStrayCommit)).get (R.ENG.STAT_MC_OK 3) = 2 := by
  decide

/-- Refutes O37: MC_INVALID may trigger a DMA channel, and nothing in the statement keeps the channel's RING_BASE to its 28 bits. With a ring
beyond them MC_OK does not read 0 after the COMMIT of a table that fails the load check. -/
theorem not_microcode : ¬ Obligations.Microcode := by
  unfold Obligations.Microcode
  rintro ⟨-, -, -, -, hCommit, -⟩
  obtain ⟨-, hok, -⟩ := (hCommit 0 7 demoStrayCommit (by decide) (by decide) (by decide)).run
  exact absurd (hok.symm.trans demoStrayCommit_ok) (by decide)

/-! ### The collector and the event fabric -/

/-- The arrival of a post (bit 0 of COLLECT.IRQ_STAT) triggers the channel, whose ring lies at 0x3_82F8_0000. -/
def demoStrayPost : State := demo.tapRing 0x1D 0 0x382F8000

theorem demoStrayPost_domstat_key :
    (R.PWR.DOMSTAT (bankOf (demoStrayPost.descAddr 0))).key = R.COLLECT.CNT_POSTS.key := by
  decide

/-- The post is counted before the flag is raised. The fetch takes the count of 1 for RETENTION and writes ON over it. -/
theorem demoStrayPost_posts :
    demoStrayPost.get R.COLLECT.CNT_POSTS = 0 ∧
      (State.run demoStrayPost (exec (.collectPost 10 0 false 0) demoStrayPost)).get R.COLLECT.CNT_POSTS = 2 := by
  decide

/-- Refutes O39: the collector's flag may trigger a DMA channel, and nothing in the statement keeps the channel's RING_BASE to its 28 bits.
With a ring beyond them one post counts as two. -/
theorem not_mailboxesAndCollector : ¬ Obligations.MailboxesAndCollector := by
  unfold Obligations.MailboxesAndCollector
  rintro ⟨-, -, -, hPost, -⟩
  obtain ⟨-, hcounted, -⟩ := (hPost 10 0 false 0 demoStrayPost (by decide)).run
  obtain ⟨hbefore, hafter⟩ := demoStrayPost_posts
  rw [Counted, hbefore, hafter] at hcounted
  exact absurd hcounted (by decide)

/-- Input 7 and DMA channel 0 select the software event of E10. The channel is idle on a ring at 0x3_E3B8_0000. -/
def demoStraySignal : State :=
  let s := demo.setAll [(R.EVT.SEL_SRC 7, 26), (R.EVT.SEL_SRC 52, 26), (R.DMA.STAT_ST 0, 1)]
  { s with regs := s.regs.put (R.DMA.RING_BASE 0).key 0x3E3B8000 }

theorem demoStraySignal_domstat_key :
    (R.PWR.DOMSTAT (bankOf (demoStraySignal.descAddr 0))).key = (R.EVT.SEL_PEND 7).key := by
  decide

/-- PEND of input 7 is set before the event reaches the channel. The fetch takes it for RETENTION and writes ON over it. -/
theorem demoStraySignal_pend :
    (State.run demoStraySignal (exec (.swevSignal 10) demoStraySignal)).get (R.EVT.SEL_PEND 7) = 2 := by
  decide

/-- Refutes O40: an event that reaches an engine input may also trigger a DMA channel, and nothing in the statement keeps the channel's
RING_BASE to its 28 bits. With a ring beyond them PEND does not read 1. -/
theorem not_eventFabric : ¬ Obligations.EventFabric := by
  unfold Obligations.EventFabric
  rintro ⟨hSignal, -⟩
  obtain ⟨hpend, -⟩ := (hSignal 10 7 demoStraySignal (by decide) (by decide) (by decide) (by decide)).run
  exact absurd (hpend.symm.trans demoStraySignal_pend) (by decide)

/-! ### The real-time clock -/

/-- The clock runs. The flag of a second (bit 2 of RTC.IRQ_STAT) triggers the channel, whose ring lies at 0x4_DD80_0000. -/
def demoStraySecond : State :=
  { demo.tapRing 0x28 2 0x4DD80000 with rtc := { demo.rtc with stopped := false, shift := 0, count := 100000 } }

theorem demoStraySecond_domstat_key :
    (R.PWR.DOMSTAT (bankOf (demoStraySecond.descAddr 0))).key = (R.HDR.IRQ 0x28 2).key := by
  decide

/-- The flag is set when it triggers the channel. The fetch takes it for RETENTION and writes ON over it. -/
theorem demoStraySecond_flag :
    (State.run demoStraySecond (exec (.rtcSecond false) demoStraySecond)).get (R.HDR.IRQ 0x28 2) = 2 := by
  decide

/-- Refutes O42: the flag of a second may trigger a DMA channel, and nothing in the statement keeps the channel's RING_BASE to its 28 bits.
With a ring beyond them the flag does not read 1. -/
theorem not_realTimeClock : ¬ Obligations.RealTimeClock := by
  unfold Obligations.RealTimeClock
  rintro ⟨hSecond, -⟩
  obtain ⟨-, hflag, -⟩ := (hSecond false demoStraySecond (by decide) (by decide)).run
  exact absurd (hflag.symm.trans demoStraySecond_flag) (by decide)

/-- Alarm 0 is due at the next second. Its flag (bit 0 of RTC.IRQ_STAT) triggers the channel, whose ring lies at 0x4_DD78_0000. -/
def demoStrayAlarm : State :=
  let s := (demo.setAll [(R.RTC.ALM_CTL_EN 0, 1), (R.RTC.ALM_CTL_MASK 0, 1), (R.RTC.ALM_SEC 0, 4)]).tapRing 0x28 0 0x4DD78000
  { s with rtc := { demo.rtc with stopped := false, shift := 0, count := 100000, almDue := [] } }

theorem demoStrayAlarm_domstat_key :
    (R.PWR.DOMSTAT (bankOf (demoStrayAlarm.descAddr 0))).key = (R.HDR.IRQ 0x28 0).key := by
  decide

/-- The flag is set when it triggers the channel. The fetch takes it for RETENTION and writes ON over it. -/
theorem demoStrayAlarm_flag :
    (State.run demoStrayAlarm (exec (.rtcSecond false) demoStrayAlarm)).get (R.HDR.IRQ 0x28 0) = 2 := by
  decide

/-- Refutes O43: the flag of an alarm may trigger a DMA channel, and nothing in the statement keeps the channel's RING_BASE to its 28 bits.
With a ring beyond them the flag does not read 1. -/
theorem not_alarmsAndCharger : ¬ Obligations.AlarmsAndCharger := by
  unfold Obligations.AlarmsAndCharger
  rintro ⟨hAlarm, -⟩
  obtain ⟨hflag, -⟩ := (hAlarm 0 demoStrayAlarm (by decide) (by decide) (by decide) (by decide) (by decide)).run
  exact absurd (hflag.symm.trans demoStrayAlarm_flag) (by decide)

/-! ### Flash and cipher -/

/-- An erase is outstanding. Its end (bit 0 of FLASH.IRQ_STAT) triggers the channel, whose ring lies at 0xA_E178_0000. -/
def demoStrayErase : State :=
  { demo.tapRing 0x58 0 0xAE178000 with flash := { demo.flash with erase := some ⟨0x01480000, false, 7, false, false, 8⟩ } }

theorem demoStrayErase_domstat_key :
    (R.PWR.DOMSTAT (bankOf (demoStrayErase.descAddr 0))).key = R.FLASH.STAT_BUSY.key := by
  decide

/-- BUSY is 0 before the flag is raised. The fetch takes it for OFF and writes ON over it. -/
theorem demoStrayErase_busy :
    (State.run demoStrayErase (exec (.flashEraseComplete ⟨0, none, 0⟩) demoStrayErase)).get R.FLASH.STAT_BUSY = 2 := by
  decide

/-- Refutes O45: the flag of an erase's end may trigger a DMA channel, and nothing in the statement keeps the channel's RING_BASE to its
28 bits. With a ring beyond them BUSY does not read 0. -/
theorem not_flashCalls : ¬ Obligations.FlashCalls := by
  unfold Obligations.FlashCalls
  rintro ⟨-, -, -, -, -, -, -, hErased, -⟩
  obtain ⟨-, -, hbusy, -⟩ := (hErased ⟨0x01480000, false, 7, false, false, 8⟩ 0 demoStrayErase (by decide) (by decide)).run
  exact absurd (hbusy.symm.trans demoStrayErase_busy) (by decide)

/-- A READ of the host is at the head of the store's queue. Its end (bit 0 of STORE.IRQ_STAT) triggers the channel, whose ring lies at
0xB_01F8_0000. -/
def demoStrayStore : State :=
  { demo.tapRing 0x59 0 0xB01F8000 with flash := { demo.flash with reqs := [⟨12, 1, false, 0x100, 16, 0x20180000, 0⟩] } }

theorem demoStrayStore_domstat_key :
    (R.PWR.DOMSTAT (bankOf (demoStrayStore.descAddr 0))).key = R.STORE.STAT_BUSY.key := by
  decide

/-- BUSY is 0 before the flag is raised. The fetch takes it for OFF and writes ON over it. -/
theorem demoStrayStore_busy :
    (State.run demoStrayStore (exec (.storeCommandComplete ⟨0, 1, none, 0⟩ ⟨0, none, 0⟩) demoStrayStore)).get R.STORE.STAT_BUSY = 2 := by
  decide

/-- Refutes O46: the flag of a request's end may trigger a DMA channel, and nothing in the statement keeps the channel's RING_BASE to its
28 bits. With a ring beyond them BUSY does not read 0. -/
theorem not_customerStore : ¬ Obligations.CustomerStore := by
  unfold Obligations.CustomerStore
  rintro ⟨-, -, -, -, -, -, -, -, -, hRead, -⟩
  obtain ⟨-, -, hbusy, -⟩ := (hRead ⟨12, 1, false, 0x100, 16, 0x20180000, 0⟩ [] ⟨0, 1, none, 0⟩ ⟨0, none, 0⟩ demoStrayStore rfl (by decide)
    (by decide)).run
  exact absurd (hbusy.symm.trans demoStrayStore_busy) (by decide)

/-- An AES operation of the host is at the head of the queue. Its end (bit 0 of CIPHER.IRQ_STAT) triggers the channel, whose ring lies at
0x9_E5F8_0000. -/
def demoStrayAes : State :=
  { demo.tapRing 0x50 0 0x9E5F8000 with
    garnet := { demo.garnet with slots := [⟨2, 12, false, zeros 16⟩], aes := [⟨12, 2, false, zeros 16, 0, 0⟩] } }

theorem demoStrayAes_domstat_key :
    (R.PWR.DOMSTAT (bankOf (demoStrayAes.descAddr 0))).key = R.CIPHER.STAT_BUSY.key := by
  decide

/-- BUSY is 0 before the flag is raised. The fetch takes it for OFF and writes ON over it. -/
theorem demoStrayAes_busy :
    (State.run demoStrayAes (exec .aesComplete demoStrayAes)).get R.CIPHER.STAT_BUSY = 2 := by
  decide +kernel

/-- Refutes O47: the flag of an operation's end may trigger a DMA channel, and nothing in the statement keeps the channel's RING_BASE to its
28 bits. With a ring beyond them BUSY does not read 0. -/
theorem not_cipherHashAndRandom : ¬ Obligations.CipherHashAndRandom := by
  unfold Obligations.CipherHashAndRandom
  rintro ⟨-, -, -, -, -, hAes, -⟩
  obtain ⟨-, hbusy, -⟩ := (hAes ⟨12, 2, false, zeros 16, 0, 0⟩ [] ⟨2, 12, false, zeros 16⟩ 0 demoStrayAes (by decide) (by decide)).run
  exact absurd (hbusy.symm.trans demoStrayAes_busy) (by decide)

end Sys2Proof.Machine
end

/-! # The timers -/

section
namespace Sys2Proof.Machine

open Sys2Proof

/-- Timer 0 runs and stands before its compare 0. MATCH (bit 0 of TIM0.IRQ_STAT) triggers DMA channel 0, whose ring lies at 0x4_6578_0000. -/
def demoStrayMatch : State :=
  { (demo.setAll [(R.TIM.STAT_RUN 0, 1), (R.TIM.CFG_CMPEN 0, 1), (R.TIM.CMP_VALUE 0 0, 100)]).tapRing 0x24 0 0x46578000 with
    fabric := { demo.fabric with cmps := [(0, .ahead)] } }

theorem demoStrayMatch_domstat_key :
    (R.PWR.DOMSTAT (bankOf (demoStrayMatch.descAddr 0))).key = (R.TIM.STAT_MATCH 0).key := by
  decide

/-- MATCH shows compare 0 before the flag is raised. The fetch takes it for RETENTION and writes ON over it. -/
theorem demoStrayMatch_match :
    (State.run demoStrayMatch (exec (.compareMatch 0 100) demoStrayMatch)).get (R.TIM.STAT_MATCH 0) = 2 := by
  decide +kernel

/-- Refutes O41: the flag of a match may trigger a DMA channel, and nothing in the statement keeps the channel's RING_BASE to its 28 bits.
With a ring beyond them STAT shows a match of compare 1 in place of compare 0. -/
theorem not_timers : ¬ Obligations.Timers := by
  unfold Obligations.Timers
  rintro ⟨-, -, -, -, -, -, -, hMatch, -⟩
  obtain ⟨-, hmatch, -⟩ := (hMatch 0 0 100 demoStrayMatch (by decide) (by decide) (by decide) (by decide)).run
  exact absurd (hmatch.symm.trans demoStrayMatch_match) (by decide)

end Sys2Proof.Machine
end

/-! # The recorder, the lamp and the tag: clauses that a stray fetch of the DMA refutes -/

section
namespace Sys2Proof.Machine

open Sys2Proof

/-! ### The recorder -/

/-- The record that a READ finds. -/
def demoStrataRec : StrataRec := ⟨5, 0xC0, 1, 0, 0, 12, zeros 8, 0, none⟩

/-- A recorder with one open record and room for it at BUF. The end of a READ (bit 2 of STRATA.IRQ_STAT) triggers DMA channel 0, whose ring
lies at 0xB_65C8_0000. -/
def demoStrayRead : State :=
  { (demo.setAll [(R.STRATA.BUF_ADDR, 0x20180000), (R.STRATA.RLEN_BYTES, 512)]).tapRing 0x5C 2 0xB65C8000 with
    strata := { demo.strata with opened := some demoStrataRec, records := [] } }

theorem demoStrayRead_domstat_key :
    (R.PWR.DOMSTAT (bankOf (demoStrayRead.descAddr 0))).key = R.STRATA.RRES_RECORDS.key := by
  decide

/-- The READ shows its one record before it raises its flag. The fetch takes the count for RETENTION and writes ON over it. -/
theorem demoStrayRead_records :
    (State.run demoStrayRead (exec (.strataRead 0) demoStrayRead)).get R.STRATA.RRES_RECORDS = 2 := by
  decide +kernel

/-- Refutes O50: the flag of a READ may trigger a DMA channel, and nothing in the statement keeps the channel's RING_BASE to its 28 bits.
With a ring beyond them a READ of one record shows two. -/
theorem not_strataRecorder : ¬ Obligations.StrataRecorder := by
  unfold Obligations.StrataRecorder
  rintro ⟨-, -, -, -, -, -, hRead, -⟩
  obtain ⟨-, hrecords, -⟩ := (hRead 0 [demoStrataRec] demoStrayRead (by decide) (by decide) (by decide)).run
  exact absurd (hrecords.symm.trans demoStrayRead_records) (by decide)

/-! ### The lamp -/

/-- A DALI frame on the bus for the fourth time. Its result (bit 0 of DALI.IRQ_STAT) triggers DMA channel 0, whose ring lies at
0xB_E5F8_0000. -/
def demoStrayCollision : State :=
  { demo.tapRing 0x60 0 0xBE5F8000 with lamp := { demo.lamp with cur := some ({ demoDali with tries := 3 }, 1) } }

theorem demoStrayCollision_domstat_key :
    (R.PWR.DOMSTAT (bankOf (demoStrayCollision.descAddr 0))).key = R.DALI.CNT_COLL.key := by
  decide

/-- The collision is counted before the result raises its flag. The fetch takes the count of 1 for RETENTION and writes ON over it. -/
theorem demoStrayCollision_counts :
    demoStrayCollision.get R.DALI.CNT_COLL = 0 ∧
      (State.run demoStrayCollision (exec .daliCollision demoStrayCollision)).get R.DALI.CNT_COLL = 2 := by
  decide

/-- Refutes O51: the flag of a result may trigger a DMA channel, and nothing in the statement keeps the channel's RING_BASE to its 28 bits.
With a ring beyond them one collision counts as two. -/
theorem not_daliFrames : ¬ Obligations.DaliFrames := by
  unfold Obligations.DaliFrames
  rintro ⟨-, -, -, hCollision, -⟩
  obtain ⟨-, -, hcounted⟩ := (hCollision { demoDali with tries := 3 } demoStrayCollision (by decide) (by decide)).run
  obtain ⟨hbefore, hafter⟩ := demoStrayCollision_counts
  rw [Counted, hbefore, hafter] at hcounted
  exact absurd hcounted (by decide)

/-- Input 2 reports rising edges. Its flag (bit 2 of DIN.IRQ_STAT) triggers DMA channel 0, whose ring lies at 0xC_44B8_0000. -/
def demoStrayInput : State :=
  (demo.setAll [(R.DIN.CFG_CHAT_N 2, 8), (R.DIN.CFG_POL 2, 1), (R.DIN.CFG_EDGE 2, 1)]).tapRing 0x63 2 0xC44B8000

theorem demoStrayInput_domstat_key :
    (R.PWR.DOMSTAT (bankOf (demoStrayInput.descAddr 0))).key = (R.DIN.CNT_TRANS 2).key := by
  decide

/-- The change is counted before the flag is raised. The fetch takes the count of 1 for RETENTION and writes ON over it. -/
theorem demoStrayInput_counts :
    demoStrayInput.get (R.DIN.CNT_TRANS 2) = 0 ∧
      (State.run demoStrayInput (exec (.dinFilteredChange 2 true 1) demoStrayInput)).get (R.DIN.CNT_TRANS 2) = 2 := by
  decide

/-- Refutes O53: the flag of an input may trigger a DMA channel, and nothing in the statement keeps the channel's RING_BASE to its 28 bits.
With a ring beyond them one change counts as two. -/
theorem not_meteringAndInputs : ¬ Obligations.MeteringAndInputs := by
  unfold Obligations.MeteringAndInputs
  rintro ⟨-, -, -, -, -, -, -, -, -, -, -, hChange, -⟩
  obtain ⟨-, (hcounted : Counted _ _ (R.DIN.CNT_TRANS 2)), -⟩ := (hChange 2 true 1 demoStrayInput (by decide) (by decide) (by decide)).run
  obtain ⟨hbefore, hafter⟩ := demoStrayInput_counts
  rw [Counted, hbefore, hafter] at hcounted
  exact absurd hcounted (by decide)

/-! ### The tag and the reader -/

/-- A tag without a field. The start of a session (bit 0 of NFCTAG.IRQ_STAT) triggers DMA channel 0, whose ring lies at 0xD_0080_0000. -/
def demoStrayField : State := { demo.tapRing 0x69 0 0xD0080000 with nfc := { demo.nfc with checked := true } }

theorem demoStrayField_domstat_key :
    (R.PWR.DOMSTAT (bankOf (demoStrayField.descAddr 0))).key = R.NFCTAG.STAT_SESSION.key := by
  decide

/-- SESSION is 1 before the flag is raised. The fetch takes it for RETENTION and writes ON over it. -/
theorem demoStrayField_session :
    (State.run demoStrayField (exec .tagFieldOn demoStrayField)).get R.NFCTAG.STAT_SESSION = 2 := by
  decide

/-- Refutes O54: the flag of a session may trigger a DMA channel, and nothing in the statement keeps the channel's RING_BASE to its 28 bits.
With a ring beyond them SESSION does not read 1 when the field comes on. -/
theorem not_contactlessTag : ¬ Obligations.ContactlessTag := by
  unfold Obligations.ContactlessTag
  rintro ⟨-, hField, -⟩
  obtain ⟨hsession, -⟩ := (hField demoStrayField (by decide) (by decide)).run
  exact absurd (hsession.symm.trans demoStrayField_session) (by decide)

/-- A reader whose field is off. EXT_FIELD (bit 2 of NFCRD.IRQ_STAT) triggers DMA channel 0, whose ring lies at 0xC_E458_0000. -/
def demoStrayReader : State := demo.tapRing 0x68 2 0xCE458000

theorem demoStrayReader_domstat_key :
    (R.PWR.DOMSTAT (bankOf (demoStrayReader.descAddr 0))).key = R.NFCRD.CNT_EXTF.key := by
  decide

/-- The refusal is counted before the flag is raised. The fetch takes the count of 1 for RETENTION and writes ON over it. -/
theorem demoStrayReader_counts :
    demoStrayReader.get R.NFCRD.CNT_EXTF = 0 ∧
      (State.run demoStrayReader (exec (.readerFieldOn 0 true) demoStrayReader)).get R.NFCRD.CNT_EXTF = 2 := by
  decide

/-- Refutes O55: the flag of an external field may trigger a DMA channel, and nothing in the statement keeps the channel's RING_BASE to its
28 bits. With a ring beyond them one refusal counts as two. -/
theorem not_readerAndProximity : ¬ Obligations.ReaderAndProximity := by
  unfold Obligations.ReaderAndProximity
  rintro ⟨-, -, -, -, -, -, -, -, -, -, -, hField, -⟩
  obtain ⟨-, -, -, -, hcounted⟩ := (hField 0 demoStrayReader (by decide) (by decide) (by decide)).run
  obtain ⟨hbefore, hafter⟩ := demoStrayReader_counts
  rw [Counted, hbefore, hafter] at hcounted
  exact absurd hcounted (by decide)

end Sys2Proof.Machine
end
